-- ==== Sys2Proof/Word.lean ====
section
/-! DEFINITION. The word types of the NMD-960. Every register is a 32-bit word (R5); memory is addressed by bytes (R33). -/

namespace Sys2Proof

/-- A 32-bit register or memory word. -/
abbrev Word := BitVec 32

/-- One byte of memory. -/
abbrev Byte := BitVec 8

end Sys2Proof
end

