-- ==== Sys2Proof/Syntax.lean ====
section
/-! DEFINITION. The commands of the NMD-960: one constructor per row of spec/opcode_table.json, in its order. Numbers of
channels, groups, pairs and the like are bounded by their type; a time stamp is in delay-line taps of device time, 16 per core
cycle (R192). The table gives the rows no operands and no bits: the operands are what the rule of each row needs to be told
from outside (log entry 4). -/

namespace Sys2Proof

/-- A delay register of R202 and R270: DT or BOOT of a gate group, or an ASC delay register. -/
inductive DelayReg where
  | dt (g : Fin 16)
  | boot (g : Fin 16)
  | asc (k : Fin 2)
  deriving DecidableEq, Repr

/-- A shadow register of R203: PER, CMP0 to CMP8, or the pattern selection. -/
inductive ShadowReg where
  | per
  | cmp (c : Fin 9)
  | psel
  deriving DecidableEq, Repr

/-- A frame of the line bus (R423, R430): the identifier (a base identifier in bits [28:18]), XTD, FDF, BRS, ESI, whether it is a
remote frame, DLC and the data bytes. -/
structure LbFrame where
  id : BitVec 29
  xtd : Bool
  fdf : Bool
  brs : Bool
  esi : Bool
  remote : Bool
  dlc : BitVec 4
  data : List Byte
  deriving DecidableEq, Repr

/-- How a transmission fails (R427, R448, R450): arbitration lost, to a reference of higher priority or to another frame; a bit error, with
whether the node sent recessive and read dominant and whether it lay in the control, data or CRC field; form, acknowledgement and
stuff errors; the window's end; bus-off. -/
inductive LbFail where
  | arbLost (toReference : Bool)
  | bitErr (recessive inField : Bool)
  | formErr
  | ackErr
  | stuffErr
  | winEnd
  | busOff
  deriving DecidableEq, Repr

/-- An error in a received frame, coded as LBn_ERR.LAST codes it (R454). -/
inductive LbRxErr where
  | stuff | form | bit1 | bit0 | crc
  deriving DecidableEq, Repr


/-- What the ECC of local memory found at the accesses of an instruction, a copy or a fetch (R134): nothing, errors that it corrected, by their
number in the lead's and in the checker's memory, or one that it could not. -/
inductive Ecc where
  | ok | corrected (lead chk : Nat) | uncorrectable
  deriving DecidableEq, Repr

/-- One of `n` cores, pairs or descriptors, with what the ECC of local memory found at its accesses (R134). -/
structure EccOf (n : Nat) where
  on : Fin n
  ecc : Ecc
  deriving DecidableEq, Repr

/-- What is told to a generator: nothing but that an event on its way reaches it, or a MAINS_REF crossing, rising or falling, at a tap (R50). -/
structure GenTold where
  gen : Fin 8
  ref : Option (Bool × Nat)
  deriving DecidableEq, Repr

/-- A command, named as spec/opcode_table.json names its row. -/
inductive Instr where
  /-- REGISTER_WRITE (R6): An agent or debug-port write to a register that has no row of its own takes effect according to its access code and any field guards -/
  | registerWrite (addr value : Word) (width : Nat) (port : Bool)
  /-- UNMAPPED_ACCESS (R34): An agent access to an unlisted address reads 0 or has no effect, and the first such access since the last clear sets UNMAPPED and records the address -/
  | unmappedAccess (addr : Word) (isWrite : Bool)
  /-- REQUEST_CONFIG (R23): A SYS_STATE_REQ write with target CONFIG is checked against the state table and carried out or refused -/
  | requestConfig (key : BitVec 16)
  /-- REQUEST_STANDBY (R23): A SYS_STATE_REQ write with target STANDBY is checked against lock, Anvil state and Quench sources, and carried out or refused -/
  | requestStandby (key : BitVec 16)
  /-- REQUEST_ARMED (R23): A SYS_STATE_REQ write with target ARMED is checked against SV_ENABLED, LOCKSTEP_BROKEN and axis states, and carried out or refused -/
  | requestArmed (key : BitVec 16)
  /-- REQUEST_RUN (R23): A SYS_STATE_REQ write with target RUN is checked against LOCKSTEP_BROKEN, and carried out or refused -/
  | requestRun (key : BitVec 16)
  /-- REQUEST_SAFE (R23): A SYS_STATE_REQ write with target SAFE takes the device to SAFE from CONFIG, STANDBY, ARMED or RUN -/
  | requestSafe (key : BitVec 16)
  /-- REQUEST_DEBUG (R23): A SYS_STATE_REQ write with target DEBUG enters DEBUG from STANDBY, ARMED or RUN while ST_DBG is high -/
  | requestDebug (key : BitVec 16)
  /-- AX_STATE_WRITE (R28): A write to SYS_AX_STATE judges each changed axis field and applies the allowed axis writes -/
  | axStateWrite (value : Word)
  /-- FAULT_CODE_CLEAR (R32): A write of 1 to SYS_FAULT_CLR.CLR sets FIRST and LAST to 0x0000, before faults recorded in the same cycle -/
  | faultCodeClear
  /-- TIME_LO_READ (R20): A read of SYS_TIME_LO returns the lower half of device time and captures the upper half into SYS_TIME_HI -/
  | timeLoRead
  /-- ENGINE_MEMORY_WRITE (R35): An agent write into an engine local-memory window updates both copies, or is refused while the pair runs a task -/
  | engineMemoryWrite (p : Fin 24) (offset : BitVec 16) (value : Word)
  /-- GPIO_SET (R37): A write to SYS_GPIO_SET sets the named OUT bits of pins that are not owned -/
  | gpioSet (mask : Word)
  /-- GPIO_CLR (R37): A write to SYS_GPIO_CLR clears the named OUT bits of pins that are not owned -/
  | gpioClr (mask : Word)
  /-- GPIO_INPUT_EDGE (R39): A change of a synchronised GPIO level sets RISE or FALL in the next peripheral cycle -/
  | gpioInputEdge (pin : Fin 32) (level : Bool)
  /-- CLOCK_MONITOR_WINDOW (R21): A 10 µs clock-monitor window ends, and its count is judged against the expected range -/
  | clockMonitorWindow (anvilMonitor : Bool) (count : Nat) (pllLocked : Bool)
  /-- DMA_REQUEST (R42): A block request reaches a DMA channel and is accepted, or is dropped with OVR set -/
  | dmaRequest
  /-- DMA_SOFTWARE_REQUEST (R40): A write of 1 to DMA_CHc_SWREQ.REQ raises request 63 for a channel enabled with REQ 63 -/
  | dmaSoftwareRequest (c : Fin 16)
  /-- DMA_CHANNEL_CTL_WRITE (R43): A write to DMA_CHc_CTL is checked for EN, request code and buffer placement, and applied or ignored with WR_IGN -/
  | dmaChannelCtlWrite (c : Fin 16) (value : Word)
  /-- DMA_BURST_START (R42): With no burst running, the lowest-numbered channel holding an accepted request starts its burst -/
  | dmaBurstStart
  /-- DMA_BURST_END (R41): The last word of a burst is written; BUSY clears and DONE and the circular or stop handling follow when the buffer fills -/
  | dmaBurstEnd (cyc : Nat)
  /-- INTERRUPT_TAKEN (R143): Kenow takes the lowest enabled high interrupt line at an instruction boundary and continues at its vector -/
  | interruptTaken
  /-- ILLEGAL_INSTRUCTION (R142): An illegal encoding, a misaligned JR or a fetch beyond local memory stops the engine instance, or traps on Kenow -/
  | illegalInstruction (p : EccOf 25)
  /-- ADD (R138): Integer addition of two registers, modulo 2^32 -/
  | add (p : Fin 25) (d a b : BitVec 5)
  /-- SUB (R138): Integer subtraction of two registers, modulo 2^32 -/
  | sub (p : Fin 25) (d a b : BitVec 5)
  /-- AND (R138): Bitwise AND of two registers -/
  | and (p : Fin 25) (d a b : BitVec 5)
  /-- OR (R138): Bitwise OR of two registers -/
  | or (p : Fin 25) (d a b : BitVec 5)
  /-- XOR (R138): Bitwise XOR of two registers -/
  | xor (p : Fin 25) (d a b : BitVec 5)
  /-- SHL (R138): Left shift of a register by the low five bits of another -/
  | shl (p : Fin 25) (d a b : BitVec 5)
  /-- SHR (R138): Logical right shift of a register by the low five bits of another -/
  | shr (p : Fin 25) (d a b : BitVec 5)
  /-- SRA (R138): Arithmetic right shift of a register by the low five bits of another -/
  | sra (p : Fin 25) (d a b : BitVec 5)
  /-- SLT (R138): Signed less-than comparison of two registers, giving 1 or 0 -/
  | slt (p : Fin 25) (d a b : BitVec 5)
  /-- SLTU (R138): Unsigned less-than comparison of two registers, giving 1 or 0 -/
  | sltu (p : Fin 25) (d a b : BitVec 5)
  /-- MIN (R138): Signed minimum of two registers -/
  | min (p : Fin 25) (d a b : BitVec 5)
  /-- MAX (R138): Signed maximum of two registers -/
  | max (p : Fin 25) (d a b : BitVec 5)
  /-- MUL (R138): Low 32 bits of the product of two registers -/
  | mul (p : Fin 25) (d a b : BitVec 5)
  /-- ADDI (R138): Addition of a sign-extended immediate to a register -/
  | addi (p : Fin 25) (d a : BitVec 5) (v : BitVec 16)
  /-- ANDI (R138): Bitwise AND of a register with a zero-extended immediate -/
  | andi (p : Fin 25) (d a : BitVec 5) (v : BitVec 16)
  /-- ORI (R138): Bitwise OR of a register with a zero-extended immediate -/
  | ori (p : Fin 25) (d a : BitVec 5) (v : BitVec 16)
  /-- XORI (R138): Bitwise XOR of a register with a zero-extended immediate -/
  | xori (p : Fin 25) (d a : BitVec 5) (v : BitVec 16)
  /-- SHLI (R138): Left shift of a register by an immediate amount -/
  | shli (p : Fin 25) (d a sh : BitVec 5)
  /-- SHRI (R138): Logical right shift of a register by an immediate amount -/
  | shri (p : Fin 25) (d a sh : BitVec 5)
  /-- SRAI (R138): Arithmetic right shift of a register by an immediate amount -/
  | srai (p : Fin 25) (d a sh : BitVec 5)
  /-- SLTI (R138): Signed comparison of a register with an immediate, giving 1 or 0 -/
  | slti (p : Fin 25) (d a : BitVec 5) (v : BitVec 16)
  /-- LUI (R138): Loads an immediate into the upper half of a register -/
  | lui (p : Fin 25) (d : BitVec 5) (v : BitVec 16)
  /-- LW (R138): Loads a word from memory, the input window or a peripheral into a register -/
  | lw (p : Fin 25) (d a : BitVec 5) (v : BitVec 16) (lat : Fin 35) (ecc : Ecc)
  /-- LH (R138): Loads a sign-extended halfword -/
  | lh (p : Fin 25) (d a : BitVec 5) (v : BitVec 16) (lat : Fin 35) (ecc : Ecc)
  /-- LHU (R138): Loads a zero-extended halfword -/
  | lhu (p : Fin 25) (d a : BitVec 5) (v : BitVec 16) (lat : Fin 35) (ecc : Ecc)
  /-- LB (R138): Loads a sign-extended byte -/
  | lb (p : Fin 25) (d a : BitVec 5) (v : BitVec 16) (lat : Fin 35) (ecc : Ecc)
  /-- LBU (R138): Loads a zero-extended byte -/
  | lbu (p : Fin 25) (d a : BitVec 5) (v : BitVec 16) (lat : Fin 35) (ecc : Ecc)
  /-- SW (R138): Stores a word, including commit-slot and END writes on engine cores -/
  | sw (p : EccOf 25) (b a : BitVec 5) (v : BitVec 16)
  /-- SH (R138): Stores the low halfword of a register -/
  | sh (p : EccOf 25) (b a : BitVec 5) (v : BitVec 16)
  /-- SB (R138): Stores the low byte of a register -/
  | sb (p : EccOf 25) (b a : BitVec 5) (v : BitVec 16)
  /-- FLW (R138): Loads a word into an FP32 register without changing its bits -/
  | flw (p : Fin 25) (d a : BitVec 5) (v : BitVec 16) (lat : Fin 35) (ecc : Ecc)
  /-- FSW (R138): Stores an FP32 register as a word without changing its bits -/
  | fsw (p : EccOf 25) (b a : BitVec 5) (v : BitVec 16)
  /-- BEQ (R138): Branches if two registers are equal -/
  | beq (p : Fin 25) (b a : BitVec 5) (ofs : BitVec 16)
  /-- BNE (R138): Branches if two registers differ -/
  | bne (p : Fin 25) (b a : BitVec 5) (ofs : BitVec 16)
  /-- BLT (R138): Branches on signed less-than -/
  | blt (p : Fin 25) (b a : BitVec 5) (ofs : BitVec 16)
  /-- BGE (R138): Branches on signed greater-or-equal -/
  | bge (p : Fin 25) (b a : BitVec 5) (ofs : BitVec 16)
  /-- BLTU (R138): Branches on unsigned less-than -/
  | bltu (p : Fin 25) (b a : BitVec 5) (ofs : BitVec 16)
  /-- BGEU (R138): Branches on unsigned greater-or-equal -/
  | bgeu (p : Fin 25) (b a : BitVec 5) (ofs : BitVec 16)
  /-- J (R138): Jumps to a PC-relative target -/
  | j (p : Fin 25) (ofs : BitVec 26)
  /-- JAL (R138): Jumps to a PC-relative target and writes the return address to x31 -/
  | jal (p : Fin 25) (ofs : BitVec 26)
  /-- JR (R138): Jumps to a register address, optionally linking -/
  | jr (p : Fin 25) (d a : BitVec 5)
  /-- FADD (R140): FP32 addition under IEEE 754 rounding and flags -/
  | fadd (p : Fin 25) (d a b : BitVec 5)
  /-- FSUB (R140): FP32 subtraction -/
  | fsub (p : Fin 25) (d a b : BitVec 5)
  /-- FMUL (R140): FP32 multiplication -/
  | fmul (p : Fin 25) (d a b : BitVec 5)
  /-- FMAC (R138): FP32 fused multiply-accumulate into fD -/
  | fmac (p : Fin 25) (d a b : BitVec 5)
  /-- DMAC (R138): Dual FP32 multiply-accumulate on two even register pairs -/
  | dmac (p : Fin 25) (d a b : BitVec 5)
  /-- FDIV (R140): FP32 division -/
  | fdiv (p : Fin 25) (d a b : BitVec 5)
  /-- FSQRT (R140): FP32 square root -/
  | fsqrt (p : Fin 25) (d a : BitVec 5)
  /-- FMIN (R140): FP32 minimum with the NaN and signed-zero rules -/
  | fmin (p : Fin 25) (d a b : BitVec 5)
  /-- FMAX (R140): FP32 maximum with the NaN and signed-zero rules -/
  | fmax (p : Fin 25) (d a b : BitVec 5)
  /-- FABS (R140): Clears the sign bit of an FP32 value -/
  | fabs (p : Fin 25) (d a : BitVec 5)
  /-- FNEG (R140): Inverts the sign bit of an FP32 value -/
  | fneg (p : Fin 25) (d a : BitVec 5)
  /-- FEQ (R140): Quiet FP32 equality comparison into an integer register -/
  | feq (p : Fin 25) (d a b : BitVec 5)
  /-- FLT (R140): Signalling FP32 less-than comparison into an integer register -/
  | flt (p : Fin 25) (d a b : BitVec 5)
  /-- FLE (R140): Signalling FP32 less-or-equal comparison into an integer register -/
  | fle (p : Fin 25) (d a b : BitVec 5)
  /-- FCVTWS (R138): Converts FP32 to a saturated signed integer, ties to even -/
  | fcvtws (p : Fin 25) (d a : BitVec 5)
  /-- FCVTSW (R138): Converts a signed integer to FP32 -/
  | fcvtsw (p : Fin 25) (d a : BitVec 5)
  /-- FMVXS (R138): Moves the bits of an FP32 register to an integer register -/
  | fmvxs (p : Fin 25) (d a : BitVec 5)
  /-- FMVSX (R138): Moves the bits of an integer register to an FP32 register -/
  | fmvsx (p : Fin 25) (d a : BitVec 5)
  /-- PILUT (R177): Runs one gain-scheduled PI step on a loop record in 40 core cycles -/
  | pilut (p : Fin 24) (d a b c e : BitVec 5) (ecc : Ecc)
  /-- PILINIT (R170): Resets the state words of a loop record and sets its integrator and output -/
  | pilinit (p : EccOf 24) (a b : BitVec 5)
  /-- TLU (R170): Interpolates a 256-entry FP32 table at a clamped argument -/
  | tlu (p : Fin 24) (d a b : BitVec 5) (ecc : Ecc)
  /-- SINCOS (R170): Computes sine and cosine of an angle in au -/
  | sincos (p : Fin 24) (d a c : BitVec 5)
  /-- CSRR (R141): Reads a control register into an integer register -/
  | csrr (p : Fin 25) (d : BitVec 5) (n : BitVec 12)
  /-- CSRW (R141): Writes an integer register into a writable control register -/
  | csrw (p : Fin 25) (a : BitVec 5) (n : BitVec 12)
  /-- NOP (R138): Does nothing for one issue cycle -/
  | nop (p : Fin 25)
  /-- WFI (R143): Stalls Kenow until an enabled interrupt line is high -/
  | wfi
  /-- IRET (R143): Returns Kenow to EPC and sets IEN -/
  | iret
  /-- TICK (R144): A tick generator reaches its phase and releases its tasks -/
  | tick (k : Fin 8)
  /-- TASK_RELEASE (R146): A release event reaches a task, which is accepted with its snapshot into the home deque, or dropped -/
  | taskRelease (d : Fin 512)
  /-- SOFTWARE_RELEASE (R144): A write to LOOP_SWREL releases a descriptor whose REL is 6 -/
  | softwareRelease (d : Fin 512)
  /-- INSTANCE_START (R148): A free pair takes the instance at its deque head and begins its context copy or its execution -/
  | instanceStart (p : Fin 24)
  /-- CONTEXT_COPY_DONE (R148): The context copy ends and the instance starts executing at ENTRY -/
  | contextCopyDone (p : EccOf 24)
  /-- WRITE_BACK_DONE (R149): The context write-back ends, so the instance is complete and gives its pair a slack sample -/
  | writeBackDone (d : EccOf 512)
  /-- BUDGET_OVERRUN (R149): An instance executes beyond BUD without END and records 0x4001 -/
  | budgetOverrun (p : Fin 24)
  /-- STEAL_REQUEST (R150): An idle ACTIVE pair requests work and is granted the qualifying instance from the least-slack deque -/
  | stealRequest (p : Fin 24)
  /-- COMMIT_CYCLE (R152): At a task's commit cycle a complete instance commits its context and outputs, or the instance misses -/
  | commitCycle (d : Fin 512)
  /-- RETIREMENT_COMPLETE (R158): The descriptor scan ends, queued work enters the new homes, the target spare is taken and the Anvil is notified -/
  | retirementComplete (p : Fin 24)
  /-- PAIR_ENABLE (R167): LOOP_PAIR_CMD ENABLE takes an OFF pair to ACTIVE -/
  | pairEnable (pair : Fin 32) (key : BitVec 16)
  /-- DRAIN (R161): LOOP_PAIR_CMD DRAIN moves an ACTIVE or SLOW pair to DRAINING and moves its tasks -/
  | drain (pair : Fin 32) (key : BitVec 16)
  /-- RETIRE (R158): LOOP_PAIR_CMD RETIRE retires a pair -/
  | retire (pair : Fin 32) (key : BitVec 16)
  /-- UNSLOW (R157): LOOP_PAIR_CMD UNSLOW returns a SLOW pair to ACTIVE with LOW_RUN 0 -/
  | unslow (pair : Fin 32) (key : BitVec 16)
  /-- DRAIN_COMPLETE (R161): A draining pair that runs nothing, queues nothing and homes no task becomes RETIRED -/
  | drainComplete (p : Fin 24)
  /-- TASK_CTL_WRITE (R167): A write to LOOP_Dd_CTL is checked for enabled fields and the enable conditions -/
  | taskCtlWrite (d : Fin 512) (value : Word)
  /-- GENERATOR_EVENT (R54): A source event is latched with its stamp, the speed is measured and the correction is applied -/
  | generatorEvent (e : GenTold)
  /-- STANDSTILL_TIMEOUT (R56): STILL_TMO expires on a counted source; the speed becomes 0 and STILL is set -/
  | standstillTimeout (n : Fin 8)
  /-- HOLDOVER_ENTRY (R58): HOLD_TMO expires on a sampled source and the generator enters holdover -/
  | holdoverEntry (n : Fin 8)
  /-- MAINS_LOST (R58): No mains crossing arrives within 1.5 expected half periods; the generator enters holdover and sets MAINS_LOST -/
  | mainsLost (n : Fin 8)
  /-- RAMP_SPEED_STEP (R65): Every 1,024 core cycles an internal-ramp generator moves its speed towards RAMP_TGT -/
  | rampSpeedStep (n : Fin 8)
  /-- GENERATOR_CTL_WRITE (R77): A write to MAN_AGn_CTL enables or disables a generator, with its scale fields guarded -/
  | generatorCtlWrite (n : Fin 8) (value : Word)
  /-- GEAR_NUM_WRITE (R63): A GEAR_NUM write on an enabled generator rebases the geared output in the next core cycle without a step -/
  | gearNumWrite (n : Fin 8) (value : Word)
  /-- EOFS_WRITE (R64): A changed EOFS makes an offset step of the electrical angle, handled as a jump -/
  | eofsWrite (n : Fin 8) (value : Word)
  /-- ELEC_READ (R76): A read of MAN_AGn_ELEC captures the snapshot of MECH, SPEED, TURNS and TSNAP -/
  | elecRead (n : Fin 8)
  /-- LATCH_POS_READ (R76): A read of MAN_AGn_LATCH_POS captures LATCH_T of the same event -/
  | latchPosRead (n : Fin 8)
  /-- MARK_CROSSING (R68): An angle crosses an armed mark, which fires, stores its crossing time and delivers its event to consumers -/
  | markCrossing (m : Fin 64) (cyc : Nat)
  /-- MARK_CTL_WRITE (R69): A write to MAN_AMm_CTL that enables a mark or changes AG, DOMAIN or DIR starts it disarmed -/
  | markCtlWrite (m : Fin 64) (value : Word)
  /-- MARK_ANGLE_WRITE (R69): A write that changes MAN_AMm_ANGLE of an enabled mark disarms it -/
  | markAngleWrite (m : Fin 64) (value : Word)
  /-- QUADRATURE_COUNT (R84): The A or B filter accepts a level change and the count moves by one -/
  | quadratureCount (n : Fin 8) (a b : List (Bool × Nat)) (cyc : Nat)
  /-- INDEX_EVENT (R89): An index event compares the count with IDX_CNT and corrects it or records a mismatch -/
  | indexEvent (n : Fin 8) (edges : List (Bool × Nat)) (cyc : Nat)
  /-- HALL_CHANGE (R91): A filtered Hall state change counts a sector, takes a skip correction, or fails on an invalid state -/
  | hallChange (n : Fin 8) (edges : List (Fin 3 × Bool × Nat)) (cyc : Nat)
  /-- LINE_LOSS (R92): A receiver input stays below 200 mV for 2.0 µs; LOS is set and the channel fails -/
  | lineLoss (n : Fin 8) (line : Fin 3)
  /-- INDEX_ARM (R90): A write of ARM clears HOMED in the next core cycle -/
  | indexArm (n : Fin 8)
  /-- CAPTURE (R100): A capture trigger stores the count, TURNS and trigger time -/
  | capture (n : Fin 8)
  /-- CAPTURE_SWTRG (R101): A write of SWTRG in FBK_QEn_CAP_CTL raises a software capture trigger -/
  | captureSwtrg (n : Fin 8)
  /-- CLEAR_DOUBLE_STEPS (R86): FBK_QEn_CLR.DS sets DS_CNT to 0 -/
  | clearDoubleSteps (n : Fin 8)
  /-- CLEAR_INDEX_MISSES (R105): FBK_QEn_CLR.IDX sets IDX_MISS and RUN to 0 -/
  | clearIndexMisses (n : Fin 8)
  /-- QE_CTL_WRITE (R102): A write to FBK_QEn_CTL changes EN; writing 0 then 1 clears FAILED and the sticky bits -/
  | qeCtlWrite (n : Fin 8) (value : Word)
  /-- SSI_CTL_WRITE (R95): A write to FBK_SSIn_CTL enables a channel or ends a running burst -/
  | ssiCtlWrite (n : Fin 4) (value : Word)
  /-- SSI_SWTRG (R99): A write of SWTRG in FBK_SSIn_CTL raises a software burst trigger -/
  | ssiSwtrg (n : Fin 4)
  /-- SSI_BURST_START (R99): A trigger starts an SSI burst once the previous burst and pause are over, or is dropped -/
  | ssiBurstStart (n : Fin 4) (ready : Bool)
  /-- SSI_FRAME_COMPLETE (R97): A frame completes and is stored and passed to the Mandrel, or discarded -/
  | ssiFrameComplete (n : Fin 4) (raw : BitVec 48)
  /-- CONTINUOUS_WORD (R115): A continuous-mode channel ends a word at the end of every OSR-th modulator period -/
  | continuousWord (k : Fin 32) (n bits : Nat)
  /-- SAMPLING_WINDOW_EVENT (R116): A window event opens a window at the first modulator period at or after its time, or is ignored while one is open -/
  | samplingWindowEvent (k : Fin 32)
  /-- SOFTWARE_WINDOW (R118): A write to SDM_SWTRG opens the windows of the named channels -/
  | softwareWindow (mask : Word)
  /-- WINDOW_WORD_COMPLETE (R116): A window's word completes and is trimmed, checked and delivered -/
  | windowWordComplete (k : Fin 32) (bits : Nat)
  /-- STUCK (R113): A channel's data shows one level for 128 periods and is marked stuck -/
  | stuck (k : Fin 32)
  /-- SINC2_CHANGE (R124): A sinc2 update crosses a threshold or returns into the release band, asserting or releasing its Quench source -/
  | sinc2Change (k : Fin 32) (n bits : Nat)
  /-- COUNTER_CLEAR_PAIR (R128): SDM_CNT_CLR.PAIR clears XCNT and XRUN of the named pairs -/
  | counterClearPair (mask : BitVec 16)
  /-- COUNTER_CLEAR_GROUP (R128): SDM_CNT_CLR.GROUP clears SCNT and the SRUN counts of the named groups -/
  | counterClearGroup (mask : BitVec 4)
  /-- CHECK_PAIR_CTL_WRITE (R118): A write of SDM_CHKm_CTL.EN is refused with WR_IGN if the pair's clocks have different DIV -/
  | checkPairCtlWrite (m : Fin 16) (value : Word)
  /-- PERIOD_START (R192): A group counter wraps to 0, starting a period with its event, reload transfer and resumption from HOLD -/
  | periodStart (g : Fin 16) (c : Fin 9)
  /-- PERIOD_CENTRE (R194): A group counter reaches its centre, emitting the centre event and, with RLD_CTR, a reload -/
  | periodCentre (g : Fin 16)
  /-- COMMAND_EDGE (R193): A channel command rises or falls at its compare position in the carrier -/
  | commandEdge (g : Fin 16) (c : Fin 9) (t : Nat)
  /-- DEAD_TIME_EXPIRY (R201): A dead time ends and the incoming side turns on if the command still calls for it -/
  | deadTimeExpiry (g : Fin 16) (c : Fin 9)
  /-- BOOTSTRAP_REFRESH (R211): The refresh timer reaches T_BOOT and a refresh is inserted into the pair -/
  | bootstrapRefresh (g : Fin 16) (c : Fin 9)
  /-- ON_TIME_END (R195): In MODE 2 the on interval of a channel ends after TON -/
  | onTimeEnd (g : Fin 16) (c : Fin 4)
  /-- OFF_TIME_END (R196): In MODE 3 the off interval of a channel ends after TOFF and a period starts -/
  | offTimeEnd (g : Fin 16) (c : Fin 4)
  /-- ZERO_CURRENT_EVENT (R195): A zero-current comparator event after BLANK ends the off interval and schedules the next period -/
  | zeroCurrentEvent (g : Fin 16) (c : Fin 4)
  /-- PEAK_EVENT (R196): A peak comparator event ends the on interval of a variable-period channel -/
  | peakEvent (g : Fin 16) (c : Fin 4)
  /-- TMAX_TIMEOUT (R195): A comparator-ended interval reaches TMAX and is ended with ZTMO or PTMO -/
  | tmaxTimeout (g : Fin 16) (c : Fin 4)
  /-- LOADALL_ARM (R204): A write of LOADALL or a PWM_LOADALL bit arms the group for its next qualifying transfer event -/
  | loadallArm (g : Fin 16) (ctl : Option Bool)
  /-- SHADOW_WRITE (R206): A write to a shadow register is stored, or ignored with TORN_WR while an arm is pending -/
  | shadowWrite (g : Fin 16) (r : ShadowReg) (value : Word)
  /-- GROUP_START (R209): A PWM_START bit starts a group counter at PHASE and transfers a pending arm, or is refused -/
  | groupStart (mask : BitVec 16)
  /-- GROUP_STOP (R209): A PWM_STOP bit stops a group counter and holds its outputs off -/
  | groupStop (mask : BitVec 16)
  /-- DELAY_REGISTER_WRITE (R202): A write to DT, BOOT or an ASC delay register opens its delay pair and holds the outputs inactive -/
  | delayRegisterWrite (r : DelayReg) (value : Word)
  /-- COMPLEMENT_WRITE (R202): A write to a complement register closes its pair and compares the fields -/
  | complementWrite (r : DelayReg) (value : Word)
  /-- PATTERN_CHECK_START (R223): A write of VALID = 1 to a pattern's word 0 starts its check -/
  | patternCheckStart (k : Fin 64) (value : Word)
  /-- PATTERN_CHECK_DONE (R223): A pattern check ends, marking the pattern valid or recording the failed rule -/
  | patternCheckDone
  /-- PATTERN_ENTRY_WRITE (R224): A write to a pattern's word 0 or angle entry is refused if in use, or invalidates the pattern or cancels its check -/
  | patternEntryWrite (i : Fin 32768) (value : Word)
  /-- PATTERN_EDGE (R230): A compensated phase angle crosses a pattern boundary and the phase command changes at the interpolated time -/
  | patternEdge (g : Fin 4) (ph : Fin 3) (cyc : Nat)
  /-- COMPARATOR_CHANGE (R242): A window comparator's HI or LO output changes, setting latches or edge bits -/
  | comparatorChange (w : Fin 64) (mv : Nat) (uv : Fin 1000) (t : Nat)
  /-- THRESHOLD_WRITE (R246): A write to a comparator's thresholds or control takes effect within 250 ns, or is refused while its row is enabled after lock -/
  | thresholdWrite (w : Fin 64) (ctl : Bool) (value : Word)
  /-- SOURCE_ACTIVE (R256): A Quench source becomes active, sets its latch and drives the pads of its tripped groups inactive asynchronously -/
  | sourceActive (k : Fin 128) (t : Nat)
  /-- ASC_DELAY_EXPIRY (R257): D_ASC after activation ends and the mask outputs of the ASC or PATTERN action turn on -/
  | ascDelayExpiry (g : Fin 16)
  /-- LATCH_CLEAR (R259): A QNC_CLRk write clears the latches of inactive sources and refuses those still active -/
  | latchClear (k : Fin 4) (mask : Word)
  /-- SAFESEL_WRITE (R262): The Anvil writes QNC_SAFESEL, and groups tripped with SAFE follow the new selection -/
  | safeselWrite (sel selC : BitVec 8)
  /-- ROUTE_CRC_CHECK (R271): Every 256 peripheral cycles the route CRC is recomputed and a mismatch raises CFG_INTEGRITY -/
  | routeCrcCheck (crc : Word)
  /-- TOUCHSTONE_SWEEP_START (R267): Every TS_INT Touchstone starts the sweep of the next comparator, or skips it -/
  | touchstoneSweepStart
  /-- TOUCHSTONE_SWEEP_END (R268): A comparator sweep ends, its thresholds are restored and its result is judged -/
  | touchstoneSweepEnd (hi lo : BitVec 17)
  /-- AUX_START (R288): AUX command START takes an OFF channel into LISTEN -/
  | auxStart (n : Fin 8)
  /-- AUX_STOP (R288): AUX command STOP takes a channel to OFF or to BRAKE -/
  | auxStop (n : Fin 8)
  /-- AUX_CLEAR (R288): AUX command CLEAR takes a FAULT channel to OFF -/
  | auxClear (n : Fin 8)
  /-- ZERO_CROSSING (R283): A filtered back-EMF crossing is taken, updating T_s, sending the Mandrel event and scheduling the commutation -/
  | zeroCrossing (n : Fin 8) (ph : Fin 3) (level : Bool) (t : Nat)
  /-- COMMUTATION (R286): The scheduled commutation time arrives and the pairs take the roles of the next sector -/
  | commutation (n : Fin 8)
  /-- DEMAG_BLANK_END (R284): The demagnetisation blank ends and crossings of the floating phase can be taken -/
  | demagBlankEnd (n : Fin 8)
  /-- ZC_TIMEOUT (R287): No crossing is taken within 1.5 T_s and the channel enters COAST -/
  | zcTimeout (n : Fin 8)
  /-- LISTEN_END (R289): LISTEN reaches 50.0 ms and the channel decides on synchronisation, BRAKE or ALIGN -/
  | listenEnd (n : Fin 8)
  /-- BRAKE_SLICE_END (R290): The BRK_ON interval ends and the pairs float for the listening interval -/
  | brakeSliceEnd (n : Fin 8)
  /-- LISTEN_INTERVAL_END (R290): A brake listening interval ends and the channel brakes again, aligns or stops -/
  | listenIntervalEnd (n : Fin 8)
  /-- BRAKE_TIMEOUT (R290): A BRAKE from a start exceeds BRK_TMAX, counts a failure and returns to LISTEN -/
  | brakeTimeout (n : Fin 8)
  /-- ALIGN_END (R291): The align time ends and the channel starts its open-loop RAMP -/
  | alignEnd (n : Fin 8)
  /-- RAMP_SECTOR_END (R291): An open-loop ramp sector ends and the channel commutates, enters RUN, or fails -/
  | rampSectorEnd (n : Fin 8)
  /-- COAST_END (R293): COAST reaches 50.0 ms without synchronising and decides as LISTEN does -/
  | coastEnd (n : Fin 8)
  /-- RUN_OK_EXPIRY (R292): The channel stays in RUN for RUN_OK × 100 ms and FAILS returns to 0 -/
  | runOkExpiry (n : Fin 8)
  /-- AUX_PEAK_EVENT (R282): An auxiliary peak event holds the high-role commands off until the next period start -/
  | auxPeakEvent (n : Fin 8) (own : Option (Nat × Nat))
  /-- PRECHARGE_CLOSE (R303): PCH_CMD CLOSE closes the precharge and negative contactors and starts precharging -/
  | prechargeClose (key : BitVec 16)
  /-- PRECHARGE_OPEN (R304): PCH_CMD OPEN returns the sequencer to OPEN from ABORTED or CLOSED -/
  | prechargeOpen (key : BitVec 16)
  /-- PRECHARGE_RISE_CHECK (R303): At T_RISE the link voltage is checked and the sequencer aborts with SHORT if it is low or unknown -/
  | prechargeRiseCheck
  /-- PRECHARGE_TIMEOUT (R303): T_MAX passes without closing and the sequencer aborts with TMO -/
  | prechargeTimeout
  /-- PRECHARGE_OVERLAP_END (R303): T_OVL after closing the main contactor the precharge contactor opens -/
  | prechargeOverlapEnd
  /-- PRECHARGE_CLOSE_CHECK (R303): 20 ms later the voltages and contact are checked, giving CLOSED or CLOSE_ERR -/
  | prechargeCloseCheck
  /-- CONTACTOR_DROP (R305): The auxiliary contact reads open for 3 ms while CLOSED and the device goes to SAFE -/
  | contactorDrop
  /-- VOLTAGE_STALE (R302): A voltage's newest result becomes older than 10 ms and counts as unknown -/
  | voltageStale (link : Bool)
  /-- DISCHARGE_REQUEST (R309): A write of REQ with KEY 0xA55A to PWM_DSC_DSG_REQ starts the discharge sequencer -/
  | dischargeRequest (key : BitVec 16)
  /-- DISCHARGE_OPEN_END (R310): T_OPEN ends and the first discharge method starts -/
  | dischargeOpenEnd
  /-- DECAY_CHECK (R311): Every T_CHK the link decay is checked, failing the method on a poor decay -/
  | decayCheck
  /-- DISCHARGE_TIMEOUT (R312): TMAX passes with the link above V_T and the run ends FAILED -/
  | dischargeTimeout
  /-- MONITORING_CYCLE (R318): Every 50 µs the Anvil samples positions and currents, evaluates the monitors, updates selections and applies reactions -/
  | monitoringCycle
  /-- STO_INPUT_CHANGE (R323): A filtered STO input level change cuts or restores the output enables and takes the device to SAFE on a demand -/
  | stoInputChange (low : Bool × Bool) (t : Nat)
  /-- STO_DISCREPANCY (R324): The two filtered STO levels differ for longer than T_DISC and the Anvil enters SV_LATCHED -/
  | stoDiscrepancy
  /-- SSPI_READ (R340): An SSPI READ frame returns the selected Anvil value -/
  | sspiRead (cmd seq : BitVec 8) (data : Word) (crc : BitVec 16) (clocks : Nat)
  /-- DEMAND (R341): An SSPI DEMAND frame carries the demand word, applied at the next monitoring cycle, and feeds the watchdog -/
  | demand (seq : BitVec 8) (data : Word) (crc : BitVec 16) (clocks : Nat)
  /-- CONFIRM (R345): An SSPI CONFIRM frame compares its CRC with ANV_PCRC and arms the Anvil on a match -/
  | confirm (seq : BitVec 8) (data : Word) (crc : BitVec 16) (clocks : Nat)
  /-- ACK (R329): An SSPI ACK frame withdraws reactions whose causes are gone and clears their sticky bits -/
  | ack (seq : BitVec 8) (data : Word) (crc : BitVec 16) (clocks : Nat)
  /-- WATCHDOG_EXPIRY (R342): No accepted DEMAND frame arrives within T_WD and WD_REACT is applied -/
  | watchdogExpiry
  /-- HEARTBEAT_MISSING (R317): SYS sees no Anvil heartbeat for 200 µs and declares the Anvil domain failed -/
  | heartbeatMissing
  /-- ANVIL_DOMAIN_FAIL (R317): A mismatch, ECC error, VDD_SV excursion or clock failure fails the Anvil domain and takes the device to FAULT -/
  | anvilDomainFail
  /-- LOCK_CHECK_DONE (R343): The Anvil finishes copying and checking the parameter image and sets DONE or RANGE_ERR -/
  | lockCheckDone
  /-- PARAMETER_CRC_CHECK (R346): Every 10 ms the Anvil recomputes its copy CRC and enters SV_LATCHED on a mismatch -/
  | parameterCrcCheck (crc : Word)
  /-- BRAKE_FEEDBACK_MISMATCH (R334): A brake feedback disagrees with its SBC output for longer than T_FB and the Anvil latches -/
  | brakeFeedbackMismatch (k : Fin 2)
  /-- LOCKSTEP_MISMATCH (R358): The Assay finds a lead and checker event that differ, discards the held event and retires the pair or faults the device -/
  | lockstepMismatch (p : Fin 25) (lane : Fin 3) (addr lead chk : Word) (cyc : Nat)
  /-- ASSAY_SOURCE_END (R359): Source 113 ends 16 peripheral cycles after the Assay fault that raised it -/
  | assaySourceEnd
  /-- ASYNC_PORT_READ (R361): A Kenow read of an asynchronous port is captured by both synchronisers and compared, with re-captures until stable -/
  | asyncPortRead (tries : Fin 5) (sample : Word)
  /-- DEBUG_HALT (R365): A DBG_HALT write halts a pair, breaks lockstep and may enter DEBUG -/
  | debugHalt (mask : BitVec 25)
  /-- BREAKPOINT_MATCH (R369): An instruction address matches an armed breakpoint and the pair halts before it -/
  | breakpointMatch (p : Fin 25)
  /-- RESUME (R368): A DBG_RESUME write starts copying the lead's state into the checker -/
  | resume (mask : BitVec 25)
  /-- RESUME_COPY_DONE (R368): The resume copy ends and both copies restart with comparison resumed -/
  | resumeCopyDone (p : Fin 25)
  /-- STEP (R369): A DBG_STEP write makes the halted pair execute one instruction in both copies -/
  | step
  /-- DEBUG_REGISTER_WRITE (R367): A debug write to DBG_REGDATA sets a register of the selected halted lead core, or is refused for the checker -/
  | debugRegisterWrite (value : Word)
  /-- TAP_RESET (R370): TRST_N low or power-up resets the JTAG TAP -/
  | tapReset
  /-- EXTEST (R371): The EXTEST instruction drives boundary cells only while RST_N is low -/
  | extest
  /-- SAMPLE_PRELOAD (R370): The SAMPLE/PRELOAD instruction samples the boundary-scan register -/
  | samplePreload (cells : List Bool)
  /-- IDCODE (R370): The IDCODE instruction selects the 32-bit identity register -/
  | idcode
  /-- HIGHZ (R371): The HIGHZ instruction places pads in high impedance only while RST_N is low -/
  | highz
  /-- BYPASS (R370): The BYPASS instruction, or any unknown code, selects the 1-bit bypass register -/
  | bypass (code : BitVec 6)
  /-- DBG_ADDR (R372): An Update-DR of DBG_ADDR sets the debug-port address -/
  | dbgAddr (value : Word)
  /-- DEBUG_READ (R372): A DBG_DATA update with operation read starts a debug-port bus read -/
  | debugRead
  /-- DEBUG_WRITE (R372): A DBG_DATA update with operation write starts a debug-port bus write, unless refused -/
  | debugWrite (value : Word)
  /-- DEBUG_ACCESS_DONE (R372): A debug-port access completes and DBG_ADDR increments by 4 -/
  | debugAccessDone (cyc : Nat)
  /-- CONVERSION_START (R387): MCVc_CMD.START, or the selected mark or period event, starts the regular sequence at t_s, or is dropped -/
  | conversionStart (c : Fin 4) (software : Bool)
  /-- INJECTED_TRIGGER (R389): MCVc_CMD.INJ, or the selected trigger, starts the injected sequence, aborting or abandoning a regular window -/
  | injectedTrigger (c : Fin 4) (software : Bool)
  /-- INJECTED_PERIODIC_TRIGGER (R389): INJ_PER milliseconds pass and the periodic injected trigger is raised -/
  | injectedPeriodicTrigger (c : Fin 4)
  /-- CONVERSION_STOP (R388): MCVc_CMD.STOP ends the running conversion without a result and returns both sequences to entry 0 -/
  | conversionStop (c : Fin 4)
  /-- MCV_WINDOW_END (R384): A FIXED or injected window time expires and integration ends, starting the next window -/
  | mcvWindowEnd (c : Fin 4) (mean : Int) (peak : Bool)
  /-- MAINS_BOUNDARY (R384): The mains generator crosses a window boundary and a MAINS window ends -/
  | mainsBoundary (c : Fin 4) (cyc : Nat) (mean : Int) (peak : Bool)
  /-- MAINS_WINDOW_TIMEOUT (R386): No boundary arrives within 30.0 ms and the window ends with MAINS_INV -/
  | mainsWindowTimeout (c : Fin 4) (mean : Int) (peak : Bool)
  /-- CONVERSION_DELIVERY (R391): A completed conversion is written to MCV_CHk_RES, raises the completion event and enters the buffer -/
  | conversionDelivery (c : Fin 4)
  /-- REF_READY (R393): REF_READY rises 5.000 ms after the reference is enabled -/
  | refReady
  /-- REF_WRITE (R393): A write to MCV_REF.EN turns the reference on or off, or is refused while a converter is enabled -/
  | refWrite (value : Word)
  /-- OPSEC_TICK (R402): Each 600,000,000 core cycles OPSEC advances, which can start a periodic flush -/
  | opsecTick
  /-- FLUSH (R411): An HLM_CMD.FLUSH write starts a COMMAND flush -/
  | flush
  /-- PFAIL (R411): PFAIL_N falls with PF_PIN = 1 and a POWER flush is started -/
  | pfail
  /-- VDD_MONITOR_FIRE (R511): VDD_IO falls below 3.20 V for 200 ns and a POWER flush is started -/
  | vddMonitorFire
  /-- FAULT_HOLD_END (R411): The 100 ms after a FAULT flush ends and a held FAULT request starts one flush -/
  | faultHoldEnd
  /-- SNAP (R419): An HLM_CMD.SNAP write copies live to the snapshot, or is refused while BUSY -/
  | snap
  /-- SNAPSHOT_COPY_DONE (R414): The live-to-snapshot copy ends, queued updates are applied, and a flush zeroes its target trailer -/
  | snapshotCopyDone
  /-- FLUSH_COMPLETE (R412): The flush writes its trailer, sets FLUSHED, toggles NEXT_SLOT and starts any pending flush -/
  | flushComplete
  /-- CLEAR_HISTOGRAMS (R419): HLM_CLR.HIST with the key sets all bins to 0 -/
  | clearHistograms (key : BitVec 16)
  /-- CLEAR_EXTREMES (R419): HLM_CLR.EXT with the key sets all extreme records to 0 -/
  | clearExtremes (key : BitVec 16)
  /-- CLEAR_COUNTERS (R419): HLM_CLR.CNT with the key sets counters 16 to 63 to 0 -/
  | clearCounters (key : BitVec 16)
  /-- CLEAR_TALLY (R419): HLM_CLR.TALLY with the key empties the fault tally -/
  | clearTally (key : BitVec 16)
  /-- COUNTER_INCREMENT (R408): A write to HLM_CNT_INC adds N to a firmware counter -/
  | counterIncrement (value : Word)
  /-- HISTOGRAM_ENABLE (R410): A write of EN = 1 to a histogram or extreme keeps restored counts or clears them if the descriptor differs -/
  | histogramEnable (j : Fin 96) (value : Word)
  /-- RESTORE_DONE (R415): The Hallmark checks both slots in BOOT and restores the newer valid image -/
  | restoreDone
  /-- CONTROLLER_ENABLE (R439): A write of EN = 1 to LBn_CTL checks the schedule in TT mode and starts the controller, or sets CFG_ERR -/
  | controllerEnable (c : Fin 4) (value : Word)
  /-- TRANSMIT_REQUEST (R426): A write of 1 to a TXREQ bit makes a transmit buffer pending or queues it in COMPAT mode -/
  | transmitRequest (c : Fin 4) (half : Fin 2) (mask : Word)
  /-- FRAME_RECEIVED (R431): A valid frame is filtered into the FIFO or a dedicated buffer, or discarded -/
  | frameReceived (c : Fin 4) (f : LbFrame) (t cyc : Nat)
  /-- REFERENCE_MESSAGE (R444): An accepted reference message delivers the line position, corrects global time and starts the cycle -/
  | referenceMessage (c : Fin 4) (f : Option LbFrame) (t cyc : Nat)
  /-- FRAME_TRANSMITTED (R427): A frame is sent successfully and its TXDONE bit is set -/
  | frameTransmitted (c : Fin 4) (b : Fin 64) (t cyc : Nat)
  /-- TRANSMISSION_FAILED (R427): A transmission attempt fails, and the buffer is retried or its failure is recorded -/
  | transmissionFailed (c : Fin 4) (b : Option (Fin 64)) (e : LbFail) (cyc : Nat)
  /-- SCHEDULE_WINDOW_START (R436): Cycle time reaches a window START and the controller latches and offers its buffers for the window kind -/
  | scheduleWindowStart (c : Fin 4) (busy : Bool)
  /-- CYCLE_END (R448): The master reaches CYC_LEN and requests its next reference message -/
  | cycleEnd (c : Fin 4)
  /-- BACKUP_SLOT (R448): A backup's slot passes without a reference start and it sends its own reference -/
  | backupSlot (c : Fin 4)
  /-- REFERENCE_MISSING (R447): A LOCKED node sees no reference by the HOLDOVER point and enters HOLDOVER -/
  | referenceMissing (c : Fin 4)
  /-- HOLDOVER_LIMIT (R447): REF_LIM cycles in HOLDOVER pass and the node returns to LISTEN -/
  | holdoverLimit (c : Fin 4)
  /-- BUS_OFF_RECOVERY (R423): A bus-off controller completes recovery after 128 occurrences of 11 recessive bits -/
  | busOffRecovery (c : Fin 4)
  /-- WRITE (R459): An HSPI WRITE transaction writes whole words into the mailbox window -/
  | write (addr : BitVec 16) (data : List Byte)
  /-- READ (R459): An HSPI READ transaction returns words from the mailbox window -/
  | read (addr : BitVec 16) (words : Nat)
  /-- STATUS (R459): An HSPI STATUS transaction returns HST_STATUS repeatedly -/
  | status
  /-- UNKNOWN_INSTRUCTION (R459): An HSPI transaction with an unknown instruction or misalignment sets HST_ERR.FRAME -/
  | unknownInstruction (code : Byte)
  /-- SUBMIT (R462): An HST_DB SUBMIT bit moves a GRANTED command slot to SUBMITTED, or sets DB -/
  | submit (mask : BitVec 8)
  /-- RSP_ACK (R462): An HST_DB RSP_ACK bit returns a DONE slot to IDLE, or sets ACK -/
  | rspAck (mask : BitVec 8)
  /-- EVT_ACK (R462): An HST_DB EVT_ACK bit frees a PENDING event slot, or sets EVT_WR -/
  | evtAck (mask : BitVec 8)
  /-- POST_RSP (R462): An MBX_POST RSP bit moves a SUBMITTED slot to DONE -/
  | postRsp (mask : BitVec 8)
  /-- POST_GRANT (R462): An MBX_POST GRANT bit moves an IDLE slot to GRANTED -/
  | postGrant (mask : BitVec 8)
  /-- POST_EVT (R462): An MBX_POST EVT bit moves a FREE event slot to PENDING -/
  | postEvt (mask : BitVec 8)
  /-- HOST_RESET (R461): HRST_N low for 1 µs resets the host port and returns every command slot to IDLE -/
  | hostReset
  /-- EVENT_POST (R470): A queued Felyene event is placed in a FREE event slot, or is lost when the queue is full -/
  | eventPost
  /-- GET_INFO (R468): Returns the part, revision, firmware, straps and operating time -/
  | getInfo (i : Fin 8)
  /-- GET_STATE (R468): Returns the device, Anvil, axis, auxiliary and DC-link states -/
  | getState (i : Fin 8)
  /-- SET_STATE (R468): Requests a device state change under R23 -/
  | setState (i : Fin 8)
  /-- LOCK_CONFIG (R468): Locks the configuration and returns the Anvil and Quench CRCs after the lock check -/
  | lockConfig (i : Fin 8)
  /-- REG_READ (R468): Reads n register words as agent reads -/
  | regRead (i : Fin 8)
  /-- REG_WRITE (R468): Performs masked register writes in order and returns read-back words -/
  | regWrite (i : Fin 8)
  /-- FAULT_READ (R468): Returns SYS_FAULT and SYS_STATUS and optionally clears the fault codes -/
  | faultRead (i : Fin 8)
  /-- RESET (R468): Resets the device 1 ms after the response when the key and state allow -/
  | reset (i : Fin 8)
  /-- AX_SET_STATE (R468): Requests an axis state change checked under R28 -/
  | axSetState (i : Fin 8)
  /-- AX_SETPOINT (R468): Sets an axis torque, speed or line-follow set-point and ramp for engine firmware -/
  | axSetpoint (i : Fin 8)
  /-- AX_STATUS (R468): Returns an axis's state, selection, trip state, speed, torque, currents and miss run -/
  | axStatus (i : Fin 8)
  /-- AX_DRAW (R468): Writes GEAR_NUM of the axis's line generator -/
  | axDraw (i : Fin 8) (g : Fin 8)
  /-- AX_PATTERN (R468): Writes and checks a pulse pattern, answering BAD_PARAM or BUSY as the check decides -/
  | axPattern (i : Fin 8)
  /-- AUX_CMD (R468): Issues START, STOP or CLEAR to an auxiliary channel -/
  | auxCmd (i : Fin 8)
  /-- AUX_DUTY (R468): Writes CMP0 of an auxiliary group and arms it -/
  | auxDuty (i : Fin 8)
  /-- AUX_STATUS (R468): Returns an auxiliary channel's status, frequency and sector time -/
  | auxStatus (i : Fin 8)
  /-- DC_PRECHARGE (R468): Issues CLOSE or OPEN to the precharge sequencer -/
  | dcPrecharge (i : Fin 8)
  /-- DC_CONV (R468): Starts a storage converter in boost or buck at a power, or stops it -/
  | dcConv (i : Fin 8)
  /-- DC_DISCHARGE (R468): Requests the discharge sequencer with its key -/
  | dcDischarge (i : Fin 8)
  /-- DC_STATUS (R468): Returns the link voltages and the precharge and discharge status -/
  | dcStatus (i : Fin 8)
  /-- MEAS_READ (R468): Returns the latest results of n metering channels -/
  | measRead (i : Fin 8)
  /-- SDM_READ (R468): Returns the latest words of n sigma-delta channels -/
  | sdmRead (i : Fin 8)
  /-- REC_FLUSH (R468): Starts a recorder flush and answers with its SEQ on completion or TIMEOUT -/
  | recFlush (i : Fin 8)
  /-- REC_SNAP (R468): Takes a recorder snapshot and answers when the copy ends -/
  | recSnap (i : Fin 8)
  /-- REC_READ (R468): Returns bytes of the snapshot or a ferroelectric slot -/
  | recRead (i : Fin 8)
  /-- REC_CLEAR (R468): Writes HLM_CLR with the key to clear the selected record areas -/
  | recClear (i : Fin 8)
  /-- LB_STATUS (R468): Returns a line-bus controller's synchronisation, status, error, global time and counters -/
  | lbStatus (i : Fin 8)
  /-- LB_SEND (R468): Writes a transmit buffer and sets its TXREQ in EVENT or COMPAT mode -/
  | lbSend (i : Fin 8)
  /-- FW_INFO (R468): Returns the size, version and validity of each image slot -/
  | fwInfo (i : Fin 8) (sig : BitVec 2)
  /-- FW_BEGIN (R487): Opens a firmware session on a slot and marks it invalid -/
  | fwBegin (i : Fin 8)
  /-- FW_DATA (R487): Writes consecutive image bytes into the session's slot, holding back MAGIC -/
  | fwData (i : Fin 8)
  /-- FW_END (R487): Verifies the image signature and writes signature and MAGIC, or answers AUTH_FAIL -/
  | fwEnd (i : Fin 8) (sig : Bool)
  /-- FW_SELECT (R468): Writes the boot record to select a valid slot for the next reset -/
  | fwSelect (i : Fin 8) (sig : Bool)
  /-- SAFE_PARAM_WRITE (R468): Writes words of the Anvil parameter image before lock -/
  | safeParamWrite (i : Fin 8)
  /-- SAFE_PARAM_READ (R468): Returns words of the Anvil registers -/
  | safeParamRead (i : Fin 8)
  /-- SAFE_STATUS (R468): Returns the Anvil status, cause, parameter state, CRC, demand and axis status -/
  | safeStatus (i : Fin 8)
  /-- DBG_ENTER (R468): Requests DEBUG with its key while ST_DBG is high -/
  | dbgEnter (i : Fin 8)
  /-- DBG_POOL (R468): Returns LOOP_STATUS, the pair states and the last mismatch -/
  | dbgPool (i : Fin 8)
  /-- POWER_ON_RESET (R477): Power-up or a supply leaving its range holds reset until 2.0 ms after all supplies are in range -/
  | powerOnReset
  /-- RST_N (R477): RST_N held low resets the device -/
  | rstN (low : Bool)
  /-- SOFTWARE_RESET (R493): A write of KEY 0x7E57 to SYS_SWRST resets the device in an allowed state after any running flush -/
  | softwareReset (key : BitVec 16)
  /-- VDDA_CMP_LOSS (R510): VDDA_CMP falls below 3.00 V and every enabled comparator reports HI and LO -/
  | vddaCmpLoss
  /-- VBUS_LB_LOSS (R510): VBUS_LB falls below 4.50 V and the integrated transceivers hold the bus recessive -/
  | vbusLbLoss
  /-- RESET_RELEASE (R482): Reset releases; straps are sampled, the PLL and Anvil oscillator start and device time is 0 -/
  | resetRelease (straps : BitVec 17)
  /-- PLL_LOCK (R482): The main PLL locks, the clocks and device time run and the lane self-test runs -/
  | pllLock (failed : BitVec 25)
  /-- PAD_CHECK_PULL_END (R483): The 20 µs pull phase ends, pads are read and the drive phase starts -/
  | padCheckPullEnd (fails : BitVec 140)
  /-- PAD_CHECK_DONE (R483): The drive phase ends; pads that pass are driven inactive, and a failure enters FAULT -/
  | padCheckDone (fails : BitVec 140)
  /-- IMAGE_VERIFIED (R490): The boot ROM finishes hashing and verifying a slot image, or finds no valid slot -/
  | imageVerified (sig : BitVec 2)
  /-- AGENT_START (R482): Once pad check, restore and boot have passed, Kenow starts the agent and the device enters CONFIG -/
  | agentStart
  /-- CONFIGURATION_LOCK (R492): A write of KEY 0x4C4B to SYS_CFG_LOCK in CONFIG locks RWL fields, stores the Quench CRC and hands the Anvil its copy -/
  | configurationLock (key : BitVec 16)
  /-- BLOW_CUSTOMER_HASH (R494): SYS_FUSE_CMD OP 1 blows the staged customer hash and then CUST_EN -/
  | blowCustomerHash (key : BitVec 16)
  /-- BLOW_PORTIEL_DIS (R494): SYS_FUSE_CMD OP 2 blows PORTIEL_DIS -/
  | blowPortielDis (key : BitVec 16)
  /-- BLOW_FLOCK (R494): SYS_FUSE_CMD OP 3 blows FLOCK -/
  | blowFlock (key : BitVec 16)
  /-- FUSE_OPERATION_DONE (R494): A fuse operation ends, BUSY clears and a readback mismatch sets PROG_ERR -/
  | fuseOperationDone (ok : Bool)
  /-- EXTRAPOLATION_CLAMP (R57): The extrapolated angle of a counted source reaches the clamp at s − 1 from its boundary, so CLAMPED rises and the angle stops advancing -/
  | extrapolationClamp (n : Fin 8)
  /-- MARK_ARMING (R68): The angle followed by a disarmed mark passes beyond HYST on the arming side, and the mark becomes armed -/
  | markArming (m : Fin 64) (cyc : Nat)
  /-- STUCK_END (R113): Modulator data of a stuck channel toggles again, STUCK_NOW falls and later words are no longer marked INVALID -/
  | stuckEnd (k : Fin 32)
  /-- SSI_PAUSE_END (R99): TM microseconds after the last rising clock edge of a burst the pause ends, BUSY clears and a new trigger can start a burst -/
  | ssiPauseEnd (n : Fin 4)
  /-- LISTEN_SYNC_TIMEOUT (R289): After LISTEN ends with three crossings in forward sequence at speed, no continuing crossing comes within 1.5 T_s of the last one, and the channel decides as with fewer than three crossings -/
  | listenSyncTimeout (n : Fin 8)
  /-- RECEIVE_ERROR (R423): An error in a frame that the controller is receiving raises its receive error counter and can take the controller error-passive with fault 0x8108 -/
  | receiveError (c : Fin 4) (e : LbRxErr) (eight : Bool)
  /-- VDDA_CMP_RETURN (R510): VDDA_CMP rises back above 3.00 V and the comparators stop forcing HI and LO to 1 -/
  | vddaCmpReturn
  /-- VBUS_LB_RETURN (R510): VBUS_LB rises back above 4.50 V and the integrated transceivers of LB0 and LB1 drive and read the bus again -/
  | vbusLbReturn
  /-- HOST_RESET_RELEASE (R461): HRST_N rises after a host-port reset, HRST_LVL falls and the host port leaves reset for Felyene to grant the slots again -/
  | hostResetRelease
  /-- TRIP_PIN_RELEASE (R247): A TRIPn_N pin returns high, so its Quench source becomes inactive in QNC_RAW and its latch can then be cleared -/
  | tripPinRelease (p : Fin 16)
  deriving DecidableEq, Repr

end Sys2Proof
end

