-- ==== Sys2Proof/Config.lean ====
section
/-! DEFINITION. What the spec fixes for the part, and the values it leaves open. An opaque constant here has no value that a
proof can see: a statement that mentions one holds for every value of it. -/

namespace Sys2Proof

/-- A fresh word of a value that the spec calls unspecified, taken by the state's counter `free` (log entry 5). -/
opaque Config.freeWord : Nat → Word

/-- A fresh truth value of the same kind. -/
opaque Config.freeBit : Nat → Bool

/-- The contents of the Boot ROM (R33 gives its place and no contents). -/
opaque Config.bootRom : Nat → Byte

/-- The silicon revision, which the spec does not give (R486, R487; log entry 5). -/
opaque Config.siliconRev : BitVec 8

/-- The phase of an input filter's samples against device time where its prescaler is above 1, by twice the channel, plus one for Z: R81
spaces the samples and does not place them (log entry 39). -/
opaque Config.filterPhase : Nat → Nat

/-- The version of Felyene, major and minor, which the spec does not give (R468; log entry 5). -/
opaque Config.felVersion : BitVec 16

/-- Core cycles in a microsecond (R19: 600 MHz). -/
def Config.cyclesPerUs : Nat := 600

/-- Delay-line taps in a core cycle (R192). -/
def Config.tapsPerCycle : Nat := 16

/-- Taps in a microsecond. -/
def Config.tapsPerUs : Nat := 9600

end Sys2Proof
end

