-- ==== Sys2Proof/Machine/Reg.lean ====
section
/-! DEFINITION. The registers of the NMD-960 by name: one constructor per register of the register tables of spec/01 to
spec/18, with the numbers of the channel, generator, mark, group and so on that the register's name carries. The LREC words
of R173 and the pattern words of R221 and R222 are memory words, not registers, and stand in the memory. -/

namespace Sys2Proof.Machine

/-- A register, named as the spec names it less its lower-case number letters, which are the arguments. -/
inductive Reg where
  | DMA_CH_CTL (n : Fin 16)
  | DMA_CH_SRC (n : Fin 16)
  | DMA_CH_DST (n : Fin 16)
  | DMA_CH_LEN (n : Fin 16)
  | DMA_CH_STAT (n : Fin 16)
  | DMA_CH_SWREQ (n : Fin 16)
  | MAN_AM_FIRED (n : Fin 2)
  | MAN_AM_JUMPED (n : Fin 2)
  | MAN_AM_IE (n : Fin 2)
  | MAN_AG_CTL (n : Fin 8)
  | MAN_AG_CPR (n : Fin 8)
  | MAN_AG_GEAR_NUM (n : Fin 8)
  | MAN_AG_GEAR_DEN (n : Fin 8)
  | MAN_AG_PP (n : Fin 8)
  | MAN_AG_EOFS (n : Fin 8)
  | MAN_AG_JUMP_TH (n : Fin 8)
  | MAN_AG_TMO (n : Fin 8)
  | MAN_AG_RAMP_TGT (n : Fin 8)
  | MAN_AG_RAMP_ACC (n : Fin 8)
  | MAN_AG_STATUS (n : Fin 8)
  | MAN_AG_JUMP_LAST (n : Fin 8)
  | MAN_AG_ELEC (n : Fin 8)
  | MAN_AG_MECH (n : Fin 8)
  | MAN_AG_SPEED (n : Fin 8)
  | MAN_AG_TURNS (n : Fin 8)
  | MAN_AG_TSNAP (n : Fin 8)
  | MAN_AG_LATCH_POS (n : Fin 8)
  | MAN_AG_LATCH_T (n : Fin 8)
  | MAN_AM_CTL (n : Fin 64)
  | MAN_AM_ANGLE (n : Fin 64)
  | MAN_AM_HYST (n : Fin 64)
  | MAN_AM_TS (n : Fin 64)
  | FBK_QE_CTL (n : Fin 8)
  | FBK_QE_FILT (n : Fin 8)
  | FBK_QE_MOD (n : Fin 8)
  | FBK_QE_CNT (n : Fin 8)
  | FBK_QE_TURNS (n : Fin 8)
  | FBK_QE_IDX_CTL (n : Fin 8)
  | FBK_QE_IDX_CNT (n : Fin 8)
  | FBK_QE_IDX_DIFF (n : Fin 8)
  | FBK_QE_IDX_STAT (n : Fin 8)
  | FBK_QE_ERRCNT (n : Fin 8)
  | FBK_QE_ERRLIM (n : Fin 8)
  | FBK_QE_CLR (n : Fin 8)
  | FBK_QE_STATUS (n : Fin 8)
  | FBK_QE_IDX_T (n : Fin 8)
  | FBK_QE_CAP_T (n : Fin 8)
  | FBK_QE_CAP_CTL (n : Fin 8)
  | FBK_QE_CAP_CNT (n : Fin 8)
  | FBK_SSI_CTL (n : Fin 4)
  | FBK_SSI_CLK (n : Fin 4)
  | FBK_SSI_FRAME (n : Fin 4)
  | FBK_SSI_ERR (n : Fin 4)
  | FBK_SSI_PERIOD (n : Fin 4)
  | FBK_SSI_LDC (n : Fin 4)
  | FBK_SSI_ST (n : Fin 4)
  | FBK_SSI_MT (n : Fin 4)
  | FBK_SSI_RAW_LO (n : Fin 4)
  | FBK_SSI_RAW_HI (n : Fin 4)
  | FBK_SSI_T (n : Fin 4)
  | FBK_SSI_STATUS (n : Fin 4)
  | FBK_SSI_FRAMES (n : Fin 4)
  | SDM_CK_CTL (n : Fin 8)
  | SDM_CH_CTL (n : Fin 32)
  | SDM_CH_OFS (n : Fin 32)
  | SDM_CH_GAIN (n : Fin 32)
  | SDM_CH_FTH (n : Fin 32)
  | SDM_CH_FHYS (n : Fin 32)
  | SDM_CH_DATA (n : Fin 32)
  | SDM_CH_FWORD (n : Fin 32)
  | SDM_CH_WS_T (n : Fin 32)
  | SDM_CH_STATUS (n : Fin 32)
  | SDM_CHK_CTL (n : Fin 16)
  | SDM_CHK_STAT (n : Fin 16)
  | SDM_SG_CTL (n : Fin 4)
  | SDM_SG_STAT (n : Fin 4)
  | LOOP_TICK_PER (n : Fin 8)
  | LOOP_TICK_PH (n : Fin 8)
  | LOOP_P_STATE (n : Fin 24)
  | LOOP_P_MARGIN (n : Fin 24)
  | LOOP_P_SLACK (n : Fin 24)
  | LOOP_P_CNT (n : Fin 24)
  | LOOP_P_ECC (n : Fin 24)
  | LOOP_D_CTL (n : Fin 512)
  | LOOP_D_CPH (n : Fin 512)
  | LOOP_D_BUD (n : Fin 512)
  | LOOP_D_ENTRY (n : Fin 512)
  | LOOP_D_CTX (n : Fin 512)
  | LOOP_D_CTXS (n : Fin 512)
  | LOOP_D_OUT (n : Fin 512)
  | LOOP_D_STAT (n : Fin 512)
  | LOOP_TGT (n : Fin 1024)
  | PWM_G_CFG (n : Fin 16)
  | PWM_G_CTL (n : Fin 16)
  | PWM_G_STATUS (n : Fin 16)
  | PWM_G_PER (n : Fin 16)
  | PWM_G_PER_ACT (n : Fin 16)
  | PWM_G_PHASE (n : Fin 16)
  | PWM_G_CNT (n : Fin 16)
  | PWM_G_OUT_EN (n : Fin 16)
  | PWM_G_DT (n : Fin 16)
  | PWM_G_DT_C (n : Fin 16)
  | PWM_G_BOOT (n : Fin 16)
  | PWM_G_BOOT_C (n : Fin 16)
  | PWM_G_VP (n : Fin 16)
  | PWM_G_VPT (n : Fin 16)
  | PWM_G_SNS (n : Fin 16) (m : Fin 4)
  | PWM_G_CMP (n : Fin 16) (m : Fin 9)
  | PWM_G_CMP_ACT (n : Fin 16) (m : Fin 9)
  | PWM_G_VP_LAST (n : Fin 16) (m : Fin 4)
  | PWM_G_PAT_CTL (n : Fin 4)
  | PWM_G_PAT_OFS (n : Fin 4)
  | PWM_G_PAT_DLYC (n : Fin 4)
  | PWM_G_PAT_LVL (n : Fin 4)
  | PWM_G_PSEL (n : Fin 4)
  | PWM_G_PSEL_ACT (n : Fin 4)
  | PWM_G_PAT_ISIGN (n : Fin 4)
  | PWM_G_PAT_STATUS (n : Fin 4)
  | PWM_G_PAT_HOV_T (n : Fin 4)
  | CMP_SUM (n : Fin 2)
  | CMP_WC_CTL (n : Fin 64)
  | CMP_WC_TH (n : Fin 64)
  | CMP_WC_STAT (n : Fin 64)
  | CMP_WC_RB (n : Fin 64)
  | QNC_ASC_DLY (n : Fin 2)
  | QNC_ASC_DLY_C (n : Fin 2)
  | QNC_CLR (n : Fin 4)
  | QNC_REFUSED (n : Fin 4)
  | QNC_LATCH (n : Fin 4)
  | QNC_RAW (n : Fin 4)
  | QNC_PROF_LO (n : Fin 8)
  | QNC_PROF_HI (n : Fin 8)
  | QNC_G_ASC_L (n : Fin 16)
  | QNC_G_ASC_H (n : Fin 16)
  | QNC_G_PAT (n : Fin 16)
  | QNC_G_STATE (n : Fin 16)
  | QNC_G_TRIP_T (n : Fin 16)
  | QNC_ROUTE (n : Fin 128)
  | AUX_CH_CTL (n : Fin 8)
  | AUX_CH_CMD (n : Fin 8)
  | AUX_CH_ZC (n : Fin 8)
  | AUX_CH_IPK (n : Fin 8)
  | AUX_CH_SPD (n : Fin 8)
  | AUX_CH_ADV (n : Fin 8) (m : Fin 4)
  | AUX_CH_START (n : Fin 8)
  | AUX_CH_RAMP (n : Fin 8)
  | AUX_CH_STATUS (n : Fin 8)
  | AUX_CH_TSEC (n : Fin 8)
  | AUX_CH_FREQ (n : Fin 8)
  | AUX_CH_ZC_T (n : Fin 8)
  | ANV_AX_CFG (n : Fin 4)
  | ANV_AX_CPR (n : Fin 4)
  | ANV_AX_EOFS (n : Fin 4)
  | ANV_AX_IMAX (n : Fin 4)
  | ANV_AX_ISC (n : Fin 4)
  | ANV_AX_NMAX (n : Fin 4)
  | ANV_AX_SLS01 (n : Fin 4)
  | ANV_AX_SLS23 (n : Fin 4)
  | ANV_AX_SLSC (n : Fin 4)
  | ANV_AX_SS1 (n : Fin 4)
  | ANV_AX_KE (n : Fin 4)
  | ANV_AX_SELTH (n : Fin 4)
  | ANV_AX_ITAB (n : Fin 4)
  | ANV_AX_NTAB (n : Fin 4)
  | ANV_AX_TTOL (n : Fin 4)
  | ANV_AX_REACT (n : Fin 4)
  | ANV_AX_STAT (n : Fin 4)
  | ANV_AX_SPEED (n : Fin 4)
  | ANV_AX_TQ (n : Fin 4)
  | ANV_AX_POS (n : Fin 4)
  | DBG_BRK (n : Fin 4)
  | DBG_BRK_CTL (n : Fin 4)
  | MCV_PRIV (n : Fin 2)
  | MCV_C_CTL (n : Fin 4)
  | MCV_C_CMD (n : Fin 4)
  | MCV_C_TINT (n : Fin 4)
  | MCV_C_PH (n : Fin 4)
  | MCV_C_DLY (n : Fin 4)
  | MCV_C_SEQ_CFG (n : Fin 4)
  | MCV_C_STATUS (n : Fin 4)
  | MCV_C_BUF (n : Fin 4)
  | MCV_C_IDX (n : Fin 4)
  | MCV_C_CNT (n : Fin 4)
  | MCV_C_SEQ (n : Fin 4) (m : Fin 32)
  | MCV_C_INJ (n : Fin 4) (m : Fin 8)
  | MCV_CH_RES (n : Fin 64)
  | HLM_H_CTL (n : Fin 32)
  | HLM_X_CTL (n : Fin 64)
  | HLM_H_LO (n : Fin 32)
  | HLM_H_W (n : Fin 32)
  | HLM_H_ADDR (n : Fin 32)
  | HLM_X_ADDR (n : Fin 64)
  | LB_CTL (n : Fin 4)
  | LB_NBT (n : Fin 4)
  | LB_DBT (n : Fin 4)
  | LB_STATUS (n : Fin 4)
  | LB_ERR (n : Fin 4)
  | LB_IRQ_EN (n : Fin 4)
  | LB_SYNC_CFG (n : Fin 4)
  | LB_CYC (n : Fin 4)
  | LB_TOL (n : Fin 4)
  | LB_RXDLY (n : Fin 4)
  | LB_SYNC_STAT (n : Fin 4)
  | LB_GT_LO (n : Fin 4)
  | LB_GT_HI (n : Fin 4)
  | LB_GT_ERR (n : Fin 4)
  | LB_DRIFT (n : Fin 4)
  | LB_REF_T (n : Fin 4)
  | LB_PROP (n : Fin 4) (m : Fin 8)
  | LB_TXFAIL (n : Fin 4)
  | LB_IDCOL (n : Fin 4)
  | LB_CNT (n : Fin 4)
  | LB_FIFO (n : Fin 4)
  | LB_FIFO_IDX (n : Fin 4)
  | LB_TXREQ (n : Fin 4) (m : Fin 2)
  | LB_TXDONE (n : Fin 4) (m : Fin 2)
  | SYS_PADFAIL (n : Fin 5)
  | SYS_FUSE_HASH (n : Fin 8)
  | SYS_STATE
  | SYS_STATE_REQ
  | SYS_AX_STATE
  | SYS_AUX_STATE
  | SYS_STATUS
  | SYS_REFUSE
  | SYS_FAULT
  | SYS_FAULT_CLR
  | SYS_UNMAPPED_ADDR
  | SYS_IRQ_EN
  | SYS_TIME_LO
  | SYS_TIME_HI
  | SYS_GPIO_DIR
  | SYS_GPIO_OUT
  | SYS_GPIO_SET
  | SYS_GPIO_CLR
  | SYS_GPIO_IN
  | SYS_GPIO_OWN
  | SYS_GPIO_RISE
  | SYS_GPIO_FALL
  | SYS_GPIO_IE
  | DMA_STATUS
  | DMA_IE
  | MAN_IRQ_EN
  | MAN_AG_SUM
  | FBK_IRQ_EN
  | FBK_SUM
  | SDM_IRQ_EN
  | SDM_SUM
  | SDM_SWTRG
  | SDM_WORD_IE
  | SDM_CNT_CLR
  | LOOP_CTL
  | LOOP_IRQ_EN
  | LOOP_STATUS
  | LOOP_SPARE
  | LOOP_PAIR_CMD
  | LOOP_MISS_LAST
  | LOOP_RETIRE_LAST
  | LOOP_SWREL
  | PWM_IRQ_EN
  | PWM_SUM
  | PWM_XFER_IE
  | PWM_START
  | PWM_STOP
  | PWM_LOADALL
  | PWM_XMARK
  | PWM_POL
  | PWM_PAD
  | PWM_PAT_CHK
  | CMP_IRQ_EN
  | CMP_TS_CTL
  | CMP_TS_STAT
  | QNC_IRQ_EN
  | QNC_STATUS
  | QNC_SAFESEL
  | QNC_SEL_USED
  | QNC_CRC
  | AUX_IRQ_EN
  | AUX_SUM
  | PWM_DSC_PCH_CFG
  | PWM_DSC_PCH_TIME
  | PWM_DSC_PCH_V
  | PWM_DSC_VCH
  | PWM_DSC_PCH_CMD
  | PWM_DSC_PCH_STAT
  | PWM_DSC_VLINK
  | PWM_DSC_DSG_CFG
  | PWM_DSC_DSG_TGT
  | PWM_DSC_DSG_SHM
  | PWM_DSC_DSG_REQ
  | PWM_DSC_DSG_STAT
  | ANV_IRQ_EN
  | ANV_STATUS
  | ANV_CAUSE
  | ANV_CFG
  | ANV_WD
  | ANV_VDC
  | ANV_VDC_LIM
  | ANV_SBC
  | ANV_SBC_STAT
  | ANV_PCRC
  | ANV_PSTAT
  | ANV_DEMAND
  | ANV_SSPI
  | ANV_RET
  | ASY_IRQ_EN
  | ASY_STATUS
  | ASY_MIS_LAST
  | ASY_MIS_ADDR
  | ASY_MIS_LEAD
  | ASY_MIS_CHK
  | ASY_MIS_T
  | ASY_UNST
  | ASY_CFG
  | ASY_ACTIVE
  | ASY_BROKEN
  | ASY_BIST
  | DBG_HALT
  | DBG_RESUME
  | DBG_STATUS
  | DBG_SEL
  | DBG_PC
  | DBG_REG
  | DBG_REGDATA
  | DBG_STEP
  | MCV_IRQ_EN
  | MCV_SUM
  | MCV_REF
  | HLM_IRQ_EN
  | HLM_STATUS
  | HLM_CFG
  | HLM_CMD
  | HLM_CLR
  | HLM_OPSEC
  | HLM_PWRCYC
  | HLM_LAST
  | HLM_LAST_CAUSE
  | HLM_CNT_INC
  | HST_ID
  | HST_STATUS
  | HST_DB
  | HST_ERR
  | HST_IRQ_EN
  | HST_EVT_LOST
  | MBX_IRQ_EN
  | MBX_STATUS
  | MBX_SLOTS
  | MBX_POST
  | MBX_EVT
  | MBX_EVT_LOST
  | MBX_CTL
  | SYS_RST_CAUSE
  | SYS_STRAP
  | SYS_BOOT
  | SYS_BOOT_VER
  | SYS_CFG_LOCK
  | SYS_SWRST
  | SYS_FUSE
  | SYS_FUSE_CMD
  deriving DecidableEq, Repr

end Sys2Proof.Machine
end

