-- ==== Sys2Proof/Machine/RegMap.lean ====
section
/-! DEFINITION. The register tables of spec/01 to spec/18: the address of each register, and its fields with their places,
access codes (R6), reset values (R11) and reserved encodings (R10). A field that takes its reset value from a strap, a fuse or
the restored record (R11) has 0 here, and the reset sequence of R482 writes it. -/

namespace Sys2Proof.Machine

/-- The access codes of R6. -/
inductive Acc where
  | rw | ro | w1c | w1s | wo | rwl | rwc
  deriving DecidableEq, Repr

/-- One row of a register table: place, access, reset value and the ranges of reserved encodings (R10). -/
structure FieldRow where
  lo : Nat
  width : Nat
  acc : Acc
  reset : Nat
  rsv : List (Nat × Nat)
  deriving DecidableEq, Repr

/-- A named field of a named register. -/
structure RF where
  reg : Reg
  lo : Nat
  width : Nat
  deriving DecidableEq, Repr

/-- The address of a register, from the block bases and offsets of the register tables. The HST registers are seen by the
host only (R472): their key lies above the agent's 32-bit map. -/
def Reg.addr : Reg → Nat
  | .SYS_STATE => 0x40000000
  | .SYS_STATE_REQ => 0x40000004
  | .SYS_AX_STATE => 0x40000008
  | .SYS_AUX_STATE => 0x4000000C
  | .SYS_STATUS => 0x40000010
  | .SYS_REFUSE => 0x40000014
  | .SYS_FAULT => 0x40000018
  | .SYS_FAULT_CLR => 0x4000001C
  | .SYS_UNMAPPED_ADDR => 0x40000020
  | .SYS_IRQ_EN => 0x40000024
  | .SYS_TIME_LO => 0x40000028
  | .SYS_TIME_HI => 0x4000002C
  | .SYS_GPIO_DIR => 0x40000100
  | .SYS_GPIO_OUT => 0x40000104
  | .SYS_GPIO_SET => 0x40000108
  | .SYS_GPIO_CLR => 0x4000010C
  | .SYS_GPIO_IN => 0x40000110
  | .SYS_GPIO_OWN => 0x40000114
  | .SYS_GPIO_RISE => 0x40000118
  | .SYS_GPIO_FALL => 0x4000011C
  | .SYS_GPIO_IE => 0x40000120
  | .DMA_STATUS => 0x40120000
  | .DMA_IE => 0x40120004
  | .DMA_CH_CTL n => 0x40120100 + n.val * 0x20
  | .DMA_CH_SRC n => 0x40120104 + n.val * 0x20
  | .DMA_CH_DST n => 0x40120108 + n.val * 0x20
  | .DMA_CH_LEN n => 0x4012010C + n.val * 0x20
  | .DMA_CH_STAT n => 0x40120110 + n.val * 0x20
  | .DMA_CH_SWREQ n => 0x40120114 + n.val * 0x20
  | .MAN_IRQ_EN => 0x40020000
  | .MAN_AG_SUM => 0x40020004
  | .MAN_AM_FIRED n => 0x40020010 + n.val * 0x4
  | .MAN_AM_JUMPED n => 0x40020018 + n.val * 0x4
  | .MAN_AM_IE n => 0x40020020 + n.val * 0x4
  | .MAN_AG_CTL n => 0x40020100 + n.val * 0x80
  | .MAN_AG_CPR n => 0x40020104 + n.val * 0x80
  | .MAN_AG_GEAR_NUM n => 0x40020108 + n.val * 0x80
  | .MAN_AG_GEAR_DEN n => 0x4002010C + n.val * 0x80
  | .MAN_AG_PP n => 0x40020110 + n.val * 0x80
  | .MAN_AG_EOFS n => 0x40020114 + n.val * 0x80
  | .MAN_AG_JUMP_TH n => 0x40020118 + n.val * 0x80
  | .MAN_AG_TMO n => 0x4002011C + n.val * 0x80
  | .MAN_AG_RAMP_TGT n => 0x40020120 + n.val * 0x80
  | .MAN_AG_RAMP_ACC n => 0x40020124 + n.val * 0x80
  | .MAN_AG_STATUS n => 0x40020128 + n.val * 0x80
  | .MAN_AG_JUMP_LAST n => 0x4002012C + n.val * 0x80
  | .MAN_AG_ELEC n => 0x40020130 + n.val * 0x80
  | .MAN_AG_MECH n => 0x40020134 + n.val * 0x80
  | .MAN_AG_SPEED n => 0x40020138 + n.val * 0x80
  | .MAN_AG_TURNS n => 0x4002013C + n.val * 0x80
  | .MAN_AG_TSNAP n => 0x40020140 + n.val * 0x80
  | .MAN_AG_LATCH_POS n => 0x40020144 + n.val * 0x80
  | .MAN_AG_LATCH_T n => 0x40020148 + n.val * 0x80
  | .MAN_AM_CTL n => 0x40020800 + n.val * 0x10
  | .MAN_AM_ANGLE n => 0x40020804 + n.val * 0x10
  | .MAN_AM_HYST n => 0x40020808 + n.val * 0x10
  | .MAN_AM_TS n => 0x4002080C + n.val * 0x10
  | .FBK_IRQ_EN => 0x40030000
  | .FBK_SUM => 0x40030004
  | .FBK_QE_CTL n => 0x40030100 + n.val * 0x80
  | .FBK_QE_FILT n => 0x40030104 + n.val * 0x80
  | .FBK_QE_MOD n => 0x40030108 + n.val * 0x80
  | .FBK_QE_CNT n => 0x4003010C + n.val * 0x80
  | .FBK_QE_TURNS n => 0x40030110 + n.val * 0x80
  | .FBK_QE_IDX_CTL n => 0x40030114 + n.val * 0x80
  | .FBK_QE_IDX_CNT n => 0x40030118 + n.val * 0x80
  | .FBK_QE_IDX_DIFF n => 0x4003011C + n.val * 0x80
  | .FBK_QE_IDX_STAT n => 0x40030120 + n.val * 0x80
  | .FBK_QE_ERRCNT n => 0x40030124 + n.val * 0x80
  | .FBK_QE_ERRLIM n => 0x40030128 + n.val * 0x80
  | .FBK_QE_CLR n => 0x4003012C + n.val * 0x80
  | .FBK_QE_STATUS n => 0x40030130 + n.val * 0x80
  | .FBK_QE_IDX_T n => 0x40030134 + n.val * 0x80
  | .FBK_QE_CAP_T n => 0x40030140 + n.val * 0x80
  | .FBK_QE_CAP_CTL n => 0x40030138 + n.val * 0x80
  | .FBK_QE_CAP_CNT n => 0x4003013C + n.val * 0x80
  | .FBK_SSI_CTL n => 0x40030600 + n.val * 0x40
  | .FBK_SSI_CLK n => 0x40030604 + n.val * 0x40
  | .FBK_SSI_FRAME n => 0x40030608 + n.val * 0x40
  | .FBK_SSI_ERR n => 0x4003060C + n.val * 0x40
  | .FBK_SSI_PERIOD n => 0x40030610 + n.val * 0x40
  | .FBK_SSI_LDC n => 0x40030614 + n.val * 0x40
  | .FBK_SSI_ST n => 0x40030618 + n.val * 0x40
  | .FBK_SSI_MT n => 0x4003061C + n.val * 0x40
  | .FBK_SSI_RAW_LO n => 0x40030620 + n.val * 0x40
  | .FBK_SSI_RAW_HI n => 0x40030624 + n.val * 0x40
  | .FBK_SSI_T n => 0x40030628 + n.val * 0x40
  | .FBK_SSI_STATUS n => 0x4003062C + n.val * 0x40
  | .FBK_SSI_FRAMES n => 0x40030630 + n.val * 0x40
  | .SDM_IRQ_EN => 0x400A0000
  | .SDM_SUM => 0x400A0004
  | .SDM_SWTRG => 0x400A0008
  | .SDM_WORD_IE => 0x400A000C
  | .SDM_CK_CTL n => 0x400A0020 + n.val * 0x4
  | .SDM_CH_CTL n => 0x400A0100 + n.val * 0x40
  | .SDM_CH_OFS n => 0x400A0104 + n.val * 0x40
  | .SDM_CH_GAIN n => 0x400A0108 + n.val * 0x40
  | .SDM_CH_FTH n => 0x400A010C + n.val * 0x40
  | .SDM_CH_FHYS n => 0x400A0110 + n.val * 0x40
  | .SDM_CH_DATA n => 0x400A0114 + n.val * 0x40
  | .SDM_CH_FWORD n => 0x400A0118 + n.val * 0x40
  | .SDM_CH_WS_T n => 0x400A011C + n.val * 0x40
  | .SDM_CH_STATUS n => 0x400A0120 + n.val * 0x40
  | .SDM_CHK_CTL n => 0x400A0900 + n.val * 0x10
  | .SDM_CHK_STAT n => 0x400A0904 + n.val * 0x10
  | .SDM_SG_CTL n => 0x400A0A00 + n.val * 0x10
  | .SDM_SG_STAT n => 0x400A0A04 + n.val * 0x10
  | .SDM_CNT_CLR => 0x400A0010
  | .LOOP_CTL => 0x400D0000
  | .LOOP_IRQ_EN => 0x400D0004
  | .LOOP_STATUS => 0x400D0008
  | .LOOP_SPARE => 0x400D000C
  | .LOOP_PAIR_CMD => 0x400D0010
  | .LOOP_MISS_LAST => 0x400D0014
  | .LOOP_RETIRE_LAST => 0x400D0018
  | .LOOP_SWREL => 0x400D001C
  | .LOOP_TICK_PER n => 0x400D0040 + n.val * 0x8
  | .LOOP_TICK_PH n => 0x400D0044 + n.val * 0x8
  | .LOOP_P_STATE n => 0x400D0100 + n.val * 0x20
  | .LOOP_P_MARGIN n => 0x400D0104 + n.val * 0x20
  | .LOOP_P_SLACK n => 0x400D0108 + n.val * 0x20
  | .LOOP_P_CNT n => 0x400D010C + n.val * 0x20
  | .LOOP_P_ECC n => 0x400D0110 + n.val * 0x20
  | .LOOP_D_CTL n => 0x400D8000 + n.val * 0x20
  | .LOOP_D_CPH n => 0x400D8004 + n.val * 0x20
  | .LOOP_D_BUD n => 0x400D8008 + n.val * 0x20
  | .LOOP_D_ENTRY n => 0x400D800C + n.val * 0x20
  | .LOOP_D_CTX n => 0x400D8010 + n.val * 0x20
  | .LOOP_D_CTXS n => 0x400D8014 + n.val * 0x20
  | .LOOP_D_OUT n => 0x400D8018 + n.val * 0x20
  | .LOOP_D_STAT n => 0x400D801C + n.val * 0x20
  | .LOOP_TGT n => 0x400DC000 + n.val * 0x4
  | .PWM_IRQ_EN => 0x40040000
  | .PWM_SUM => 0x40040004
  | .PWM_XFER_IE => 0x40040008
  | .PWM_START => 0x4004000C
  | .PWM_STOP => 0x40040010
  | .PWM_LOADALL => 0x40040014
  | .PWM_XMARK => 0x40040018
  | .PWM_POL => 0x4004001C
  | .PWM_PAD => 0x40040020
  | .PWM_G_CFG n => 0x40041000 + n.val * 0x1000
  | .PWM_G_CTL n => 0x40041004 + n.val * 0x1000
  | .PWM_G_STATUS n => 0x40041008 + n.val * 0x1000
  | .PWM_G_PER n => 0x4004100C + n.val * 0x1000
  | .PWM_G_PER_ACT n => 0x40041010 + n.val * 0x1000
  | .PWM_G_PHASE n => 0x40041014 + n.val * 0x1000
  | .PWM_G_CNT n => 0x40041018 + n.val * 0x1000
  | .PWM_G_OUT_EN n => 0x4004101C + n.val * 0x1000
  | .PWM_G_DT n => 0x40041020 + n.val * 0x1000
  | .PWM_G_DT_C n => 0x40041024 + n.val * 0x1000
  | .PWM_G_BOOT n => 0x40041028 + n.val * 0x1000
  | .PWM_G_BOOT_C n => 0x4004102C + n.val * 0x1000
  | .PWM_G_VP n => 0x40041030 + n.val * 0x1000
  | .PWM_G_VPT n => 0x40041034 + n.val * 0x1000
  | .PWM_G_SNS n m => 0x40041040 + n.val * 0x1000 + m.val * 0x4
  | .PWM_G_CMP n m => 0x40041100 + n.val * 0x1000 + m.val * 0x4
  | .PWM_G_CMP_ACT n m => 0x40041140 + n.val * 0x1000 + m.val * 0x4
  | .PWM_G_VP_LAST n m => 0x40041180 + n.val * 0x1000 + m.val * 0x4
  | .PWM_PAT_CHK => 0x40040024
  | .PWM_G_PAT_CTL n => 0x40041200 + n.val * 0x1000
  | .PWM_G_PAT_OFS n => 0x40041204 + n.val * 0x1000
  | .PWM_G_PAT_DLYC n => 0x40041208 + n.val * 0x1000
  | .PWM_G_PAT_LVL n => 0x4004120C + n.val * 0x1000
  | .PWM_G_PSEL n => 0x40041210 + n.val * 0x1000
  | .PWM_G_PSEL_ACT n => 0x40041214 + n.val * 0x1000
  | .PWM_G_PAT_ISIGN n => 0x40041218 + n.val * 0x1000
  | .PWM_G_PAT_STATUS n => 0x4004121C + n.val * 0x1000
  | .PWM_G_PAT_HOV_T n => 0x40041220 + n.val * 0x1000
  | .CMP_IRQ_EN => 0x40090000
  | .CMP_SUM n => 0x40090004 + n.val * 0x4
  | .CMP_TS_CTL => 0x40090010
  | .CMP_TS_STAT => 0x40090014
  | .CMP_WC_CTL n => 0x40090100 + n.val * 0x10
  | .CMP_WC_TH n => 0x40090104 + n.val * 0x10
  | .CMP_WC_STAT n => 0x40090108 + n.val * 0x10
  | .CMP_WC_RB n => 0x4009010C + n.val * 0x10
  | .QNC_IRQ_EN => 0x40080000
  | .QNC_STATUS => 0x40080004
  | .QNC_SAFESEL => 0x40080008
  | .QNC_SEL_USED => 0x4008000C
  | .QNC_CRC => 0x40080010
  | .QNC_ASC_DLY n => 0x40080014 + n.val * 0x4
  | .QNC_ASC_DLY_C n => 0x4008001C + n.val * 0x4
  | .QNC_CLR n => 0x40080030 + n.val * 0x4
  | .QNC_REFUSED n => 0x40080040 + n.val * 0x4
  | .QNC_LATCH n => 0x40080050 + n.val * 0x4
  | .QNC_RAW n => 0x40080060 + n.val * 0x4
  | .QNC_PROF_LO n => 0x40080100 + n.val * 0x8
  | .QNC_PROF_HI n => 0x40080104 + n.val * 0x8
  | .QNC_G_ASC_L n => 0x40080200 + n.val * 0x20
  | .QNC_G_ASC_H n => 0x40080204 + n.val * 0x20
  | .QNC_G_PAT n => 0x40080208 + n.val * 0x20
  | .QNC_G_STATE n => 0x4008020C + n.val * 0x20
  | .QNC_G_TRIP_T n => 0x40080210 + n.val * 0x20
  | .QNC_ROUTE n => 0x40080400 + n.val * 0x4
  | .AUX_IRQ_EN => 0x400C0000
  | .AUX_SUM => 0x400C0004
  | .AUX_CH_CTL n => 0x400C0100 + n.val * 0x40
  | .AUX_CH_CMD n => 0x400C0104 + n.val * 0x40
  | .AUX_CH_ZC n => 0x400C0108 + n.val * 0x40
  | .AUX_CH_IPK n => 0x400C010C + n.val * 0x40
  | .AUX_CH_SPD n => 0x400C0110 + n.val * 0x40
  | .AUX_CH_ADV n m => 0x400C0114 + n.val * 0x40 + m.val * 0x4
  | .AUX_CH_START n => 0x400C0124 + n.val * 0x40
  | .AUX_CH_RAMP n => 0x400C0128 + n.val * 0x40
  | .AUX_CH_STATUS n => 0x400C012C + n.val * 0x40
  | .AUX_CH_TSEC n => 0x400C0130 + n.val * 0x40
  | .AUX_CH_FREQ n => 0x400C0134 + n.val * 0x40
  | .AUX_CH_ZC_T n => 0x400C0138 + n.val * 0x40
  | .PWM_DSC_PCH_CFG => 0x4004F300
  | .PWM_DSC_PCH_TIME => 0x4004F304
  | .PWM_DSC_PCH_V => 0x4004F308
  | .PWM_DSC_VCH => 0x4004F30C
  | .PWM_DSC_PCH_CMD => 0x4004F310
  | .PWM_DSC_PCH_STAT => 0x4004F314
  | .PWM_DSC_VLINK => 0x4004F318
  | .PWM_DSC_DSG_CFG => 0x4004F320
  | .PWM_DSC_DSG_TGT => 0x4004F324
  | .PWM_DSC_DSG_SHM => 0x4004F328
  | .PWM_DSC_DSG_REQ => 0x4004F32C
  | .PWM_DSC_DSG_STAT => 0x4004F330
  | .ANV_IRQ_EN => 0x400F0000
  | .ANV_STATUS => 0x400F0004
  | .ANV_CAUSE => 0x400F0008
  | .ANV_CFG => 0x400F000C
  | .ANV_WD => 0x400F0018
  | .ANV_VDC => 0x400F0010
  | .ANV_VDC_LIM => 0x400F0014
  | .ANV_SBC => 0x400F001C
  | .ANV_SBC_STAT => 0x400F0034
  | .ANV_PCRC => 0x400F0020
  | .ANV_PSTAT => 0x400F0024
  | .ANV_DEMAND => 0x400F0028
  | .ANV_SSPI => 0x400F002C
  | .ANV_RET => 0x400F0030
  | .ANV_AX_CFG n => 0x400F0100 + n.val * 0x40
  | .ANV_AX_CPR n => 0x400F0104 + n.val * 0x40
  | .ANV_AX_EOFS n => 0x400F0138 + n.val * 0x40
  | .ANV_AX_IMAX n => 0x400F0108 + n.val * 0x40
  | .ANV_AX_ISC n => 0x400F010C + n.val * 0x40
  | .ANV_AX_NMAX n => 0x400F0110 + n.val * 0x40
  | .ANV_AX_SLS01 n => 0x400F0114 + n.val * 0x40
  | .ANV_AX_SLS23 n => 0x400F0118 + n.val * 0x40
  | .ANV_AX_SLSC n => 0x400F011C + n.val * 0x40
  | .ANV_AX_SS1 n => 0x400F0120 + n.val * 0x40
  | .ANV_AX_KE n => 0x400F0124 + n.val * 0x40
  | .ANV_AX_SELTH n => 0x400F0128 + n.val * 0x40
  | .ANV_AX_ITAB n => 0x400F012C + n.val * 0x40
  | .ANV_AX_NTAB n => 0x400F0130 + n.val * 0x40
  | .ANV_AX_TTOL n => 0x400F0134 + n.val * 0x40
  | .ANV_AX_REACT n => 0x400F013C + n.val * 0x40
  | .ANV_AX_STAT n => 0x400F0300 + n.val * 0x10
  | .ANV_AX_SPEED n => 0x400F0304 + n.val * 0x10
  | .ANV_AX_TQ n => 0x400F0308 + n.val * 0x10
  | .ANV_AX_POS n => 0x400F030C + n.val * 0x10
  | .ASY_IRQ_EN => 0x400E0000
  | .ASY_STATUS => 0x400E0004
  | .ASY_MIS_LAST => 0x400E0008
  | .ASY_MIS_ADDR => 0x400E000C
  | .ASY_MIS_LEAD => 0x400E0010
  | .ASY_MIS_CHK => 0x400E0014
  | .ASY_MIS_T => 0x400E0018
  | .ASY_UNST => 0x400E001C
  | .ASY_CFG => 0x400E0020
  | .ASY_ACTIVE => 0x400E0024
  | .ASY_BROKEN => 0x400E0028
  | .ASY_BIST => 0x400E002C
  | .DBG_HALT => 0x40130000
  | .DBG_RESUME => 0x40130004
  | .DBG_STATUS => 0x40130008
  | .DBG_SEL => 0x4013000C
  | .DBG_PC => 0x40130010
  | .DBG_REG => 0x40130014
  | .DBG_REGDATA => 0x40130018
  | .DBG_STEP => 0x4013001C
  | .DBG_BRK n => 0x40130020 + n.val * 0x8
  | .DBG_BRK_CTL n => 0x40130024 + n.val * 0x8
  | .MCV_IRQ_EN => 0x400B0000
  | .MCV_SUM => 0x400B0004
  | .MCV_REF => 0x400B0008
  | .MCV_PRIV n => 0x400B0010 + n.val * 0x4
  | .MCV_C_CTL n => 0x400B0100 + n.val * 0x100
  | .MCV_C_CMD n => 0x400B0104 + n.val * 0x100
  | .MCV_C_TINT n => 0x400B0108 + n.val * 0x100
  | .MCV_C_PH n => 0x400B010C + n.val * 0x100
  | .MCV_C_DLY n => 0x400B0110 + n.val * 0x100
  | .MCV_C_SEQ_CFG n => 0x400B0114 + n.val * 0x100
  | .MCV_C_STATUS n => 0x400B0118 + n.val * 0x100
  | .MCV_C_BUF n => 0x400B011C + n.val * 0x100
  | .MCV_C_IDX n => 0x400B0120 + n.val * 0x100
  | .MCV_C_CNT n => 0x400B0124 + n.val * 0x100
  | .MCV_C_SEQ n m => 0x400B0140 + n.val * 0x100 + m.val * 0x4
  | .MCV_C_INJ n m => 0x400B01C0 + n.val * 0x100 + m.val * 0x4
  | .MCV_CH_RES n => 0x400B0800 + n.val * 0x4
  | .HLM_IRQ_EN => 0x40100000
  | .HLM_STATUS => 0x40100004
  | .HLM_CFG => 0x40100008
  | .HLM_CMD => 0x4010000C
  | .HLM_CLR => 0x40100010
  | .HLM_OPSEC => 0x40100014
  | .HLM_PWRCYC => 0x40100018
  | .HLM_LAST => 0x4010001C
  | .HLM_LAST_CAUSE => 0x40100020
  | .HLM_CNT_INC => 0x40100024
  | .HLM_H_CTL n => 0x40100100 + n.val * 0x10
  | .HLM_X_CTL n => 0x40100400 + n.val * 0x8
  | .HLM_H_LO n => 0x40100104 + n.val * 0x10
  | .HLM_H_W n => 0x40100108 + n.val * 0x10
  | .HLM_H_ADDR n => 0x4010010C + n.val * 0x10
  | .HLM_X_ADDR n => 0x40100404 + n.val * 0x8
  | .LB_CTL n => 0x40110000 + n.val * 0x1000
  | .LB_NBT n => 0x40110004 + n.val * 0x1000
  | .LB_DBT n => 0x40110008 + n.val * 0x1000
  | .LB_STATUS n => 0x4011000C + n.val * 0x1000
  | .LB_ERR n => 0x40110010 + n.val * 0x1000
  | .LB_IRQ_EN n => 0x40110014 + n.val * 0x1000
  | .LB_SYNC_CFG n => 0x40110018 + n.val * 0x1000
  | .LB_CYC n => 0x4011001C + n.val * 0x1000
  | .LB_TOL n => 0x40110020 + n.val * 0x1000
  | .LB_RXDLY n => 0x40110024 + n.val * 0x1000
  | .LB_SYNC_STAT n => 0x40110028 + n.val * 0x1000
  | .LB_GT_LO n => 0x4011002C + n.val * 0x1000
  | .LB_GT_HI n => 0x40110030 + n.val * 0x1000
  | .LB_GT_ERR n => 0x40110034 + n.val * 0x1000
  | .LB_DRIFT n => 0x40110038 + n.val * 0x1000
  | .LB_REF_T n => 0x4011003C + n.val * 0x1000
  | .LB_PROP n m => 0x40110040 + n.val * 0x1000 + m.val * 0x4
  | .LB_TXFAIL n => 0x40110060 + n.val * 0x1000
  | .LB_IDCOL n => 0x40110064 + n.val * 0x1000
  | .LB_CNT n => 0x40110068 + n.val * 0x1000
  | .LB_FIFO n => 0x4011006C + n.val * 0x1000
  | .LB_FIFO_IDX n => 0x40110070 + n.val * 0x1000
  | .LB_TXREQ n m => 0x40110074 + n.val * 0x1000 + m.val * 0x4
  | .LB_TXDONE n m => 0x4011007C + n.val * 0x1000 + m.val * 0x4
  | .HST_ID => 0x100000000
  | .HST_STATUS => 0x100000004
  | .HST_DB => 0x100000008
  | .HST_ERR => 0x10000000C
  | .HST_IRQ_EN => 0x100000010
  | .HST_EVT_LOST => 0x100000014
  | .MBX_IRQ_EN => 0x40010000
  | .MBX_STATUS => 0x40010004
  | .MBX_SLOTS => 0x40010008
  | .MBX_POST => 0x4001000C
  | .MBX_EVT => 0x40010010
  | .MBX_EVT_LOST => 0x40010014
  | .MBX_CTL => 0x40010018
  | .SYS_RST_CAUSE => 0x40000040
  | .SYS_STRAP => 0x40000044
  | .SYS_BOOT => 0x40000048
  | .SYS_BOOT_VER => 0x4000004C
  | .SYS_PADFAIL n => 0x40000050 + n.val * 0x4
  | .SYS_CFG_LOCK => 0x40000064
  | .SYS_SWRST => 0x40000068
  | .SYS_FUSE => 0x40000070
  | .SYS_FUSE_CMD => 0x40000074
  | .SYS_FUSE_HASH n => 0x40000080 + n.val * 0x4

/-- The rows of a register's table. DESIGN CHOICE (log entry 37): a value outside a range that the table states without calling it reserved, as FLEN, MT_BITS,
ST_BITS and ERR_BIT have them (R96), is stored and used as written. -/
def Reg.rows : Reg → List FieldRow
  | .SYS_STATE => [⟨0, 3, .ro, 0, []⟩, ⟨4, 3, .ro, 0, []⟩, ⟨8, 1, .ro, 0, []⟩, ⟨9, 1, .ro, 0, []⟩, ⟨10, 1, .ro, 0, []⟩]
  | .SYS_STATE_REQ => [⟨0, 3, .wo, 0, []⟩, ⟨16, 16, .wo, 0, []⟩]
  | .SYS_AX_STATE => [⟨0, 3, .rw, 0, []⟩, ⟨4, 3, .rw, 0, []⟩, ⟨8, 3, .rw, 0, []⟩, ⟨12, 3, .rw, 0, []⟩]
  | .SYS_AUX_STATE => [⟨0, 3, .ro, 0, []⟩, ⟨4, 3, .ro, 0, []⟩, ⟨8, 3, .ro, 0, []⟩, ⟨12, 3, .ro, 0, []⟩, ⟨16, 3, .ro, 0, []⟩, ⟨20, 3, .ro, 0, []⟩, ⟨24, 3, .ro, 0, []⟩, ⟨28, 3, .ro, 0, []⟩]
  | .SYS_STATUS => [⟨0, 1, .w1c, 0, []⟩, ⟨1, 1, .w1c, 0, []⟩, ⟨2, 1, .w1c, 0, []⟩, ⟨3, 1, .w1c, 0, []⟩, ⟨4, 1, .w1c, 0, []⟩, ⟨5, 1, .w1c, 0, []⟩]
  | .SYS_REFUSE => [⟨0, 3, .ro, 0, []⟩, ⟨4, 3, .ro, 0, []⟩, ⟨8, 2, .ro, 0, []⟩, ⟨10, 1, .ro, 0, []⟩]
  | .SYS_FAULT => [⟨0, 16, .ro, 0, []⟩, ⟨16, 16, .ro, 0, []⟩]
  | .SYS_FAULT_CLR => [⟨0, 1, .wo, 0, []⟩]
  | .SYS_UNMAPPED_ADDR => [⟨0, 32, .ro, 0, []⟩]
  | .SYS_IRQ_EN => [⟨0, 7, .rw, 0, []⟩]
  | .SYS_TIME_LO => [⟨0, 32, .ro, 0, []⟩]
  | .SYS_TIME_HI => [⟨0, 32, .ro, 0, []⟩]
  | .SYS_GPIO_DIR => [⟨0, 32, .rw, 0, []⟩]
  | .SYS_GPIO_OUT => [⟨0, 32, .rw, 0, []⟩]
  | .SYS_GPIO_SET => [⟨0, 32, .wo, 0, []⟩]
  | .SYS_GPIO_CLR => [⟨0, 32, .wo, 0, []⟩]
  | .SYS_GPIO_IN => [⟨0, 32, .ro, 0, []⟩]
  | .SYS_GPIO_OWN => [⟨0, 32, .ro, 0, []⟩]
  | .SYS_GPIO_RISE => [⟨0, 32, .w1c, 0, []⟩]
  | .SYS_GPIO_FALL => [⟨0, 32, .w1c, 0, []⟩]
  | .SYS_GPIO_IE => [⟨0, 32, .rw, 0, []⟩]
  | .DMA_STATUS => [⟨0, 16, .w1c, 0, []⟩, ⟨16, 16, .w1c, 0, []⟩]
  | .DMA_IE => [⟨0, 16, .rw, 0, []⟩, ⟨16, 16, .rw, 0, []⟩]
  | .DMA_CH_CTL _ => [⟨0, 1, .rw, 0, []⟩, ⟨1, 6, .rw, 0, [(56, 62)]⟩, ⟨7, 1, .rw, 0, []⟩, ⟨8, 1, .rw, 0, []⟩, ⟨9, 4, .rw, 0, []⟩]
  | .DMA_CH_SRC _ => [⟨2, 30, .rw, 0, []⟩]
  | .DMA_CH_DST _ => [⟨2, 30, .rw, 0, []⟩]
  | .DMA_CH_LEN _ => [⟨0, 16, .rw, 1, [(0, 0)]⟩]
  | .DMA_CH_STAT _ => [⟨0, 16, .ro, 0, []⟩, ⟨16, 1, .ro, 0, []⟩, ⟨17, 1, .ro, 0, []⟩, ⟨24, 1, .w1c, 0, []⟩]
  | .DMA_CH_SWREQ _ => [⟨0, 1, .w1s, 0, []⟩]
  | .MAN_IRQ_EN => [⟨0, 6, .rw, 0, []⟩]
  | .MAN_AG_SUM => [⟨0, 8, .ro, 0, []⟩]
  | .MAN_AM_FIRED _ => [⟨0, 32, .w1c, 0, []⟩]
  | .MAN_AM_JUMPED _ => [⟨0, 32, .w1c, 0, []⟩]
  | .MAN_AM_IE _ => [⟨0, 32, .rw, 0, []⟩]
  | .MAN_AG_CTL _ => [⟨0, 1, .rw, 0, []⟩, ⟨1, 4, .rwl, 0, [(8, 15)]⟩, ⟨5, 3, .rwl, 0, []⟩, ⟨8, 1, .rwl, 0, []⟩, ⟨9, 3, .rw, 0, []⟩]
  | .MAN_AG_CPR _ => [⟨0, 25, .rwl, 4, [(0, 0), (16777217, 33554431)]⟩]
  | .MAN_AG_GEAR_NUM _ => [⟨0, 32, .rw, 1, [(0, 0)]⟩]
  | .MAN_AG_GEAR_DEN _ => [⟨0, 32, .rwl, 1, [(0, 0)]⟩]
  | .MAN_AG_PP _ => [⟨0, 7, .rwl, 1, [(0, 0), (65, 127)]⟩]
  | .MAN_AG_EOFS _ => [⟨0, 32, .rw, 0, []⟩]
  | .MAN_AG_JUMP_TH _ => [⟨0, 32, .rw, 0xFFFFFFFF, []⟩]
  | .MAN_AG_TMO _ => [⟨0, 16, .rw, 0, []⟩, ⟨16, 16, .rw, 0, []⟩]
  | .MAN_AG_RAMP_TGT _ => [⟨0, 32, .rw, 0, []⟩]
  | .MAN_AG_RAMP_ACC _ => [⟨0, 32, .rw, 0, []⟩]
  | .MAN_AG_STATUS _ => [⟨0, 1, .w1c, 0, []⟩, ⟨1, 1, .w1c, 0, []⟩, ⟨2, 1, .w1c, 0, []⟩, ⟨3, 1, .w1c, 0, []⟩, ⟨4, 1, .w1c, 0, []⟩, ⟨5, 1, .w1c, 0, []⟩, ⟨8, 1, .ro, 0, []⟩, ⟨9, 1, .ro, 0, []⟩, ⟨10, 1, .ro, 0, []⟩, ⟨11, 1, .ro, 0, []⟩]
  | .MAN_AG_JUMP_LAST _ => [⟨0, 32, .ro, 0, []⟩]
  | .MAN_AG_ELEC _ => [⟨0, 32, .ro, 0, []⟩]
  | .MAN_AG_MECH _ => [⟨0, 32, .ro, 0, []⟩]
  | .MAN_AG_SPEED _ => [⟨0, 32, .ro, 0, []⟩]
  | .MAN_AG_TURNS _ => [⟨0, 32, .ro, 0, []⟩]
  | .MAN_AG_TSNAP _ => [⟨0, 32, .ro, 0, []⟩]
  | .MAN_AG_LATCH_POS _ => [⟨0, 32, .ro, 0, []⟩]
  | .MAN_AG_LATCH_T _ => [⟨4, 28, .ro, 0, []⟩, ⟨0, 4, .ro, 0, []⟩]
  | .MAN_AM_CTL _ => [⟨0, 1, .rw, 0, []⟩, ⟨1, 3, .rw, 0, []⟩, ⟨4, 1, .rw, 0, []⟩, ⟨5, 2, .rw, 0, [(3, 3)]⟩, ⟨7, 1, .rw, 0, []⟩, ⟨8, 2, .ro, 0, []⟩]
  | .MAN_AM_ANGLE _ => [⟨0, 32, .rw, 0, []⟩]
  | .MAN_AM_HYST _ => [⟨0, 30, .rw, 0, []⟩]
  | .MAN_AM_TS _ => [⟨4, 28, .ro, 0, []⟩, ⟨0, 4, .ro, 0, []⟩]
  | .FBK_IRQ_EN => [⟨0, 6, .rw, 0, []⟩]
  | .FBK_SUM => [⟨0, 8, .ro, 0, []⟩, ⟨8, 4, .ro, 0, []⟩]
  | .FBK_QE_CTL _ => [⟨0, 1, .rw, 0, []⟩, ⟨1, 2, .rwl, 0, [(2, 3)]⟩, ⟨3, 1, .rw, 0, []⟩, ⟨4, 1, .rw, 0, []⟩, ⟨5, 1, .rw, 0, []⟩]
  | .FBK_QE_FILT _ => [⟨0, 8, .rw, 7, []⟩, ⟨8, 2, .rw, 0, []⟩, ⟨16, 8, .rw, 7, []⟩, ⟨24, 2, .rw, 0, []⟩]
  | .FBK_QE_MOD _ => [⟨0, 25, .rwl, 4, [(0, 0), (16777217, 33554431)]⟩]
  | .FBK_QE_CNT _ => [⟨0, 24, .rw, 0, []⟩]
  | .FBK_QE_TURNS _ => [⟨0, 32, .ro, 0, []⟩]
  | .FBK_QE_IDX_CTL _ => [⟨0, 2, .rw, 0, [(3, 3)]⟩, ⟨2, 1, .w1s, 0, []⟩, ⟨3, 1, .rw, 0, []⟩, ⟨4, 1, .rw, 0, []⟩, ⟨5, 2, .rw, 3, []⟩, ⟨8, 2, .rw, 0, []⟩, ⟨12, 4, .rw, 0, []⟩]
  | .FBK_QE_IDX_CNT _ => [⟨0, 24, .rw, 0, []⟩]
  | .FBK_QE_IDX_DIFF _ => [⟨0, 32, .ro, 0, []⟩]
  | .FBK_QE_IDX_STAT _ => [⟨0, 24, .ro, 0, []⟩, ⟨24, 5, .ro, 0, []⟩]
  | .FBK_QE_ERRCNT _ => [⟨0, 16, .ro, 0, []⟩, ⟨16, 16, .ro, 0, []⟩]
  | .FBK_QE_ERRLIM _ => [⟨0, 16, .rw, 0, []⟩]
  | .FBK_QE_CLR _ => [⟨0, 1, .wo, 0, []⟩, ⟨1, 1, .wo, 0, []⟩]
  | .FBK_QE_STATUS _ => [⟨0, 1, .w1c, 0, []⟩, ⟨1, 1, .w1c, 0, []⟩, ⟨2, 1, .w1c, 0, []⟩, ⟨3, 1, .w1c, 0, []⟩, ⟨4, 1, .w1c, 0, []⟩, ⟨5, 1, .w1c, 0, []⟩, ⟨6, 1, .w1c, 0, []⟩, ⟨7, 1, .w1c, 0, []⟩, ⟨8, 1, .w1c, 0, []⟩, ⟨9, 1, .w1c, 0, []⟩, ⟨10, 1, .w1c, 0, []⟩, ⟨16, 1, .ro, 0, []⟩, ⟨17, 1, .ro, 0, []⟩, ⟨18, 1, .ro, 0, []⟩, ⟨19, 3, .ro, 0, []⟩]
  | .FBK_QE_IDX_T _ => [⟨4, 28, .ro, 0, []⟩, ⟨0, 4, .ro, 0, []⟩]
  | .FBK_QE_CAP_T _ => [⟨4, 28, .ro, 0, []⟩, ⟨0, 4, .ro, 0, []⟩]
  | .FBK_QE_CAP_CTL _ => [⟨0, 3, .rw, 0, [(5, 5), (7, 7)]⟩, ⟨3, 8, .rw, 0, []⟩, ⟨11, 1, .w1s, 0, []⟩]
  | .FBK_QE_CAP_CNT _ => [⟨0, 24, .ro, 0, []⟩, ⟨24, 8, .ro, 0, []⟩]
  | .FBK_SSI_CTL _ => [⟨0, 1, .rw, 0, []⟩, ⟨1, 3, .rw, 0, [(7, 7)]⟩, ⟨4, 8, .rw, 0, []⟩, ⟨12, 1, .rwl, 0, []⟩, ⟨13, 2, .rwl, 0, [(3, 3)]⟩, ⟨15, 1, .w1s, 0, []⟩]
  | .FBK_SSI_CLK _ => [⟨0, 12, .rwl, 0x3B, [(0, 28)]⟩, ⟨16, 12, .rw, 0x14, [(0, 0)]⟩]
  | .FBK_SSI_FRAME _ => [⟨0, 6, .rwl, 0x19, []⟩, ⟨8, 5, .rwl, 0xC, []⟩, ⟨16, 5, .rwl, 0xD, []⟩, ⟨24, 6, .rwl, 0, []⟩]
  | .FBK_SSI_ERR _ => [⟨0, 6, .rwl, 0, []⟩, ⟨8, 1, .rwl, 0, []⟩, ⟨16, 4, .rw, 0, []⟩]
  | .FBK_SSI_PERIOD _ => [⟨0, 24, .rw, 0, []⟩]
  | .FBK_SSI_LDC _ => [⟨0, 11, .rw, 0, [(1201, 2047)]⟩, ⟨16, 8, .rw, 0, []⟩]
  | .FBK_SSI_ST _ => [⟨0, 24, .ro, 0, []⟩]
  | .FBK_SSI_MT _ => [⟨0, 16, .ro, 0, []⟩]
  | .FBK_SSI_RAW_LO _ => [⟨0, 32, .ro, 0, []⟩]
  | .FBK_SSI_RAW_HI _ => [⟨0, 32, .ro, 0, []⟩]
  | .FBK_SSI_T _ => [⟨4, 28, .ro, 0, []⟩, ⟨0, 4, .ro, 0, []⟩]
  | .FBK_SSI_STATUS _ => [⟨0, 1, .w1c, 0, []⟩, ⟨1, 1, .w1c, 0, []⟩, ⟨2, 1, .w1c, 0, []⟩, ⟨3, 1, .w1c, 0, []⟩, ⟨4, 1, .w1c, 0, []⟩, ⟨5, 1, .w1c, 0, []⟩, ⟨6, 1, .w1c, 0, []⟩, ⟨8, 1, .ro, 0, []⟩, ⟨9, 1, .ro, 0, []⟩, ⟨12, 4, .ro, 0, []⟩]
  | .FBK_SSI_FRAMES _ => [⟨0, 32, .ro, 0, []⟩]
  | .SDM_IRQ_EN => [⟨0, 7, .rw, 0, []⟩]
  | .SDM_SUM => [⟨0, 32, .ro, 0, []⟩]
  | .SDM_SWTRG => [⟨0, 32, .wo, 0, []⟩]
  | .SDM_WORD_IE => [⟨0, 32, .rw, 0, []⟩]
  | .SDM_CK_CTL _ => [⟨0, 1, .rw, 0, []⟩, ⟨1, 7, .rw, 0x1E, [(0, 23), (121, 127)]⟩]
  | .SDM_CH_CTL _ => [⟨0, 1, .rw, 0, []⟩, ⟨1, 2, .rw, 0, []⟩, ⟨4, 3, .rw, 2, [(5, 7)]⟩, ⟨8, 2, .rw, 0, []⟩, ⟨10, 6, .rw, 0, []⟩, ⟨16, 4, .rw, 0, []⟩, ⟨20, 2, .rw, 0, [(3, 3)]⟩, ⟨22, 1, .rw, 0, []⟩, ⟨23, 1, .rw, 0, []⟩]
  | .SDM_CH_OFS _ => [⟨0, 24, .rw, 0, []⟩]
  | .SDM_CH_GAIN _ => [⟨0, 16, .rw, 0x8000, []⟩]
  | .SDM_CH_FTH _ => [⟨0, 16, .rw, 0x7FFF, []⟩, ⟨16, 16, .rw, 0x8000, []⟩]
  | .SDM_CH_FHYS _ => [⟨0, 16, .rw, 0, []⟩]
  | .SDM_CH_DATA _ => [⟨0, 32, .ro, 0, []⟩]
  | .SDM_CH_FWORD _ => [⟨0, 16, .ro, 0, []⟩]
  | .SDM_CH_WS_T _ => [⟨4, 28, .ro, 0, []⟩, ⟨0, 4, .ro, 0, []⟩]
  | .SDM_CH_STATUS _ => [⟨0, 1, .w1c, 0, []⟩, ⟨1, 1, .w1c, 0, []⟩, ⟨2, 1, .w1c, 0, []⟩, ⟨3, 1, .w1c, 0, []⟩, ⟨4, 1, .w1c, 0, []⟩, ⟨5, 1, .w1c, 0, []⟩, ⟨8, 1, .ro, 0, []⟩, ⟨9, 1, .ro, 0, []⟩, ⟨10, 1, .ro, 0, []⟩]
  | .SDM_CHK_CTL _ => [⟨0, 1, .rw, 0, []⟩, ⟨8, 4, .rw, 0, []⟩, ⟨16, 16, .rw, 0xFFFF, []⟩]
  | .SDM_CHK_STAT _ => [⟨0, 16, .ro, 0, []⟩, ⟨16, 4, .ro, 0, []⟩, ⟨20, 1, .w1c, 0, []⟩, ⟨21, 1, .w1c, 0, []⟩]
  | .SDM_SG_CTL _ => [⟨0, 1, .rw, 0, []⟩, ⟨1, 1, .rw, 0, []⟩, ⟨8, 4, .rw, 0, []⟩, ⟨16, 16, .rw, 0xFFFF, []⟩]
  | .SDM_SG_STAT _ => [⟨0, 16, .ro, 0, []⟩, ⟨16, 4, .ro, 0, []⟩, ⟨20, 4, .ro, 0, []⟩, ⟨24, 1, .w1c, 0, []⟩, ⟨25, 1, .w1c, 0, []⟩, ⟨26, 1, .w1c, 0, []⟩]
  | .SDM_CNT_CLR => [⟨0, 16, .wo, 0, []⟩, ⟨16, 4, .wo, 0, []⟩]
  | .LOOP_CTL => [⟨0, 1, .rw, 0, []⟩]
  | .LOOP_IRQ_EN => [⟨0, 7, .rw, 0, []⟩]
  | .LOOP_STATUS => [⟨0, 1, .w1c, 0, []⟩, ⟨1, 1, .w1c, 0, []⟩, ⟨2, 1, .w1c, 0, []⟩, ⟨3, 1, .w1c, 0, []⟩, ⟨4, 1, .w1c, 0, []⟩, ⟨5, 1, .w1c, 0, []⟩, ⟨6, 1, .w1c, 0, []⟩, ⟨7, 1, .w1c, 0, []⟩, ⟨8, 1, .w1c, 0, []⟩, ⟨16, 5, .ro, 0, []⟩, ⟨24, 5, .ro, 0, []⟩]
  | .LOOP_SPARE => [⟨0, 24, .rwl, 0xC00000, []⟩]
  | .LOOP_PAIR_CMD => [⟨0, 5, .wo, 0, []⟩, ⟨8, 3, .wo, 0, []⟩, ⟨16, 16, .wo, 0, []⟩]
  | .LOOP_MISS_LAST => [⟨0, 9, .ro, 0, []⟩, ⟨16, 5, .ro, 0, []⟩, ⟨24, 1, .ro, 0, []⟩]
  | .LOOP_RETIRE_LAST => [⟨0, 5, .ro, 0, []⟩, ⟨8, 3, .ro, 0, []⟩, ⟨16, 5, .ro, 0, []⟩, ⟨24, 1, .ro, 0, []⟩]
  | .LOOP_SWREL => [⟨0, 9, .wo, 0, []⟩]
  | .LOOP_TICK_PER _ => [⟨0, 24, .rw, 0, []⟩]
  | .LOOP_TICK_PH _ => [⟨0, 24, .rw, 0, []⟩]
  | .LOOP_P_STATE _ => [⟨0, 3, .ro, 0, []⟩, ⟨3, 1, .ro, 0, []⟩, ⟨4, 1, .ro, 0, []⟩, ⟨8, 2, .ro, 0, []⟩, ⟨12, 4, .ro, 0, []⟩, ⟨16, 9, .ro, 0, []⟩]
  | .LOOP_P_MARGIN _ => [⟨0, 24, .rw, 0, []⟩]
  | .LOOP_P_SLACK _ => [⟨0, 24, .ro, 0, []⟩]
  | .LOOP_P_CNT _ => [⟨0, 16, .ro, 0, []⟩, ⟨16, 16, .ro, 0, []⟩]
  | .LOOP_P_ECC _ => [⟨0, 16, .ro, 0, []⟩]
  | .LOOP_D_CTL _ => [⟨0, 1, .rw, 0, []⟩, ⟨1, 1, .rw, 0, []⟩, ⟨2, 3, .rw, 0, []⟩, ⟨5, 6, .rw, 0, []⟩, ⟨11, 5, .rw, 0, []⟩, ⟨16, 3, .rw, 0, []⟩, ⟨20, 3, .rw, 0, [(7, 7)]⟩, ⟨24, 4, .rw, 0, []⟩]
  | .LOOP_D_CPH _ => [⟨0, 24, .rw, 0, []⟩]
  | .LOOP_D_BUD _ => [⟨0, 24, .rw, 0, []⟩]
  | .LOOP_D_ENTRY _ => [⟨2, 14, .rw, 0, []⟩]
  | .LOOP_D_CTX _ => [⟨3, 13, .rw, 0, []⟩, ⟨16, 9, .rw, 0, [(257, 511)]⟩]
  | .LOOP_D_CTXS _ => [⟨12, 20, .rw, 0, []⟩]
  | .LOOP_D_OUT _ => [⟨0, 10, .rw, 0, []⟩, ⟨16, 5, .rw, 0, []⟩]
  | .LOOP_D_STAT _ => [⟨0, 4, .ro, 0, []⟩, ⟨8, 5, .ro, 0, []⟩, ⟨16, 1, .ro, 0, []⟩, ⟨17, 1, .ro, 0, []⟩, ⟨18, 1, .ro, 0, []⟩, ⟨24, 8, .ro, 0, []⟩]
  | .LOOP_TGT _ => [⟨0, 32, .rw, 0, []⟩]
  | .PWM_IRQ_EN => [⟨0, 8, .rw, 0, []⟩]
  | .PWM_SUM => [⟨0, 16, .ro, 0, []⟩]
  | .PWM_XFER_IE => [⟨0, 16, .rw, 0, []⟩]
  | .PWM_START => [⟨0, 16, .w1s, 0, []⟩]
  | .PWM_STOP => [⟨0, 16, .w1s, 0, []⟩]
  | .PWM_LOADALL => [⟨0, 16, .w1s, 0, []⟩]
  | .PWM_XMARK => [⟨0, 6, .rw, 0, []⟩, ⟨8, 1, .rw, 0, []⟩]
  | .PWM_POL => [⟨0, 4, .ro, 0, []⟩]
  | .PWM_PAD => [⟨0, 16, .ro, 0, []⟩]
  | .PWM_G_CFG n => [⟨0, 3, .rwc, 0, if n.val < 4 then [(2, 3), (5, 7)] else if n.val < 6 then [(4, 7)]
      else if n.val < 14 then [(1, 4), (6, 7)] else if n.val = 14 then [(4, 7)] else [(1, 7)]⟩, ⟨4, 1, .rwc, 0, []⟩,
      ⟨5, 2, .rwc, 0, [(3, 3)]⟩] ++ (if n.val < 4 then [⟨3, 1, .rwc, 0, []⟩] else []) ++
      (if 6 ≤ n.val ∧ n.val < 14 then [⟨7, 1, .ro, 1, []⟩] else [⟨7, 1, .rwc, 0, []⟩]) ++
      (if n.val = 4 ∨ n.val = 5 ∨ n.val = 14 then [⟨8, 1, .rwc, 0, []⟩] else [])
  | .PWM_G_CTL _ => [⟨0, 1, .w1s, 0, []⟩, ⟨1, 1, .rw, 0, []⟩]
  | .PWM_G_STATUS _ => [⟨0, 1, .w1c, 0, []⟩, ⟨1, 1, .w1c, 0, []⟩, ⟨2, 1, .w1c, 0, []⟩, ⟨3, 1, .w1c, 0, []⟩, ⟨4, 1, .w1c, 0, []⟩, ⟨5, 1, .w1c, 0, []⟩, ⟨6, 1, .w1c, 0, []⟩, ⟨7, 1, .w1c, 0, []⟩, ⟨8, 1, .w1c, 0, []⟩, ⟨16, 1, .ro, 0, []⟩, ⟨17, 1, .ro, 0, []⟩]
  | .PWM_G_PER _ => [⟨0, 24, .rw, 0x124F8, [(0, 63)]⟩]
  | .PWM_G_PER_ACT _ => [⟨0, 24, .ro, 0x124F8, []⟩]
  | .PWM_G_PHASE _ => [⟨0, 24, .rwc, 0, []⟩]
  | .PWM_G_CNT _ => [⟨0, 24, .ro, 0, []⟩]
  | .PWM_G_OUT_EN n => if n.val < 4 then [⟨0, 18, .rwc, 0, []⟩] else if n.val < 6 then [⟨0, 8, .rwc, 0, []⟩]
      else if n.val < 14 then [⟨0, 6, .rwc, 0, []⟩] else if n.val = 14 then [⟨0, 2, .rwc, 0, []⟩] else []
  | .PWM_G_DT _ => [⟨0, 16, .rwc, 0x2580, []⟩, ⟨16, 16, .rwc, 0x2580, []⟩]
  | .PWM_G_DT_C _ => [⟨0, 16, .rwc, 0xDA7F, []⟩, ⟨16, 16, .rwc, 0xDA7F, []⟩]
  | .PWM_G_BOOT _ => [⟨0, 12, .rwc, 0xF0, [(0, 0)]⟩, ⟨16, 16, .rwc, 0x2710, [(0, 0)]⟩]
  | .PWM_G_BOOT_C _ => [⟨0, 12, .rwc, 0xF0F, []⟩, ⟨16, 16, .rwc, 0xD8EF, []⟩]
  | .PWM_G_VP _ => [⟨0, 10, .rwc, 0, []⟩, ⟨16, 10, .rwc, 0, []⟩]
  | .PWM_G_VPT _ => [⟨0, 24, .rwc, 0xFFFFFF, [(0, 0)]⟩]
  | .PWM_G_SNS _ _ => [⟨0, 6, .rwc, 0, []⟩, ⟨8, 6, .rwc, 0, []⟩, ⟨14, 1, .rwc, 0, []⟩, ⟨16, 1, .rw, 0, []⟩]
  | .PWM_G_CMP _ _ => [⟨4, 24, .rw, 0, []⟩, ⟨0, 4, .rw, 0, []⟩]
  | .PWM_G_CMP_ACT _ _ => [⟨4, 24, .ro, 0, []⟩, ⟨0, 4, .ro, 0, []⟩]
  | .PWM_G_VP_LAST _ _ => [⟨0, 24, .ro, 0, []⟩]
  | .PWM_PAT_CHK => [⟨0, 6, .ro, 0, []⟩, ⟨8, 1, .ro, 0, []⟩, ⟨9, 1, .ro, 0, []⟩, ⟨12, 3, .ro, 0, []⟩, ⟨16, 1, .w1c, 0, []⟩]
  | .PWM_G_PAT_CTL _ => [⟨0, 3, .rwc, 0, []⟩, ⟨4, 1, .rwc, 0, []⟩, ⟨5, 1, .rwc, 0, []⟩]
  | .PWM_G_PAT_OFS _ => [⟨0, 32, .rwc, 0, []⟩]
  | .PWM_G_PAT_DLYC _ => [⟨0, 16, .rwc, 0, []⟩]
  | .PWM_G_PAT_LVL _ => [⟨0, 3, .rwc, 5, []⟩, ⟨4, 3, .rwc, 4, []⟩, ⟨8, 3, .rwc, 0, []⟩, ⟨12, 3, .rwc, 2, []⟩]
  | .PWM_G_PSEL _ => [⟨0, 6, .rw, 0, []⟩]
  | .PWM_G_PSEL_ACT _ => [⟨0, 6, .ro, 0, []⟩]
  | .PWM_G_PAT_ISIGN _ => [⟨0, 2, .rw, 0, []⟩, ⟨2, 2, .rw, 0, []⟩, ⟨4, 2, .rw, 0, []⟩]
  | .PWM_G_PAT_STATUS _ => [⟨0, 1, .w1c, 0, []⟩, ⟨1, 1, .w1c, 0, []⟩, ⟨2, 1, .w1c, 0, []⟩, ⟨3, 1, .w1c, 0, []⟩, ⟨16, 1, .ro, 0, []⟩, ⟨20, 2, .ro, 0, []⟩, ⟨22, 2, .ro, 0, []⟩, ⟨24, 2, .ro, 0, []⟩]
  | .PWM_G_PAT_HOV_T _ => [⟨4, 28, .ro, 0, []⟩, ⟨0, 4, .ro, 0, []⟩]
  | .CMP_IRQ_EN => [⟨0, 6, .rw, 0, []⟩]
  | .CMP_SUM _ => [⟨0, 32, .ro, 0, []⟩]
  | .CMP_TS_CTL => [⟨0, 1, .rwl, 0, []⟩, ⟨8, 8, .rwl, 0x64, [(0, 0)]⟩, ⟨16, 4, .rwl, 4, []⟩, ⟨20, 4, .rwl, 3, [(0, 0)]⟩]
  | .CMP_TS_STAT => [⟨0, 6, .ro, 0, []⟩, ⟨8, 1, .ro, 0, []⟩, ⟨9, 1, .ro, 0, []⟩]
  | .CMP_WC_CTL _ => [⟨0, 1, .rw, 0, []⟩, ⟨1, 1, .rw, 0, []⟩, ⟨2, 2, .rw, 0, []⟩, ⟨4, 2, .rw, 0, [(3, 3)]⟩, ⟨6, 1, .rw, 0, []⟩, ⟨8, 4, .rw, 0, []⟩, ⟨12, 1, .rw, 0, []⟩, ⟨13, 1, .rwl, 0, []⟩, ⟨16, 6, .rwl, 0, []⟩]
  | .CMP_WC_TH _ => [⟨0, 10, .rw, 0, []⟩, ⟨16, 10, .rw, 0x3FF, []⟩]
  | .CMP_WC_STAT _ => [⟨0, 1, .w1c, 0, []⟩, ⟨1, 1, .w1c, 0, []⟩, ⟨2, 1, .w1c, 0, []⟩, ⟨3, 1, .w1c, 0, []⟩, ⟨4, 1, .w1c, 0, []⟩, ⟨5, 1, .w1c, 0, []⟩, ⟨6, 1, .w1c, 0, []⟩, ⟨7, 1, .w1c, 0, []⟩, ⟨16, 1, .ro, 0, []⟩, ⟨17, 1, .ro, 0, []⟩, ⟨18, 1, .ro, 0, []⟩, ⟨20, 4, .ro, 0, []⟩]
  | .CMP_WC_RB _ => [⟨0, 10, .ro, 0, []⟩, ⟨16, 10, .ro, 0, []⟩]
  | .QNC_IRQ_EN => [⟨0, 6, .rw, 0, []⟩]
  | .QNC_STATUS => [⟨0, 1, .w1c, 0, []⟩, ⟨1, 1, .w1c, 0, []⟩, ⟨2, 1, .w1c, 0, []⟩, ⟨3, 1, .w1c, 0, []⟩, ⟨4, 1, .w1c, 0, []⟩, ⟨5, 1, .w1c, 0, []⟩, ⟨8, 1, .ro, 0, []⟩]
  | .QNC_SAFESEL => [⟨0, 8, .ro, 0, []⟩, ⟨8, 8, .ro, 0, []⟩, ⟨24, 8, .ro, 0, []⟩]
  | .QNC_SEL_USED => [⟨0, 8, .ro, 0, []⟩]
  | .QNC_CRC => [⟨0, 32, .ro, 0, []⟩]
  | .QNC_ASC_DLY _ => [⟨0, 4, .rwl, 5, []⟩, ⟨4, 4, .rwl, 5, []⟩, ⟨8, 4, .rwl, 5, []⟩, ⟨12, 4, .rwl, 5, []⟩, ⟨16, 4, .rwl, 5, []⟩, ⟨20, 4, .rwl, 5, []⟩, ⟨24, 4, .rwl, 5, []⟩, ⟨28, 4, .rwl, 5, []⟩]
  | .QNC_ASC_DLY_C _ => [⟨0, 4, .rwl, 0xA, []⟩, ⟨4, 4, .rwl, 0xA, []⟩, ⟨8, 4, .rwl, 0xA, []⟩, ⟨12, 4, .rwl, 0xA, []⟩, ⟨16, 4, .rwl, 0xA, []⟩, ⟨20, 4, .rwl, 0xA, []⟩, ⟨24, 4, .rwl, 0xA, []⟩, ⟨28, 4, .rwl, 0xA, []⟩]
  | .QNC_CLR _ => [⟨0, 32, .wo, 0, []⟩]
  | .QNC_REFUSED _ => [⟨0, 32, .ro, 0, []⟩]
  | .QNC_LATCH _ => [⟨0, 32, .ro, 0, []⟩]
  | .QNC_RAW _ => [⟨0, 32, .ro, 0, []⟩]
  | .QNC_PROF_LO _ => [⟨0, 4, .rwl, 0, [(6, 15)]⟩, ⟨4, 4, .rwl, 0, [(6, 15)]⟩, ⟨8, 4, .rwl, 0, [(6, 15)]⟩, ⟨12, 4, .rwl, 0, [(6, 15)]⟩, ⟨16, 4, .rwl, 0, [(6, 15)]⟩, ⟨20, 4, .rwl, 0, [(6, 15)]⟩, ⟨24, 4, .rwl, 0, [(6, 15)]⟩, ⟨28, 4, .rwl, 0, [(6, 15)]⟩]
  | .QNC_PROF_HI _ => [⟨0, 4, .rwl, 0, [(6, 15)]⟩, ⟨4, 4, .rwl, 0, [(6, 15)]⟩, ⟨8, 4, .rwl, 0, [(6, 15)]⟩, ⟨12, 4, .rwl, 0, [(6, 15)]⟩, ⟨16, 4, .rwl, 0, [(6, 15)]⟩, ⟨20, 4, .rwl, 0, [(6, 15)]⟩, ⟨24, 4, .rwl, 0, [(6, 15)]⟩, ⟨28, 4, .rwl, 0, [(6, 15)]⟩]
  | .QNC_G_ASC_L n => [⟨0, 18, .rwl, if n.val < 4 then 0x2A else if n.val < 6 then 0xAA else 0, []⟩]
  | .QNC_G_ASC_H n => [⟨0, 18, .rwl, if n.val < 4 then 0x15 else if n.val < 6 then 0x55 else 0, []⟩]
  | .QNC_G_PAT _ => [⟨0, 18, .rwl, 0, []⟩]
  | .QNC_G_STATE _ => [⟨0, 1, .ro, 0, []⟩, ⟨1, 1, .ro, 0, []⟩, ⟨2, 1, .ro, 0, []⟩, ⟨3, 4, .ro, 0, []⟩, ⟨8, 7, .ro, 0, []⟩, ⟨16, 1, .ro, 0, []⟩]
  | .QNC_G_TRIP_T _ => [⟨4, 28, .ro, 0, []⟩, ⟨0, 4, .ro, 0, []⟩]
  | .QNC_ROUTE _ => [⟨0, 16, .rwl, 0, []⟩, ⟨16, 3, .rwl, 0, []⟩, ⟨24, 1, .rwl, 0, []⟩]
  | .AUX_IRQ_EN => [⟨0, 7, .rw, 0, []⟩]
  | .AUX_SUM => [⟨0, 8, .ro, 0, []⟩]
  | .AUX_CH_CTL _ => [⟨0, 1, .rw, 0, []⟩, ⟨1, 1, .rw, 0, []⟩, ⟨2, 1, .rw, 0, []⟩, ⟨3, 1, .rw, 0, []⟩, ⟨4, 6, .rw, 0, []⟩, ⟨12, 3, .rw, 0, [(6, 7)]⟩]
  | .AUX_CH_CMD _ => [⟨0, 2, .wo, 0, []⟩]
  | .AUX_CH_ZC _ => [⟨0, 8, .rw, 0x20, [(0, 0)]⟩, ⟨8, 2, .rw, 1, []⟩, ⟨16, 8, .rw, 0x78, []⟩, ⟨24, 6, .rw, 0x10, []⟩]
  | .AUX_CH_IPK _ => [⟨0, 10, .rw, 0x3FF, []⟩, ⟨12, 2, .rw, 0, []⟩, ⟨16, 8, .rw, 0x78, []⟩]
  | .AUX_CH_SPD _ => [⟨0, 8, .rw, 0x14, [(0, 0)]⟩, ⟨8, 8, .rw, 5, [(0, 0)]⟩, ⟨16, 8, .rw, 0x10, [(0, 0)]⟩, ⟨24, 8, .rw, 0xA, [(0, 0)]⟩]
  | .AUX_CH_ADV _ _ => [⟨0, 8, .rw, 0, [(121, 255)]⟩, ⟨8, 8, .rw, 0, [(121, 255)]⟩, ⟨16, 8, .rw, 0, [(121, 255)]⟩, ⟨24, 8, .rw, 0, [(121, 255)]⟩]
  | .AUX_CH_START _ => [⟨0, 8, .rw, 0x14, [(0, 0)]⟩, ⟨8, 8, .rw, 0x40, []⟩, ⟨16, 8, .rw, 0x14, [(0, 0)]⟩, ⟨24, 8, .rw, 0xA, [(0, 0)]⟩]
  | .AUX_CH_RAMP _ => [⟨0, 8, .rw, 2, [(0, 0)]⟩, ⟨8, 8, .rw, 0x28, []⟩, ⟨16, 12, .rw, 0x32, []⟩, ⟨28, 4, .rw, 5, [(0, 0)]⟩]
  | .AUX_CH_STATUS _ => [⟨0, 1, .w1c, 0, []⟩, ⟨1, 1, .w1c, 0, []⟩, ⟨2, 1, .w1c, 0, []⟩, ⟨3, 1, .w1c, 0, []⟩, ⟨4, 1, .w1c, 0, []⟩, ⟨5, 1, .w1c, 0, []⟩, ⟨6, 1, .w1c, 0, []⟩, ⟨7, 1, .w1c, 0, []⟩, ⟨16, 3, .ro, 0, []⟩, ⟨19, 3, .ro, 0, []⟩, ⟨22, 2, .ro, 0, []⟩, ⟨24, 1, .ro, 0, []⟩]
  | .AUX_CH_TSEC _ => [⟨0, 32, .ro, 0, []⟩]
  | .AUX_CH_FREQ _ => [⟨0, 16, .ro, 0, []⟩, ⟨16, 4, .ro, 0, []⟩]
  | .AUX_CH_ZC_T _ => [⟨4, 28, .ro, 0, []⟩, ⟨0, 4, .ro, 0, []⟩]
  | .PWM_DSC_PCH_CFG => [⟨0, 5, .rwl, 0, []⟩, ⟨5, 1, .rwl, 0, []⟩, ⟨8, 5, .rwl, 1, []⟩, ⟨13, 1, .rwl, 0, []⟩, ⟨16, 5, .rwl, 2, []⟩, ⟨24, 5, .rwl, 3, []⟩]
  | .PWM_DSC_PCH_TIME => [⟨0, 8, .rwl, 0xA, [(0, 0)]⟩, ⟨8, 8, .rwl, 0x32, [(0, 0)]⟩, ⟨16, 8, .rwl, 0x32, []⟩]
  | .PWM_DSC_PCH_V => [⟨0, 16, .rwl, 0x1F4, []⟩, ⟨16, 16, .rwl, 0x12C, []⟩]
  | .PWM_DSC_VCH => [⟨0, 6, .rwl, 0, [(61, 63)]⟩, ⟨8, 6, .rwl, 1, [(61, 63)]⟩, ⟨16, 16, .rwl, 0x2EE0, []⟩]
  | .PWM_DSC_PCH_CMD => [⟨0, 2, .wo, 0, []⟩, ⟨16, 16, .wo, 0, []⟩]
  | .PWM_DSC_PCH_STAT => [⟨0, 1, .w1c, 0, []⟩, ⟨1, 1, .w1c, 0, []⟩, ⟨2, 1, .w1c, 0, []⟩, ⟨3, 1, .w1c, 0, []⟩, ⟨4, 1, .w1c, 0, []⟩, ⟨5, 1, .w1c, 0, []⟩, ⟨8, 3, .ro, 0, []⟩]
  | .PWM_DSC_VLINK => [⟨0, 16, .ro, 0, []⟩, ⟨16, 16, .ro, 0, []⟩]
  | .PWM_DSC_DSG_CFG => [⟨0, 1, .rwl, 0, []⟩, ⟨1, 2, .rwl, 3, []⟩, ⟨4, 2, .rwl, 0, []⟩, ⟨6, 1, .rwl, 0, []⟩, ⟨8, 8, .rwl, 0xCD, []⟩, ⟨16, 8, .rwl, 0xA, [(0, 0)]⟩, ⟨24, 8, .rwl, 0x1E, []⟩]
  | .PWM_DSC_DSG_TGT => [⟨0, 16, .rwl, 0x258, []⟩, ⟨16, 16, .rwl, 0x12C, [(0, 0)]⟩]
  | .PWM_DSC_DSG_SHM => [⟨2, 30, .rwl, 0, []⟩]
  | .PWM_DSC_DSG_REQ => [⟨0, 1, .wo, 0, []⟩, ⟨16, 16, .wo, 0, []⟩]
  | .PWM_DSC_DSG_STAT => [⟨0, 1, .w1c, 0, []⟩, ⟨1, 1, .w1c, 0, []⟩, ⟨2, 1, .w1c, 0, []⟩, ⟨3, 1, .w1c, 0, []⟩, ⟨8, 3, .ro, 0, []⟩, ⟨12, 2, .ro, 0, []⟩, ⟨16, 16, .ro, 0, []⟩]
  | .ANV_IRQ_EN => [⟨0, 8, .rwl, 0, []⟩]
  | .ANV_STATUS => [⟨0, 3, .ro, 0, []⟩, ⟨4, 1, .ro, 0, []⟩, ⟨5, 1, .ro, 0, []⟩, ⟨6, 1, .ro, 0, []⟩, ⟨7, 1, .ro, 0, []⟩, ⟨8, 1, .ro, 0, []⟩, ⟨9, 1, .ro, 0, []⟩, ⟨10, 1, .ro, 0, []⟩, ⟨11, 1, .ro, 0, []⟩, ⟨12, 1, .ro, 0, []⟩]
  | .ANV_CAUSE => [⟨0, 8, .ro, 0, []⟩, ⟨8, 3, .ro, 0, []⟩, ⟨12, 3, .ro, 0, []⟩, ⟨16, 16, .ro, 0, []⟩]
  | .ANV_CFG => [⟨0, 8, .rwl, 0x32, []⟩, ⟨8, 8, .rwl, 0, []⟩, ⟨16, 8, .rwl, 0xFF, []⟩, ⟨24, 8, .rwl, 0x40, []⟩]
  | .ANV_WD => [⟨0, 8, .rwl, 0, []⟩, ⟨8, 4, .rwl, 0xD, []⟩, ⟨16, 5, .rwl, 2, []⟩, ⟨24, 4, .rwl, 0xD, []⟩]
  | .ANV_VDC => [⟨0, 6, .rwl, 0, [(61, 63)]⟩, ⟨8, 4, .rwl, 9, []⟩, ⟨16, 16, .rwl, 0x2EE0, []⟩]
  | .ANV_VDC_LIM => [⟨0, 16, .rwl, 0, []⟩, ⟨16, 16, .rwl, 0, []⟩]
  | .ANV_SBC => [⟨0, 2, .rwl, 0, []⟩, ⟨2, 1, .rwl, 0, []⟩, ⟨4, 2, .rwl, 1, []⟩, ⟨6, 1, .rwl, 0, []⟩, ⟨8, 1, .rwl, 0, []⟩, ⟨9, 5, .rwl, 0, []⟩, ⟨16, 1, .rwl, 0, []⟩, ⟨17, 5, .rwl, 0, []⟩, ⟨24, 8, .rwl, 0x32, [(0, 0)]⟩]
  | .ANV_SBC_STAT => [⟨0, 2, .ro, 0, []⟩, ⟨2, 2, .ro, 0, []⟩, ⟨4, 2, .ro, 0, []⟩]
  | .ANV_PCRC => [⟨0, 32, .ro, 0, []⟩]
  | .ANV_PSTAT => [⟨0, 1, .ro, 0, []⟩, ⟨1, 1, .ro, 0, []⟩, ⟨2, 1, .ro, 0, []⟩, ⟨3, 1, .ro, 0, []⟩, ⟨4, 1, .ro, 0, []⟩, ⟨16, 16, .ro, 0, []⟩]
  | .ANV_DEMAND => [⟨0, 32, .ro, 0, []⟩]
  | .ANV_SSPI => [⟨0, 16, .ro, 0, []⟩, ⟨16, 8, .ro, 0, []⟩]
  | .ANV_RET => [⟨0, 5, .ro, 0, []⟩, ⟨8, 5, .ro, 0, []⟩, ⟨16, 3, .ro, 0, []⟩, ⟨20, 1, .ro, 0, []⟩]
  | .ANV_AX_CFG _ => [⟨0, 1, .rwl, 0, []⟩, ⟨1, 2, .rwl, 0, [(3, 3)]⟩, ⟨4, 3, .rwl, 0, []⟩, ⟨8, 7, .rwl, 1, []⟩, ⟨16, 1, .rwl, 0, []⟩]
  | .ANV_AX_CPR _ => [⟨0, 25, .rwl, 4, []⟩]
  | .ANV_AX_EOFS _ => [⟨0, 32, .rwl, 0, []⟩]
  | .ANV_AX_IMAX _ => [⟨0, 16, .rwl, 0x7FFF, []⟩, ⟨16, 8, .rwl, 4, []⟩]
  | .ANV_AX_ISC _ => [⟨0, 32, .rwl, 0, []⟩]
  | .ANV_AX_NMAX _ => [⟨0, 16, .rwl, 0, []⟩]
  | .ANV_AX_SLS01 _ => [⟨0, 16, .rwl, 0, []⟩, ⟨16, 16, .rwl, 0, []⟩]
  | .ANV_AX_SLS23 _ => [⟨0, 16, .rwl, 0, []⟩, ⟨16, 16, .rwl, 0, []⟩]
  | .ANV_AX_SLSC _ => [⟨0, 8, .rwl, 0x64, []⟩, ⟨8, 8, .rwl, 0x1E, []⟩, ⟨16, 16, .rwl, 0x40, []⟩]
  | .ANV_AX_SS1 _ => [⟨0, 16, .rwl, 0x1F4, [(0, 0)]⟩, ⟨16, 8, .rwl, 0x32, [(0, 0)]⟩, ⟨24, 8, .rwl, 0xA, []⟩]
  | .ANV_AX_KE _ => [⟨0, 32, .rwl, 0, []⟩]
  | .ANV_AX_SELTH _ => [⟨0, 8, .rwl, 0xF3, []⟩, ⟨8, 8, .rwl, 0xDA, []⟩, ⟨16, 4, .rwl, 4, []⟩]
  | .ANV_AX_ITAB _ => [⟨0, 32, .rwl, 0, []⟩]
  | .ANV_AX_NTAB _ => [⟨0, 32, .rwl, 0, []⟩]
  | .ANV_AX_TTOL _ => [⟨0, 32, .rwl, 0, []⟩]
  | .ANV_AX_REACT _ => [⟨0, 32, .rwl, 0x94941114, []⟩]
  | .ANV_AX_STAT _ => [⟨0, 1, .ro, 0, []⟩, ⟨1, 1, .ro, 0, []⟩, ⟨2, 1, .ro, 0, []⟩, ⟨3, 1, .ro, 0, []⟩, ⟨4, 1, .ro, 0, []⟩, ⟨5, 2, .ro, 0, []⟩, ⟨8, 2, .ro, 0, []⟩, ⟨16, 8, .ro, 0, []⟩, ⟨24, 3, .ro, 0, []⟩]
  | .ANV_AX_SPEED _ => [⟨0, 32, .ro, 0, []⟩]
  | .ANV_AX_TQ _ => [⟨0, 32, .ro, 0, []⟩]
  | .ANV_AX_POS _ => [⟨0, 24, .ro, 0, []⟩]
  | .ASY_IRQ_EN => [⟨0, 6, .rw, 0, []⟩]
  | .ASY_STATUS => [⟨0, 1, .w1c, 0, []⟩, ⟨1, 1, .w1c, 0, []⟩, ⟨2, 1, .w1c, 0, []⟩, ⟨3, 1, .w1c, 0, []⟩, ⟨4, 1, .w1c, 0, []⟩, ⟨5, 1, .w1c, 0, []⟩, ⟨8, 1, .ro, 0, []⟩, ⟨9, 1, .ro, 0, []⟩]
  | .ASY_MIS_LAST => [⟨0, 5, .ro, 0, []⟩, ⟨8, 2, .ro, 0, []⟩, ⟨24, 8, .ro, 0, []⟩]
  | .ASY_MIS_ADDR => [⟨0, 32, .ro, 0, []⟩]
  | .ASY_MIS_LEAD => [⟨0, 32, .ro, 0, []⟩]
  | .ASY_MIS_CHK => [⟨0, 32, .ro, 0, []⟩]
  | .ASY_MIS_T => [⟨0, 32, .ro, 0, []⟩]
  | .ASY_UNST => [⟨0, 2, .ro, 0, []⟩, ⟨8, 4, .ro, 0, []⟩, ⟨16, 16, .ro, 0, []⟩]
  | .ASY_CFG => [⟨0, 3, .rwl, 1, []⟩, ⟨8, 4, .rwl, 8, []⟩]
  | .ASY_ACTIVE => [⟨0, 25, .ro, 0, []⟩]
  | .ASY_BROKEN => [⟨0, 5, .ro, 0, []⟩, ⟨8, 8, .ro, 0, []⟩]
  | .ASY_BIST => [⟨0, 25, .ro, 0, []⟩]
  | .DBG_HALT => [⟨0, 25, .w1s, 0, []⟩]
  | .DBG_RESUME => [⟨0, 25, .w1s, 0, []⟩]
  | .DBG_STATUS => [⟨0, 25, .ro, 0, []⟩, ⟨25, 1, .ro, 0, []⟩, ⟨26, 1, .w1c, 0, []⟩]
  | .DBG_SEL => [⟨0, 5, .rw, 0, [(25, 31)]⟩, ⟨8, 1, .rw, 0, []⟩]
  | .DBG_PC => [⟨0, 32, .ro, 0, []⟩]
  | .DBG_REG => [⟨0, 7, .rw, 0, []⟩]
  | .DBG_REGDATA => [⟨0, 32, .rw, 0, []⟩]
  | .DBG_STEP => [⟨0, 1, .w1s, 0, []⟩]
  | .DBG_BRK _ => [⟨2, 30, .rw, 0, []⟩]
  | .DBG_BRK_CTL _ => [⟨0, 25, .rw, 0, []⟩, ⟨31, 1, .rw, 0, []⟩]
  | .MCV_IRQ_EN => [⟨0, 8, .rw, 0, []⟩]
  | .MCV_SUM => [⟨0, 4, .ro, 0, []⟩]
  | .MCV_REF => [⟨0, 1, .rw, 0, []⟩, ⟨8, 1, .ro, 0, []⟩, ⟨16, 1, .w1c, 0, []⟩]
  | .MCV_PRIV _ => [⟨0, 6, .rwl, 0, [(61, 63)]⟩, ⟨8, 6, .rwl, 0, [(61, 63)]⟩, ⟨16, 6, .rwl, 0, [(61, 63)]⟩, ⟨24, 6, .rwl, 0, [(61, 63)]⟩, ⟨7, 1, .rwl, 0, []⟩, ⟨15, 1, .rwl, 0, []⟩, ⟨23, 1, .rwl, 0, []⟩, ⟨31, 1, .rwl, 0, []⟩]
  | .MCV_C_CTL _ => [⟨0, 1, .rw, 0, []⟩, ⟨1, 1, .rw, 0, []⟩, ⟨2, 2, .rw, 0, []⟩, ⟨4, 3, .rw, 0, []⟩, ⟨7, 1, .rw, 0, []⟩, ⟨8, 2, .rw, 0, [(3, 3)]⟩, ⟨10, 6, .rw, 0, []⟩]
  | .MCV_C_CMD _ => [⟨0, 1, .w1s, 0, []⟩, ⟨1, 1, .w1s, 0, []⟩, ⟨2, 1, .w1s, 0, []⟩]
  | .MCV_C_TINT _ => [⟨0, 16, .rw, 0x64, [(0, 9)]⟩, ⟨16, 16, .rw, 0xA, [(0, 9)]⟩]
  | .MCV_C_PH _ => [⟨0, 32, .rw, 0, []⟩]
  | .MCV_C_DLY _ => [⟨0, 24, .rw, 0, []⟩]
  | .MCV_C_SEQ_CFG _ => [⟨0, 5, .rw, 0, []⟩, ⟨8, 3, .rw, 0, []⟩, ⟨12, 2, .rw, 0, []⟩, ⟨16, 6, .rw, 0, []⟩, ⟨24, 8, .rw, 0x64, [(0, 0)]⟩]
  | .MCV_C_STATUS _ => [⟨0, 1, .w1c, 0, []⟩, ⟨1, 1, .w1c, 0, []⟩, ⟨2, 1, .w1c, 0, []⟩, ⟨3, 1, .w1c, 0, []⟩, ⟨4, 1, .w1c, 0, []⟩, ⟨5, 1, .w1c, 0, []⟩, ⟨6, 1, .w1c, 0, []⟩, ⟨7, 1, .w1c, 0, []⟩, ⟨8, 1, .w1c, 0, []⟩, ⟨9, 1, .w1c, 0, []⟩, ⟨16, 1, .ro, 0, []⟩, ⟨17, 1, .ro, 0, []⟩, ⟨18, 5, .ro, 0, []⟩, ⟨24, 3, .ro, 0, []⟩]
  | .MCV_C_BUF _ => [⟨0, 4, .rw, 0, [(9, 15)]⟩, ⟨7, 25, .rw, 0, []⟩]
  | .MCV_C_IDX _ => [⟨0, 12, .ro, 0, []⟩, ⟨16, 12, .rw, 0, []⟩]
  | .MCV_C_CNT _ => [⟨0, 16, .ro, 0, []⟩, ⟨16, 16, .ro, 0, []⟩]
  | .MCV_C_SEQ _ _ => [⟨0, 6, .rw, 0, [(61, 63)]⟩]
  | .MCV_C_INJ _ _ => [⟨0, 6, .rw, 0, [(61, 63)]⟩, ⟨8, 2, .rw, 0, [(2, 3)]⟩]
  | .MCV_CH_RES _ => [⟨0, 32, .ro, 0, []⟩]
  | .HLM_IRQ_EN => [⟨0, 6, .rw, 0, []⟩]
  | .HLM_STATUS => [⟨0, 1, .w1c, 0, []⟩, ⟨1, 1, .w1c, 0, []⟩, ⟨2, 1, .w1c, 0, []⟩, ⟨3, 1, .w1c, 0, []⟩, ⟨4, 1, .w1c, 0, []⟩, ⟨5, 1, .w1c, 0, []⟩, ⟨6, 1, .w1c, 0, []⟩, ⟨7, 1, .w1c, 0, []⟩, ⟨16, 1, .ro, 0, []⟩, ⟨17, 1, .ro, 0, []⟩, ⟨18, 1, .ro, 0, []⟩]
  | .HLM_CFG => [⟨0, 16, .rw, 0, []⟩, ⟨16, 3, .rw, 3, [(5, 7)]⟩, ⟨24, 1, .rwl, 1, []⟩, ⟨25, 1, .rw, 1, []⟩]
  | .HLM_CMD => [⟨0, 1, .w1s, 0, []⟩, ⟨1, 1, .w1s, 0, []⟩]
  | .HLM_CLR => [⟨0, 1, .wo, 0, []⟩, ⟨1, 1, .wo, 0, []⟩, ⟨2, 1, .wo, 0, []⟩, ⟨3, 1, .wo, 0, []⟩, ⟨16, 16, .wo, 0, []⟩]
  | .HLM_OPSEC => [⟨0, 32, .ro, 0, []⟩]
  | .HLM_PWRCYC => [⟨0, 32, .ro, 0, []⟩]
  | .HLM_LAST => [⟨0, 32, .ro, 0, []⟩]
  | .HLM_LAST_CAUSE => [⟨0, 5, .ro, 0, []⟩, ⟨8, 1, .ro, 0, []⟩]
  | .HLM_CNT_INC => [⟨0, 6, .wo, 0, []⟩, ⟨8, 8, .wo, 0, []⟩]
  | .HLM_H_CTL _ => [⟨0, 1, .rw, 0, []⟩, ⟨1, 3, .rw, 0, [(6, 7)]⟩, ⟨4, 6, .rw, 0, []⟩, ⟨10, 2, .rw, 0, []⟩, ⟨12, 6, .rw, 0, []⟩, ⟨18, 1, .rw, 0, []⟩]
  | .HLM_X_CTL _ => [⟨0, 1, .rw, 0, []⟩, ⟨1, 3, .rw, 0, [(6, 7)]⟩, ⟨4, 6, .rw, 0, []⟩, ⟨10, 2, .rw, 0, []⟩, ⟨12, 6, .rw, 0, []⟩, ⟨18, 1, .rw, 0, []⟩]
  | .HLM_H_LO _ => [⟨0, 32, .rw, 0, []⟩]
  | .HLM_H_W _ => [⟨0, 32, .rw, 1, [(0, 0)]⟩]
  | .HLM_H_ADDR _ => [⟨2, 30, .rw, 0, []⟩]
  | .HLM_X_ADDR _ => [⟨2, 30, .rw, 0, []⟩]
  | .LB_CTL n => [⟨0, 1, .rw, 0, []⟩, ⟨1, 2, .rw, 0, [(3, 3)]⟩, ⟨3, 1, .rw, 0, []⟩, ⟨4, 1, .rw, 0, []⟩, ⟨5, 2, .rw, 0, [(3, 3)]⟩, ⟨7, 1, .rw, 0, []⟩, ⟨9, 1, .rw, 0, []⟩] ++ (if n.val < 2 then [⟨8, 1, .rw, 0, []⟩] else [])
  | .LB_NBT _ => [⟨0, 5, .rw, 0, []⟩, ⟨5, 8, .rw, 0x3E, []⟩, ⟨13, 7, .rw, 0xF, []⟩, ⟨20, 7, .rw, 0xF, []⟩]
  | .LB_DBT _ => [⟨0, 5, .rw, 0, []⟩, ⟨5, 5, .rw, 0xA, []⟩, ⟨10, 4, .rw, 3, []⟩, ⟨14, 4, .rw, 3, []⟩, ⟨18, 7, .rw, 0xC, []⟩, ⟨25, 1, .rw, 1, []⟩]
  | .LB_STATUS _ => [⟨0, 1, .w1c, 0, []⟩, ⟨1, 1, .w1c, 0, []⟩, ⟨2, 1, .w1c, 0, []⟩, ⟨3, 1, .w1c, 0, []⟩, ⟨4, 1, .w1c, 0, []⟩, ⟨5, 1, .w1c, 0, []⟩, ⟨6, 1, .w1c, 0, []⟩, ⟨7, 1, .w1c, 0, []⟩, ⟨8, 1, .w1c, 0, []⟩, ⟨9, 1, .w1c, 0, []⟩, ⟨10, 1, .w1c, 0, []⟩, ⟨11, 1, .w1c, 0, []⟩, ⟨12, 1, .w1c, 0, []⟩, ⟨13, 1, .w1c, 0, []⟩, ⟨14, 1, .ro, 0, []⟩, ⟨16, 3, .ro, 0, []⟩]
  | .LB_ERR _ => [⟨0, 8, .ro, 0, []⟩, ⟨8, 7, .ro, 0, []⟩, ⟨15, 1, .ro, 0, []⟩, ⟨16, 2, .ro, 0, []⟩, ⟨18, 3, .ro, 0, []⟩]
  | .LB_IRQ_EN _ => [⟨0, 3, .rw, 0, []⟩, ⟨8, 7, .rw, 0, []⟩]
  | .LB_SYNC_CFG _ => [⟨0, 1, .rw, 0, []⟩, ⟨1, 3, .rw, 7, []⟩, ⟨4, 8, .rw, 2, []⟩, ⟨12, 3, .rw, 0, [(7, 7)]⟩, ⟨16, 3, .rw, 0, []⟩, ⟨24, 6, .ro, 0, []⟩]
  | .LB_CYC _ => [⟨0, 16, .rw, 0xFA0, []⟩, ⟨16, 12, .rw, 0xA0, [(0, 0)]⟩, ⟨28, 4, .rw, 8, [(0, 0)]⟩]
  | .LB_TOL _ => [⟨0, 16, .rw, 0x258, []⟩, ⟨16, 8, .rw, 0xC8, [(0, 0)]⟩]
  | .LB_RXDLY _ => [⟨0, 12, .rw, 0, []⟩]
  | .LB_SYNC_STAT _ => [⟨0, 2, .ro, 0, []⟩, ⟨2, 2, .ro, 0, []⟩, ⟨8, 6, .ro, 0, []⟩, ⟨16, 3, .ro, 0, []⟩, ⟨24, 6, .ro, 0, []⟩]
  | .LB_GT_LO _ => [⟨0, 32, .ro, 0, []⟩]
  | .LB_GT_HI _ => [⟨0, 32, .ro, 0, []⟩]
  | .LB_GT_ERR _ => [⟨0, 32, .ro, 0, []⟩]
  | .LB_DRIFT _ => [⟨0, 32, .ro, 0, []⟩]
  | .LB_REF_T _ => [⟨4, 28, .ro, 0, []⟩, ⟨0, 4, .ro, 0, []⟩]
  | .LB_PROP _ _ => [⟨0, 16, .rw, 0, []⟩]
  | .LB_TXFAIL _ => [⟨0, 6, .ro, 0, []⟩, ⟨8, 3, .ro, 0, []⟩, ⟨16, 6, .ro, 0, []⟩, ⟨24, 6, .ro, 0, []⟩]
  | .LB_IDCOL _ => [⟨0, 29, .ro, 0, []⟩, ⟨29, 1, .ro, 0, []⟩]
  | .LB_CNT _ => [⟨0, 16, .ro, 0, []⟩, ⟨16, 16, .ro, 0, []⟩]
  | .LB_FIFO _ => [⟨0, 10, .rw, 0x40, [(0, 0), (577, 1023)]⟩, ⟨16, 10, .rw, 0x20, []⟩]
  | .LB_FIFO_IDX _ => [⟨0, 10, .ro, 0, []⟩, ⟨16, 10, .rw, 0, []⟩]
  | .LB_TXREQ _ _ => [⟨0, 32, .w1s, 0, []⟩]
  | .LB_TXDONE _ _ => [⟨0, 32, .w1c, 0, []⟩]
  | .HST_ID => [⟨0, 16, .ro, 0x960, []⟩, ⟨16, 8, .ro, 1, []⟩]
  | .HST_STATUS => [⟨0, 8, .ro, 0, []⟩, ⟨8, 8, .ro, 0, []⟩, ⟨16, 8, .ro, 0, []⟩, ⟨24, 3, .ro, 0, []⟩, ⟨27, 1, .ro, 0, []⟩, ⟨28, 1, .ro, 0, []⟩]
  | .HST_DB => [⟨0, 8, .w1s, 0, []⟩, ⟨8, 8, .w1s, 0, []⟩, ⟨16, 8, .w1s, 0, []⟩]
  | .HST_ERR => [⟨0, 1, .w1c, 0, []⟩, ⟨1, 1, .w1c, 0, []⟩, ⟨2, 1, .w1c, 0, []⟩, ⟨3, 1, .w1c, 0, []⟩, ⟨4, 1, .w1c, 0, []⟩]
  | .HST_IRQ_EN => [⟨0, 1, .rw, 1, []⟩, ⟨1, 1, .rw, 1, []⟩, ⟨2, 1, .rw, 1, []⟩]
  | .HST_EVT_LOST => [⟨0, 32, .ro, 0, []⟩]
  | .MBX_IRQ_EN => [⟨0, 6, .rw, 0, []⟩]
  | .MBX_STATUS => [⟨0, 1, .w1c, 0, []⟩, ⟨1, 1, .w1c, 0, []⟩, ⟨2, 1, .w1c, 0, []⟩, ⟨3, 1, .w1c, 0, []⟩, ⟨4, 1, .w1c, 0, []⟩, ⟨5, 1, .w1c, 0, []⟩, ⟨8, 1, .ro, 0, []⟩]
  | .MBX_SLOTS => [⟨0, 8, .ro, 0, []⟩, ⟨8, 8, .ro, 0, []⟩, ⟨16, 8, .ro, 0, []⟩]
  | .MBX_POST => [⟨0, 8, .w1s, 0, []⟩, ⟨8, 8, .w1s, 0, []⟩, ⟨16, 8, .w1s, 0, []⟩]
  | .MBX_EVT => [⟨0, 8, .ro, 0, []⟩, ⟨8, 8, .ro, 0xFF, []⟩]
  | .MBX_EVT_LOST => [⟨0, 32, .rw, 0, []⟩]
  | .MBX_CTL => [⟨0, 1, .rw, 0, []⟩]
  | .SYS_RST_CAUSE => [⟨0, 1, .ro, 0, []⟩, ⟨1, 1, .ro, 0, []⟩, ⟨2, 1, .ro, 0, []⟩, ⟨3, 1, .ro, 0, []⟩]
  | .SYS_STRAP => [⟨0, 2, .ro, 0, []⟩, ⟨2, 1, .ro, 0, []⟩, ⟨3, 1, .ro, 0, []⟩, ⟨4, 1, .ro, 0, []⟩, ⟨5, 2, .ro, 0, []⟩, ⟨7, 4, .ro, 0, []⟩, ⟨16, 6, .ro, 0, []⟩]
  | .SYS_BOOT => [⟨0, 1, .ro, 0, []⟩, ⟨1, 2, .ro, 0, []⟩, ⟨3, 1, .ro, 0, []⟩, ⟨4, 1, .ro, 0, []⟩, ⟨5, 1, .ro, 0, []⟩, ⟨6, 1, .ro, 0, []⟩]
  | .SYS_BOOT_VER => [⟨0, 32, .ro, 0, []⟩]
  | .SYS_PADFAIL _ => [⟨0, 32, .ro, 0, []⟩]
  | .SYS_CFG_LOCK => [⟨16, 16, .wo, 0, []⟩]
  | .SYS_SWRST => [⟨16, 16, .wo, 0, []⟩]
  | .SYS_FUSE => [⟨0, 1, .ro, 0, []⟩, ⟨1, 1, .ro, 0, []⟩, ⟨2, 1, .ro, 0, []⟩, ⟨8, 1, .ro, 0, []⟩, ⟨9, 1, .w1c, 0, []⟩]
  | .SYS_FUSE_CMD => [⟨0, 2, .wo, 0, []⟩, ⟨16, 16, .wo, 0, []⟩]
  | .SYS_FUSE_HASH _ => [⟨0, 32, .rw, 0, []⟩]

/-- The register at an offset of its block, if there is one (register tables; block base 0x40000000). -/
def Reg.ofSysOff (o : Nat) : Option Reg :=
  match o with
  | 0x0 => some .SYS_STATE
  | 0x4 => some .SYS_STATE_REQ
  | 0x8 => some .SYS_AX_STATE
  | 0xC => some .SYS_AUX_STATE
  | 0x10 => some .SYS_STATUS
  | 0x14 => some .SYS_REFUSE
  | 0x18 => some .SYS_FAULT
  | 0x1C => some .SYS_FAULT_CLR
  | 0x20 => some .SYS_UNMAPPED_ADDR
  | 0x24 => some .SYS_IRQ_EN
  | 0x28 => some .SYS_TIME_LO
  | 0x2C => some .SYS_TIME_HI
  | 0x40 => some .SYS_RST_CAUSE
  | 0x44 => some .SYS_STRAP
  | 0x48 => some .SYS_BOOT
  | 0x4C => some .SYS_BOOT_VER
  | 0x64 => some .SYS_CFG_LOCK
  | 0x68 => some .SYS_SWRST
  | 0x70 => some .SYS_FUSE
  | 0x74 => some .SYS_FUSE_CMD
  | 0x100 => some .SYS_GPIO_DIR
  | 0x104 => some .SYS_GPIO_OUT
  | 0x108 => some .SYS_GPIO_SET
  | 0x10C => some .SYS_GPIO_CLR
  | 0x110 => some .SYS_GPIO_IN
  | 0x114 => some .SYS_GPIO_OWN
  | 0x118 => some .SYS_GPIO_RISE
  | 0x11C => some .SYS_GPIO_FALL
  | 0x120 => some .SYS_GPIO_IE
  | _ =>
    if 0x50 ≤ o ∧ o < 0x64 then
      if (o - 0x50) % 4 = 0 then some (.SYS_PADFAIL ⟨(o - 0x50) / 0x4 % 5, Nat.mod_lt _ (by decide)⟩) else none
    else
    if 0x80 ≤ o ∧ o < 0xA0 then
      if (o - 0x80) % 4 = 0 then some (.SYS_FUSE_HASH ⟨(o - 0x80) / 0x4 % 8, Nat.mod_lt _ (by decide)⟩) else none
    else
    none

/-- The register at an offset of its block, if there is one (register tables; block base 0x40120000). -/
def Reg.ofDmaOff (o : Nat) : Option Reg :=
  match o with
  | 0x0 => some .DMA_STATUS
  | 0x4 => some .DMA_IE
  | _ =>
    if 0x100 ≤ o ∧ o < 0x300 then
      let n : Fin 16 := ⟨(o - 0x100) / 0x20 % 16, Nat.mod_lt _ (by decide)⟩
      match (o - 0x100) % 0x20 with
      | 0x0 => some (.DMA_CH_CTL n)
      | 0x4 => some (.DMA_CH_SRC n)
      | 0x8 => some (.DMA_CH_DST n)
      | 0xC => some (.DMA_CH_LEN n)
      | 0x10 => some (.DMA_CH_STAT n)
      | 0x14 => some (.DMA_CH_SWREQ n)
      | _ => none
    else
    none

/-- The register at an offset of its block, if there is one (register tables; block base 0x40020000). -/
def Reg.ofManOff (o : Nat) : Option Reg :=
  match o with
  | 0x0 => some .MAN_IRQ_EN
  | 0x4 => some .MAN_AG_SUM
  | _ =>
    if 0x10 ≤ o ∧ o < 0x18 then
      if (o - 0x10) % 4 = 0 then some (.MAN_AM_FIRED ⟨(o - 0x10) / 0x4 % 2, Nat.mod_lt _ (by decide)⟩) else none
    else
    if 0x18 ≤ o ∧ o < 0x20 then
      if (o - 0x18) % 4 = 0 then some (.MAN_AM_JUMPED ⟨(o - 0x18) / 0x4 % 2, Nat.mod_lt _ (by decide)⟩) else none
    else
    if 0x20 ≤ o ∧ o < 0x28 then
      if (o - 0x20) % 4 = 0 then some (.MAN_AM_IE ⟨(o - 0x20) / 0x4 % 2, Nat.mod_lt _ (by decide)⟩) else none
    else
    if 0x100 ≤ o ∧ o < 0x500 then
      let n : Fin 8 := ⟨(o - 0x100) / 0x80 % 8, Nat.mod_lt _ (by decide)⟩
      match (o - 0x100) % 0x80 with
      | 0x0 => some (.MAN_AG_CTL n)
      | 0x4 => some (.MAN_AG_CPR n)
      | 0x8 => some (.MAN_AG_GEAR_NUM n)
      | 0xC => some (.MAN_AG_GEAR_DEN n)
      | 0x10 => some (.MAN_AG_PP n)
      | 0x14 => some (.MAN_AG_EOFS n)
      | 0x18 => some (.MAN_AG_JUMP_TH n)
      | 0x1C => some (.MAN_AG_TMO n)
      | 0x20 => some (.MAN_AG_RAMP_TGT n)
      | 0x24 => some (.MAN_AG_RAMP_ACC n)
      | 0x28 => some (.MAN_AG_STATUS n)
      | 0x2C => some (.MAN_AG_JUMP_LAST n)
      | 0x30 => some (.MAN_AG_ELEC n)
      | 0x34 => some (.MAN_AG_MECH n)
      | 0x38 => some (.MAN_AG_SPEED n)
      | 0x3C => some (.MAN_AG_TURNS n)
      | 0x40 => some (.MAN_AG_TSNAP n)
      | 0x44 => some (.MAN_AG_LATCH_POS n)
      | 0x48 => some (.MAN_AG_LATCH_T n)
      | _ => none
    else
    if 0x800 ≤ o ∧ o < 0xC00 then
      let n : Fin 64 := ⟨(o - 0x800) / 0x10 % 64, Nat.mod_lt _ (by decide)⟩
      match (o - 0x800) % 0x10 with
      | 0x0 => some (.MAN_AM_CTL n)
      | 0x4 => some (.MAN_AM_ANGLE n)
      | 0x8 => some (.MAN_AM_HYST n)
      | 0xC => some (.MAN_AM_TS n)
      | _ => none
    else
    none

/-- The register at an offset of its block, if there is one (register tables; block base 0x40030000). -/
def Reg.ofFbkOff (o : Nat) : Option Reg :=
  match o with
  | 0x0 => some .FBK_IRQ_EN
  | 0x4 => some .FBK_SUM
  | _ =>
    if 0x100 ≤ o ∧ o < 0x500 then
      let n : Fin 8 := ⟨(o - 0x100) / 0x80 % 8, Nat.mod_lt _ (by decide)⟩
      match (o - 0x100) % 0x80 with
      | 0x0 => some (.FBK_QE_CTL n)
      | 0x4 => some (.FBK_QE_FILT n)
      | 0x8 => some (.FBK_QE_MOD n)
      | 0xC => some (.FBK_QE_CNT n)
      | 0x10 => some (.FBK_QE_TURNS n)
      | 0x14 => some (.FBK_QE_IDX_CTL n)
      | 0x18 => some (.FBK_QE_IDX_CNT n)
      | 0x1C => some (.FBK_QE_IDX_DIFF n)
      | 0x20 => some (.FBK_QE_IDX_STAT n)
      | 0x24 => some (.FBK_QE_ERRCNT n)
      | 0x28 => some (.FBK_QE_ERRLIM n)
      | 0x2C => some (.FBK_QE_CLR n)
      | 0x30 => some (.FBK_QE_STATUS n)
      | 0x34 => some (.FBK_QE_IDX_T n)
      | 0x38 => some (.FBK_QE_CAP_CTL n)
      | 0x3C => some (.FBK_QE_CAP_CNT n)
      | 0x40 => some (.FBK_QE_CAP_T n)
      | _ => none
    else
    if 0x600 ≤ o ∧ o < 0x700 then
      let n : Fin 4 := ⟨(o - 0x600) / 0x40 % 4, Nat.mod_lt _ (by decide)⟩
      match (o - 0x600) % 0x40 with
      | 0x0 => some (.FBK_SSI_CTL n)
      | 0x4 => some (.FBK_SSI_CLK n)
      | 0x8 => some (.FBK_SSI_FRAME n)
      | 0xC => some (.FBK_SSI_ERR n)
      | 0x10 => some (.FBK_SSI_PERIOD n)
      | 0x14 => some (.FBK_SSI_LDC n)
      | 0x18 => some (.FBK_SSI_ST n)
      | 0x1C => some (.FBK_SSI_MT n)
      | 0x20 => some (.FBK_SSI_RAW_LO n)
      | 0x24 => some (.FBK_SSI_RAW_HI n)
      | 0x28 => some (.FBK_SSI_T n)
      | 0x2C => some (.FBK_SSI_STATUS n)
      | 0x30 => some (.FBK_SSI_FRAMES n)
      | _ => none
    else
    none

/-- The register at an offset of its block, if there is one (register tables; block base 0x400A0000). -/
def Reg.ofSdmOff (o : Nat) : Option Reg :=
  match o with
  | 0x0 => some .SDM_IRQ_EN
  | 0x4 => some .SDM_SUM
  | 0x8 => some .SDM_SWTRG
  | 0xC => some .SDM_WORD_IE
  | 0x10 => some .SDM_CNT_CLR
  | _ =>
    if 0x20 ≤ o ∧ o < 0x40 then
      if (o - 0x20) % 4 = 0 then some (.SDM_CK_CTL ⟨(o - 0x20) / 0x4 % 8, Nat.mod_lt _ (by decide)⟩) else none
    else
    if 0x100 ≤ o ∧ o < 0x900 then
      let n : Fin 32 := ⟨(o - 0x100) / 0x40 % 32, Nat.mod_lt _ (by decide)⟩
      match (o - 0x100) % 0x40 with
      | 0x0 => some (.SDM_CH_CTL n)
      | 0x4 => some (.SDM_CH_OFS n)
      | 0x8 => some (.SDM_CH_GAIN n)
      | 0xC => some (.SDM_CH_FTH n)
      | 0x10 => some (.SDM_CH_FHYS n)
      | 0x14 => some (.SDM_CH_DATA n)
      | 0x18 => some (.SDM_CH_FWORD n)
      | 0x1C => some (.SDM_CH_WS_T n)
      | 0x20 => some (.SDM_CH_STATUS n)
      | _ => none
    else
    if 0x900 ≤ o ∧ o < 0xA00 then
      let n : Fin 16 := ⟨(o - 0x900) / 0x10 % 16, Nat.mod_lt _ (by decide)⟩
      match (o - 0x900) % 0x10 with
      | 0x0 => some (.SDM_CHK_CTL n)
      | 0x4 => some (.SDM_CHK_STAT n)
      | _ => none
    else
    if 0xA00 ≤ o ∧ o < 0xA40 then
      let n : Fin 4 := ⟨(o - 0xA00) / 0x10 % 4, Nat.mod_lt _ (by decide)⟩
      match (o - 0xA00) % 0x10 with
      | 0x0 => some (.SDM_SG_CTL n)
      | 0x4 => some (.SDM_SG_STAT n)
      | _ => none
    else
    none

/-- The register at an offset of its block, if there is one (register tables; block base 0x400D0000). -/
def Reg.ofLoopOff (o : Nat) : Option Reg :=
  match o with
  | 0x0 => some .LOOP_CTL
  | 0x4 => some .LOOP_IRQ_EN
  | 0x8 => some .LOOP_STATUS
  | 0xC => some .LOOP_SPARE
  | 0x10 => some .LOOP_PAIR_CMD
  | 0x14 => some .LOOP_MISS_LAST
  | 0x18 => some .LOOP_RETIRE_LAST
  | 0x1C => some .LOOP_SWREL
  | _ =>
    if 0x40 ≤ o ∧ o < 0x80 then
      let n : Fin 8 := ⟨(o - 0x40) / 0x8 % 8, Nat.mod_lt _ (by decide)⟩
      match (o - 0x40) % 0x8 with
      | 0x0 => some (.LOOP_TICK_PER n)
      | 0x4 => some (.LOOP_TICK_PH n)
      | _ => none
    else
    if 0x100 ≤ o ∧ o < 0x400 then
      let n : Fin 24 := ⟨(o - 0x100) / 0x20 % 24, Nat.mod_lt _ (by decide)⟩
      match (o - 0x100) % 0x20 with
      | 0x0 => some (.LOOP_P_STATE n)
      | 0x4 => some (.LOOP_P_MARGIN n)
      | 0x8 => some (.LOOP_P_SLACK n)
      | 0xC => some (.LOOP_P_CNT n)
      | 0x10 => some (.LOOP_P_ECC n)
      | _ => none
    else
    if 0x8000 ≤ o ∧ o < 0xC000 then
      let n : Fin 512 := ⟨(o - 0x8000) / 0x20 % 512, Nat.mod_lt _ (by decide)⟩
      match (o - 0x8000) % 0x20 with
      | 0x0 => some (.LOOP_D_CTL n)
      | 0x4 => some (.LOOP_D_CPH n)
      | 0x8 => some (.LOOP_D_BUD n)
      | 0xC => some (.LOOP_D_ENTRY n)
      | 0x10 => some (.LOOP_D_CTX n)
      | 0x14 => some (.LOOP_D_CTXS n)
      | 0x18 => some (.LOOP_D_OUT n)
      | 0x1C => some (.LOOP_D_STAT n)
      | _ => none
    else
    if 0xC000 ≤ o ∧ o < 0xD000 then
      if (o - 0xC000) % 4 = 0 then some (.LOOP_TGT ⟨(o - 0xC000) / 0x4 % 1024, Nat.mod_lt _ (by decide)⟩) else none
    else
    none

/-- The register at an offset of its block, if there is one (register tables; block base 0x40040000). -/
def Reg.ofPwmOff (o : Nat) : Option Reg :=
  match o with
  | 0x0 => some .PWM_IRQ_EN
  | 0x4 => some .PWM_SUM
  | 0x8 => some .PWM_XFER_IE
  | 0xC => some .PWM_START
  | 0x10 => some .PWM_STOP
  | 0x14 => some .PWM_LOADALL
  | 0x18 => some .PWM_XMARK
  | 0x1C => some .PWM_POL
  | 0x20 => some .PWM_PAD
  | 0x24 => some .PWM_PAT_CHK
  | 0xF300 => some .PWM_DSC_PCH_CFG
  | 0xF304 => some .PWM_DSC_PCH_TIME
  | 0xF308 => some .PWM_DSC_PCH_V
  | 0xF30C => some .PWM_DSC_VCH
  | 0xF310 => some .PWM_DSC_PCH_CMD
  | 0xF314 => some .PWM_DSC_PCH_STAT
  | 0xF318 => some .PWM_DSC_VLINK
  | 0xF320 => some .PWM_DSC_DSG_CFG
  | 0xF324 => some .PWM_DSC_DSG_TGT
  | 0xF328 => some .PWM_DSC_DSG_SHM
  | 0xF32C => some .PWM_DSC_DSG_REQ
  | 0xF330 => some .PWM_DSC_DSG_STAT
  | _ =>
    if 0x1000 ≤ o ∧ o < 0x11000 then
      let n : Fin 16 := ⟨(o - 0x1000) / 0x1000 % 16, Nat.mod_lt _ (by decide)⟩
      match (o - 0x1000) % 0x1000 with
      | 0x0 => some (.PWM_G_CFG n)
      | 0x4 => some (.PWM_G_CTL n)
      | 0x8 => some (.PWM_G_STATUS n)
      | 0xC => some (.PWM_G_PER n)
      | 0x10 => some (.PWM_G_PER_ACT n)
      | 0x14 => some (.PWM_G_PHASE n)
      | 0x18 => some (.PWM_G_CNT n)
      | 0x1C => some (.PWM_G_OUT_EN n)
      | 0x20 => some (.PWM_G_DT n)
      | 0x24 => some (.PWM_G_DT_C n)
      | 0x28 => some (.PWM_G_BOOT n)
      | 0x2C => some (.PWM_G_BOOT_C n)
      | 0x30 => some (.PWM_G_VP n)
      | 0x34 => some (.PWM_G_VPT n)
      | 0x200 => if h : n.val < 4 then some (.PWM_G_PAT_CTL ⟨n.val, h⟩) else none
      | 0x204 => if h : n.val < 4 then some (.PWM_G_PAT_OFS ⟨n.val, h⟩) else none
      | 0x208 => if h : n.val < 4 then some (.PWM_G_PAT_DLYC ⟨n.val, h⟩) else none
      | 0x20C => if h : n.val < 4 then some (.PWM_G_PAT_LVL ⟨n.val, h⟩) else none
      | 0x210 => if h : n.val < 4 then some (.PWM_G_PSEL ⟨n.val, h⟩) else none
      | 0x214 => if h : n.val < 4 then some (.PWM_G_PSEL_ACT ⟨n.val, h⟩) else none
      | 0x218 => if h : n.val < 4 then some (.PWM_G_PAT_ISIGN ⟨n.val, h⟩) else none
      | 0x21C => if h : n.val < 4 then some (.PWM_G_PAT_STATUS ⟨n.val, h⟩) else none
      | 0x220 => if h : n.val < 4 then some (.PWM_G_PAT_HOV_T ⟨n.val, h⟩) else none
      | p =>
        if 0x40 ≤ p ∧ p < 0x50 ∧ p % 4 = 0 then some (.PWM_G_SNS n ⟨(p - 0x40) / 4 % 4, Nat.mod_lt _ (by decide)⟩) else
        if 0x100 ≤ p ∧ p < 0x124 ∧ p % 4 = 0 then some (.PWM_G_CMP n ⟨(p - 0x100) / 4 % 9, Nat.mod_lt _ (by decide)⟩) else
        if 0x140 ≤ p ∧ p < 0x164 ∧ p % 4 = 0 then some (.PWM_G_CMP_ACT n ⟨(p - 0x140) / 4 % 9, Nat.mod_lt _ (by decide)⟩) else
        if 0x180 ≤ p ∧ p < 0x190 ∧ p % 4 = 0 then some (.PWM_G_VP_LAST n ⟨(p - 0x180) / 4 % 4, Nat.mod_lt _ (by decide)⟩) else
        none
    else
    none

/-- The register at an offset of its block, if there is one (register tables; block base 0x40090000). -/
def Reg.ofCmpOff (o : Nat) : Option Reg :=
  match o with
  | 0x0 => some .CMP_IRQ_EN
  | 0x10 => some .CMP_TS_CTL
  | 0x14 => some .CMP_TS_STAT
  | _ =>
    if 0x4 ≤ o ∧ o < 0xC then
      if (o - 0x4) % 4 = 0 then some (.CMP_SUM ⟨(o - 0x4) / 0x4 % 2, Nat.mod_lt _ (by decide)⟩) else none
    else
    if 0x100 ≤ o ∧ o < 0x500 then
      let n : Fin 64 := ⟨(o - 0x100) / 0x10 % 64, Nat.mod_lt _ (by decide)⟩
      match (o - 0x100) % 0x10 with
      | 0x0 => some (.CMP_WC_CTL n)
      | 0x4 => some (.CMP_WC_TH n)
      | 0x8 => some (.CMP_WC_STAT n)
      | 0xC => some (.CMP_WC_RB n)
      | _ => none
    else
    none

/-- The register at an offset of its block, if there is one (register tables; block base 0x40080000). -/
def Reg.ofQncOff (o : Nat) : Option Reg :=
  match o with
  | 0x0 => some .QNC_IRQ_EN
  | 0x4 => some .QNC_STATUS
  | 0x8 => some .QNC_SAFESEL
  | 0xC => some .QNC_SEL_USED
  | 0x10 => some .QNC_CRC
  | _ =>
    if 0x14 ≤ o ∧ o < 0x1C then
      if (o - 0x14) % 4 = 0 then some (.QNC_ASC_DLY ⟨(o - 0x14) / 0x4 % 2, Nat.mod_lt _ (by decide)⟩) else none
    else
    if 0x1C ≤ o ∧ o < 0x24 then
      if (o - 0x1C) % 4 = 0 then some (.QNC_ASC_DLY_C ⟨(o - 0x1C) / 0x4 % 2, Nat.mod_lt _ (by decide)⟩) else none
    else
    if 0x30 ≤ o ∧ o < 0x40 then
      if (o - 0x30) % 4 = 0 then some (.QNC_CLR ⟨(o - 0x30) / 0x4 % 4, Nat.mod_lt _ (by decide)⟩) else none
    else
    if 0x40 ≤ o ∧ o < 0x50 then
      if (o - 0x40) % 4 = 0 then some (.QNC_REFUSED ⟨(o - 0x40) / 0x4 % 4, Nat.mod_lt _ (by decide)⟩) else none
    else
    if 0x50 ≤ o ∧ o < 0x60 then
      if (o - 0x50) % 4 = 0 then some (.QNC_LATCH ⟨(o - 0x50) / 0x4 % 4, Nat.mod_lt _ (by decide)⟩) else none
    else
    if 0x60 ≤ o ∧ o < 0x70 then
      if (o - 0x60) % 4 = 0 then some (.QNC_RAW ⟨(o - 0x60) / 0x4 % 4, Nat.mod_lt _ (by decide)⟩) else none
    else
    if 0x100 ≤ o ∧ o < 0x140 then
      let n : Fin 8 := ⟨(o - 0x100) / 0x8 % 8, Nat.mod_lt _ (by decide)⟩
      match (o - 0x100) % 0x8 with
      | 0x0 => some (.QNC_PROF_LO n)
      | 0x4 => some (.QNC_PROF_HI n)
      | _ => none
    else
    if 0x200 ≤ o ∧ o < 0x400 then
      let n : Fin 16 := ⟨(o - 0x200) / 0x20 % 16, Nat.mod_lt _ (by decide)⟩
      match (o - 0x200) % 0x20 with
      | 0x0 => some (.QNC_G_ASC_L n)
      | 0x4 => some (.QNC_G_ASC_H n)
      | 0x8 => some (.QNC_G_PAT n)
      | 0xC => some (.QNC_G_STATE n)
      | 0x10 => some (.QNC_G_TRIP_T n)
      | _ => none
    else
    if 0x400 ≤ o ∧ o < 0x600 then
      if (o - 0x400) % 4 = 0 then some (.QNC_ROUTE ⟨(o - 0x400) / 0x4 % 128, Nat.mod_lt _ (by decide)⟩) else none
    else
    none

/-- The register at an offset of its block, if there is one (register tables; block base 0x400C0000). -/
def Reg.ofAuxOff (o : Nat) : Option Reg :=
  match o with
  | 0x0 => some .AUX_IRQ_EN
  | 0x4 => some .AUX_SUM
  | _ =>
    if 0x100 ≤ o ∧ o < 0x300 then
      let n : Fin 8 := ⟨(o - 0x100) / 0x40 % 8, Nat.mod_lt _ (by decide)⟩
      match (o - 0x100) % 0x40 with
      | 0x0 => some (.AUX_CH_CTL n)
      | 0x4 => some (.AUX_CH_CMD n)
      | 0x8 => some (.AUX_CH_ZC n)
      | 0xC => some (.AUX_CH_IPK n)
      | 0x10 => some (.AUX_CH_SPD n)
      | 0x24 => some (.AUX_CH_START n)
      | 0x28 => some (.AUX_CH_RAMP n)
      | 0x2C => some (.AUX_CH_STATUS n)
      | 0x30 => some (.AUX_CH_TSEC n)
      | 0x34 => some (.AUX_CH_FREQ n)
      | 0x38 => some (.AUX_CH_ZC_T n)
      | p =>
        if 0x14 ≤ p ∧ p < 0x24 ∧ p % 4 = 0 then some (.AUX_CH_ADV n ⟨(p - 0x14) / 4 % 4, Nat.mod_lt _ (by decide)⟩) else
        none
    else
    none

/-- The register at an offset of its block, if there is one (register tables; block base 0x400F0000). -/
def Reg.ofAnvOff (o : Nat) : Option Reg :=
  match o with
  | 0x0 => some .ANV_IRQ_EN
  | 0x4 => some .ANV_STATUS
  | 0x8 => some .ANV_CAUSE
  | 0xC => some .ANV_CFG
  | 0x10 => some .ANV_VDC
  | 0x14 => some .ANV_VDC_LIM
  | 0x18 => some .ANV_WD
  | 0x1C => some .ANV_SBC
  | 0x20 => some .ANV_PCRC
  | 0x24 => some .ANV_PSTAT
  | 0x28 => some .ANV_DEMAND
  | 0x2C => some .ANV_SSPI
  | 0x30 => some .ANV_RET
  | 0x34 => some .ANV_SBC_STAT
  | _ =>
    if 0x100 ≤ o ∧ o < 0x200 then
      let n : Fin 4 := ⟨(o - 0x100) / 0x40 % 4, Nat.mod_lt _ (by decide)⟩
      match (o - 0x100) % 0x40 with
      | 0x0 => some (.ANV_AX_CFG n)
      | 0x4 => some (.ANV_AX_CPR n)
      | 0x8 => some (.ANV_AX_IMAX n)
      | 0xC => some (.ANV_AX_ISC n)
      | 0x10 => some (.ANV_AX_NMAX n)
      | 0x14 => some (.ANV_AX_SLS01 n)
      | 0x18 => some (.ANV_AX_SLS23 n)
      | 0x1C => some (.ANV_AX_SLSC n)
      | 0x20 => some (.ANV_AX_SS1 n)
      | 0x24 => some (.ANV_AX_KE n)
      | 0x28 => some (.ANV_AX_SELTH n)
      | 0x2C => some (.ANV_AX_ITAB n)
      | 0x30 => some (.ANV_AX_NTAB n)
      | 0x34 => some (.ANV_AX_TTOL n)
      | 0x38 => some (.ANV_AX_EOFS n)
      | 0x3C => some (.ANV_AX_REACT n)
      | _ => none
    else
    if 0x300 ≤ o ∧ o < 0x340 then
      let n : Fin 4 := ⟨(o - 0x300) / 0x10 % 4, Nat.mod_lt _ (by decide)⟩
      match (o - 0x300) % 0x10 with
      | 0x0 => some (.ANV_AX_STAT n)
      | 0x4 => some (.ANV_AX_SPEED n)
      | 0x8 => some (.ANV_AX_TQ n)
      | 0xC => some (.ANV_AX_POS n)
      | _ => none
    else
    none

/-- The register at an offset of its block, if there is one (register tables; block base 0x400E0000). -/
def Reg.ofAsyOff (o : Nat) : Option Reg :=
  match o with
  | 0x0 => some .ASY_IRQ_EN
  | 0x4 => some .ASY_STATUS
  | 0x8 => some .ASY_MIS_LAST
  | 0xC => some .ASY_MIS_ADDR
  | 0x10 => some .ASY_MIS_LEAD
  | 0x14 => some .ASY_MIS_CHK
  | 0x18 => some .ASY_MIS_T
  | 0x1C => some .ASY_UNST
  | 0x20 => some .ASY_CFG
  | 0x24 => some .ASY_ACTIVE
  | 0x28 => some .ASY_BROKEN
  | 0x2C => some .ASY_BIST
  | _ =>
    none

/-- The register at an offset of its block, if there is one (register tables; block base 0x40130000). -/
def Reg.ofDbgOff (o : Nat) : Option Reg :=
  match o with
  | 0x0 => some .DBG_HALT
  | 0x4 => some .DBG_RESUME
  | 0x8 => some .DBG_STATUS
  | 0xC => some .DBG_SEL
  | 0x10 => some .DBG_PC
  | 0x14 => some .DBG_REG
  | 0x18 => some .DBG_REGDATA
  | 0x1C => some .DBG_STEP
  | _ =>
    if 0x20 ≤ o ∧ o < 0x40 then
      let n : Fin 4 := ⟨(o - 0x20) / 0x8 % 4, Nat.mod_lt _ (by decide)⟩
      match (o - 0x20) % 0x8 with
      | 0x0 => some (.DBG_BRK n)
      | 0x4 => some (.DBG_BRK_CTL n)
      | _ => none
    else
    none

/-- The register at an offset of its block, if there is one (register tables; block base 0x400B0000). -/
def Reg.ofMcvOff (o : Nat) : Option Reg :=
  match o with
  | 0x0 => some .MCV_IRQ_EN
  | 0x4 => some .MCV_SUM
  | 0x8 => some .MCV_REF
  | _ =>
    if 0x10 ≤ o ∧ o < 0x18 then
      if (o - 0x10) % 4 = 0 then some (.MCV_PRIV ⟨(o - 0x10) / 0x4 % 2, Nat.mod_lt _ (by decide)⟩) else none
    else
    if 0x100 ≤ o ∧ o < 0x500 then
      let n : Fin 4 := ⟨(o - 0x100) / 0x100 % 4, Nat.mod_lt _ (by decide)⟩
      match (o - 0x100) % 0x100 with
      | 0x0 => some (.MCV_C_CTL n)
      | 0x4 => some (.MCV_C_CMD n)
      | 0x8 => some (.MCV_C_TINT n)
      | 0xC => some (.MCV_C_PH n)
      | 0x10 => some (.MCV_C_DLY n)
      | 0x14 => some (.MCV_C_SEQ_CFG n)
      | 0x18 => some (.MCV_C_STATUS n)
      | 0x1C => some (.MCV_C_BUF n)
      | 0x20 => some (.MCV_C_IDX n)
      | 0x24 => some (.MCV_C_CNT n)
      | p =>
        if 0x40 ≤ p ∧ p < 0xC0 ∧ p % 4 = 0 then some (.MCV_C_SEQ n ⟨(p - 0x40) / 4 % 32, Nat.mod_lt _ (by decide)⟩) else
        if 0xC0 ≤ p ∧ p < 0xE0 ∧ p % 4 = 0 then some (.MCV_C_INJ n ⟨(p - 0xC0) / 4 % 8, Nat.mod_lt _ (by decide)⟩) else
        none
    else
    if 0x800 ≤ o ∧ o < 0x900 then
      if (o - 0x800) % 4 = 0 then some (.MCV_CH_RES ⟨(o - 0x800) / 0x4 % 64, Nat.mod_lt _ (by decide)⟩) else none
    else
    none

/-- The register at an offset of its block, if there is one (register tables; block base 0x40100000). -/
def Reg.ofHlmOff (o : Nat) : Option Reg :=
  match o with
  | 0x0 => some .HLM_IRQ_EN
  | 0x4 => some .HLM_STATUS
  | 0x8 => some .HLM_CFG
  | 0xC => some .HLM_CMD
  | 0x10 => some .HLM_CLR
  | 0x14 => some .HLM_OPSEC
  | 0x18 => some .HLM_PWRCYC
  | 0x1C => some .HLM_LAST
  | 0x20 => some .HLM_LAST_CAUSE
  | 0x24 => some .HLM_CNT_INC
  | _ =>
    if 0x100 ≤ o ∧ o < 0x300 then
      let n : Fin 32 := ⟨(o - 0x100) / 0x10 % 32, Nat.mod_lt _ (by decide)⟩
      match (o - 0x100) % 0x10 with
      | 0x0 => some (.HLM_H_CTL n)
      | 0x4 => some (.HLM_H_LO n)
      | 0x8 => some (.HLM_H_W n)
      | 0xC => some (.HLM_H_ADDR n)
      | _ => none
    else
    if 0x400 ≤ o ∧ o < 0x600 then
      let n : Fin 64 := ⟨(o - 0x400) / 0x8 % 64, Nat.mod_lt _ (by decide)⟩
      match (o - 0x400) % 0x8 with
      | 0x0 => some (.HLM_X_CTL n)
      | 0x4 => some (.HLM_X_ADDR n)
      | _ => none
    else
    none

/-- The register at an offset of its block, if there is one (register tables; block base 0x40110000). -/
def Reg.ofLbOff (o : Nat) : Option Reg :=
  match o with
  | _ =>
    if 0x0 ≤ o ∧ o < 0x4000 then
      let n : Fin 4 := ⟨(o - 0x0) / 0x1000 % 4, Nat.mod_lt _ (by decide)⟩
      match (o - 0x0) % 0x1000 with
      | 0x0 => some (.LB_CTL n)
      | 0x4 => some (.LB_NBT n)
      | 0x8 => some (.LB_DBT n)
      | 0xC => some (.LB_STATUS n)
      | 0x10 => some (.LB_ERR n)
      | 0x14 => some (.LB_IRQ_EN n)
      | 0x18 => some (.LB_SYNC_CFG n)
      | 0x1C => some (.LB_CYC n)
      | 0x20 => some (.LB_TOL n)
      | 0x24 => some (.LB_RXDLY n)
      | 0x28 => some (.LB_SYNC_STAT n)
      | 0x2C => some (.LB_GT_LO n)
      | 0x30 => some (.LB_GT_HI n)
      | 0x34 => some (.LB_GT_ERR n)
      | 0x38 => some (.LB_DRIFT n)
      | 0x3C => some (.LB_REF_T n)
      | 0x60 => some (.LB_TXFAIL n)
      | 0x64 => some (.LB_IDCOL n)
      | 0x68 => some (.LB_CNT n)
      | 0x6C => some (.LB_FIFO n)
      | 0x70 => some (.LB_FIFO_IDX n)
      | p =>
        if 0x40 ≤ p ∧ p < 0x60 ∧ p % 4 = 0 then some (.LB_PROP n ⟨(p - 0x40) / 4 % 8, Nat.mod_lt _ (by decide)⟩) else
        if 0x74 ≤ p ∧ p < 0x7C ∧ p % 4 = 0 then some (.LB_TXREQ n ⟨(p - 0x74) / 4 % 2, Nat.mod_lt _ (by decide)⟩) else
        if 0x7C ≤ p ∧ p < 0x84 ∧ p % 4 = 0 then some (.LB_TXDONE n ⟨(p - 0x7C) / 4 % 2, Nat.mod_lt _ (by decide)⟩) else
        none
    else
    none

/-- The register at an offset of its block, if there is one (register tables; block base 0x100000000). -/
def Reg.ofHstOff (o : Nat) : Option Reg :=
  match o with
  | 0x0 => some .HST_ID
  | 0x4 => some .HST_STATUS
  | 0x8 => some .HST_DB
  | 0xC => some .HST_ERR
  | 0x10 => some .HST_IRQ_EN
  | 0x14 => some .HST_EVT_LOST
  | _ =>
    none

/-- The register at an offset of its block, if there is one (register tables; block base 0x40010000). -/
def Reg.ofMbxOff (o : Nat) : Option Reg :=
  match o with
  | 0x0 => some .MBX_IRQ_EN
  | 0x4 => some .MBX_STATUS
  | 0x8 => some .MBX_SLOTS
  | 0xC => some .MBX_POST
  | 0x10 => some .MBX_EVT
  | 0x14 => some .MBX_EVT_LOST
  | 0x18 => some .MBX_CTL
  | _ =>
    none

/-- The agent-visible register at a word address, if there is one (R33 and the register tables). -/
def Reg.ofAddr? (a : Nat) : Option Reg :=
  if 0x40000000 ≤ a ∧ a < 0x40010000 then Reg.ofSysOff (a - 0x40000000) else
  if 0x40010000 ≤ a ∧ a < 0x40020000 then Reg.ofMbxOff (a - 0x40010000) else
  if 0x40020000 ≤ a ∧ a < 0x40030000 then Reg.ofManOff (a - 0x40020000) else
  if 0x40030000 ≤ a ∧ a < 0x40040000 then Reg.ofFbkOff (a - 0x40030000) else
  if 0x40040000 ≤ a ∧ a < 0x40080000 then Reg.ofPwmOff (a - 0x40040000) else
  if 0x40080000 ≤ a ∧ a < 0x40090000 then Reg.ofQncOff (a - 0x40080000) else
  if 0x40090000 ≤ a ∧ a < 0x400A0000 then Reg.ofCmpOff (a - 0x40090000) else
  if 0x400A0000 ≤ a ∧ a < 0x400B0000 then Reg.ofSdmOff (a - 0x400A0000) else
  if 0x400B0000 ≤ a ∧ a < 0x400C0000 then Reg.ofMcvOff (a - 0x400B0000) else
  if 0x400C0000 ≤ a ∧ a < 0x400D0000 then Reg.ofAuxOff (a - 0x400C0000) else
  if 0x400D0000 ≤ a ∧ a < 0x400E0000 then Reg.ofLoopOff (a - 0x400D0000) else
  if 0x400E0000 ≤ a ∧ a < 0x400F0000 then Reg.ofAsyOff (a - 0x400E0000) else
  if 0x400F0000 ≤ a ∧ a < 0x40100000 then Reg.ofAnvOff (a - 0x400F0000) else
  if 0x40100000 ≤ a ∧ a < 0x40110000 then Reg.ofHlmOff (a - 0x40100000) else
  if 0x40110000 ≤ a ∧ a < 0x40114000 then Reg.ofLbOff (a - 0x40110000) else
  if 0x40120000 ≤ a ∧ a < 0x40130000 then Reg.ofDmaOff (a - 0x40120000) else
  if 0x40130000 ≤ a ∧ a < 0x40140000 then Reg.ofDbgOff (a - 0x40130000) else
  none

/-- The word a register holds after reset: its rows' reset values in their places (R11). -/
def Reg.reset (r : Reg) : Word :=
  r.rows.foldl (fun w f => w ||| (BitVec.ofNat 32 f.reset <<< f.lo)) 0#32

end Sys2Proof.Machine
end

