-- ==== Sys2Proof/Machine/Fields.lean ====
section
/-! DEFINITION. Each field of each register table by name: REGISTER_FIELD, with the register's numbers as arguments. -/

namespace Sys2Proof.Machine.Fld

-- spec/01, R31
def SYS_STATE_DEV_STATE : RF := ⟨.SYS_STATE, 0, 3⟩
def SYS_STATE_SV_STATE : RF := ⟨.SYS_STATE, 4, 3⟩
def SYS_STATE_CFG_LOCKED : RF := ⟨.SYS_STATE, 8, 1⟩
def SYS_STATE_LOCKSTEP_BROKEN : RF := ⟨.SYS_STATE, 9, 1⟩
def SYS_STATE_DBG_SAFE : RF := ⟨.SYS_STATE, 10, 1⟩
def SYS_STATE_REQ_TARGET : RF := ⟨.SYS_STATE_REQ, 0, 3⟩
def SYS_STATE_REQ_KEY : RF := ⟨.SYS_STATE_REQ, 16, 16⟩
def SYS_AX_STATE_AX0 : RF := ⟨.SYS_AX_STATE, 0, 3⟩
def SYS_AX_STATE_AX1 : RF := ⟨.SYS_AX_STATE, 4, 3⟩
def SYS_AX_STATE_AX2 : RF := ⟨.SYS_AX_STATE, 8, 3⟩
def SYS_AX_STATE_AX3 : RF := ⟨.SYS_AX_STATE, 12, 3⟩
def SYS_AUX_STATE_AUX0 : RF := ⟨.SYS_AUX_STATE, 0, 3⟩
def SYS_AUX_STATE_AUX1 : RF := ⟨.SYS_AUX_STATE, 4, 3⟩
def SYS_AUX_STATE_AUX2 : RF := ⟨.SYS_AUX_STATE, 8, 3⟩
def SYS_AUX_STATE_AUX3 : RF := ⟨.SYS_AUX_STATE, 12, 3⟩
def SYS_AUX_STATE_AUX4 : RF := ⟨.SYS_AUX_STATE, 16, 3⟩
def SYS_AUX_STATE_AUX5 : RF := ⟨.SYS_AUX_STATE, 20, 3⟩
def SYS_AUX_STATE_AUX6 : RF := ⟨.SYS_AUX_STATE, 24, 3⟩
def SYS_AUX_STATE_AUX7 : RF := ⟨.SYS_AUX_STATE, 28, 3⟩
def SYS_STATUS_REQ_REFUSED : RF := ⟨.SYS_STATUS, 0, 1⟩
def SYS_STATUS_UNMAPPED : RF := ⟨.SYS_STATUS, 1, 1⟩
def SYS_STATUS_CLK_MAIN_FAIL : RF := ⟨.SYS_STATUS, 2, 1⟩
def SYS_STATUS_CLK_SV_FAIL : RF := ⟨.SYS_STATUS, 3, 1⟩
def SYS_STATUS_STATE_CHG : RF := ⟨.SYS_STATUS, 4, 1⟩
def SYS_STATUS_FAULT_NEW : RF := ⟨.SYS_STATUS, 5, 1⟩
def SYS_REFUSE_TARGET : RF := ⟨.SYS_REFUSE, 0, 3⟩
def SYS_REFUSE_DEV_AT : RF := ⟨.SYS_REFUSE, 4, 3⟩
def SYS_REFUSE_AXIS : RF := ⟨.SYS_REFUSE, 8, 2⟩
def SYS_REFUSE_AXIS_WR : RF := ⟨.SYS_REFUSE, 10, 1⟩
def SYS_FAULT_FIRST : RF := ⟨.SYS_FAULT, 0, 16⟩
def SYS_FAULT_LAST : RF := ⟨.SYS_FAULT, 16, 16⟩
def SYS_FAULT_CLR_CLR : RF := ⟨.SYS_FAULT_CLR, 0, 1⟩
def SYS_UNMAPPED_ADDR_ADDR : RF := ⟨.SYS_UNMAPPED_ADDR, 0, 32⟩
def SYS_IRQ_EN_EN : RF := ⟨.SYS_IRQ_EN, 0, 7⟩
def SYS_TIME_LO_TIME : RF := ⟨.SYS_TIME_LO, 0, 32⟩
def SYS_TIME_HI_TIME : RF := ⟨.SYS_TIME_HI, 0, 32⟩
-- spec/01, R37
def SYS_GPIO_DIR_DIR : RF := ⟨.SYS_GPIO_DIR, 0, 32⟩
def SYS_GPIO_OUT_OUT : RF := ⟨.SYS_GPIO_OUT, 0, 32⟩
def SYS_GPIO_SET_SET : RF := ⟨.SYS_GPIO_SET, 0, 32⟩
def SYS_GPIO_CLR_CLR : RF := ⟨.SYS_GPIO_CLR, 0, 32⟩
def SYS_GPIO_IN_IN : RF := ⟨.SYS_GPIO_IN, 0, 32⟩
def SYS_GPIO_OWN_OWN : RF := ⟨.SYS_GPIO_OWN, 0, 32⟩
def SYS_GPIO_RISE_RISE : RF := ⟨.SYS_GPIO_RISE, 0, 32⟩
def SYS_GPIO_FALL_FALL : RF := ⟨.SYS_GPIO_FALL, 0, 32⟩
def SYS_GPIO_IE_IE : RF := ⟨.SYS_GPIO_IE, 0, 32⟩
-- spec/01, R43
def DMA_STATUS_DONE : RF := ⟨.DMA_STATUS, 0, 16⟩
def DMA_STATUS_OVR : RF := ⟨.DMA_STATUS, 16, 16⟩
def DMA_IE_DONE_IE : RF := ⟨.DMA_IE, 0, 16⟩
def DMA_IE_OVR_IE : RF := ⟨.DMA_IE, 16, 16⟩
def DMA_CH_CTL_EN (n : Fin 16) : RF := ⟨.DMA_CH_CTL n, 0, 1⟩
def DMA_CH_CTL_REQ (n : Fin 16) : RF := ⟨.DMA_CH_CTL n, 1, 6⟩
def DMA_CH_CTL_SRC_INC (n : Fin 16) : RF := ⟨.DMA_CH_CTL n, 7, 1⟩
def DMA_CH_CTL_CIRC (n : Fin 16) : RF := ⟨.DMA_CH_CTL n, 8, 1⟩
def DMA_CH_CTL_BURST (n : Fin 16) : RF := ⟨.DMA_CH_CTL n, 9, 4⟩
def DMA_CH_SRC_ADDR (n : Fin 16) : RF := ⟨.DMA_CH_SRC n, 2, 30⟩
def DMA_CH_DST_ADDR (n : Fin 16) : RF := ⟨.DMA_CH_DST n, 2, 30⟩
def DMA_CH_LEN_LEN (n : Fin 16) : RF := ⟨.DMA_CH_LEN n, 0, 16⟩
def DMA_CH_STAT_WIDX (n : Fin 16) : RF := ⟨.DMA_CH_STAT n, 0, 16⟩
def DMA_CH_STAT_PEND (n : Fin 16) : RF := ⟨.DMA_CH_STAT n, 16, 1⟩
def DMA_CH_STAT_BUSY (n : Fin 16) : RF := ⟨.DMA_CH_STAT n, 17, 1⟩
def DMA_CH_STAT_WR_IGN (n : Fin 16) : RF := ⟨.DMA_CH_STAT n, 24, 1⟩
def DMA_CH_SWREQ_REQ (n : Fin 16) : RF := ⟨.DMA_CH_SWREQ n, 0, 1⟩
-- spec/02, R76
def MAN_IRQ_EN_EN : RF := ⟨.MAN_IRQ_EN, 0, 6⟩
def MAN_AG_SUM_ANY : RF := ⟨.MAN_AG_SUM, 0, 8⟩
def MAN_AM_FIRED_FIRED (n : Fin 2) : RF := ⟨.MAN_AM_FIRED n, 0, 32⟩
def MAN_AM_JUMPED_JUMPED (n : Fin 2) : RF := ⟨.MAN_AM_JUMPED n, 0, 32⟩
def MAN_AM_IE_IE (n : Fin 2) : RF := ⟨.MAN_AM_IE n, 0, 32⟩
def MAN_AG_CTL_EN (n : Fin 8) : RF := ⟨.MAN_AG_CTL n, 0, 1⟩
def MAN_AG_CTL_SRC (n : Fin 8) : RF := ⟨.MAN_AG_CTL n, 1, 4⟩
def MAN_AG_CTL_SRC_CH (n : Fin 8) : RF := ⟨.MAN_AG_CTL n, 5, 3⟩
def MAN_AG_CTL_DIR_INV (n : Fin 8) : RF := ⟨.MAN_AG_CTL n, 8, 1⟩
def MAN_AG_CTL_SPD_N (n : Fin 8) : RF := ⟨.MAN_AG_CTL n, 9, 3⟩
def MAN_AG_CPR_CPR (n : Fin 8) : RF := ⟨.MAN_AG_CPR n, 0, 25⟩
def MAN_AG_GEAR_NUM_NUM (n : Fin 8) : RF := ⟨.MAN_AG_GEAR_NUM n, 0, 32⟩
def MAN_AG_GEAR_DEN_DEN (n : Fin 8) : RF := ⟨.MAN_AG_GEAR_DEN n, 0, 32⟩
def MAN_AG_PP_PP (n : Fin 8) : RF := ⟨.MAN_AG_PP n, 0, 7⟩
def MAN_AG_EOFS_EOFS (n : Fin 8) : RF := ⟨.MAN_AG_EOFS n, 0, 32⟩
def MAN_AG_JUMP_TH_TH (n : Fin 8) : RF := ⟨.MAN_AG_JUMP_TH n, 0, 32⟩
def MAN_AG_TMO_STILL_TMO (n : Fin 8) : RF := ⟨.MAN_AG_TMO n, 0, 16⟩
def MAN_AG_TMO_HOLD_TMO (n : Fin 8) : RF := ⟨.MAN_AG_TMO n, 16, 16⟩
def MAN_AG_RAMP_TGT_TGT (n : Fin 8) : RF := ⟨.MAN_AG_RAMP_TGT n, 0, 32⟩
def MAN_AG_RAMP_ACC_ACC (n : Fin 8) : RF := ⟨.MAN_AG_RAMP_ACC n, 0, 32⟩
def MAN_AG_STATUS_JUMP (n : Fin 8) : RF := ⟨.MAN_AG_STATUS n, 0, 1⟩
def MAN_AG_STATUS_REV (n : Fin 8) : RF := ⟨.MAN_AG_STATUS n, 1, 1⟩
def MAN_AG_STATUS_STILL (n : Fin 8) : RF := ⟨.MAN_AG_STATUS n, 2, 1⟩
def MAN_AG_STATUS_HOLDOVER (n : Fin 8) : RF := ⟨.MAN_AG_STATUS n, 3, 1⟩
def MAN_AG_STATUS_MAINS_LOST (n : Fin 8) : RF := ⟨.MAN_AG_STATUS n, 4, 1⟩
def MAN_AG_STATUS_WR_IGN (n : Fin 8) : RF := ⟨.MAN_AG_STATUS n, 5, 1⟩
def MAN_AG_STATUS_DIR (n : Fin 8) : RF := ⟨.MAN_AG_STATUS n, 8, 1⟩
def MAN_AG_STATUS_MOVING (n : Fin 8) : RF := ⟨.MAN_AG_STATUS n, 9, 1⟩
def MAN_AG_STATUS_IN_HOLD (n : Fin 8) : RF := ⟨.MAN_AG_STATUS n, 10, 1⟩
def MAN_AG_STATUS_CLAMPED (n : Fin 8) : RF := ⟨.MAN_AG_STATUS n, 11, 1⟩
def MAN_AG_JUMP_LAST_SIZE (n : Fin 8) : RF := ⟨.MAN_AG_JUMP_LAST n, 0, 32⟩
def MAN_AG_ELEC_ANGLE (n : Fin 8) : RF := ⟨.MAN_AG_ELEC n, 0, 32⟩
def MAN_AG_MECH_VALUE (n : Fin 8) : RF := ⟨.MAN_AG_MECH n, 0, 32⟩
def MAN_AG_SPEED_VALUE (n : Fin 8) : RF := ⟨.MAN_AG_SPEED n, 0, 32⟩
def MAN_AG_TURNS_VALUE (n : Fin 8) : RF := ⟨.MAN_AG_TURNS n, 0, 32⟩
def MAN_AG_TSNAP_VALUE (n : Fin 8) : RF := ⟨.MAN_AG_TSNAP n, 0, 32⟩
def MAN_AG_LATCH_POS_POS (n : Fin 8) : RF := ⟨.MAN_AG_LATCH_POS n, 0, 32⟩
def MAN_AG_LATCH_T_T (n : Fin 8) : RF := ⟨.MAN_AG_LATCH_T n, 4, 28⟩
def MAN_AG_LATCH_T_TAP (n : Fin 8) : RF := ⟨.MAN_AG_LATCH_T n, 0, 4⟩
def MAN_AM_CTL_EN (n : Fin 64) : RF := ⟨.MAN_AM_CTL n, 0, 1⟩
def MAN_AM_CTL_AG (n : Fin 64) : RF := ⟨.MAN_AM_CTL n, 1, 3⟩
def MAN_AM_CTL_DOMAIN (n : Fin 64) : RF := ⟨.MAN_AM_CTL n, 4, 1⟩
def MAN_AM_CTL_DIR (n : Fin 64) : RF := ⟨.MAN_AM_CTL n, 5, 2⟩
def MAN_AM_CTL_JUMP_SUPP (n : Fin 64) : RF := ⟨.MAN_AM_CTL n, 7, 1⟩
def MAN_AM_CTL_ARM (n : Fin 64) : RF := ⟨.MAN_AM_CTL n, 8, 2⟩
def MAN_AM_ANGLE_ANGLE (n : Fin 64) : RF := ⟨.MAN_AM_ANGLE n, 0, 32⟩
def MAN_AM_HYST_HYST (n : Fin 64) : RF := ⟨.MAN_AM_HYST n, 0, 30⟩
def MAN_AM_TS_T (n : Fin 64) : RF := ⟨.MAN_AM_TS n, 4, 28⟩
def MAN_AM_TS_TAP (n : Fin 64) : RF := ⟨.MAN_AM_TS n, 0, 4⟩
-- spec/03, R105
def FBK_IRQ_EN_EN : RF := ⟨.FBK_IRQ_EN, 0, 6⟩
def FBK_SUM_QE : RF := ⟨.FBK_SUM, 0, 8⟩
def FBK_SUM_SSI : RF := ⟨.FBK_SUM, 8, 4⟩
def FBK_QE_CTL_EN (n : Fin 8) : RF := ⟨.FBK_QE_CTL n, 0, 1⟩
def FBK_QE_CTL_MODE (n : Fin 8) : RF := ⟨.FBK_QE_CTL n, 1, 2⟩
def FBK_QE_CTL_TERM (n : Fin 8) : RF := ⟨.FBK_QE_CTL n, 3, 1⟩
def FBK_QE_CTL_SE_PU (n : Fin 8) : RF := ⟨.FBK_QE_CTL n, 4, 1⟩
def FBK_QE_CTL_DS_POL (n : Fin 8) : RF := ⟨.FBK_QE_CTL n, 5, 1⟩
def FBK_QE_FILT_AB_N (n : Fin 8) : RF := ⟨.FBK_QE_FILT n, 0, 8⟩
def FBK_QE_FILT_AB_PRE (n : Fin 8) : RF := ⟨.FBK_QE_FILT n, 8, 2⟩
def FBK_QE_FILT_Z_N (n : Fin 8) : RF := ⟨.FBK_QE_FILT n, 16, 8⟩
def FBK_QE_FILT_Z_PRE (n : Fin 8) : RF := ⟨.FBK_QE_FILT n, 24, 2⟩
def FBK_QE_MOD_MOD (n : Fin 8) : RF := ⟨.FBK_QE_MOD n, 0, 25⟩
def FBK_QE_CNT_CNT (n : Fin 8) : RF := ⟨.FBK_QE_CNT n, 0, 24⟩
def FBK_QE_TURNS_TURNS (n : Fin 8) : RF := ⟨.FBK_QE_TURNS n, 0, 32⟩
def FBK_QE_IDX_CTL_IDX_MODE (n : Fin 8) : RF := ⟨.FBK_QE_IDX_CTL n, 0, 2⟩
def FBK_QE_IDX_CTL_ARM (n : Fin 8) : RF := ⟨.FBK_QE_IDX_CTL n, 2, 1⟩
def FBK_QE_IDX_CTL_IDX_POL (n : Fin 8) : RF := ⟨.FBK_QE_IDX_CTL n, 3, 1⟩
def FBK_QE_IDX_CTL_ZGATE (n : Fin 8) : RF := ⟨.FBK_QE_IDX_CTL n, 4, 1⟩
def FBK_QE_IDX_CTL_ZQ (n : Fin 8) : RF := ⟨.FBK_QE_IDX_CTL n, 5, 2⟩
def FBK_QE_IDX_CTL_IDX_TOL (n : Fin 8) : RF := ⟨.FBK_QE_IDX_CTL n, 8, 2⟩
def FBK_QE_IDX_CTL_IDX_LIM (n : Fin 8) : RF := ⟨.FBK_QE_IDX_CTL n, 12, 4⟩
def FBK_QE_IDX_CNT_IDX_CNT (n : Fin 8) : RF := ⟨.FBK_QE_IDX_CNT n, 0, 24⟩
def FBK_QE_IDX_DIFF_D (n : Fin 8) : RF := ⟨.FBK_QE_IDX_DIFF n, 0, 32⟩
def FBK_QE_IDX_STAT_RAW (n : Fin 8) : RF := ⟨.FBK_QE_IDX_STAT n, 0, 24⟩
def FBK_QE_IDX_STAT_RUN (n : Fin 8) : RF := ⟨.FBK_QE_IDX_STAT n, 24, 5⟩
def FBK_QE_ERRCNT_DS_CNT (n : Fin 8) : RF := ⟨.FBK_QE_ERRCNT n, 0, 16⟩
def FBK_QE_ERRCNT_IDX_MISS (n : Fin 8) : RF := ⟨.FBK_QE_ERRCNT n, 16, 16⟩
def FBK_QE_ERRLIM_DS_LIM (n : Fin 8) : RF := ⟨.FBK_QE_ERRLIM n, 0, 16⟩
def FBK_QE_CLR_DS (n : Fin 8) : RF := ⟨.FBK_QE_CLR n, 0, 1⟩
def FBK_QE_CLR_IDX (n : Fin 8) : RF := ⟨.FBK_QE_CLR n, 1, 1⟩
def FBK_QE_STATUS_DS (n : Fin 8) : RF := ⟨.FBK_QE_STATUS n, 0, 1⟩
def FBK_QE_STATUS_IDX_EV (n : Fin 8) : RF := ⟨.FBK_QE_STATUS n, 1, 1⟩
def FBK_QE_STATUS_IDX_MISM (n : Fin 8) : RF := ⟨.FBK_QE_STATUS n, 2, 1⟩
def FBK_QE_STATUS_IDX_LIMIT (n : Fin 8) : RF := ⟨.FBK_QE_STATUS n, 3, 1⟩
def FBK_QE_STATUS_DS_LIMIT (n : Fin 8) : RF := ⟨.FBK_QE_STATUS n, 4, 1⟩
def FBK_QE_STATUS_LOS (n : Fin 8) : RF := ⟨.FBK_QE_STATUS n, 5, 1⟩
def FBK_QE_STATUS_HALL_SKIP (n : Fin 8) : RF := ⟨.FBK_QE_STATUS n, 6, 1⟩
def FBK_QE_STATUS_HALL_INV (n : Fin 8) : RF := ⟨.FBK_QE_STATUS n, 7, 1⟩
def FBK_QE_STATUS_CAP (n : Fin 8) : RF := ⟨.FBK_QE_STATUS n, 8, 1⟩
def FBK_QE_STATUS_CAP_OVR (n : Fin 8) : RF := ⟨.FBK_QE_STATUS n, 9, 1⟩
def FBK_QE_STATUS_WR_IGN (n : Fin 8) : RF := ⟨.FBK_QE_STATUS n, 10, 1⟩
def FBK_QE_STATUS_FAILED (n : Fin 8) : RF := ⟨.FBK_QE_STATUS n, 16, 1⟩
def FBK_QE_STATUS_HOMED (n : Fin 8) : RF := ⟨.FBK_QE_STATUS n, 17, 1⟩
def FBK_QE_STATUS_DIR (n : Fin 8) : RF := ⟨.FBK_QE_STATUS n, 18, 1⟩
def FBK_QE_STATUS_IN (n : Fin 8) : RF := ⟨.FBK_QE_STATUS n, 19, 3⟩
def FBK_QE_IDX_T_T (n : Fin 8) : RF := ⟨.FBK_QE_IDX_T n, 4, 28⟩
def FBK_QE_IDX_T_TAP (n : Fin 8) : RF := ⟨.FBK_QE_IDX_T n, 0, 4⟩
def FBK_QE_CAP_T_T (n : Fin 8) : RF := ⟨.FBK_QE_CAP_T n, 4, 28⟩
def FBK_QE_CAP_T_TAP (n : Fin 8) : RF := ⟨.FBK_QE_CAP_T n, 0, 4⟩
def FBK_QE_CAP_CTL_TRG (n : Fin 8) : RF := ⟨.FBK_QE_CAP_CTL n, 0, 3⟩
def FBK_QE_CAP_CTL_TRG_SEL (n : Fin 8) : RF := ⟨.FBK_QE_CAP_CTL n, 3, 8⟩
def FBK_QE_CAP_CTL_SWTRG (n : Fin 8) : RF := ⟨.FBK_QE_CAP_CTL n, 11, 1⟩
def FBK_QE_CAP_CNT_CNT (n : Fin 8) : RF := ⟨.FBK_QE_CAP_CNT n, 0, 24⟩
def FBK_QE_CAP_CNT_TURNS (n : Fin 8) : RF := ⟨.FBK_QE_CAP_CNT n, 24, 8⟩
def FBK_SSI_CTL_EN (n : Fin 4) : RF := ⟨.FBK_SSI_CTL n, 0, 1⟩
def FBK_SSI_CTL_TRG (n : Fin 4) : RF := ⟨.FBK_SSI_CTL n, 1, 3⟩
def FBK_SSI_CTL_TRG_SEL (n : Fin 4) : RF := ⟨.FBK_SSI_CTL n, 4, 8⟩
def FBK_SSI_CTL_CODE (n : Fin 4) : RF := ⟨.FBK_SSI_CTL n, 12, 1⟩
def FBK_SSI_CTL_PAR (n : Fin 4) : RF := ⟨.FBK_SSI_CTL n, 13, 2⟩
def FBK_SSI_CTL_SWTRG (n : Fin 4) : RF := ⟨.FBK_SSI_CTL n, 15, 1⟩
def FBK_SSI_CLK_HDIV (n : Fin 4) : RF := ⟨.FBK_SSI_CLK n, 0, 12⟩
def FBK_SSI_CLK_TM (n : Fin 4) : RF := ⟨.FBK_SSI_CLK n, 16, 12⟩
def FBK_SSI_FRAME_FLEN (n : Fin 4) : RF := ⟨.FBK_SSI_FRAME n, 0, 6⟩
def FBK_SSI_FRAME_MT_BITS (n : Fin 4) : RF := ⟨.FBK_SSI_FRAME n, 8, 5⟩
def FBK_SSI_FRAME_ST_BITS (n : Fin 4) : RF := ⟨.FBK_SSI_FRAME n, 16, 5⟩
def FBK_SSI_FRAME_POS_SH (n : Fin 4) : RF := ⟨.FBK_SSI_FRAME n, 24, 6⟩
def FBK_SSI_ERR_ERR_BIT (n : Fin 4) : RF := ⟨.FBK_SSI_ERR n, 0, 6⟩
def FBK_SSI_ERR_ERR_POL (n : Fin 4) : RF := ⟨.FBK_SSI_ERR n, 8, 1⟩
def FBK_SSI_ERR_ELIM (n : Fin 4) : RF := ⟨.FBK_SSI_ERR n, 16, 4⟩
def FBK_SSI_PERIOD_PERIOD (n : Fin 4) : RF := ⟨.FBK_SSI_PERIOD n, 0, 24⟩
def FBK_SSI_LDC_LDC (n : Fin 4) : RF := ⟨.FBK_SSI_LDC n, 0, 11⟩
def FBK_SSI_LDC_LAT_OFS (n : Fin 4) : RF := ⟨.FBK_SSI_LDC n, 16, 8⟩
def FBK_SSI_ST_ST (n : Fin 4) : RF := ⟨.FBK_SSI_ST n, 0, 24⟩
def FBK_SSI_MT_MT (n : Fin 4) : RF := ⟨.FBK_SSI_MT n, 0, 16⟩
def FBK_SSI_RAW_LO_RAW (n : Fin 4) : RF := ⟨.FBK_SSI_RAW_LO n, 0, 32⟩
def FBK_SSI_RAW_HI_RAW (n : Fin 4) : RF := ⟨.FBK_SSI_RAW_HI n, 0, 32⟩
def FBK_SSI_T_T (n : Fin 4) : RF := ⟨.FBK_SSI_T n, 4, 28⟩
def FBK_SSI_T_TAP (n : Fin 4) : RF := ⟨.FBK_SSI_T n, 0, 4⟩
def FBK_SSI_STATUS_FRAME (n : Fin 4) : RF := ⟨.FBK_SSI_STATUS n, 0, 1⟩
def FBK_SSI_STATUS_PAR_ERR (n : Fin 4) : RF := ⟨.FBK_SSI_STATUS n, 1, 1⟩
def FBK_SSI_STATUS_ENC_ERR (n : Fin 4) : RF := ⟨.FBK_SSI_STATUS n, 2, 1⟩
def FBK_SSI_STATUS_NOT_READY (n : Fin 4) : RF := ⟨.FBK_SSI_STATUS n, 3, 1⟩
def FBK_SSI_STATUS_TRG_LOST (n : Fin 4) : RF := ⟨.FBK_SSI_STATUS n, 4, 1⟩
def FBK_SSI_STATUS_ELIMIT (n : Fin 4) : RF := ⟨.FBK_SSI_STATUS n, 5, 1⟩
def FBK_SSI_STATUS_WR_IGN (n : Fin 4) : RF := ⟨.FBK_SSI_STATUS n, 6, 1⟩
def FBK_SSI_STATUS_BUSY (n : Fin 4) : RF := ⟨.FBK_SSI_STATUS n, 8, 1⟩
def FBK_SSI_STATUS_FAILED (n : Fin 4) : RF := ⟨.FBK_SSI_STATUS n, 9, 1⟩
def FBK_SSI_STATUS_ERUN (n : Fin 4) : RF := ⟨.FBK_SSI_STATUS n, 12, 4⟩
def FBK_SSI_FRAMES_N (n : Fin 4) : RF := ⟨.FBK_SSI_FRAMES n, 0, 32⟩
-- spec/04, R128
def SDM_IRQ_EN_EN : RF := ⟨.SDM_IRQ_EN, 0, 7⟩
def SDM_SUM_ANY : RF := ⟨.SDM_SUM, 0, 32⟩
def SDM_SWTRG_TRG : RF := ⟨.SDM_SWTRG, 0, 32⟩
def SDM_WORD_IE_IE : RF := ⟨.SDM_WORD_IE, 0, 32⟩
def SDM_CK_CTL_EN (n : Fin 8) : RF := ⟨.SDM_CK_CTL n, 0, 1⟩
def SDM_CK_CTL_DIV (n : Fin 8) : RF := ⟨.SDM_CK_CTL n, 1, 7⟩
def SDM_CH_CTL_EN (n : Fin 32) : RF := ⟨.SDM_CH_CTL n, 0, 1⟩
def SDM_CH_CTL_CK (n : Fin 32) : RF := ⟨.SDM_CH_CTL n, 1, 2⟩
def SDM_CH_CTL_OSR3 (n : Fin 32) : RF := ⟨.SDM_CH_CTL n, 4, 3⟩
def SDM_CH_CTL_WIN (n : Fin 32) : RF := ⟨.SDM_CH_CTL n, 8, 2⟩
def SDM_CH_CTL_WIN_SEL (n : Fin 32) : RF := ⟨.SDM_CH_CTL n, 10, 6⟩
def SDM_CH_CTL_DLY (n : Fin 32) : RF := ⟨.SDM_CH_CTL n, 16, 4⟩
def SDM_CH_CTL_OSR2 (n : Fin 32) : RF := ⟨.SDM_CH_CTL n, 20, 2⟩
def SDM_CH_CTL_FEN (n : Fin 32) : RF := ⟨.SDM_CH_CTL n, 22, 1⟩
def SDM_CH_CTL_DMA (n : Fin 32) : RF := ⟨.SDM_CH_CTL n, 23, 1⟩
def SDM_CH_OFS_OFS (n : Fin 32) : RF := ⟨.SDM_CH_OFS n, 0, 24⟩
def SDM_CH_GAIN_GAIN (n : Fin 32) : RF := ⟨.SDM_CH_GAIN n, 0, 16⟩
def SDM_CH_FTH_HI (n : Fin 32) : RF := ⟨.SDM_CH_FTH n, 0, 16⟩
def SDM_CH_FTH_LO (n : Fin 32) : RF := ⟨.SDM_CH_FTH n, 16, 16⟩
def SDM_CH_FHYS_FHYS (n : Fin 32) : RF := ⟨.SDM_CH_FHYS n, 0, 16⟩
def SDM_CH_DATA_WORD (n : Fin 32) : RF := ⟨.SDM_CH_DATA n, 0, 32⟩
def SDM_CH_FWORD_F (n : Fin 32) : RF := ⟨.SDM_CH_FWORD n, 0, 16⟩
def SDM_CH_WS_T_T (n : Fin 32) : RF := ⟨.SDM_CH_WS_T n, 4, 28⟩
def SDM_CH_WS_T_TAP (n : Fin 32) : RF := ⟨.SDM_CH_WS_T n, 0, 4⟩
def SDM_CH_STATUS_WORD (n : Fin 32) : RF := ⟨.SDM_CH_STATUS n, 0, 1⟩
def SDM_CH_STATUS_WIN_LOST (n : Fin 32) : RF := ⟨.SDM_CH_STATUS n, 1, 1⟩
def SDM_CH_STATUS_STUCK (n : Fin 32) : RF := ⟨.SDM_CH_STATUS n, 2, 1⟩
def SDM_CH_STATUS_SAT (n : Fin 32) : RF := ⟨.SDM_CH_STATUS n, 3, 1⟩
def SDM_CH_STATUS_FTRIP (n : Fin 32) : RF := ⟨.SDM_CH_STATUS n, 4, 1⟩
def SDM_CH_STATUS_WR_IGN (n : Fin 32) : RF := ⟨.SDM_CH_STATUS n, 5, 1⟩
def SDM_CH_STATUS_FACT (n : Fin 32) : RF := ⟨.SDM_CH_STATUS n, 8, 1⟩
def SDM_CH_STATUS_OPEN (n : Fin 32) : RF := ⟨.SDM_CH_STATUS n, 9, 1⟩
def SDM_CH_STATUS_STUCK_NOW (n : Fin 32) : RF := ⟨.SDM_CH_STATUS n, 10, 1⟩
def SDM_CHK_CTL_EN (n : Fin 16) : RF := ⟨.SDM_CHK_CTL n, 0, 1⟩
def SDM_CHK_CTL_XLIM (n : Fin 16) : RF := ⟨.SDM_CHK_CTL n, 8, 4⟩
def SDM_CHK_CTL_XTOL (n : Fin 16) : RF := ⟨.SDM_CHK_CTL n, 16, 16⟩
def SDM_CHK_STAT_XCNT (n : Fin 16) : RF := ⟨.SDM_CHK_STAT n, 0, 16⟩
def SDM_CHK_STAT_XRUN (n : Fin 16) : RF := ⟨.SDM_CHK_STAT n, 16, 4⟩
def SDM_CHK_STAT_XMIS (n : Fin 16) : RF := ⟨.SDM_CHK_STAT n, 20, 1⟩
def SDM_CHK_STAT_XLIMIT (n : Fin 16) : RF := ⟨.SDM_CHK_STAT n, 21, 1⟩
def SDM_SG_CTL_EN_A (n : Fin 4) : RF := ⟨.SDM_SG_CTL n, 0, 1⟩
def SDM_SG_CTL_EN_B (n : Fin 4) : RF := ⟨.SDM_SG_CTL n, 1, 1⟩
def SDM_SG_CTL_SLIM (n : Fin 4) : RF := ⟨.SDM_SG_CTL n, 8, 4⟩
def SDM_SG_CTL_STOL (n : Fin 4) : RF := ⟨.SDM_SG_CTL n, 16, 16⟩
def SDM_SG_STAT_SCNT (n : Fin 4) : RF := ⟨.SDM_SG_STAT n, 0, 16⟩
def SDM_SG_STAT_SRUN_A (n : Fin 4) : RF := ⟨.SDM_SG_STAT n, 16, 4⟩
def SDM_SG_STAT_SRUN_B (n : Fin 4) : RF := ⟨.SDM_SG_STAT n, 20, 4⟩
def SDM_SG_STAT_SMIS_A (n : Fin 4) : RF := ⟨.SDM_SG_STAT n, 24, 1⟩
def SDM_SG_STAT_SMIS_B (n : Fin 4) : RF := ⟨.SDM_SG_STAT n, 25, 1⟩
def SDM_SG_STAT_SLIMIT (n : Fin 4) : RF := ⟨.SDM_SG_STAT n, 26, 1⟩
def SDM_CNT_CLR_PAIR : RF := ⟨.SDM_CNT_CLR, 0, 16⟩
def SDM_CNT_CLR_GROUP : RF := ⟨.SDM_CNT_CLR, 16, 4⟩
-- spec/05, R166
def LOOP_CTL_EN : RF := ⟨.LOOP_CTL, 0, 1⟩
def LOOP_IRQ_EN_EN : RF := ⟨.LOOP_IRQ_EN, 0, 7⟩
def LOOP_STATUS_COMMIT_MISS : RF := ⟨.LOOP_STATUS, 0, 1⟩
def LOOP_STATUS_SLOW : RF := ⟨.LOOP_STATUS, 1, 1⟩
def LOOP_STATUS_RETIRE : RF := ⟨.LOOP_STATUS, 2, 1⟩
def LOOP_STATUS_REL_LOST : RF := ⟨.LOOP_STATUS, 3, 1⟩
def LOOP_STATUS_BUDGET_OVR : RF := ⟨.LOOP_STATUS, 4, 1⟩
def LOOP_STATUS_CONFLICT : RF := ⟨.LOOP_STATUS, 5, 1⟩
def LOOP_STATUS_WR_IGN : RF := ⟨.LOOP_STATUS, 6, 1⟩
def LOOP_STATUS_ACC_ERR : RF := ⟨.LOOP_STATUS, 7, 1⟩
def LOOP_STATUS_NO_SPARE : RF := ⟨.LOOP_STATUS, 8, 1⟩
def LOOP_STATUS_ACTIVE : RF := ⟨.LOOP_STATUS, 16, 5⟩
def LOOP_STATUS_SPARES : RF := ⟨.LOOP_STATUS, 24, 5⟩
def LOOP_SPARE_SPARE : RF := ⟨.LOOP_SPARE, 0, 24⟩
def LOOP_PAIR_CMD_PAIR : RF := ⟨.LOOP_PAIR_CMD, 0, 5⟩
def LOOP_PAIR_CMD_CMD : RF := ⟨.LOOP_PAIR_CMD, 8, 3⟩
def LOOP_PAIR_CMD_KEY : RF := ⟨.LOOP_PAIR_CMD, 16, 16⟩
def LOOP_MISS_LAST_TASK : RF := ⟨.LOOP_MISS_LAST, 0, 9⟩
def LOOP_MISS_LAST_PAIR : RF := ⟨.LOOP_MISS_LAST, 16, 5⟩
def LOOP_MISS_LAST_PINNED : RF := ⟨.LOOP_MISS_LAST, 24, 1⟩
def LOOP_RETIRE_LAST_PAIR : RF := ⟨.LOOP_RETIRE_LAST, 0, 5⟩
def LOOP_RETIRE_LAST_CAUSE : RF := ⟨.LOOP_RETIRE_LAST, 8, 3⟩
def LOOP_RETIRE_LAST_TARGET : RF := ⟨.LOOP_RETIRE_LAST, 16, 5⟩
def LOOP_RETIRE_LAST_TGT_VALID : RF := ⟨.LOOP_RETIRE_LAST, 24, 1⟩
def LOOP_SWREL_TASK : RF := ⟨.LOOP_SWREL, 0, 9⟩
def LOOP_TICK_PER_PER (n : Fin 8) : RF := ⟨.LOOP_TICK_PER n, 0, 24⟩
def LOOP_TICK_PH_PH (n : Fin 8) : RF := ⟨.LOOP_TICK_PH n, 0, 24⟩
def LOOP_P_STATE_STATE (n : Fin 24) : RF := ⟨.LOOP_P_STATE n, 0, 3⟩
def LOOP_P_STATE_SPARE (n : Fin 24) : RF := ⟨.LOOP_P_STATE n, 3, 1⟩
def LOOP_P_STATE_BUSY (n : Fin 24) : RF := ⟨.LOOP_P_STATE n, 4, 1⟩
def LOOP_P_STATE_PIN_MISS_RUN (n : Fin 24) : RF := ⟨.LOOP_P_STATE n, 8, 2⟩
def LOOP_P_STATE_LOW_RUN (n : Fin 24) : RF := ⟨.LOOP_P_STATE n, 12, 4⟩
def LOOP_P_STATE_HOMED (n : Fin 24) : RF := ⟨.LOOP_P_STATE n, 16, 9⟩
def LOOP_P_MARGIN_TH (n : Fin 24) : RF := ⟨.LOOP_P_MARGIN n, 0, 24⟩
def LOOP_P_SLACK_LAST (n : Fin 24) : RF := ⟨.LOOP_P_SLACK n, 0, 24⟩
def LOOP_P_CNT_STEALS (n : Fin 24) : RF := ⟨.LOOP_P_CNT n, 0, 16⟩
def LOOP_P_CNT_MISSES (n : Fin 24) : RF := ⟨.LOOP_P_CNT n, 16, 16⟩
def LOOP_P_ECC_CE (n : Fin 24) : RF := ⟨.LOOP_P_ECC n, 0, 16⟩
def LOOP_D_CTL_EN (n : Fin 512) : RF := ⟨.LOOP_D_CTL n, 0, 1⟩
def LOOP_D_CTL_PIN (n : Fin 512) : RF := ⟨.LOOP_D_CTL n, 1, 1⟩
def LOOP_D_CTL_REL (n : Fin 512) : RF := ⟨.LOOP_D_CTL n, 2, 3⟩
def LOOP_D_CTL_REL_SEL (n : Fin 512) : RF := ⟨.LOOP_D_CTL n, 5, 6⟩
def LOOP_D_CTL_HOME (n : Fin 512) : RF := ⟨.LOOP_D_CTL n, 11, 5⟩
def LOOP_D_CTL_AG (n : Fin 512) : RF := ⟨.LOOP_D_CTL n, 16, 3⟩
def LOOP_D_CTL_REACT (n : Fin 512) : RF := ⟨.LOOP_D_CTL n, 20, 3⟩
def LOOP_D_CTL_MISS_LIM (n : Fin 512) : RF := ⟨.LOOP_D_CTL n, 24, 4⟩
def LOOP_D_CPH_CPH (n : Fin 512) : RF := ⟨.LOOP_D_CPH n, 0, 24⟩
def LOOP_D_BUD_BUD (n : Fin 512) : RF := ⟨.LOOP_D_BUD n, 0, 24⟩
def LOOP_D_ENTRY_ENTRY (n : Fin 512) : RF := ⟨.LOOP_D_ENTRY n, 2, 14⟩
def LOOP_D_CTX_CTX_LOCAL (n : Fin 512) : RF := ⟨.LOOP_D_CTX n, 3, 13⟩
def LOOP_D_CTX_CTX_LEN (n : Fin 512) : RF := ⟨.LOOP_D_CTX n, 16, 9⟩
def LOOP_D_CTXS_CTXS (n : Fin 512) : RF := ⟨.LOOP_D_CTXS n, 12, 20⟩
def LOOP_D_OUT_OUT_FIRST (n : Fin 512) : RF := ⟨.LOOP_D_OUT n, 0, 10⟩
def LOOP_D_OUT_OUT_N (n : Fin 512) : RF := ⟨.LOOP_D_OUT n, 16, 5⟩
def LOOP_D_STAT_MISS_RUN (n : Fin 512) : RF := ⟨.LOOP_D_STAT n, 0, 4⟩
def LOOP_D_STAT_LAST_PAIR (n : Fin 512) : RF := ⟨.LOOP_D_STAT n, 8, 5⟩
def LOOP_D_STAT_CTX_HALF (n : Fin 512) : RF := ⟨.LOOP_D_STAT n, 16, 1⟩
def LOOP_D_STAT_PENDING (n : Fin 512) : RF := ⟨.LOOP_D_STAT n, 17, 1⟩
def LOOP_D_STAT_RUNNING (n : Fin 512) : RF := ⟨.LOOP_D_STAT n, 18, 1⟩
def LOOP_D_STAT_INST (n : Fin 512) : RF := ⟨.LOOP_D_STAT n, 24, 8⟩
def LOOP_TGT_ADDR (n : Fin 1024) : RF := ⟨.LOOP_TGT n, 0, 32⟩
-- spec/07, R216
def PWM_IRQ_EN_EN : RF := ⟨.PWM_IRQ_EN, 0, 8⟩
def PWM_SUM_ANY : RF := ⟨.PWM_SUM, 0, 16⟩
def PWM_XFER_IE_IE : RF := ⟨.PWM_XFER_IE, 0, 16⟩
def PWM_START_START : RF := ⟨.PWM_START, 0, 16⟩
def PWM_STOP_STOP : RF := ⟨.PWM_STOP, 0, 16⟩
def PWM_LOADALL_ARM : RF := ⟨.PWM_LOADALL, 0, 16⟩
def PWM_XMARK_MARK : RF := ⟨.PWM_XMARK, 0, 6⟩
def PWM_XMARK_EN : RF := ⟨.PWM_XMARK, 8, 1⟩
def PWM_POL_GPOL : RF := ⟨.PWM_POL, 0, 4⟩
def PWM_PAD_DRIVE : RF := ⟨.PWM_PAD, 0, 16⟩
def PWM_G_CFG_MODE (n : Fin 16) : RF := ⟨.PWM_G_CFG n, 0, 3⟩
def PWM_G_CFG_TOPO (n : Fin 16) : RF := ⟨.PWM_G_CFG n, 3, 1⟩
def PWM_G_CFG_RLD_CTR (n : Fin 16) : RF := ⟨.PWM_G_CFG n, 4, 1⟩
def PWM_G_CFG_EVT (n : Fin 16) : RF := ⟨.PWM_G_CFG n, 5, 2⟩
def PWM_G_CFG_BOOT (n : Fin 16) : RF := ⟨.PWM_G_CFG n, 7, 1⟩
def PWM_G_CFG_INTLV (n : Fin 16) : RF := ⟨.PWM_G_CFG n, 8, 1⟩
def PWM_G_CTL_LOADALL (n : Fin 16) : RF := ⟨.PWM_G_CTL n, 0, 1⟩
def PWM_G_CTL_XSRC (n : Fin 16) : RF := ⟨.PWM_G_CTL n, 1, 1⟩
def PWM_G_STATUS_XFER (n : Fin 16) : RF := ⟨.PWM_G_STATUS n, 0, 1⟩
def PWM_G_STATUS_LATE (n : Fin 16) : RF := ⟨.PWM_G_STATUS n, 1, 1⟩
def PWM_G_STATUS_TORN_WR (n : Fin 16) : RF := ⟨.PWM_G_STATUS n, 2, 1⟩
def PWM_G_STATUS_ZTMO (n : Fin 16) : RF := ⟨.PWM_G_STATUS n, 3, 1⟩
def PWM_G_STATUS_PTMO (n : Fin 16) : RF := ⟨.PWM_G_STATUS n, 4, 1⟩
def PWM_G_STATUS_PEAK (n : Fin 16) : RF := ⟨.PWM_G_STATUS n, 5, 1⟩
def PWM_G_STATUS_REFRESH (n : Fin 16) : RF := ⟨.PWM_G_STATUS n, 6, 1⟩
def PWM_G_STATUS_WR_IGN (n : Fin 16) : RF := ⟨.PWM_G_STATUS n, 7, 1⟩
def PWM_G_STATUS_DT_ERR (n : Fin 16) : RF := ⟨.PWM_G_STATUS n, 8, 1⟩
def PWM_G_STATUS_RUN (n : Fin 16) : RF := ⟨.PWM_G_STATUS n, 16, 1⟩
def PWM_G_STATUS_OPEN (n : Fin 16) : RF := ⟨.PWM_G_STATUS n, 17, 1⟩
def PWM_G_PER_PER (n : Fin 16) : RF := ⟨.PWM_G_PER n, 0, 24⟩
def PWM_G_PER_ACT_PER (n : Fin 16) : RF := ⟨.PWM_G_PER_ACT n, 0, 24⟩
def PWM_G_PHASE_PHASE (n : Fin 16) : RF := ⟨.PWM_G_PHASE n, 0, 24⟩
def PWM_G_CNT_CNT (n : Fin 16) : RF := ⟨.PWM_G_CNT n, 0, 24⟩
def PWM_G_OUT_EN_EN (n : Fin 16) : RF := ⟨.PWM_G_OUT_EN n, 0, 18⟩
def PWM_G_DT_DT_HL (n : Fin 16) : RF := ⟨.PWM_G_DT n, 0, 16⟩
def PWM_G_DT_DT_LH (n : Fin 16) : RF := ⟨.PWM_G_DT n, 16, 16⟩
def PWM_G_DT_C_DT_HL (n : Fin 16) : RF := ⟨.PWM_G_DT_C n, 0, 16⟩
def PWM_G_DT_C_DT_LH (n : Fin 16) : RF := ⟨.PWM_G_DT_C n, 16, 16⟩
def PWM_G_BOOT_T_REF (n : Fin 16) : RF := ⟨.PWM_G_BOOT n, 0, 12⟩
def PWM_G_BOOT_T_BOOT (n : Fin 16) : RF := ⟨.PWM_G_BOOT n, 16, 16⟩
def PWM_G_BOOT_C_T_REF (n : Fin 16) : RF := ⟨.PWM_G_BOOT_C n, 0, 12⟩
def PWM_G_BOOT_C_T_BOOT (n : Fin 16) : RF := ⟨.PWM_G_BOOT_C n, 16, 16⟩
def PWM_G_VP_BLANK (n : Fin 16) : RF := ⟨.PWM_G_VP n, 0, 10⟩
def PWM_G_VP_ZDLY (n : Fin 16) : RF := ⟨.PWM_G_VP n, 16, 10⟩
def PWM_G_VPT_TMAX (n : Fin 16) : RF := ⟨.PWM_G_VPT n, 0, 24⟩
def PWM_G_SNS_ZSEL (n : Fin 16) (m : Fin 4) : RF := ⟨.PWM_G_SNS n m, 0, 6⟩
def PWM_G_SNS_PSEL (n : Fin 16) (m : Fin 4) : RF := ⟨.PWM_G_SNS n m, 8, 6⟩
def PWM_G_SNS_PEN (n : Fin 16) (m : Fin 4) : RF := ⟨.PWM_G_SNS n m, 14, 1⟩
def PWM_G_SNS_SWAP (n : Fin 16) (m : Fin 4) : RF := ⟨.PWM_G_SNS n m, 16, 1⟩
def PWM_G_CMP_INT (n : Fin 16) (m : Fin 9) : RF := ⟨.PWM_G_CMP n m, 4, 24⟩
def PWM_G_CMP_TAP (n : Fin 16) (m : Fin 9) : RF := ⟨.PWM_G_CMP n m, 0, 4⟩
def PWM_G_CMP_ACT_INT (n : Fin 16) (m : Fin 9) : RF := ⟨.PWM_G_CMP_ACT n m, 4, 24⟩
def PWM_G_CMP_ACT_TAP (n : Fin 16) (m : Fin 9) : RF := ⟨.PWM_G_CMP_ACT n m, 0, 4⟩
def PWM_G_VP_LAST_T (n : Fin 16) (m : Fin 4) : RF := ⟨.PWM_G_VP_LAST n m, 0, 24⟩
-- spec/08, R237
def PWM_PAT_CHK_PAT : RF := ⟨.PWM_PAT_CHK, 0, 6⟩
def PWM_PAT_CHK_BUSY : RF := ⟨.PWM_PAT_CHK, 8, 1⟩
def PWM_PAT_CHK_OK : RF := ⟨.PWM_PAT_CHK, 9, 1⟩
def PWM_PAT_CHK_RULE : RF := ⟨.PWM_PAT_CHK, 12, 3⟩
def PWM_PAT_CHK_IGN : RF := ⟨.PWM_PAT_CHK, 16, 1⟩
def PWM_G_PAT_CTL_AG (n : Fin 4) : RF := ⟨.PWM_G_PAT_CTL n, 0, 3⟩
def PWM_G_PAT_CTL_PSEQ (n : Fin 4) : RF := ⟨.PWM_G_PAT_CTL n, 4, 1⟩
def PWM_G_PAT_CTL_CSYNC (n : Fin 4) : RF := ⟨.PWM_G_PAT_CTL n, 5, 1⟩
def PWM_G_PAT_OFS_OFS_U (n : Fin 4) : RF := ⟨.PWM_G_PAT_OFS n, 0, 32⟩
def PWM_G_PAT_DLYC_DLYC (n : Fin 4) : RF := ⟨.PWM_G_PAT_DLYC n, 0, 16⟩
def PWM_G_PAT_LVL_P (n : Fin 4) : RF := ⟨.PWM_G_PAT_LVL n, 0, 3⟩
def PWM_G_PAT_LVL_OP (n : Fin 4) : RF := ⟨.PWM_G_PAT_LVL n, 4, 3⟩
def PWM_G_PAT_LVL_ON (n : Fin 4) : RF := ⟨.PWM_G_PAT_LVL n, 8, 3⟩
def PWM_G_PAT_LVL_N (n : Fin 4) : RF := ⟨.PWM_G_PAT_LVL n, 12, 3⟩
def PWM_G_PSEL_PSEL (n : Fin 4) : RF := ⟨.PWM_G_PSEL n, 0, 6⟩
def PWM_G_PSEL_ACT_PSEL (n : Fin 4) : RF := ⟨.PWM_G_PSEL_ACT n, 0, 6⟩
def PWM_G_PAT_ISIGN_U (n : Fin 4) : RF := ⟨.PWM_G_PAT_ISIGN n, 0, 2⟩
def PWM_G_PAT_ISIGN_V (n : Fin 4) : RF := ⟨.PWM_G_PAT_ISIGN n, 2, 2⟩
def PWM_G_PAT_ISIGN_W (n : Fin 4) : RF := ⟨.PWM_G_PAT_ISIGN n, 4, 2⟩
def PWM_G_PAT_STATUS_HOVER (n : Fin 4) : RF := ⟨.PWM_G_PAT_STATUS n, 0, 1⟩
def PWM_G_PAT_STATUS_JUMPED (n : Fin 4) : RF := ⟨.PWM_G_PAT_STATUS n, 1, 1⟩
def PWM_G_PAT_STATUS_MERGE (n : Fin 4) : RF := ⟨.PWM_G_PAT_STATUS n, 2, 1⟩
def PWM_G_PAT_STATUS_BADPAT (n : Fin 4) : RF := ⟨.PWM_G_PAT_STATUS n, 3, 1⟩
def PWM_G_PAT_STATUS_PAT_ON (n : Fin 4) : RF := ⟨.PWM_G_PAT_STATUS n, 16, 1⟩
def PWM_G_PAT_STATUS_LVL_U (n : Fin 4) : RF := ⟨.PWM_G_PAT_STATUS n, 20, 2⟩
def PWM_G_PAT_STATUS_LVL_V (n : Fin 4) : RF := ⟨.PWM_G_PAT_STATUS n, 22, 2⟩
def PWM_G_PAT_STATUS_LVL_W (n : Fin 4) : RF := ⟨.PWM_G_PAT_STATUS n, 24, 2⟩
def PWM_G_PAT_HOV_T_T (n : Fin 4) : RF := ⟨.PWM_G_PAT_HOV_T n, 4, 28⟩
def PWM_G_PAT_HOV_T_TAP (n : Fin 4) : RF := ⟨.PWM_G_PAT_HOV_T n, 0, 4⟩
-- spec/09, R274
def CMP_IRQ_EN_EN : RF := ⟨.CMP_IRQ_EN, 0, 6⟩
def CMP_SUM_ANY (n : Fin 2) : RF := ⟨.CMP_SUM n, 0, 32⟩
def CMP_TS_CTL_EN : RF := ⟨.CMP_TS_CTL, 0, 1⟩
def CMP_TS_CTL_TS_INT : RF := ⟨.CMP_TS_CTL, 8, 8⟩
def CMP_TS_CTL_DAC_TOL : RF := ⟨.CMP_TS_CTL, 16, 4⟩
def CMP_TS_CTL_TS_LIM : RF := ⟨.CMP_TS_CTL, 20, 4⟩
def CMP_TS_STAT_LAST : RF := ⟨.CMP_TS_STAT, 0, 6⟩
def CMP_TS_STAT_BUSY : RF := ⟨.CMP_TS_STAT, 8, 1⟩
def CMP_TS_STAT_PASS : RF := ⟨.CMP_TS_STAT, 9, 1⟩
def CMP_WC_CTL_EN (n : Fin 64) : RF := ⟨.CMP_WC_CTL n, 0, 1⟩
def CMP_WC_CTL_MODE (n : Fin 64) : RF := ⟨.CMP_WC_CTL n, 1, 1⟩
def CMP_WC_CTL_HYS (n : Fin 64) : RF := ⟨.CMP_WC_CTL n, 2, 2⟩
def CMP_WC_CTL_QSEL (n : Fin 64) : RF := ⟨.CMP_WC_CTL n, 4, 2⟩
def CMP_WC_CTL_PCLR (n : Fin 64) : RF := ⟨.CMP_WC_CTL n, 6, 1⟩
def CMP_WC_CTL_CLRGRP (n : Fin 64) : RF := ⟨.CMP_WC_CTL n, 8, 4⟩
def CMP_WC_CTL_IE (n : Fin 64) : RF := ⟨.CMP_WC_CTL n, 12, 1⟩
def CMP_WC_CTL_TS_EN (n : Fin 64) : RF := ⟨.CMP_WC_CTL n, 13, 1⟩
def CMP_WC_CTL_PARTNER (n : Fin 64) : RF := ⟨.CMP_WC_CTL n, 16, 6⟩
def CMP_WC_TH_TH_LO (n : Fin 64) : RF := ⟨.CMP_WC_TH n, 0, 10⟩
def CMP_WC_TH_TH_HI (n : Fin 64) : RF := ⟨.CMP_WC_TH n, 16, 10⟩
def CMP_WC_STAT_LAT_HI (n : Fin 64) : RF := ⟨.CMP_WC_STAT n, 0, 1⟩
def CMP_WC_STAT_LAT_LO (n : Fin 64) : RF := ⟨.CMP_WC_STAT n, 1, 1⟩
def CMP_WC_STAT_EDGE_HI (n : Fin 64) : RF := ⟨.CMP_WC_STAT n, 2, 1⟩
def CMP_WC_STAT_EDGE_LO (n : Fin 64) : RF := ⟨.CMP_WC_STAT n, 3, 1⟩
def CMP_WC_STAT_TS_FAIL (n : Fin 64) : RF := ⟨.CMP_WC_STAT n, 4, 1⟩
def CMP_WC_STAT_TS_SKIP (n : Fin 64) : RF := ⟨.CMP_WC_STAT n, 5, 1⟩
def CMP_WC_STAT_RB_FAIL (n : Fin 64) : RF := ⟨.CMP_WC_STAT n, 6, 1⟩
def CMP_WC_STAT_WR_IGN (n : Fin 64) : RF := ⟨.CMP_WC_STAT n, 7, 1⟩
def CMP_WC_STAT_HI (n : Fin 64) : RF := ⟨.CMP_WC_STAT n, 16, 1⟩
def CMP_WC_STAT_LO (n : Fin 64) : RF := ⟨.CMP_WC_STAT n, 17, 1⟩
def CMP_WC_STAT_TEST (n : Fin 64) : RF := ⟨.CMP_WC_STAT n, 18, 1⟩
def CMP_WC_STAT_RB_RUN (n : Fin 64) : RF := ⟨.CMP_WC_STAT n, 20, 4⟩
def CMP_WC_RB_RB_LO (n : Fin 64) : RF := ⟨.CMP_WC_RB n, 0, 10⟩
def CMP_WC_RB_RB_HI (n : Fin 64) : RF := ⟨.CMP_WC_RB n, 16, 10⟩
-- spec/09, R275
def QNC_IRQ_EN_EN : RF := ⟨.QNC_IRQ_EN, 0, 6⟩
def QNC_STATUS_TRIP : RF := ⟨.QNC_STATUS, 0, 1⟩
def QNC_STATUS_CLR_REFUSED : RF := ⟨.QNC_STATUS, 1, 1⟩
def QNC_STATUS_CONFLICT : RF := ⟨.QNC_STATUS, 2, 1⟩
def QNC_STATUS_INTEG : RF := ⟨.QNC_STATUS, 3, 1⟩
def QNC_STATUS_RESUME : RF := ⟨.QNC_STATUS, 4, 1⟩
def QNC_STATUS_WR_IGN : RF := ⟨.QNC_STATUS, 5, 1⟩
def QNC_STATUS_SEL_FALLBACK : RF := ⟨.QNC_STATUS, 8, 1⟩
def QNC_SAFESEL_SEL : RF := ⟨.QNC_SAFESEL, 0, 8⟩
def QNC_SAFESEL_SEL_C : RF := ⟨.QNC_SAFESEL, 8, 8⟩
def QNC_SAFESEL_SEQ : RF := ⟨.QNC_SAFESEL, 24, 8⟩
def QNC_SEL_USED_USED : RF := ⟨.QNC_SEL_USED, 0, 8⟩
def QNC_CRC_CRC : RF := ⟨.QNC_CRC, 0, 32⟩
def QNC_ASC_DLY_CODE0 (n : Fin 2) : RF := ⟨.QNC_ASC_DLY n, 0, 4⟩
def QNC_ASC_DLY_CODE1 (n : Fin 2) : RF := ⟨.QNC_ASC_DLY n, 4, 4⟩
def QNC_ASC_DLY_CODE2 (n : Fin 2) : RF := ⟨.QNC_ASC_DLY n, 8, 4⟩
def QNC_ASC_DLY_CODE3 (n : Fin 2) : RF := ⟨.QNC_ASC_DLY n, 12, 4⟩
def QNC_ASC_DLY_CODE4 (n : Fin 2) : RF := ⟨.QNC_ASC_DLY n, 16, 4⟩
def QNC_ASC_DLY_CODE5 (n : Fin 2) : RF := ⟨.QNC_ASC_DLY n, 20, 4⟩
def QNC_ASC_DLY_CODE6 (n : Fin 2) : RF := ⟨.QNC_ASC_DLY n, 24, 4⟩
def QNC_ASC_DLY_CODE7 (n : Fin 2) : RF := ⟨.QNC_ASC_DLY n, 28, 4⟩
def QNC_ASC_DLY_C_CODE0 (n : Fin 2) : RF := ⟨.QNC_ASC_DLY_C n, 0, 4⟩
def QNC_ASC_DLY_C_CODE1 (n : Fin 2) : RF := ⟨.QNC_ASC_DLY_C n, 4, 4⟩
def QNC_ASC_DLY_C_CODE2 (n : Fin 2) : RF := ⟨.QNC_ASC_DLY_C n, 8, 4⟩
def QNC_ASC_DLY_C_CODE3 (n : Fin 2) : RF := ⟨.QNC_ASC_DLY_C n, 12, 4⟩
def QNC_ASC_DLY_C_CODE4 (n : Fin 2) : RF := ⟨.QNC_ASC_DLY_C n, 16, 4⟩
def QNC_ASC_DLY_C_CODE5 (n : Fin 2) : RF := ⟨.QNC_ASC_DLY_C n, 20, 4⟩
def QNC_ASC_DLY_C_CODE6 (n : Fin 2) : RF := ⟨.QNC_ASC_DLY_C n, 24, 4⟩
def QNC_ASC_DLY_C_CODE7 (n : Fin 2) : RF := ⟨.QNC_ASC_DLY_C n, 28, 4⟩
def QNC_CLR_SRC (n : Fin 4) : RF := ⟨.QNC_CLR n, 0, 32⟩
def QNC_REFUSED_SRC (n : Fin 4) : RF := ⟨.QNC_REFUSED n, 0, 32⟩
def QNC_LATCH_SRC (n : Fin 4) : RF := ⟨.QNC_LATCH n, 0, 32⟩
def QNC_RAW_SRC (n : Fin 4) : RF := ⟨.QNC_RAW n, 0, 32⟩
def QNC_PROF_LO_ACT0 (n : Fin 8) : RF := ⟨.QNC_PROF_LO n, 0, 4⟩
def QNC_PROF_LO_ACT1 (n : Fin 8) : RF := ⟨.QNC_PROF_LO n, 4, 4⟩
def QNC_PROF_LO_ACT2 (n : Fin 8) : RF := ⟨.QNC_PROF_LO n, 8, 4⟩
def QNC_PROF_LO_ACT3 (n : Fin 8) : RF := ⟨.QNC_PROF_LO n, 12, 4⟩
def QNC_PROF_LO_ACT4 (n : Fin 8) : RF := ⟨.QNC_PROF_LO n, 16, 4⟩
def QNC_PROF_LO_ACT5 (n : Fin 8) : RF := ⟨.QNC_PROF_LO n, 20, 4⟩
def QNC_PROF_LO_ACT6 (n : Fin 8) : RF := ⟨.QNC_PROF_LO n, 24, 4⟩
def QNC_PROF_LO_ACT7 (n : Fin 8) : RF := ⟨.QNC_PROF_LO n, 28, 4⟩
def QNC_PROF_HI_ACT0 (n : Fin 8) : RF := ⟨.QNC_PROF_HI n, 0, 4⟩
def QNC_PROF_HI_ACT1 (n : Fin 8) : RF := ⟨.QNC_PROF_HI n, 4, 4⟩
def QNC_PROF_HI_ACT2 (n : Fin 8) : RF := ⟨.QNC_PROF_HI n, 8, 4⟩
def QNC_PROF_HI_ACT3 (n : Fin 8) : RF := ⟨.QNC_PROF_HI n, 12, 4⟩
def QNC_PROF_HI_ACT4 (n : Fin 8) : RF := ⟨.QNC_PROF_HI n, 16, 4⟩
def QNC_PROF_HI_ACT5 (n : Fin 8) : RF := ⟨.QNC_PROF_HI n, 20, 4⟩
def QNC_PROF_HI_ACT6 (n : Fin 8) : RF := ⟨.QNC_PROF_HI n, 24, 4⟩
def QNC_PROF_HI_ACT7 (n : Fin 8) : RF := ⟨.QNC_PROF_HI n, 28, 4⟩
def QNC_G_ASC_L_MASK (n : Fin 16) : RF := ⟨.QNC_G_ASC_L n, 0, 18⟩
def QNC_G_ASC_H_MASK (n : Fin 16) : RF := ⟨.QNC_G_ASC_H n, 0, 18⟩
def QNC_G_PAT_MASK (n : Fin 16) : RF := ⟨.QNC_G_PAT n, 0, 18⟩
def QNC_G_STATE_TRIPPED (n : Fin 16) : RF := ⟨.QNC_G_STATE n, 0, 1⟩
def QNC_G_STATE_HOLD (n : Fin 16) : RF := ⟨.QNC_G_STATE n, 1, 1⟩
def QNC_G_STATE_ASC_ON (n : Fin 16) : RF := ⟨.QNC_G_STATE n, 2, 1⟩
def QNC_G_STATE_ACTION (n : Fin 16) : RF := ⟨.QNC_G_STATE n, 3, 4⟩
def QNC_G_STATE_FIRST_SRC (n : Fin 16) : RF := ⟨.QNC_G_STATE n, 8, 7⟩
def QNC_G_STATE_EXEMPT (n : Fin 16) : RF := ⟨.QNC_G_STATE n, 16, 1⟩
def QNC_G_TRIP_T_T (n : Fin 16) : RF := ⟨.QNC_G_TRIP_T n, 4, 28⟩
def QNC_G_TRIP_T_TAP (n : Fin 16) : RF := ⟨.QNC_G_TRIP_T n, 0, 4⟩
def QNC_ROUTE_GROUPS (n : Fin 128) : RF := ⟨.QNC_ROUTE n, 0, 16⟩
def QNC_ROUTE_PROF (n : Fin 128) : RF := ⟨.QNC_ROUTE n, 16, 3⟩
def QNC_ROUTE_EN (n : Fin 128) : RF := ⟨.QNC_ROUTE n, 24, 1⟩
-- spec/10, R298
def AUX_IRQ_EN_EN : RF := ⟨.AUX_IRQ_EN, 0, 7⟩
def AUX_SUM_ANY : RF := ⟨.AUX_SUM, 0, 8⟩
def AUX_CH_CTL_DIR (n : Fin 8) : RF := ⟨.AUX_CH_CTL n, 0, 1⟩
def AUX_CH_CTL_CHOP (n : Fin 8) : RF := ⟨.AUX_CH_CTL n, 1, 1⟩
def AUX_CH_CTL_STOP_MODE (n : Fin 8) : RF := ⟨.AUX_CH_CTL n, 2, 1⟩
def AUX_CH_CTL_PK_SRC (n : Fin 8) : RF := ⟨.AUX_CH_CTL n, 3, 1⟩
def AUX_CH_CTL_PK_SEL (n : Fin 8) : RF := ⟨.AUX_CH_CTL n, 4, 6⟩
def AUX_CH_CTL_ALN_SEC (n : Fin 8) : RF := ⟨.AUX_CH_CTL n, 12, 3⟩
def AUX_CH_CMD_CMD (n : Fin 8) : RF := ⟨.AUX_CH_CMD n, 0, 2⟩
def AUX_CH_ZC_ZC_FILT (n : Fin 8) : RF := ⟨.AUX_CH_ZC n, 0, 8⟩
def AUX_CH_ZC_ZC_HYS (n : Fin 8) : RF := ⟨.AUX_CH_ZC n, 8, 2⟩
def AUX_CH_ZC_ZC_BLANK (n : Fin 8) : RF := ⟨.AUX_CH_ZC n, 16, 8⟩
def AUX_CH_ZC_DEMAG (n : Fin 8) : RF := ⟨.AUX_CH_ZC n, 24, 6⟩
def AUX_CH_IPK_TH (n : Fin 8) : RF := ⟨.AUX_CH_IPK n, 0, 10⟩
def AUX_CH_IPK_HYS (n : Fin 8) : RF := ⟨.AUX_CH_IPK n, 12, 2⟩
def AUX_CH_IPK_PK_BLANK (n : Fin 8) : RF := ⟨.AUX_CH_IPK n, 16, 8⟩
def AUX_CH_SPD_CATCH_F (n : Fin 8) : RF := ⟨.AUX_CH_SPD n, 0, 8⟩
def AUX_CH_SPD_STOP_F (n : Fin 8) : RF := ⟨.AUX_CH_SPD n, 8, 8⟩
def AUX_CH_SPD_F_STEP (n : Fin 8) : RF := ⟨.AUX_CH_SPD n, 16, 8⟩
def AUX_CH_SPD_RUN_OK (n : Fin 8) : RF := ⟨.AUX_CH_SPD n, 24, 8⟩
def AUX_CH_ADV_ADV0 (n : Fin 8) (m : Fin 4) : RF := ⟨.AUX_CH_ADV n m, 0, 8⟩
def AUX_CH_ADV_ADV1 (n : Fin 8) (m : Fin 4) : RF := ⟨.AUX_CH_ADV n m, 8, 8⟩
def AUX_CH_ADV_ADV2 (n : Fin 8) (m : Fin 4) : RF := ⟨.AUX_CH_ADV n m, 16, 8⟩
def AUX_CH_ADV_ADV3 (n : Fin 8) (m : Fin 4) : RF := ⟨.AUX_CH_ADV n m, 24, 8⟩
def AUX_CH_START_ALN_T (n : Fin 8) : RF := ⟨.AUX_CH_START n, 0, 8⟩
def AUX_CH_START_START_DUTY (n : Fin 8) : RF := ⟨.AUX_CH_START n, 8, 8⟩
def AUX_CH_START_BRK_ON (n : Fin 8) : RF := ⟨.AUX_CH_START n, 16, 8⟩
def AUX_CH_START_BRK_LSN (n : Fin 8) : RF := ⟨.AUX_CH_START n, 24, 8⟩
def AUX_CH_RAMP_R_F0 (n : Fin 8) : RF := ⟨.AUX_CH_RAMP n, 0, 8⟩
def AUX_CH_RAMP_R_F1 (n : Fin 8) : RF := ⟨.AUX_CH_RAMP n, 8, 8⟩
def AUX_CH_RAMP_R_ACC (n : Fin 8) : RF := ⟨.AUX_CH_RAMP n, 16, 12⟩
def AUX_CH_RAMP_BRK_TMAX (n : Fin 8) : RF := ⟨.AUX_CH_RAMP n, 28, 4⟩
def AUX_CH_STATUS_STATE_CHG (n : Fin 8) : RF := ⟨.AUX_CH_STATUS n, 0, 1⟩
def AUX_CH_STATUS_ZC_LOST (n : Fin 8) : RF := ⟨.AUX_CH_STATUS n, 1, 1⟩
def AUX_CH_STATUS_RESYNC (n : Fin 8) : RF := ⟨.AUX_CH_STATUS n, 2, 1⟩
def AUX_CH_STATUS_FAIL (n : Fin 8) : RF := ⟨.AUX_CH_STATUS n, 3, 1⟩
def AUX_CH_STATUS_LATE_COM (n : Fin 8) : RF := ⟨.AUX_CH_STATUS n, 4, 1⟩
def AUX_CH_STATUS_PK_STUCK (n : Fin 8) : RF := ⟨.AUX_CH_STATUS n, 5, 1⟩
def AUX_CH_STATUS_TRIPPED (n : Fin 8) : RF := ⟨.AUX_CH_STATUS n, 6, 1⟩
def AUX_CH_STATUS_WR_IGN (n : Fin 8) : RF := ⟨.AUX_CH_STATUS n, 7, 1⟩
def AUX_CH_STATUS_STATE (n : Fin 8) : RF := ⟨.AUX_CH_STATUS n, 16, 3⟩
def AUX_CH_STATUS_SECTOR (n : Fin 8) : RF := ⟨.AUX_CH_STATUS n, 19, 3⟩
def AUX_CH_STATUS_FAILS (n : Fin 8) : RF := ⟨.AUX_CH_STATUS n, 22, 2⟩
def AUX_CH_STATUS_REV (n : Fin 8) : RF := ⟨.AUX_CH_STATUS n, 24, 1⟩
def AUX_CH_TSEC_T_S (n : Fin 8) : RF := ⟨.AUX_CH_TSEC n, 0, 32⟩
def AUX_CH_FREQ_F (n : Fin 8) : RF := ⟨.AUX_CH_FREQ n, 0, 16⟩
def AUX_CH_FREQ_IDX (n : Fin 8) : RF := ⟨.AUX_CH_FREQ n, 16, 4⟩
def AUX_CH_ZC_T_T (n : Fin 8) : RF := ⟨.AUX_CH_ZC_T n, 4, 28⟩
def AUX_CH_ZC_T_TAP (n : Fin 8) : RF := ⟨.AUX_CH_ZC_T n, 0, 4⟩
-- spec/11, R313
def PWM_DSC_PCH_CFG_PCH_IO : RF := ⟨.PWM_DSC_PCH_CFG, 0, 5⟩
def PWM_DSC_PCH_CFG_NEG_EN : RF := ⟨.PWM_DSC_PCH_CFG, 5, 1⟩
def PWM_DSC_PCH_CFG_MAIN_IO : RF := ⟨.PWM_DSC_PCH_CFG, 8, 5⟩
def PWM_DSC_PCH_CFG_FB_EN : RF := ⟨.PWM_DSC_PCH_CFG, 13, 1⟩
def PWM_DSC_PCH_CFG_NEG_IO : RF := ⟨.PWM_DSC_PCH_CFG, 16, 5⟩
def PWM_DSC_PCH_CFG_FB_IO : RF := ⟨.PWM_DSC_PCH_CFG, 24, 5⟩
def PWM_DSC_PCH_TIME_T_RISE : RF := ⟨.PWM_DSC_PCH_TIME, 0, 8⟩
def PWM_DSC_PCH_TIME_T_MAX : RF := ⟨.PWM_DSC_PCH_TIME, 8, 8⟩
def PWM_DSC_PCH_TIME_T_OVL : RF := ⟨.PWM_DSC_PCH_TIME, 16, 8⟩
def PWM_DSC_PCH_V_V_MIN1 : RF := ⟨.PWM_DSC_PCH_V, 0, 16⟩
def PWM_DSC_PCH_V_DV_CLOSE : RF := ⟨.PWM_DSC_PCH_V, 16, 16⟩
def PWM_DSC_VCH_LINK_CH : RF := ⟨.PWM_DSC_VCH, 0, 6⟩
def PWM_DSC_VCH_SRC_CH : RF := ⟨.PWM_DSC_VCH, 8, 6⟩
def PWM_DSC_VCH_V_FS : RF := ⟨.PWM_DSC_VCH, 16, 16⟩
def PWM_DSC_PCH_CMD_CMD : RF := ⟨.PWM_DSC_PCH_CMD, 0, 2⟩
def PWM_DSC_PCH_CMD_KEY : RF := ⟨.PWM_DSC_PCH_CMD, 16, 16⟩
def PWM_DSC_PCH_STAT_DONE : RF := ⟨.PWM_DSC_PCH_STAT, 0, 1⟩
def PWM_DSC_PCH_STAT_SHORT : RF := ⟨.PWM_DSC_PCH_STAT, 1, 1⟩
def PWM_DSC_PCH_STAT_TMO : RF := ⟨.PWM_DSC_PCH_STAT, 2, 1⟩
def PWM_DSC_PCH_STAT_CLOSE_ERR : RF := ⟨.PWM_DSC_PCH_STAT, 3, 1⟩
def PWM_DSC_PCH_STAT_DROP : RF := ⟨.PWM_DSC_PCH_STAT, 4, 1⟩
def PWM_DSC_PCH_STAT_WR_IGN : RF := ⟨.PWM_DSC_PCH_STAT, 5, 1⟩
def PWM_DSC_PCH_STAT_PCH_STATE : RF := ⟨.PWM_DSC_PCH_STAT, 8, 3⟩
def PWM_DSC_VLINK_V_L : RF := ⟨.PWM_DSC_VLINK, 0, 16⟩
def PWM_DSC_VLINK_V_SRC : RF := ⟨.PWM_DSC_VLINK, 16, 16⟩
def PWM_DSC_DSG_CFG_FIRST : RF := ⟨.PWM_DSC_DSG_CFG, 0, 1⟩
def PWM_DSC_DSG_CFG_DSC_MASK : RF := ⟨.PWM_DSC_DSG_CFG, 1, 2⟩
def PWM_DSC_DSG_CFG_WAX : RF := ⟨.PWM_DSC_DSG_CFG, 4, 2⟩
def PWM_DSC_DSG_CFG_WIND_EN : RF := ⟨.PWM_DSC_DSG_CFG, 6, 1⟩
def PWM_DSC_DSG_CFG_RATIO : RF := ⟨.PWM_DSC_DSG_CFG, 8, 8⟩
def PWM_DSC_DSG_CFG_T_CHK : RF := ⟨.PWM_DSC_DSG_CFG, 16, 8⟩
def PWM_DSC_DSG_CFG_T_OPEN : RF := ⟨.PWM_DSC_DSG_CFG, 24, 8⟩
def PWM_DSC_DSG_TGT_V_T : RF := ⟨.PWM_DSC_DSG_TGT, 0, 16⟩
def PWM_DSC_DSG_TGT_TMAX : RF := ⟨.PWM_DSC_DSG_TGT, 16, 16⟩
def PWM_DSC_DSG_SHM_ADDR : RF := ⟨.PWM_DSC_DSG_SHM, 2, 30⟩
def PWM_DSC_DSG_REQ_REQ : RF := ⟨.PWM_DSC_DSG_REQ, 0, 1⟩
def PWM_DSC_DSG_REQ_KEY : RF := ⟨.PWM_DSC_DSG_REQ, 16, 16⟩
def PWM_DSC_DSG_STAT_DONE : RF := ⟨.PWM_DSC_DSG_STAT, 0, 1⟩
def PWM_DSC_DSG_STAT_ESC : RF := ⟨.PWM_DSC_DSG_STAT, 1, 1⟩
def PWM_DSC_DSG_STAT_FAIL : RF := ⟨.PWM_DSC_DSG_STAT, 2, 1⟩
def PWM_DSC_DSG_STAT_WR_IGN : RF := ⟨.PWM_DSC_DSG_STAT, 3, 1⟩
def PWM_DSC_DSG_STAT_DSG_STATE : RF := ⟨.PWM_DSC_DSG_STAT, 8, 3⟩
def PWM_DSC_DSG_STAT_SRC : RF := ⟨.PWM_DSC_DSG_STAT, 12, 2⟩
def PWM_DSC_DSG_STAT_ELAPSED : RF := ⟨.PWM_DSC_DSG_STAT, 16, 16⟩
-- spec/12, R351
def ANV_IRQ_EN_EN : RF := ⟨.ANV_IRQ_EN, 0, 8⟩
def ANV_STATUS_SV_STATE : RF := ⟨.ANV_STATUS, 0, 3⟩
def ANV_STATUS_STO_A : RF := ⟨.ANV_STATUS, 4, 1⟩
def ANV_STATUS_STO_B : RF := ⟨.ANV_STATUS, 5, 1⟩
def ANV_STATUS_CUT : RF := ⟨.ANV_STATUS, 6, 1⟩
def ANV_STATUS_DEV_REACT : RF := ⟨.ANV_STATUS, 7, 1⟩
def ANV_STATUS_DISC : RF := ⟨.ANV_STATUS, 8, 1⟩
def ANV_STATUS_WD_EXP : RF := ⟨.ANV_STATUS, 9, 1⟩
def ANV_STATUS_VDC_HIT : RF := ⟨.ANV_STATUS, 10, 1⟩
def ANV_STATUS_RET_HIT : RF := ⟨.ANV_STATUS, 11, 1⟩
def ANV_STATUS_SSPI_ERR : RF := ⟨.ANV_STATUS, 12, 1⟩
def ANV_CAUSE_MON : RF := ⟨.ANV_CAUSE, 0, 8⟩
def ANV_CAUSE_AXIS : RF := ⟨.ANV_CAUSE, 8, 3⟩
def ANV_CAUSE_REACT : RF := ⟨.ANV_CAUSE, 12, 3⟩
def ANV_CAUSE_COUNT : RF := ⟨.ANV_CAUSE, 16, 16⟩
def ANV_CFG_T_DISC : RF := ⟨.ANV_CFG, 0, 8⟩
def ANV_CFG_T_STOF : RF := ⟨.ANV_CFG, 8, 8⟩
def ANV_CFG_STO_AUX : RF := ⟨.ANV_CFG, 16, 8⟩
def ANV_CFG_DBG_I : RF := ⟨.ANV_CFG, 24, 8⟩
def ANV_WD_T_WD : RF := ⟨.ANV_WD, 0, 8⟩
def ANV_WD_WD_REACT : RF := ⟨.ANV_WD, 8, 4⟩
def ANV_WD_RET_MAX : RF := ⟨.ANV_WD, 16, 5⟩
def ANV_WD_RET_REACT : RF := ⟨.ANV_WD, 24, 4⟩
def ANV_VDC_CH : RF := ⟨.ANV_VDC, 0, 6⟩
def ANV_VDC_REACT : RF := ⟨.ANV_VDC, 8, 4⟩
def ANV_VDC_V_FS : RF := ⟨.ANV_VDC, 16, 16⟩
def ANV_VDC_LIM_VDC_MAX : RF := ⟨.ANV_VDC_LIM, 0, 16⟩
def ANV_VDC_LIM_VDC_FLOOR : RF := ⟨.ANV_VDC_LIM, 16, 16⟩
def ANV_SBC_AX0_SEL : RF := ⟨.ANV_SBC, 0, 2⟩
def ANV_SBC_EN0 : RF := ⟨.ANV_SBC, 2, 1⟩
def ANV_SBC_AX1_SEL : RF := ⟨.ANV_SBC, 4, 2⟩
def ANV_SBC_EN1 : RF := ⟨.ANV_SBC, 6, 1⟩
def ANV_SBC_FB_EN0 : RF := ⟨.ANV_SBC, 8, 1⟩
def ANV_SBC_FB_IO0 : RF := ⟨.ANV_SBC, 9, 5⟩
def ANV_SBC_FB_EN1 : RF := ⟨.ANV_SBC, 16, 1⟩
def ANV_SBC_FB_IO1 : RF := ⟨.ANV_SBC, 17, 5⟩
def ANV_SBC_T_FB : RF := ⟨.ANV_SBC, 24, 8⟩
def ANV_SBC_STAT_OUT : RF := ⟨.ANV_SBC_STAT, 0, 2⟩
def ANV_SBC_STAT_FB : RF := ⟨.ANV_SBC_STAT, 2, 2⟩
def ANV_SBC_STAT_MISM : RF := ⟨.ANV_SBC_STAT, 4, 2⟩
def ANV_PCRC_CRC : RF := ⟨.ANV_PCRC, 0, 32⟩
def ANV_PSTAT_DONE : RF := ⟨.ANV_PSTAT, 0, 1⟩
def ANV_PSTAT_RANGE_ERR : RF := ⟨.ANV_PSTAT, 1, 1⟩
def ANV_PSTAT_CONF_FAIL : RF := ⟨.ANV_PSTAT, 2, 1⟩
def ANV_PSTAT_CONFIRMED : RF := ⟨.ANV_PSTAT, 3, 1⟩
def ANV_PSTAT_COPY_ERR : RF := ⟨.ANV_PSTAT, 4, 1⟩
def ANV_PSTAT_BAD_ADDR : RF := ⟨.ANV_PSTAT, 16, 16⟩
def ANV_DEMAND_WORD : RF := ⟨.ANV_DEMAND, 0, 32⟩
def ANV_SSPI_GOOD : RF := ⟨.ANV_SSPI, 0, 16⟩
def ANV_SSPI_BAD : RF := ⟨.ANV_SSPI, 16, 8⟩
def ANV_RET_CNT : RF := ⟨.ANV_RET, 0, 5⟩
def ANV_RET_PAIR : RF := ⟨.ANV_RET, 8, 5⟩
def ANV_RET_CAUSE : RF := ⟨.ANV_RET, 16, 3⟩
def ANV_RET_NO_TGT : RF := ⟨.ANV_RET, 20, 1⟩
def ANV_AX_CFG_EN (n : Fin 4) : RF := ⟨.ANV_AX_CFG n, 0, 1⟩
def ANV_AX_CFG_FB_SRC (n : Fin 4) : RF := ⟨.ANV_AX_CFG n, 1, 2⟩
def ANV_AX_CFG_FB_CH (n : Fin 4) : RF := ⟨.ANV_AX_CFG n, 4, 3⟩
def ANV_AX_CFG_PP (n : Fin 4) : RF := ⟨.ANV_AX_CFG n, 8, 7⟩
def ANV_AX_CFG_ASC_SIDE (n : Fin 4) : RF := ⟨.ANV_AX_CFG n, 16, 1⟩
def ANV_AX_CPR_CPR (n : Fin 4) : RF := ⟨.ANV_AX_CPR n, 0, 25⟩
def ANV_AX_EOFS_EOFS (n : Fin 4) : RF := ⟨.ANV_AX_EOFS n, 0, 32⟩
def ANV_AX_IMAX_IMAX (n : Fin 4) : RF := ⟨.ANV_AX_IMAX n, 0, 16⟩
def ANV_AX_IMAX_N_STALE (n : Fin 4) : RF := ⟨.ANV_AX_IMAX n, 16, 8⟩
def ANV_AX_ISC_ISC (n : Fin 4) : RF := ⟨.ANV_AX_ISC n, 0, 32⟩
def ANV_AX_NMAX_NMAX (n : Fin 4) : RF := ⟨.ANV_AX_NMAX n, 0, 16⟩
def ANV_AX_SLS01_SLS0 (n : Fin 4) : RF := ⟨.ANV_AX_SLS01 n, 0, 16⟩
def ANV_AX_SLS01_SLS1 (n : Fin 4) : RF := ⟨.ANV_AX_SLS01 n, 16, 16⟩
def ANV_AX_SLS23_SLS2 (n : Fin 4) : RF := ⟨.ANV_AX_SLS23 n, 0, 16⟩
def ANV_AX_SLS23_SLS3 (n : Fin 4) : RF := ⟨.ANV_AX_SLS23 n, 16, 16⟩
def ANV_AX_SLSC_T_SLS_RAMP (n : Fin 4) : RF := ⟨.ANV_AX_SLSC n, 0, 8⟩
def ANV_AX_SLSC_N_TOL (n : Fin 4) : RF := ⟨.ANV_AX_SLSC n, 8, 8⟩
def ANV_AX_SLSC_SDI_TOL (n : Fin 4) : RF := ⟨.ANV_AX_SLSC n, 16, 16⟩
def ANV_AX_SS1_DEC (n : Fin 4) : RF := ⟨.ANV_AX_SS1 n, 0, 16⟩
def ANV_AX_SS1_T_SS1 (n : Fin 4) : RF := ⟨.ANV_AX_SS1 n, 16, 8⟩
def ANV_AX_SS1_N_STOP (n : Fin 4) : RF := ⟨.ANV_AX_SS1 n, 24, 8⟩
def ANV_AX_KE_KE (n : Fin 4) : RF := ⟨.ANV_AX_KE n, 0, 32⟩
def ANV_AX_SELTH_R_ON (n : Fin 4) : RF := ⟨.ANV_AX_SELTH n, 0, 8⟩
def ANV_AX_SELTH_R_OFF (n : Fin 4) : RF := ⟨.ANV_AX_SELTH n, 8, 8⟩
def ANV_AX_SELTH_N_TQ (n : Fin 4) : RF := ⟨.ANV_AX_SELTH n, 16, 4⟩
def ANV_AX_ITAB_VALUE (n : Fin 4) : RF := ⟨.ANV_AX_ITAB n, 0, 32⟩
def ANV_AX_NTAB_VALUE (n : Fin 4) : RF := ⟨.ANV_AX_NTAB n, 0, 32⟩
def ANV_AX_TTOL_VALUE (n : Fin 4) : RF := ⟨.ANV_AX_TTOL n, 0, 32⟩
def ANV_AX_REACT_REACT (n : Fin 4) : RF := ⟨.ANV_AX_REACT n, 0, 32⟩
def ANV_AX_STAT_REACT_ACT (n : Fin 4) : RF := ⟨.ANV_AX_STAT n, 0, 1⟩
def ANV_AX_STAT_SS1_RUN (n : Fin 4) : RF := ⟨.ANV_AX_STAT n, 1, 1⟩
def ANV_AX_STAT_SS1_DONE (n : Fin 4) : RF := ⟨.ANV_AX_STAT n, 2, 1⟩
def ANV_AX_STAT_SLS_ACT (n : Fin 4) : RF := ⟨.ANV_AX_STAT n, 3, 1⟩
def ANV_AX_STAT_SDI_ACT (n : Fin 4) : RF := ⟨.ANV_AX_STAT n, 4, 1⟩
def ANV_AX_STAT_SEL (n : Fin 4) : RF := ⟨.ANV_AX_STAT n, 5, 2⟩
def ANV_AX_STAT_SLS_IDX (n : Fin 4) : RF := ⟨.ANV_AX_STAT n, 8, 2⟩
def ANV_AX_STAT_HIT (n : Fin 4) : RF := ⟨.ANV_AX_STAT n, 16, 8⟩
def ANV_AX_STAT_REACT (n : Fin 4) : RF := ⟨.ANV_AX_STAT n, 24, 3⟩
def ANV_AX_SPEED_SPEED (n : Fin 4) : RF := ⟨.ANV_AX_SPEED n, 0, 32⟩
def ANV_AX_TQ_TQ (n : Fin 4) : RF := ⟨.ANV_AX_TQ n, 0, 32⟩
def ANV_AX_POS_POS (n : Fin 4) : RF := ⟨.ANV_AX_POS n, 0, 24⟩
-- spec/13, R375
def ASY_IRQ_EN_EN : RF := ⟨.ASY_IRQ_EN, 0, 6⟩
def ASY_STATUS_MISMATCH : RF := ⟨.ASY_STATUS, 0, 1⟩
def ASY_STATUS_UNSTABLE : RF := ⟨.ASY_STATUS, 1, 1⟩
def ASY_STATUS_UNST_LIMIT : RF := ⟨.ASY_STATUS, 2, 1⟩
def ASY_STATUS_BIST_FAIL : RF := ⟨.ASY_STATUS, 3, 1⟩
def ASY_STATUS_BROKEN_EV : RF := ⟨.ASY_STATUS, 4, 1⟩
def ASY_STATUS_WR_IGN : RF := ⟨.ASY_STATUS, 5, 1⟩
def ASY_STATUS_LOCKSTEP_BROKEN : RF := ⟨.ASY_STATUS, 8, 1⟩
def ASY_STATUS_QSRC_ACT : RF := ⟨.ASY_STATUS, 9, 1⟩
def ASY_MIS_LAST_PAIR : RF := ⟨.ASY_MIS_LAST, 0, 5⟩
def ASY_MIS_LAST_LANE : RF := ⟨.ASY_MIS_LAST, 8, 2⟩
def ASY_MIS_LAST_CNT : RF := ⟨.ASY_MIS_LAST, 24, 8⟩
def ASY_MIS_ADDR_VALUE : RF := ⟨.ASY_MIS_ADDR, 0, 32⟩
def ASY_MIS_LEAD_VALUE : RF := ⟨.ASY_MIS_LEAD, 0, 32⟩
def ASY_MIS_CHK_VALUE : RF := ⟨.ASY_MIS_CHK, 0, 32⟩
def ASY_MIS_T_VALUE : RF := ⟨.ASY_MIS_T, 0, 32⟩
def ASY_UNST_PORT : RF := ⟨.ASY_UNST, 0, 2⟩
def ASY_UNST_RUN : RF := ⟨.ASY_UNST, 8, 4⟩
def ASY_UNST_CNT : RF := ⟨.ASY_UNST, 16, 16⟩
def ASY_CFG_QSRC : RF := ⟨.ASY_CFG, 0, 3⟩
def ASY_CFG_UNST_LIM : RF := ⟨.ASY_CFG, 8, 4⟩
def ASY_ACTIVE_ACTIVE : RF := ⟨.ASY_ACTIVE, 0, 25⟩
def ASY_BROKEN_FIRST : RF := ⟨.ASY_BROKEN, 0, 5⟩
def ASY_BROKEN_HALTS : RF := ⟨.ASY_BROKEN, 8, 8⟩
def ASY_BIST_FAILED : RF := ⟨.ASY_BIST, 0, 25⟩
-- spec/13, R376
def DBG_HALT_HALT : RF := ⟨.DBG_HALT, 0, 25⟩
def DBG_RESUME_RESUME : RF := ⟨.DBG_RESUME, 0, 25⟩
def DBG_STATUS_HALTED : RF := ⟨.DBG_STATUS, 0, 25⟩
def DBG_STATUS_COPY : RF := ⟨.DBG_STATUS, 25, 1⟩
def DBG_STATUS_REFUSED : RF := ⟨.DBG_STATUS, 26, 1⟩
def DBG_SEL_PAIR : RF := ⟨.DBG_SEL, 0, 5⟩
def DBG_SEL_CORE : RF := ⟨.DBG_SEL, 8, 1⟩
def DBG_PC_PC : RF := ⟨.DBG_PC, 0, 32⟩
def DBG_REG_REG : RF := ⟨.DBG_REG, 0, 7⟩
def DBG_REGDATA_DATA : RF := ⟨.DBG_REGDATA, 0, 32⟩
def DBG_STEP_STEP : RF := ⟨.DBG_STEP, 0, 1⟩
def DBG_BRK_ADDR (n : Fin 4) : RF := ⟨.DBG_BRK n, 2, 30⟩
def DBG_BRK_CTL_PAIRS (n : Fin 4) : RF := ⟨.DBG_BRK_CTL n, 0, 25⟩
def DBG_BRK_CTL_EN (n : Fin 4) : RF := ⟨.DBG_BRK_CTL n, 31, 1⟩
-- spec/14, R398
def MCV_IRQ_EN_EN : RF := ⟨.MCV_IRQ_EN, 0, 8⟩
def MCV_SUM_ANY : RF := ⟨.MCV_SUM, 0, 4⟩
def MCV_REF_EN : RF := ⟨.MCV_REF, 0, 1⟩
def MCV_REF_READY : RF := ⟨.MCV_REF, 8, 1⟩
def MCV_REF_WR_IGN : RF := ⟨.MCV_REF, 16, 1⟩
def MCV_PRIV_CH0 (n : Fin 2) : RF := ⟨.MCV_PRIV n, 0, 6⟩
def MCV_PRIV_CH1 (n : Fin 2) : RF := ⟨.MCV_PRIV n, 8, 6⟩
def MCV_PRIV_CH2 (n : Fin 2) : RF := ⟨.MCV_PRIV n, 16, 6⟩
def MCV_PRIV_CH3 (n : Fin 2) : RF := ⟨.MCV_PRIV n, 24, 6⟩
def MCV_PRIV_EN0 (n : Fin 2) : RF := ⟨.MCV_PRIV n, 7, 1⟩
def MCV_PRIV_EN1 (n : Fin 2) : RF := ⟨.MCV_PRIV n, 15, 1⟩
def MCV_PRIV_EN2 (n : Fin 2) : RF := ⟨.MCV_PRIV n, 23, 1⟩
def MCV_PRIV_EN3 (n : Fin 2) : RF := ⟨.MCV_PRIV n, 31, 1⟩
def MCV_C_CTL_EN (n : Fin 4) : RF := ⟨.MCV_C_CTL n, 0, 1⟩
def MCV_C_CTL_TIM (n : Fin 4) : RF := ⟨.MCV_C_CTL n, 1, 1⟩
def MCV_C_CTL_DIV (n : Fin 4) : RF := ⟨.MCV_C_CTL n, 2, 2⟩
def MCV_C_CTL_AG (n : Fin 4) : RF := ⟨.MCV_C_CTL n, 4, 3⟩
def MCV_C_CTL_CONT (n : Fin 4) : RF := ⟨.MCV_C_CTL n, 7, 1⟩
def MCV_C_CTL_TRG (n : Fin 4) : RF := ⟨.MCV_C_CTL n, 8, 2⟩
def MCV_C_CTL_TRG_SEL (n : Fin 4) : RF := ⟨.MCV_C_CTL n, 10, 6⟩
def MCV_C_CMD_START (n : Fin 4) : RF := ⟨.MCV_C_CMD n, 0, 1⟩
def MCV_C_CMD_INJ (n : Fin 4) : RF := ⟨.MCV_C_CMD n, 1, 1⟩
def MCV_C_CMD_STOP (n : Fin 4) : RF := ⟨.MCV_C_CMD n, 2, 1⟩
def MCV_C_TINT_TINT (n : Fin 4) : RF := ⟨.MCV_C_TINT n, 0, 16⟩
def MCV_C_TINT_INJ_TINT (n : Fin 4) : RF := ⟨.MCV_C_TINT n, 16, 16⟩
def MCV_C_PH_PH (n : Fin 4) : RF := ⟨.MCV_C_PH n, 0, 32⟩
def MCV_C_DLY_DLY (n : Fin 4) : RF := ⟨.MCV_C_DLY n, 0, 24⟩
def MCV_C_SEQ_CFG_LEN (n : Fin 4) : RF := ⟨.MCV_C_SEQ_CFG n, 0, 5⟩
def MCV_C_SEQ_CFG_INJ_LEN (n : Fin 4) : RF := ⟨.MCV_C_SEQ_CFG n, 8, 3⟩
def MCV_C_SEQ_CFG_INJ_TRG (n : Fin 4) : RF := ⟨.MCV_C_SEQ_CFG n, 12, 2⟩
def MCV_C_SEQ_CFG_INJ_SEL (n : Fin 4) : RF := ⟨.MCV_C_SEQ_CFG n, 16, 6⟩
def MCV_C_SEQ_CFG_INJ_PER (n : Fin 4) : RF := ⟨.MCV_C_SEQ_CFG n, 24, 8⟩
def MCV_C_STATUS_DONE (n : Fin 4) : RF := ⟨.MCV_C_STATUS n, 0, 1⟩
def MCV_C_STATUS_INJ_DONE (n : Fin 4) : RF := ⟨.MCV_C_STATUS n, 1, 1⟩
def MCV_C_STATUS_ABORT (n : Fin 4) : RF := ⟨.MCV_C_STATUS n, 2, 1⟩
def MCV_C_STATUS_TRG_LOST (n : Fin 4) : RF := ⟨.MCV_C_STATUS n, 3, 1⟩
def MCV_C_STATUS_INJ_LOST (n : Fin 4) : RF := ⟨.MCV_C_STATUS n, 4, 1⟩
def MCV_C_STATUS_OVF (n : Fin 4) : RF := ⟨.MCV_C_STATUS n, 5, 1⟩
def MCV_C_STATUS_OVR (n : Fin 4) : RF := ⟨.MCV_C_STATUS n, 6, 1⟩
def MCV_C_STATUS_UNSET (n : Fin 4) : RF := ⟨.MCV_C_STATUS n, 7, 1⟩
def MCV_C_STATUS_MAINS_INV (n : Fin 4) : RF := ⟨.MCV_C_STATUS n, 8, 1⟩
def MCV_C_STATUS_WR_IGN (n : Fin 4) : RF := ⟨.MCV_C_STATUS n, 9, 1⟩
def MCV_C_STATUS_RUN (n : Fin 4) : RF := ⟨.MCV_C_STATUS n, 16, 1⟩
def MCV_C_STATUS_INJ_RUN (n : Fin 4) : RF := ⟨.MCV_C_STATUS n, 17, 1⟩
def MCV_C_STATUS_IDX (n : Fin 4) : RF := ⟨.MCV_C_STATUS n, 18, 5⟩
def MCV_C_STATUS_INJ_IDX (n : Fin 4) : RF := ⟨.MCV_C_STATUS n, 24, 3⟩
def MCV_C_BUF_SIZE (n : Fin 4) : RF := ⟨.MCV_C_BUF n, 0, 4⟩
def MCV_C_BUF_BASE (n : Fin 4) : RF := ⟨.MCV_C_BUF n, 7, 25⟩
def MCV_C_IDX_WIDX (n : Fin 4) : RF := ⟨.MCV_C_IDX n, 0, 12⟩
def MCV_C_IDX_RIDX (n : Fin 4) : RF := ⟨.MCV_C_IDX n, 16, 12⟩
def MCV_C_CNT_CONV (n : Fin 4) : RF := ⟨.MCV_C_CNT n, 0, 16⟩
def MCV_C_CNT_ABORTS (n : Fin 4) : RF := ⟨.MCV_C_CNT n, 16, 16⟩
def MCV_C_SEQ_CH (n : Fin 4) (m : Fin 32) : RF := ⟨.MCV_C_SEQ n m, 0, 6⟩
def MCV_C_INJ_CH (n : Fin 4) (m : Fin 8) : RF := ⟨.MCV_C_INJ n m, 0, 6⟩
def MCV_C_INJ_KIND (n : Fin 4) (m : Fin 8) : RF := ⟨.MCV_C_INJ n m, 8, 2⟩
def MCV_CH_RES_WORD (n : Fin 64) : RF := ⟨.MCV_CH_RES n, 0, 32⟩
-- spec/15, R419
def HLM_IRQ_EN_EN : RF := ⟨.HLM_IRQ_EN, 0, 6⟩
def HLM_STATUS_FLUSHED : RF := ⟨.HLM_STATUS, 0, 1⟩
def HLM_STATUS_TORN : RF := ⟨.HLM_STATUS, 1, 1⟩
def HLM_STATUS_EMPTY : RF := ⟨.HLM_STATUS, 2, 1⟩
def HLM_STATUS_SAT : RF := ⟨.HLM_STATUS, 3, 1⟩
def HLM_STATUS_LOST : RF := ⟨.HLM_STATUS, 4, 1⟩
def HLM_STATUS_TALLY_FULL : RF := ⟨.HLM_STATUS, 5, 1⟩
def HLM_STATUS_RECONF : RF := ⟨.HLM_STATUS, 6, 1⟩
def HLM_STATUS_WR_IGN : RF := ⟨.HLM_STATUS, 7, 1⟩
def HLM_STATUS_BUSY : RF := ⟨.HLM_STATUS, 16, 1⟩
def HLM_STATUS_RESTORED : RF := ⟨.HLM_STATUS, 17, 1⟩
def HLM_STATUS_NEXT_SLOT : RF := ⟨.HLM_STATUS, 18, 1⟩
def HLM_CFG_PERIOD : RF := ⟨.HLM_CFG, 0, 16⟩
def HLM_CFG_FLUSH_CLASS : RF := ⟨.HLM_CFG, 16, 3⟩
def HLM_CFG_PF_PIN : RF := ⟨.HLM_CFG, 24, 1⟩
def HLM_CFG_DBG_FLUSH : RF := ⟨.HLM_CFG, 25, 1⟩
def HLM_CMD_FLUSH : RF := ⟨.HLM_CMD, 0, 1⟩
def HLM_CMD_SNAP : RF := ⟨.HLM_CMD, 1, 1⟩
def HLM_CLR_HIST : RF := ⟨.HLM_CLR, 0, 1⟩
def HLM_CLR_EXT : RF := ⟨.HLM_CLR, 1, 1⟩
def HLM_CLR_CNT : RF := ⟨.HLM_CLR, 2, 1⟩
def HLM_CLR_TALLY : RF := ⟨.HLM_CLR, 3, 1⟩
def HLM_CLR_KEY : RF := ⟨.HLM_CLR, 16, 16⟩
def HLM_OPSEC_VALUE : RF := ⟨.HLM_OPSEC, 0, 32⟩
def HLM_PWRCYC_VALUE : RF := ⟨.HLM_PWRCYC, 0, 32⟩
def HLM_LAST_VALUE : RF := ⟨.HLM_LAST, 0, 32⟩
def HLM_LAST_CAUSE_CAUSE : RF := ⟨.HLM_LAST_CAUSE, 0, 5⟩
def HLM_LAST_CAUSE_SLOT : RF := ⟨.HLM_LAST_CAUSE, 8, 1⟩
def HLM_CNT_INC_IDX : RF := ⟨.HLM_CNT_INC, 0, 6⟩
def HLM_CNT_INC_N : RF := ⟨.HLM_CNT_INC, 8, 8⟩
def HLM_H_CTL_EN (n : Fin 32) : RF := ⟨.HLM_H_CTL n, 0, 1⟩
def HLM_H_CTL_SRC (n : Fin 32) : RF := ⟨.HLM_H_CTL n, 1, 3⟩
def HLM_H_CTL_SEL (n : Fin 32) : RF := ⟨.HLM_H_CTL n, 4, 6⟩
def HLM_H_CTL_TRG (n : Fin 32) : RF := ⟨.HLM_H_CTL n, 10, 2⟩
def HLM_H_CTL_TRG_SEL (n : Fin 32) : RF := ⟨.HLM_H_CTL n, 12, 6⟩
def HLM_H_CTL_RUN_ONLY (n : Fin 32) : RF := ⟨.HLM_H_CTL n, 18, 1⟩
def HLM_X_CTL_EN (n : Fin 64) : RF := ⟨.HLM_X_CTL n, 0, 1⟩
def HLM_X_CTL_SRC (n : Fin 64) : RF := ⟨.HLM_X_CTL n, 1, 3⟩
def HLM_X_CTL_SEL (n : Fin 64) : RF := ⟨.HLM_X_CTL n, 4, 6⟩
def HLM_X_CTL_TRG (n : Fin 64) : RF := ⟨.HLM_X_CTL n, 10, 2⟩
def HLM_X_CTL_TRG_SEL (n : Fin 64) : RF := ⟨.HLM_X_CTL n, 12, 6⟩
def HLM_X_CTL_RUN_ONLY (n : Fin 64) : RF := ⟨.HLM_X_CTL n, 18, 1⟩
def HLM_H_LO_LO (n : Fin 32) : RF := ⟨.HLM_H_LO n, 0, 32⟩
def HLM_H_W_W (n : Fin 32) : RF := ⟨.HLM_H_W n, 0, 32⟩
def HLM_H_ADDR_ADDR (n : Fin 32) : RF := ⟨.HLM_H_ADDR n, 2, 30⟩
def HLM_X_ADDR_ADDR (n : Fin 64) : RF := ⟨.HLM_X_ADDR n, 2, 30⟩
-- spec/16, R454
def LB_CTL_EN (n : Fin 4) : RF := ⟨.LB_CTL n, 0, 1⟩
def LB_CTL_MODE (n : Fin 4) : RF := ⟨.LB_CTL n, 1, 2⟩
def LB_CTL_FD (n : Fin 4) : RF := ⟨.LB_CTL n, 3, 1⟩
def LB_CTL_BRS (n : Fin 4) : RF := ⟨.LB_CTL n, 4, 1⟩
def LB_CTL_LOOP (n : Fin 4) : RF := ⟨.LB_CTL n, 5, 2⟩
def LB_CTL_MON (n : Fin 4) : RF := ⟨.LB_CTL n, 7, 1⟩
def LB_CTL_TERM (n : Fin 4) : RF := ⟨.LB_CTL n, 8, 1⟩
def LB_CTL_AUTO_REC (n : Fin 4) : RF := ⟨.LB_CTL n, 9, 1⟩
def LB_NBT_BRP (n : Fin 4) : RF := ⟨.LB_NBT n, 0, 5⟩
def LB_NBT_TSEG1 (n : Fin 4) : RF := ⟨.LB_NBT n, 5, 8⟩
def LB_NBT_TSEG2 (n : Fin 4) : RF := ⟨.LB_NBT n, 13, 7⟩
def LB_NBT_SJW (n : Fin 4) : RF := ⟨.LB_NBT n, 20, 7⟩
def LB_DBT_DBRP (n : Fin 4) : RF := ⟨.LB_DBT n, 0, 5⟩
def LB_DBT_DTSEG1 (n : Fin 4) : RF := ⟨.LB_DBT n, 5, 5⟩
def LB_DBT_DTSEG2 (n : Fin 4) : RF := ⟨.LB_DBT n, 10, 4⟩
def LB_DBT_DSJW (n : Fin 4) : RF := ⟨.LB_DBT n, 14, 4⟩
def LB_DBT_TDCO (n : Fin 4) : RF := ⟨.LB_DBT n, 18, 7⟩
def LB_DBT_TDC_EN (n : Fin 4) : RF := ⟨.LB_DBT n, 25, 1⟩
def LB_STATUS_TXFAIL (n : Fin 4) : RF := ⟨.LB_STATUS n, 0, 1⟩
def LB_STATUS_IDCOL (n : Fin 4) : RF := ⟨.LB_STATUS n, 1, 1⟩
def LB_STATUS_SCHED_VIOL (n : Fin 4) : RF := ⟨.LB_STATUS n, 2, 1⟩
def LB_STATUS_RXF_OVF (n : Fin 4) : RF := ⟨.LB_STATUS n, 3, 1⟩
def LB_STATUS_REF_MISS (n : Fin 4) : RF := ⟨.LB_STATUS n, 4, 1⟩
def LB_STATUS_TAKEOVER (n : Fin 4) : RF := ⟨.LB_STATUS n, 5, 1⟩
def LB_STATUS_DISC (n : Fin 4) : RF := ⟨.LB_STATUS n, 6, 1⟩
def LB_STATUS_GT_ERR (n : Fin 4) : RF := ⟨.LB_STATUS n, 7, 1⟩
def LB_STATUS_RATE_ERR (n : Fin 4) : RF := ⟨.LB_STATUS n, 8, 1⟩
def LB_STATUS_ERR_PASSIVE (n : Fin 4) : RF := ⟨.LB_STATUS n, 9, 1⟩
def LB_STATUS_BUS_OFF (n : Fin 4) : RF := ⟨.LB_STATUS n, 10, 1⟩
def LB_STATUS_CFG_ERR (n : Fin 4) : RF := ⟨.LB_STATUS n, 11, 1⟩
def LB_STATUS_WR_IGN (n : Fin 4) : RF := ⟨.LB_STATUS n, 12, 1⟩
def LB_STATUS_RXB (n : Fin 4) : RF := ⟨.LB_STATUS n, 13, 1⟩
def LB_STATUS_RXF_WM (n : Fin 4) : RF := ⟨.LB_STATUS n, 14, 1⟩
def LB_STATUS_CFG_RULE (n : Fin 4) : RF := ⟨.LB_STATUS n, 16, 3⟩
def LB_ERR_TEC (n : Fin 4) : RF := ⟨.LB_ERR n, 0, 8⟩
def LB_ERR_REC (n : Fin 4) : RF := ⟨.LB_ERR n, 8, 7⟩
def LB_ERR_RP (n : Fin 4) : RF := ⟨.LB_ERR n, 15, 1⟩
def LB_ERR_ESTATE (n : Fin 4) : RF := ⟨.LB_ERR n, 16, 2⟩
def LB_ERR_LAST (n : Fin 4) : RF := ⟨.LB_ERR n, 18, 3⟩
def LB_IRQ_EN_DATA (n : Fin 4) : RF := ⟨.LB_IRQ_EN n, 0, 3⟩
def LB_IRQ_EN_EVT (n : Fin 4) : RF := ⟨.LB_IRQ_EN n, 8, 7⟩
def LB_SYNC_CFG_MST_EN (n : Fin 4) : RF := ⟨.LB_SYNC_CFG n, 0, 1⟩
def LB_SYNC_CFG_MST_PRIO (n : Fin 4) : RF := ⟨.LB_SYNC_CFG n, 1, 3⟩
def LB_SYNC_CFG_REF_ID (n : Fin 4) : RF := ⟨.LB_SYNC_CFG n, 4, 8⟩
def LB_SYNC_CFG_MX (n : Fin 4) : RF := ⟨.LB_SYNC_CFG n, 12, 3⟩
def LB_SYNC_CFG_MST_AG (n : Fin 4) : RF := ⟨.LB_SYNC_CFG n, 16, 3⟩
def LB_SYNC_CFG_NODE (n : Fin 4) : RF := ⟨.LB_SYNC_CFG n, 24, 6⟩
def LB_CYC_CYC_LEN (n : Fin 4) : RF := ⟨.LB_CYC n, 0, 16⟩
def LB_CYC_MST_GAP (n : Fin 4) : RF := ⟨.LB_CYC n, 16, 12⟩
def LB_CYC_REF_LIM (n : Fin 4) : RF := ⟨.LB_CYC n, 28, 4⟩
def LB_TOL_SYNC_TOL (n : Fin 4) : RF := ⟨.LB_TOL n, 0, 16⟩
def LB_TOL_DRIFT_LIM (n : Fin 4) : RF := ⟨.LB_TOL n, 16, 8⟩
def LB_RXDLY_RX_DLY (n : Fin 4) : RF := ⟨.LB_RXDLY n, 0, 12⟩
def LB_SYNC_STAT_SYNC (n : Fin 4) : RF := ⟨.LB_SYNC_STAT n, 0, 2⟩
def LB_SYNC_STAT_ROLE (n : Fin 4) : RF := ⟨.LB_SYNC_STAT n, 2, 2⟩
def LB_SYNC_STAT_CYCLE (n : Fin 4) : RF := ⟨.LB_SYNC_STAT n, 8, 6⟩
def LB_SYNC_STAT_CUR_PRIO (n : Fin 4) : RF := ⟨.LB_SYNC_STAT n, 16, 3⟩
def LB_SYNC_STAT_MNODE (n : Fin 4) : RF := ⟨.LB_SYNC_STAT n, 24, 6⟩
def LB_GT_LO_GT (n : Fin 4) : RF := ⟨.LB_GT_LO n, 0, 32⟩
def LB_GT_HI_GT (n : Fin 4) : RF := ⟨.LB_GT_HI n, 0, 32⟩
def LB_GT_ERR_ERR (n : Fin 4) : RF := ⟨.LB_GT_ERR n, 0, 32⟩
def LB_DRIFT_DRIFT (n : Fin 4) : RF := ⟨.LB_DRIFT n, 0, 32⟩
def LB_REF_T_T (n : Fin 4) : RF := ⟨.LB_REF_T n, 4, 28⟩
def LB_REF_T_TAP (n : Fin 4) : RF := ⟨.LB_REF_T n, 0, 4⟩
def LB_PROP_PROP (n : Fin 4) (m : Fin 8) : RF := ⟨.LB_PROP n m, 0, 16⟩
def LB_TXFAIL_BUF (n : Fin 4) : RF := ⟨.LB_TXFAIL n, 0, 6⟩
def LB_TXFAIL_CAUSE (n : Fin 4) : RF := ⟨.LB_TXFAIL n, 8, 3⟩
def LB_TXFAIL_WIN (n : Fin 4) : RF := ⟨.LB_TXFAIL n, 16, 6⟩
def LB_TXFAIL_CYCLE (n : Fin 4) : RF := ⟨.LB_TXFAIL n, 24, 6⟩
def LB_IDCOL_ID (n : Fin 4) : RF := ⟨.LB_IDCOL n, 0, 29⟩
def LB_IDCOL_XTD (n : Fin 4) : RF := ⟨.LB_IDCOL n, 29, 1⟩
def LB_CNT_IDCOL (n : Fin 4) : RF := ⟨.LB_CNT n, 0, 16⟩
def LB_CNT_VIOL (n : Fin 4) : RF := ⟨.LB_CNT n, 16, 16⟩
def LB_FIFO_FIFO_LEN (n : Fin 4) : RF := ⟨.LB_FIFO n, 0, 10⟩
def LB_FIFO_WM (n : Fin 4) : RF := ⟨.LB_FIFO n, 16, 10⟩
def LB_FIFO_IDX_WIDX (n : Fin 4) : RF := ⟨.LB_FIFO_IDX n, 0, 10⟩
def LB_FIFO_IDX_RIDX (n : Fin 4) : RF := ⟨.LB_FIFO_IDX n, 16, 10⟩
def LB_TXREQ_REQ (n : Fin 4) (m : Fin 2) : RF := ⟨.LB_TXREQ n m, 0, 32⟩
def LB_TXDONE_DONE (n : Fin 4) (m : Fin 2) : RF := ⟨.LB_TXDONE n m, 0, 32⟩
-- spec/17, R472
def HST_ID_PART : RF := ⟨.HST_ID, 0, 16⟩
def HST_ID_MBXVER : RF := ⟨.HST_ID, 16, 8⟩
def HST_STATUS_GRANT : RF := ⟨.HST_STATUS, 0, 8⟩
def HST_STATUS_RSP_RDY : RF := ⟨.HST_STATUS, 8, 8⟩
def HST_STATUS_EVT_PEND : RF := ⟨.HST_STATUS, 16, 8⟩
def HST_STATUS_DEV_STATE : RF := ⟨.HST_STATUS, 24, 3⟩
def HST_STATUS_AGENT_UP : RF := ⟨.HST_STATUS, 27, 1⟩
def HST_STATUS_ERR : RF := ⟨.HST_STATUS, 28, 1⟩
def HST_DB_SUBMIT : RF := ⟨.HST_DB, 0, 8⟩
def HST_DB_RSP_ACK : RF := ⟨.HST_DB, 8, 8⟩
def HST_DB_EVT_ACK : RF := ⟨.HST_DB, 16, 8⟩
def HST_ERR_SLOT_WR : RF := ⟨.HST_ERR, 0, 1⟩
def HST_ERR_DB : RF := ⟨.HST_ERR, 1, 1⟩
def HST_ERR_ACK : RF := ⟨.HST_ERR, 2, 1⟩
def HST_ERR_FRAME : RF := ⟨.HST_ERR, 3, 1⟩
def HST_ERR_EVT_WR : RF := ⟨.HST_ERR, 4, 1⟩
def HST_IRQ_EN_RSP : RF := ⟨.HST_IRQ_EN, 0, 1⟩
def HST_IRQ_EN_EVT : RF := ⟨.HST_IRQ_EN, 1, 1⟩
def HST_IRQ_EN_ERR : RF := ⟨.HST_IRQ_EN, 2, 1⟩
def HST_EVT_LOST_LOST : RF := ⟨.HST_EVT_LOST, 0, 32⟩
-- spec/17, R473
def MBX_IRQ_EN_EN : RF := ⟨.MBX_IRQ_EN, 0, 6⟩
def MBX_STATUS_DB : RF := ⟨.MBX_STATUS, 0, 1⟩
def MBX_STATUS_RSP_ACK : RF := ⟨.MBX_STATUS, 1, 1⟩
def MBX_STATUS_EVT_ACK : RF := ⟨.MBX_STATUS, 2, 1⟩
def MBX_STATUS_HRST : RF := ⟨.MBX_STATUS, 3, 1⟩
def MBX_STATUS_HOST_ERR : RF := ⟨.MBX_STATUS, 4, 1⟩
def MBX_STATUS_WR_IGN : RF := ⟨.MBX_STATUS, 5, 1⟩
def MBX_STATUS_HRST_LVL : RF := ⟨.MBX_STATUS, 8, 1⟩
def MBX_SLOTS_SUBMITTED : RF := ⟨.MBX_SLOTS, 0, 8⟩
def MBX_SLOTS_GRANTED : RF := ⟨.MBX_SLOTS, 8, 8⟩
def MBX_SLOTS_DONE : RF := ⟨.MBX_SLOTS, 16, 8⟩
def MBX_POST_RSP : RF := ⟨.MBX_POST, 0, 8⟩
def MBX_POST_GRANT : RF := ⟨.MBX_POST, 8, 8⟩
def MBX_POST_EVT : RF := ⟨.MBX_POST, 16, 8⟩
def MBX_EVT_PENDING : RF := ⟨.MBX_EVT, 0, 8⟩
def MBX_EVT_FREE : RF := ⟨.MBX_EVT, 8, 8⟩
def MBX_EVT_LOST_LOST : RF := ⟨.MBX_EVT_LOST, 0, 32⟩
def MBX_CTL_UP : RF := ⟨.MBX_CTL, 0, 1⟩
-- spec/18, R496
def SYS_RST_CAUSE_POR : RF := ⟨.SYS_RST_CAUSE, 0, 1⟩
def SYS_RST_CAUSE_PIN : RF := ⟨.SYS_RST_CAUSE, 1, 1⟩
def SYS_RST_CAUSE_SW : RF := ⟨.SYS_RST_CAUSE, 2, 1⟩
def SYS_RST_CAUSE_WAS_FAULT : RF := ⟨.SYS_RST_CAUSE, 3, 1⟩
def SYS_STRAP_BOOT : RF := ⟨.SYS_STRAP, 0, 2⟩
def SYS_STRAP_HOSTQ : RF := ⟨.SYS_STRAP, 2, 1⟩
def SYS_STRAP_SAFE : RF := ⟨.SYS_STRAP, 3, 1⟩
def SYS_STRAP_DBG : RF := ⟨.SYS_STRAP, 4, 1⟩
def SYS_STRAP_LBT : RF := ⟨.SYS_STRAP, 5, 2⟩
def SYS_STRAP_GPOL : RF := ⟨.SYS_STRAP, 7, 4⟩
def SYS_STRAP_NODE : RF := ⟨.SYS_STRAP, 16, 6⟩
def SYS_BOOT_SLOT : RF := ⟨.SYS_BOOT, 0, 1⟩
def SYS_BOOT_SRC : RF := ⟨.SYS_BOOT, 1, 2⟩
def SYS_BOOT_KEY_ID : RF := ⟨.SYS_BOOT, 3, 1⟩
def SYS_BOOT_PADCHK_DONE : RF := ⟨.SYS_BOOT, 4, 1⟩
def SYS_BOOT_PAD_PULL : RF := ⟨.SYS_BOOT, 5, 1⟩
def SYS_BOOT_PAD_DRV : RF := ⟨.SYS_BOOT, 6, 1⟩
def SYS_BOOT_VER_VERSION : RF := ⟨.SYS_BOOT_VER, 0, 32⟩
def SYS_PADFAIL_PAD (n : Fin 5) : RF := ⟨.SYS_PADFAIL n, 0, 32⟩
def SYS_CFG_LOCK_KEY : RF := ⟨.SYS_CFG_LOCK, 16, 16⟩
def SYS_SWRST_KEY : RF := ⟨.SYS_SWRST, 16, 16⟩
def SYS_FUSE_CUST_EN : RF := ⟨.SYS_FUSE, 0, 1⟩
def SYS_FUSE_PORTIEL_DIS : RF := ⟨.SYS_FUSE, 1, 1⟩
def SYS_FUSE_FLOCK : RF := ⟨.SYS_FUSE, 2, 1⟩
def SYS_FUSE_BUSY : RF := ⟨.SYS_FUSE, 8, 1⟩
def SYS_FUSE_PROG_ERR : RF := ⟨.SYS_FUSE, 9, 1⟩
def SYS_FUSE_CMD_OP : RF := ⟨.SYS_FUSE_CMD, 0, 2⟩
def SYS_FUSE_CMD_KEY : RF := ⟨.SYS_FUSE_CMD, 16, 16⟩
def SYS_FUSE_HASH_HASH (n : Fin 8) : RF := ⟨.SYS_FUSE_HASH n, 0, 32⟩

end Sys2Proof.Machine.Fld
end

