-- ==== Sys2Proof/Machine/Tab.lean ====
section
/-! DEFINITION. Sparse tables in one canonical form, and bit fields of a word. A table lists the keys whose value differs from a
default, in strictly rising order of a number given to each key; the register bank and the memories are such tables. -/

namespace Sys2Proof.Machine

/-- The value listed for a key, or the default. -/
def tabGet {κ α : Type} [DecidableEq κ] (d : α) (k : κ) : List (κ × α) → α
  | [] => d
  | (k', v) :: l => if k' = k then v else tabGet d k l

/-- The table without a key. -/
def tabErase {κ α : Type} [DecidableEq κ] (k : κ) : List (κ × α) → List (κ × α)
  | [] => []
  | (k', v) :: l => if k' = k then tabErase k l else (k', v) :: tabErase k l

/-- The table with an entry put in before the first key of a greater number. -/
def tabInsert {κ α : Type} (ord : κ → Nat) (k : κ) (v : α) : List (κ × α) → List (κ × α)
  | [] => [(k, v)]
  | (k', v') :: l => if ord k < ord k' then (k, v) :: (k', v') :: l else (k', v') :: tabInsert ord k v l

/-- The table with a key's value set; the default is not listed. -/
def tabSet {κ α : Type} [DecidableEq κ] [DecidableEq α] (ord : κ → Nat) (d : α) (k : κ) (v : α)
    (l : List (κ × α)) : List (κ × α) :=
  if v = d then tabErase k l else tabInsert ord k v (tabErase k l)

/-- The canonical form: numbers strictly rising, and no entry equal to its key's default. -/
def tabWf {κ α : Type} [DecidableEq α] (ord : κ → Nat) (d : κ → α) : List (κ × α) → Bool
  | [] => true
  | [(k, v)] => decide (v ≠ d k)
  | (k, v) :: (k', v') :: l => decide (v ≠ d k) && decide (ord k < ord k') && tabWf ord d ((k', v') :: l)

/-- The bits of a word from `lo` up, `width` of them, as a number. -/
def wGet (w : Word) (lo width : Nat) : Nat := (w.toNat >>> lo) % 2 ^ width

/-- The ones of a field `width` wide at `lo`. -/
def wMask (lo width : Nat) : Word := BitVec.ofNat 32 ((2 ^ width - 1) <<< lo)

/-- The word with the bits from `lo` up, `width` of them, set to the low bits of a number. -/
def wPut (w : Word) (lo width v : Nat) : Word :=
  (w &&& ~~~ wMask lo width) ||| (wMask lo width &&& BitVec.ofNat 32 (v <<< lo))

/-- A truth value as the bit a register shows. -/
def bit (b : Bool) : Nat := if b then 1 else 0

/-- The signed number that the low `w` bits of `n` spell in two's complement. -/
def sext (w n : Nat) : Int := if n % 2 ^ w < 2 ^ (w - 1) then (n % 2 ^ w : Int) else (n % 2 ^ w : Int) - 2 ^ w

/-- An integer as a two's-complement number of `w` bits. -/
def wrapN (w : Nat) (i : Int) : Nat := (i % (2 ^ w : Int)).toNat

/-- An integer as a 32-bit word. -/
def wordOfInt (i : Int) : Word := BitVec.ofInt 32 i

/-- The least of two and most of two, as a saturation to a bound. -/
def sat (m n : Nat) : Nat := if n ≤ m then n else m

end Sys2Proof.Machine
end

