-- ==== Sys2Proof/Machine/State.lean ====
section
/-! DEFINITION. The state of the device as plain data: the register bank, the memories, and block by block what the spec says
the block holds besides its registers. Times named `t`, `due`, `stamp` or `at` are in taps of device time, 16 per core cycle
(R192); times named `cyc` are in core cycles. -/

namespace Sys2Proof.Machine

open Sys2Proof

/-- The reasons a command can stop the model. No command does: the constructor is there because the host's interface asks
for the type (safe: nothing raises it). -/
inductive Fault where
  /-- Raised by no command (safe). -/
  | never
  deriving DecidableEq, Repr

/-- The reasons a command can be refused. -/
inductive Refusal where
  /-- Raised by the dispatch for a command that has no meaning yet (safe: the model stops). -/
  | notModelled (mnemonic : String)
  deriving DecidableEq, Repr

/-- Vector update at a bounded number. -/
def vset {α : Type} {n : Nat} (v : Vector α n) (i : Fin n) (x : α) : Vector α n := v.set i.val x i.isLt

/-- Vector change at a bounded number. -/
def vmod {α : Type} {n : Nat} (v : Vector α n) (i : Fin n) (f : α → α) : Vector α n := vset v i (f v[i])

/-- SYS besides its registers: failed clock-monitor windows in a row (R21), the pin levels at the synchroniser outputs (R39),
the fault codes of one peripheral cycle (R32): the cycle, whether FIRST was free at its start, the lowest and the
highest; the sticky bits that the hardware has set in one peripheral cycle (R7), with the cycle; the peripheral cycles of the latest cause of
FAULT, SAFE or DEBUG and of the latest entry to DEBUG (R24); and the axis states before the peripheral cycle in which the hardware
last set one (R28, R29). -/
structure SysSt where
  mainBad : Nat := 0
  svBad : Nat := 0
  sync : Word := 0#32
  faultCyc : Option Nat := none
  faultOpen : Bool := false
  faultLo : Nat := 0
  faultHi : Nat := 0
  hotCyc : Nat := 0
  hot : List (Reg × Word) := []
  causeCyc : Option Nat := none
  dbgCyc : Option Nat := none
  axCyc : Option Nat := none
  axOld : Word := 0#32
  deriving DecidableEq, Repr

/-- A request on its way to the DMA block (R40), with the core cycle from which it is there; software requests name their channel. -/
structure DmaReq where
  req : Nat
  ch : Option (Fin 16)
  at_ : Nat
  deriving DecidableEq, Repr

/-- The DMA block besides its registers: requests on their way, the channels to be cleared of EN at the end of their
running burst (R43), the peripheral cycle in which each channel accepted its request, the core cycle at which the running burst
started, and the peripheral cycles of each channel's latest enabling write and of its latest rise of OVR (R44). -/
structure DmaSt where
  inbox : List DmaReq := []
  offAtEnd : BitVec 16 := 0#16
  accepted : Vector Nat 16 := Vector.replicate 16 0
  start : Nat := 0
  enCyc : Vector (Option Nat) 16 := Vector.replicate 16 none
  ovrCyc : Vector (Option Nat) 16 := Vector.replicate 16 none
  deriving DecidableEq, Repr

/-- What a source block reports to a generator (R50): a change of count, a count rewritten by an index correction (R53), a
sampled position in au of the source revolution, or a mains crossing (R66). -/
inductive GenEv where
  | counts (delta : Int) (stamp : Nat)
  | index (delta : Int) (stamp : Nat)
  | sampled (pos : Word) (stamp : Nat)
  | mains (rising : Bool) (stamp : Nat)
  deriving DecidableEq, Repr

/-- The record of an angle generator (02): the latched pair of position and stamp, the stamp of the event that LATCH_POS shows (R76), the
measured speed as the ratio `wn / wd` in au per tap, the events since the last reversal or enable, the standstill hold of R56, the ramp
of R65, the origin of the present gear ratio (R63), the outputs of the cycle before the latest change, and the core cycle of the latest
entry into holdover. -/
structure GenRec where
  count : Int := 0
  pos : Int := 0
  stamp : Nat := 0
  wn : Int := 0
  wd : Nat := 1
  dir : Int := 0
  hist : List (Int × Nat) := []
  events : Nat := 0
  held : Option Int := none
  rampAcc : Int := 0
  rampV : Int := 0
  rampCyc : Nat := 0
  rampEn : Nat := 0
  g0 : Int := 0
  p0 : Int := 0
  num : Nat := 1
  turns0 : Int := 0
  latchT : Nat := 0
  chg : Nat := 0
  mechB : Int := 0
  elecB : Int := 0
  wB : Int × Nat := (0, 1)
  jumpM : Bool := false
  jumpE : Bool := false
  holdAt : Nat := 0
  deriving DecidableEq, Repr

/-- A generator as it was before the event of a core cycle, with its STATUS, LATCH_POS and JUMP_LAST (R78: a write of EN = 0 in that
cycle discards the event). -/
structure GenWas where
  cyc : Nat
  was : GenRec
  status : Word
  latch : Word
  jump : Word
  deriving DecidableEq, Repr

/-- An angle generator besides its registers: its record, the events on their way with the core cycle in which the source block accepts
each (R59), the core cycle whose output first shows the latest event (R73), and what that event changed. -/
structure Gen extends GenRec where
  inbox : List (GenEv × Nat) := []
  evAt : Nat := 0
  undo : Option GenWas := none
  deriving DecidableEq, Repr

/-- The Mandrel besides its registers: the generators, and whether the latest MAINS_REF crossing was a rising one (R50). -/
structure ManSt where
  gen : Vector Gen 8 := Vector.replicate 8 {}
  rising : Bool := true
  deriving DecidableEq, Repr

/-- One input of an incremental channel (R81, R82): its raw level with the tap of the latest raw transition and of the latest one to each
level, the level that the latest filter samples show with the core cycle of the first of them, and the level last accepted. -/
structure QeLine where
  raw : Bool := false
  at_ : Nat := 0
  rise : Nat := 0
  fall : Nat := 0
  seen : Bool := false
  since : Nat := 0
  out : Bool := false
  deriving DecidableEq, Repr

/-- A level that a filter has accepted: the core cycle in which the channel takes it (R83), the input, the level and the stamp (R82). -/
structure QeAcc where
  cyc : Nat
  line : Fin 3
  level : Bool
  stamp : Nat
  deriving DecidableEq, Repr

/-- A raw transition of an input: the input, the new level and the tap. -/
structure QeEdge where
  line : Fin 3
  level : Bool
  at_ : Nat
  deriving DecidableEq, Repr

/-- An incremental channel besides its registers: whether the last single count since enable went up, if there was one (R85), its inputs A,
B and Z, and the accepted levels on their way through the synchroniser (R83). -/
structure QeCh where
  lastUp : Option Bool := none
  line : Vector QeLine 3 := Vector.replicate 3 {}
  acc : List QeAcc := []
  deriving DecidableEq, Repr

/-- A burst whose frame is not complete: the core cycles of t0, of the last rising clock edge and of the last sample, and whether data was
high at t0 (R93, R94, R98). -/
structure SsiBurst where
  t0 : Nat
  rise : Nat
  last : Nat
  ready : Bool
  deriving DecidableEq, Repr

/-- An SSI channel besides its registers: the bursts whose frames are not complete, oldest first, the core cycles of the latest burst's first
falling edge, last rising edge and last sample (R93, R99), whether its pause runs, the core cycle from which PERIOD counts, and the newest frame,
which a read of ST captures. -/
structure SsiCh where
  frames : List SsiBurst := []
  pause : Bool := false
  t0 : Nat := 0
  rise : Nat := 0
  last : Nat := 0
  org : Nat := 0
  mt : Word := 0#32
  raw : BitVec 48 := 0#48
  stamp : Nat := 0
  deriving DecidableEq, Repr

/-- The feedback channels besides their registers. -/
structure FbkSt where
  qe : Vector QeCh 8 := Vector.replicate 8 {}
  ssi : Vector SsiCh 4 := Vector.replicate 4 {}
  deriving DecidableEq, Repr

/-- A complete word that waits for its checks (R118 to R122): its window (t_c of the event, or the tap of its end in continuous mode), the current, the tags XFAIL, SFAIL, SAT and INVALID
from bit 0 up, its sequence number in continuous mode, and which checks have been made. -/
structure SdmWord where
  key : Nat
  w : Int
  tags : BitVec 4
  seq : Option Nat
  pairDone : Bool
  sumDone : Bool
  deriving DecidableEq, Repr

/-- An open window (R116, R118): t_c of its event, the core cycle of t_s, and the OSR in force when it opened. -/
structure SdmWin where
  key : Nat
  ts : Nat
  osr : Nat
  deriving DecidableEq, Repr

/-- A sigma-delta channel besides its registers: the open window, the word that waits, the next sequence number of the windowed modes
(R532), the core cycle in which EN took effect, whether the channel is stopped (R121), and the last eight captured bits, newest first, each with
the core cycle of the edge that began its period (R112). -/
structure SdmCh where
  win : Option SdmWin := none
  pend : Option SdmWord := none
  seq : Nat := 0
  enCyc : Nat := 0
  halted : Bool := false
  kept : List (Bool × Nat) := []
  deriving DecidableEq, Repr

/-- What a pair waits to do (R201, R211): turn a side on after its dead time, take the next step of a refresh, or start
or end a low-side pulse (R291). -/
inductive Pend where
  | lowOn | highOn | refLowOn | refLowOff | refHighOn | pulseOn | pulseOff
  deriving DecidableEq, Repr

/-- One channel of a gate group: its command, the physical outputs of its pair (R210: after SWAP; in the DSC and SBC groups
`hi` is the one output), what the pair waits for, the refresh timer's origin and the low side's turn-on, the latest pad edge of
each output (R200), and the variable period of R195 and R196: its start, the latest command edge and the scheduled next
start. -/
structure GCell where
  cmd : Bool := false
  hi : Bool := false
  lo : Bool := false
  pend : Option (Pend × Nat) := none
  refT : Nat := 0
  loT : Nat := 0
  padHi : Nat := 0
  padLo : Nat := 0
  on : Bool := false
  start : Nat := 0
  edge : Nat := 0
  next : Option Nat := none
  deriving DecidableEq, Repr

/-- A comparator report on its way to a gate channel (R198): the channel, which event, and the tap at which it takes
effect. -/
structure VpEv where
  g : Fin 16
  c : Fin 4
  peak : Bool
  at_ : Nat
  deriving DecidableEq, Repr

/-- A gate group besides its registers: the core cycle of counter value 0 and the period in use (R192, R208), the pending arm
(R204, R205), the delay pairs (R202), the latest transfer event of each kind, the instant of the latest handover
and the selection before it (R233), the levels and commands of the phases that the handover brings (R233), the counter load that it
brings with its core cycle (R235), the peripheral cycle of the latest mismatch (R218), whether channel 0 has completed a variable period
(R199), the phases that follow the selected pattern (R233), the latest write of ISIGN with the word before it (R230), the latest edge of
any of its output cells (R283), and its channels. -/
structure Group where
  org : Int := 0
  per : Nat := 75000
  arm : Option (Bool × Nat) := none
  lastRld : Option Nat := none
  lastMark : Option Nat := none
  dtOpen : Bool := false
  bootOpen : Bool := false
  dtBad : Bool := false
  bootBad : Bool := false
  hov : Nat := 0
  oldSel : Nat := 0
  errCyc : Option Nat := none
  lastEdge : Nat := 0
  vpDone : Bool := false
  patPh : BitVec 3 := 0#3
  hovLv : List (Nat × List (Nat × Bool)) := []
  sync : Option (Nat × Int) := none
  isgCyc : Nat := 0
  isgOld : Word := 0#32
  cell : Vector GCell 9 := Vector.replicate 9 {}
  deriving DecidableEq, Repr

/-- The gate timers besides their registers and the pattern memory: the groups, comparator reports on their way, and the
running pattern check with its pattern, word 0 and the core cycle of its end (R223). -/
structure PwmSt where
  g : Vector Group 16 := Vector.replicate 16 {}
  vpEv : List VpEv := []
  chk : Option (Nat × Word × Nat) := none
  deriving DecidableEq, Repr

/-- Events on their way to the blocks that answer them, oldest first, each with the number of the channel, task or converter
and its time: sampling windows (t_c, R116), task releases (t_r in core cycles, R144), captures and SSI bursts (R101: the time stored, and
the core cycle in which the trigger reaches the channel), regular and injected conversions (the start instant in core cycles, R387, R389).
The blocks take them with commands of their own. -/
structure PostSt where
  win : List (Nat × Nat) := []
  rel : List (Nat × Nat) := []
  cap : List (Nat × Nat × Nat) := []
  ssi : List (Nat × Nat × Nat) := []
  conv : List (Nat × Nat) := []
  inj : List (Nat × Nat) := []
  deriving DecidableEq, Repr

/-- The Quench besides its registers: the action the Anvil's reaction names per group (R250), the groups for which
CFG_INTEGRITY was latched, the standing causes of R270, the groups in an ASC conflict (R253), the action in force per group with the instant its mask is due
(R257), the tap of each group's trip (R258), the levels of the trip pins (R247), and the sources that have been active in a peripheral
cycle (R259); the discharge exemption is read from the sequencer. -/
structure QncSt where
  anvAct : Vector Nat 16 := Vector.replicate 16 0
  integ : BitVec 16 := 0#16
  ascOpen : BitVec 2 := 0#2
  ascBad : BitVec 16 := 0#16
  crcBad : Bool := false
  conf : BitVec 16 := 0#16
  eff : Vector Nat 16 := Vector.replicate 16 0
  due : Vector (Option Nat) 16 := Vector.replicate 16 none
  holdCyc : Vector Nat 16 := Vector.replicate 16 0
  tripAt : Vector Nat 16 := Vector.replicate 16 0
  tripLow : BitVec 16 := 0#16
  was : BitVec 128 := 0#128
  wasCyc : Nat := 0
  deriving DecidableEq, Repr

/-- The window comparators besides their registers: the comparator picked next (R267), the one under sweep with the core cycle
of its start (R268), the core cycle of the next pick (R267), the loss of their supply (R510), the voltage at each pin in microvolts
(R242), and the outputs that have been 1 in a core cycle (R245). -/
structure CmpSt where
  next : Nat := 0
  sweep : Option (Fin 64 × Nat) := none
  lost : Bool := false
  tsDue : Option Nat := none
  vin : Vector Nat 64 := Vector.replicate 64 0
  hiIn : BitVec 64 := 0#64
  loIn : BitVec 64 := 0#64
  inCyc : Nat := 0
  deriving DecidableEq, Repr

/-- An update of the live record (R414): a histogram or extreme sample, a fault code for the tally, an amount for a
counter. -/
inductive HlmUpd where
  | hist (h : Fin 32) (x : Int)
  | ext (e : Fin 64) (x : Int)
  | tally (code : BitVec 16)
  | count (i : Fin 64) (n : Nat)
  deriving DecidableEq, Repr

/-- What the recorder is doing (R412, R419). -/
inductive HlmPhase where
  | idle | copyFlush | writing | copySnap
  deriving DecidableEq, Repr

/-- The Hallmark besides its registers and its images in memory: the running flush, its causes and start, causes that wait
for its end, the hold of FAULT flushes (R411), the SEQ of the last flush, the updates that wait for a copy,
the codes recorded before the restore (R495), and the core cycle from which the running second counts. -/
structure HlmSt where
  phase : HlmPhase := .idle
  causes : BitVec 5 := 0#5
  start : Nat := 0
  waiting : BitVec 5 := 0#5
  holdTill : Option Nat := none
  held : Bool := false
  seq : Word := 0#32
  queue : List HlmUpd := []
  early : List (BitVec 16) := []
  secOrg : Nat := 0
  deriving DecidableEq, Repr

/-- An accepted back-EMF crossing (R283): its phase 0 to 2 for A to C after the exchange of CTL.DIR, its polarity and its
stamp. -/
structure Crossing where
  phase : Fin 3
  rising : Bool
  stamp : Nat
  deriving DecidableEq, Repr

/-- An auxiliary commutator besides its registers: the latest crossings taken, newest first; the core cycle at which the state,
the BRAKE and the RAMP began; whether BRAKE came from STOP and whether its slice is listening; the stamp of the last crossing
taken and the scheduled commutation (a core cycle); the demagnetisation blank with its start; the accepted comparator levels; the synchronisation of R293
with the end of its low-side pulses; the counts of R291; the peak comparator and hold of R282; the start of RUN and whether a
COAST was entered since START; the length of a RAMP sector or the start of a BRAKE slice, and whether the sector ran at R_F1; the
sector last sent to the Mandrel; reports of the window comparator of PK_SEL on their way; the voltage of AUXn_IPK in microvolts with its
comparator's output (R279); what a stay in LISTEN waits with: the core cycle of its end, and whether the sequence still runs (R289);
whether a listening interval has held two crossings in sequence (R290). -/
structure AuxCh where
  xs : List Crossing := []
  since : Nat := 0
  brakeCyc : Nat := 0
  fromStop : Bool := false
  listening : Bool := false
  staying : Bool := false
  tz : Nat := 0
  tk : Option Nat := none
  blankFrom : Nat := 0
  blankEnd : Nat := 0
  needReturn : Bool := false
  level : BitVec 3 := 0#3
  sync : Bool := false
  pulseEnd : Nat := 0
  secCyc : Nat := 0
  took : Bool := false
  okSec : Nat := 0
  f1Sec : Nat := 0
  peak : Bool := false
  hold : Bool := false
  peakAtStart : Bool := false
  runCyc : Nat := 0
  coasted : Bool := false
  secLen : Nat := 0
  atF1 : Bool := false
  lastSec : Option Nat := none
  pkEv : List (Bool × Nat) := []
  ipk : Nat := 0
  own : Bool := false
  stayEnd : Nat := 0
  inSeq : Bool := false
  pair : Bool := false
  deriving DecidableEq, Repr

/-- The DC-link sequencers besides their registers: the start of the precharge and its first matching result (R303), which
contactors are driven closed, since when the auxiliary contact reads open (R305), the newest link and plant-bus results
(R302), the start of the discharge and of its method, the last excess voltage (R311), whether the first method has failed, and
the count of request words (R310). -/
structure DclSt where
  pchT0 : Nat := 0
  pchT1 : Nat := 0
  pre : Bool := false
  main : Bool := false
  neg : Bool := false
  openAt : Option Nat := none
  link : Option (Nat × Nat) := none
  bus : Option (Nat × Nat) := none
  dsgT0 : Nat := 0
  methT0 : Nat := 0
  ePrev : Option Int := none
  second : Bool := false
  shm : Nat := 0
  deriving DecidableEq, Repr

/-- A reaction of the Anvil that has not been withdrawn (R327): its monitor number (R349), the axis, or none for device scope,
the code of R326, and whether it comes from a class 0x4 cause (R329). -/
structure AnvReact where
  mon : Nat
  axis : Option (Fin 4)
  code : Nat
  latched : Bool
  deriving DecidableEq, Repr

/-- The Anvil's view of one axis: the sampled counts of the last 17 cycles, newest first (R319), the newest bank B words of
the three phases and which of them lie beyond IMAX (R318, R330), the newest set and whether it came since the last cycle, cycles
without a valid set, the cycle from which the SLS limit is checked (R332), SDI's reference, SS1's start speed in 0.25 rpm and
its cycle, the PULSE_OFF of a completed stop (R333), cycles of torque outside (R335), and the violations of the latest cycle in the order of
HIT. -/
structure AnvAx where
  counts : List Int := []
  words : Vector (Option Word) 3 := Vector.replicate 3 none
  beyond : BitVec 3 := 0#3
  set3 : Vector Word 3 := Vector.replicate 3 0#32
  fresh : Bool := false
  stale : Nat := 0
  slsFrom : Nat := 0
  cref : Int := 0
  ss1N0 : Nat := 0
  ss1K : Nat := 0
  off : Bool := false
  tqRun : Nat := 0
  viol : BitVec 8 := 0#8
  deriving DecidableEq, Repr

/-- The Anvil besides its registers: the reactions in force, the demand word last applied, the time of the last accepted DEMAND
frame, the last accepted SEQ and the response shifted out next (R339), the newest DC-link result (R320), the device causes that
stand (V_DC, watchdog), the core cycle of entry to SV_ARMED, the monitoring cycles so far, the instant from which the STO levels differ, the
failure of the domain (R317), the last heartbeat, since when each STO pin has been low (R323), the brakes that a cycle has released with
the time from which each feedback disagrees (R318, R334), and the axes. -/
structure AnvSt where
  react : List AnvReact := []
  applied : Word := 0#32
  demandCyc : Nat := 0
  seq : Option (BitVec 8) := none
  resp : BitVec 64 := 0#64
  vdc : Option (Nat × Nat) := none
  vdcBad : Bool := false
  wdOut : Bool := false
  armedCyc : Nat := 0
  cycles : Nat := 0
  disc : Option Nat := none
  failed : Bool := false
  beat : Nat := 0
  stoLow : Vector (Option Nat) 2 := Vector.replicate 2 none
  brk : BitVec 2 := 0#2
  fbSince : Vector (Option Nat) 2 := Vector.replicate 2 none
  ax : Vector AnvAx 4 := Vector.replicate 4 {}
  deriving DecidableEq, Repr
/-- One copy of a core (R136, R141): the integer and FP32 registers, PC, FFLAGS and PV. -/
structure Core where
  x : Vector Word 32 := Vector.replicate 32 0#32
  f : Vector Word 32 := Vector.replicate 32 0#32
  pc : Word := 0#32
  fflags : BitVec 5 := 0#5
  pv : Bool := false
  deriving DecidableEq, Repr

/-- The issue of an engine core (R133, R170, R171): the cycle from which the next instruction can issue, those from which each register's
value and PV are there, and those from which the gain-table unit and the divider are free. -/
structure Pipe where
  next : Nat := 0
  xr : Vector Nat 32 := Vector.replicate 32 0
  fr : Vector Nat 32 := Vector.replicate 32 0
  pvAt : Nat := 0
  unit : Nat := 0
  div : Nat := 0
  deriving DecidableEq, Repr

/-- Where an instance is: on its way to its home deque or in the deque of a pair (R147), ended on a pair (R148), or without a pair,
as while its home retires (R158). An instance on a core stands in the pair's own record. -/
inductive InstAt where
  | queued (p : Fin 24)
  | ended (p : Fin 24)
  | waiting (p : Fin 24)
  deriving DecidableEq, Repr

/-- A task instance (R144 to R154): its task, release cycle, commit cycle, instance count and snapshot (words 0x00 to 0x54 of
the input window), the cycle from which it stands in a deque, where it is, the commit-slot entries with those written, the END
cycle, the region at END, the completion cycle, and whether its outputs are discarded (R366). -/
structure Inst where
  d : Fin 512
  tr : Nat
  c : Nat
  count : Nat
  snap : Vector Word 22
  from_ : Nat
  place : InstAt
  slots : Vector Word 16 := Vector.replicate 16 0#32
  written : BitVec 16 := 0#16
  ended : Nat := 0
  region : List Word := []
  done : Option Nat := none
  dropped : Bool := false
  deriving DecidableEq, Repr

/-- The words that a PILUT in progress will store, for the lead and for the checker, and the core cycle of it (R184 step 10). -/
structure UnitPut where
  at_ : Nat
  lead : List (Nat × Word)
  chk : List (Nat × Word)
  deriving DecidableEq, Repr

/-- A loop pair besides its registers: the two copies, the issue state, what its gain-table unit will store, the instance it runs or copies, whether the instance
executes, the cycle at which the copy ends, the first cycle at ENTRY, cycles spent halted, whether BUD was passed (R149), whether R142 stopped it,
the cycle from which the pair can begin, the halt with its cycle and the end of a resume copy (R365, R368), the retirement under
way with its cause (R158), the target spare of a drain (R161), and the pinned outcomes of one commit cycle (R158). -/
structure LoopPair where
  lead : Core := {}
  chk : Core := {}
  pipe : Pipe := {}
  gain : Option UnitPut := none
  run : Option Inst := none
  live : Bool := false
  due : Nat := 0
  start : Nat := 0
  lost : Nat := 0
  passed : Bool := false
  stopped : Bool := false
  freeAt : Nat := 0
  halted : Bool := false
  haltCyc : Nat := 0
  copyTill : Option Nat := none
  ret : Option (Nat × Nat) := none
  target : Option (Fin 24) := none
  pinCyc : Option Nat := none
  pinBase : Nat := 0
  pinMissed : Bool := false
  deriving DecidableEq, Repr

/-- The pool besides its registers and pairs: the pending instances that are on no core, the core cycle of the latest steals (R151), the pair whose local region holds each task's
committed context (R148), the latest tick of each generator, and the targets that the commits of one core cycle have written
(R153). -/
structure LoopSt where
  insts : List Inst := []
  stealCyc : Option Nat := none
  held : List (Fin 512 × Fin 24) := []
  tick : Vector (Option Nat) 8 := Vector.replicate 8 none
  commitCyc : Nat := 0
  commitTo : List Nat := []
  deriving DecidableEq, Repr

/-- The Kenow pair (R141, R143): the two copies, the control registers of Kenow alone, and its debug halt. -/
structure Kenow where
  lead : Core := {}
  chk : Core := {}
  vbase : Word := 0#32
  epc : Word := 0#32
  ecause : Word := 0#32
  ien : Bool := false
  imask : Vector Word 4 := Vector.replicate 4 0#32
  wait : Bool := false
  halted : Bool := false
  haltCyc : Nat := 0
  copyTill : Option Nat := none
  deriving DecidableEq, Repr

/-- The Assay besides its registers: the peripheral cycle in which source 113 ends (R359), the core cycle of the latest mismatch (R377), and
pairs that failed the lane self-test are in ASY_BIST. -/
structure AsySt where
  srcTill : Option Nat := none
  misCyc : Option Nat := none
  deriving DecidableEq, Repr

/-- The JTAG port (R370, R372): the instruction, the address, the access under way (true for a write) with its data, the status
of the last one (0 done, 1 busy, 2 refused), the data read, and the boundary cells as last preloaded (R371; the spec does not give their
number). -/
structure TapSt where
  ir : BitVec 6 := 2#6
  addr : Word := 0#32
  busy : Option (Bool × Word) := none
  status : BitVec 2 := 0#2
  data : Word := 0#32
  cells : List Bool := []
  deriving DecidableEq, Repr

/-- A window of a metering converter (R384, R389): whether it is of the injected sequence, its entry and channel, the threshold DAC it
reads back with whether it is the upper one (R390), its first core cycle, its end where that is known, and whether the generator
was in holdover when it began (R386). -/
structure McvWin where
  inj : Bool
  entry : Nat
  ch : Nat
  read : Option (Fin 64 × Bool)
  start : Nat
  due : Option Nat
  hold : Bool
  deriving DecidableEq, Repr

/-- A completed conversion on its way (R391): its channel and code, the flags of R383 from bit 22 up, whether its result ends an injected
sequence, the threshold DAC read back, and t0. -/
structure McvOut where
  ch : Nat
  code : Nat
  ovr : Bool
  unset : Bool
  inj : Bool
  mains : Bool
  last : Bool
  read : Option (Fin 64 × Bool)
  t0 : Nat
  deriving DecidableEq, Repr

/-- A metering converter besides its registers: the window, the core cycle from which a regular window waits to begin, the start of
an injected sequence that a window's end precedes, the next periodic trigger, the conversions on their way, and the peripheral cycle
of the latest STOP. -/
structure McvCh where
  win : Option McvWin := none
  wait : Option Nat := none
  injFrom : Option Nat := none
  injNext : Nat := 0
  out : List McvOut := []
  stopCyc : Option Nat := none
  deriving DecidableEq, Repr

/-- The metering converter besides its registers: when REF_READY rises, when it last rose (R393), the threshold DAC that Touchstone
names next (R390), and the converters. -/
structure McvSt where
  refAt : Option Nat := none
  refUp : Nat := 0
  tsNext : Nat := 0
  ch : Vector McvCh 4 := Vector.replicate 4 {}
  deriving DecidableEq, Repr

/-- A line-bus controller besides its registers and message RAM: global time as its value at an instant in taps (R446); the PRIO, GT and
instant of the last accepted reference; references in a row within and beyond SYNC_TOL (R447); whether one has been received since EN
and the core cycle of EN; the GT from which the present cycle counts and whether cycles run (R433); the next window, the buffers on
offer and whether the window is exclusive (R436); the buffers whose mark has fired since their last transmission; requests of one
peripheral cycle (R456); the COMPAT queue (R426); cycles in HOLDOVER; whether an own reference is requested (R448); the write of
MST_AG as the generator before it and its core cycle, and whether DISC is due (R445); whether bus-off recovery has been started (R423);
the core cycle of EN = 0; and the line position of the last accepted reference (R444). -/
structure LbCh where
  gtK : Nat := 0
  tK : Nat := 0
  last : Option (Nat × Nat × Nat) := none
  good : Nat := 0
  bad : Nat := 0
  heard : Bool := false
  enCyc : Nat := 0
  gtRef : Nat := 0
  cycOn : Bool := false
  nextWin : Nat := 0
  offer : BitVec 64 := 0#64
  excl : Bool := false
  marked : BitVec 64 := 0#64
  newCyc : Nat := 0
  newReq : BitVec 64 := 0#64
  queue : List (Fin 64) := []
  holdN : Nat := 0
  refReq : Bool := false
  agOld : Option (Fin 8 × Nat) := none
  disc : Bool := false
  recov : Bool := false
  offCyc : Option Nat := none
  pos : Word := 0#32
  deriving DecidableEq, Repr

/-- The line bus besides its registers: whether VBUS_LB is lost (R510), and the controllers. -/
structure LbSt where
  lost : Bool := false
  ch : Vector LbCh 4 := Vector.replicate 4 {}
  deriving DecidableEq, Repr

/-- An event that waits in Felyene's queue (R469, R470): its code and payload, and the device state and time of its cause. -/
structure FelEv where
  code : Nat
  data : List Byte
  dev : Nat
  at_ : Nat
  deriving DecidableEq, Repr

/-- A command whose response waits for an action to end (R464, R468): its slot, OPCODE and TAG, the device state and core cycle of its
execution, whether its response is to be discarded (R461), and a number that the command keeps. -/
structure FelRun where
  slot : Fin 8
  op : Nat
  tag : Nat
  dev : Nat
  at_ : Nat
  drop : Bool := false
  arg : Nat := 0
  deriving DecidableEq, Repr

/-- An open firmware session (R468, R487): slot, size, the next offset and the MAGIC held back. -/
structure FwSess where
  slot : Fin 2
  size : Nat
  next : Nat := 0
  magic : Word := 0#32
  deriving DecidableEq, Repr

/-- The mailbox and Felyene besides their registers and slots: submitted slots in order (R464), the command under execution, the firmware
session, the event queue with its loss mark and sequence number (R465, R470), the cause of R469 that a state change under way has, the
slot states before the present peripheral cycle's transitions (R462, R476), the set-points given to engine firmware (mode, value,
ramp), and the converters' modes and powers (R468). -/
structure MbxSt where
  order : List (Fin 8) := []
  run : Option FelRun := none
  fw : Option FwSess := none
  evq : List FelEv := []
  lost : Bool := false
  seq : Nat := 0
  why : Option Nat := none
  oldCyc : Option Nat := none
  oldSlots : Word := 0#32
  oldEvt : Word := 0#32
  sp : Vector (Option (Nat × Word × Word)) 4 := Vector.replicate 4 none
  conv : Vector (Nat × Word) 2 := Vector.replicate 2 (0, 0#32)
  deriving DecidableEq, Repr

/-- Pad check (R483): not begun, the pull phase and the drive phase each with its start, passed, failed. -/
inductive PadPhase where
  | idle
  | pull (cyc : Nat)
  | drive (cyc : Nat)
  | passed
  | failed
  deriving DecidableEq, Repr

/-- Reset and boot besides the registers (R477, R482): the sources that take part in the reset under way (POR, PIN, SW from bit 0 up), or
none outside reset, and whether the device was in FAULT when it began; whether RST_N is low; whether the PLL has locked; pad check with the pads that
failed its pull phase; whether an image has been verified; whether the agent has started; and the core cycle at which a RESET
command's write falls (R468). -/
structure BootSt where
  hold : BitVec 3 := 1#3
  wasFault : Bool := false
  rstLow : Bool := false
  pll : Bool := false
  pads : PadPhase := .idle
  pull : BitVec 140 := 0#140
  image : Bool := false
  agent : Bool := false
  rstAt : Option Nat := none
  deriving DecidableEq, Repr

/-- The fuses (R494): the customer key hash, CUST_EN, PORTIEL_DIS and FLOCK, and the operation that runs with the core cycle of
its start and the hash staged then. -/
structure FuseSt where
  hash : Vector Word 8 := Vector.replicate 8 0#32
  cust : Bool := false
  portiel : Bool := false
  flock : Bool := false
  op : Option (Nat × Nat) := none
  want : Vector Word 8 := Vector.replicate 8 0#32
  deriving DecidableEq, Repr

/-- The state of the device. -/
structure State where
  /-- The commands that wait, first in first out (the block row's queue). -/
  pending : List Instr := []
  /-- The registers that differ from their reset value (Reg.reset), in rising order of address. -/
  regs : List (Reg × Word) := []
  /-- The bytes of memory that differ from 0, in rising order of address (R33). -/
  mem : List Host.Cell := []
  /-- The checker copies of engine and Kenow memory, at the addresses of the lead copies (R35). -/
  chk : List Host.Cell := []
  /-- Device time in core cycles (R20). -/
  time : Nat := 0
  /-- Device time counts (R482). -/
  running : Bool := false
  /-- What the latest read returned (the model's field: what the agent or debugger was answered). -/
  rdata : Word := 0#32
  /-- How many free values have been taken (the model's field, not the spec's). -/
  free : Nat := 0
  /-- SYS. -/
  sys : SysSt := {}
  /-- DMA. -/
  dma : DmaSt := {}
  /-- Mandrel. -/
  man : ManSt := {}
  /-- Gate timers. -/
  pwm : PwmSt := {}
  /-- Quench. -/
  qnc : QncSt := {}
  /-- Comparators. -/
  cmp : CmpSt := {}
  /-- Hallmark. -/
  hlm : HlmSt := {}
  /-- Auxiliary commutators. -/
  aux : Vector AuxCh 8 := Vector.replicate 8 {}
  /-- DC link. -/
  dcl : DclSt := {}
  /-- Anvil. -/
  anv : AnvSt := {}
  /-- Position feedback. -/
  fbk : FbkSt := {}
  /-- Current sensing. -/
  sdm : Vector SdmCh 32 := Vector.replicate 32 {}
  /-- Loop engine pool. -/
  loop : LoopSt := {}
  /-- Loop pairs LP0 to LP23. -/
  pair : Vector LoopPair 24 := Vector.replicate 24 {}
  /-- Kenow. -/
  ken : Kenow := {}
  /-- Assay. -/
  asy : AsySt := {}
  /-- JTAG and the debug port. -/
  tap : TapSt := {}
  /-- Metering converter. -/
  mcv : McvSt := {}
  /-- Line bus. -/
  lb : LbSt := {}
  /-- Mailbox and Felyene. -/
  mbx : MbxSt := {}
  /-- Reset and boot. -/
  boot : BootSt := {}
  /-- Fuses. -/
  fuse : FuseSt := {}
  /-- Events on their way between blocks. -/
  post : PostSt := {}
  deriving DecidableEq, Repr

/-- The device right after reset (R11, R478, R482): every register at its table's value, memory cleared, device time at 0 and
not yet counting, every block at rest. The values the spec does not give are those of log entries 1 and 2. -/
def State.reset : State := {}

end Sys2Proof.Machine
end

