-- ==== Sys2Proof/Machine/Ops.lean ====
section
/-! DEFINITION. The named operations over registers and memory, the recording of faults (R32, R47, R48) and the Hallmark's live
record as far as every block's faults reach it (15). -/

namespace Sys2Proof.Machine

open Sys2Proof

/-! ## Registers -/

/-- The word a register holds. -/
def State.rd (s : State) (r : Reg) : Word := tabGet r.reset r s.regs

/-- A register set to a word. -/
def State.wr (s : State) (r : Reg) (w : Word) : State := { s with regs := tabSet Reg.addr r.reset r w s.regs }

/-- The value of a field. -/
def State.f (s : State) (F : RF) : Nat := wGet (s.rd F.reg) F.lo F.width

/-- A field set to a value. -/
def State.setF (s : State) (F : RF) (v : Nat) : State := s.wr F.reg (wPut (s.rd F.reg) F.lo F.width v)

/-- A field that is not 0. -/
def State.flag (s : State) (F : RF) : Bool := s.f F != 0

/-- The peripheral cycle of a core cycle (R205). -/
def State.perCycle (s : State) : Nat := s.time / 4

/-- Bits that the hardware sets in the present peripheral cycle are noted: a clear in the same cycle leaves them set (R7). -/
def State.noteHot (s : State) (r : Reg) (m : Word) : State :=
  { s with sys := { s.sys with hot := (r, m) :: (if s.sys.hotCyc = s.perCycle then s.sys.hot else []), hotCyc := s.perCycle } }

/-- The bits of a register that the hardware sets in every peripheral cycle as things stand: DT_ERR of a group with a closed pair that
compares wrong (R202, R270). -/
def State.standing (s : State) (r : Reg) : Word :=
  match r with
  | .PWM_G_STATUS g =>
    let x := s.pwm.g[g]
    if (x.dtBad && !x.dtOpen) || (x.bootBad && !x.bootOpen) ||
        (s.qnc.ascBad.getLsbD g.val && !s.qnc.ascOpen.getLsbD (g.val / 8)) then wMask 8 1 else 0#32
  | _ => 0#32

/-- The bits of a register that the hardware sets in the present peripheral cycle. -/
def State.hotBits (s : State) (r : Reg) : Word :=
  s.standing r ||| (if s.sys.hotCyc = s.perCycle then s.sys.hot.foldl (fun w e => if e.1 = r then w ||| e.2 else w) 0#32 else 0#32)

/-- A bit set by the hardware (R7). -/
def State.raise (s : State) (F : RF) : State := (s.setF F 1).noteHot F.reg (wMask F.lo F.width)

/-- A numbered bit set by the hardware (R7). -/
def State.raiseBit (s : State) (r : Reg) (i : Nat) : State := (s.wr r (wPut (s.rd r) i 1 1)).noteHot r (wMask i 1)

/-- A field cleared. -/
def State.lower (s : State) (F : RF) : State := s.setF F 0

/-- A bit of a register, counted from its least significant. -/
def State.bitOf (s : State) (r : Reg) (i : Nat) : Bool := (s.rd r).getLsbD i

/-- A bit of a register put to a level. -/
def State.putBit (s : State) (r : Reg) (i : Nat) (b : Bool) : State := s.wr r (wPut (s.rd r) i 1 (bit b))

/-! ## Memory -/

/-- The byte at an address. -/
def memGet (m : List Host.Cell) (a : Nat) : Byte := tabGet 0#8 a m

/-- The byte at an address set; a byte equal to 0 is not listed. -/
def memSet (m : List Host.Cell) (a : Nat) (b : Byte) : List Host.Cell := tabSet id 0#8 a b m

/-- The little-endian word at an address. -/
def memWord (m : List Host.Cell) (a : Nat) : Word :=
  (memGet m (a + 3)) ++ (memGet m (a + 2)) ++ (memGet m (a + 1)) ++ (memGet m a)

/-- The little-endian word at an address set. -/
def memSetWord (m : List Host.Cell) (a : Nat) (w : Word) : List Host.Cell :=
  memSet (memSet (memSet (memSet m a (w.extractLsb' 0 8)) (a + 1) (w.extractLsb' 8 8)) (a + 2) (w.extractLsb' 16 8))
    (a + 3) (w.extractLsb' 24 8)

/-- `n` bytes from an address on, as 0. -/
def memClear (m : List Host.Cell) (a n : Nat) : List Host.Cell := m.filter fun c => c.1 < a || a + n ≤ c.1

/-- `n` bytes copied from one place to another. -/
def memCopy (m : List Host.Cell) (src dst n : Nat) : List Host.Cell :=
  m.filter (fun c => c.1 < dst) ++
    ((m.filter fun c => src ≤ c.1 && c.1 < src + n).map fun c => (c.1 - src + dst, c.2)) ++
    m.filter (fun c => dst + n ≤ c.1)

def State.memW (s : State) (a : Nat) : Word := memWord s.mem a

def State.setMemW (s : State) (a : Nat) (w : Word) : State := { s with mem := memSetWord s.mem a w }

/-! ## Free values and time -/

/-- A word the spec leaves open (log entry 5). -/
def State.takeWord (s : State) : Word × State := (Config.freeWord s.free, { s with free := s.free + 1 })

/-- A truth value the spec leaves open (log entry 5). -/
def State.takeBit (s : State) : Bool × State := (Config.freeBit s.free, { s with free := s.free + 1 })

/-- Device time moved on to a core cycle, never back. -/
def State.advance (s : State) (cyc : Nat) : State := { s with time := max s.time cyc }

/-- The core cycle in which a register write of the agent bus takes effect: the last of its peripheral cycle (R207). Device time does
not move while it does not count (R20). -/
def State.atWrite (s : State) : State := if s.running then s.advance (4 * s.perCycle + 3) else s

/-- A state that a write in `s` has left, with device time moved on to the end of the write's peripheral cycle. -/
def State.turned (s t : State) : State := if s.running && t.running then t.advance (4 * (s.perCycle + 1)) else t

/-- A register write on the agent bus (R207, R530): it takes effect in core cycle 4k + 3 of its peripheral cycle k and ends that cycle, so
no other write and no later happening falls in it (log entry 36). -/
def agentTurn (f : State → State) (s : State) : State := s.turned (f s.atWrite)

/-- Device time moved on to the core cycle of a tap. -/
def State.advanceTap (s : State) (t : Nat) : State := s.advance (t / 16)

/-- The present tap: tap 0 of the present core cycle. -/
def State.now (s : State) : Nat := s.time * 16

/-- A stamp as registers show it: device time bits [27:0] and the tap (R76, R275). -/
def stampWord (t : Nat) : Word := BitVec.ofNat 32 t

/-! ## The Hallmark's live record (R403, R408, R409, R411, R414) -/

/-- Places of the live image and the snapshot (R403). -/
def hlmLive : Nat := 0x103F0000
def hlmSnap : Nat := 0x103F4000
def hlmLen : Nat := 13632

/-- The sum of two counts, saturated at 2^32 − 1. -/
def satAdd32 (w : Word) (n : Nat) : Word := BitVec.ofNat 32 (min (w.toNat + n) (2 ^ 32 - 1))

/-- Counter `i` of the live record advanced (R408). -/
def hlmCount (i n : Nat) (s : State) : State :=
  s.setMemW (hlmLive + 0x440 + 4 * i) (satAdd32 (s.memW (hlmLive + 0x440 + 4 * i)) n)

/-- The first tally entry, from number `i` on, that holds a code, or that is free for it. -/
def tallyFind (m : List Host.Cell) (code : BitVec 16) : Nat → Nat → Option Nat
  | 0, _ => none
  | fuel + 1, i =>
    let w := memWord m (hlmLive + 0x540 + 16 * i)
    if w.extractLsb' 0 16 = code ∨ w = 0#32 then some i else tallyFind m code fuel (i + 1)

/-- The tally takes a code (R409); a code without an entry counts in counter 7. -/
def tallyIn (code : BitVec 16) (s : State) : State :=
  match tallyFind s.mem code 128 0 with
  | some i =>
    let a := hlmLive + 0x540 + 16 * i
    let w := s.memW a
    let ops := s.rd .HLM_OPSEC
    if w = 0#32 then
      (((s.setMemW a ((1#16 : BitVec 16) ++ code)).setMemW (a + 4) ops).setMemW (a + 8) (s.rd .HLM_PWRCYC)).setMemW (a + 12) ops
    else
      (s.setMemW a (BitVec.ofNat 16 (min ((w.extractLsb' 16 16).toNat + 1) 65535) ++ code)).setMemW (a + 12) ops
  | none => hlmCount 7 1 s

/-- The class of a fault code (R47): bits [11:8], but for the two codes that R239 gives class 0x0 (log entry 38). -/
def faultClass (code : Nat) : Nat := if code = 0x1190 ∨ code = 0x1191 then 0 else code / 256 % 16

/-- SYS_FAULT takes a code (R31, R32, R48): of the codes of one peripheral cycle FIRST takes the lowest, if it was free when
the cycle began, and LAST the highest. Codes of class 0 are recorded in the Hallmark only. -/
def sysFault (code : BitVec 16) (s : State) : State :=
  if faultClass code.toNat = 0 then s else
  let fresh : Bool := s.sys.faultCyc != some s.perCycle
  let free : Bool := if fresh then s.f Fld.SYS_FAULT_FIRST = 0 else s.sys.faultOpen
  let lo := if fresh then code.toNat else min s.sys.faultLo code.toNat
  let hi := if fresh then code.toNat else max s.sys.faultHi code.toNat
  let s := { s with sys := { s.sys with faultCyc := some s.perCycle, faultOpen := free, faultLo := lo, faultHi := hi } }
  let s := if free then s.setF Fld.SYS_FAULT_FIRST lo else s
  (s.setF Fld.SYS_FAULT_LAST hi).raise Fld.SYS_STATUS_FAULT_NEW

/-- SYS_FAULT_CLR (R32): the clear comes first in its cycle, and the codes of that cycle then set FIRST and LAST. -/
def clearFaults (s : State) : State :=
  let s := s.wr .SYS_FAULT 0#32
  if s.sys.faultCyc = some s.perCycle then
    let s := { s with sys := { s.sys with faultOpen := true } }
    (s.setF Fld.SYS_FAULT_FIRST s.sys.faultLo).setF Fld.SYS_FAULT_LAST s.sys.faultHi
  else { s with sys := { s.sys with faultCyc := none } }

/-! ## Flushes (R411, R412, R414) -/

/-- Core cycles of the hold between FAULT flushes: 100 ms (R411). -/
def faultHold : Nat := 60000000

/-- The counters of the causes of a starting flush advance (R408). -/
def flushCounters (c : BitVec 5) (s : State) : State :=
  (List.range 5).foldl (fun s i => if c.getLsbD i then hlmCount i 1 s else s) s

/-- The header of the live image as a flush or SNAP copies it (R403). -/
def hlmHeader (s : State) : State :=
  let s := s.setMemW hlmLive 0x484C0001#32
  let s := s.setMemW (hlmLive + 4) (s.rd .HLM_OPSEC)
  let s := s.setMemW (hlmLive + 8) (s.rd .HLM_PWRCYC)
  s.setMemW (hlmLive + 0x10) (BitVec.ofNat 32 s.time)

/-- A flush starts (R412 step 1): BUSY is set, the causes' counters advance and live is copied to the snapshot. -/
def startFlush (c : BitVec 5) (s : State) : State :=
  let s := s.raise Fld.HLM_STATUS_BUSY
  let s := flushCounters c s
  let s := s.setMemW (hlmLive + 0xC) (s.memW (hlmLive + 0xC) + 1#32)
  let s := hlmHeader s
  { s with
    mem := memCopy s.mem hlmLive hlmSnap hlmLen
    hlm := { s.hlm with phase := .copyFlush, causes := c, start := s.time, waiting := 0#5,
                        holdTill := if c.getLsbD 0 then some (s.time + faultHold) else s.hlm.holdTill } }

/-- Causes of R411 taken: none before the restore. While a flush runs POWER joins it and discards what waits; any other cause
waits for its end (R414). Otherwise a flush starts. A POWER cause discards a held FAULT request (R420). -/
def takeCause (c : BitVec 5) (s : State) : State :=
  if !s.flag Fld.HLM_STATUS_RESTORED then s else
  let power := c.getLsbD 1
  let s := if power then { s with hlm := { s.hlm with held := false } } else s
  if s.hlm.phase = .copyFlush ∨ s.hlm.phase = .writing then
    { s with hlm := { s.hlm with causes := s.hlm.causes ||| c, waiting := if power then 0#5 else s.hlm.waiting ||| c } }
  else startFlush c s

/-- A FAULT cause (R411): within 100 ms of the start of the last FAULT flush it is held. -/
def faultFlush (s : State) : State :=
  if !s.flag Fld.HLM_STATUS_RESTORED then s else
  match s.hlm.holdTill with
  | some t =>
    if s.time < t then
      (if t = s.time + faultHold then s else { s with hlm := { s.hlm with held := true } })
    else takeCause 1#5 s
  | none => takeCause 1#5 s

/-! ## Updates of the live record (R406, R407, R409, R414) -/

/-- The bytes of a number, least significant first. -/
def leBytes (n : Nat) : Nat → List Byte
  | 0 => []
  | k + 1 => BitVec.ofNat 8 n :: leBytes (n / 256) k

/-- The event of a fault of class 0x1 or above (R469). -/
def faultEvent (code : Nat) (s : State) : List Byte :=
  leBytes code 2 ++ [BitVec.ofNat 8 (faultClass code), 0#8] ++ leBytes (s.rd .HLM_OPSEC).toNat 4

/-- A FAULT flush for a code of at least FLUSH_CLASS (R411). -/
def codeFlush (code : Nat) (s : State) : State :=
  if s.f Fld.HLM_CFG_FLUSH_CLASS ≤ faultClass code then faultFlush s else s

/-- The event of a code that the Hallmark itself records joins Felyene's queue; one that finds it full is lost (R470). -/
def hlmEvent (code : Nat) (s : State) : State :=
  let dev := s.f Fld.SYS_STATE_DEV_STATE
  if dev = 0 then s
  else if s.mbx.evq.length < 64 then
    { s with mbx := { s.mbx with evq := s.mbx.evq ++ [{ code := 0x01F1, data := faultEvent code s, dev := dev, at_ := s.time }] } }
  else
    let s := s.wr .MBX_EVT_LOST (s.rd .MBX_EVT_LOST + 1#32)
    codeFlush 0x9002 (tallyIn 0x9002#16 { s with mbx := { s.mbx with lost := true } })

/-- The tally's update with what follows from a full tally: the first code not tallied sets TALLY_FULL and records 0xB105
(R409). -/
def tallyApply (code : BitVec 16) (s : State) : State :=
  let full := (tallyFind s.mem code 128 0).isNone
  let s := tallyIn code s
  if full && !s.flag Fld.HLM_STATUS_TALLY_FULL then
    hlmEvent 0xB105 (codeFlush 0xB105 (tallyIn 0xB105#16 (sysFault 0xB105#16 (s.raise Fld.HLM_STATUS_TALLY_FULL))))
  else s

/-- A histogram bin takes a sample (R406). -/
def histBin (lo : Int) (w : Nat) (x : Int) : Nat :=
  if x - lo < 0 then 0 else min (1 + ((x - lo) / (w : Int)).toNat) 63

/-- A histogram takes a sample (R406): the bin saturates, and the first saturation sets SAT and records 0xB003. -/
def histApply (h : Fin 32) (x : Int) (s : State) : State :=
  let b := histBin (s.rd (.HLM_H_LO h)).toInt (s.rd (.HLM_H_W h)).toNat x
  let a := hlmLive + 0x1540 + 0x100 * h.val + 4 * b
  if s.memW a = 0xFFFFFFFF#32 then
    if s.flag Fld.HLM_STATUS_SAT then s
    else codeFlush 0xB003 (tallyApply 0xB003#16 (s.raise Fld.HLM_STATUS_SAT))
  else s.setMemW a (s.memW a + 1#32)

/-- An extreme record takes a sample (R407). -/
def extApply (e : Fin 64) (x : Int) (s : State) : State :=
  let a := hlmLive + 0xD40 + 32 * e.val
  let ops := s.rd .HLM_OPSEC
  let pc := s.rd .HLM_PWRCYC
  let first := s.memW (a + 28) &&& 1#32 = 0#32
  let lo := first || decide (x < (s.memW a).toInt)
  let hi := first || decide ((s.memW (a + 12)).toInt < x)
  let s := if lo then ((s.setMemW a (wordOfInt x)).setMemW (a + 4) ops).setMemW (a + 8) pc else s
  let s := if hi then ((s.setMemW (a + 12) (wordOfInt x)).setMemW (a + 16) ops).setMemW (a + 20) pc else s
  (s.setMemW (a + 24) (satAdd32 (s.memW (a + 24)) 1)).setMemW (a + 28) 1#32

/-- An update applied to the live record. -/
def hlmApply (u : HlmUpd) (s : State) : State :=
  match u with
  | .hist h x => histApply h x s
  | .ext e x => extApply e x s
  | .tally c => tallyApply c s
  | .count i n => hlmCount i.val n s

/-- An update reaches the record (R414): while live is being copied it waits in a queue of 128 entries, and one that finds the
queue full is lost; before the restore a fault code waits for it (R495). -/
def hlmUpdate (u : HlmUpd) (s : State) : State :=
  if s.hlm.phase = .copyFlush ∨ s.hlm.phase = .copySnap then
    if s.hlm.queue.length < 128 then { s with hlm := { s.hlm with queue := s.hlm.queue ++ [u] } }
    else hlmEvent 0xB104 (codeFlush 0xB104 (sysFault 0xB104#16 ((hlmCount 6 1 s).raise Fld.HLM_STATUS_LOST)))
  else match u with
    | .tally c =>
      if s.flag Fld.HLM_STATUS_RESTORED then tallyApply c s
      else { s with hlm := { s.hlm with early := s.hlm.early ++ [c] } }
    | u => hlmApply u s

/-! ## Faults (R32, R48, R409, R411) -/

/-- A fault code in SYS_FAULT, the tally and, for a class of at least FLUSH_CLASS, a FAULT flush. -/
def recordQuiet (code : Nat) (s : State) : State :=
  let c : BitVec 16 := BitVec.ofNat 16 code
  let s := sysFault c s
  codeFlush code (hlmUpdate (.tally c) s)

/-! ## Felyene's events (R469, R470) -/

/-- An event joins Felyene's queue of 64; one that finds it full is lost, and 0x9002 is recorded. Felyene runs outside BOOT. -/
def pushEvent (code : Nat) (data : List Byte) (s : State) : State :=
  let dev := s.f Fld.SYS_STATE_DEV_STATE
  if dev = 0 then s
  else if s.mbx.evq.length < 64 then
    { s with mbx := { s.mbx with evq := s.mbx.evq ++ [{ code := code, data := data, dev := dev, at_ := s.time }] } }
  else
    let s := s.wr .MBX_EVT_LOST (s.rd .MBX_EVT_LOST + 1#32)
    recordQuiet 0x9002 { s with mbx := { s.mbx with lost := true } }

/-- A fault code recorded, without the reaction of its class: SYS_FAULT, the tally, a FAULT flush for a class of at least
FLUSH_CLASS, and a FAULT event for a class of at least 0x1. -/
def recordCore (code : Nat) (s : State) : State :=
  let s := recordQuiet code s
  if faultClass code = 0 then s
  else pushEvent 0x01F1 (faultEvent code s) s

end Sys2Proof.Machine
end

