-- ==== Sys2Proof/Machine/Cell.lean ====
section
/-! DEFINITION. The output cell of a pair (R201, R210 to R212) and the operations on gate groups that other blocks share:
reading the counter, stopping a group, floating its pairs. Times are taps. -/

namespace Sys2Proof.Machine

open Sys2Proof

/-- Taps from an output-cell edge to its pad edge, L_PAD (R200). -/
def lPad : Nat := 128

/-- The high side turned off. -/
def GCell.hiOff (c : GCell) (t : Nat) : GCell := if c.hi then { c with hi := false, padHi := t + lPad } else c

/-- The high side turned on. -/
def GCell.hiOn (c : GCell) (t : Nat) : GCell := if c.hi then c else { c with hi := true, padHi := t + lPad }

/-- The low side turned off; an on-interval of at least T_REF restarts the refresh timer (R210). -/
def GCell.loOff (c : GCell) (tref t : Nat) : GCell :=
  if c.lo then { c with lo := false, padLo := t + lPad, refT := if c.loT + 16 * tref ≤ t then t else c.refT } else c

/-- The low side turned on. -/
def GCell.loOn (c : GCell) (t : Nat) : GCell := if c.lo then c else { c with lo := true, loT := t, padLo := t + lPad }

/-- Both sides off with nothing pending. -/
def GCell.off (c : GCell) (tref t : Nat) : GCell := { (c.hiOff t).loOff tref t with pend := none }

/-- What a pair needs to know of its group and role: SWAP, the dead times and T_REF, and whether the low side is held off
(CHOP = 1, R281). -/
structure CellPar where
  swap : Bool
  dhl : Nat
  dlh : Nat
  tref : Nat
  noLow : Bool
  deriving DecidableEq, Repr

/-- The dead time before the physical low side, and before the physical high side, turns on (R210). -/
def CellPar.toLow (p : CellPar) : Nat := if p.swap then p.dlh else p.dhl
def CellPar.toHigh (p : CellPar) : Nat := if p.swap then p.dhl else p.dlh

/-- The dead-time cell follows a command level (R201). A command that falls ends a refresh, and the pair
follows R201 from then on (R212). -/
def GCell.command (c : GCell) (p : CellPar) (level : Bool) (t : Nat) : GCell :=
  if c.cmd = level then c else
  let c := { c with cmd := level }
  if level != p.swap then { c.loOff p.tref t with pend := some (.highOn, t + p.toHigh) }
  else { (c.hiOff t).loOff p.tref t with pend := if p.noLow then none else some (.lowOn, t + p.toLow) }

/-- A pair begins with both outputs off and turns on the side its command calls for (R201, R264). -/
def GCell.begin (c : GCell) (p : CellPar) (level : Bool) (t : Nat) : GCell :=
  let c := { c.off p.tref t with cmd := level }
  if level != p.swap then { c with pend := some (.highOn, t + p.toHigh) }
  else { c with pend := if p.noLow then none else some (.lowOn, t + p.toLow) }

/-- A trip cancels what the cell has pending and ends a refresh under way (R261). -/
def GCell.cancel (c : GCell) (tref t : Nat) : GCell :=
  match c.pend with
  | some (.refLowOff, _) => { c.loOff tref t with pend := none }
  | _ => { c with pend := none }

/-- Group records. -/
def State.grp (s : State) (g : Fin 16) : Group := s.pwm.g[g]

def State.modGrp (s : State) (g : Fin 16) (f : Group → Group) : State :=
  { s with pwm := { s.pwm with g := vmod s.pwm.g g f } }

def State.cell (s : State) (g : Fin 16) (c : Fin 9) : GCell := (s.grp g).cell[c]

def State.modCell (s : State) (g : Fin 16) (c : Fin 9) (f : GCell → GCell) : State :=
  s.modGrp g fun r => { r with cell := vmod r.cell c f }

def State.modCells (s : State) (g : Fin 16) (f : GCell → GCell) : State :=
  s.modGrp g fun r => { r with cell := r.cell.map f }

/-- An edge of an output cell of a group at a tap, for the blanks of R279 and R283: a cell changed from what it was in `old`. -/
def State.edgeAt (s : State) (g : Fin 16) (t : Nat) (old : State) : State :=
  if (List.finRange 9).any fun c => (s.cell g c).hi != (old.cell g c).hi || (s.cell g c).lo != (old.cell g c).lo then
    s.modGrp g fun r => { r with lastEdge := t }
  else s

/-- A pair acted on at a tap, its edge noted. -/
def State.actCell (s : State) (g : Fin 16) (c : Fin 9) (t : Nat) (f : GCell → GCell) : State := (s.modCell g c f).edgeAt g t s

/-- The number of channels of a group (R188). -/
def chans (g : Fin 16) : Nat := if g.val < 4 then 9 else if g.val < 6 then 4 else if g.val < 14 then 3 else 2

/-- The number of outputs of a group (R188). -/
def outs (g : Fin 16) : Nat := if g.val < 4 then 18 else if g.val < 6 then 8 else if g.val < 14 then 6 else 2

/-- The group's counter runs. -/
def State.gRun (s : State) (g : Fin 16) : Bool := s.flag (Fld.PWM_G_STATUS_RUN g)

/-- MODE of a group. -/
def State.gMode (s : State) (g : Fin 16) : Nat := s.f (Fld.PWM_G_CFG_MODE g)

/-- The origin of a group's counter in a core cycle: the core cycle of value 0, from the load of R235 on the loaded one. -/
def Group.orgAt (r : Group) (cyc : Int) : Int :=
  match r.sync with
  | some (c, o) => if (c : Int) ≤ cyc then o else r.org
  | none => r.org

/-- The present counter value (R192, R216): core cycles since value 0 while it runs, the value it stopped at otherwise. -/
def State.gCnt (s : State) (g : Fin 16) : Nat :=
  if s.gRun g then ((s.time : Int) - (s.grp g).orgAt s.time).toNat else s.f (Fld.PWM_G_CNT_CNT g)

/-- SWAP acts in the DC groups (R201). -/
def State.swap (s : State) (g : Fin 16) (c : Fin 9) : Bool :=
  if h : c.val < 4 then (g.val = 4 ∨ g.val = 5) && s.flag (Fld.PWM_G_SNS_SWAP g ⟨c.val, h⟩) else false

/-- The parameters of a pair. -/
def State.cellPar (s : State) (g : Fin 16) (c : Fin 9) : CellPar :=
  { swap := s.swap g c, dhl := s.f (Fld.PWM_G_DT_DT_HL g), dlh := s.f (Fld.PWM_G_DT_DT_LH g),
    tref := s.f (Fld.PWM_G_BOOT_T_REF g), noLow := false }

/-- Both outputs of every pair of a group off, with every command held off and nothing pending (R201, R209, R281). -/
def floatGroup (g : Fin 16) (t : Nat) (s : State) : State :=
  let tref := s.f (Fld.PWM_G_BOOT_T_REF g)
  (s.modCells g fun c => { c.off tref t with cmd := false, on := false, next := none }).edgeAt g t s

/-- The counter of a group stopped (R209); a pending arm stays. A group in HOLD leaves it (R264). -/
def stopGroup (g : Fin 16) (s : State) : State :=
  if s.gRun g then
    let s := (s.setF (Fld.PWM_G_CNT_CNT g) (s.gCnt g)).lower (Fld.PWM_G_STATUS_RUN g)
    let s := floatGroup g s.now s
    let s := { s with pwm := { s.pwm with vpEv := s.pwm.vpEv.filter fun e => e.g ≠ g } }
    let s := if h : g.val < 4 then s.lower (Fld.PWM_G_PAT_STATUS_PAT_ON ⟨g.val, h⟩) else s
    if s.flag (Fld.QNC_G_STATE_HOLD g) then (s.lower (Fld.QNC_G_STATE_HOLD g)).raise Fld.QNC_STATUS_RESUME else s
  else s

end Sys2Proof.Machine
end

