-- ==== Sys2Proof/Machine/Trip.lean ====
section
/-! DEFINITION. What reaches across blocks: device, axis and auxiliary states (R22 to R30), the Quench's latches and actions
(R249 to R264), the reactions of fault classes (R48), and the discharge sequencer's loss of a method (R311, R312). Each layer
uses those before it; the public operations stand at the end. -/

namespace Sys2Proof.Machine

open Sys2Proof

/-! ## State codes (R22) -/

abbrev devBoot : Nat := 0
abbrev devConfig : Nat := 1
abbrev devStandby : Nat := 2
abbrev devArmed : Nat := 3
abbrev devRun : Nat := 4
abbrev devSafe : Nat := 5
abbrev devFault : Nat := 6
abbrev devDebug : Nat := 7
abbrev axOff : Nat := 0
abbrev axRun : Nat := 3
abbrev axStopping : Nat := 4
abbrev axHold : Nat := 5
abbrev auxOff : Nat := 0
abbrev auxListen : Nat := 1
abbrev auxBrake : Nat := 2
abbrev auxAlign : Nat := 3
abbrev auxRamp : Nat := 4
abbrev auxRun : Nat := 5
abbrev auxCoast : Nat := 6
abbrev auxFault : Nat := 7
abbrev svInit : Nat := 0
abbrev svArmed : Nat := 1
abbrev svEnabled : Nat := 2
abbrev svReact : Nat := 3
abbrev svLatched : Nat := 4

/-- The device state. -/
def State.dev (s : State) : Nat := s.f Fld.SYS_STATE_DEV_STATE

/-- The state of an axis. -/
def State.axis (s : State) (n : Fin 4) : Nat := wGet (s.rd .SYS_AX_STATE) (4 * n.val) 3

/-- An AXIS event (R469): FIRST_SRC of the axis's group where a trip holds the axis. -/
def axisEvent (n : Fin 4) (old v : Nat) (s : State) : State :=
  let g : Fin 16 := ⟨n.val, by omega⟩
  let src := if v = axHold && s.flag (Fld.QNC_G_STATE_TRIPPED g) then s.f (Fld.QNC_G_STATE_FIRST_SRC g) else 0xFF
  if old = v then s else pushEvent 0x02F0 [BitVec.ofNat 8 n.val, BitVec.ofNat 8 old, BitVec.ofNat 8 v, BitVec.ofNat 8 src] s

/-- The axis of a brake, and the level of its feedback pin with whether the feedback is enabled (R334). -/
def sbcAxis (s : State) (k : Fin 2) : Fin 4 :=
  ⟨(if k.val = 0 then s.f Fld.ANV_SBC_AX0_SEL else s.f Fld.ANV_SBC_AX1_SEL) % 4, Nat.mod_lt _ (by decide)⟩

def sbcFb (s : State) (k : Fin 2) : Bool × Bool :=
  if k.val = 0 then (s.sys.sync.getLsbD (s.f Fld.ANV_SBC_FB_IO0), s.flag Fld.ANV_SBC_FB_EN0)
  else (s.sys.sync.getLsbD (s.f Fld.ANV_SBC_FB_IO1), s.flag Fld.ANV_SBC_FB_EN1)

/-- The brakes of a test are applied (R334): they stay so until a monitoring cycle releases them (R318), and a feedback that still reads
released begins to disagree. -/
def brakeDrop (p : Fin 2 → Bool) (s : State) : State :=
  (List.finRange 2).foldl (fun s k =>
    if s.anv.brk.getLsbD k.val && p k then
      { s with anv := { s.anv with
          brk := s.anv.brk &&& ~~~(1#2 <<< k.val)
          fbSince := vset s.anv.fbSince k (if (sbcFb s k).1 then some s.time else none) } }
    else s) s

/-- An axis put into a state by the hardware; the states before its peripheral cycle are kept (R28, R29). -/
def State.setAxis (s : State) (n : Fin 4) (v : Nat) : State :=
  let old := s.axis n
  let s := if s.sys.axCyc = some s.perCycle then s
           else { s with sys := { s.sys with axCyc := some s.perCycle, axOld := s.rd .SYS_AX_STATE } }
  let s := s.wr .SYS_AX_STATE (wPut (s.rd .SYS_AX_STATE) (4 * n.val) 3 v)
  axisEvent n old v (brakeDrop (fun k => sbcAxis s k = n && (v = axOff || axStopping < v)) s)

/-- The state of an auxiliary channel. -/
def State.auxSt (s : State) (n : Fin 8) : Nat := s.f (Fld.AUX_CH_STATUS_STATE n)

/-- The gate group of an axis, and of an auxiliary channel (R188). -/
def axGroup (n : Fin 4) : Fin 16 := ⟨n.val, by omega⟩
def auxGroup (n : Fin 8) : Fin 16 := ⟨6 + n.val, by omega⟩

/-- The Anvil state. -/
def State.sv (s : State) : Nat := s.f Fld.ANV_STATUS_SV_STATE

/-- The Anvil put into a state, as both its own register and SYS_STATE show it (R31, R351), with Felyene's event (R469). -/
def State.setSv (s : State) (v : Nat) : State :=
  let old := s.sv
  let s := (s.setF Fld.ANV_STATUS_SV_STATE v).setF Fld.SYS_STATE_SV_STATE v
  let s := brakeDrop (fun _ => v != svEnabled) s
  if old = v then s
  else pushEvent 0x09F0 ([old, v, s.f Fld.ANV_CAUSE_MON, s.f Fld.ANV_CAUSE_AXIS, s.f Fld.ANV_CAUSE_REACT, 0, 0, 0].map
    (BitVec.ofNat 8)) s

/-- The configuration is locked (R492). -/
def State.locked (s : State) : Bool := s.flag Fld.SYS_STATE_CFG_LOCKED

/-- An auxiliary channel enters a state (R22, R294): STATE, its mirror in SYS_AUX_STATE, STATE_CHG, and the core cycle of
entry. -/
def setAux (n : Fin 8) (v : Nat) (s : State) : State :=
  if s.auxSt n = v then s else
  let s := (s.setF (Fld.AUX_CH_STATUS_STATE n) v).raise (Fld.AUX_CH_STATUS_STATE_CHG n)
  let old := wGet (s.rd .SYS_AUX_STATE) (4 * n.val) 3
  let s := s.wr .SYS_AUX_STATE (wPut (s.rd .SYS_AUX_STATE) (4 * n.val) 3 v)
  let s := pushEvent 0x03F0 ([n.val, old, v, s.f (Fld.AUX_CH_STATUS_FAILS n)].map (BitVec.ofNat 8)) s
  { s with aux := vmod s.aux n fun a => { a with since := s.time } }

/-- An auxiliary channel enters FAULT: its pairs float and nothing of its run is left (R281). -/
def auxToFault (n : Fin 8) (t : Nat) (s : State) : State :=
  let s := setAux n auxFault s
  let s := { s with aux := vmod s.aux n fun a => { a with tk := none, sync := false, hold := false, staying := false } }
  floatGroup (auxGroup n) t s

/-- The cause that a STATE event names (R469), where the change itself does not say: 0 a request, 3 a fault, 4 a debug halt, 5 a
reset. -/
def stateCause (old new : Nat) : Nat :=
  if old = devBoot then 5 else if new = devSafe || new = devFault then 3 else if new = devDebug then 4 else 0

/-- A change under way has a cause of its own (R469). -/
def withCause (c : Nat) (f : State → State) (s : State) : State :=
  let t := f { s with mbx := { s.mbx with why := some c } }
  { t with mbx := { t.mbx with why := s.mbx.why } }

/-- A device state change (R23) as SYS_STATE and STATE_CHG show it, with Felyene's event (R469). -/
def setDev (d : Nat) (s : State) : State :=
  if s.dev = d then s
  else
    let old := s.dev
    let c := if old = devBoot || d = devFault then stateCause old d else s.mbx.why.getD (stateCause old d)
    let s := brakeDrop (fun _ => d != devRun && d != devDebug) s
    pushEvent 0x01F0 ([old, d, c, 0].map (BitVec.ofNat 8)) ((s.setF Fld.SYS_STATE_DEV_STATE d).raise Fld.SYS_STATUS_STATE_CHG)

/-! ## Quench sources and actions (R247 to R253) -/

/-- A source with a fixed route (R250). -/
def fixedSrc (k : Fin 128) : Bool := k.val = 112 || (114 ≤ k.val && k.val ≤ 117)

/-- A bit of the 128-bit source masks. -/
def srcBit (r : Fin 4 → Reg) (s : State) (k : Fin 128) : Bool := s.bitOf (r ⟨k.val / 32, by omega⟩) (k.val % 32)

def putSrc (r : Fin 4 → Reg) (k : Fin 128) (b : Bool) (s : State) : State :=
  s.putBit (r ⟨k.val / 32, by omega⟩) (k.val % 32) b

/-- The source is active now. -/
def State.raw (s : State) (k : Fin 128) : Bool := srcBit .QNC_RAW s k

/-- The source's latch is set. -/
def State.latch (s : State) (k : Fin 128) : Bool := srcBit .QNC_LATCH s k

/-- A source counts as active in the sense of R531. -/
def State.srcCounts (s : State) (k : Fin 128) : Bool := s.raw k && (fixedSrc k || s.flag (Fld.QNC_ROUTE_EN k))

/-- The action a source gives a group when latched (R250, R251). -/
def srcAction (s : State) (k : Fin 128) (g : Fin 16) : Nat :=
  if k.val = 112 then s.qnc.anvAct[g]
  else if k.val = 114 then (if g.val = 14 then 0 else if g.val < 4 then 4 else 1)
  else if k.val = 115 then 1
  else if k.val = 116 then (if s.qnc.integ.getLsbD g.val then (if g.val < 4 then 4 else 1) else 0)
  else if k.val = 117 then (if g.val < 4 then 4 else if g.val < 6 then 1 else 0)
  else if 118 ≤ k.val then 0
  else if (s.rd (.QNC_ROUTE k)).getLsbD g.val then
    let p : Fin 8 := ⟨s.f (Fld.QNC_ROUTE_PROF k) % 8, Nat.mod_lt _ (by decide)⟩
    wGet (s.rd (if g.val < 8 then .QNC_PROF_LO p else .QNC_PROF_HI p)) (4 * (g.val % 8)) 4
  else 0

/-- The actions, as a set of codes, that the latched sources give a group. -/
def givenActions (s : State) (g : Fin 16) : BitVec 16 :=
  (List.finRange 128).foldl (fun a k => if s.latch k then a ||| BitVec.ofNat 16 (2 ^ srcAction s k g) else a) 0#16

/-- ASC_LOW and ASC_HIGH given together (R253). -/
def ascConflict (a : BitVec 16) : Bool := a.getLsbD 2 && a.getLsbD 3

/-- The action that comes first in the order of R253; 0 with none. -/
def firstAction (a : BitVec 16) : Nat :=
  if a.getLsbD 1 || ascConflict a then 1 else if a.getLsbD 2 then 2 else if a.getLsbD 3 then 3
  else if a.getLsbD 4 then 4 else if a.getLsbD 5 then 5 else 0

/-- The selection applied to an axis (R260). -/
def State.selUsed (s : State) (n : Fin 4) : Nat := wGet (s.rd .QNC_SEL_USED) (2 * n.val) 2

/-- What an action does to a group's outputs (R252): 0 nothing, 1 every output off, 2, 3 and 5 a mask. -/
def actionKind (s : State) (g : Fin 16) (a : Nat) : Nat :=
  if a = 4 then
    (if h : g.val < 4 then (if s.selUsed ⟨g.val, h⟩ = 1 then 2 else if s.selUsed ⟨g.val, h⟩ = 2 then 3 else 1) else 1)
  else if a = 2 ∨ a = 3 ∨ a = 5 then (if g.val < 6 then a else 1)
  else a

/-- D_ASC of a group in taps: (code + 1) × 50 ns (R257). -/
def ascDelay (s : State) (g : Fin 16) : Nat :=
  (wGet (s.rd (.QNC_ASC_DLY ⟨g.val / 8, by omega⟩)) (4 * (g.val % 8)) 4 + 1) * 480

/-- The instant at which the mask of an action that starts at a tap is due, if it has one. -/
def maskDue (s : State) (g : Fin 16) (a t : Nat) : Option Nat :=
  if actionKind s g a = 0 ∨ actionKind s g a = 1 then none else some (t + ascDelay s g)

def State.modQnc (s : State) (f : QncSt → QncSt) : State := { s with qnc := f s.qnc }

/-- An auxiliary channel's answer to a trip or an STO cut of its group (R294). -/
def auxTripped (g : Fin 16) (t : Nat) (s : State) : State :=
  if h : 6 ≤ g.val ∧ g.val < 14 then
    let n : Fin 8 := ⟨g.val - 6, by omega⟩
    if auxBrake ≤ s.auxSt n ∧ s.auxSt n ≤ auxRun then (auxToFault n t s).raise (Fld.AUX_CH_STATUS_TRIPPED n) else s
  else s

/-- The record of a group's first trip (R258, R261): TRIPPED, FIRST_SRC, TRIP_T, STATUS.TRIP, 0x1201; what the cells had
pending is cancelled. -/
def tripRecord (g : Fin 16) (k : Fin 128) (t : Nat) (s : State) : State :=
  let s := s.raise (Fld.QNC_G_STATE_TRIPPED g)
  let s := (s.lower (Fld.QNC_G_STATE_HOLD g)).setF (Fld.QNC_G_STATE_FIRST_SRC g) k.val
  let s := (s.wr (.QNC_G_TRIP_T g) (stampWord t)).modQnc fun q => { q with tripAt := vset q.tripAt g t }
  let tref := s.f (Fld.PWM_G_BOOT_T_REF g)
  let s := s.modCells g fun c => c.cancel tref t
  auxTripped g t (recordCore 0x1201 (s.raise Fld.QNC_STATUS_TRIP))

/-- A group takes an action, through all outputs inactive (R253); its mask is due D_ASC later (R257). -/
def takeAction (g : Fin 16) (a t : Nat) (s : State) : State :=
  let s := (s.setF (Fld.QNC_G_STATE_ACTION g) a).lower (Fld.QNC_G_STATE_ASC_ON g)
  s.modQnc fun q => { q with eff := vset q.eff g a, due := vset q.due g (maskDue s g a t) }

/-- A group that no latch trips any more (R264): it enters HOLD after a clear under R259 or R329, and leaves HOLD at once when
its MODE is 0 or its counter is stopped. -/
def untrip (g : Fin 16) (hold : Bool) (s : State) : State :=
  let s := takeAction g 0 s.now (s.lower (Fld.QNC_G_STATE_TRIPPED g))
  if !hold then s
  else if s.gRun g && s.gMode g != 0 then
    (s.raise (Fld.QNC_G_STATE_HOLD g)).modQnc fun q => { q with holdCyc := vset q.holdCyc g s.time }
  else s.raise Fld.QNC_STATUS_RESUME

/-- A group after a change of the latches or of what they give it. -/
def refreshGroup (k : Fin 128) (t : Nat) (hold : Bool) (s : State) (g : Fin 16) : State :=
  let given := givenActions s g
  let a := firstAction given
  let old := s.qnc.eff[g]
  let s := if ascConflict given && !s.qnc.conf.getLsbD g.val then recordCore 0x1107 (s.raise Fld.QNC_STATUS_CONFLICT) else s
  let s := s.modQnc fun q => { q with conf := if ascConflict given then q.conf ||| (1#16 <<< g.val)
                                              else q.conf &&& ~~~(1#16 <<< g.val) }
  if a = old then s
  else if a = 0 then untrip g hold s
  else
    let s := takeAction g a t s
    if old = 0 then tripRecord g k t s else s

/-- Every group after a change of the latches. -/
def refreshGroups (k : Fin 128) (t : Nat) (hold : Bool) (s : State) : State :=
  (List.finRange 16).foldl (refreshGroup k t hold) s

/-- An axis whose groups a source trips enters SAFE_HOLD (R29). -/
def holdAxes (k : Fin 128) (s : State) : State :=
  (List.finRange 4).foldl (fun s n => if srcAction s k (axGroup n) ≠ 0 then s.setAxis n axHold else s) s

/-- Of the sources first for a group in one core cycle the lowest-numbered is FIRST_SRC, with its time (R258, R276). -/
def lowerFirst (k : Fin 128) (t : Nat) (s : State) : State :=
  (List.finRange 16).foldl (fun s g =>
    if srcAction s k g ≠ 0 && s.flag (Fld.QNC_G_STATE_TRIPPED g) && s.qnc.tripAt[g] / 16 = t / 16 &&
        k.val < s.f (Fld.QNC_G_STATE_FIRST_SRC g) then
      (s.setF (Fld.QNC_G_STATE_FIRST_SRC g) k.val).wr (.QNC_G_TRIP_T g) (stampWord t)
    else s) s

/-- A source becomes active (R249, R256, R258): its latch sets unless its row has EN = 0, the groups it trips take their
action, and their axes enter SAFE_HOLD. Sources 118 to 127 are never active (R247). -/
def sourceActive0 (k : Fin 128) (t : Nat) (s : State) : State :=
  if 118 ≤ k.val then s else
  let s := putSrc .QNC_RAW k true s
  if !(fixedSrc k || s.flag (Fld.QNC_ROUTE_EN k)) then s
  else if s.latch k && k.val != 112 && k.val != 116 then s
  else holdAxes k (lowerFirst k t (refreshGroups k t (k.val = 112) (putSrc .QNC_LATCH k true s)))

/-- A source becomes inactive; its latch stays (R249). It has been active in the present peripheral cycle (R259). -/
def sourceInactive (k : Fin 128) (s : State) : State :=
  if s.raw k then
    (putSrc .QNC_RAW k false s).modQnc fun q =>
      { q with was := (if q.wasCyc = s.perCycle then q.was else 0#128) ||| (1#128 <<< k.val), wasCyc := s.perCycle }
  else s

/-- A source is active, or has been, in the present peripheral cycle. -/
def State.rawInCycle (s : State) (k : Fin 128) : Bool := s.raw k || (s.qnc.wasCyc = s.perCycle && s.qnc.was.getLsbD k.val)

/-- A source becomes inactive and its latch clears with it: sources 112, 115 and 117 (R250). -/
def sourceDrop (k : Fin 128) (hold : Bool) (s : State) : State :=
  refreshGroups k s.now hold (putSrc .QNC_LATCH k false (sourceInactive k s))

/-- The groups for which CFG_INTEGRITY stands (R270): a delay-pair mismatch, an ASC pair mismatch, the selection fallback, a
route CRC mismatch. -/
def integNow (s : State) : BitVec 16 :=
  let pairs : BitVec 16 := (List.finRange 16).foldl (fun a g =>
    if (s.grp g).dtBad || (s.grp g).bootBad then a ||| (1#16 <<< g.val) else a) 0#16
  pairs ||| s.qnc.ascBad ||| (if s.flag Fld.QNC_STATUS_SEL_FALLBACK then 0xF#16 else 0#16) |||
    (if s.qnc.crcBad then 0xFFFF#16 else 0#16)

/-- Source 116 judged again after a change of its causes: raised for new groups, inactive once no cause stands (R270). -/
def integJudge (s : State) : State :=
  let now := integNow s
  if now = 0#16 then sourceInactive 116 s
  else if now &&& ~~~s.qnc.integ = 0#16 && s.raw 116 && s.latch 116 then s
  else
    let s := s.modQnc fun q => { q with integ := if s.latch 116 then q.integ ||| now else now }
    sourceActive0 116 s.now (s.raise Fld.QNC_STATUS_INTEG)

/-! ## SAFE and FAULT (R23, R25, R30, R48) -/

/-- A cause of FAULT, SAFE or DEBUG arises in the present peripheral cycle (R24). -/
def State.noteCause (s : State) : State := { s with sys := { s.sys with causeCyc := some s.perCycle } }

/-- A cause of SAFE (R23): CONFIG to RUN enter SAFE, source 117 becomes active (R30), a FAULT flush is requested (R411) and an
enabled Anvil falls back to SV_ARMED (R321); so it does where the device entered DEBUG in this peripheral cycle (R24); in DEBUG the state stays, DBG_SAFE is set and source 117 becomes active (R25). -/
def enterSafe0 (s : State) : State :=
  let s := s.noteCause
  if (devConfig ≤ s.dev ∧ s.dev ≤ devRun) ∨ (s.dev = devDebug ∧ s.sys.dbgCyc = some s.perCycle) then
    let s := setDev devSafe s
    let s := if s.sv = svEnabled then s.setSv svArmed else s
    faultFlush (sourceActive0 117 s.now s)
  else if s.dev = devDebug then sourceActive0 117 s.now (s.raise Fld.SYS_STATE_DBG_SAFE)
  else s

/-- A cause of FAULT (R23, R30, R294): from any other state the device enters FAULT, source 117 becomes active, every auxiliary
channel enters FAULT and a FAULT flush is requested. -/
def enterFault0 (s : State) : State :=
  let s := s.noteCause
  if s.dev = devFault then s else
  let s := sourceActive0 117 s.now (setDev devFault s)
  faultFlush ((List.finRange 8).foldl (fun s n => auxToFault n s.now s) s)

/-- A fault code recorded, with the reaction of classes 0x3 and 0x4 (R48). The reaction of class 0x2 is the recorder's, which
knows the axis or channel. -/
def recordFault0 (code : Nat) (s : State) : State :=
  let s := recordCore code s
  if faultClass code = 3 then enterSafe0 s else if faultClass code = 4 then enterFault0 s else s

/-! ## Discharge sequencer (R309 to R312, R314) -/

/-- DSG_STATE. -/
def State.dsg (s : State) : Nat := s.f Fld.PWM_DSC_DSG_STAT_DSG_STATE

/-- A DCLINK event (R469). -/
def dclEvent (s : State) : State :=
  pushEvent 0x04F0 ([s.f Fld.PWM_DSC_PCH_STAT_PCH_STATE, s.f Fld.PWM_DSC_DSG_STAT_DSG_STATE,
    wGet (s.rd .PWM_DSC_PCH_STAT) 0 5, wGet (s.rd .PWM_DSC_DSG_STAT) 0 4].map (BitVec.ofNat 8)) s

/-- DSG_STATE set. -/
def setDsg (v : Nat) (s : State) : State :=
  if s.dsg = v then s else dclEvent (s.setF Fld.PWM_DSC_DSG_STAT_DSG_STATE v)

/-- The discharge sequencer runs: OPENING, RESISTOR or WINDINGS (R190). -/
def State.dsgRun (s : State) : Bool := 1 ≤ s.dsg && s.dsg ≤ 3

/-- The link voltage in units of 0.1 V / 2^22, or none while it is unknown (R302: a result older than 10 ms). -/
def voltage (v : Option (Nat × Nat)) (vfs now : Nat) : Option Nat :=
  match v with
  | some (code, at_) => if now ≤ at_ + 6000000 then some (code * vfs) else none
  | none => none

def State.linkV (s : State) : Option Nat := voltage s.dcl.link (s.f Fld.PWM_DSC_VCH_V_FS) s.time

def State.busV (s : State) : Option Nat := voltage s.dcl.bus (s.f Fld.PWM_DSC_VCH_V_FS) s.time

def State.modDcl (s : State) (f : DclSt → DclSt) : State := { s with dcl := f s.dcl }

/-- The request word of R310 written; an address outside shared SRAM below the Crucible takes no word. -/
def dsgWord (w : Word) (s : State) : State :=
  let a := s.f Fld.PWM_DSC_DSG_SHM_ADDR * 4
  if 0x10000000 ≤ a ∧ a < 0x103F0000 then s.setMemW a w else s

/-- A method ends: the DSC outputs go off and 0 is written to DSG_SHM (R310). -/
def dsgEndMethod (s : State) : State := if 2 ≤ s.dsg ∧ s.dsg ≤ 3 then dsgWord 0#32 s else s

/-- The time since the start, in 10 ms, saturated (R313). -/
def dsgElapsed (s : State) : Nat := min ((s.time - s.dcl.dsgT0) / 6000000) 65535

/-- The run ends in a state. -/
def dsgEnd (st : Nat) (s : State) : State :=
  setDsg st ((dsgEndMethod s).setF Fld.PWM_DSC_DSG_STAT_ELAPSED (dsgElapsed s))

/-- The run fails (R312): FAILED, FAIL, 0x63C1. -/
def dsgFail (s : State) : State := recordFault0 0x63C1 (dsgEnd 5 (s.raise Fld.PWM_DSC_DSG_STAT_FAIL))

/-- A method's availability (R310): 0 RESISTOR, 1 WINDINGS. -/
def dsgAvail (m : Nat) (s : State) : Bool :=
  if m = 0 then s.f Fld.PWM_DSC_DSG_CFG_DSC_MASK != 0
  else s.flag Fld.PWM_DSC_DSG_CFG_WIND_EN && s.dev = devRun &&
    s.axis ⟨s.f Fld.PWM_DSC_DSG_CFG_WAX % 4, Nat.mod_lt _ (by decide)⟩ = axRun

/-- The target voltage in the units of `voltage`. -/
def State.dsgTarget (s : State) : Nat := s.f Fld.PWM_DSC_DSG_TGT_V_T * 2 ^ 22

/-- A method starts (R310, R311): e_0 is the voltage now less the target; WINDINGS writes its request word. -/
def dsgStart (m : Nat) (s : State) : State :=
  let s := s.modDcl fun d => { d with methT0 := s.time, ePrev := s.linkV.map fun v => (v : Int) - s.dsgTarget }
  let s := setDsg (2 + m) s
  if m = 1 then
    let s := s.modDcl fun d => { d with shm := d.shm + 1 }
    dsgWord (BitVec.ofNat 32 (1 + 16 * s.f Fld.PWM_DSC_DSG_CFG_WAX + 65536 * s.dcl.shm)) s
  else s

/-- A method fails (R311, R312): the first failure sets ESC, records 0x61C0 and starts the other method if it is available;
otherwise the run fails. -/
def dsgMethodFail (m : Nat) (s : State) : State :=
  if s.dcl.second then dsgFail s
  else
    let s := (dsgEndMethod s).raise Fld.PWM_DSC_DSG_STAT_ESC
    let s := recordFault0 0x61C0 (s.modDcl fun d => { d with second := true })
    if dsgAvail (1 - m) s then dsgStart (1 - m) s else dsgFail s

/-- What a change of device, axis or trip state does to a running discharge (R311, R314): WINDINGS fails once its axis has left
RUN or its group is tripped, and a change to CONFIG or STANDBY fails the run. -/
def dsgWatch (s : State) : State :=
  let n : Fin 4 := ⟨s.f Fld.PWM_DSC_DSG_CFG_WAX % 4, Nat.mod_lt _ (by decide)⟩
  if s.dsgRun && (s.dev = devConfig || s.dev = devStandby) then dsgFail s
  else if s.dsg = 3 && (s.axis n != axRun || s.flag (Fld.QNC_G_STATE_TRIPPED (axGroup n))) then dsgMethodFail 1 s
  else s

/-! ## The public operations -/

/-- A Quench source becomes active at a tap. -/
def sourceActive (k : Fin 128) (t : Nat) (s : State) : State := dsgWatch (sourceActive0 k t s)

/-- A cause of SAFE. -/
def enterSafe (s : State) : State := dsgWatch (enterSafe0 s)

/-- A cause of FAULT. -/
def enterFault (s : State) : State := dsgWatch (enterFault0 s)

/-- A fault code recorded with its class's reaction. -/
def recordFault (code : Nat) (s : State) : State := dsgWatch (recordFault0 code s)

/-- Source 116 judged. -/
def integChanged (s : State) : State := dsgWatch (integJudge s)

/-- The reaction of class 0x2 on a gate group (R48): its axis to SAFE_HOLD, its converter stopped, its auxiliary channel to
FAULT. -/
def groupReaction (s : State) (g : Fin 16) : State :=
  if h : g.val < 4 then s.setAxis ⟨g.val, h⟩ axHold
  else if g.val < 6 then stopGroup g s
  else if h : 6 ≤ g.val ∧ g.val < 14 then auxToFault ⟨g.val - 6, by omega⟩ s.now s
  else s

end Sys2Proof.Machine
end

