-- ==== Sys2Proof/Machine/Angle.lean ====
section
/-! DEFINITION. What a generator's record says of its angle and speed in a core cycle (R53, R56, R57, R62 to R65). Speeds are
exact ratios; a result in au is rounded down (log entry 20). -/

namespace Sys2Proof.Machine

open Sys2Proof

def State.gen (s : State) (n : Fin 8) : Gen := s.man.gen[n]

def State.modGen (s : State) (n : Fin 8) (f : Gen → Gen) : State :=
  { s with man := { s.man with gen := vmod s.man.gen n f } }

/-- SRC of a generator. -/
def State.gSrc (s : State) (n : Fin 8) : Nat := s.f (Fld.MAN_AG_CTL_SRC n)

/-- A counted source (R50): incremental, Hall or commutation. -/
def srcCounted (k : Nat) : Bool := k = 1 || k = 3 || k = 4

/-- A sampled source (R50): SSI, line position or mains. -/
def srcSampled (k : Nat) : Bool := k = 2 || k = 5 || k = 7

/-- A count as an unwrapped position: the count modulo CPR by the scale factor 2^48 / CPR (R53). -/
def countPos (cpr : Nat) (u : Int) : Int :=
  u / (cpr : Int) * 2 ^ 32 + (u % (cpr : Int)) * ((2 ^ 48 / cpr : Nat) : Int) / 2 ^ 16

/-- The span of one count in au (R52). -/
def countSpan (cpr : Nat) : Int := ((2 ^ 32 / cpr : Nat) : Int)

/-- d(t) of R57 at a core cycle, with whether its clamp limits it. Until the first measured speed it is 0. -/
def Gen.d (g : Gen) (counted : Bool) (span : Int) (cyc : Nat) : Int × Bool :=
  match g.held with
  | some d => (d, false)
  | none =>
    let d := g.wn * ((cyc : Int) * 16 - g.stamp) / (g.wd : Int)
    if counted then
      let c := if 0 ≤ g.dir then max 0 (min d (span - 1)) else min 0 (max d (-(span - 1)))
      (c, c != d)
    else (d, false)

/-- The ramp's unwrapped position at a core cycle (R65). -/
def Gen.rampPos (g : Gen) (cyc : Nat) : Int := (g.rampAcc + g.rampV * ((cyc : Int) - g.rampCyc)) / 2 ^ 16

/-- The unwrapped source position at a core cycle (R57, R62, R65). -/
def genPos (s : State) (n : Fin 8) (cyc : Nat) : Int :=
  let g := s.gen n
  if s.flag (Fld.MAN_AG_CTL_EN n) then
    if s.gSrc n = 6 then (if s.flag (Fld.MAN_AG_CTL_DIR_INV n) then -(g.rampPos cyc) else g.rampPos cyc)
    else if s.gSrc n = 0 ∨ 8 ≤ s.gSrc n then g.pos
    else g.pos + (g.d (srcCounted (s.gSrc n)) (countSpan (s.f (Fld.MAN_AG_CPR_CPR n))) cyc).1
  else g.pos

/-- Whether the clamp limits the extrapolation now (R57). -/
def genClamped (s : State) (n : Fin 8) : Bool :=
  s.flag (Fld.MAN_AG_CTL_EN n) && srcCounted (s.gSrc n) &&
    ((s.gen n).d true (countSpan (s.f (Fld.MAN_AG_CPR_CPR n))) s.time).2

/-- The source speed at a core cycle as a ratio in au per tap, bounded for counted sources (R56). -/
def genSpeed (s : State) (n : Fin 8) (cyc : Nat) : Int × Nat :=
  let g := s.gen n
  if !s.flag (Fld.MAN_AG_CTL_EN n) then (0, 1)
  else if s.gSrc n = 6 then ((if s.flag (Fld.MAN_AG_CTL_DIR_INV n) then -g.rampV else g.rampV), 2 ^ 20)
  else if s.gSrc n = 0 ∨ 8 ≤ s.gSrc n ∨ g.held.isSome then (0, 1)
  else
    let dt := cyc * 16 - g.stamp
    let cpr := s.f (Fld.MAN_AG_CPR_CPR n)
    if srcCounted (s.gSrc n) ∧ 0 < dt ∧ 2 ^ 32 * g.wd < g.wn.natAbs * dt * cpr then
      ((if 0 ≤ g.wn then 2 ^ 32 else -(2 ^ 32)), dt * cpr)
    else (g.wn, g.wd)

/-- The geared mechanical output, unwrapped, at a core cycle (R62, R63). -/
def genMech (s : State) (n : Fin 8) (cyc : Nat) : Int :=
  let g := s.gen n
  g.g0 + (genPos s n cyc - g.p0) * (g.num : Int) / (s.f (Fld.MAN_AG_GEAR_DEN_DEN n) : Int)

/-- The electrical angle, unwrapped, at a core cycle (R64). -/
def genElec (s : State) (n : Fin 8) (cyc : Nat) : Int :=
  (s.f (Fld.MAN_AG_PP_PP n) : Int) * genMech s n cyc + (s.f (Fld.MAN_AG_EOFS_EOFS n) : Int)

/-- The mechanical or electrical output of a core cycle, the cycle before the latest change being kept as it was. -/
def genOut (s : State) (n : Fin 8) (elec : Bool) (cyc : Nat) : Int :=
  let g := s.gen n
  if cyc < g.chg then (if elec then g.elecB else g.mechB)
  else if elec then genElec s n cyc else genMech s n cyc

/-- The electrical speed at a core cycle as a ratio in au per core cycle (R64). -/
def genElecSpeed (s : State) (n : Fin 8) (cyc : Nat) : Int × Nat :=
  let (a, b) := genSpeed s n cyc
  (a * 16 * (s.gen n).num * s.f (Fld.MAN_AG_PP_PP n), b * s.f (Fld.MAN_AG_GEAR_DEN_DEN n))

/-- MAN_AGn_SPEED: mechanical speed in au per core cycle with 16 fraction bits (R76). DESIGN CHOICE (log entry 37): beyond the range of
R73, ±32,768 au per core cycle, the value wraps into the 32 bits of the register. -/
def genSpeedReg (s : State) (n : Fin 8) (cyc : Nat) : Word :=
  let (a, b) := genSpeed s n cyc
  wordOfInt (a * 16 * 65536 * (s.gen n).num / ((b * s.f (Fld.MAN_AG_GEAR_DEN_DEN n) : Nat) : Int))

/-- MAN_AGn_TURNS (R62). DESIGN CHOICE (log entry 37): whole revolutions since enable are counted as passages of the geared output
through 0, up in forward travel and down in reverse. -/
def genTurns (s : State) (n : Fin 8) (cyc : Nat) : Word := wordOfInt (genMech s n cyc / 2 ^ 32 - (s.gen n).turns0)

/-- The outputs of the cycle before a change kept, with what kind of jump the change is (R60, R64). Of several changes in one cycle the
outputs before the first stay, and a jump among them stands. -/
def genKeep (s : State) (n : Fin 8) (cyc : Nat) (mech elec : Bool) (before : State) : State :=
  if (before.gen n).chg = cyc then
    s.modGen n fun g => { g with jumpM := g.jumpM || mech, jumpE := g.jumpE || elec }
  else
    s.modGen n fun g => { g with chg := cyc, mechB := genOut before n false (cyc - 1), elecB := genOut before n true (cyc - 1),
                                 wB := genElecSpeed before n (cyc - 1), jumpM := mech, jumpE := elec }

end Sys2Proof.Machine
end

