-- ==== Sys2Proof/Machine/Events.lean ====
section
/-! DEFINITION. Events passed between blocks: the mark, period and completion events of R72, R194 and R391 put before the blocks
that select them, and the Hallmark's samples (R404, R405). -/

namespace Sys2Proof.Machine

open Sys2Proof

def State.modPost (s : State) (f : PostSt → PostSt) : State := { s with post := f s.post }

/-- The numbers below `n` that a test holds of, each with a time. -/
def pick {α : Type} (n : Nat) (t : α) (p : Fin n → Bool) : List (Nat × α) :=
  (List.finRange n).filterMap fun i => if p i then some (i.val, t) else none

/-- The first entry of a number in a list of posted events, and the list without it. -/
def takeEv {α : Type} (k : Nat) : List (Nat × α) → Option α × List (Nat × α)
  | [] => (none, [])
  | (i, t) :: l =>
    if i = k then (some t, l)
    else
      let (r, l') := takeEv k l
      (r, (i, t) :: l')

/-- The channel whose window fields an SDM channel follows: a bank B channel of an enabled check pair follows bank A (R118). -/
def winOwner (s : State) (k : Fin 32) : Fin 32 :=
  if h : 16 ≤ k.val then
    (if s.flag (Fld.SDM_CHK_CTL_EN ⟨k.val - 16, by omega⟩) then ⟨k.val - 16, by omega⟩ else k)
  else k

/-- An SDM channel takes window events of a mode and a number (R115, R118). -/
def winSel (s : State) (mode num : Nat) (k : Fin 32) : Bool :=
  s.flag (Fld.SDM_CH_CTL_EN k) && s.f (Fld.SDM_CH_CTL_WIN (winOwner s k)) = mode &&
    s.f (Fld.SDM_CH_CTL_WIN_SEL (winOwner s k)) = num

/-- A task is released by events of a kind and a number (R144). -/
def relSel (s : State) (kind num : Nat) (d : Fin 512) : Bool :=
  s.flag (Fld.LOOP_D_CTL_EN d) && s.f (Fld.LOOP_D_CTL_REL d) = kind && s.f (Fld.LOOP_D_CTL_REL_SEL d) = num

/-- Releases of a kind posted (R144). -/
def postRel (kind num tr : Nat) (s : State) : State :=
  s.modPost fun p => { p with rel := p.rel ++ pick 512 tr (relSel s kind num) }

/-- Captures and SSI bursts of a trigger posted (R101): the time that they store, and the core cycle in which the trigger reaches them. -/
def postCap (code num t cyc : Nat) (s : State) : State :=
  s.modPost fun p =>
    { p with
      cap := p.cap ++ pick 8 (t, cyc) fun n =>
        s.f (Fld.FBK_QE_CAP_CTL_TRG n) = code && s.f (Fld.FBK_QE_CAP_CTL_TRG_SEL n) = num
      ssi := p.ssi ++ pick 4 (t, cyc) fun n => s.flag (Fld.FBK_SSI_CTL_EN n) && s.f (Fld.FBK_SSI_CTL_TRG n) = code &&
        s.f (Fld.FBK_SSI_CTL_TRG_SEL n) = num }

/-- Conversions started by a trigger posted: regular ones from the event's own cycle (R387), injected ones in the cycle in which it
reaches the block (R389). -/
def postConv (code num cyc at_ : Nat) (s : State) : State :=
  s.modPost fun p =>
    { p with
      conv := p.conv ++ ((List.finRange 4).filterMap fun c =>
        if s.flag (Fld.MCV_C_CTL_EN c) && s.f (Fld.MCV_C_CTL_TRG c) = code && s.f (Fld.MCV_C_CTL_TRG_SEL c) = num then
          some (c.val, cyc + s.f (Fld.MCV_C_DLY_DLY c)) else none)
      inj := p.inj ++ pick 4 at_ fun c => s.flag (Fld.MCV_C_CTL_EN c) && s.f (Fld.MCV_C_SEQ_CFG_INJ_TRG c) = code &&
        s.f (Fld.MCV_C_SEQ_CFG_INJ_SEL c) = num }

/-- A DMA request on its way (R40). -/
def postDma (req : Nat) (ch : Option (Fin 16)) (s : State) : State :=
  { s with dma := { s.dma with inbox := s.dma.inbox ++ [⟨req, ch, 4 * (s.perCycle + 1)⟩] } }

/-- An event that a source block accepts in the present core cycle, on its way to the generators that follow the channel (R50, R59). -/
def postGen (src ch : Nat) (e : GenEv) (s : State) : State :=
  (List.finRange 8).foldl (fun s n =>
    if s.flag (Fld.MAN_AG_CTL_EN n) && s.gSrc n = src && s.f (Fld.MAN_AG_CTL_SRC_CH n) = ch then
      s.modGen n fun g => { g with inbox := g.inbox ++ [(e, s.time)] }
    else s) s

/-! ## The Hallmark's samples -/

/-- The sample of a source (R405), or none where it is skipped. -/
def hlmSample (s : State) (src sel addr : Nat) : Option Int :=
  if src = 1 then
    let n : Fin 8 := ⟨sel % 8, Nat.mod_lt _ (by decide)⟩
    if s.flag (Fld.MAN_AG_CTL_EN n) then some ((genSpeedReg s n s.time).toInt.natAbs : Int) else none
  else if src = 2 then
    let w := s.rd (.SDM_CH_DATA ⟨sel % 32, Nat.mod_lt _ (by decide)⟩)
    if wGet w 24 4 = 0 then some (sext 24 w.toNat) else none
  else if src = 3 then
    let k : Fin 64 := ⟨sel % 64, Nat.mod_lt _ (by decide)⟩
    let w := s.rd (.MCV_CH_RES k)
    if w.getLsbD 23 || w.getLsbD 25 then none else some (wGet w 0 22 : Int)
  else if src = 4 then
    if h : sel < 24 then
      let p : Fin 24 := ⟨sel, h⟩
      let st := s.f (Fld.LOOP_P_STATE_STATE p)
      if st = 1 ∨ st = 2 then some (sext 24 (s.f (Fld.LOOP_P_SLACK_LAST p))) else none
    else none
  else if src = 5 then some (s.memW addr).toInt
  else none

/-- The histograms and extremes that a trigger reaches sample their sources (R404). -/
def hlmTrigger (trg num : Nat) (s : State) : State :=
  let s := (List.finRange 32).foldl (fun s h =>
    if s.flag (Fld.HLM_H_CTL_EN h) && s.f (Fld.HLM_H_CTL_TRG h) = trg && s.f (Fld.HLM_H_CTL_TRG_SEL h) = num &&
        (!s.flag (Fld.HLM_H_CTL_RUN_ONLY h) || s.dev = devRun) then
      match hlmSample s (s.f (Fld.HLM_H_CTL_SRC h)) (s.f (Fld.HLM_H_CTL_SEL h)) (s.f (Fld.HLM_H_ADDR_ADDR h) * 4) with
      | some x => hlmUpdate (.hist h x) s
      | none => s
    else s) s
  (List.finRange 64).foldl (fun s e =>
    if s.flag (Fld.HLM_X_CTL_EN e) && s.f (Fld.HLM_X_CTL_TRG e) = trg && s.f (Fld.HLM_X_CTL_TRG_SEL e) = num &&
        (!s.flag (Fld.HLM_X_CTL_RUN_ONLY e) || s.dev = devRun) then
      match hlmSample s (s.f (Fld.HLM_X_CTL_SRC e)) (s.f (Fld.HLM_X_CTL_SEL e)) (s.f (Fld.HLM_X_ADDR_ADDR e) * 4) with
      | some x => hlmUpdate (.ext e x) s
      | none => s
    else s) s

/-- A period event of a gate group in a core cycle (R194): sampling windows, releases, captures, conversions and the DMA
request of the group. -/
def periodEvent (g : Fin 16) (cyc : Nat) (s : State) : State :=
  let t := cyc * 16
  let s := s.modPost fun p => { p with win := p.win ++ pick 32 t (winSel s 2 g.val) }
  postDma (32 + g.val) none (postConv 2 g.val cyc (cyc + 1) (postCap 4 g.val t (cyc + 1) (postRel 3 g.val cyc s)))

end Sys2Proof.Machine
end

