-- ==== Sys2Proof/Machine/Pwm0.lean ====
section
/-! DEFINITION. The operations of the gate timers that commands share: carriers and levels (R193, R199, R281), commands of a
channel, the level function and compensated angles of patterns (R225 to R229), transfers (R203 to R206, R232, R233), and what a
period start does (R194, R264, R282). Times are taps. -/

namespace Sys2Proof.Machine

open Sys2Proof

/-! ## Levels -/

/-- The level of a symmetric command with on-time `cmp` in a period of `p` taps at a position of it (R193). -/
def symLevel (p cmp pos : Nat) : Bool :=
  if cmp = 0 then false else if p ≤ cmp then true
  else (p - cmp) / 2 ≤ pos && pos < (p - cmp) / 2 + cmp

/-- The active on-time of a channel in taps (R193, R216). -/
def State.cmpAct (s : State) (g : Fin 16) (c : Fin 9) : Nat := wGet (s.rd (.PWM_G_CMP_ACT g c)) 0 28

/-- The position in the carrier of a channel at a tap: the group's counter in taps, shifted for interleaved channels (R199). -/
def carrierPos (s : State) (g : Fin 16) (c : Fin 9) (t : Nat) : Nat :=
  let r := s.grp g
  let n := if g.val = 14 then 2 else 4
  let shift : Int := if s.flag (Fld.PWM_G_CFG_INTLV g) then ((c.val * (r.per / n) * 16 : Nat) : Int) else 0
  (((t : Int) - r.orgAt (t / 16 : Nat) * 16 - shift) % ((16 * r.per : Nat) : Int)).toNat

/-- The phases exchanged by CTL.DIR (R280): the phase of the table that a pair stands for. -/
def auxPhase (s : State) (n : Fin 8) (ph : Nat) : Nat :=
  if s.flag (Fld.AUX_CH_CTL_DIR n) then (if ph = 1 then 2 else if ph = 2 then 1 else ph) else ph

/-- The high, low and floating phase of a sector (R280). -/
def sectorPhases (sec : Nat) : Nat × Nat × Nat :=
  match sec with
  | 0 => (0, 1, 2)
  | 1 => (0, 2, 1)
  | 2 => (1, 2, 0)
  | 3 => (1, 0, 2)
  | 4 => (2, 0, 1)
  | _ => (2, 1, 0)

/-- A pair's role at a tap (R281): 0 float, 1 low, 2 high. While the low-side pulses of R291 run, every pair floats; so it does in BRAKE
while a peak event holds the low sides off (R282). -/
def auxRole (s : State) (n : Fin 8) (ph t : Nat) : Nat :=
  let a := s.aux[n]
  let st := s.auxSt n
  if st = auxBrake then (if a.listening || a.hold then 0 else 1)
  else if st = auxAlign ∨ st = auxRamp ∨ st = auxRun then
    if t < a.pulseEnd then 0
    else
      let (h, l, _) := sectorPhases (s.f (Fld.AUX_CH_STATUS_SECTOR n))
      let p := auxPhase s n ph
      if p = h then 2 else if p = l then 1 else 0
  else 0

/-- The channel of an AUX group. -/
def auxOf (g : Fin 16) : Option (Fin 8) := if h : 6 ≤ g.val ∧ g.val < 14 then some ⟨g.val - 6, by omega⟩ else none

/-- The on-time of the high role (R281). -/
def auxCmp (s : State) (n : Fin 8) (g : Fin 16) : Nat :=
  if s.auxSt n = auxRun then s.cmpAct g 0
  else s.f (Fld.AUX_CH_START_START_DUTY n) * 16 * s.f (Fld.PWM_G_PER_ACT_PER g) / 256

/-- The selection in force at a tap: the old one before the handover instant (R233). -/
def selAt (s : State) (g : Fin 16) (t : Nat) : Nat :=
  if h : g.val < 4 then
    (if t < (s.grp g).hov then (s.grp g).oldSel else s.f (Fld.PWM_G_PSEL_ACT_PSEL ⟨g.val, h⟩))
  else 0

/-- A channel that the carrier commands at a tap: MODE 1, MODE 4 with the carrier selected, or a high role of MODE 5; with
TOPO = 0 an AX group's channels from 3 on are held inactive (R189). -/
def carries (s : State) (g : Fin 16) (c : Fin 9) (t : Nat) : Bool :=
  c.val < chans g && (4 ≤ g.val || c.val < 3 || s.flag (Fld.PWM_G_CFG_TOPO g)) &&
    (if s.gMode g = 1 then true
     else if s.gMode g = 4 then selAt s g t = 0
     else if s.gMode g = 5 then
       (match auxOf g with
        | some n => auxRole s n c.val t = 2
        | none => false)
     else false)

/-- The command level of a channel that the carrier commands. -/
def chanLevel (s : State) (g : Fin 16) (c : Fin 9) (t : Nat) : Bool :=
  let p := 16 * (s.grp g).per
  match auxOf g with
  | some n => !s.aux[n].hold && symLevel p (auxCmp s n g) (carrierPos s g 0 t)
  | none => symLevel p (s.cmpAct g c) (carrierPos s g c t)

/-- The parameters of a pair with its role: CHOP = 1 holds the low side of a high role off (R281). -/
def cellParAt (s : State) (g : Fin 16) (c : Fin 9) (t : Nat) : CellPar :=
  { s.cellPar g c with
    noLow := match auxOf g with
      | some n => auxRole s n c.val t = 2 && s.flag (Fld.AUX_CH_CTL_CHOP n)
      | none => false }

/-- A channel's command takes a level (R201); a DSC channel drives its one output alone (R189), and the SBC outputs follow no
carrier (R190). -/
def setCmd (g : Fin 16) (c : Fin 9) (level : Bool) (t : Nat) (s : State) : State :=
  if (s.cell g c).cmd = level then s
  else if g.val = 15 then s
  else if g.val = 14 then
    s.actCell g c t fun x => { x with cmd := level, hi := level, padHi := t + lPad }
  else s.actCell g c t fun x => x.command (cellParAt s g c t) level t

/-- Every channel that the carrier commands takes its level at a tap (R208). -/
def reCommand (g : Fin 16) (t : Nat) (s : State) : State :=
  (List.finRange 9).foldl (fun s c => if carries s g c t then setCmd g c (chanLevel s g c t) t s else s) s

/-- A low-side pulse of R291 is under way or due. -/
def GCell.pulsing (x : GCell) : Bool :=
  match x.pend with
  | some (.pulseOn, _) => true
  | some (.pulseOff, _) => true
  | _ => false

/-- A pair of an AUX group takes a role with a level of its command (R281); a role ends a low-side pulse of R291. -/
def GCell.toRole (x : GCell) (p : CellPar) (role : Nat) (level : Bool) (t : Nat) : GCell :=
  if role = 0 then { x.off p.tref t with cmd := false }
  else if x.pulsing then (if x.lo && !level && !p.noLow then { x with pend := none, cmd := false } else x.begin p level t)
  else if !x.hi && !x.lo && x.pend.isNone then x.begin p level t
  else if x.cmd != level then x.command p level t
  else if p.noLow && !level then { x.loOff p.tref t with pend := none }
  else x

/-- The pairs of an auxiliary channel take the roles of its state and sector at a tap (R281). -/
def auxRoles (n : Fin 8) (t : Nat) (s : State) : State :=
  let g := auxGroup n
  if !s.gRun g then s
  else
    (List.finRange 3).foldl (fun s c =>
      let c : Fin 9 := ⟨c.val, by omega⟩
      let role := auxRole s n c.val t
      s.actCell g c t fun x => x.toRole (cellParAt s g c t) role (role = 2 && chanLevel s g c t) t) s

/-! ## Patterns (R220 to R230) -/

/-- Word 0 of a pattern's directory entry, and an angle entry (R221, R222). -/
def patW0 (s : State) (k : Nat) : Word := s.memW (0x40060000 + 16 * k)
def patAng (s : State) (j : Nat) : Word := s.memW (0x40060400 + 4 * j)

/-- The entries of a pattern: angle and level. -/
def patEntries (s : State) (k : Nat) : List (Nat × Nat) :=
  let w := patW0 s k
  (List.range (wGet w 16 7)).map fun i =>
    let a := patAng s (wGet w 0 15 + i)
    (wGet a 0 30, wGet a 30 2)

/-- The level after the first `k` entries. -/
def levelAfter (l0 : Nat) (es : List (Nat × Nat)) (k : Nat) : Nat := ((l0 :: es.map (·.2))[k]?).getD l0

/-- The negation of a level: N and P exchanged. -/
def negLevel (l : Nat) : Nat := 2 - l

/-- L(φ) of R225. -/
def patLevel (l0 : Nat) (es : List (Nat × Nat)) (phi : Nat) : Nat :=
  let half := phi / 2 ^ 31 % 2
  let q := phi / 2 ^ 30 % 2
  let r := phi % 2 ^ 30
  let k := if q = 0 then (es.filter fun e => e.1 ≤ r).length else (es.filter fun e => e.1 < 2 ^ 30 - r).length
  if half = 0 then levelAfter l0 es k else negLevel (levelAfter l0 es k)

/-- The boundaries of a pattern (R225). -/
def patBounds (l0 : Nat) (es : List (Nat × Nat)) : List Nat :=
  es.flatMap (fun e => [e.1, 2 ^ 31 - e.1, 2 ^ 31 + e.1, 2 ^ 32 - e.1]) ++
    (if l0 = 1 then [] else [0, 2 ^ 31])

/-- A word as an angle's signed difference. -/
def sAng (x : Int) : Int := (x + 2 ^ 31) % 2 ^ 32 - 2 ^ 31

/-- A continuous crossing of an angle between two cycle angles (R67): 1 forward, −1 reverse, 0 none. -/
def crossed (prev now a : Int) : Int :=
  let d := sAng (now - prev)
  if 0 < d ∧ 1 ≤ (a - prev) % 2 ^ 32 ∧ (a - prev) % 2 ^ 32 ≤ d then 1
  else if d < 0 ∧ (prev - a) % 2 ^ 32 ≤ -d - 1 then -1 else 0

/-- The quotient of two integers rounded to the nearest, halves upward. -/
def roundDiv (a b : Int) : Int := if 0 < b then (2 * a + b) / (2 * b) else (2 * -a + -b) / (2 * -b)

/-- The offset of a phase against phase U (R226). -/
def phaseOfs (s : State) (g : Fin 4) (ph : Nat) : Int :=
  let v := if s.flag (Fld.PWM_G_PAT_CTL_PSEQ g) then 0xAAAAAAAB else 0x55555555
  let w := if s.flag (Fld.PWM_G_PAT_CTL_PSEQ g) then 0x55555555 else 0xAAAAAAAB
  if ph = 0 then 0 else if ph = 1 then -v else -w

/-- PAT_ISIGN in a core cycle: before the cycle of its latest write, the word that the write replaced (R230, R237). -/
def isignAt (s : State) (g : Fin 4) (cyc : Nat) : Word :=
  if cyc < (s.grp (axGroup g)).isgCyc then (s.grp (axGroup g)).isgOld else s.rd (.PWM_G_PAT_ISIGN g)

/-- T_up and T_dn of a phase in a core cycle (R228). -/
def signTimes (s : State) (g : Fin 4) (ph cyc : Nat) : Nat × Nat :=
  let lh := s.f (Fld.PWM_G_DT_DT_LH (axGroup g))
  let hl := s.f (Fld.PWM_G_DT_DT_HL (axGroup g))
  match wGet (isignAt s g cyc) (2 * ph) 2 with
  | 0 => (0, 0)
  | 1 => (lh, 0)
  | 2 => (0, hl)
  | _ => (lh / 2, hl / 2)

/-- The compensated angle of a phase in a core cycle, advanced by a time in taps (R228). -/
def patPhi (s : State) (g : Fin 4) (ph cyc adv : Nat) : Int :=
  let n : Fin 8 := ⟨s.f (Fld.PWM_G_PAT_CTL_AG g) % 8, Nat.mod_lt _ (by decide)⟩
  let (a, b) := if cyc < (s.gen n).chg then (s.gen n).wB else genElecSpeed s n cyc
  (genOut s n true cyc + s.f (Fld.PWM_G_PAT_OFS_OFS_U g) + phaseOfs s g ph + roundDiv (a * adv) ((16 * b : Nat) : Int)) % 2 ^ 32

/-- Tc of R228 in taps. -/
def patTc (s : State) (g : Fin 4) : Nat := 192 + s.f (Fld.PWM_G_PAT_DLYC_DLYC g)

/-- The command level of a phase in a core cycle (R229). -/
def phaseLevel (s : State) (g : Fin 4) (ph cyc : Nat) : Nat :=
  let k := s.f (Fld.PWM_G_PSEL_ACT_PSEL g)
  let l0 := wGet (patW0 s k) 24 2
  let es := patEntries s k
  let (up, dn) := signTimes s g ph cyc
  let a := patLevel l0 es (patPhi s g ph cyc (patTc s g + up)).toNat
  let b := patLevel l0 es (patPhi s g ph cyc (patTc s g + dn)).toNat
  if dn ≤ up then max a b else min a b

/-- The commands of a phase's channels at a level (R227): which channels, and whether on. -/
def phaseCmds (s : State) (g : Fin 4) (ph lvl cyc : Nat) : List (Nat × Bool) :=
  if !s.flag (Fld.PWM_G_CFG_TOPO (axGroup g)) then [(ph, lvl = 2)]
  else
    let first := (patPhi s g ph cyc (patTc s g)).toNat < 2 ^ 31
    let m := if lvl = 2 then s.f (Fld.PWM_G_PAT_LVL_P g) else if lvl = 0 then s.f (Fld.PWM_G_PAT_LVL_N g)
      else if first then s.f (Fld.PWM_G_PAT_LVL_OP g) else s.f (Fld.PWM_G_PAT_LVL_ON g)
    [(3 * ph, m % 2 = 1), (3 * ph + 1, m / 2 % 2 = 1), (3 * ph + 2, m / 4 % 2 = 1)]

/-- A phase takes a level, its channels' commands changing at a tap. -/
def takeLevel (g : Fin 4) (ph lvl : Nat) (cmds : List (Nat × Bool)) (t : Nat) (s : State) : State :=
  let s := s.wr (.PWM_G_PAT_STATUS g) (wPut (s.rd (.PWM_G_PAT_STATUS g)) (20 + 2 * ph) 2 lvl)
  cmds.foldl (fun s c => if h : c.1 < 9 then setCmd (axGroup g) ⟨c.1, h⟩ c.2 t s else s) s

/-- A phase takes a level of a core cycle, its commands changing at a tap. -/
def setPhase (g : Fin 4) (ph lvl cyc t : Nat) (s : State) : State := takeLevel g ph lvl (phaseCmds s g ph lvl cyc) t s

/-- The core cycle whose angle a handover takes (R233). -/
def hovCyc (r : Group) : Nat := (r.hov - 64) / 16

/-- The levels of the phases in a core cycle, with the commands they give (R229, R233). -/
def hovLevels (s : State) (g : Fin 4) (cyc : Nat) : List (Nat × List (Nat × Bool)) :=
  (List.range 3).map fun ph => (phaseLevel s g ph cyc, phaseCmds s g ph (phaseLevel s g ph cyc) cyc)

/-- A handover to a pattern at an instant, from a selection (R233): it takes the levels of its cycle. -/
def handover (g : Fin 4) (th old : Nat) (s : State) : State :=
  let s := s.modGrp (axGroup g) fun r => { r with hov := th, oldSel := old, patPh := 0#3 }
  s.modGrp (axGroup g) fun r => { r with hovLv := hovLevels s g (hovCyc r) }

/-- A phase takes the level of a handover, at its instant (R233). -/
def patHandover (g : Fin 4) (ph : Nat) (s : State) : State :=
  let r := s.grp (axGroup g)
  if r.patPh.getLsbD ph then s
  else
    let s := s.modGrp (axGroup g) fun r => { r with patPh := r.patPh ||| (1#3 <<< ph) }
    match r.hovLv[ph]? with
    | some (lvl, cmds) => takeLevel g ph lvl cmds r.hov (s.raise (Fld.PWM_G_PAT_STATUS_PAT_ON g))
    | none => s

/-- JUMPED and its code (R231). -/
def patJumped (g : Fin 4) (s : State) : State := recordFault 0x1190 (s.raise (Fld.PWM_G_PAT_STATUS_JUMPED g))

/-- Every phase of the groups that run a pattern on a generator takes the level of the jump cycle at its tap 0 (R231). A handover of the
jump's own cycle takes the angle after the jump (R240); an earlier one comes before the jump's level. -/
def patternJump (n : Fin 8) (s : State) : State :=
  (List.finRange 4).foldl (fun s g =>
    if s.gRun (axGroup g) && s.gMode (axGroup g) = 4 && s.f (Fld.PWM_G_PAT_CTL_AG g) = n.val &&
        s.f (Fld.PWM_G_PSEL_ACT_PSEL g) != 0 then
      if hovCyc (s.grp (axGroup g)) = s.time then
        patJumped g (s.modGrp (axGroup g) fun r => { r with hovLv := hovLevels s g s.time })
      else
        patJumped g ((List.range 3).foldl (fun s ph =>
          let s := patHandover g ph s
          setPhase g ph (phaseLevel s g ph s.time) s.time (s.now + 64) s) s)
    else s) s

/-! ## Transfers (R203 to R208, R232, R233, R235) -/

/-- A pattern that a transfer may select (R232): carrier, or a valid pattern of the group's topology. -/
def patOk (s : State) (g : Fin 4) (k : Nat) : Bool :=
  k = 0 || ((patW0 s k).getLsbD 31 && (patW0 s k).getLsbD 28 == s.flag (Fld.PWM_G_CFG_TOPO (axGroup g)))

/-- The pattern selection's part of a transfer with its handover instant (R232, R233, R235). -/
def transferSel (g : Fin 4) (th : Nat) (s : State) : State :=
  let gg := axGroup g
  let k := s.f (Fld.PWM_G_PSEL_PSEL g)
  let old := s.f (Fld.PWM_G_PSEL_ACT_PSEL g)
  if s.gMode gg ≠ 4 then s.setF (Fld.PWM_G_PSEL_ACT_PSEL g) k
  else if !patOk s g k then recordFault 0x1192 (s.raise (Fld.PWM_G_PAT_STATUS_BADPAT g))
  else if k = old then s
  else
    let s := s.setF (Fld.PWM_G_PSEL_ACT_PSEL g) k
    let s := (s.wr (.PWM_G_PAT_HOV_T g) (stampWord th)).raise (Fld.PWM_G_PAT_STATUS_HOVER g)
    let n : Fin 8 := ⟨s.f (Fld.PWM_G_PAT_CTL_AG g) % 8, Nat.mod_lt _ (by decide)⟩
    if k = 0 then
      let s := s.modGrp gg fun r => { r with hov := th, oldSel := old, patPh := 0#3 }
      if s.flag (Fld.PWM_G_PAT_CTL_CSYNC g) then
        s.modGrp gg fun r => { r with sync := some (th / 16, ((th / 16 : Nat) : Int) - s.f (Fld.PWM_G_PHASE_PHASE gg)) }
      else s
    else if old = 0 then
      let s := handover g th old (s.lower (Fld.PWM_G_PAT_STATUS_PAT_ON g))
      if (s.gen n).jumpE && (s.gen n).chg = hovCyc (s.grp gg) then patJumped g s else s
    else handover g th old s

/-- Every shadow of a group copied to its active copy (R203), the arm taken (R204). -/
def transfer (g : Fin 16) (th : Nat) (s : State) : State :=
  let s := s.setF (Fld.PWM_G_PER_ACT_PER g) (s.f (Fld.PWM_G_PER_PER g))
  let s := (List.finRange 9).foldl (fun s c => s.wr (.PWM_G_CMP_ACT g c) (s.rd (.PWM_G_CMP g c))) s
  let s := (s.lower (Fld.PWM_G_CTL_LOADALL g)).putBit .PWM_LOADALL g.val false
  let s := (s.modGrp g fun r => { r with arm := none }).raise (Fld.PWM_G_STATUS_XFER g)
  if h : g.val < 4 then transferSel ⟨g.val, h⟩ th s else s

/-- The arm of a group meets a transfer event of a kind in a core cycle (R204, R205): an arm written in an earlier peripheral
cycle transfers; one of the same peripheral cycle is LATE. -/
def tryTransfer (g : Fin 16) (mark : Bool) (cyc th : Nat) (s : State) : State :=
  let s := s.modGrp g fun r => if mark then { r with lastMark := some (cyc / 4) } else { r with lastRld := some (cyc / 4) }
  match (s.grp g).arm with
  | some (x, k) =>
    if x = mark then
      if k / 4 < cyc / 4 then transfer g th s
      else recordFault 0x1181 (s.raise (Fld.PWM_G_STATUS_LATE g))
    else s
  | none => s

/-- An arm with an XSRC in the present core cycle; it is LATE where its transfer event has come in its peripheral cycle (R205). -/
def armSet (g : Fin 16) (x : Bool) (s : State) : State :=
  let s := s.modGrp g fun r => { r with arm := some (x, s.time) }
  if (if x then (s.grp g).lastMark else (s.grp g).lastRld) = some s.perCycle then
    recordFault 0x1181 (s.raise (Fld.PWM_G_STATUS_LATE g))
  else s

/-- The arm of a group written with the XSRC in force (R204, R205). -/
def armGroup (g : Fin 16) (s : State) : State :=
  if (s.grp g).arm.isSome then s
  else armSet g (s.flag (Fld.PWM_G_CTL_XSRC g)) ((s.raise (Fld.PWM_G_CTL_LOADALL g)).putBit .PWM_LOADALL g.val true)

/-! ## Period starts -/

/-- A group in HOLD resumes (R264, R265): HOLD clears, RESUME is set, and every pair starts with both outputs off. -/
def resumeGroup (g : Fin 16) (cyc : Nat) (s : State) : State :=
  if s.flag (Fld.QNC_G_STATE_HOLD g) && s.qnc.holdCyc[g] != cyc then
    let t := cyc * 16
    let s := (s.lower (Fld.QNC_G_STATE_HOLD g)).raise Fld.QNC_STATUS_RESUME
    (List.finRange 9).foldl (fun s c =>
      if c.val < chans g ∧ g.val < 14 then
        match auxOf g with
        | some n =>
          if auxRole s n c.val t = 0 then s.modCell g c fun x => x.off (cellParAt s g c t).tref t
          else s.modCell g c fun x => x.begin (cellParAt s g c t) x.cmd t
        | none => s.modCell g c fun x => x.begin (cellParAt s g c t) x.cmd t
      else s) s
  else s

/-- An output of a comparator is 1, or has been, in a core cycle. -/
def State.cmpIn (s : State) (w : Fin 64) (hi : Bool) (cyc : Nat) : Bool :=
  (if hi then s.flag (Fld.CMP_WC_STAT_HI w) else s.flag (Fld.CMP_WC_STAT_LO w)) ||
    (s.cmp.inCyc = cyc && (if hi then s.cmp.hiIn else s.cmp.loIn).getLsbD w.val)

/-- The comparator latches that a period start of a group in a core cycle clears (R244, R245): a latch whose output has been 1 in that
cycle stays set, and one whose output is still 1 sets again. -/
def clearLatches (g : Fin 16) (cyc : Nat) (s : State) : State :=
  (List.finRange 64).foldl (fun s w =>
    if s.flag (Fld.CMP_WC_CTL_PCLR w) && s.f (Fld.CMP_WC_CTL_CLRGRP w) = g.val && s.f (Fld.CMP_WC_CTL_MODE w) = 0 then
      (s.setF (Fld.CMP_WC_STAT_LAT_HI w) (bit (s.cmpIn w true cyc))).setF (Fld.CMP_WC_STAT_LAT_LO w) (bit (s.cmpIn w false cyc))
    else s) s

/-- A period start of an AUX group ends the hold of R282 unless the peak event is still active; active at two in a row, the
channel enters FAULT with PK_STUCK and 0x2264. -/
def auxPeriod (g : Fin 16) (cyc : Nat) (s : State) : State :=
  match auxOf g with
  | none => s
  | some n =>
    let a := s.aux[n]
    let active := a.peak && auxBrake ≤ s.auxSt n && s.auxSt n ≤ auxRun
    if active && a.peakAtStart then
      recordFault 0x2264 ((auxToFault n (cyc * 16) s).raise (Fld.AUX_CH_STATUS_PK_STUCK n))
    else
      let s := { s with aux := vmod s.aux n fun a => { a with hold := active, peakAtStart := active } }
      if a.hold && !active && s.auxSt n = auxBrake then
        (List.finRange 3).foldl (fun s c =>
          let c : Fin 9 := ⟨c.val, by omega⟩
          if auxRole s n c.val (cyc * 16) = 1 then
            s.modCell g c fun x => x.begin (cellParAt s g c (cyc * 16)) false (cyc * 16) else s) s
      else s

/-- What every period start of a group does after its reload: the clear of comparator latches (R244), the auxiliary channel's hold
(R282), the levels of the carrier's commands (R193), the end of HOLD (R264) and the period event (R194). -/
def periodBegin (g : Fin 16) (cyc : Nat) (event : Bool) (s : State) : State :=
  let s := auxPeriod g cyc (clearLatches g cyc s)
  let s := resumeGroup g cyc (reCommand g (cyc * 16) s)
  if event then periodEvent g cyc s else s

end Sys2Proof.Machine
end

