-- ==== Sys2Proof/Machine/Write.lean ====
section
/-! DEFINITION. How a register write acts on the fields of its register: access codes (R6, R9), reserved encodings (R10), and
the guards of rules that set WR_IGN (R529). The commands that write a register use these and add what the register's own rules
say. -/

namespace Sys2Proof.Machine

open Sys2Proof

/-- A field of an access code takes a written value now (R6). -/
def State.accepts (s : State) : Acc → Bool
  | .rw => true
  | .rwl => !s.locked
  | .rwc => s.dev = devConfig || s.dev = devSafe
  | _ => false

/-- A value that a register's table reserves by reference to another register (R10): PHASE at or beyond PER_ACT (R216) and PH
at or beyond PER (R167), R_F1 below the R_F0 that the register takes (R298). -/
def rsvNow (s : State) (r : Reg) (lo : Nat) (w : Word) (x : Nat) : Bool :=
  match r with
  | .AUX_CH_RAMP _ => lo = 8 && x < wGet w 0 8
  | .PWM_G_PHASE g => s.f (Fld.PWM_G_PER_ACT_PER g) ≤ x
  | .LOOP_D_CTL _ => lo = 2 && x = 7
  | .LOOP_TICK_PH k => (s.rd (.LOOP_TICK_PER k)).toNat ≤ x
  | _ => false

/-- A field takes the value that a write has for it (R6, R10). -/
def fieldTakes (s : State) (r : Reg) (v w : Word) (row : FieldRow) : Bool :=
  let x := wGet v row.lo row.width
  s.accepts row.acc && !(row.rsv.any fun p => p.1 ≤ x && x ≤ p.2) && !rsvNow s r row.lo w x

/-- Some field of a register takes the value that a write has for it: a write of which none does has no effect (R12). -/
def takesAny (s : State) (r : Reg) (v : Word) : Bool := r.rows.any (fieldTakes s r v (s.rd r))

/-- A word after one field of a write (R6, R7, R10). The fields that start an action are left to the register's own command. -/
def fieldWrite (s : State) (r : Reg) (v : Word) (w : Word) (row : FieldRow) : Word :=
  if row.acc = .w1c then w &&& ~~~(v &&& wMask row.lo row.width &&& ~~~ s.hotBits r)
  else if fieldTakes s r v w row then wPut w row.lo row.width (wGet v row.lo row.width)
  else w

/-- The word a register holds after a write of `v`, by its access codes alone (R6, R9, R10). -/
def writeMerged (s : State) (r : Reg) (v : Word) : Word := r.rows.foldl (fieldWrite s r v) (s.rd r)

/-- A register written by its access codes (R6). -/
def writePlain (r : Reg) (v : Word) (s : State) : State := s.wr r (writeMerged s r v)

/-- A field guarded under a condition (R529) keeps its value and reports whether the write would have changed it. -/
def guardField (old new : Word) (lo width : Nat) : Word × Bool :=
  (wPut new lo width (wGet old lo width), wGet new lo width != wGet old lo width)

/-- A register written with the fields of a mask guarded (R529): the word, and whether the write was ignored somewhere. -/
def guardMask (old new mask : Word) : Word × Bool := ((new &&& ~~~mask) ||| (old &&& mask), (old ^^^ new) &&& mask != 0#32)

/-- A write with guarded fields: a field counts as a whole, so a mask names whole fields (R529). -/
def writeGuarded (r : Reg) (v mask : Word) (ign : State → State) (s : State) : State :=
  let old := s.rd r
  let (w, lost) := guardMask old (writeMerged s r v) mask
  let s := s.wr r w
  if lost then ign s else s

/-- A write that its rule lets act under a condition on the value: where the condition fails it is ignored with WR_IGN, unless it would
change nothing (R529). -/
def writeWhere (ok : Bool) (r : Reg) (v : Word) (ign put : State → State) (s : State) : State :=
  if ok then put s else if writeMerged s r v = s.rd r then s else ign s

end Sys2Proof.Machine
end

