-- ==== Sys2Proof/Machine/Pwm.lean ====
section
/-! DEFINITION. The commands of the gate timers (07, 08): periods and their edges, variable periods, dead time and bootstrap
refresh, shadow registers, start and stop, delay pairs, and pulse patterns. -/

namespace Sys2Proof.Machine

open Sys2Proof

/-- The event bit of a group's STATUS that reports an ignored write (R216). -/
def pwmIgnored (g : Fin 16) (s : State) : State := s.raise (Fld.PWM_G_STATUS_WR_IGN g)

/-! ## Variable periods (R195 to R199) -/

/-- A group runs MODE 2 or 3. -/
def State.variable (s : State) (g : Fin 16) : Bool := s.gMode g = 2 || s.gMode g = 3

/-- When a channel allowed to start at a tap starts its period (R199): with INTLV, not before channel 0's latest start plus its
share of channel 0's last period. -/
def vpStartTime (s : State) (g : Fin 16) (c : Fin 4) (t : Nat) : Nat :=
  if c.val ≠ 0 && s.flag (Fld.PWM_G_CFG_INTLV g) && (s.grp g).vpDone then
    let n := if g.val = 14 then 2 else 4
    max t ((s.cell g 0).start + 16 * c.val * s.f (Fld.PWM_G_VP_LAST_T g 0) / n)
  else t

/-- A period of a channel starts with its command on (R195, R196), unless it is parked (R197). -/
def vpBegin (g : Fin 16) (c : Fin 4) (t : Nat) (s : State) : State :=
  let k : Fin 9 := ⟨c.val, by omega⟩
  if s.cmpAct g k = 0 then setCmd g k false t (s.modCell g k fun x => { x with on := false, next := none })
  else setCmd g k true t (s.modCell g k fun x => { x with on := true, start := t, edge := t, next := none })

/-- The on interval of a channel ends (R195, R196). -/
def vpFall (g : Fin 16) (c : Fin 4) (t : Nat) (s : State) : State :=
  let k : Fin 9 := ⟨c.val, by omega⟩
  setCmd g k false t (s.modCell g k fun x => { x with on := false, edge := t, next := none })

/-- What new compare values change at a transfer in MODE 2 and 3 (R197, R208): a parked channel starts, which for channel 0 is a period
start of the group (R194), one that becomes parked turns off, and an interval that has already reached its new length ends. -/
def vpRetime (g : Fin 16) (old : State) (t : Nat) (s : State) (c : Fin 4) : State :=
  let k : Fin 9 := ⟨c.val, by omega⟩
  let x := s.cell g k
  let n := s.cmpAct g k
  if chans g ≤ c.val then s
  else if n = 0 then vpBegin g c t s
  else if old.cmpAct g k = 0 then
    if c.val = 0 then
      periodBegin g (t / 16) true (vpBegin g c t (s.modGrp g fun r => { r with org := (t / 16 : Nat), lastRld := some (t / 64) }))
    else vpBegin g c t s
  else if s.gMode g = 2 && x.on && x.start + n ≤ t then vpFall g c t s
  else if s.gMode g = 3 && !x.on && x.next.isNone && x.edge + n ≤ t then
    s.modCell g k fun x => { x with next := some t }
  else s

/-- A transfer event of a kind within a period reaches a running group (R203, R208): its commands take the levels of the new values. -/
def transferEvent (g : Fin 16) (mark : Bool) (cyc th : Nat) (s : State) : State :=
  let s' := tryTransfer g mark cyc th s
  if (s'.grp g).arm = (s.grp g).arm then s'
  else if s'.variable g then (List.finRange 4).foldl (vpRetime g s (cyc * 16)) s' else reCommand g (cyc * 16) s'

/-- The common mark transfers the running groups armed with XSRC = 1 (R203); `tc` is its crossing time. -/
def markTransfer (m : Nat) (cyc tc : Nat) (s : State) : State :=
  if s.flag Fld.PWM_XMARK_EN && s.f Fld.PWM_XMARK_MARK = m then
    (List.finRange 16).foldl (fun s g => if s.gRun g then transferEvent g true cyc (tc + 64) s else s) s
  else s

/-- A scheduled period of a channel starts at a tap (R195, R196, R199): VP_LAST takes the length of the one that ends; for
channel 0 the start is the group's reload, period event and end of HOLD. -/
def vpStart (g : Fin 16) (c : Fin 4) (t : Nat) (s : State) : State :=
  let k : Fin 9 := ⟨c.val, by omega⟩
  let s := s.advanceTap t
  let s := s.setF (Fld.PWM_G_VP_LAST_T g c) (min ((t - (s.cell g k).start) / 16) (2 ^ 24 - 1))
  if c.val = 0 then
    let s := s.modGrp g fun r => { r with org := (t / 16 : Nat), vpDone := true }
    let s := vpBegin g c t (transferEvent g false (t / 16) (t / 16 * 16 + 64) s)
    periodBegin g (t / 16) true s
  else vpBegin g c t s

/-! ## Periods -/

/-- The core cycle in which the counter of a group is `k` next: before the load of R235, or as the load has it. A load with PHASE = 0
is itself a period start. -/
def counterDue (r : Group) (k : Nat) : Nat :=
  match r.sync with
  | some (c, o) => if r.org + k < c then (r.org + k).toNat else if o = c then (o + (k % r.per : Nat)).toNat else (o + k).toNat
  | none => (r.org + k).toNat

/-- The counter of a group starts a period in a core cycle: value 0 lies there, and a load of R235 up to it has been made. -/
def Group.wrapAt (r : Group) (cyc : Nat) : Group :=
  { r with org := cyc, sync := match r.sync with
      | some (c, o) => if c ≤ cyc then none else some (c, o)
      | none => none }

/-- PERIOD_START (R192, R194, R203, R235): the counter of a group wraps to 0 or is loaded with 0, or in MODE 2 and 3 a channel's
scheduled start is due. -/
def execPeriodStart (g : Fin 16) (c : Fin 9) (s : State) : Host.Outcome State Fault Refusal :=
  .next (
    if !s.gRun g then s
    else if s.variable g then
      if h : c.val < 4 then
        match (s.cell g c).next with
        | some t => vpStart g ⟨c.val, h⟩ (vpStartTime s g ⟨c.val, h⟩ t) s
        | none => s
      else s
    else
      let cyc := counterDue (s.grp g) (s.grp g).per
      let s := (s.advance cyc).modGrp g fun r => r.wrapAt cyc
      let s := tryTransfer g false cyc (cyc * 16 + 64) s
      let s := s.modGrp g fun r => { r with per := s.f (Fld.PWM_G_PER_ACT_PER g) }
      periodBegin g cyc (s.f (Fld.PWM_G_CFG_EVT g) != 1) s)

/-- PERIOD_CENTRE (R194, R203): the counter reaches floor(PER / 2). -/
def execPeriodCentre (g : Fin 16) (s : State) : Host.Outcome State Fault Refusal :=
  .next (
    if !s.gRun g || s.variable g then s
    else
      let cyc := counterDue (s.grp g) ((s.grp g).per / 2)
      let s := s.advance cyc
      let s := if s.flag (Fld.PWM_G_CFG_RLD_CTR g) then transferEvent g false cyc (cyc * 16 + 64) s else s
      let evt := s.f (Fld.PWM_G_CFG_EVT g)
      if evt = 1 || evt = 2 then periodEvent g cyc s else s)

/-- COMMAND_EDGE (R193, R233): the command of a channel takes the level that its carrier gives at a tap. -/
def execCommandEdge (g : Fin 16) (c : Fin 9) (t : Nat) (s : State) : Host.Outcome State Fault Refusal :=
  .next (
    let s := s.advanceTap t
    if s.gRun g && carries s g c t then setCmd g c (chanLevel s g c t) t s else s)

/-! ## Dead time and refresh (R201, R210 to R212) -/

/-- The refresh cell acts on a pair (R210). -/
def State.refreshes (s : State) (g : Fin 16) : Bool := g.val < 14 && s.flag (Fld.PWM_G_CFG_BOOT g)

/-- The tap at which a pair's timer reaches T_BOOT. -/
def bootDue (s : State) (g : Fin 16) (c : Fin 9) : Nat := (s.cell g c).refT + s.f (Fld.PWM_G_BOOT_T_BOOT g) * Config.tapsPerUs

/-- A refresh starts in the core cycle of a tap (R211 step 1). -/
def refreshStart (g : Fin 16) (c : Fin 9) (t0 : Nat) (s : State) : State :=
  let p := cellParAt s g c t0
  (s.actCell g c t0 fun x => { x.hiOff t0 with pend := some (.refLowOn, t0 + p.toLow) }).raise (Fld.PWM_G_STATUS_REFRESH g)

/-- The first comparator report for a channel, and the reports without it. -/
def takeVp (g : Fin 16) (c : Fin 4) (peak : Bool) : List VpEv → Option Nat × List VpEv
  | [] => (none, [])
  | e :: l =>
    if e.g = g && e.c = c && e.peak = peak then (some e.at_, l)
    else
      let (r, l') := takeVp g c peak l
      (r, e :: l')

/-- The tap at which a comparator change at a tap takes effect (R198). -/
def vpEffect (t : Nat) : Nat := (t / 16 + 3) * 16

/-- The instants at which the effect of reports of a channel that wait may end its interval, which began at `from_` (R195, R196,
R198). -/
def vpReports (s : State) (g : Fin 16) (c : Fin 4) (peak : Bool) (from_ : Nat) : List Nat :=
  (s.pwm.vpEv.filter fun e => e.g = g && e.c = c && e.peak = peak && from_ + 16 * s.f (Fld.PWM_G_VP_BLANK g) ≤ e.at_).map
    fun e => vpEffect e.at_

/-- The taps at which a channel's interval in MODE 2 or 3 may end (R195, R196). -/
def vpEnds (s : State) (g : Fin 16) (c : Fin 4) : List Nat :=
  let k : Fin 9 := ⟨c.val, by omega⟩
  let x := s.cell g k
  let tm := 16 * s.f (Fld.PWM_G_VPT_TMAX g)
  if x.on then
    if s.gMode g = 2 then
      (x.start + s.cmpAct g k) :: (if s.flag (Fld.PWM_G_SNS_PEN g c) then vpReports s g c true x.start else [])
    else (x.start + tm) :: vpReports s g c true x.start
  else
    match x.next with
    | some t => [vpStartTime s g c t]
    | none => [x.edge + (if s.gMode g = 2 then tm else s.cmpAct g k)]

/-- The command of a pair's physical high side, which is on, stays on through the core cycle of a tap (R212). Pattern edges are placed in
the cell four core cycles ahead (R230), so a pair whose pattern turns its high side off is no longer on there. -/
def driveStays (s : State) (g : Fin 16) (c : Fin 9) (t0 : Nat) : Bool :=
  if h : s.variable g ∧ c.val < 4 then !(vpEnds s g ⟨c.val, h.2⟩).any fun t => t / 16 = t0 / 16
  else (List.range 16).all fun i =>
    let t := t0 / 16 * 16 + i
    !carries s g c t || (chanLevel s g c t != s.swap g c)

/-- DEAD_TIME_EXPIRY (R201, R211): the side that waits turns on; a high side whose timer has reached T_BOOT is refreshed
first. -/
def execDeadTimeExpiry (g : Fin 16) (c : Fin 9) (s : State) : Host.Outcome State Fault Refusal :=
  .next (
    match (s.cell g c).pend with
    | some (.lowOn, due) =>
      let s := s.advanceTap due
      s.actCell g c due fun x => { x.loOn due with pend := none }
    | some (.highOn, due) =>
      let s := s.advanceTap due
      if s.refreshes g && bootDue s g c ≤ due && driveStays s g c due then refreshStart g c (due / 16 * 16) s
      else s.actCell g c due fun x => { x.hiOn due with pend := none }
    | _ => s)

/-- BOOTSTRAP_REFRESH (R211, R212): a refresh starts in the cycle in which the timer reaches T_BOOT with the high side on, or
takes its next step; so do the low-side pulses of an auxiliary channel (R291), with whose end the pairs take their roles. -/
def execBootstrapRefresh (g : Fin 16) (c : Fin 9) (s : State) : Host.Outcome State Fault Refusal :=
  .next (
    let p := cellParAt s g c s.now
    match (s.cell g c).pend with
    | some (.refLowOn, due) =>
      let s := s.advanceTap due
      s.actCell g c due fun x => { x.loOn due with pend := some (.refLowOff, due + 16 * p.tref) }
    | some (.refLowOff, due) =>
      let s := s.advanceTap due
      s.actCell g c due fun x => { x.loOff p.tref due with refT := due, pend := some (.refHighOn, due + p.toHigh) }
    | some (.refHighOn, due) =>
      let s := s.advanceTap due
      s.actCell g c due fun x => { x.hiOn due with pend := none }
    | some (.pulseOn, due) =>
      let s := s.advanceTap due
      s.actCell g c due fun x => { x.loOn due with pend := some (.pulseOff, due + 16 * p.tref) }
    | some (.pulseOff, due) =>
      let s := s.advanceTap due
      let s := s.actCell g c due fun x => { x.loOff p.tref due with pend := none }
      (match auxOf g with
      | some n => if s.aux[n].pulseEnd ≤ due then auxRoles n due s else s
      | none => s)
    | some _ => s
    | none =>
      let t0 := bootDue s g c / 16 * 16
      if s.gRun g && s.refreshes g && (s.cell g c).hi && driveStays s g c t0 then refreshStart g c t0 (s.advanceTap t0) else s)

/-! ## Intervals of the variable periods -/

/-- ON_TIME_END (R195): in MODE 2 the on interval ends CMP after its start, or now where that has passed (R208). -/
def execOnTimeEnd (g : Fin 16) (c : Fin 4) (s : State) : Host.Outcome State Fault Refusal :=
  .next (
    let x := s.cell g ⟨c.val, by omega⟩
    if s.gRun g && s.gMode g = 2 && x.on then
      let t := x.start + s.cmpAct g ⟨c.val, by omega⟩
      vpFall g c t (s.advanceTap t)
    else s)

/-- A channel may start its next period at a tap: it starts then, or waits for its place among the interleaved channels
(R199). -/
def vpDue (g : Fin 16) (c : Fin 4) (t : Nat) (s : State) : State :=
  let s := s.advanceTap t
  if vpStartTime s g c t ≤ t then vpStart g c t s
  else s.modCell g ⟨c.val, by omega⟩ fun x => { x with next := some t }

/-- OFF_TIME_END (R196): in MODE 3 the off interval ends CMP after its start and a period starts. -/
def execOffTimeEnd (g : Fin 16) (c : Fin 4) (s : State) : Host.Outcome State Fault Refusal :=
  .next (
    let x := s.cell g ⟨c.val, by omega⟩
    let n := s.cmpAct g ⟨c.val, by omega⟩
    if s.gRun g && s.gMode g = 3 && !x.on && x.next.isNone && n != 0 then vpDue g c (x.edge + n) s else s)

/-- ZERO_CURRENT_EVENT (R195, R198): after BLANK and not beyond TMAX, a zero-current report of an off interval sets the next
start ZDLY later. -/
def execZeroCurrentEvent (g : Fin 16) (c : Fin 4) (s : State) : Host.Outcome State Fault Refusal :=
  .next (
    let (e, l) := takeVp g c false s.pwm.vpEv
    let s := { s with pwm := { s.pwm with vpEv := l } }
    let k : Fin 9 := ⟨c.val, by omega⟩
    let x := s.cell g k
    match e with
    | none => s
    | some t =>
      if s.gRun g && s.gMode g = 2 && !x.on && x.next.isNone && s.cmpAct g k != 0 &&
          x.edge + 16 * s.f (Fld.PWM_G_VP_BLANK g) ≤ t && vpEffect t ≤ x.edge + 16 * s.f (Fld.PWM_G_VPT_TMAX g) then
        (s.advanceTap (vpEffect t)).modCell g k fun x =>
          { x with next := some (vpEffect t + 16 * s.f (Fld.PWM_G_VP_ZDLY g)) }
      else s)

/-- PEAK_EVENT (R195, R196, R198, R218): a peak report after BLANK ends the on interval, in MODE 2 with PEN before the core cycle of the
end of its TON, in MODE 3 not beyond TMAX. -/
def execPeakEvent (g : Fin 16) (c : Fin 4) (s : State) : Host.Outcome State Fault Refusal :=
  .next (
    let (e, l) := takeVp g c true s.pwm.vpEv
    let s := { s with pwm := { s.pwm with vpEv := l } }
    let k : Fin 9 := ⟨c.val, by omega⟩
    let x := s.cell g k
    match e with
    | none => s
    | some t =>
      let te := vpEffect t
      if s.gRun g && x.on && x.start + 16 * s.f (Fld.PWM_G_VP_BLANK g) ≤ t then
        if s.gMode g = 2 && s.flag (Fld.PWM_G_SNS_PEN g c) && te / 16 < (x.start + s.cmpAct g k) / 16 then
          (vpFall g c te (s.advanceTap te)).raise (Fld.PWM_G_STATUS_PEAK g)
        else if s.gMode g = 3 && te ≤ x.start + 16 * s.f (Fld.PWM_G_VPT_TMAX g) then vpFall g c te (s.advanceTap te)
        else s
      else s)

/-- TMAX_TIMEOUT (R195, R196): an off interval of MODE 2 ends with ZTMO and the next start, an on interval of MODE 3 with
PTMO. A report that waits and takes effect no later ends the interval instead (R218). -/
def execTmaxTimeout (g : Fin 16) (c : Fin 4) (s : State) : Host.Outcome State Fault Refusal :=
  .next (
    let k : Fin 9 := ⟨c.val, by omega⟩
    let x := s.cell g k
    let tm := 16 * s.f (Fld.PWM_G_VPT_TMAX g)
    if s.gRun g && s.gMode g = 2 && !x.on && x.next.isNone && s.cmpAct g k != 0 then
      if (vpReports s g c false x.edge).any fun t => t ≤ x.edge + tm then s
      else recordFault 0x1182 ((vpDue g c (x.edge + tm) s).raise (Fld.PWM_G_STATUS_ZTMO g))
    else if s.gRun g && s.gMode g = 3 && x.on then
      if (vpReports s g c true x.start).any fun t => t ≤ x.start + tm then s
      else recordFault 0x1183 ((vpFall g c (x.start + tm) (s.advanceTap (x.start + tm))).raise (Fld.PWM_G_STATUS_PTMO g))
    else s)

/-! ## Shadow registers (R203 to R207) -/

/-- A write that arms a group (R204): a CTL write brings its XSRC with it (R218). -/
def loadallWrite (g : Fin 16) (ctl : Option Bool) (s : State) : State :=
  armGroup g (match ctl with
    | some x => s.setF (Fld.PWM_G_CTL_XSRC g) (bit x)
    | none => s)

/-- LOADALL_ARM (R204, R207). -/
def execLoadallArm (g : Fin 16) (ctl : Option Bool) (s : State) : Host.Outcome State Fault Refusal :=
  .next (agentTurn (loadallWrite g ctl) s)

/-- The register of a shadow of a group, where the group has it. -/
def shadowReg (g : Fin 16) : ShadowReg → Option Reg
  | .per => some (.PWM_G_PER g)
  | .cmp c => some (.PWM_G_CMP g c)
  | .psel => if h : g.val < 4 then some (.PWM_G_PSEL ⟨g.val, h⟩) else none

/-- A shadow register written (R206): ignored with TORN_WR and 0x1180 while the group's arm is pending. -/
def writeShadow (g : Fin 16) (r : ShadowReg) (v : Word) (s : State) : State :=
  match shadowReg g r with
  | none => s
  | some reg =>
    if (s.grp g).arm.isSome then recordFault 0x1180 (s.raise (Fld.PWM_G_STATUS_TORN_WR g)) else writePlain reg v s

/-- SHADOW_WRITE (R206, R207). -/
def execShadowWrite (g : Fin 16) (r : ShadowReg) (value : Word) (s : State) : Host.Outcome State Fault Refusal :=
  .next (agentTurn (writeShadow g r value) s)

/-! ## Start and stop (R209) -/

/-- The ASC delay pair that covers a group (R270). -/
def ascPairOf (g : Fin 16) : Nat := g.val / 8

/-- A delay pair that covers a group is open (R202, R270). -/
def State.pairOpen (s : State) (g : Fin 16) : Bool :=
  (s.grp g).dtOpen || (s.grp g).bootOpen || (g.val < 15 && s.qnc.ascOpen.getLsbD (ascPairOf g))

/-- The pairs of a group begin at its START (R201): both outputs off, then the side that the command calls for. -/
def beginCells (g : Fin 16) (t : Nat) (s : State) : State :=
  (List.finRange 9).foldl (fun s c =>
    if chans g ≤ c.val || (g.val < 4 && 3 ≤ c.val && !s.flag (Fld.PWM_G_CFG_TOPO g)) then s
    else if s.variable g then
      (if h : c.val < 4 then
        let s := vpBegin g ⟨c.val, h⟩ t s
        if g.val < 14 then s.modCell g c fun x => x.begin (cellParAt s g c t) x.cmd t else s
      else s)
    else if g.val = 14 then setCmd g c (chanLevel s g c t) t s
    else
      match auxOf g with
      | some n => if auxRole s n c.val t = 0 then s
                  else s.modCell g c fun x => x.begin (cellParAt s g c t) (carries s g c t && chanLevel s g c t) t
      | none => s.modCell g c fun x => x.begin (cellParAt s g c t) (carries s g c t && chanLevel s g c t) t) s

/-- A group starts at PHASE in the present core cycle, a pending arm of either kind transferring (R203, R209); or the START is
refused with WR_IGN. -/
def startGroup (g : Fin 16) (s : State) : State :=
  if s.gMode g = 0 || s.pairOpen g || s.gRun g || (s.grp g).errCyc = some s.perCycle then pwmIgnored g s
  else
    let t := s.now
    let phase := s.f (Fld.PWM_G_PHASE_PHASE g)
    let s := s.raise (Fld.PWM_G_STATUS_RUN g)
    let s := s.modGrp g fun r =>
      { r with org := (s.time : Int) - phase, lastRld := some s.perCycle, lastMark := none, vpDone := false, patPh := 0#3, sync := none,
               cell := r.cell.map fun x => { x with refT := t, on := false, next := none } }
    let s := if (s.grp g).arm.isSome then transfer g (t + 64) s else s
    let s := s.modGrp g fun r => { r with per := s.f (Fld.PWM_G_PER_ACT_PER g) }
    let s := if h : g.val < 4 then
        if s.gMode g = 4 then
          let k := s.f (Fld.PWM_G_PSEL_ACT_PSEL ⟨g.val, h⟩)
          if k != 0 && (s.grp g).hov != t + 64 then handover ⟨g.val, h⟩ (t + 64) k s else s
        else s
      else s
    let s := beginCells g t s
    let evt := s.f (Fld.PWM_G_CFG_EVT g)
    if s.variable g then (if s.cmpAct g 0 != 0 then periodBegin g s.time true s else s)
    else
      let s := if phase = 0 then periodBegin g s.time (evt != 1) s else s
      if phase = (s.grp g).per / 2 && evt != 0 then periodEvent g s.time s else s

/-- A write to PWM_START, and to PWM_STOP (R209). -/
def startGroups (mask : BitVec 16) (s : State) : State :=
  (List.finRange 16).foldl (fun s g => if mask.getLsbD g.val then startGroup g s else s) s

def stopGroups (mask : BitVec 16) (s : State) : State :=
  (List.finRange 16).foldl (fun s g => if mask.getLsbD g.val then stopGroup g s else s) s

/-- GROUP_START (R209). -/
def execGroupStart (mask : BitVec 16) (s : State) : Host.Outcome State Fault Refusal := .next (agentTurn (startGroups mask) s)

/-- GROUP_STOP (R209). -/
def execGroupStop (mask : BitVec 16) (s : State) : Host.Outcome State Fault Refusal := .next (agentTurn (stopGroups mask) s)

/-! ## Delay pairs (R202, R217, R270) -/

/-- STATUS.OPEN of every group as the pairs stand (R202, R270). -/
def showOpen (s : State) : State :=
  (List.finRange 16).foldl (fun s g => s.setF (Fld.PWM_G_STATUS_OPEN g) (bit (s.pairOpen g))) s

/-- The delay register of a pair and its complement. -/
def delayReg : DelayReg → Reg
  | .dt g => .PWM_G_DT g
  | .boot g => .PWM_G_BOOT g
  | .asc k => .QNC_ASC_DLY k

def delayComp : DelayReg → Reg
  | .dt g => .PWM_G_DT_C g
  | .boot g => .PWM_G_BOOT_C g
  | .asc k => .QNC_ASC_DLY_C k

/-- The group of a pair of R202. -/
def delayGroup : DelayReg → Option (Fin 16)
  | .dt g => some g
  | .boot g => some g
  | .asc _ => none

/-- A pair's registers accept writes: the access codes of R216 and R275 and the guard of R217. -/
def delayAccepts (s : State) (r : DelayReg) : Bool :=
  match delayGroup r with
  | some g => s.accepts .rwc && !s.gRun g
  | none => s.accepts .rwl

/-- A register of a pair written with the guard of R217. -/
def delayStore (r : DelayReg) (reg : Reg) (v : Word) (s : State) : State :=
  match delayGroup r with
  | some g => if s.gRun g then writeGuarded reg v (BitVec.allOnes 32) (pwmIgnored g) s else writePlain reg v s
  | none => writePlain reg v s

/-- A pair marked open or closed. -/
def setOpen (r : DelayReg) (b : Bool) (s : State) : State :=
  showOpen (match r with
    | .dt g => s.modGrp g fun x => { x with dtOpen := b }
    | .boot g => s.modGrp g fun x => { x with bootOpen := b }
    | .asc k => s.modQnc fun q => { q with ascOpen := if b then q.ascOpen ||| (1#2 <<< k.val)
                                                     else q.ascOpen &&& ~~~(1#2 <<< k.val) })

/-- A delay register written with its pair opened (R202, R270); a write of which no field takes effect opens nothing (R12). -/
def delayWrite (r : DelayReg) (value : Word) (s : State) : State :=
  let ok := delayAccepts s r && takesAny s (delayReg r) value
  let s := delayStore r (delayReg r) value s
  if ok then setOpen r true s else s

/-- DELAY_REGISTER_WRITE (R202, R270). -/
def execDelayRegisterWrite (r : DelayReg) (value : Word) (s : State) : Host.Outcome State Fault Refusal :=
  .next (agentTurn (delayWrite r value) s)

/-- The fields of a pair that differ from the inverse of their complement, as the groups they stand for (R202, R270). -/
def pairBad (s : State) (r : DelayReg) : BitVec 16 :=
  let d := s.rd (delayReg r) ^^^ ~~~(s.rd (delayComp r))
  match r with
  | .dt g => if d = 0#32 then 0#16 else 1#16 <<< g.val
  | .boot g => if d &&& 0xFFFF0FFF#32 = 0#32 then 0#16 else 1#16 <<< g.val
  | .asc k => (List.range 8).foldl (fun a i => if wGet d (4 * i) 4 = 0 then a else a ||| (1#16 <<< (8 * k.val + i))) 0#16

/-- A closed pair compared (R202, R270): the cause of its groups stands or ends, and a bad group takes DT_ERR, the code and the reaction
of its class. The comparison of later peripheral cycles sets DT_ERR again while the pair stays closed and bad (State.standing). -/
def pairCompare (r : DelayReg) (s : State) : State :=
  let bad := pairBad s r
  let s := match r with
    | .dt g => s.modGrp g fun x => { x with dtBad := bad != 0#16 }
    | .boot g => s.modGrp g fun x => { x with bootBad := bad != 0#16 }
    | .asc k => s.modQnc fun q => { q with ascBad := (q.ascBad &&& ~~~(0xFF#16 <<< (8 * k.val))) ||| bad }
  let s := (List.finRange 16).foldl (fun s g =>
    if bad.getLsbD g.val then
      (s.raise (Fld.PWM_G_STATUS_DT_ERR g)).modGrp g fun x => { x with errCyc := some s.perCycle }
    else s) s
  let s := if bad != 0#16 then recordFault (match r with | .asc _ => 0x1206 | _ => 0x1284) s else s
  let s := integChanged s
  (List.finRange 16).foldl (fun s g => if bad.getLsbD g.val then dsgWatch (groupReaction s g) else s) s

/-- A complement written: the pair closes and is compared at once (R202, R270). -/
def complementWrite (r : DelayReg) (value : Word) (s : State) : State :=
  let ok := delayAccepts s r
  let s := delayStore r (delayComp r) value s
  if ok then pairCompare r (setOpen r false s) else s

/-- COMPLEMENT_WRITE (R202, R270). -/
def execComplementWrite (r : DelayReg) (value : Word) (s : State) : Host.Outcome State Fault Refusal :=
  .next (agentTurn (complementWrite r value) s)

/-! ## Patterns (R220 to R236) -/

/-- A pattern is named by PSEL or PSEL_ACT of a group in MODE 4 (R224). -/
def patNamed (s : State) (g : Fin 4) (k : Nat) : Bool :=
  k != 0 && s.gMode (axGroup g) = 4 && (s.f (Fld.PWM_G_PSEL_PSEL g) = k || s.f (Fld.PWM_G_PSEL_ACT_PSEL g) = k)

/-- A pattern holds an angle entry (R223). -/
def patHas (s : State) (k e : Nat) : Bool := wGet (patW0 s k) 0 15 ≤ e && e < wGet (patW0 s k) 0 15 + wGet (patW0 s k) 16 7

/-- WR_IGN in the groups that a test names; whether there was one. -/
def patGuard (p : Fin 4 → Bool) (s : State) : State × Bool :=
  ((List.finRange 4).foldl (fun s g => if p g then pwmIgnored (axGroup g) s else s) s, (List.finRange 4).any p)

/-- The bits of word 0 that its table names (R221), VALID among them. -/
def patW0Mask : Word := 0x937F7FFF#32

/-- The running check ends without a pass, or with one (R223). -/
def patCheckEnd (rule : Nat) (s : State) : State :=
  let s := { s with pwm := { s.pwm with chk := none } }
  ((s.lower Fld.PWM_PAT_CHK_BUSY).setF Fld.PWM_PAT_CHK_OK (bit (rule = 0))).setF Fld.PWM_PAT_CHK_RULE rule

/-- A write of VALID = 1 to a pattern's word 0 (R223, R224). -/
def patCheckStart (k : Nat) (v : Word) (s : State) : State :=
  if k = 0 then s else
  let (s, used) := patGuard (fun g => patNamed s g k) s
  if s.pwm.chk.isSome then s.raise Fld.PWM_PAT_CHK_IGN
  else if used then s
  else
    let w := v &&& patW0Mask &&& 0x7FFFFFFF#32
    let s := s.setMemW (0x40060000 + 16 * k) w
    let s := { s with pwm := { s.pwm with chk := some (k, w, s.time + 4 * (wGet w 16 7 + 4)) } }
    (s.setF Fld.PWM_PAT_CHK_PAT k).raise Fld.PWM_PAT_CHK_BUSY

/-- PATTERN_CHECK_START (R223, R224). -/
def execPatternCheckStart (k : Fin 64) (value : Word) (s : State) : Host.Outcome State Fault Refusal :=
  .next (agentTurn (patCheckStart k.val (value ||| 0x80000000#32)) s)

/-- Angles strictly rising from a bound on. -/
def anglesRise (b : Nat) : List (Nat × Nat) → Bool
  | [] => true
  | e :: l => decide (b < e.1) && anglesRise e.1 l

/-- Each level differs from the one before it. -/
def levelsChange (b : Nat) : List (Nat × Nat) → Bool
  | [] => true
  | e :: l => e.2 != b && levelsChange e.2 l

/-- The first rule of R223 that a pattern fails; 0 with none. -/
def patRule (s : State) (k : Nat) (w : Word) : Nat :=
  let n := wGet w 16 7
  let l0 := wGet w 24 2
  let es := (List.range n).map fun i =>
    let a := patAng s (wGet w 0 15 + i)
    (wGet a 0 30, wGet a 30 2)
  let low := if w.getLsbD 28 then 1 else 0
  if n = 0 || 32511 < wGet w 0 15 + n - 1 || k = 0 then 1
  else if !anglesRise 0 es then 2
  else if l0 = 3 || es.any (fun e => e.2 = 3) then 3
  else if !levelsChange l0 es then 4
  else if !((l0 = low || l0 = 2) && es.all (fun e => e.2 = low || e.2 = 2)) then 5
  else 0

/-- PATTERN_CHECK_DONE (R223): N + 4 peripheral cycles after its start the check ends with VALID or with the first rule
failed. -/
def execPatternCheckDone (s : State) : Host.Outcome State Fault Refusal :=
  .next (
    match s.pwm.chk with
    | none => s
    | some (k, w, due) =>
      let s := s.advance due
      let rule := patRule s k w
      let s := patCheckEnd rule s
      if rule = 0 then s.setMemW (0x40060000 + 16 * k) (patW0 s k ||| 0x80000000#32) else s)

/-- A write to a word of the pattern memory (R221 to R224), by its word number. -/
def patWrite (i : Nat) (v : Word) (s : State) : State :=
  let k := i / 4
  if i < 256 then
    if k = 0 || i % 4 = 3 then s
    else if i % 4 ≠ 0 then s.setMemW (0x40060000 + 4 * i) v
    else if v.getLsbD 31 then patCheckStart k v s
    else
      let (s, used) := patGuard (fun g => patNamed s g k) s
      if used then s
      else
        let s := match s.pwm.chk with
          | some (c, _, _) => if c = k then patCheckEnd 6 s else s
          | none => s
        s.setMemW (0x40060000 + 16 * k) (v &&& patW0Mask)
  else
    let e := i - 256
    let (s, used) := patGuard (fun g => (List.range 64).any fun k => patNamed s g k && patHas s k e) s
    if used then s
    else
      let s := match s.pwm.chk with
        | some (_, w, _) => if wGet w 0 15 ≤ e && e < wGet w 0 15 + wGet w 16 7 then patCheckEnd 6 s else s
        | none => s
      let s := (List.range 64).foldl (fun s k =>
        if k != 0 && (patW0 s k).getLsbD 31 && patHas s k e then
          s.setMemW (0x40060000 + 16 * k) (patW0 s k &&& 0x7FFFFFFF#32) else s) s
      s.setMemW (0x40060000 + 4 * i) v

/-- PATTERN_ENTRY_WRITE (R223, R224): a write to word `i` of the pattern memory. -/
def execPatternEntryWrite (i : Fin 32768) (value : Word) (s : State) : Host.Outcome State Fault Refusal :=
  .next (agentTurn (patWrite i.val value) s)

/-- The boundaries of a pattern that an angle crosses between two core cycles (R67, R230). -/
def crossings (l0 : Nat) (es : List (Nat × Nat)) (prev now : Int) : List Nat :=
  (patBounds l0 es).filter fun b => crossed prev now (b : Int) != 0

/-- PATTERN_EDGE (R230, R233): the level of a phase in a core cycle after the handover. The first evaluation after a handover
takes the level of the handover's cycle at t_h; a later one changes the commands four core cycles after t_x. -/
def execPatternEdge (g : Fin 4) (ph : Fin 3) (cyc : Nat) (s : State) : Host.Outcome State Fault Refusal :=
  .next (
    let gg := axGroup g
    let k := s.f (Fld.PWM_G_PSEL_ACT_PSEL g)
    if !s.gRun gg || s.gMode gg != 4 || k = 0 then s
    else if !(s.grp gg).patPh.getLsbD ph.val then patHandover g ph.val (s.advanceTap (s.grp gg).hov)
    else
      let s := s.advance cyc
      let prev := wGet (s.rd (.PWM_G_PAT_STATUS g)) (20 + 2 * ph.val) 2
      let lvl := phaseLevel s g ph.val cyc
      if lvl = prev then setPhase g ph.val lvl cyc (cyc * 16 + 64) s
      else
        let adv (c : Nat) : Nat := patTc s g + (if prev < lvl then (signTimes s g ph.val c).1 else (signTimes s g ph.val c).2)
        let x0 := patPhi s g ph.val (cyc - 1) (adv (cyc - 1))
        let x1 := patPhi s g ph.val cyc (adv cyc)
        match crossings (wGet (patW0 s k) 24 2) (patEntries s k) x0 x1 with
        | [b] =>
          let tx := ((cyc - 1 : Nat) * 16 : Int) + roundDiv (sAng ((b : Int) - x0) * 16) (sAng (x1 - x0))
          setPhase g ph.val lvl cyc (tx.toNat + 64) s
        | [] => setPhase g ph.val lvl cyc (cyc * 16 + 64) s
        | _ :: _ :: _ =>
          setPhase g ph.val lvl cyc (cyc * 16 + 64) (recordFault 0x1191 (s.raise (Fld.PWM_G_PAT_STATUS_MERGE g))))

end Sys2Proof.Machine
end

