-- ==== Sys2Proof/Machine/Quench.lean ====
section
/-! DEFINITION. The commands of the window comparators and the Quench (09): comparator changes and Touchstone sweeps, sources and
clears, masks, the safe-state selection and the route CRC. -/

namespace Sys2Proof.Machine

open Sys2Proof

/-! ## Window comparators (R242 to R246) -/

/-- What the gate timers see of a comparator (R244): the latches in LEVEL mode, the outputs in EDGE mode. -/
def cmpSeen (s : State) (w : Fin 64) : Bool × Bool :=
  if s.flag (Fld.CMP_WC_CTL_MODE w) then (s.flag (Fld.CMP_WC_STAT_HI w), s.flag (Fld.CMP_WC_STAT_LO w))
  else (s.flag (Fld.CMP_WC_STAT_LAT_HI w), s.flag (Fld.CMP_WC_STAT_LAT_LO w))

/-- The condition that QSEL selects (R243). -/
def cmpSource (s : State) (w : Fin 64) (hi lo : Bool) : Bool :=
  match s.f (Fld.CMP_WC_CTL_QSEL w) with
  | 0 => hi
  | 1 => lo
  | _ => hi || lo

/-- V_HYS in microvolts (R242). -/
def cmpHys (k : Nat) : Nat :=
  match k with
  | 0 => 0
  | 1 => 10000
  | 2 => 20000
  | _ => 40000

/-- The outputs a comparator gives (R242, R510): none with EN = 0, both with its supply lost, else what its thresholds, in steps of
3.2 mV, and its hysteresis make of the voltage at its pin and of its outputs so far. -/
def cmpOutputs (s : State) (w : Fin 64) : Bool × Bool :=
  let v := s.cmp.vin[w]
  let vHi := s.f (Fld.CMP_WC_TH_TH_HI w) * 3200
  let vLo := s.f (Fld.CMP_WC_TH_TH_LO w) * 3200
  let hys := cmpHys (s.f (Fld.CMP_WC_CTL_HYS w))
  if !s.flag (Fld.CMP_WC_CTL_EN w) then (false, false)
  else if s.cmp.lost then (true, true)
  else (decide (vHi < v) || (s.flag (Fld.CMP_WC_STAT_HI w) && decide (vHi ≤ v + hys)),
        decide (v < vLo) || (s.flag (Fld.CMP_WC_STAT_LO w) && decide (v ≤ vLo + hys)))

/-- Reports to the channels that listen to a comparator (R198). -/
def cmpReport (w : Fin 64) (peak : Bool) (t : Nat) (s : State) : State :=
  (List.finRange 16).foldl (fun s g =>
    if s.gRun g && s.variable g then
      (List.finRange 4).foldl (fun s c =>
        let sel := if peak then s.f (Fld.PWM_G_SNS_PSEL g c) else s.f (Fld.PWM_G_SNS_ZSEL g c)
        if sel = w.val && c.val < chans g then
          { s with pwm := { s.pwm with vpEv := s.pwm.vpEv ++ [⟨g, c, peak, t⟩] } }
        else s) s
    else s) s

/-- A change of HI reported to the auxiliary channels that take their peak event from a comparator (R279). -/
def cmpToAux (w : Fin 64) (level : Bool) (t : Nat) (s : State) : State :=
  (List.finRange 8).foldl (fun s n =>
    if s.flag (Fld.AUX_CH_CTL_PK_SRC n) && s.f (Fld.AUX_CH_CTL_PK_SEL n) = w.val then
      { s with aux := vmod s.aux n fun a => { a with pkEv := a.pkEv ++ [(level, t)] } }
    else s) s

/-- Outputs of a comparator that are 1 in a core cycle noted (R245). -/
def cmpSeenIn (w : Fin 64) (hi lo : Bool) (cyc : Nat) (s : State) : State :=
  let c := s.cmp
  let old (v : BitVec 64) : BitVec 64 := if c.inCyc = cyc then v else 0#64
  let on (b : Bool) : BitVec 64 := if b then 1#64 <<< w.val else 0#64
  { s with cmp := { c with hiIn := old c.hiIn ||| on hi, loIn := old c.loIn ||| on lo, inCyc := cyc } }

/-- The outputs of a comparator brought up to its pin, its enable and its supply (R242 to R244, R249): latches, edge bits,
reports, and its Quench source. Under sweep nothing changes (R268). -/
def cmpApply (w : Fin 64) (t : Nat) (s : State) : State :=
  if s.flag (Fld.CMP_WC_STAT_TEST w) then s else
  let (hi, lo) := cmpOutputs s w
  let hi0 := s.flag (Fld.CMP_WC_STAT_HI w)
  let lo0 := s.flag (Fld.CMP_WC_STAT_LO w)
  let (seenHi0, seenLo0) := cmpSeen s w
  let was := s.raw ⟨w.val, by omega⟩
  let s := cmpSeenIn w (hi || hi0) (lo || lo0) (t / 16) s
  let s := (s.setF (Fld.CMP_WC_STAT_HI w) (bit hi)).setF (Fld.CMP_WC_STAT_LO w) (bit lo)
  let s := if s.flag (Fld.CMP_WC_CTL_MODE w) then
      let s := if hi && !hi0 then s.raise (Fld.CMP_WC_STAT_EDGE_HI w) else s
      if lo && !lo0 then s.raise (Fld.CMP_WC_STAT_EDGE_LO w) else s
    else
      let s := if hi then s.raise (Fld.CMP_WC_STAT_LAT_HI w) else s
      if lo then s.raise (Fld.CMP_WC_STAT_LAT_LO w) else s
  let (seenHi, seenLo) := cmpSeen s w
  let s := if seenHi && !seenHi0 then cmpReport w true t s else s
  let s := if seenLo && !seenLo0 then cmpReport w false t s else s
  let s := if hi != hi0 then cmpToAux w hi t s else s
  let now := cmpSource s w hi lo
  if now && !was then sourceActive ⟨w.val, by omega⟩ t s
  else if !now && was then sourceInactive ⟨w.val, by omega⟩ s
  else s

/-- COMPARATOR_CHANGE (R242): the voltage at CMPINn comes to a number of millivolts and microvolts at a tap. -/
def execComparatorChange (w : Fin 64) (mv : Nat) (uv : Fin 1000) (t : Nat) (s : State) : Host.Outcome State Fault Refusal :=
  .next (
    let s := s.advanceTap t
    cmpApply w t { s with cmp := { s.cmp with vin := vset s.cmp.vin w (mv * 1000 + uv.val) } })

/-- The fields of R246 in the control register and in the thresholds. -/
def cmpGuard (ctl : Bool) : Word := if ctl then 0x3D#32 else 0x03FF03FF#32

/-- A write to a comparator's control or thresholds (R246). DESIGN CHOICE (log entry 37): a new threshold acts at once, where the spec
gives it up to 250 ns. -/
def cmpWrite (w : Fin 64) (ctl : Bool) (v : Word) (s : State) : State :=
  let r : Reg := if ctl then .CMP_WC_CTL w else .CMP_WC_TH w
  let k : Fin 128 := ⟨w.val, by omega⟩
  let mask := if s.locked && s.flag (Fld.QNC_ROUTE_EN k) then cmpGuard ctl else 0#32
  let s := writeGuarded r v mask (fun s => s.raise (Fld.CMP_WC_STAT_WR_IGN w)) s
  cmpApply w s.now s

/-- THRESHOLD_WRITE (R246): the thresholds, or with `ctl` the control register. -/
def execThresholdWrite (w : Fin 64) (ctl : Bool) (value : Word) (s : State) : Host.Outcome State Fault Refusal :=
  .next (agentTurn (cmpWrite w ctl value) s)

/-- The supply of the comparators lost or back (R510). -/
def cmpSupply (lost : Bool) (s : State) : State :=
  let s := { s with cmp := { s.cmp with lost := lost } }
  (List.finRange 64).foldl (fun s w => cmpApply w s.now s) s

/-- VDDA_CMP_LOSS (R510). -/
def execVddaCmpLoss (s : State) : Host.Outcome State Fault Refusal := .next (cmpSupply true s)

/-- VDDA_CMP_RETURN (R510). -/
def execVddaCmpReturn (s : State) : Host.Outcome State Fault Refusal := .next (cmpSupply false s)

/-! ## Touchstone (R266 to R269) -/

/-- The class 0x2 reaction on the groups of a comparator's row (R266, R268). -/
def cmpRowReaction (w : Fin 64) (s : State) : State :=
  dsgWatch ((List.finRange 16).foldl (fun s g =>
    if (s.rd (.QNC_ROUTE ⟨w.val, by omega⟩)).getLsbD g.val then groupReaction s g else s) s)

/-- The next comparator under Touchstone from a number on, in ascending order (R267). -/
def cmpNext (s : State) : Option (Fin 64) :=
  let l := (List.finRange 64).filter fun w => s.flag (Fld.CMP_WC_CTL_TS_EN w)
  match l.find? (fun w => s.cmp.next ≤ w.val) with
  | some w => some w
  | none => l.head?

/-- The conditions of R267 on a comparator and its partner. -/
def sweepAllowed (s : State) (n : Fin 64) : Bool :=
  let m : Fin 64 := ⟨s.f (Fld.CMP_WC_CTL_PARTNER n) % 64, Nat.mod_lt _ (by decide)⟩
  let rn : Fin 128 := ⟨n.val, by omega⟩
  let rm : Fin 128 := ⟨m.val, by omega⟩
  m != n && s.flag (Fld.CMP_WC_CTL_EN m) && s.flag (Fld.QNC_ROUTE_EN rm) &&
    s.f (Fld.QNC_ROUTE_GROUPS rm) = s.f (Fld.QNC_ROUTE_GROUPS rn) && s.f (Fld.QNC_ROUTE_PROF rm) = s.f (Fld.QNC_ROUTE_PROF rn) &&
    !s.raw rm && !s.raw rn && !s.flag (Fld.CMP_WC_STAT_TEST m)

/-- TS_INT in core cycles (R267). -/
def tsInterval (s : State) : Nat := s.f Fld.CMP_TS_CTL_TS_INT * 1000 * Config.cyclesPerUs

/-- A write to CMP_TS_CTL (R274): from its enable on Touchstone picks a comparator every TS_INT milliseconds (R267). -/
def tsCtlWrite (v : Word) (s : State) : State :=
  let on := s.flag Fld.CMP_TS_CTL_EN
  let s := writePlain .CMP_TS_CTL v s
  if s.flag Fld.CMP_TS_CTL_EN then
    (if on then s else { s with cmp := { s.cmp with tsDue := some (s.time + tsInterval s) } })
  else { s with cmp := { s.cmp with tsDue := none } }

/-- TOUCHSTONE_SWEEP_START (R267, R268): the interval ends, and the next comparator is swept or skipped. -/
def execTouchstoneSweepStart (s : State) : Host.Outcome State Fault Refusal :=
  .next (
    match s.cmp.tsDue with
    | none => s
    | some due =>
      let s := (s.advance due)
      let s := { s with cmp := { s.cmp with tsDue := some (due + tsInterval s) } }
      match cmpNext s with
      | none => s
      | some n =>
        let ok := sweepAllowed s n
        let s := { s with cmp := { s.cmp with next := (n.val + 1) % 64 } }
        let s := s.setF Fld.CMP_TS_STAT_LAST n.val
        if ok then
          let s := { s with cmp := { s.cmp with sweep := some (n, s.time) } }
          (s.raise (Fld.CMP_WC_STAT_TEST n)).raise Fld.CMP_TS_STAT_BUSY
        else recordFault 0x10A3 ((s.lower Fld.CMP_TS_STAT_PASS).raise (Fld.CMP_WC_STAT_TS_SKIP n)))

/-- The outputs required of a sweep (R268): `hi` and `lo` hold the outputs found at codes 492 to 508, code 492 at bit 0. -/
def sweepGood (hi lo : BitVec 17) : Bool :=
  (hi &&& 0x0003F#17 = 0x0003F#17) && (hi &&& 0x1F800#17 = 0#17) && (lo &&& 0x1F800#17 = 0x1F800#17) && (lo &&& 0x0003F#17 = 0#17)

/-- TOUCHSTONE_SWEEP_END (R268): 19.0 µs after its start the sweep ends and its outputs are judged. -/
def execTouchstoneSweepEnd (hi lo : BitVec 17) (s : State) : Host.Outcome State Fault Refusal :=
  .next (
    match s.cmp.sweep with
    | none => s
    | some (n, t0) =>
      let s := s.advance (t0 + 19 * Config.cyclesPerUs)
      let s := { s with cmp := { s.cmp with sweep := none } }
      let s := (s.lower (Fld.CMP_WC_STAT_TEST n)).lower Fld.CMP_TS_STAT_BUSY
      let s := s.setF Fld.CMP_TS_STAT_PASS (bit (sweepGood hi lo))
      let s := if sweepGood hi lo then s
        else cmpRowReaction n (recordFault 0x12A2 (s.raise (Fld.CMP_WC_STAT_TS_FAIL n)))
      cmpApply n s.now s)

/-- A readback of a threshold DAC in DAC steps (R266): stored, and judged against TH. -/
def cmpReadback (w : Fin 64) (upper : Bool) (steps : Nat) (s : State) : State :=
  let s := s.setF (if upper then Fld.CMP_WC_RB_RB_HI w else Fld.CMP_WC_RB_RB_LO w) (sat 1023 steps)
  let th := if upper then s.f (Fld.CMP_WC_TH_TH_HI w) else s.f (Fld.CMP_WC_TH_TH_LO w)
  let dist := if th ≤ steps then steps - th else th - steps
  if dist ≤ s.f Fld.CMP_TS_CTL_DAC_TOL then s.setF (Fld.CMP_WC_STAT_RB_RUN w) 0
  else
    let run := s.f (Fld.CMP_WC_STAT_RB_RUN w) + 1
    let s := (s.raise (Fld.CMP_WC_STAT_RB_FAIL w)).setF (Fld.CMP_WC_STAT_RB_RUN w) (sat 15 run)
    let s := recordFault 0x11A0 s
    if run = s.f Fld.CMP_TS_CTL_TS_LIM then cmpRowReaction w (recordFault 0x12A1 s) else s

/-! ## Sources and clears (R249, R256 to R259, R264) -/

/-- The level of a trip pin (R247). -/
def tripPin (p : Fin 16) (low : Bool) (s : State) : State :=
  s.modQnc fun q => { q with tripLow := if low then q.tripLow ||| (1#16 <<< p.val) else q.tripLow &&& ~~~(1#16 <<< p.val) }

/-- The condition of a source as R247 states it: the comparator's as QSEL selects it, unless its sweep masks it (R268), and the level of
the trip pin. The other sources follow conditions that further commands bring about. -/
def srcCondition (s : State) (k : Fin 128) : Bool :=
  if h : k.val < 64 then
    let w : Fin 64 := ⟨k.val, h⟩
    !s.flag (Fld.CMP_WC_STAT_TEST w) && cmpSource s w (s.flag (Fld.CMP_WC_STAT_HI w)) (s.flag (Fld.CMP_WC_STAT_LO w))
  else if k.val < 80 then s.qnc.tripLow.getLsbD (k.val - 64)
  else s.raw k

/-- SOURCE_ACTIVE (R247, R256): a trip pin goes low at a tap. The other sources become active by the commands that bring about their
conditions, and this command finds them as they are. -/
def execSourceActive (k : Fin 128) (t : Nat) (s : State) : Host.Outcome State Fault Refusal :=
  .next (
    let s := s.advanceTap t
    let s := if h : 64 ≤ k.val ∧ k.val < 80 then tripPin ⟨k.val - 64, by omega⟩ true s else s
    if srcCondition s k then sourceActive k t s else s)

/-- TRIP_PIN_RELEASE (R247): a trip pin returns high. -/
def execTripPinRelease (p : Fin 16) (s : State) : Host.Outcome State Fault Refusal :=
  .next (sourceInactive ⟨64 + p.val, by omega⟩ (tripPin p false s))

/-- ASC_DELAY_EXPIRY (R257, R262): D_ASC ends and the mask of the group's action turns on. -/
def execAscDelayExpiry (g : Fin 16) (s : State) : Host.Outcome State Fault Refusal :=
  .next (
    match s.qnc.due[g] with
    | none => s
    | some t =>
      let s := (s.advanceTap t).modQnc fun q => { q with due := vset q.due g none }
      s.raise (Fld.QNC_G_STATE_ASC_ON g))

/-- A clear of a source is refused (R250, R259): it is active in the peripheral cycle of the write, which ends with the write (R207), or
it is one of the four whose latch the agent cannot clear and the latch is set. -/
def clearRefused (s : State) (k : Fin 128) : Bool :=
  s.rawInCycle k || ((k.val = 112 || k.val = 114 || k.val = 115 || k.val = 117) && s.latch k)

/-- A QNC_CLR write (R259). -/
def latchClear (k : Fin 4) (mask : Word) (s : State) : State :=
  let ref := (List.finRange 32).foldl (fun (w : Word) b =>
    if mask.getLsbD b.val && clearRefused s ⟨32 * k.val + b.val, by omega⟩ then wPut w b.val 1 1 else w) 0#32
  let old := s.rd (.QNC_LATCH k)
  let s := (List.finRange 4).foldl (fun s j => s.wr (.QNC_REFUSED j) (if j = k then ref else 0#32)) s
  let s := s.wr (.QNC_LATCH k) (old &&& ~~~(mask &&& ~~~ref))
  let s := if ref = 0#32 then s else recordFault 0x1102 (s.raise Fld.QNC_STATUS_CLR_REFUSED)
  refreshGroups ⟨32 * k.val, by omega⟩ s.now true s

/-- LATCH_CLEAR (R259, R264). -/
def execLatchClear (k : Fin 4) (mask : Word) (s : State) : Host.Outcome State Fault Refusal := .next (agentTurn (latchClear k mask) s)

/-! ## Safe-state selection (R260, R262) -/

/-- The selection of ST_SAFE for every axis (R260). -/
def strapSelection (s : State) : Nat := if s.flag Fld.SYS_STRAP_SAFE then 0x55 else 0

/-- The applied selection changes at the present tap: an AX group tripped with SAFE follows it (R262). -/
def useSelection (sel : Nat) (s : State) : State :=
  let old := s
  let s := s.setF Fld.QNC_SEL_USED_USED sel
  (List.finRange 4).foldl (fun s n =>
    let g := axGroup n
    if s.qnc.eff[g] = 4 && s.selUsed n != old.selUsed n then
      (s.lower (Fld.QNC_G_STATE_ASC_ON g)).modQnc fun q => { q with due := vset q.due g (maskDue s g 4 s.now) }
    else s) s

/-- The Anvil writes QNC_SAFESEL (R260): the selection is applied, or a failed comparison or a code 3 brings the fallback, which
holds until reset. -/
def safeselWrite (sel selC : BitVec 8) (s : State) : State :=
  let s := (s.setF Fld.QNC_SAFESEL_SEL sel.toNat).setF Fld.QNC_SAFESEL_SEL_C selC.toNat
  let s := s.setF Fld.QNC_SAFESEL_SEQ (s.f Fld.QNC_SAFESEL_SEQ + 1)
  if s.flag Fld.QNC_STATUS_SEL_FALLBACK then s
  else if selC = ~~~sel && (List.range 4).all (fun n => (sel.toNat / 4 ^ n) % 4 != 3) then useSelection sel.toNat s
  else
    let s := useSelection (strapSelection s) (s.raise Fld.QNC_STATUS_SEL_FALLBACK)
    recordFault 0x1304 (integChanged s)

/-- SAFESEL_WRITE (R260, R262). -/
def execSafeselWrite (sel selC : BitVec 8) (s : State) : Host.Outcome State Fault Refusal := .next (safeselWrite sel selC s)

/-! ## Configuration and its CRC (R251, R254, R271) -/

/-- ROUTE_CRC_CHECK (R271): a recomputed CRC that differs from the stored one raises CFG_INTEGRITY for every group. The CRC is
told by the command: the spec fixes neither its polynomial nor its order (log entry 5). -/
def execRouteCrcCheck (crc : Word) (s : State) : Host.Outcome State Fault Refusal :=
  .next (
    if s.locked && crc != s.rd .QNC_CRC && !s.qnc.crcBad then
      recordFault 0x1305 (integChanged (s.modQnc fun q => { q with crcBad := true }))
    else s)

/-- Latches and groups after a change of rows or profiles (R249, R251): an enabled row with an active source latches, and each
group takes what its latched sources now give it. -/
def routeChanged (s : State) : State :=
  let s := (List.finRange 128).foldl (fun s k => if s.raw k && !s.latch k then sourceActive k s.now s else s) s
  let first (s : State) (g : Fin 16) : Fin 128 :=
    ((List.finRange 128).find? fun k => s.latch k && srcAction s k g != 0).getD 0
  let before := s
  let s := (List.finRange 16).foldl (fun s g => refreshGroup (first s g) s.now false s g) s
  dsgWatch ((List.finRange 4).foldl (fun s n =>
    if s.qnc.eff[axGroup n] != 0 && before.qnc.eff[axGroup n] = 0 then s.setAxis n axHold else s) s)

/-- A mask that turns on both outputs of a pair (R254). -/
def maskClash (g : Fin 16) (v : Word) : Bool :=
  g.val < 14 && (List.range 9).any fun i => v.getLsbD (2 * i) && v.getLsbD (2 * i + 1)

/-- A write to a row, a profile or a mask of the Quench (R250, R251, R254). -/
def qncConfigWrite (r : Reg) (v : Word) (s : State) : State :=
  match r with
  | .QNC_ROUTE k => if fixedSrc k then s else routeChanged (writePlain r v s)
  | .QNC_PROF_LO _ => routeChanged (writePlain r v s)
  | .QNC_PROF_HI _ => routeChanged (writePlain r v s)
  | .QNC_G_ASC_L g => if maskClash g v && !s.locked then s.raise Fld.QNC_STATUS_WR_IGN else writePlain r v s
  | .QNC_G_ASC_H g => if maskClash g v && !s.locked then s.raise Fld.QNC_STATUS_WR_IGN else writePlain r v s
  | .QNC_G_PAT g => if maskClash g v && !s.locked then s.raise Fld.QNC_STATUS_WR_IGN else writePlain r v s
  | r => writePlain r v s

end Sys2Proof.Machine
end

