-- ==== Sys2Proof/Machine/Auxiliary.lean ====
section
/-! DEFINITION. The commands of the auxiliary commutators (10): start, stop and clear, back-EMF crossings and commutations, the
phases of a start, and peak events. -/

namespace Sys2Proof.Machine

open Sys2Proof

def State.modAux (s : State) (n : Fin 8) (f : AuxCh → AuxCh) : State := { s with aux := vmod s.aux n f }

/-- An ignored write or command (R288, R299). -/
def auxIgnored (n : Fin 8) (s : State) : State := s.raise (Fld.AUX_CH_STATUS_WR_IGN n)

/-- Core cycles in a millisecond and in a second. -/
def msCycles : Nat := 600000
def secCycles : Nat := 600000000

/-- The LISTEN and COAST window: 50.0 ms (R289, R293). -/
def auxWindow : Nat := 50 * msCycles

/-- The Quench trips the channel's group. -/
def auxGroupTripped (s : State) (n : Fin 8) : Bool := s.flag (Fld.QNC_G_STATE_TRIPPED (auxGroup n))

/-! ## Sectors and sequence (R280, R284) -/

/-- The sector whose forward crossing a phase and polarity are. -/
def forwardSector (x : Crossing) : Nat :=
  match x.phase.val, x.rising with
  | 2, false => 0
  | 1, true => 1
  | 0, false => 2
  | 2, true => 3
  | 1, false => 4
  | _, _ => 5

/-- How a crossing continues the one before it: 1 in forward, −1 in reverse sequence, 0 not (R284). -/
def continues (prev x : Crossing) : Int :=
  if forwardSector x = (forwardSector prev + 1) % 6 then 1
  else if (forwardSector x + 1) % 6 = forwardSector prev then -1 else 0

/-- The sector of R280 in a sense of rotation: the reverse column lies three sectors away from the forward one. -/
def sectorOf (x : Crossing) (sense : Int) : Nat := if sense = -1 then (forwardSector x + 3) % 6 else forwardSector x

/-- The sense of the last three crossings, if they are in sequence (R289). -/
def lastThree (xs : List Crossing) : Int :=
  match xs with
  | a :: b :: c :: _ => if continues b a = continues c b then continues b a else 0
  | _ => 0

/-! ## Speed (R285) -/

/-- f_e of a sixth of a period of `ts` core cycles is at least `f` hertz. -/
def atLeastHz (ts f : Nat) : Bool := ts = 0 || f * ts ≤ 100000000

/-- T_s, FREQ and IDX take an interval in core cycles (R285). -/
def auxSpeed (n : Fin 8) (ts : Nat) (s : State) : State :=
  let s := s.setF (Fld.AUX_CH_TSEC_T_S n) ts
  let s := s.setF (Fld.AUX_CH_FREQ_F n) (if ts = 0 then 65535 else min 65535 (1000000000 / ts))
  s.setF (Fld.AUX_CH_FREQ_IDX n) (if ts = 0 then 15 else min 15 (100000000 / (ts * s.f (Fld.AUX_CH_SPD_F_STEP n))))

def auxTs (s : State) (n : Fin 8) : Nat := s.f (Fld.AUX_CH_TSEC_T_S n)

/-- ADV[IDX] (R286). -/
def auxAdv (s : State) (n : Fin 8) : Nat :=
  let i := s.f (Fld.AUX_CH_FREQ_IDX n)
  wGet (s.rd (.AUX_CH_ADV n ⟨i / 4 % 4, Nat.mod_lt _ (by decide)⟩)) (8 * (i % 4)) 8

/-- The event of a crossing for the Mandrel (R285): its sector as the count. -/
def auxEvent (n : Fin 8) (x : Crossing) (sense : Int) (s : State) : State :=
  let sec := sectorOf x sense
  let d : Int := ((sec : Int) - s.aux[n].lastSec.getD 0 + 3) % 6 - 3
  let s := s.modAux n fun a => { a with lastSec := some sec }
  postGen 4 n.val (if d == 1 || d == -1 then .counts d x.stamp else .index d x.stamp) s

/-! ## Entering states (R281, R288 to R293) -/

/-- A channel enters a state in the present core cycle, its pairs taking their roles. -/
def auxEnter (n : Fin 8) (v : Nat) (s : State) : State := auxRoles n s.now (setAux n v s)

/-- OFF. -/
def auxToOff (n : Fin 8) (s : State) : State :=
  auxEnter n auxOff (s.modAux n fun a => { a with tk := none, sync := false, hold := false, staying := false })

/-- LISTEN, from START or after a failure. -/
def auxToListen (n : Fin 8) (s : State) : State :=
  auxEnter n auxListen (s.modAux n fun a => { a with xs := [], tk := none, sync := false, staying := false, hold := false })

/-- BRAKE: its first slice begins (R290). -/
def auxToBrake (n : Fin 8) (fromStop : Bool) (s : State) : State :=
  let s := if s.auxSt n = auxBrake then s
    else s.modAux n fun a => { a with brakeCyc := s.time, secCyc := s.time, listening := false, tk := none, sync := false,
                                      staying := false, hold := false, pulseEnd := 0 }
  auxEnter n auxBrake (s.modAux n fun a => { a with fromStop := fromStop })

/-- The low-side pulses of R291 begin at the present core cycle: A, B and C for T_REF each, DT_LH apart. -/
def auxPulses (n : Fin 8) (s : State) : State :=
  let g := auxGroup n
  let t := s.now
  let on := 16 * s.f (Fld.PWM_G_BOOT_T_REF g)
  let gap := s.f (Fld.PWM_G_DT_DT_LH g)
  let s := s.modAux n fun a => { a with pulseEnd := t + 3 * on + 2 * gap }
  (List.finRange 3).foldl (fun s ph =>
    let c : Fin 9 := ⟨auxPhase s n ph.val % 3, by omega⟩
    s.modCell g c fun x => { x with pend := some (.pulseOn, t + ph.val * (on + gap)) }) s

/-- ALIGN (R291): the pulses, then sector ALN_SEC. -/
def auxToAlign (n : Fin 8) (s : State) : State :=
  let s := s.setF (Fld.AUX_CH_STATUS_SECTOR n) (s.f (Fld.AUX_CH_CTL_ALN_SEC n))
  let s := s.modAux n fun a => { a with tk := none, sync := false, staying := false, hold := false, pulseEnd := s.now + 1 }
  auxPulses n (auxEnter n auxAlign s)

/-- A failure (R292): counted, with its code; the third sends the channel to FAULT instead of its next state. -/
def auxFail (n : Fin 8) (code : Nat) (next : State → State) (s : State) : State :=
  let fails := s.f (Fld.AUX_CH_STATUS_FAILS n) + 1
  let s := recordFault code ((s.setF (Fld.AUX_CH_STATUS_FAILS n) (sat 3 fails)).raise (Fld.AUX_CH_STATUS_FAIL n))
  if 3 ≤ fails then recordFault 0x2263 (auxToFault n s.now s) else next s

/-- COAST (R287, R292). -/
def auxToCoast (n : Fin 8) (s : State) : State :=
  let first := !s.aux[n].coasted
  let s := s.modAux n fun a => { a with xs := [], tk := none, coasted := true, hold := false, staying := false }
  auxFail n (if first then 0x2161 else 0x2162) (auxEnter n auxCoast) (s.raise (Fld.AUX_CH_STATUS_ZC_LOST n))

/-- What LISTEN and COAST decide at their end (R289, R293). A stay ends floor(1.5 × T_s) after the last crossing of its sequence. -/
def auxDecide (n : Fin 8) (s : State) : State :=
  let d := lastThree s.aux[n].xs
  let last := match s.aux[n].xs with
    | x :: _ => x.stamp / 16
    | [] => s.time
  if d = 1 then
    if atLeastHz (auxTs s n) (s.f (Fld.AUX_CH_SPD_CATCH_F n)) then
      s.modAux n fun a => { a with staying := true, inSeq := true, stayEnd := last + 3 * auxTs s n / 2 }
    else auxToBrake n false s
  else if d = -1 then auxToBrake n false s
  else auxToAlign n s

/-! ## Commands (R288) -/

/-- START is not allowed. -/
def auxStartBad (n : Fin 8) (s : State) : Bool :=
  let g := auxGroup n
  s.auxSt n != auxOff || s.dev = devBoot || s.dev = devFault || s.gMode g != 5 || !s.gRun g ||
    s.rd (.PWM_G_OUT_EN g) != 0x3F#32 || auxGroupTripped s n

/-- STOP is not allowed. -/
def auxStopBad (n : Fin 8) (s : State) : Bool := s.auxSt n = auxOff || s.auxSt n = auxFault

/-- CLEAR is not allowed. -/
def auxClearBad (n : Fin 8) (s : State) : Bool := s.auxSt n != auxFault || auxGroupTripped s n

/-- START of a channel. -/
def auxStart (n : Fin 8) (s : State) : State :=
  if auxStartBad n s then auxIgnored n s
  else auxToListen n ((s.setF (Fld.AUX_CH_STATUS_FAILS n) 0).modAux n fun a => { a with coasted := false })

/-- STOP of a channel. -/
def auxStop (n : Fin 8) (s : State) : State :=
  if auxStopBad n s then auxIgnored n s
  else if s.flag (Fld.AUX_CH_CTL_STOP_MODE n) then auxToBrake n true s
  else auxToOff n s

/-- CLEAR of a channel. -/
def auxClear (n : Fin 8) (s : State) : State := if auxClearBad n s then auxIgnored n s else auxToOff n s

/-- AUX_START (R288). -/
def execAuxStart (n : Fin 8) (s : State) : Host.Outcome State Fault Refusal := .next (agentTurn (auxStart n) s)

/-- AUX_STOP (R288). -/
def execAuxStop (n : Fin 8) (s : State) : Host.Outcome State Fault Refusal := .next (agentTurn (auxStop n) s)

/-- AUX_CLEAR (R288). -/
def execAuxClear (n : Fin 8) (s : State) : Host.Outcome State Fault Refusal := .next (agentTurn (auxClear n) s)

/-! ## Crossings (R283 to R286, R293) -/

/-- The core cycle in which the filter accepts a transition (R283): ZC_FILT counting samples and two cycles after it, or after
the blank of the latest output-cell edge. -/
def zcTaken (s : State) (n : Fin 8) (t : Nat) : Nat :=
  max (t / 16) ((s.grp (auxGroup n)).lastEdge / 16 + s.f (Fld.AUX_CH_ZC_ZC_BLANK n)) + s.f (Fld.AUX_CH_ZC_ZC_FILT n) + 2

/-- The commutation after a crossing at a stamp, taken in a core cycle (R286); one that is already due is made in the next cycle
and is late. -/
def auxSchedule (n : Fin 8) (t cyc : Nat) (s : State) : State :=
  let k := t / 16 + auxTs s n * (120 - auxAdv s n) / 240
  if k ≤ cyc then
    recordFault 0x2060 ((s.modAux n fun a => { a with tk := some (cyc + 1) }).raise (Fld.AUX_CH_STATUS_LATE_COM n))
  else s.modAux n fun a => { a with tk := some k }

/-- A synchronisation (R293): the sector of the crossing, the low-side pulses, and the commutation at which RUN begins, not
before the pulses have ended. -/
def auxSync (n : Fin 8) (x : Crossing) (cyc : Nat) (s : State) : State :=
  let s := (s.raise (Fld.AUX_CH_STATUS_RESYNC n)).setF (Fld.AUX_CH_STATUS_SECTOR n) (forwardSector x)
  let s := s.modAux n fun a => { a with sync := true, staying := false, tz := x.stamp }
  let s := auxSchedule n x.stamp cyc (auxPulses n s)
  s.modAux n fun a => { a with tk := a.tk.map fun k => if k * 16 < a.pulseEnd then a.pulseEnd / 16 + 1 else k }

/-- A crossing in LISTEN, COAST or a listening interval (R284, R285, R289, R293). One that breaks the sequence of a stay leaves it
without a synchronisation. -/
def freeCrossing (n : Fin 8) (x : Crossing) (cyc : Nat) (s : State) : State :=
  let a := s.aux[n]
  let sense : Int := match a.xs with
    | p :: _ => continues p x
    | [] => 0
  let ts := match a.xs with
    | p :: _ => (x.stamp - p.stamp) / 16
    | [] => 0
  let s := s.modAux n fun a => { a with xs := (x :: a.xs).take 3, inSeq := a.inSeq && sense = 1, pair := a.pair || sense != 0 }
  if sense = 0 then s
  else
    let s := (auxSpeed n ts s).setF (Fld.AUX_CH_STATUS_REV n) (bit (sense = -1))
    if s.auxSt n = auxBrake then s
    else
      let s := auxEvent n x sense s
      let fast := atLeastHz (auxTs s n) (s.f (Fld.AUX_CH_SPD_CATCH_F n))
      if (a.staying && a.inSeq && sense = 1) || (s.auxSt n = auxCoast && lastThree s.aux[n].xs = 1 && fast) then auxSync n x cyc s
      else s

/-- The sixth crossing in a row in RAMP, or one in RUN (R286, R291). -/
def drivenCrossing (n : Fin 8) (x : Crossing) (cyc : Nat) (s : State) : State :=
  let a := s.aux[n]
  if s.auxSt n = auxRun then
    let s := auxSpeed n ((x.stamp - a.tz) / 16) s
    let s := s.lower (Fld.AUX_CH_STATUS_REV n)
    let s := s.modAux n fun a => { a with tz := x.stamp, took := true }
    auxSchedule n x.stamp cyc (auxEvent n x 1 s)
  else
    let s := s.modAux n fun a => { a with took := true, tz := x.stamp }
    if a.okSec = 5 then
      let s := s.modAux n fun a => { a with runCyc := cyc }
      auxSchedule n x.stamp cyc (auxEnter n auxRun s)
    else s

/-- The demagnetisation blank of a sector that begins in a core cycle (R284). -/
def auxBlank (n : Fin 8) (cyc : Nat) (s : State) : State :=
  s.modAux n fun a => { a with blankFrom := cyc, blankEnd := cyc + auxTs s n * s.f (Fld.AUX_CH_ZC_DEMAG n) / 64, needReturn := false, took := false }

/-- The scheduled commutation into the next sector; a synchronisation enters RUN with it (R286, R293). -/
def auxCommutate (n : Fin 8) (k : Nat) (s : State) : State :=
  let s := s.advance k
  let sec := (s.f (Fld.AUX_CH_STATUS_SECTOR n) + 1) % 6
  let s := auxBlank n k (s.setF (Fld.AUX_CH_STATUS_SECTOR n) sec)
  let sync := s.aux[n].sync
  let s := s.modAux n fun a => { a with tk := none, sync := false, pulseEnd := 0 }
  if sync then auxEnter n auxRun (s.modAux n fun a => { a with runCyc := k }) else auxRoles n s.now s

/-- A commutation that falls no later than a core cycle is made before a crossing of that cycle (R300). -/
def auxCommutateBy (n : Fin 8) (cyc : Nat) (s : State) : State :=
  match s.aux[n].tk with
  | some k => if k ≤ cyc then auxCommutate n k s else s
  | none => s

/-- ZERO_CROSSING (R283, R284): the comparator of phase `ph` (0 to 2 for A to C) changed to `level` at tap `t`, and the filter accepts
it. A level that the comparator shows when the demagnetisation blank ends is not taken, nor is one accepted in the commutation's own
cycle (R300). -/
def execZeroCrossing (n : Fin 8) (ph : Fin 3) (level : Bool) (t : Nat) (s : State) : Host.Outcome State Fault Refusal :=
  .next (
    if s.aux[n].level.getLsbD ph.val = level then s
    else
      let cyc := zcTaken s n t
      let s := auxCommutateBy n cyc (s.advance cyc)
      let a := s.aux[n]
      let s := s.modAux n fun a =>
        { a with level := (a.level &&& ~~~(1#3 <<< ph.val)) ||| (if level then 1#3 <<< ph.val else 0#3) }
      let s := s.wr (.AUX_CH_ZC_T n) (stampWord t)
      let x : Crossing := ⟨⟨auxPhase s n ph.val % 3, by omega⟩, level, t⟩
      let st := s.auxSt n
      if a.sync then s
      else if st = auxListen || st = auxCoast || (st = auxBrake && a.listening) then freeCrossing n x cyc s
      else if st = auxRamp || st = auxRun then
        let sec := s.f (Fld.AUX_CH_STATUS_SECTOR n)
        let (_, _, fl) := sectorPhases sec
        if x.phase.val != fl then s
        else if forwardSector x != sec then s.modAux n fun a => { a with needReturn := false }
        else if cyc < a.blankEnd || cyc ≤ a.blankFrom || t / 16 < a.blankEnd || a.needReturn || a.took then s
        else drivenCrossing n x cyc s
      else s)

/-- DEMAG_BLANK_END (R284): a floating comparator that already shows the level after the crossing must first return. -/
def execDemagBlankEnd (n : Fin 8) (s : State) : Host.Outcome State Fault Refusal :=
  .next (
    let st := s.auxSt n
    if st = auxRamp || st = auxRun then
      let a := s.aux[n]
      let s := s.advance a.blankEnd
      let sec := s.f (Fld.AUX_CH_STATUS_SECTOR n)
      let (_, _, fl) := sectorPhases sec
      let after := decide (forwardSector ⟨⟨fl % 3, Nat.mod_lt _ (by decide)⟩, true, 0⟩ = sec)
      let level := a.level.getLsbD (auxPhase s n fl)
      s.modAux n fun a => { a with needReturn := level == after }
    else s)

/-- COMMUTATION (R286, R293): the scheduled commutation into the next sector; a synchronisation enters RUN with it. -/
def execCommutation (n : Fin 8) (s : State) : Host.Outcome State Fault Refusal :=
  .next (
    match s.aux[n].tk with
    | none => s
    | some k => auxCommutate n k s)

/-- The core cycle of the timeout of R287. -/
def zcTimeout (s : State) (n : Fin 8) : Nat := s.aux[n].tz / 16 + 3 * auxTs s n / 2

/-- ZC_TIMEOUT (R287): floor(1.5 × T_s) after the last crossing taken in RUN. -/
def execZcTimeout (n : Fin 8) (s : State) : Host.Outcome State Fault Refusal :=
  .next (
    if s.auxSt n = auxRun then auxToCoast n (s.advance (zcTimeout s n)) else s)

/-! ## Start sequence (R289 to R293) -/

/-- LISTEN_END (R289). -/
def execListenEnd (n : Fin 8) (s : State) : Host.Outcome State Fault Refusal :=
  .next (
    if s.auxSt n = auxListen && !s.aux[n].sync && !s.aux[n].staying then
      auxDecide n (s.advance (s.aux[n].since + auxWindow))
    else s)

/-- COAST_END (R293). -/
def execCoastEnd (n : Fin 8) (s : State) : Host.Outcome State Fault Refusal :=
  .next (
    if s.auxSt n = auxCoast && !s.aux[n].sync && !s.aux[n].staying then
      auxDecide n (s.advance (s.aux[n].since + auxWindow))
    else s)

/-- LISTEN_SYNC_TIMEOUT (R289): no continuing crossing within floor(1.5 × T_s) of the last one. -/
def execListenSyncTimeout (n : Fin 8) (s : State) : Host.Outcome State Fault Refusal :=
  .next (
    if s.aux[n].staying && !s.aux[n].sync then auxToAlign n (s.advance s.aux[n].stayEnd) else s)

/-- BRAKE_SLICE_END (R290): after BRK_ON the pairs float and the channel listens. -/
def execBrakeSliceEnd (n : Fin 8) (s : State) : Host.Outcome State Fault Refusal :=
  .next (
    if s.auxSt n = auxBrake && !s.aux[n].listening then
      let s := s.advance (s.aux[n].secCyc + s.f (Fld.AUX_CH_START_BRK_ON n) * msCycles)
      auxRoles n s.now (s.modAux n fun a => { a with listening := true, secCyc := s.time, xs := [], pair := false })
    else s)

/-- LISTEN_INTERVAL_END (R290): another slice while the rotor is fast enough, else ALIGN or OFF. -/
def execListenIntervalEnd (n : Fin 8) (s : State) : Host.Outcome State Fault Refusal :=
  .next (
    if s.auxSt n = auxBrake && s.aux[n].listening then
      let s := s.advance (s.aux[n].secCyc + s.f (Fld.AUX_CH_START_BRK_LSN n) * msCycles)
      let s := s.modAux n fun a => { a with listening := false, secCyc := s.time }
      if s.aux[n].pair && atLeastHz (auxTs s n) (s.f (Fld.AUX_CH_SPD_STOP_F n)) then auxRoles n s.now s
      else if s.aux[n].fromStop then auxToOff n s
      else auxToAlign n s
    else s)

/-- BRAKE_TIMEOUT (R290): BRK_TMAX passes. -/
def execBrakeTimeout (n : Fin 8) (s : State) : Host.Outcome State Fault Refusal :=
  .next (
    if s.auxSt n = auxBrake then
      let s := s.advance (s.aux[n].brakeCyc + s.f (Fld.AUX_CH_RAMP_BRK_TMAX n) * secCycles)
      if s.aux[n].fromStop then auxToOff n s else auxFail n 0x2162 (auxToListen n) s
    else s)

/-- A RAMP sector begins (R291): its length from the time since the start of RAMP, and the blank. -/
def rampSector (n : Fin 8) (sec : Nat) (s : State) : State :=
  let dt := s.time - s.aux[n].since
  let f := s.f (Fld.AUX_CH_RAMP_R_F0 n) * secCycles + s.f (Fld.AUX_CH_RAMP_R_ACC n) * dt
  let f1 := s.f (Fld.AUX_CH_RAMP_R_F1 n) * secCycles
  let len := 100000000 * secCycles / min f f1
  let s := s.setF (Fld.AUX_CH_STATUS_SECTOR n) sec
  let s := s.modAux n fun a => { a with secCyc := s.time, secLen := len, atF1 := f1 ≤ f }
  auxRoles n s.now (auxBlank n s.time (auxSpeed n len s))

/-- ALIGN_END (R291): RAMP starts in the sector after ALN_SEC. -/
def execAlignEnd (n : Fin 8) (s : State) : Host.Outcome State Fault Refusal :=
  .next (
    if s.auxSt n = auxAlign then
      let s := s.advance ((s.aux[n].pulseEnd + 15) / 16 + s.f (Fld.AUX_CH_START_ALN_T n) * 10 * msCycles)
      let s := (setAux n auxRamp s).modAux n fun a => { a with okSec := 0, f1Sec := 0 }
      rampSector n ((s.f (Fld.AUX_CH_CTL_ALN_SEC n) + 1) % 6) s
    else s)

/-- RAMP_SECTOR_END (R291): the next sector, or after twelve at R_F1 a failure. -/
def execRampSectorEnd (n : Fin 8) (s : State) : Host.Outcome State Fault Refusal :=
  .next (
    if s.auxSt n = auxRamp then
      let a := s.aux[n]
      let s := s.advance (a.secCyc + a.secLen)
      let f1 := a.f1Sec + (if a.atF1 then 1 else 0)
      let s := s.modAux n fun x => { x with okSec := if a.took then a.okSec + 1 else 0, f1Sec := f1 }
      if 12 ≤ f1 then auxFail n 0x2162 (auxToListen n) s
      else rampSector n ((s.f (Fld.AUX_CH_STATUS_SECTOR n) + 1) % 6) s
    else s)

/-- RUN_OK_EXPIRY (R292): a timeout that falls no later is counted first (R300), and the run has then not lasted. -/
def execRunOkExpiry (n : Fin 8) (s : State) : Host.Outcome State Fault Refusal :=
  .next (
    let due := s.aux[n].runCyc + s.f (Fld.AUX_CH_SPD_RUN_OK n) * 100 * msCycles
    if s.auxSt n = auxRun && due < zcTimeout s n then (s.advance due).setF (Fld.AUX_CH_STATUS_FAILS n) 0 else s)

/-! ## Peak events (R279, R282) -/

/-- The peak comparator of a channel comes to a level at a tap. A rise beyond PK_BLANK after the latest cell edge holds the
high-role commands off until the next period start; in BRAKE it turns the low sides off. -/
def auxPeak (n : Fin 8) (level : Bool) (t : Nat) (s : State) : State :=
  let g := auxGroup n
  let te := vpEffect t
  let rose := level && !s.aux[n].peak && (s.grp g).lastEdge + 16 * s.f (Fld.AUX_CH_IPK_PK_BLANK n) < t + 1
  let s := (s.advanceTap te).modAux n fun a => { a with peak := level }
  let st := s.auxSt n
  if rose && auxBrake ≤ st && st ≤ auxRun then
    let s := s.modAux n fun a => { a with hold := true }
    if st = auxBrake then
      let tref := s.f (Fld.PWM_G_BOOT_T_REF g)
      (s.modCells g fun x => { x.loOff tref te with pend := none }).edgeAt g te s
    else
      (List.finRange 3).foldl (fun s c =>
        let c : Fin 9 := ⟨c.val, by omega⟩
        if auxRole s n c.val te = 2 then setCmd g c false te s else s) s
  else s

/-- The output of the channel's own peak comparator: TH in steps of 3.2 mV, with its hysteresis (R279). -/
def auxOwn (s : State) (n : Fin 8) : Bool :=
  let v := s.aux[n].ipk
  let th := s.f (Fld.AUX_CH_IPK_TH n) * 3200
  decide (th < v) || (s.aux[n].own && decide (th ≤ v + cmpHys (s.f (Fld.AUX_CH_IPK_HYS n))))

/-- AUX_PEAK_EVENT (R279, R282): the voltage of AUXn_IPK comes to a number of microvolts at a tap, which with PK_SRC = 0 may change the
peak event; with PK_SRC = 1 the oldest report of the window comparator of PK_SEL is taken. -/
def execAuxPeakEvent (n : Fin 8) (own : Option (Nat × Nat)) (s : State) : Host.Outcome State Fault Refusal :=
  .next (
    let src := s.flag (Fld.AUX_CH_CTL_PK_SRC n)
    match own with
    | some (uv, t) =>
      let s := (s.advanceTap t).modAux n fun a => { a with ipk := uv }
      let l := auxOwn s n
      let s := s.modAux n fun a => { a with own := l }
      if !src && l != s.aux[n].peak then auxPeak n l t s else s
    | none =>
      match s.aux[n].pkEv with
      | (l, t) :: rest => if src then auxPeak n l t (s.modAux n fun a => { a with pkEv := rest }) else s
      | [] => s)

/-- A channel whose peak source or its thresholds have been written takes the level of the source there is now (R279). -/
def auxPeakSource (n : Fin 8) (s : State) : State :=
  let w : Fin 64 := ⟨s.f (Fld.AUX_CH_CTL_PK_SEL n) % 64, Nat.mod_lt _ (by decide)⟩
  let s := s.modAux n fun a => { a with own := auxOwn s n, pkEv := [] }
  s.modAux n fun a => { a with peak := if s.flag (Fld.AUX_CH_CTL_PK_SRC n) then s.flag (Fld.CMP_WC_STAT_HI w) else a.own }

/-- A write to the channel's registers (R299): ignored with WR_IGN while STATE is neither OFF nor FAULT. -/
def auxConfigWrite (n : Fin 8) (r : Reg) (v : Word) (s : State) : State :=
  if s.auxSt n = auxOff || s.auxSt n = auxFault then
    let s := writePlain r v s
    match r with
    | .AUX_CH_CTL _ => auxPeakSource n s
    | .AUX_CH_IPK _ => auxPeakSource n s
    | _ => s
  else writeGuarded r v (BitVec.allOnes 32) (auxIgnored n) s

end Sys2Proof.Machine
end

