-- ==== Sys2Proof/Machine/DcLink.lean ====
section
/-! DEFINITION. The commands of the DC link (11): precharge and its checks, the contact, voltages that grow old, and the
discharge sequencer. Voltages are compared in units of 0.1 V / 2^22 (R302). -/

namespace Sys2Proof.Machine

open Sys2Proof

/-- PCH_STATE. -/
def State.pch (s : State) : Nat := s.f Fld.PWM_DSC_PCH_STAT_PCH_STATE

abbrev pchOpen : Nat := 0
abbrev pchPrecharging : Nat := 1
abbrev pchClosing : Nat := 2
abbrev pchClosed : Nat := 3
abbrev pchAborted : Nat := 4

def setPch (v : Nat) (s : State) : State := if s.pch = v then s else dclEvent (s.setF Fld.PWM_DSC_PCH_STAT_PCH_STATE v)

/-- A voltage limit of a register, in 0.1 V, in the units of `voltage`. -/
def volts (x : Nat) : Nat := x * 2 ^ 22

/-- Every contactor opens. -/
def openContactors (s : State) : State := s.modDcl fun d => { d with pre := false, main := false, neg := false, openAt := none }

/-- The precharge aborts (R304): its cause's bit and code. -/
def pchAbort (F : RF) (code : Nat) (s : State) : State :=
  recordFault code (setPch pchAborted ((openContactors s).raise F))

/-- The auxiliary contact reads closed (R303): the synchronised level of FB_IO. -/
def contactClosed (s : State) : Bool := s.sys.sync.getLsbD (s.f Fld.PWM_DSC_PCH_CFG_FB_IO)

/-- The bus voltage does not exceed the link voltage by more than DV_CLOSE; unknown voltages do not compare (R303). -/
def closeEnough (s : State) (twoSided : Bool) : Bool :=
  match s.linkV, s.busV with
  | some l, some b =>
    let dv := volts (s.f Fld.PWM_DSC_PCH_V_DV_CLOSE)
    b ≤ l + dv && (!twoSided || l ≤ b + dv)
  | _, _ => false

def pchIgnored (s : State) : State := s.raise Fld.PWM_DSC_PCH_STAT_WR_IGN

/-- A CLOSE command takes effect (R303). -/
def pchCloseOk (s : State) : Bool :=
  (s.dev = devStandby || s.dev = devArmed) && s.pch = pchOpen && (s.dsg = 0 || s.dsg = 4)

/-- A CLOSE command (R303). -/
def pchClose (s : State) : State :=
  if pchCloseOk s then
    let s := if s.dsg = 4 then setDsg 0 s else s
    let s := s.modDcl fun d => { d with pchT0 := s.time, pre := true, main := false, openAt := none,
                                        neg := s.flag Fld.PWM_DSC_PCH_CFG_NEG_EN }
    setPch pchPrecharging s
  else pchIgnored s

/-- An OPEN command (R303, R304). -/
def pchOpenCmd (s : State) : State := if s.dev = devRun then pchIgnored s else setPch pchOpen (openContactors s)

/-- A CLOSE write, and an OPEN write, with its key (R303, R304). -/
def pchCloseKey (key : BitVec 16) (s : State) : State := if key = 0x5AC3#16 then pchClose s else pchIgnored s

def pchOpenKey (key : BitVec 16) (s : State) : State := if key = 0x5AC3#16 then pchOpenCmd s else pchIgnored s

/-- PRECHARGE_CLOSE (R303). -/
def execPrechargeClose (key : BitVec 16) (s : State) : Host.Outcome State Fault Refusal := .next (agentTurn (pchCloseKey key) s)

/-- PRECHARGE_OPEN (R304). -/
def execPrechargeOpen (key : BitVec 16) (s : State) : Host.Outcome State Fault Refusal := .next (agentTurn (pchOpenKey key) s)

/-- PRECHARGE_RISE_CHECK (R303 step 2). -/
def execPrechargeRiseCheck (s : State) : Host.Outcome State Fault Refusal :=
  .next (
    if s.pch = pchPrecharging || s.pch = pchClosing then
      let s := s.advance (s.dcl.pchT0 + s.f Fld.PWM_DSC_PCH_TIME_T_RISE * 10 * msCycles)
      match s.linkV with
      | some v => if v < volts (s.f Fld.PWM_DSC_PCH_V_V_MIN1) then pchAbort Fld.PWM_DSC_PCH_STAT_SHORT 0x71C0 s else s
      | none => pchAbort Fld.PWM_DSC_PCH_STAT_SHORT 0x71C0 s
    else s)

/-- PRECHARGE_TIMEOUT (R303 step 3). -/
def execPrechargeTimeout (s : State) : Host.Outcome State Fault Refusal :=
  .next (
    if s.pch = pchPrecharging then
      pchAbort Fld.PWM_DSC_PCH_STAT_TMO 0x71C1 (s.advance (s.dcl.pchT0 + s.f Fld.PWM_DSC_PCH_TIME_T_MAX * 100 * msCycles))
    else s)

/-- PRECHARGE_OVERLAP_END (R303 step 4). -/
def execPrechargeOverlapEnd (s : State) : Host.Outcome State Fault Refusal :=
  .next (
    if s.pch = pchClosing && s.dcl.pre then
      (s.advance (s.dcl.pchT1 + s.f Fld.PWM_DSC_PCH_TIME_T_OVL * msCycles)).modDcl fun d => { d with pre := false }
    else s)

/-- PRECHARGE_CLOSE_CHECK (R303 step 5). -/
def execPrechargeCloseCheck (s : State) : Host.Outcome State Fault Refusal :=
  .next (
    if s.pch = pchClosing then
      let s := s.advance (s.dcl.pchT1 + (s.f Fld.PWM_DSC_PCH_TIME_T_OVL + 20) * msCycles)
      if closeEnough s true && (!s.flag Fld.PWM_DSC_PCH_CFG_FB_EN || contactClosed s) then
        setPch pchClosed (s.raise Fld.PWM_DSC_PCH_STAT_DONE)
      else pchAbort Fld.PWM_DSC_PCH_STAT_CLOSE_ERR 0x71C2 s
    else s)

/-- CONTACTOR_DROP (R305): the contact has read open for 3 ms while CLOSED. -/
def execContactorDrop (s : State) : Host.Outcome State Fault Refusal :=
  .next (
    match s.dcl.openAt with
    | some t =>
      if s.pch = pchClosed && s.flag Fld.PWM_DSC_PCH_CFG_FB_EN then
        pchAbort Fld.PWM_DSC_PCH_STAT_DROP 0x73C3 (s.advance (t + 3 * msCycles))
      else s
    | none => s)

/-- What a change of the contact's pin does to the time of R305. -/
def contactEdge (pin : Fin 32) (level : Bool) (s : State) : State :=
  if s.f Fld.PWM_DSC_PCH_CFG_FB_IO = pin.val then s.modDcl fun d => { d with openAt := if level then none else some s.time }
  else s

/-- Core cycles in 10 ms: the age at which a voltage becomes unknown (R302). -/
def voltageAge : Nat := 10 * msCycles

/-- VOLTAGE_STALE (R302): the newest result of the link voltage, or of the plant-bus voltage, becomes older than 10 ms. -/
def execVoltageStale (link : Bool) (s : State) : Host.Outcome State Fault Refusal :=
  .next (
    if link then
      match s.dcl.link with
      | some (_, t) => (s.advance (t + voltageAge + 1)).modDcl fun d => { d with link := none }
      | none => s
    else
      match s.dcl.bus with
      | some (_, t) => (s.advance (t + voltageAge + 1)).modDcl fun d => { d with bus := none }
      | none => s)

/-! ## Discharge (R309 to R312) -/

/-- The order of the start causes of one peripheral cycle (R314): Anvil, SSPI, agent. -/
def dsgRank (src : Nat) : Nat := if src = 0 then 3 else src

/-- The discharge sequencer starts, for a cause coded as SRC (R309): a running precharge ends, every contactor opens. A second cause of
the same peripheral cycle joins the run, and SRC takes the first of them in the order of R314. -/
def dsgRequest (src : Nat) (s : State) : State × Bool :=
  if s.dsgRun && s.dcl.dsgT0 / 4 = s.perCycle then
    (if dsgRank src < dsgRank (s.f Fld.PWM_DSC_DSG_STAT_SRC) then s.setF Fld.PWM_DSC_DSG_STAT_SRC src else s, true)
  else if (s.dev = devArmed || s.dev = devRun || s.dev = devSafe || s.dev = devFault) && !s.dsgRun then
    let s := if s.pch = pchOpen then s else setPch pchAborted s
    let s := (openContactors s).modDcl fun d => { d with dsgT0 := s.time, second := false }
    let s := (s.setF Fld.PWM_DSC_DSG_STAT_SRC src).setF Fld.PWM_DSC_DSG_STAT_ELAPSED 0
    (setDsg 1 s, true)
  else (s, false)

/-- The agent's request: refused, it sets WR_IGN. -/
def dsgAgent (s : State) : State :=
  let (t, ok) := dsgRequest 0 s
  if ok then t else s.raise Fld.PWM_DSC_DSG_STAT_WR_IGN

/-- A write of REQ with its key (R309). -/
def dsgKey (key : BitVec 16) (s : State) : State :=
  if key = 0xA55A#16 then dsgAgent s else s.raise Fld.PWM_DSC_DSG_STAT_WR_IGN

/-- DISCHARGE_REQUEST (R309). -/
def execDischargeRequest (key : BitVec 16) (s : State) : Host.Outcome State Fault Refusal := .next (agentTurn (dsgKey key) s)

/-- DISCHARGE_OPEN_END (R309 step 2, R310). -/
def execDischargeOpenEnd (s : State) : Host.Outcome State Fault Refusal :=
  .next (
    if s.dsg = 1 then
      let s := s.advance (s.dcl.dsgT0 + s.f Fld.PWM_DSC_DSG_CFG_T_OPEN * msCycles)
      let m := s.f Fld.PWM_DSC_DSG_CFG_FIRST
      if dsgAvail m s then dsgStart m s else dsgWatch (dsgMethodFail m s)
    else s)

/-- The core cycle in which a conversion is delivered (R391 step 3). -/
def mcvDue (o : McvOut) : Nat := 4 * (o.t0 / 4 + 5)

/-- A link result at or below V_T is delivered in the peripheral cycle of a core cycle: it ends the discharge before a failed check or the
time limit of that cycle (R314). -/
def linkDone (s : State) (cyc : Nat) : Bool :=
  (List.finRange 4).any fun c => s.mcv.ch[c].out.any fun o =>
    mcvDue o / 4 = cyc / 4 && o.read.isNone && !o.unset && o.ch = s.f Fld.PWM_DSC_VCH_LINK_CH &&
      (if o.ovr then 2 ^ 22 else o.code) * s.f Fld.PWM_DSC_VCH_V_FS ≤ s.dsgTarget

/-- DECAY_CHECK (R311, R314). -/
def execDecayCheck (s : State) : Host.Outcome State Fault Refusal :=
  .next (
    if s.dsg = 2 || s.dsg = 3 then
      let s := s.advance (s.dcl.methT0 + s.f Fld.PWM_DSC_DSG_CFG_T_CHK * voltageAge)
      if linkDone s s.time then s else
      let e : Option Int := s.linkV.map fun v => (v : Int) - s.dsgTarget
      match e, s.dcl.ePrev with
      | some e, some p =>
        if e * 256 ≤ s.f Fld.PWM_DSC_DSG_CFG_RATIO * p then s.modDcl fun d => { d with methT0 := s.time, ePrev := some e }
        else dsgWatch (dsgMethodFail (s.dsg - 2) s)
      | _, _ => dsgWatch (dsgMethodFail (s.dsg - 2) s)
    else s)

/-- DISCHARGE_TIMEOUT (R312, R314): TMAX passes without the link known to lie at or below V_T. -/
def execDischargeTimeout (s : State) : Host.Outcome State Fault Refusal :=
  .next (
    if s.dsgRun then
      let s := s.advance (s.dcl.dsgT0 + s.f Fld.PWM_DSC_DSG_TGT_TMAX * voltageAge)
      if linkDone s s.time then s else
      match s.linkV with
      | some v => if v ≤ s.dsgTarget then s else dsgWatch (dsgFail s)
      | none => dsgWatch (dsgFail s)
    else s)

/-- A metering result reaches the sequencers (R302, R303 step 3, R309 step 4): the newest voltage, the closing of the main
contactor, the end of a discharge. -/
def dclResult (ch code : Nat) (ovr : Bool) (s : State) : State :=
  let c := if ovr then 2 ^ 22 else code
  let s := if ch = s.f Fld.PWM_DSC_VCH_SRC_CH then s.modDcl fun d => { d with bus := some (c, s.time) } else s
  if ch = s.f Fld.PWM_DSC_VCH_LINK_CH then
    let s := s.modDcl fun d => { d with link := some (c, s.time) }
    let s := if s.pch = pchPrecharging && closeEnough s false then
        setPch pchClosing (s.modDcl fun d => { d with pchT1 := s.time, main := true })
      else s
    match s.linkV with
    | some v =>
      if (s.dsg = 2 || s.dsg = 3) && v ≤ s.dsgTarget then
        recordFault 0x60C2 (dsgEnd 4 (s.raise Fld.PWM_DSC_DSG_STAT_DONE))
      else s
    | none => s
  else s

/-- PWM_DSC_VLINK as read (R313): 0.1 V, 0xFFFF while unknown. -/
def vlinkWord (s : State) : Word :=
  let show' (v : Option Nat) : Nat := match v with
    | some x => min (x / 2 ^ 22) 0xFFFE
    | none => 0xFFFF
  BitVec.ofNat 32 (show' s.linkV + 65536 * show' s.busV)

/-- PWM_DSC_DSG_STAT as read (R313): ELAPSED counts while the sequencer runs. -/
def dsgStatWord (s : State) : Word :=
  let w := s.rd .PWM_DSC_DSG_STAT
  if s.dsgRun then wPut w 16 16 (dsgElapsed s) else w

/-- A write to PWM_DSC_DSG_SHM (R313): an address outside shared SRAM below the Crucible leaves it and sets WR_IGN. -/
def dsgShmWrite (v : Word) (s : State) : State :=
  if s.locked then s
  else
    let a := v.toNat / 4 * 4
    writeWhere (0x10000000 ≤ a && a < 0x103F0000) .PWM_DSC_DSG_SHM v (fun s => s.raise Fld.PWM_DSC_DSG_STAT_WR_IGN)
      (writePlain .PWM_DSC_DSG_SHM v) s

end Sys2Proof.Machine
end

