-- ==== Sys2Proof/Machine/Fp32.lean ====
section
/-! DEFINITION. FP32 arithmetic (R140): IEEE 754 binary32 with round to nearest even, subnormals in full, tininess detected after
rounding, and the exception flags. Every operation is computed exactly and rounded once. -/

namespace Sys2Proof.Machine

open Sys2Proof

/-! ## Exact fractions -/

/-- A fraction: a numerator and a positive denominator, not reduced. -/
structure Frac where
  num : Int
  den : Nat
  deriving DecidableEq, Repr

def Frac.ofInt (i : Int) : Frac := ⟨i, 1⟩
def Frac.add (a b : Frac) : Frac := ⟨a.num * b.den + b.num * a.den, a.den * b.den⟩
def Frac.neg (a : Frac) : Frac := ⟨-a.num, a.den⟩
def Frac.sub (a b : Frac) : Frac := a.add b.neg
def Frac.mul (a b : Frac) : Frac := ⟨a.num * b.num, a.den * b.den⟩
def Frac.le (a b : Frac) : Bool := a.num * b.den ≤ b.num * a.den
def Frac.lt (a b : Frac) : Bool := a.num * b.den < b.num * a.den
def Frac.abs (a : Frac) : Frac := ⟨(a.num.natAbs : Int), a.den⟩

/-- Division; by 0 it gives 0 (never asked for). -/
def Frac.div (a b : Frac) : Frac :=
  if b.num = 0 then ⟨0, 1⟩
  else if 0 < b.num then ⟨a.num * b.den, a.den * b.num.natAbs⟩ else ⟨-(a.num * b.den), a.den * b.num.natAbs⟩

/-- The greatest integer not above a fraction. -/
def Frac.floor (a : Frac) : Int := a.num / (a.den : Int)

def Frac.min (a b : Frac) : Frac := if a.le b then a else b
def Frac.max (a b : Frac) : Frac := if a.le b then b else a

/-- 2 to an integer power, as a fraction. -/
def Frac.pow2 (e : Int) : Frac := if 0 ≤ e then ⟨2 ^ e.toNat, 1⟩ else ⟨1, 2 ^ (-e).toNat⟩

/-! ## Words -/

/-- The exception flags of FFLAGS (R141): NV, DZ, OF, UF and NX from bit 0 up. -/
abbrev FFlags := BitVec 5

abbrev flNV : FFlags := 1#5
abbrev flDZ : FFlags := 2#5
abbrev flOF : FFlags := 4#5
abbrev flUF : FFlags := 8#5
abbrev flNX : FFlags := 16#5

/-- The quiet NaN that instructions produce (R140). -/
def fNaN : Word := 0x7FC00000#32

def fSign (w : Word) : Bool := w.getLsbD 31
def fExp (w : Word) : Nat := wGet w 23 8
def fMan (w : Word) : Nat := wGet w 0 23
def fIsNaN (w : Word) : Bool := fExp w = 255 && fMan w != 0
def fIsSNaN (w : Word) : Bool := fIsNaN w && !w.getLsbD 22
def fIsInf (w : Word) : Bool := fExp w = 255 && fMan w = 0
def fIsZero (w : Word) : Bool := fExp w = 0 && fMan w = 0
def fFinite (w : Word) : Bool := fExp w != 255
def fInf (neg : Bool) : Word := if neg then 0xFF800000#32 else 0x7F800000#32
def fZero (neg : Bool) : Word := if neg then 0x80000000#32 else 0#32

/-- The significand and exponent of a finite word: its magnitude is the first times 2 to the second. -/
def fUnpack (w : Word) : Nat × Int := if fExp w = 0 then (fMan w, -149) else (fMan w + 2 ^ 23, (fExp w : Int) - 150)

/-- The value of a finite word. -/
def fVal (w : Word) : Frac :=
  let (m, e) := fUnpack w
  let f := Frac.mul (Frac.ofInt m) (Frac.pow2 e)
  if fSign w then f.neg else f

/-- A quotient of naturals rounded to the nearest integer, ties to even, and whether that is inexact. -/
def divRne (n d : Nat) : Nat × Bool :=
  let q := n / d
  let r := n % d
  if 2 * r < d then (q, r != 0) else if d < 2 * r then (q + 1, true) else (q + q % 2, true)

/-- The exponent of the leading bit of a positive quotient. -/
def leadExp (n d : Nat) : Int :=
  let k : Int := (Nat.log2 n : Int) - (Nat.log2 d : Int)
  let below : Bool := if 0 ≤ k then n < d * 2 ^ k.toNat else n * 2 ^ (-k).toNat < d
  if below then k - 1 else k

/-- A positive quotient rounded in units of 2 to a power. -/
def roundAt (n d : Nat) (u : Int) : Nat × Bool := if 0 ≤ u then divRne n (d * 2 ^ u.toNat) else divRne (n * 2 ^ (-u).toNat) d

/-- A quotient of naturals with a sign rounded to FP32, with its flags. -/
def fRound (neg : Bool) (n d : Nat) : Word × FFlags :=
  if n = 0 then (fZero neg, 0#5)
  else
    let e := leadExp n d
    let u := max (e - 23) (-149)
    let (m, inex) := roundAt n d u
    let tiny : Bool := if -126 ≤ e then false else if e < -127 then true else (roundAt n d (e - 23)).1 < 2 ^ 24
    let m' := if m = 2 ^ 24 then 2 ^ 23 else m
    let u' := if m = 2 ^ 24 then u + 1 else u
    let s : Word := if neg then 0x80000000#32 else 0#32
    if m' < 2 ^ 23 then (s ||| BitVec.ofNat 32 m', if inex then flNX ||| (if tiny then flUF else 0#5) else 0#5)
    else if 254 < u' + 150 then (fInf neg, flOF ||| flNX)
    else
      (s ||| BitVec.ofNat 32 ((u' + 150).toNat * 2 ^ 23 + (m' - 2 ^ 23)),
        if inex then flNX ||| (if tiny then flUF else 0#5) else 0#5)

/-- A fraction rounded to FP32. -/
def fOfFrac (f : Frac) : Word × FFlags := fRound (f.num < 0) f.num.natAbs f.den

/-! ## Operations -/

/-- The NaN result of an operation, with NV for a signalling operand. -/
def fNaNOf (l : List Word) : Word × FFlags := (fNaN, if l.any fIsSNaN then flNV else 0#5)

def fNegate (w : Word) : Word := w ^^^ 0x80000000#32

/-- The sum of two finite values given as fractions, with the sign of an exact zero. -/
def fSum (x y : Frac) (zeroNeg : Bool) : Word × FFlags :=
  let z := x.add y
  if z.num = 0 then (fZero zeroNeg, 0#5) else fOfFrac z

/-- FADD. -/
def fAdd (a b : Word) : Word × FFlags :=
  if fIsNaN a || fIsNaN b then fNaNOf [a, b]
  else if fIsInf a && fIsInf b then (if fSign a = fSign b then (a, 0#5) else (fNaN, flNV))
  else if fIsInf a then (a, 0#5)
  else if fIsInf b then (b, 0#5)
  else fSum (fVal a) (fVal b) (fSign a && fSign b)

/-- FSUB. -/
def fSub (a b : Word) : Word × FFlags :=
  if fIsNaN a || fIsNaN b then fNaNOf [a, b] else fAdd a (fNegate b)

/-- FMUL. -/
def fMul (a b : Word) : Word × FFlags :=
  let neg := fSign a != fSign b
  if fIsNaN a || fIsNaN b then fNaNOf [a, b]
  else if (fIsInf a && fIsZero b) || (fIsZero a && fIsInf b) then (fNaN, flNV)
  else if fIsInf a || fIsInf b then (fInf neg, 0#5)
  else
    let p := Frac.mul (fVal a) (fVal b)
    fRound neg p.num.natAbs p.den

/-- FMAC: c + a × b, rounded once. -/
def fMac (c a b : Word) : Word × FFlags :=
  let neg := fSign a != fSign b
  let bad := (fIsInf a && fIsZero b) || (fIsZero a && fIsInf b)
  if bad then (fNaN, flNV)
  else if fIsNaN a || fIsNaN b || fIsNaN c then fNaNOf [a, b, c]
  else if fIsInf a || fIsInf b then (if fIsInf c && fSign c != neg then (fNaN, flNV) else (fInf neg, 0#5))
  else if fIsInf c then (c, 0#5)
  else fSum (fVal c) (Frac.mul (fVal a) (fVal b)) (fSign c && neg)

/-- FDIV. -/
def fDiv (a b : Word) : Word × FFlags :=
  let neg := fSign a != fSign b
  if fIsNaN a || fIsNaN b then fNaNOf [a, b]
  else if (fIsInf a && fIsInf b) || (fIsZero a && fIsZero b) then (fNaN, flNV)
  else if fIsInf a then (fInf neg, 0#5)
  else if fIsZero b then (fInf neg, flDZ)
  else if fIsInf b then (fZero neg, 0#5)
  else
    let q := Frac.div (fVal a) (fVal b)
    fRound neg q.num.natAbs q.den

/-- The integer square root, one bit at a time from bit `k`. -/
def isqrtFrom (n : Nat) : Nat → Nat → Nat
  | 0, r => r
  | k + 1, r => if (r + 2 ^ k) * (r + 2 ^ k) ≤ n then isqrtFrom n k (r + 2 ^ k) else isqrtFrom n k r

/-- FSQRT. The root is formed with more bits than the significand and a last bit that tells whether it is exact. -/
def fSqrt (a : Word) : Word × FFlags :=
  if fIsNaN a then fNaNOf [a]
  else if fIsZero a then (a, 0#5)
  else if fSign a then (fNaN, flNV)
  else if fIsInf a then (a, 0#5)
  else
    let (m, e) := fUnpack a
    let e2 : Int := e - 60 - (e % 2)
    let n := m * 2 ^ (e - e2).toNat
    let r := isqrtFrom n 48 0
    let sticky := 2 * r + (if r * r = n then 0 else 1)
    let p := Frac.mul (Frac.ofInt sticky) (Frac.pow2 (e2 / 2 - 1))
    fRound false p.num.natAbs p.den

/-- a < b for operands that are not NaN. -/
def fLess (a b : Word) : Bool :=
  if fIsZero a && fIsZero b then false
  else if fIsInf a then fSign a && !(fIsInf b && fSign b)
  else if fIsInf b then !fSign b
  else (fVal a).lt (fVal b)

/-- FMIN and FMAX (R140): −0.0 lies below +0.0. -/
def fMinMax (isMax : Bool) (a b : Word) : Word × FFlags :=
  let fl := if fIsSNaN a || fIsSNaN b then flNV else 0#5
  if fIsNaN a && fIsNaN b then (fNaN, fl)
  else if fIsNaN a then (b, fl)
  else if fIsNaN b then (a, fl)
  else
    let below : Bool := fLess a b || (fIsZero a && fIsZero b && fSign a && !fSign b)
    (if below != isMax then a else b, fl)

/-- FEQ, a quiet comparison. -/
def fEq (a b : Word) : Bool × FFlags :=
  if fIsNaN a || fIsNaN b then (false, if fIsSNaN a || fIsSNaN b then flNV else 0#5)
  else (decide (a = b) || (fIsZero a && fIsZero b), 0#5)

/-- FLT and FLE, signalling comparisons. -/
def fCompare (orEq : Bool) (a b : Word) : Bool × FFlags :=
  if fIsNaN a || fIsNaN b then (false, flNV)
  else (fLess a b || (orEq && (fEq a b).1), 0#5)

/-- A fraction rounded to the nearest integer, ties to even. -/
def Frac.rne (f : Frac) : Int × Bool :=
  let (q, inex) := divRne f.num.natAbs f.den
  (if f.num < 0 then -(q : Int) else q, inex)

/-- FCVTWS (R138): a value outside the signed range saturates, NaN gives 0; both are invalid. -/
def fToInt (a : Word) : Word × FFlags :=
  if fIsNaN a then (0#32, flNV)
  else if fIsInf a then (if fSign a then 0x80000000#32 else 0x7FFFFFFF#32, flNV)
  else
    let (i, inex) := (fVal a).rne
    if i < -(2 ^ 31) then (0x80000000#32, flNV)
    else if 2 ^ 31 ≤ i then (0x7FFFFFFF#32, flNV)
    else (BitVec.ofInt 32 i, if inex then flNX else 0#5)

/-- FCVTSW. -/
def fOfInt (x : Word) : Word × FFlags := fOfFrac (Frac.ofInt x.toInt)

/-! ## Sine and cosine -/

/-- The terms of the sine series at an angle in units of 2^-60 rad, from a term on; each is the last times −x² / (k (k + 1)). -/
def sinTerms (x2 : Int) : Nat → Nat → Int → Int
  | 0, _, _ => 0
  | n + 1, k, t => t + sinTerms x2 n (k + 2) (-(t * x2 / 2 ^ 60) / ((k * (k + 1) : Nat) : Int))

/-- π / 2 in units of 2^-60. -/
def halfPi : Int := 1811004864519280711

/-- sin of an angle in au within the first quarter, in units of 2^-60. -/
def sinQuarter (r : Nat) : Int :=
  let x : Int := (r : Int) * halfPi / 2 ^ 30
  sinTerms (x * x / 2 ^ 60) 14 2 x

/-- sin of an angle in au (R51), in units of 2^-60. -/
def sinAu (a : Word) : Int :=
  let r := wGet a 0 30
  match wGet a 30 2 with
  | 0 => sinQuarter r
  | 1 => sinQuarter (2 ^ 30 - r)
  | 2 => -(sinQuarter r)
  | _ => -(sinQuarter (2 ^ 30 - r))

/-- cos of an angle in au, in units of 2^-60. -/
def cosAu (a : Word) : Int := sinAu (a + 0x40000000#32)

/-- sin and cos as fractions. -/
def sinFrac (a : Word) : Frac := ⟨sinAu a, 2 ^ 60⟩
def cosFrac (a : Word) : Frac := ⟨cosAu a, 2 ^ 60⟩

end Sys2Proof.Machine
end

