-- ==== Sys2Proof/Machine/Anvil.lean ====
section
/-! DEFINITION. The Anvil (12): reactions and source 112, STO, the monitoring cycle, the safety port, the lock check and the
failure of the domain. Times of the Anvil are counted in monitoring cycles of 50 us where its rules check them in a cycle. -/

namespace Sys2Proof.Machine

open Sys2Proof

/-! ## Reactions (R326 to R329) -/

def State.modAnv (s : State) (f : AnvSt → AnvSt) : State := { s with anv := f s.anv }

def State.modAnvAx (s : State) (n : Fin 4) (f : AnvAx → AnvAx) : State := s.modAnv fun a => { a with ax := vmod a.ax n f }

/-- The Anvil holds parameters that passed the lock check (R343), and the domain works. -/
def State.anvLive (s : State) : Bool :=
  s.flag Fld.ANV_PSTAT_DONE && !s.flag Fld.ANV_PSTAT_RANGE_ERR && !s.anv.failed

/-- An axis is monitored. -/
def State.anvOn (s : State) (n : Fin 4) : Bool := s.flag (Fld.ANV_AX_CFG_EN n)

/-- A reaction is active for an axis (R328). -/
def AnvReact.on (e : AnvReact) (n : Fin 4) : Bool := e.axis = none || e.axis = some n

/-- The code applied to an axis (R328); 0 with none. -/
def anvCode (s : State) (n : Fin 4) : Nat :=
  let has (c : Nat) : Bool := s.anv.react.any fun e => e.on n && e.code = c
  if has 6 then 6 else if has 1 || (has 2 && has 3) then 1 else if has 2 then 2 else if has 3 then 3
  else if has 4 then 4 else if has 5 then 5 else 0

/-- The action that source 112 names for an AX group (R327): for SAFE the axis's selection, for SS1 nothing before
the stop has completed. -/
def anvAction (s : State) (n : Fin 4) : Nat :=
  match anvCode s n with
  | 1 => 1
  | 2 => 2
  | 3 => 3
  | 5 => if s.anv.ax[n].off then 1 else 0
  | 0 => 0
  | _ => match s.f (Fld.ANV_AX_STAT_SEL n) with
    | 1 => 2
    | 2 => 3
    | _ => 1

/-- A reaction of device scope is active. -/
def anvDevice (s : State) : Bool := s.anv.react.any fun e => e.axis = none

/-- The action per group (R327). -/
def anvNames (s : State) (g : Fin 16) : Nat :=
  if h : g.val < 4 then anvAction s ⟨g.val, h⟩ else if g.val < 6 && anvDevice s then 1 else 0

/-- An axis that is in ALIGN, CATCH, RUN or STOPPING. -/
def State.moving (s : State) (n : Fin 4) : Bool := 1 ≤ s.axis n && s.axis n ≤ axStopping

/-- SBCk may be on: the conditions under which the brake is released (R327, R334). -/
def sbcAllowed (s : State) (k : Fin 2) : Bool :=
  let n := sbcAxis s k
  (if k.val = 0 then s.flag Fld.ANV_SBC_EN0 else s.flag Fld.ANV_SBC_EN1) && s.sv = svEnabled && !s.anv.failed &&
    (s.dev = devRun || s.dev = devDebug) && s.moving n && (anvCode s n = 0 || (anvCode s n = 5 && !s.anv.ax[n].off))

/-- SBCk is on: a monitoring cycle has released the brake (R318), and it is allowed (R334). -/
def sbcOut (s : State) (k : Fin 2) : Bool := s.anv.brk.getLsbD k.val && sbcAllowed s k

/-- What the reactions in force show and do (R327, R351): axis status, DEV_REACT and source 112. -/
def anvApply (s : State) : State :=
  let s := (List.finRange 4).foldl (fun s n =>
    (s.setF (Fld.ANV_AX_STAT_REACT_ACT n) (bit (anvCode s n != 0))).setF (Fld.ANV_AX_STAT_REACT n) (anvCode s n)) s
  let s := s.setF Fld.ANV_STATUS_DEV_REACT (bit (anvDevice s))
  let s := brakeDrop (fun k => !sbcAllowed s k) s
  let names := Vector.ofFn fun g => anvNames s g
  if names = s.qnc.anvAct then s
  else
    let s := s.modQnc fun q => { q with anvAct := names }
    if names.any (· != 0) then sourceActive 112 s.now s else sourceDrop 112 true s

/-- SS1 starts on an axis (R333), unless it runs or has completed and stands. -/
def ss1Start (n : Fin 4) (s : State) : State :=
  if s.flag (Fld.ANV_AX_STAT_SS1_RUN n) || s.anv.ax[n].off then s
  else
    let s := s.modAnvAx n fun a => { a with ss1N0 := (s.rd (.ANV_AX_SPEED n)).toInt.natAbs, ss1K := s.anv.cycles }
    (s.raise (Fld.ANV_AX_STAT_SS1_RUN n)).lower (Fld.ANV_AX_STAT_SS1_DONE n)

/-- The fault code of a monitor (R349). -/
def anvFault (mon code : Nat) (dev : Bool) : Nat := 0x6000 + 0x100 * (if code = 0 then 1 else if dev then 3 else 2) + mon

/-- ANV_CAUSE takes a reaction. -/
def anvCause (mon ax code : Nat) (s : State) : State :=
  let s := ((s.setF Fld.ANV_CAUSE_MON mon).setF Fld.ANV_CAUSE_AXIS ax).setF Fld.ANV_CAUSE_REACT code
  s.setF Fld.ANV_CAUSE_COUNT (sat 65535 (s.f Fld.ANV_CAUSE_COUNT + 1))

/-- A reaction put in force on an axis, or on the device (R326, R327). One that is in force already adds nothing. -/
def anvAdd (mon : Nat) (ax : Option (Fin 4)) (code : Nat) (latched : Bool) (s : State) : State :=
  if s.anv.react.any fun e => e.mon = mon && e.axis = ax && e.code = code then s
  else
    let s := s.modAnv fun a => { a with react := a.react ++ [⟨mon, ax, code, latched⟩] }
    let s := anvCause mon (match ax with | none => 4 | some n => n.val) code s
    let s := if ax = none && (s.sv = svArmed || s.sv = svEnabled) then s.setSv svReact else s
    let s := if code = 5 then (List.finRange 4).foldl (fun s n => if ax = none || ax = some n then ss1Start n s else s) s else s
    let s := if mon < 0x10 then s else withCause 1 (recordFault (anvFault mon code (ax = none))) s
    let s := if ax = none && mon < 0x10 then withCause 1 enterSafe s else s
    let s := if code = 6 then (dsgRequest 1 s).1 else s
    anvApply s

/-- A monitor reacts with its reaction field (R326): NONE records its code only; a field of axis scope on a monitor of the
device acts on every enabled axis. -/
def anvReact (mon : Nat) (ax : Option (Fin 4)) (field : Nat) (s : State) : State :=
  let code := field % 8
  if code = 0 then recordFault (anvFault mon 0 false) s
  else if 8 ≤ field then anvAdd mon none code false s
  else match ax with
    | some n => anvAdd mon (some n) code false s
    | none => (List.finRange 4).foldl (fun s n => if s.anvOn n then anvAdd mon (some n) code false s else s) s

/-- SV_LATCHED (R321): the reaction SAFE of device scope under a class 0x4 cause, which is never withdrawn (R329). -/
def anvLatch (code : Nat) (s : State) : State :=
  anvAdd (code % 16) none 4 true (recordFault code (s.setSv svLatched))

/-- The reaction field of an axis's monitor (R351), by its bit in HIT. -/
def anvField (s : State) (n : Fin 4) (b : Nat) : Nat := wGet (s.rd (.ANV_AX_REACT n)) (4 * b) 4

/-- The place in ANV_AXn_REACT of the monitor of a HIT bit: I_MAX, N_MAX, SLS, SDI, torque, feedback, currents, SS1R. -/
def anvViol (n : Fin 4) (b : Nat) (v : Bool) (s : State) : State :=
  s.modAnvAx n fun a => { a with viol := if v then a.viol ||| (1#8 <<< b) else a.viol &&& ~~~(1#8 <<< b) }

/-- A monitor of an axis that stands violated reacts (R330): HIT, and its reaction; a NONE acts only when the violation
begins. -/
def anvHit (n : Fin 4) (b : Nat) (began : Bool) (s : State) : State :=
  let s := s.setF (Fld.ANV_AX_STAT_HIT n) (s.f (Fld.ANV_AX_STAT_HIT n) ||| 2 ^ b)
  if began || anvField s n b % 8 != 0 then anvReact (0x10 + b) (some n) (anvField s n b) s else s

/-! ## STO (R323 to R325) -/

/-- T_STOF in core cycles, 0 where the Anvil oscillator has stopped (R317, R323). -/
def stoFilter (s : State) : Nat := if 2 ≤ s.sys.svBad then 0 else s.f Fld.ANV_CFG_T_STOF * 10 * Config.cyclesPerUs

/-- When a pin's low level passes its filter, if it is low. -/
def stoDue (s : State) (i : Fin 2) : Option Nat := (s.anv.stoLow[i]).map fun t => t + stoFilter s

/-- The filtered level of an input is low now (R323). -/
def stoPassed (s : State) (i : Fin 2) : Bool :=
  match stoDue s i with
  | some t => t ≤ s.time
  | none => false

/-- The filtered levels of the two inputs as they stand now act (R323, R325). -/
def stoTake (s : State) : State :=
  let a := stoPassed s 0
  let b := stoPassed s 1
  let was := s.flag Fld.ANV_STATUS_CUT
  let differed := s.flag Fld.ANV_STATUS_STO_A != s.flag Fld.ANV_STATUS_STO_B
  let s := ((s.setF Fld.ANV_STATUS_STO_A (bit a)).setF Fld.ANV_STATUS_STO_B (bit b)).setF Fld.ANV_STATUS_CUT (bit (a || b))
  let s := s.modAnv fun x => { x with disc := if a = b then none else if differed then x.disc else some s.time }
  if (a || b) && !was then
    let s := if s.sv = svEnabled then s.setSv svArmed else s
    let s := (List.finRange 8).foldl (fun s n =>
      if (s.f Fld.ANV_CFG_STO_AUX).testBit n.val then auxTripped (auxGroup n) s.now s else s) s
    withCause 2 (recordFault 0x6301) s
  else s

/-- Filtered levels that fall by a core cycle act in their order: at most `fuel` of them. -/
def stoUpTo (t : Nat) : Nat → State → State
  | 0, s => s
  | fuel + 1, s =>
    let due := (List.finRange 2).filterMap fun i => if stoPassed s i then none else stoDue s i
    match due with
    | [] => s
    | d :: l =>
      let first := l.foldl min d
      if first ≤ t then stoUpTo t fuel (stoTake (s.advance first)) else s

/-- STO_INPUT_CHANGE (R323, R325): in a core cycle the two pins are at their levels (true: low), new ones or those they had.
Low levels that have lasted T_STOF by then have passed the filter. -/
def execStoInputChange (low : Bool × Bool) (t : Nat) (s : State) : Host.Outcome State Fault Refusal :=
  .next (
    let s := (stoUpTo t 2 s).advance t
    let since (low : Bool) (i : Fin 2) : Option Nat := if low then some ((s.anv.stoLow[i]).getD t) else none
    stoTake (s.modAnv fun x => { x with stoLow := #v[since low.1 0, since low.2 1] }))

/-- STO_DISCREPANCY (R324): the filtered levels have differed for longer than T_DISC. -/
def execStoDiscrepancy (s : State) : Host.Outcome State Fault Refusal :=
  .next (
    match s.anv.disc with
    | some t =>
      if s.flag Fld.ANV_STATUS_DISC then s
      else anvLatch 0x6402 ((s.advance (t + s.f Fld.ANV_CFG_T_DISC * 60000 + 1)).raise Fld.ANV_STATUS_DISC)
    | none => s)

/-! ## Inputs of the monitors (R316, R318, R320, R330, R331) -/

/-- A bank B word of channels 16 to 27 reaches the Anvil (R122, R318, R330): it joins its axis's set, and it is compared with
IMAX. -/
def anvWord (ch : Nat) (w : Word) (s : State) : State :=
  if h : 16 ≤ ch ∧ ch < 28 then
    let n : Fin 4 := ⟨(ch - 16) / 3, by omega⟩
    let p : Fin 3 := ⟨(ch - 16) % 3, Nat.mod_lt _ (by decide)⟩
    if !s.anvLive || !s.anvOn n then s
    else
      let s := s.modAnvAx n fun a => { a with words := vset a.words p (some w) }
      let s := s.modAnvAx n fun a =>
        match a.words[0], a.words[1], a.words[2] with
        | some u, some v, some x =>
          if wGet u 28 4 = wGet v 28 4 && wGet u 28 4 = wGet x 28 4 && wGet u 24 4 = 0 && wGet v 24 4 = 0 && wGet x 24 4 = 0 then
            { a with set3 := #v[u, v, x], fresh := true }
          else a
        | _, _, _ => a
      if w.getLsbD 27 then s
      else
        let limit := s.f (Fld.ANV_AX_IMAX_IMAX n) * (if s.dev = devDebug then s.f Fld.ANV_CFG_DBG_I else 256)
        let far : Bool := limit < (sext 24 w.toNat).natAbs
        let was := s.anv.ax[n].beyond
        let s := s.modAnvAx n fun a =>
          { a with beyond := if far then a.beyond ||| (1#3 <<< p.val) else a.beyond &&& ~~~(1#3 <<< p.val) }
        let s := anvViol n 0 (s.anv.ax[n].beyond != 0#3) s
        if far then anvHit n 0 (was = 0#3) s else s
  else s

/-- A metering result reaches the Anvil (R316, R320). -/
def anvVoltage (ch code : Nat) (ovr : Bool) (s : State) : State :=
  if ch = s.f Fld.ANV_VDC_CH then s.modAnv fun a => { a with vdc := some (if ovr then 2 ^ 22 else code, s.time) } else s

/-- The DC-link voltage as the Anvil converts it, in units of 0.1 V / 2^22, or none while it is unknown (R320). -/
def anvV (s : State) : Option Nat := voltage s.anv.vdc (s.f Fld.ANV_VDC_V_FS) s.time

/-- A retirement notice (R336): counted and stored, and with no spare, or above RET_MAX, RET_REACT of device scope (R353). -/
def anvRetire (pair cause : Nat) (noTarget : Bool) (s : State) : State :=
  if s.anv.failed then s
  else
    let s := s.setF Fld.ANV_RET_CNT (sat 31 (s.f Fld.ANV_RET_CNT + 1))
    let s := ((s.setF Fld.ANV_RET_PAIR pair).setF Fld.ANV_RET_CAUSE cause).setF Fld.ANV_RET_NO_TGT (bit noTarget)
    if noTarget || s.f Fld.ANV_WD_RET_MAX < s.f Fld.ANV_RET_CNT then
      let code := s.f Fld.ANV_WD_RET_REACT % 8
      anvReact 0x1A none (if code = 0 then 0 else 8 + code) (s.raise Fld.ANV_STATUS_RET_HIT)
    else s

/-! ## The monitoring cycle (R318, R319, R330 to R337) -/

/-- The position of an axis (R316, R318): the count of its QE channel or the last single-turn value of its SSI channel, and
whether the channel has failed. -/
def anvPos (s : State) (n : Fin 4) : Nat × Bool :=
  let ch := s.f (Fld.ANV_AX_CFG_FB_CH n)
  if s.f (Fld.ANV_AX_CFG_FB_SRC n) = 1 then
    let q : Fin 8 := ⟨ch % 8, Nat.mod_lt _ (by decide)⟩
    (s.f (Fld.FBK_QE_CNT_CNT q), s.flag (Fld.FBK_QE_STATUS_FAILED q))
  else if s.f (Fld.ANV_AX_CFG_FB_SRC n) = 2 then
    let q : Fin 4 := ⟨ch % 4, Nat.mod_lt _ (by decide)⟩
    (s.f (Fld.FBK_SSI_ST_ST q), s.flag (Fld.FBK_SSI_STATUS_FAILED q))
  else (0, false)

/-- A difference of counts reduced into [−CPR/2, CPR/2 − 1] (R319). -/
def redMod (cpr : Nat) (d : Int) : Int := (d + (cpr / 2 : Nat)) % (cpr : Int) - (cpr / 2 : Nat)

/-- Step 1 of a cycle: the position sampled, and the speed of R319; it reads 0 until 17 samples stand. -/
def anvSample (n : Fin 4) (s : State) : State :=
  if !s.anvOn n then s.modAnvAx n fun a => { a with counts := [] }
  else
    let cpr := max 1 (s.f (Fld.ANV_AX_CPR_CPR n))
    let c := (anvPos s n).1
    let s := s.modAnvAx n fun a => { a with counts := ((c : Int) :: a.counts).take 17 }
    let speed : Int := match s.anv.ax[n].counts[16]? with
      | some c0 => Int.tdiv (redMod cpr ((c : Int) - c0) * 300000) (cpr : Int)
      | none => 0
    (s.wr (.ANV_AX_SPEED n) (wordOfInt speed)).setF (Fld.ANV_AX_POS_POS n) c

/-- |n| of an axis, in 0.25 rpm. -/
def anvSpeed (s : State) (n : Fin 4) : Nat := (s.rd (.ANV_AX_SPEED n)).toInt.natAbs

/-- An SLS limit of an axis (R332). -/
def slsLimit (s : State) (n : Fin 4) (i : Nat) : Nat :=
  match i with
  | 0 => s.f (Fld.ANV_AX_SLS01_SLS0 n)
  | 1 => s.f (Fld.ANV_AX_SLS01_SLS1 n)
  | 2 => s.f (Fld.ANV_AX_SLS23_SLS2 n)
  | _ => s.f (Fld.ANV_AX_SLS23_SLS3 n)

/-- SLS of an axis (R332): the limit in force, the cycle from which it is checked, and whether it is violated. -/
def anvSls (n : Fin 4) (dem new : Word) (s : State) : State :=
  let on := dem.getLsbD n.val
  let i := wGet dem (4 + 2 * n.val) 2
  let old := s.f (Fld.ANV_AX_STAT_SLS_IDX n)
  let k := s.anv.cycles
  let ramp := k + s.f (Fld.ANV_AX_SLSC_T_SLS_RAMP n) * 200
  let start := if new.getLsbD n.val then ramp
    else if i = old then s.anv.ax[n].slsFrom
    else if slsLimit s n i < slsLimit s n old then ramp
    else if slsLimit s n old < slsLimit s n i then k + 1 else s.anv.ax[n].slsFrom
  let s := s.setF (Fld.ANV_AX_STAT_SLS_ACT n) (bit on)
  if on then
    let s := (s.modAnvAx n fun a => { a with slsFrom := start }).setF (Fld.ANV_AX_STAT_SLS_IDX n) i
    anvViol n 2 (start ≤ k && slsLimit s n i < anvSpeed s n) s
  else anvViol n 2 false s

/-- SDI of an axis (R332). -/
def anvSdi (n : Fin 4) (dem new : Word) (s : State) : State :=
  let on := dem.getLsbD (12 + n.val)
  let s := s.setF (Fld.ANV_AX_STAT_SDI_ACT n) (bit on)
  if on then
    let cpr := max 1 (s.f (Fld.ANV_AX_CPR_CPR n))
    let c : Int := s.f (Fld.ANV_AX_POS_POS n)
    let s := if new.getLsbD (12 + n.val) then s.modAnvAx n fun a => { a with cref := c } else s
    let d := redMod cpr (c - s.anv.ax[n].cref)
    let along := if dem.getLsbD (16 + n.val) then -d else d
    let s := if 0 < along then s.modAnvAx n fun a => { a with cref := c } else s
    anvViol n 3 ((s.f (Fld.ANV_AX_SLSC_SDI_TOL n) : Int) < -along) s
  else anvViol n 3 false s

/-- SS1 of an axis (R333): completion stands before a violation. Speeds in 0.25 rpm, times in cycles of 50 us. -/
def anvSs1 (n : Fin 4) (s : State) : State :=
  if s.flag (Fld.ANV_AX_STAT_SS1_RUN n) then
    let a := s.anv.ax[n]
    let t := s.anv.cycles - a.ss1K
    let v := anvSpeed s n
    if v ≤ 4 * s.f (Fld.ANV_AX_SS1_N_STOP n) then
      let s := s.modAnvAx n fun a => { a with off := true }
      anvViol n 7 false ((s.lower (Fld.ANV_AX_STAT_SS1_RUN n)).raise (Fld.ANV_AX_STAT_SS1_DONE n))
    else if a.ss1N0 * 20000 - 4 * s.f (Fld.ANV_AX_SS1_DEC n) * t + 80000 * s.f (Fld.ANV_AX_SLSC_N_TOL n) < v * 20000 ∨
        s.f (Fld.ANV_AX_SS1_T_SS1 n) * 2000 ≤ t then
      anvViol n 7 true (s.lower (Fld.ANV_AX_STAT_SS1_RUN n))
    else anvViol n 7 false s
  else anvViol n 7 false s

/-- 1 / sqrt 3 in units of 2^-60. -/
def invSqrt3 : Frac := ⟨665639541039271462, 2 ^ 60⟩

/-- Entry (i, j) of an axis's flux table, and entry k of its envelope table (R352). -/
def fluxAt (s : State) (n : Fin 4) (i j o : Nat) : Frac := fVal (s.memW (0x400F4000 + 0x800 * n.val + (16 * i + j) * 8 + o))
def envAt (s : State) (n : Fin 4) (k o : Nat) : Frac := fVal (s.memW (0x400F6000 + 0x80 * n.val + 8 * k + o))

/-- A value clamped to a half-span as a place between two of the 16 entries that span it: the lower entry and the part of the
way to the next. -/
def tablePlace (x span : Frac) : Nat × Frac :=
  let x := (x.max span.neg).min span
  let p := Frac.div (Frac.mul (x.add span) (Frac.ofInt 15)) (Frac.mul span (Frac.ofInt 2))
  let i := min p.floor.toNat 14
  (i, p.sub (Frac.ofInt i))

/-- Between two values. -/
def lerp (a b t : Frac) : Frac := a.add (Frac.mul (b.sub a) t)

/-- i_d and i_q of an axis from its set of words (R335). -/
def anvDq (s : State) (n : Fin 4) : Frac × Frac :=
  let isc := fVal (s.rd (.ANV_AX_ISC n))
  let amp (w : Word) : Frac := Frac.mul ⟨sext 24 w.toNat, 256⟩ isc
  let a := s.anv.ax[n]
  let u := amp a.set3[0]
  let v := amp a.set3[1]
  let w := amp a.set3[2]
  let al := Frac.mul ((Frac.mul (Frac.ofInt 2) u).sub (v.add w)) ⟨1, 3⟩
  let be := Frac.mul (v.sub w) invSqrt3
  let th : Word := wordOfInt ((s.f (Fld.ANV_AX_POS_POS n) * 2 ^ 32 * s.f (Fld.ANV_AX_CFG_PP n) / max 1 (s.f (Fld.ANV_AX_CPR_CPR n)) +
    s.f (Fld.ANV_AX_EOFS_EOFS n) : Nat) : Int)
  let c := cosFrac th
  let d := sinFrac th
  ((Frac.mul al c).add (Frac.mul be d), (Frac.mul be c).sub (Frac.mul al d))

/-- The torque of an axis (R335). -/
def anvTorque (s : State) (n : Fin 4) : Frac :=
  let (id, iq) := anvDq s n
  let span := fVal (s.rd (.ANV_AX_ITAB n))
  let (i, x) := tablePlace id span
  let (j, y) := tablePlace iq span
  let psi (o : Nat) : Frac :=
    lerp (lerp (fluxAt s n i j o) (fluxAt s n (i + 1) j o) x) (lerp (fluxAt s n i (j + 1) o) (fluxAt s n (i + 1) (j + 1) o) x) y
  Frac.mul ⟨3 * s.f (Fld.ANV_AX_CFG_PP n), 2⟩ ((Frac.mul (psi 0) iq).sub (Frac.mul (psi 4) id))

/-- The torque monitor of an axis in a cycle with a valid set (R335). -/
def anvTq (n : Fin 4) (s : State) : State :=
  if !s.moving n then anvViol n 4 false (s.modAnvAx n fun a => { a with tqRun := 0 })
  else if !s.anv.ax[n].fresh then s
  else
    let t := anvTorque s n
    let s := s.wr (.ANV_AX_TQ n) (fOfFrac t).1
    let (k, z) := tablePlace ⟨(s.rd (.ANV_AX_SPEED n)).toInt, 4⟩ (fVal (s.rd (.ANV_AX_NTAB n)))
    let hi := lerp (envAt s n k 0) (envAt s n (k + 1) 0) z
    let lo := lerp (envAt s n k 4) (envAt s n (k + 1) 4) z
    let tol := fVal (s.rd (.ANV_AX_TTOL n))
    let out := (hi.add tol).lt t || t.lt (lo.sub tol)
    let s := s.modAnvAx n fun a => { a with tqRun := if out then a.tqRun + 1 else 0 }
    anvViol n 4 (s.f (Fld.ANV_AX_SELTH_N_TQ n) ≤ s.anv.ax[n].tqRun) s

/-- The monitor of valid current sets (R330): cycles without one while the axis moves. -/
def anvCurrents (n : Fin 4) (s : State) : State :=
  let s := s.modAnvAx n fun a => { a with stale := if !s.moving n || a.fresh then 0 else a.stale + 1 }
  anvViol n 6 (s.moving n && s.f (Fld.ANV_AX_IMAX_N_STALE n) ≤ s.anv.ax[n].stale) s

/-- The monitors of one axis that a cycle evaluates. -/
def anvAxis (dem new : Word) (s : State) (n : Fin 4) : State :=
  if !s.anvOn n then
    let s := (s.lower (Fld.ANV_AX_STAT_SLS_ACT n)).lower (Fld.ANV_AX_STAT_SDI_ACT n)
    anvSs1 n (s.modAnvAx n fun a => { a with viol := 0#8 })
  else
    let s := anvViol n 5 (anvPos s n).2 s
    let s := anvCurrents n s
    let s := anvViol n 1 (s.f (Fld.ANV_AX_NMAX_NMAX n) < anvSpeed s n) s
    let s := anvTq n (anvSs1 n (anvSdi n dem new (anvSls n dem new s)))
    s.modAnvAx n fun a => { a with fresh := false }

/-- The Anvil is in SV_ARMED or later. -/
def svOn (s : State) : Bool := s.sv != svInit

/-- V_DC lies above VDC_MAX, or has been unknown for 20 ms (R320, R330). -/
def anvVdcBad (s : State) : Bool :=
  svOn s &&
    match anvV s with
    | some v => decide (s.f Fld.ANV_VDC_LIM_VDC_MAX * 2 ^ 22 < v)
    | none =>
      let from_ := match s.anv.vdc with
        | some (_, t) => t + 6000000
        | none => 0
      decide (from_ + 12000000 ≤ s.time)

/-- The selection of an axis after a cycle (R337, R320). Where V_DC and n are both 0 the ratio is not stated, and which limits
it meets is free. -/
def anvSelect (s : State) (n : Fin 4) : State :=
  if !s.anvOn n || (anvPos s n).2 then s
  else
    let v : Nat := match anvV s with
      | some v => v
      | none => s.f Fld.ANV_VDC_LIM_VDC_FLOOR * 2 ^ 22
    let k := fVal (s.rd (.ANV_AX_KE n))
    let lhs := Frac.mul k ⟨anvSpeed s n * 10 * 2 ^ 22 * 64, 1⟩
    let asc := 1 + s.f (Fld.ANV_AX_CFG_ASC_SIDE n)
    if v = 0 && lhs.num = 0 then
      let (a, s) := s.takeBit
      let (b, s) := s.takeBit
      if a then s.setF (Fld.ANV_AX_STAT_SEL n) asc else if b then s.setF (Fld.ANV_AX_STAT_SEL n) 0 else s
    else if (Frac.ofInt (s.f (Fld.ANV_AX_SELTH_R_ON n) * v : Nat)).le lhs then s.setF (Fld.ANV_AX_STAT_SEL n) asc
    else if lhs.le (Frac.ofInt (s.f (Fld.ANV_AX_SELTH_R_OFF n) * v : Nat)) then s.setF (Fld.ANV_AX_STAT_SEL n) 0
    else s

/-- The four selections as QNC_SAFESEL codes them. -/
def anvSel (s : State) : BitVec 8 :=
  BitVec.ofNat 8 ((List.finRange 4).foldl (fun w n => w + 4 ^ n.val * s.f (Fld.ANV_AX_STAT_SEL n)) 0)

/-- Step 4 (R318, R337): the selections, written together when one has changed. -/
def anvSelections (s : State) : State :=
  if !svOn s then s
  else
    let old := anvSel s
    let s := (List.finRange 4).foldl anvSelect s
    if anvSel s = old then s else safeselWrite (anvSel s) (~~~(anvSel s)) s

/-- The order of the axis monitors in R330, as bits of HIT, less I_MAX, which acts at the word. -/
def anvOrder : List Nat := [5, 6, 1, 2, 3, 7, 4]

/-- Step 5 (R318): the reactions of the monitors that stand violated, in the order of R330. `was` holds the violations of the
cycle before. -/
def anvReactions (was : Vector (BitVec 8) 4) (s : State) : State :=
  anvOrder.foldl (fun s b =>
    (List.finRange 4).foldl (fun s n =>
      if s.anv.ax[n].viol.getLsbD b then anvHit n b (!was[n].getLsbD b) s else s) s) s

/-- SS1 and DSG demands newly set act once, at the start of the cycle (R333, R341). -/
def anvDemands (new : Word) (s : State) : State :=
  let s := (List.finRange 4).foldl (fun s n => if new.getLsbD (20 + n.val) then anvAdd 0 (some n) 5 false s else s) s
  if new.getLsbD 25 then (dsgRequest 2 s).1 else s

/-- The stop demand, the last monitor of R330. -/
def anvStop (dem : Word) (s : State) : State := if dem.getLsbD 24 && svOn s then anvReact 0x1B none 9 s else s

/-- The time from which a brake's feedback disagrees with its output, as they stand now (R334). -/
def fbWatch (k : Fin 2) (s : State) : State :=
  let v := if (sbcFb s k).2 && (sbcFb s k).1 != sbcOut s k then some ((s.anv.fbSince[k]).getD s.time) else none
  s.modAnv fun a => { a with fbSince := vset a.fbSince k v }

/-- Step 5, last part (R318): the brakes that are allowed are released. -/
def anvBrakes (s : State) : State :=
  let s := s.modAnv fun a => { a with brk := (if sbcAllowed s 0 then 1#2 else 0#2) ||| (if sbcAllowed s 1 then 2#2 else 0#2) }
  fbWatch 1 (fbWatch 0 s)

/-- The Anvil's state after a cycle (R321). -/
def anvState (s : State) : State :=
  if s.sv = svArmed && (devStandby ≤ s.dev && s.dev ≤ devRun) && !s.flag Fld.ANV_STATUS_CUT && !anvDevice s &&
      (s.f Fld.ANV_WD_T_WD = 0 || (s.anv.demandCyc != 0 && s.time ≤ s.anv.demandCyc + s.f Fld.ANV_WD_T_WD * msCycles)) then
    s.setSv svEnabled
  else if s.sv = svEnabled && (s.dev = devSafe || s.dev = devConfig) && !anvDevice s then s.setSv svArmed
  else s

/-- One monitoring cycle (R318). -/
def anvCycle (s : State) : State :=
  let s := s.modAnv fun a => { a with beat := s.time, cycles := a.cycles + 1 }
  if !s.anvLive then s
  else
    let dem := s.rd .ANV_DEMAND
    let new := dem &&& ~~~s.anv.applied
    let s := s.modAnv fun a => { a with applied := dem }
    let was := s.anv.ax.map (·.viol)
    let s := (List.finRange 4).foldl (fun s n => anvSample n s) s
    let s := anvDemands new s
    let s := (List.finRange 4).foldl (anvAxis dem new) s
    let bad := anvVdcBad s
    let wasBad := s.anv.vdcBad
    let s := s.modAnv fun a => { a with vdcBad := bad }
    let s := anvSelections s
    let s := anvReactions was s
    let s := if bad then
        let s := s.raise Fld.ANV_STATUS_VDC_HIT
        if !wasBad || s.f Fld.ANV_VDC_REACT % 8 != 0 then anvReact 0x18 none (s.f Fld.ANV_VDC_REACT) s else s
      else s
    anvBrakes (anvState (anvApply (anvStop dem s)))

/-- MONITORING_CYCLE (R318). -/
def execMonitoringCycle (s : State) : Host.Outcome State Fault Refusal := .next (if s.anv.failed then s else anvCycle s)

/-- WATCHDOG_EXPIRY (R342): T_WD passes without an accepted DEMAND frame, from SV_ARMED on. -/
def execWatchdogExpiry (s : State) : Host.Outcome State Fault Refusal :=
  .next (
    if s.anvLive && svOn s && s.f Fld.ANV_WD_T_WD != 0 && !s.anv.wdOut then
      let s := s.advance (max s.anv.demandCyc s.anv.armedCyc + s.f Fld.ANV_WD_T_WD * msCycles + 1)
      let s := s.modAnv fun a => { a with wdOut := true }
      anvReact 0x19 none (s.f Fld.ANV_WD_WD_REACT) (s.raise Fld.ANV_STATUS_WD_EXP)
    else s)

/-! ## Brakes (R334) -/

/-- BRAKE_FEEDBACK_MISMATCH (R334): the feedback of a brake has disagreed with its output for longer than T_FB. -/
def execBrakeFeedbackMismatch (k : Fin 2) (s : State) : Host.Outcome State Fault Refusal :=
  .next (
    let s := fbWatch k s
    match s.anv.fbSince[k] with
    | some t =>
      if s.anvLive && !(s.f Fld.ANV_SBC_STAT_MISM).testBit k.val then
        let s := s.advance (t + s.f Fld.ANV_SBC_T_FB * msCycles + 1)
        anvLatch 0x6404 (s.setF Fld.ANV_SBC_STAT_MISM (s.f Fld.ANV_SBC_STAT_MISM ||| 2 ^ k.val))
      else s
    | none => s)

/-! ## Failure of the domain (R317) -/

/-- The Anvil domain fails: SYS records 0x6408 and the device enters FAULT; as a cause of class 0x4 it takes the Anvil to SV_LATCHED
(R321). -/
def anvFail (s : State) : State :=
  if s.anv.failed then s else anvLatch 0x6408 (s.modAnv fun a => { a with failed := true })

/-- HEARTBEAT_MISSING (R317): 200 us pass without a heartbeat. -/
def execHeartbeatMissing (s : State) : Host.Outcome State Fault Refusal :=
  .next (if s.anv.failed then s else anvFail (s.advance (s.anv.beat + 200 * Config.cyclesPerUs)))

/-- ANVIL_DOMAIN_FAIL (R317): a comparator mismatch, an uncorrectable ECC error, VDD_SV out of range or a clock failure. -/
def execAnvilDomainFail (s : State) : Host.Outcome State Fault Refusal := .next (anvFail s)

/-! ## Parameters (R343 to R346) -/

/-- One step of CRC-32 (IEEE 802.3), reflected. -/
def crc32Bit : Nat → BitVec 32 → BitVec 32
  | 0, c => c
  | k + 1, c => crc32Bit k (if c.getLsbD 0 then (c >>> 1) ^^^ 0xEDB88320#32 else c >>> 1)

/-- CRC-32 of IEEE 802.3 over words, each least significant byte first. -/
def crc32 (ws : List Word) : Word := ~~~(ws.foldl (fun c w => crc32Bit 32 (c ^^^ w)) 0xFFFFFFFF#32)

/-- The parameter image with the offset of each word, in ascending order (R343). -/
def anvImage (s : State) : List (Nat × Word) :=
  [(0x00C, s.rd .ANV_CFG), (0x010, s.rd .ANV_VDC), (0x014, s.rd .ANV_VDC_LIM), (0x018, s.rd .ANV_WD), (0x01C, s.rd .ANV_SBC)] ++
    ((List.range 64).map fun i =>
      (0x100 + 4 * i, match Reg.ofAnvOff (0x100 + 4 * i) with
        | some r => s.rd r
        | none => 0#32)) ++
    ((List.range 0x880).map fun i => (0x4000 + 4 * i, s.memW (0x400F4000 + 4 * i)))

/-- A reaction field is legal (R344). -/
def reactOk (field : Nat) (some_ : Bool) : Bool := field % 8 != 7 && (field % 8 != 6 || 8 ≤ field) && (!some_ || field % 8 != 0)

/-- A word that spells a positive finite number. -/
def posFinite (w : Word) : Bool := fFinite w && !fSign w && !fIsZero w

/-- The rules of R344 that a word of an axis block breaks, by its offset in the block. -/
def axisWordOk (s : State) (n : Fin 4) (o : Nat) : Bool :=
  let on := s.anvOn n
  match o with
  | 0x00 => !on || ((s.f (Fld.ANV_AX_CFG_FB_SRC n) = 1 || s.f (Fld.ANV_AX_CFG_FB_SRC n) = 2) &&
      1 ≤ s.f (Fld.ANV_AX_CFG_PP n) && s.f (Fld.ANV_AX_CFG_PP n) ≤ 64)
  | 0x04 => !on ||
      (let ch := s.f (Fld.ANV_AX_CFG_FB_CH n)
       if h : s.f (Fld.ANV_AX_CFG_FB_SRC n) = 2 then
         ch < 4 && s.f (Fld.ANV_AX_CPR_CPR n) = 2 ^ s.f (Fld.FBK_SSI_FRAME_ST_BITS ⟨ch % 4, Nat.mod_lt _ (by decide)⟩)
       else s.f (Fld.ANV_AX_CPR_CPR n) = s.f (Fld.FBK_QE_MOD_MOD ⟨ch % 8, Nat.mod_lt _ (by decide)⟩))
  | 0x08 => s.f (Fld.ANV_AX_IMAX_N_STALE n) != 0
  | 0x0C => posFinite (s.rd (.ANV_AX_ISC n))
  | 0x14 => (0 < slsLimit s n 0 && slsLimit s n 0 ≤ s.f (Fld.ANV_AX_NMAX_NMAX n) &&
      0 < slsLimit s n 1 && slsLimit s n 1 ≤ s.f (Fld.ANV_AX_NMAX_NMAX n))
  | 0x18 => (0 < slsLimit s n 2 && slsLimit s n 2 ≤ s.f (Fld.ANV_AX_NMAX_NMAX n) &&
      0 < slsLimit s n 3 && slsLimit s n 3 ≤ s.f (Fld.ANV_AX_NMAX_NMAX n))
  | 0x20 => 10 * s.f (Fld.ANV_AX_SS1_N_STOP n) <
      10 * s.f (Fld.ANV_AX_SLSC_N_TOL n) + s.f (Fld.ANV_AX_SS1_DEC n) * s.f (Fld.ANV_AX_SS1_T_SS1 n)
  | 0x24 => posFinite (s.rd (.ANV_AX_KE n))
  | 0x28 => (s.f (Fld.ANV_AX_SELTH_R_OFF n) < s.f (Fld.ANV_AX_SELTH_R_ON n) && s.f (Fld.ANV_AX_SELTH_N_TQ n) != 0)
  | 0x2C => posFinite (s.rd (.ANV_AX_ITAB n))
  | 0x30 => posFinite (s.rd (.ANV_AX_NTAB n))
  | 0x34 => (fFinite (s.rd (.ANV_AX_TTOL n)) && (!fSign (s.rd (.ANV_AX_TTOL n)) || fIsZero (s.rd (.ANV_AX_TTOL n))))
  | 0x3C => (List.range 8).all (fun b => reactOk (anvField s n b) (b = 0 || b = 1 || b = 5 || b = 6)) && anvField s n 7 % 8 != 5
  | _ => true

/-- A GPIO number is one of the precharge sequencer's pins. -/
def pchPin (s : State) (io : Nat) : Bool :=
  io = s.f Fld.PWM_DSC_PCH_CFG_PCH_IO || io = s.f Fld.PWM_DSC_PCH_CFG_MAIN_IO ||
    io = s.f Fld.PWM_DSC_PCH_CFG_NEG_IO || io = s.f Fld.PWM_DSC_PCH_CFG_FB_IO

/-- The SBC rules of R344. -/
def sbcOk (s : State) : Bool :=
  let ax (i : Nat) : Bool := s.anvOn ⟨i % 4, Nat.mod_lt _ (by decide)⟩
  (!s.flag Fld.ANV_SBC_EN0 || ax (s.f Fld.ANV_SBC_AX0_SEL)) && (!s.flag Fld.ANV_SBC_EN1 || ax (s.f Fld.ANV_SBC_AX1_SEL)) &&
    (!s.flag Fld.ANV_SBC_FB_EN0 || !pchPin s (s.f Fld.ANV_SBC_FB_IO0)) &&
    (!s.flag Fld.ANV_SBC_FB_EN1 || !pchPin s (s.f Fld.ANV_SBC_FB_IO1))

/-- A word of the image passes the rules of R344. A rule over several words is broken by the word that it limits. -/
def imageWordOk (s : State) (off : Nat) (w : Word) : Bool :=
  if off = 0x00C then 1 ≤ s.f Fld.ANV_CFG_T_DISC && s.f Fld.ANV_CFG_T_DISC ≤ 100
  else if off = 0x010 then reactOk (s.f Fld.ANV_VDC_REACT) false
  else if off = 0x014 then
    0 < s.f Fld.ANV_VDC_LIM_VDC_FLOOR && s.f Fld.ANV_VDC_LIM_VDC_FLOOR < s.f Fld.ANV_VDC_LIM_VDC_MAX &&
      s.f Fld.ANV_VDC_LIM_VDC_MAX < s.f Fld.ANV_VDC_V_FS
  else if off = 0x018 then reactOk (s.f Fld.ANV_WD_WD_REACT) false && reactOk (s.f Fld.ANV_WD_RET_REACT) false
  else if off = 0x01C then sbcOk s
  else if off < 0x200 then axisWordOk s ⟨(off - 0x100) / 0x40 % 4, Nat.mod_lt _ (by decide)⟩ ((off - 0x100) % 0x40)
  else if off < 0x6000 then !s.anvOn ⟨(off - 0x4000) / 0x800 % 4, Nat.mod_lt _ (by decide)⟩ || fFinite w
  else
    let n : Fin 4 := ⟨(off - 0x6000) / 0x80 % 4, Nat.mod_lt _ (by decide)⟩
    !s.anvOn n || (fFinite w && (off % 8 = 0 || !fFinite (s.memW (0x400F0000 + off - 4)) || !fLess (s.memW (0x400F0000 + off - 4)) w))

/-- LOCK_CHECK_DONE (R343, R344). -/
def execLockCheckDone (s : State) : Host.Outcome State Fault Refusal :=
  .next (
    if s.locked && !s.flag Fld.ANV_PSTAT_DONE && !s.anv.failed then
      let img := anvImage s
      let s := (s.wr .ANV_PCRC (crc32 (img.map (·.2)))).raise Fld.ANV_PSTAT_DONE
      match img.find? fun p => !imageWordOk s p.1 p.2 with
      | some p => recordFault 0x6106 ((s.raise Fld.ANV_PSTAT_RANGE_ERR).setF Fld.ANV_PSTAT_BAD_ADDR p.1)
      | none => s
    else s)

/-- PARAMETER_CRC_CHECK (R346): the CRC recomputed over the copy, as the command tells it. -/
def execParameterCrcCheck (crc : Word) (s : State) : Host.Outcome State Fault Refusal :=
  .next (
    if s.flag Fld.ANV_PSTAT_DONE && !s.anv.failed && crc != s.rd .ANV_PCRC && !s.flag Fld.ANV_PSTAT_COPY_ERR then
      anvLatch 0x6403 (s.raise Fld.ANV_PSTAT_COPY_ERR)
    else s)

/-! ## Safety port (R329, R339 to R342, R345) -/

/-- CRC-16, polynomial 0x1021, one bit at a time from the most significant. -/
def crc16 : Nat → BitVec 48 → BitVec 16 → BitVec 16
  | 0, _, c => c
  | k + 1, d, c => crc16 k d (if c.getLsbD 15 != d.getLsbD k then (c <<< 1) ^^^ 0x1021#16 else c <<< 1)

/-- The CRC of a frame's bits [63:16] (R339). -/
def sspiCrc (head : BitVec 8) (seq : BitVec 8) (data : Word) : BitVec 16 := crc16 48 (head ++ seq ++ data) 0xFFFF#16

/-- The response shifted out during the next frame. -/
def sspiAnswer (status : BitVec 8) (seq : BitVec 8) (data : Word) (s : State) : State :=
  s.modAnv fun a => { a with resp := status ++ seq ++ data ++ sspiCrc status seq data }

/-- A frame discarded (R339): 0x6007, BAD and SSPI_ERR. The data of its response is not stated. -/
def sspiDiscard (status : BitVec 8) (seq : BitVec 8) (s : State) : State :=
  let (w, s) := s.takeWord
  let s := (s.setF Fld.ANV_SSPI_BAD (sat 255 (s.f Fld.ANV_SSPI_BAD + 1))).raise Fld.ANV_STATUS_SSPI_ERR
  recordFault 0x6007 (sspiAnswer status seq w s)

/-- A frame accepted: GOOD counts it and its SEQ is kept. -/
def sspiAccept (seq : BitVec 8) (s : State) : State :=
  (s.setF Fld.ANV_SSPI_GOOD (s.f Fld.ANV_SSPI_GOOD + 1)).modAnv fun a => { a with seq := some seq }

/-- The cause of a reaction stands (R329): a demand while its bit is 1, a monitor while it is violated. -/
def anvPresent (s : State) (e : AnvReact) : Bool :=
  if e.mon = 0 then
    match e.axis with
    | some n => (s.rd .ANV_DEMAND).getLsbD (20 + n.val)
    | none => false
  else if 0x10 ≤ e.mon && e.mon ≤ 0x17 then
    (List.finRange 4).any fun n => (e.axis = none || e.axis = some n) && s.anv.ax[n].viol.getLsbD (e.mon - 0x10)
  else if e.mon = 0x18 then s.anv.vdcBad
  else if e.mon = 0x19 then s.anv.wdOut
  else if e.mon = 0x1B then (s.rd .ANV_DEMAND).getLsbD 24
  else false

/-- An SS1 in the scope of a reaction has not completed: it runs, or it has failed (R329, R333). -/
def ss1Open (s : State) (e : AnvReact) : Bool := (List.finRange 4).any fun n => e.on n && !s.anv.ax[n].off

/-- The effect of an ACK (R329): reactions withdrawn, sticky bits cleared, and SV_ARMED again after the last device
reaction. -/
def anvAck (s : State) : State :=
  let s := s.modAnv fun a => { a with react := a.react.filter fun e => e.latched || anvPresent s e || (e.code = 5 && ss1Open s e) }
  let s := (List.finRange 4).foldl (fun s n =>
    let s := s.setF (Fld.ANV_AX_STAT_HIT n) (s.f (Fld.ANV_AX_STAT_HIT n) &&& s.anv.ax[n].viol.toNat)
    if s.anv.react.any fun e => e.on n && e.code = 5 then s else s.modAnvAx n fun a => { a with off := false }) s
  let s := if s.anv.vdcBad then s else s.lower Fld.ANV_STATUS_VDC_HIT
  let s := if s.anv.wdOut then s else s.lower Fld.ANV_STATUS_WD_EXP
  let s := (s.lower Fld.ANV_STATUS_RET_HIT).lower Fld.ANV_STATUS_SSPI_ERR
  let s := if s.sv = svReact && !anvDevice s then s.setSv svArmed else s
  anvApply s

/-- The value that a READ selects (R340). -/
def sspiValue (s : State) (k : Nat) : Option Word :=
  if k = 0 then some (s.rd .ANV_STATUS)
  else if k = 1 then some (s.rd .ANV_PCRC)
  else if k = 2 then some (s.rd .ANV_CAUSE)
  else if h : 3 ≤ k ∧ k ≤ 6 then some (s.rd (.ANV_AX_STAT ⟨k - 3, by omega⟩))
  else if h : 7 ≤ k ∧ k ≤ 10 then some (s.rd (.ANV_AX_SPEED ⟨k - 7, by omega⟩))
  else none

/-- A CONFIRM judged (R345). -/
def anvConfirm (seq : BitVec 8) (data : Word) (s : State) : State :=
  if !s.flag Fld.ANV_PSTAT_DONE || s.flag Fld.ANV_PSTAT_RANGE_ERR then sspiAnswer 4#8 seq (s.rd .ANV_PSTAT) s
  else if data = s.rd .ANV_PCRC then
    let s := s.raise Fld.ANV_PSTAT_CONFIRMED
    let s := if s.sv = svInit then (s.setSv svArmed).modAnv fun a => { a with armedCyc := s.time } else s
    sspiAnswer 0#8 seq (s.rd .ANV_PSTAT) s
  else
    let s := recordFault 0x6105 (s.raise Fld.ANV_PSTAT_CONF_FAIL)
    sspiAnswer 4#8 seq (s.rd .ANV_PSTAT) s

/-- A DEMAND taken or refused (R340 to R342). -/
def anvDemand (seq : BitVec 8) (data : Word) (s : State) : State :=
  if s.sv = svInit || data.extractLsb' 26 6 != 0#6 then sspiAnswer 4#8 seq (s.rd .ANV_STATUS) s
  else
    let s := (s.wr .ANV_DEMAND data).modAnv fun a => { a with demandCyc := s.time, wdOut := false }
    sspiAnswer 0#8 seq (s.rd .ANV_STATUS) s

/-- A frame on the safety port (R339, R340): its command byte, SEQ, DATA and CRC, and the clocks it had. -/
def sspiFrame (cmd seq : BitVec 8) (data : Word) (crc : BitVec 16) (clocks : Nat) (s : State) : State :=
  if s.anv.failed then s
  else if clocks != 64 then sspiDiscard 5#8 seq s
  else if crc != sspiCrc cmd seq data then sspiDiscard 1#8 seq s
  else if (match s.anv.seq with | some q => seq != q + 1#8 | none => false) then sspiDiscard 2#8 seq s
  else if cmd = 0x01#8 then
    let s := sspiAccept seq s
    match sspiValue s (wGet data 0 8) with
    | some w => sspiAnswer 0#8 seq w s
    | none =>
      let (w, s) := s.takeWord
      sspiAnswer 4#8 seq w s
  else if cmd = 0x10#8 then anvDemand seq data (sspiAccept seq s)
  else if cmd = 0x20#8 then anvConfirm seq data (sspiAccept seq s)
  else if cmd = 0x30#8 then
    let s := sspiAccept seq s
    if data = 0x5AA5#32 then
      let s := anvAck s
      sspiAnswer 0#8 seq (s.rd .ANV_STATUS) s
    else sspiAnswer 4#8 seq (s.rd .ANV_STATUS) s
  else sspiDiscard 3#8 seq s

/-- SSPI_READ (R340): a frame with the command byte 0x01, or with one that names no command. -/
def execSspiRead (cmd seq : BitVec 8) (data : Word) (crc : BitVec 16) (clocks : Nat) (s : State) :
    Host.Outcome State Fault Refusal := .next (sspiFrame cmd seq data crc clocks s)

/-- DEMAND (R341). -/
def execDemand (seq : BitVec 8) (data : Word) (crc : BitVec 16) (clocks : Nat) (s : State) :
    Host.Outcome State Fault Refusal := .next (sspiFrame 0x10#8 seq data crc clocks s)

/-- CONFIRM (R345). -/
def execConfirm (seq : BitVec 8) (data : Word) (crc : BitVec 16) (clocks : Nat) (s : State) :
    Host.Outcome State Fault Refusal := .next (sspiFrame 0x20#8 seq data crc clocks s)

/-- ACK (R329). -/
def execAck (seq : BitVec 8) (data : Word) (crc : BitVec 16) (clocks : Nat) (s : State) :
    Host.Outcome State Fault Refusal := .next (sspiFrame 0x30#8 seq data crc clocks s)

end Sys2Proof.Machine
end

