-- ==== Sys2Proof/Machine/Hlm.lean ====
section
/-! DEFINITION. The Hallmark's commands (15): the seconds of operation, flushes and their causes, snapshots, clears, the firmware
counters, the descriptors and the restore. -/

namespace Sys2Proof.Machine

open Sys2Proof

def State.modHlm (s : State) (f : HlmSt → HlmSt) : State := { s with hlm := f s.hlm }

/-- Core cycles of the copy of live to the snapshot, 8 B per cycle, and of a whole flush (R412). -/
def copyCycles : Nat := 1704
def flushCycles : Nat := 130704

/-- The two slots (R412). -/
def slotAddr (b : Bool) : Nat := if b then 0x20704000 else 0x20700000

def trailerAt : Nat := 0x3540

/-- The slot that a flush writes. -/
def nextSlot (s : State) : Nat := slotAddr (s.flag Fld.HLM_STATUS_NEXT_SLOT)

/-- OPSEC_TICK (R402, R411): a second of device time ends; every PERIOD seconds a periodic flush starts. -/
def execOpsecTick (s : State) : Host.Outcome State Fault Refusal :=
  .next (
    if s.running then
      let s := (s.advance (s.hlm.secOrg + 600000000)).modHlm fun h => { h with secOrg := h.secOrg + 600000000 }
      let ops := s.rd .HLM_OPSEC
      if ops = 0xFFFFFFFF#32 then s
      else
        let s := s.wr .HLM_OPSEC (ops + 1#32)
        let s := s.setMemW (hlmLive + 4) (ops + 1#32)
        let p := s.f Fld.HLM_CFG_PERIOD
        if p != 0 && (ops + 1#32).toNat % p = 0 then takeCause 8#5 s else s
    else s)

/-- FLUSH (R411): HLM_CMD.FLUSH. -/
def execFlush (s : State) : Host.Outcome State Fault Refusal := .next (agentTurn (takeCause 4#5) s)

/-- PFAIL (R411): PFAIL_N falls. -/
def execPfail (s : State) : Host.Outcome State Fault Refusal := .next (if s.flag Fld.HLM_CFG_PF_PIN then takeCause 2#5 s else s)

/-- VDD_MONITOR_FIRE (R411, R511). -/
def execVddMonitorFire (s : State) : Host.Outcome State Fault Refusal := .next (takeCause 2#5 s)

/-- FAULT_HOLD_END (R411). -/
def execFaultHoldEnd (s : State) : Host.Outcome State Fault Refusal :=
  .next (
    match s.hlm.holdTill with
    | some t =>
      let s := s.advance t
      let held := s.hlm.held
      let s := s.modHlm fun h => { h with holdTill := none, held := false }
      if held then takeCause 1#5 s else s
    | none => s)

/-- HLM_CMD.SNAP (R419). -/
def hlmSnapCmd (s : State) : State :=
  if s.flag Fld.HLM_STATUS_BUSY then s.raise Fld.HLM_STATUS_WR_IGN
  else
    let s := hlmHeader (s.raise Fld.HLM_STATUS_BUSY)
    { s with
      mem := memCopy s.mem hlmLive hlmSnap hlmLen
      hlm := { s.hlm with phase := .copySnap, start := s.time } }

/-- SNAP (R419). -/
def execSnap (s : State) : Host.Outcome State Fault Refusal := .next (agentTurn hlmSnapCmd s)

/-- The updates that waited for a copy reach live (R414). -/
def hlmDrain (s : State) : State :=
  let q := s.hlm.queue
  q.foldl (fun s u => hlmApply u s) (s.modHlm fun h => { h with queue := [] })

/-- SNAPSHOT_COPY_DONE (R412 step 2, R414). -/
def execSnapshotCopyDone (s : State) : Host.Outcome State Fault Refusal :=
  .next (
    match s.hlm.phase with
    | .copyFlush =>
      let s := (s.advance (s.hlm.start + copyCycles)).modHlm fun h => { h with phase := .writing }
      let s := hlmDrain s
      { s with mem := memClear s.mem (nextSlot s + trailerAt) 64 }
    | .copySnap =>
      let s := (s.advance (s.hlm.start + copyCycles)).modHlm fun h => { h with phase := .idle }
      hlmDrain (s.lower Fld.HLM_STATUS_BUSY)
    | _ => s)

/-- The words of a range of memory. -/
def memWords (m : List Host.Cell) (a n : Nat) : List Word := (List.range n).map fun i => memWord m (a + 4 * i)

/-- The slot with its image and trailer written (R412 steps 3 and 4). -/
def slotWrite (a : Nat) (seq : Word) (c : BitVec 5) (s : State) : State :=
  let s := { s with mem := memCopy s.mem hlmSnap a hlmLen }
  let s := { s with mem := memClear s.mem (a + trailerAt) 64 }
  let s := s.setMemW (a + trailerAt) seq
  let s := s.setMemW (a + trailerAt + 4) (BitVec.ofNat 32 c.toNat)
  let s := s.setMemW (a + trailerAt + 8) 0x3540#32
  s.setMemW (a + trailerAt + 12) (crc32 (memWords s.mem a 3411))

/-- A flush that writes the ferroelectric memory ends (R412 steps 3 to 5, R414). -/
def flushEnd (s : State) : State :=
  if s.hlm.phase = .writing then
    let s := s.advance (s.hlm.start + flushCycles)
    let seq := s.hlm.seq + 1#32
    let c := s.hlm.causes
    let slot := s.f Fld.HLM_STATUS_NEXT_SLOT
    let s := slotWrite (nextSlot s) seq c s
    let s := (s.lower Fld.HLM_STATUS_BUSY).raise Fld.HLM_STATUS_FLUSHED
    let s := (s.wr .HLM_LAST seq).setF Fld.HLM_LAST_CAUSE_CAUSE c.toNat
    let s := (s.setF Fld.HLM_LAST_CAUSE_SLOT slot).setF Fld.HLM_STATUS_NEXT_SLOT (1 - slot)
    let w := s.hlm.waiting
    let s := s.modHlm fun h => { h with phase := .idle, seq := seq, waiting := 0#5 }
    let s := pushEvent 0x06F0 (leBytes seq.toNat 4 ++ [BitVec.ofNat 8 c.toNat, BitVec.ofNat 8 slot, 0#8, 0#8]) s
    if w = 0#5 then s else startFlush w s
  else s

/-- FLUSH_COMPLETE (R412, R414). -/
def execFlushComplete (s : State) : Host.Outcome State Fault Refusal := .next (flushEnd s)

/-! ## Clears and counters (R408, R419) -/

/-- HLM_CLR: bit 0 the bins, 1 the extreme records, 2 the firmware counters, 3 the tally. -/
def hlmClear (what : BitVec 4) (key : BitVec 16) (s : State) : State :=
  if key = 0x6B1D#16 then
    let clr (b : Bool) (a n : Nat) (s : State) : State := if b then { s with mem := memClear s.mem (hlmLive + a) n } else s
    clr (what.getLsbD 3) 0x540 2048
      (clr (what.getLsbD 2) (0x440 + 64) 192 (clr (what.getLsbD 1) 0xD40 2048 (clr (what.getLsbD 0) 0x1540 8192 s)))
  else s.raise Fld.HLM_STATUS_WR_IGN

/-- CLEAR_HISTOGRAMS (R419). -/
def execClearHistograms (key : BitVec 16) (s : State) : Host.Outcome State Fault Refusal := .next (agentTurn (hlmClear 1#4 key) s)

/-- CLEAR_EXTREMES (R419). -/
def execClearExtremes (key : BitVec 16) (s : State) : Host.Outcome State Fault Refusal := .next (agentTurn (hlmClear 2#4 key) s)

/-- CLEAR_COUNTERS (R419). -/
def execClearCounters (key : BitVec 16) (s : State) : Host.Outcome State Fault Refusal := .next (agentTurn (hlmClear 4#4 key) s)

/-- CLEAR_TALLY (R419). -/
def execClearTally (key : BitVec 16) (s : State) : Host.Outcome State Fault Refusal := .next (agentTurn (hlmClear 8#4 key) s)

/-- HLM_CNT_INC (R408, R419). -/
def hlmCntInc (v : Word) (s : State) : State :=
  let i : Fin 64 := ⟨wGet v 0 6, Nat.mod_lt _ (by decide)⟩
  if i.val < 16 then s.raise Fld.HLM_STATUS_WR_IGN else hlmUpdate (.count i (wGet v 8 8)) s

/-- COUNTER_INCREMENT (R408). -/
def execCounterIncrement (value : Word) (s : State) : Host.Outcome State Fault Refusal := .next (agentTurn (hlmCntInc value) s)

/-! ## Descriptors (R410) -/

def hlmIgn (s : State) : State := s.raise Fld.HLM_STATUS_WR_IGN

/-- The comparison of R410 for a histogram whose EN is written 1. -/
def histEnable (h : Fin 32) (s : State) : State :=
  let a := hlmLive + 0x40 + 16 * h.val
  let new := [s.rd (.HLM_H_CTL h), s.rd (.HLM_H_LO h), s.rd (.HLM_H_W h), s.rd (.HLM_H_ADDR h)]
  if memWords s.mem a 4 = new then s
  else
    let s := { s with mem := memClear s.mem (hlmLive + 0x1540 + 0x100 * h.val) 256 }
    let s := (((s.setMemW a (s.rd (.HLM_H_CTL h))).setMemW (a + 4) (s.rd (.HLM_H_LO h))).setMemW (a + 8) (s.rd (.HLM_H_W h)))
    (s.setMemW (a + 12) (s.rd (.HLM_H_ADDR h))).raise Fld.HLM_STATUS_RECONF

/-- The comparison of R410 for an extreme. -/
def extEnable (e : Fin 64) (s : State) : State :=
  let a := hlmLive + 0x240 + 8 * e.val
  if memWords s.mem a 2 = [s.rd (.HLM_X_CTL e), s.rd (.HLM_X_ADDR e)] then s
  else
    let s := { s with mem := memClear s.mem (hlmLive + 0xD40 + 32 * e.val) 32 }
    ((s.setMemW a (s.rd (.HLM_X_CTL e))).setMemW (a + 4) (s.rd (.HLM_X_ADDR e))).raise Fld.HLM_STATUS_RECONF

/-- A write to a histogram's control (R410). -/
def histCtlWrite (h : Fin 32) (v : Word) (s : State) : State :=
  let s := writeGuarded (.HLM_H_CTL h) v (if s.flag (Fld.HLM_H_CTL_EN h) then 0x7FFFE#32 else 0#32) hlmIgn s
  if v.getLsbD 0 then histEnable h s else s

/-- A write to an extreme's control (R410). -/
def extCtlWrite (e : Fin 64) (v : Word) (s : State) : State :=
  let s := writeGuarded (.HLM_X_CTL e) v (if s.flag (Fld.HLM_X_CTL_EN e) then 0x7FFFE#32 else 0#32) hlmIgn s
  if v.getLsbD 0 then extEnable e s else s

/-- A write to LO, W or ADDR of a histogram or to ADDR of an extreme (R410, R419). -/
def hlmFieldWrite (r : Reg) (v : Word) (s : State) : State :=
  let put (on : Bool) : State := writeGuarded r v (if on then 0xFFFFFFFF#32 else 0#32) hlmIgn s
  let addr (on : Bool) : State := writeWhere (0x10000000 ≤ v.toNat / 4 * 4 && v.toNat < 0x103F0000) r v hlmIgn (fun _ => put on) s
  match r with
  | .HLM_H_LO h => put (s.flag (Fld.HLM_H_CTL_EN h))
  | .HLM_H_W h => put (s.flag (Fld.HLM_H_CTL_EN h))
  | .HLM_H_ADDR h => addr (s.flag (Fld.HLM_H_CTL_EN h))
  | .HLM_X_ADDR e => addr (s.flag (Fld.HLM_X_CTL_EN e))
  | r => writePlain r v s

/-- HISTOGRAM_ENABLE (R410): a write to the control of a histogram, 0 to 31, or of an extreme, from 32 on. -/
def execHistogramEnable (j : Fin 96) (value : Word) (s : State) : Host.Outcome State Fault Refusal :=
  .next (agentTurn (if h : j.val < 32 then histCtlWrite ⟨j.val, h⟩ value else extCtlWrite ⟨j.val - 32, by omega⟩ value) s)

/-! ## Restore (R402, R415, R495) -/

/-- A slot is valid (R415). -/
def slotValid (s : State) (b : Bool) : Bool :=
  let a := slotAddr b
  s.memW a = 0x484C0001#32 && s.memW (a + trailerAt + 8) = 0x3540#32 &&
    s.memW (a + trailerAt + 12) = crc32 (memWords s.mem a 3411)

def slotSeq (s : State) (b : Bool) : Word := s.memW (slotAddr b + trailerAt)

/-- The image of a slot copied into live and the snapshot; OPSEC resumes and PWRCYC advances (R402, R415). -/
def restoreSlot (b : Bool) (s : State) : State :=
  let a := slotAddr b
  let s := { s with mem := memCopy (memCopy s.mem a hlmLive hlmLen) a hlmSnap hlmLen }
  let s := ((s.wr .HLM_OPSEC (s.memW (a + 4))).wr .HLM_PWRCYC (s.memW (a + 8) + 1#32)).wr .HLM_LAST (slotSeq s b)
  let s := s.modHlm fun h => { h with seq := slotSeq s b }
  (s.setMemW (hlmLive + 8) (s.rd .HLM_PWRCYC)).setF Fld.HLM_STATUS_NEXT_SLOT (bit (!b))

/-- Nothing restored: a record started empty (R415). -/
def restoreNone (s : State) : State :=
  let s := { s with mem := memClear s.mem hlmLive hlmLen }
  let s := ((s.wr .HLM_OPSEC 0#32).wr .HLM_PWRCYC 1#32).wr .HLM_LAST 0#32
  let s := (s.setMemW hlmLive 0x484C0001#32).setMemW (hlmLive + 8) 1#32
  (s.modHlm fun h => { h with seq := 0#32 }).setF Fld.HLM_STATUS_NEXT_SLOT 0

/-- RESTORE_DONE (R415): both slots are checked and the newer valid image is restored; codes recorded before then enter the
tally (R495). -/
def execRestoreDone (s : State) : Host.Outcome State Fault Refusal :=
  .next (
    if s.dev = devBoot && !s.flag Fld.HLM_STATUS_RESTORED then
      let va := slotValid s false
      let vb := slotValid s true
      let early := s.hlm.early
      let t :=
        if va && vb then restoreSlot (decide (0 < (slotSeq s true - slotSeq s false).toInt)) s
        else if va || vb then restoreSlot vb s
        else restoreNone s
      let t := (t.modHlm fun h => { h with early := [] }).raise Fld.HLM_STATUS_RESTORED
      let t := early.foldl (fun t c => tallyApply c t) t
      if va && vb then t
      else if va || vb then recordFault 0xB101 ((hlmCount 5 1 t).raise Fld.HLM_STATUS_TORN)
      else recordFault 0xB102 (t.raise Fld.HLM_STATUS_EMPTY)
    else s)

end Sys2Proof.Machine
end

