-- ==== Sys2Proof/Machine/Mandrel.lean ====
section
/-! DEFINITION. The angle generators of the Mandrel (02): events and their corrections, standstill and holdover, the ramp, gear and
offset writes, and the snapshot reads. The marks are in Marks.lean. -/

namespace Sys2Proof.Machine

open Sys2Proof

/-- A generator runs on a source of a kind. -/
def State.genOn (s : State) (n : Fin 8) : Bool := s.flag (Fld.MAN_AG_CTL_EN n)

def State.genCpr (s : State) (n : Fin 8) : Nat := max 1 (s.f (Fld.MAN_AG_CPR_CPR n))

/-- A jump of a generator's output (R60): JUMP, JUMP_LAST, 0x2040. -/
def genJump (n : Fin 8) (size : Int) (s : State) : State :=
  recordFault 0x2040 ((s.wr (.MAN_AG_JUMP_LAST n) (wordOfInt size)).raise (Fld.MAN_AG_STATUS_JUMP n))

/-- The correction of an event that the outputs show from core cycle `cyc` on, judged against JUMP_TH as a signed difference of angles
(R4, R60); `before` is the state with the previous latch. -/
def genJudge (n : Fin 8) (cyc : Nat) (before s : State) : State :=
  let corr := sAng (genMech s n cyc - genMech before n cyc)
  if s.f (Fld.MAN_AG_JUMP_TH_TH n) < corr.natAbs then
    patternJump n (genJump n corr (genKeep s n cyc true true before))
  else genKeep s n cyc false false before

/-- The speed at an event (R54, R55): over the last 2^SPD_N events in one direction. -/
def genMeasure (spd : Nat) (pos : Int) (t : Nat) (hist : List (Int × Nat)) : Int × Nat :=
  match hist[min (2 ^ spd) hist.length - 1]? with
  | some (p0, t0) => (pos - p0, max 1 (t - t0))
  | none => (0, 1)

/-- An event with an unwrapped position, a stamp and a direction latched (R51, R54, R55). -/
def genLatch (n : Fin 8) (count pos : Int) (t : Nat) (dir : Int) (s : State) : State :=
  let g := s.gen n
  let rev : Bool := g.dir != 0 && dir != 0 && dir != g.dir
  let hist := if rev then [] else g.hist
  let (wn, wd) := genMeasure (s.f (Fld.MAN_AG_CTL_SPD_N n)) pos t hist
  let s := s.modGen n fun g =>
    { g with count := count, pos := pos, stamp := t, latchT := t, wn := wn, wd := wd, dir := if dir = 0 then g.dir else dir,
             hist := ((pos, t) :: hist).take 128, events := if rev then 1 else g.events + 1, held := none }
  let s := if rev then s.raise (Fld.MAN_AG_STATUS_REV n) else s
  let s := if dir = 0 then s else s.setF (Fld.MAN_AG_STATUS_DIR n) (bit (dir < 0))
  (s.wr (.MAN_AG_LATCH_POS n) (wordOfInt pos)).lower (Fld.MAN_AG_STATUS_CLAMPED n)

/-- An index correction (R53): the latched position and the interval history follow the new count; the speed is kept. It is an event, so a
standstill hold ends (R56). -/
def genIndex (n : Fin 8) (delta : Int) (t : Nat) (s : State) : State :=
  let g := s.gen n
  let cpr := s.genCpr n
  let shift := countPos cpr (g.count + delta) - countPos cpr g.count
  let s := s.modGen n fun g =>
    { g with count := g.count + delta, pos := g.pos + shift, hist := g.hist.map fun p => (p.1 + shift, p.2), latchT := t,
             stamp := if g.held.isSome then t else g.stamp, held := none }
  (s.wr (.MAN_AG_LATCH_POS n) (wordOfInt (s.gen n).pos)).setF (Fld.MAN_AG_STATUS_MOVING n) 1

/-- The unwrapped position of a sampled source: the one nearest to the extrapolated position at the stamp. -/
def nearest (from_ : Int) (pos : Int) : Int := from_ + sAng (pos - from_)

/-- A mains crossing's unwrapped position (R50): half a revolution on, or the next of its kind; the first since enable can be at the
position that the generator starts from. -/
def mainsNext (old : Int) (rising first : Bool) : Int :=
  let target : Int := if rising then 0 else 2 ^ 31
  let d := (target - old) % 2 ^ 32
  old + (if d = 0 && !first then 2 ^ 32 else d)

/-- The expected half period of a mains generator in taps, or none before the first measured speed. -/
def halfPeriod (g : Gen) : Option Nat := if g.wn != 0 then some (2 ^ 31 * g.wd / g.wn.natAbs) else none

/-- MOVING and the end of holdover at a valid event of a sampled source (R58): MOVING rises from the second event after enable on. -/
def sampledMoving (n : Fin 8) (first : Bool) (s : State) : State :=
  let s := s.lower (Fld.MAN_AG_STATUS_IN_HOLD n)
  if first then s else s.setF (Fld.MAN_AG_STATUS_MOVING n) 1

/-- A mains crossing latched (R50, R66). -/
def mainsLatch (n : Fin 8) (rising : Bool) (t cyc : Nat) (s : State) : State :=
  let g := s.gen n
  let inv := s.flag (Fld.MAN_AG_CTL_DIR_INV n)
  let first : Bool := g.events = 0
  let pos := if inv then -(mainsNext (-g.pos) rising first) else mainsNext g.pos rising first
  genJudge n cyc s (sampledMoving n (g.events = 0) (genLatch n 0 pos t (if inv then -1 else 1) s))

/-- One source event processed, which the outputs show from core cycle `cyc` on (R50 to R58, R60, R66). DESIGN CHOICE (log entry 37): a
sampled event at an unchanged position has no direction, so it is no reversal and DIR stays. -/
def genEvent (n : Fin 8) (e : GenEv) (cyc : Nat) (s : State) : State :=
  let g := s.gen n
  let inv := s.flag (Fld.MAN_AG_CTL_DIR_INV n)
  match e with
  | .counts delta t =>
    let d := if inv then -delta else delta
    if d = 0 then s
    else
      let u := g.count + d
      let dir : Int := if 0 < d then 1 else -1
      let pos := countPos (s.genCpr n) (if 0 < d then u else u + 1)
      genJudge n cyc s ((genLatch n u pos t dir s).setF (Fld.MAN_AG_STATUS_MOVING n) 1)
  | .index delta t => genJudge n cyc s (genIndex n (if inv then -delta else delta) t s)
  | .sampled p t =>
    let at_ := g.pos + g.wn * ((t : Int) - g.stamp) / (g.wd : Int)
    let pos := nearest at_ (if inv then -(p.toNat : Int) else (p.toNat : Int))
    let dir : Int := if pos = g.pos then 0 else if g.pos < pos then 1 else -1
    genJudge n cyc s (sampledMoving n (g.events = 0) (genLatch n 0 pos t dir s))
  | .mains rising t =>
    match halfPeriod g with
    | some h => if 0 < g.events && 2 * (t - g.stamp) < h then s else mainsLatch n rising t cyc s
    | none => mainsLatch n rising t cyc s

/-- The core cycle in which the oldest event on its way to a generator reaches the outputs (R59, R73): three core cycles after the source
block accepted it, one event in a cycle. -/
def genDue (g : Gen) : Option Nat := g.inbox.head?.map fun e => max (e.2 + 3) (g.evAt + 1)

/-- The oldest event on its way is latched, and the outputs show it from core cycle `cyc` on (R59). -/
def genTake (n : Fin 8) (cyc : Nat) (s : State) : State :=
  match (s.gen n).inbox with
  | [] => s
  | (e, _) :: rest =>
    let was : GenWas := { cyc := cyc, was := (s.gen n).toGenRec, status := s.rd (.MAN_AG_STATUS n), latch := s.rd (.MAN_AG_LATCH_POS n),
                          jump := s.rd (.MAN_AG_JUMP_LAST n) }
    let s := s.modGen n fun g => { g with inbox := rest, evAt := cyc, undo := some was }
    if s.genOn n then genEvent n e cyc s else s

/-- The events that the outputs of a core cycle show (R59, R78). -/
def genSettle (n : Fin 8) (cyc : Nat) (s : State) : State :=
  (List.range (s.gen n).inbox.length).foldl (fun s _ =>
    match genDue (s.gen n) with
    | some k => if k ≤ cyc then genTake n k s else s
    | none => s) s

/-- An event on its way reaches the outputs in a core cycle or before it: it meets the timeout of that cycle (R78). -/
def genMeets (s : State) (n : Fin 8) (cyc : Nat) : Bool := (genDue (s.gen n)).any (· ≤ cyc)

/-- A MAINS_REF crossing told to a generator joins its events, if it takes the mains (R50, R66). -/
def mainsCross (n : Fin 8) (rising : Bool) (t : Nat) (s : State) : State :=
  let s := { s.advanceTap t with man := { s.man with rising := rising } }
  if s.genOn n && s.gSrc n = 7 then s.modGen n fun g => { g with inbox := g.inbox ++ [(.mains rising t, t / 16)] } else s

/-- GENERATOR_EVENT (R54, R59): the oldest event on its way to a generator is latched, or a MAINS_REF crossing at a tap, which no source
block reports (R50); device time moves on to the cycle whose outputs show it. -/
def execGeneratorEvent (e : GenTold) (s : State) : Host.Outcome State Fault Refusal :=
  .next (
    let n := e.gen
    let s := match e.ref with
      | some (rising, t) => mainsCross n rising t s
      | none => s
    match genDue (s.gen n) with
    | some k => genTake n k (s.advance k)
    | none => s)

/-- Core cycles in 10 us, the unit of the timeouts (R76). -/
def tenUs : Nat := 6000

/-- STANDSTILL_TIMEOUT (R56); an event of its cycle is applied instead (R78). DESIGN CHOICES (log entry 37): the timeout does not run
before the first event after enable, when there is no t_latch; and CLAMPED stays as it was while the timeout holds d(t). -/
def execStandstillTimeout (n : Fin 8) (s : State) : Host.Outcome State Fault Refusal :=
  .next (
    let g := s.gen n
    let tmo := s.f (Fld.MAN_AG_TMO_STILL_TMO n)
    let cyc := g.stamp / 16 + tmo * tenUs + 1
    if s.genOn n && srcCounted (s.gSrc n) && tmo != 0 && 0 < g.events && g.held.isNone && !genMeets s n cyc then
      let before := s.advance cyc
      let d := (g.d true (countSpan (s.genCpr n)) before.time).1
      let s := genKeep (before.modGen n fun g => { g with held := some d, wn := 0, wd := 1 }) n before.time false false before
      (s.raise (Fld.MAN_AG_STATUS_STILL n)).lower (Fld.MAN_AG_STATUS_MOVING n)
    else s)

/-- A generator enters holdover (R58). -/
def genHold (n : Fin 8) (cyc : Nat) (F : RF) (code : Nat) (s : State) : State :=
  let s := ((s.advance cyc).raise F).modGen n fun g => { g with holdAt := cyc }
  recordFault code ((s.raise (Fld.MAN_AG_STATUS_IN_HOLD n)).lower (Fld.MAN_AG_STATUS_MOVING n))

/-- HOLDOVER_ENTRY (R58): HOLD_TMO expires on an SSI or line source; an event of its cycle is applied instead (R78). -/
def execHoldoverEntry (n : Fin 8) (s : State) : Host.Outcome State Fault Refusal :=
  .next (
    let tmo := s.f (Fld.MAN_AG_TMO_HOLD_TMO n)
    let cyc := (s.gen n).stamp / 16 + tmo * tenUs + 1
    if s.genOn n && (s.gSrc n = 2 || s.gSrc n = 5) && tmo != 0 && 0 < (s.gen n).events &&
        !s.flag (Fld.MAN_AG_STATUS_IN_HOLD n) && !genMeets s n cyc then
      genHold n cyc (Fld.MAN_AG_STATUS_HOLDOVER n) 0x2141 s
    else s)

/-- MAINS_LOST (R58): no crossing within 1.5 expected half periods. -/
def execMainsLost (n : Fin 8) (s : State) : Host.Outcome State Fault Refusal :=
  .next (
    match halfPeriod (s.gen n) with
    | some h =>
      let cyc := ((s.gen n).stamp + 3 * h / 2) / 16 + 1
      if s.genOn n && s.gSrc n = 7 && !s.flag (Fld.MAN_AG_STATUS_IN_HOLD n) && !genMeets s n cyc then
        genHold n cyc (Fld.MAN_AG_STATUS_MAINS_LOST n) 0x2142 s
      else s
    | none => s)

/-- A speed moved towards a target by a step (R65). -/
def rampTo (v tgt : Int) (acc : Nat) : Int := if v ≤ tgt then min tgt (v + acc) else max tgt (v - acc)

/-- RAMP_SPEED_STEP (R65): every 1,024 core cycles from enable. -/
def execRampSpeedStep (n : Fin 8) (s : State) : Host.Outcome State Fault Refusal :=
  .next (
    if s.genOn n && s.gSrc n = 6 then
      let before := s.advance ((s.gen n).rampCyc + 1024)
      let s := before
      let tgt := (s.rd (.MAN_AG_RAMP_TGT n)).toInt
      let acc := (s.rd (.MAN_AG_RAMP_ACC n)).toNat
      let s := s.modGen n fun g =>
        { g with rampAcc := g.rampAcc + g.rampV * 1024, rampCyc := g.rampCyc + 1024, rampV := rampTo g.rampV tgt acc }
      let s := genKeep s n (s.gen n).rampCyc false false before
      let v := (s.gen n).rampV
      let back := if s.flag (Fld.MAN_AG_CTL_DIR_INV n) then decide (0 < v) else decide (v < 0)
      (s.setF (Fld.MAN_AG_STATUS_MOVING n) (bit (v != 0))).setF (Fld.MAN_AG_STATUS_DIR n) (bit back)
    else s)

/-- EXTRAPOLATION_CLAMP (R57): the extrapolation of a counted source reaches its clamp; an event of that cycle is applied instead
(R78). -/
def execExtrapolationClamp (n : Fin 8) (s : State) : Host.Outcome State Fault Refusal :=
  .next (
    let g := s.gen n
    if s.genOn n && srcCounted (s.gSrc n) && g.held.isNone && g.wn != 0 then
      let w := g.wn.natAbs
      let taps := ((countSpan (s.genCpr n)).toNat * g.wd + w - 1) / w
      let cyc := (g.stamp + taps + 15) / 16
      if genMeets s n cyc then s
      else
        let s := s.advance cyc
        s.setF (Fld.MAN_AG_STATUS_CLAMPED n) (bit (genClamped s n))
    else s)

/-! ## Register writes (R63 to R65, R77) -/

def genIgn (n : Fin 8) (s : State) : State := s.raise (Fld.MAN_AG_STATUS_WR_IGN n)

/-- The present count of a counted source and the present position of a sampled one, in au: for a line source the position of the last
accepted reference, for the mains that of the last crossing. -/
def srcNow (s : State) (src ch cpr : Nat) : Int × Int :=
  if src = 1 ∨ src = 3 then
    let c : Int := s.f (Fld.FBK_QE_CNT_CNT ⟨ch % 8, Nat.mod_lt _ (by decide)⟩)
    (c, countPos cpr c)
  else if src = 2 then
    (0, (s.f (Fld.FBK_SSI_ST_ST ⟨ch % 4, Nat.mod_lt _ (by decide)⟩) * 2 ^ 32 / cpr : Nat))
  else if src = 4 then
    let c : Int := (s.aux[(⟨ch % 8, Nat.mod_lt _ (by decide)⟩ : Fin 8)].lastSec.getD 0 : Nat)
    (c, countPos cpr c)
  else if src = 5 then (0, (s.lb.ch[(⟨ch % 4, Nat.mod_lt _ (by decide)⟩ : Fin 4)].pos.toNat : Int))
  else if src = 7 then (0, if s.man.rising then 0 else 2 ^ 31)
  else (0, 0)

/-- A generator enabled (R62, R65, R76): the output starts from the present source position with TURNS = 0; an internal ramp
resumes the position of the last disable with speed 0; without a source the output holds (R50). -/
def genEnable (n : Fin 8) (s : State) : State :=
  let g := s.gen n
  let src := s.gSrc n
  let inv := s.flag (Fld.MAN_AG_CTL_DIR_INV n)
  let (c, p) := srcNow s src (s.f (Fld.MAN_AG_CTL_SRC_CH n)) (s.genCpr n)
  let acc := if inv then -g.rampAcc else g.rampAcc
  let num := max 1 (s.f (Fld.MAN_AG_GEAR_NUM_NUM n))
  let den : Int := (max 1 (s.f (Fld.MAN_AG_GEAR_DEN_DEN n)) : Nat)
  let pos := if src = 6 then (if inv then -(acc / 2 ^ 16) else acc / 2 ^ 16) else if src = 0 then g.pos else if inv then -p else p
  let held := genMech s n s.time
  s.modGen n fun g =>
    { g with count := if inv then -c else c, pos := pos, stamp := s.now, wn := 0, wd := 1, dir := 0, hist := [], events := 0, held := none,
             rampAcc := acc, rampV := 0, rampCyc := s.time, rampEn := s.time, g0 := if src = 0 then held else 0,
             p0 := if src = 0 then g.pos else 0, num := num,
             turns0 := (if src = 0 then held else pos * (num : Int) / den) / 2 ^ 32, inbox := [] }

/-- A generator as a write of EN = 0 finds it (R78): an event of the write's core cycle is discarded, earlier ones have been applied. -/
def genDiscard (n : Fin 8) (s : State) : State :=
  let s := genSettle n (s.time - 1) s
  match (s.gen n).undo with
  | some w =>
    if w.cyc = s.time then
      let s := s.modGen n fun g => { g with toGenRec := w.was }
      ((s.wr (.MAN_AG_STATUS n) w.status).wr (.MAN_AG_LATCH_POS n) w.latch).wr (.MAN_AG_JUMP_LAST n) w.jump
    else s
  | none => s

/-- A generator disabled (R65, R76, R78): the output holds, at the angle of the cycle before where an event of this cycle is discarded, and
the speed reads 0. The unwrapped position is kept for a ramp with its 16 fraction bits. -/
def genDisable (n : Fin 8) (s : State) : State :=
  let cyc := if (s.gen n).evAt = s.time || genMeets s n s.time then s.time - 1 else s.time
  let s := genDiscard n s
  let g := s.gen n
  let pos := genPos s n cyc
  let mech := genOut s n false cyc
  let acc := g.rampAcc + g.rampV * ((cyc : Int) - g.rampCyc)
  let s := s.modGen n fun g =>
    { g with pos := pos, p0 := pos, g0 := mech, wn := 0, wd := 1, hist := [], events := 0, held := none, rampV := 0,
             rampAcc := if s.gSrc n = 6 then (if s.flag (Fld.MAN_AG_CTL_DIR_INV n) then -acc else acc) else pos * 2 ^ 16,
             rampCyc := cyc, inbox := [], undo := none }
  ((s.lower (Fld.MAN_AG_STATUS_MOVING n)).lower (Fld.MAN_AG_STATUS_IN_HOLD n)).lower (Fld.MAN_AG_STATUS_CLAMPED n)

/-- A write to MAN_AGn_CTL (R77). -/
def genCtlWrite (n : Fin 8) (v : Word) (s : State) : State :=
  let on := s.genOn n
  let before := s
  let t := if on && !v.getLsbD 0 then genDisable n s else s
  let t := writeGuarded (.MAN_AG_CTL n) v (if on then 0x1FE#32 else 0#32) (genIgn n) t
  if !on && t.genOn n then genKeep (genEnable n t) n t.time false false before else t

/-- GENERATOR_CTL_WRITE (R77). -/
def execGeneratorCtlWrite (n : Fin 8) (value : Word) (s : State) : Host.Outcome State Fault Refusal :=
  .next (agentTurn (genCtlWrite n value) s)

/-- A write to MAN_AGn_GEAR_NUM (R63): on an enabled generator the geared output is rebased in the next core cycle and does not step. -/
def gearWrite (n : Fin 8) (v : Word) (s : State) : State :=
  if v = 0#32 then s
  else
    let s := if s.genOn n then (genSettle n s.time s).advance (s.time + 1) else s
    let t := s.wr (.MAN_AG_GEAR_NUM n) v
    if s.genOn n then
      let mech := genMech s n s.time
      let pos := genPos s n s.time
      genKeep (t.modGen n fun g => { g with g0 := mech, p0 := pos, num := v.toNat }) n s.time false false s
    else t

/-- GEAR_NUM_WRITE (R63). -/
def execGearNumWrite (n : Fin 8) (value : Word) (s : State) : Host.Outcome State Fault Refusal := .next (agentTurn (gearWrite n value) s)

/-- A write to MAN_AGn_EOFS (R64): a changed value is an offset step in the next core cycle, handled as a jump of the electrical angle. -/
def eofsWrite (n : Fin 8) (v : Word) (s : State) : State :=
  let old := s.rd (.MAN_AG_EOFS n)
  if v = old then s
  else
    let s := (genSettle n s.time s).advance (s.time + 1)
    let step := (v - old).toInt
    let pp := s.f (Fld.MAN_AG_PP_PP n)
    let t := genKeep (s.wr (.MAN_AG_EOFS n) v) n s.time false true s
    let t := if s.f (Fld.MAN_AG_JUMP_TH_TH n) * pp < step.natAbs then genJump n (Int.tdiv step pp) t else t
    patternJump n t

/-- EOFS_WRITE (R64). -/
def execEofsWrite (n : Fin 8) (value : Word) (s : State) : Host.Outcome State Fault Refusal := .next (agentTurn (eofsWrite n value) s)

/-- A write to a scale field of a generator (R77). -/
def genScaleWrite (n : Fin 8) (r : Reg) (v : Word) (s : State) : State :=
  writeGuarded r v (if s.genOn n then 0xFFFFFFFF#32 else 0#32) (genIgn n) s

/-! ## Snapshot reads (R76) -/

/-- A read of MAN_AGn_ELEC: the electrical angle, with MECH, SPEED, TURNS and TSNAP of the same core cycle captured, an event of that
cycle included (R78). -/
def elecRead (n : Fin 8) (s : State) : Word × State :=
  let s := genSettle n s.time s
  let c := s.time
  let s' := (s.wr (.MAN_AG_MECH n) (wordOfInt (genMech s n c))).wr (.MAN_AG_SPEED n) (genSpeedReg s n c)
  let s' := (s'.wr (.MAN_AG_TURNS n) (genTurns s n c)).wr (.MAN_AG_TSNAP n) (BitVec.ofNat 32 c)
  (wordOfInt (genElec s n c), s')

/-- ELEC_READ (R76). -/
def execElecRead (n : Fin 8) (s : State) : Host.Outcome State Fault Refusal :=
  .next (
    let (w, s) := elecRead n s
    { s with rdata := w })

/-- A read of MAN_AGn_LATCH_POS, with LATCH_T of the same event captured. -/
def latchRead (n : Fin 8) (s : State) : Word × State :=
  (s.rd (.MAN_AG_LATCH_POS n), s.wr (.MAN_AG_LATCH_T n) (stampWord (s.gen n).latchT))

/-- LATCH_POS_READ (R76). -/
def execLatchPosRead (n : Fin 8) (s : State) : Host.Outcome State Fault Refusal :=
  .next (
    let (w, s) := latchRead n s
    { s with rdata := w })

end Sys2Proof.Machine
end

