-- ==== Sys2Proof/Machine/Feedback.lean ====
section
/-! DEFINITION. The position feedback channels (03): counts and double steps, the index, Hall sectors, line loss, captures and SSI
frames. -/

namespace Sys2Proof.Machine

open Sys2Proof

/-! ## Incremental channels (R84 to R92, R100, R102) -/

def State.modQe (s : State) (n : Fin 8) (f : QeCh → QeCh) : State := { s with fbk := { s.fbk with qe := vmod s.fbk.qe n f } }

def State.modSsi (s : State) (n : Fin 4) (f : SsiCh → SsiCh) : State := { s with fbk := { s.fbk with ssi := vmod s.fbk.ssi n f } }

def State.qeOn (s : State) (n : Fin 8) : Bool := s.flag (Fld.FBK_QE_CTL_EN n)

/-- A channel fails (R102): its cause's bit, FAILED and the fault code. -/
def qeFail (n : Fin 8) (F : RF) (code : Nat) (s : State) : State :=
  recordFault code ((s.raise F).raise (Fld.FBK_QE_STATUS_FAILED n))

/-- An event of a channel on its way to the Mandrel, unless the channel has failed (R102). -/
def qeEvent (n : Fin 8) (e : GenEv) (s : State) : State :=
  if s.flag (Fld.FBK_QE_STATUS_FAILED n) then s
  else postGen (if s.f (Fld.FBK_QE_CTL_MODE n) = 1 then 3 else 1) n.val e s

def State.qeMod (s : State) (n : Fin 8) : Nat := max 1 (s.f (Fld.FBK_QE_MOD_MOD n))

/-- The count moved by a number of counts, with its wraps and direction (R84). DESIGN CHOICE (log entry 37): where MOD was written below the
present count, the next count is reduced modulo MOD and the excess counts as wraps. -/
def qeMove (n : Fin 8) (d : Int) (s : State) : State :=
  let m := s.qeMod n
  let c : Int := s.f (Fld.FBK_QE_CNT_CNT n) + d
  let s := s.setF (Fld.FBK_QE_CNT_CNT n) (c % (m : Int)).toNat
  let s := s.wr (.FBK_QE_TURNS n) (s.rd (.FBK_QE_TURNS n) + wordOfInt (c / (m : Int)))
  s.setF (Fld.FBK_QE_STATUS_DIR n) (bit (d < 0))

/-- The place of a line state in the forward sequence 00, 10, 11, 01 of (A, B) (R84). -/
def quadPlace (a b : Bool) : Nat := match a, b with
  | false, false => 0
  | true, false => 1
  | true, true => 2
  | false, true => 3

/-- A double step (R85, R86). DESIGN CHOICE (log entry 37): the channel fails where DS_CNT comes to equal DS_LIM, so a DS_LIM written below the
present count lets no later double step fail it. -/
def qeDouble (n : Fin 8) (t : Nat) (s : State) : State :=
  let k := sat 65535 (s.f (Fld.FBK_QE_ERRCNT_DS_CNT n) + 1)
  let s := recordFault 0x2101 ((s.setF (Fld.FBK_QE_ERRCNT_DS_CNT n) k).raise (Fld.FBK_QE_STATUS_DS n))
  let s := if s.flag (Fld.FBK_QE_CTL_DS_POL n) then
      match s.fbk.qe[n].lastUp with
      | some up =>
        let d : Int := if up then 2 else -2
        qeEvent n (.counts d t) (qeMove n d s)
      | none => s
    else s
  if k = s.f (Fld.FBK_QE_ERRLIM_DS_LIM n) then qeFail n (Fld.FBK_QE_STATUS_DS_LIMIT n) 0x2202 s else s

/-- D of an index event (R88). -/
def qeDiff (s : State) (n : Fin 8) : Int :=
  redMod (s.qeMod n) ((s.f (Fld.FBK_QE_CNT_CNT n) : Int) - s.f (Fld.FBK_QE_IDX_CNT_IDX_CNT n))

/-- The count set to IDX_CNT, as an index correction for the Mandrel (R53, R90). DESIGN CHOICE (log entry 37): an IDX_CNT at or beyond MOD is taken
modulo MOD. -/
def qeCorrect (n : Fin 8) (t : Nat) (s : State) : State :=
  let d := qeDiff s n
  if d = 0 then s
  else qeEvent n (.index (-d) t) (s.setF (Fld.FBK_QE_CNT_CNT n) (s.f (Fld.FBK_QE_IDX_CNT_IDX_CNT n) % s.qeMod n))

/-- A mismatch recorded (R90), with the count corrected or left. -/
def qeMismatch (n : Fin 8) (t : Nat) (correct : Bool) (s : State) : State :=
  let s := s.wr (.FBK_QE_IDX_DIFF n) (wordOfInt (qeDiff s n))
  let s := s.setF (Fld.FBK_QE_IDX_STAT_RAW n) (s.f (Fld.FBK_QE_CNT_CNT n))
  let run := s.f (Fld.FBK_QE_IDX_STAT_RUN n) + 1
  let s := (s.raise (Fld.FBK_QE_STATUS_IDX_MISM n)).setF (Fld.FBK_QE_IDX_STAT_RUN n) (sat 31 run)
  let s := s.setF (Fld.FBK_QE_ERRCNT_IDX_MISS n) (sat 65535 (s.f (Fld.FBK_QE_ERRCNT_IDX_MISS n) + 1))
  let s := recordFault 0x2103 s
  let s := if correct then qeCorrect n t s else s
  if s.f (Fld.FBK_QE_IDX_CTL_IDX_LIM n) < run then qeFail n (Fld.FBK_QE_STATUS_IDX_LIMIT n) 0x2204 s else s

/-- An index event (R88 to R90). DESIGN CHOICE (log entry 37): in ONCE mode an index event homes whenever HOMED = 0, before any ARM too. -/
def qeIndex (n : Fin 8) (t : Nat) (s : State) : State :=
  let s := (s.wr (.FBK_QE_IDX_T n) (stampWord t)).raise (Fld.FBK_QE_STATUS_IDX_EV n)
  let isMatch := (qeDiff s n).natAbs ≤ s.f (Fld.FBK_QE_IDX_CTL_IDX_TOL n)
  if s.f (Fld.FBK_QE_IDX_CTL_IDX_MODE n) = 1 then
    if isMatch then qeCorrect n t (s.setF (Fld.FBK_QE_IDX_STAT_RUN n) 0) else qeMismatch n t true s
  else if s.f (Fld.FBK_QE_IDX_CTL_IDX_MODE n) = 2 then
    if !s.flag (Fld.FBK_QE_STATUS_HOMED n) then qeCorrect n t (s.raise (Fld.FBK_QE_STATUS_HOMED n))
    else if isMatch then s.setF (Fld.FBK_QE_IDX_STAT_RUN n) 0
    else qeMismatch n t (s.flag (Fld.FBK_QE_IDX_CTL_IDX_POL n)) s
  else s

/-- A filtered line of a channel's state: A, B, Z from bit 0 up. -/
def qeLevels (a b z : Bool) : Nat := bit a + 2 * bit b + 4 * bit z

/-- The index condition in a line state (R87): Z, and with ZGATE the state ZQ, whose bit 6 is A and bit 5 is B. -/
def qeIndexCond (s : State) (n : Fin 8) (st : Nat) : Bool :=
  let q := s.f (Fld.FBK_QE_IDX_CTL_ZQ n)
  st.testBit 2 && (!s.flag (Fld.FBK_QE_IDX_CTL_ZGATE n) || (st.testBit 0 == q.testBit 1 && st.testBit 1 == q.testBit 0))

/-- The change of the line state from `was` to `now` counted in quadrature mode (R84, R85). -/
def qeQuad (n : Fin 8) (was now t : Nat) (s : State) : State :=
  let step := (quadPlace (now.testBit 0) (now.testBit 1) + 4 - quadPlace (was.testBit 0) (was.testBit 1)) % 4
  if step = 0 then s
  else if step = 2 then qeDouble n t s
  else
    let up : Bool := step = 1
    let s := s.modQe n fun q => { q with lastUp := some up }
    qeEvent n (.counts (if up then 1 else -1) t) (qeMove n (if up then 1 else -1) s)

/-- The sector of a Hall state with W, V, U from bit 2 down (R91). -/
def hallSector (w : Nat) : Option Nat :=
  match w with
  | 5 => some 0
  | 1 => some 1
  | 3 => some 2
  | 2 => some 3
  | 6 => some 4
  | 4 => some 5
  | _ => none

/-- A Hall state accepted (R91). -/
def qeHall (n : Fin 8) (st t : Nat) (s : State) : State :=
  match hallSector st with
  | none => qeFail n (Fld.FBK_QE_STATUS_HALL_INV n) 0x2207 s
  | some k =>
    let d := redMod 6 ((k : Int) - s.f (Fld.FBK_QE_CNT_CNT n))
    if d = 0 then s
    else if d = 1 || d = -1 then
      let s := s.modQe n fun q => { q with lastUp := some (d == 1) }
      qeEvent n (.counts d t) (qeMove n d s)
    else
      let s := qeEvent n (.index d t) (s.setF (Fld.FBK_QE_CNT_CNT n) k)
      recordFault 0x2106 (s.raise (Fld.FBK_QE_STATUS_HALL_SKIP n))

/-! ## Input filters (R81 to R83) -/

/-- The filter length L and the prescaler of an input (R81). -/
def qeFilter (s : State) (n : Fin 8) (l : Fin 3) : Nat × Nat :=
  if l.val < 2 then (s.f (Fld.FBK_QE_FILT_AB_N n) + 1, 4 ^ s.f (Fld.FBK_QE_FILT_AB_PRE n))
  else (s.f (Fld.FBK_QE_FILT_Z_N n) + 1, 4 ^ s.f (Fld.FBK_QE_FILT_Z_PRE n))

/-- The first filter sample in core cycle `c` or later. -/
def nextSample (pre phase c : Nat) : Nat := if pre = 1 then c else c + (phase % pre + pre - c % pre) % pre

/-- A filter that has taken its samples up to core cycle `c` (R81 to R83): L samples in a row of a new level accept it, which the channel takes
two core cycles after the last of them. A sample shows the level at the start of its core cycle. -/
def lineRun (len pre phase c : Nat) (l : Fin 3) (q : QeLine) : QeLine × List QeAcc :=
  let s0 := nextSample pre phase (q.at_ / 16 + 1)
  let q := if s0 ≤ c && q.seen != q.raw then { q with seen := q.raw, since := s0 } else q
  let done := q.since + (len - 1) * pre
  if q.seen != q.out && done ≤ c then
    ({ q with out := q.seen }, [⟨done + 2, l, q.seen, if q.seen then q.rise else q.fall⟩])
  else (q, [])

/-- The filter of one input of a channel run up to a core cycle. -/
def qeSampleLine (n : Fin 8) (c : Nat) (l : Fin 3) (s : State) : State :=
  let (len, pre) := qeFilter s n l
  let (q, acc) := lineRun len pre (Config.filterPhase (2 * n.val + l.val / 2)) c l s.fbk.qe[n].line[l]
  s.modQe n fun x => { x with line := vset x.line l q, acc := x.acc ++ acc }

/-- The three filters of a channel run up to a core cycle. -/
def qeSample (n : Fin 8) (c : Nat) (s : State) : State := (List.finRange 3).foldl (fun s l => qeSampleLine n c l s) s

/-- A raw transition reaches an input (R81, R82). -/
def qeEdge (n : Fin 8) (e : QeEdge) (s : State) : State :=
  let s := qeSampleLine n (e.at_ / 16) e.line s
  s.modQe n fun x =>
    { x with line := vmod x.line e.line fun q =>
        if q.raw = e.level then q
        else { q with raw := e.level, at_ := e.at_, rise := if e.level then e.at_ else q.rise, fall := if e.level then q.fall else e.at_ } }

/-- The latest stamp of the accepted changes of some inputs. -/
def accStamp (acc : List QeAcc) (p : Fin 3 → Bool) : Nat := acc.foldl (fun t e => if p e.line then max t e.stamp else t) 0

/-- The levels accepted for one core cycle are taken (R84, R85, R87, R91, R107): the count first, then the index against the result. DESIGN
CHOICES (log entry 37): a double step has the later of its two stamps; an index gated by changes of one cycle has the latest of theirs. -/
def qeApply (n : Fin 8) (cyc : Nat) (acc : List QeAcc) (s : State) : State :=
  let s := s.advance cyc
  let was := s.f (Fld.FBK_QE_STATUS_IN n)
  let lv : Fin 3 → Bool := fun l => match acc.find? (·.line = l) with
    | some e => e.level
    | none => was.testBit l.val
  let now := qeLevels (lv 0) (lv 1) (lv 2)
  let s := s.setF (Fld.FBK_QE_STATUS_IN n) now
  if !s.qeOn n then s
  else if s.f (Fld.FBK_QE_CTL_MODE n) = 1 then qeHall n now (accStamp acc fun _ => true) s
  else
    let hit := qeIndexCond s n now && !qeIndexCond s n was
    let t := accStamp acc fun l => l = 2 || s.flag (Fld.FBK_QE_IDX_CTL_ZGATE n)
    let s := qeQuad n was now (accStamp acc (·.val < 2)) s
    if hit then qeIndex n t s else s

/-- The earliest accepted levels up to a core cycle are taken. -/
def qeTake (n : Fin 8) (cyc : Nat) (s : State) : State :=
  match s.fbk.qe[n].acc with
  | [] => s
  | e :: l =>
    let x := l.foldl (fun x e => min x e.cyc) e.cyc
    if x ≤ cyc then
      qeApply n x ((e :: l).filter (·.cyc = x)) (s.modQe n fun q => { q with acc := q.acc.filter (·.cyc != x) })
    else s

/-- Every level accepted up to a core cycle is taken, cycle by cycle. -/
def qeSettle (n : Fin 8) (cyc : Nat) (s : State) : State :=
  let s := qeSample n (cyc - 2) s
  (List.range s.fbk.qe[n].acc.length).foldl (fun s _ => qeTake n cyc s) s

/-- The raw transitions of a channel's inputs up to a core cycle, and what the filters accept by then. -/
def qeRun (n : Fin 8) (edges : List QeEdge) (cyc : Nat) (s : State) : State :=
  (qeSettle n cyc (edges.foldl (fun s e => qeEdge n e s) s)).advance cyc

/-- QUADRATURE_COUNT (R81 to R85): the raw transitions of A and those of B, each with its new level and its tap, and the counts up to
core cycle `cyc`. -/
def execQuadratureCount (n : Fin 8) (a b : List (Bool × Nat)) (cyc : Nat) (s : State) : Host.Outcome State Fault Refusal :=
  .next (qeRun n ((a.map fun e => ⟨0, e.1, e.2⟩) ++ b.map fun e => ⟨1, e.1, e.2⟩) cyc s)

/-- INDEX_EVENT (R81, R82, R87 to R90): the raw transitions of Z, and the index events up to core cycle `cyc`. -/
def execIndexEvent (n : Fin 8) (edges : List (Bool × Nat)) (cyc : Nat) (s : State) : Host.Outcome State Fault Refusal :=
  .next (qeRun n (edges.map fun e => ⟨2, e.1, e.2⟩) cyc s)

/-- HALL_CHANGE (R81, R82, R91): the raw transitions of U, V and W, and the Hall states up to core cycle `cyc`. -/
def execHallChange (n : Fin 8) (edges : List (Fin 3 × Bool × Nat)) (cyc : Nat) (s : State) : Host.Outcome State Fault Refusal :=
  .next (qeRun n (edges.map fun e => ⟨e.1, e.2.1, e.2.2⟩) cyc s)

/-- LINE_LOSS (R92): the receiver of A, B or Z (0, 1, 2) reports loss. -/
def execLineLoss (n : Fin 8) (line : Fin 3) (s : State) : Host.Outcome State Fault Refusal :=
  .next (
    if s.qeOn n && s.f (Fld.FBK_QE_CTL_MODE n) = 0 &&
        (line.val < 2 || s.f (Fld.FBK_QE_IDX_CTL_IDX_MODE n) != 0 || s.flag (Fld.FBK_QE_IDX_CTL_ZGATE n)) then
      qeFail n (Fld.FBK_QE_STATUS_LOS n) 0x2205 s
    else s)

/-- ARM written (R8, R90, R107): an index event of the write's core cycle comes first, then HOMED clears. -/
def qeArm (n : Fin 8) (s : State) : State := (qeSettle n s.time s).lower (Fld.FBK_QE_STATUS_HOMED n)

/-- INDEX_ARM (R90): ARM is taken, and reads 0, in the core cycle after that of its write, which is the next that this model shows. -/
def execIndexArm (n : Fin 8) (s : State) : Host.Outcome State Fault Refusal := .next (agentTurn (qeArm n) s)

/-- CAPTURE (R100, R107): the oldest capture trigger on its way to a channel is taken in the core cycle in which it reaches the channel,
after the counts of that cycle. -/
def execCapture (n : Fin 8) (s : State) : Host.Outcome State Fault Refusal :=
  .next (
    match takeEv n.val s.post.cap with
    | (some (t, cyc), rest) =>
      let s := (qeSettle n cyc (s.modPost fun p => { p with cap := rest })).advance cyc
      let s := s.setF (Fld.FBK_QE_CAP_CNT_CNT n) (s.f (Fld.FBK_QE_CNT_CNT n))
      let s := s.setF (Fld.FBK_QE_CAP_CNT_TURNS n) (wGet (s.rd (.FBK_QE_TURNS n)) 0 8)
      let s := s.wr (.FBK_QE_CAP_T n) (stampWord t)
      let s := if s.flag (Fld.FBK_QE_STATUS_CAP n) then s.raise (Fld.FBK_QE_STATUS_CAP_OVR n) else s
      s.raise (Fld.FBK_QE_STATUS_CAP n)
    | (none, _) => s)

/-- A write of 1 to SWTRG of a capture unit (R8, R101): it stores the write's core cycle and is taken in the next one. -/
def qeSwTrigger (n : Fin 8) (s : State) : State :=
  if s.f (Fld.FBK_QE_CAP_CTL_TRG n) = 6 then s.modPost fun p => { p with cap := p.cap ++ [(n.val, s.now, s.time + 1)] } else s

/-- CAPTURE_SWTRG (R101). -/
def execCaptureSwtrg (n : Fin 8) (s : State) : Host.Outcome State Fault Refusal := .next (agentTurn (qeSwTrigger n) s)

/-- CLR.DS (R86), after the counts of its core cycle. -/
def qeClearDs (n : Fin 8) (s : State) : State := (qeSettle n s.time s).setF (Fld.FBK_QE_ERRCNT_DS_CNT n) 0

/-- CLR.IDX (R105), after the index events of its core cycle (R107). -/
def qeClearIdx (n : Fin 8) (s : State) : State :=
  ((qeSettle n s.time s).setF (Fld.FBK_QE_ERRCNT_IDX_MISS n) 0).setF (Fld.FBK_QE_IDX_STAT_RUN n) 0

/-- CLEAR_DOUBLE_STEPS (R86). -/
def execClearDoubleSteps (n : Fin 8) (s : State) : Host.Outcome State Fault Refusal := .next (agentTurn (qeClearDs n) s)

/-- CLEAR_INDEX_MISSES (R105). -/
def execClearIndexMisses (n : Fin 8) (s : State) : Host.Outcome State Fault Refusal := .next (agentTurn (qeClearIdx n) s)

def qeIgn (n : Fin 8) (s : State) : State := s.raise (Fld.FBK_QE_STATUS_WR_IGN n)

/-- A channel enabled (R102): FAILED, HOMED, RUN and the sticky bits clear and TURNS starts at 0; in Hall mode the count is the
present sector, and a state that is none fails the channel (R91). -/
def qeEnable (n : Fin 8) (s : State) : State :=
  let s := s.wr (.FBK_QE_STATUS n) (s.rd (.FBK_QE_STATUS n) &&& 0xFFFCF800#32)
  let s := (s.setF (Fld.FBK_QE_IDX_STAT_RUN n) 0).wr (.FBK_QE_TURNS n) 0#32
  let s := s.modQe n fun q => { q with lastUp := none }
  if s.f (Fld.FBK_QE_CTL_MODE n) = 1 then
    match hallSector (s.f (Fld.FBK_QE_STATUS_IN n)) with
    | some k => s.setF (Fld.FBK_QE_CNT_CNT n) k
    | none => qeFail n (Fld.FBK_QE_STATUS_HALL_INV n) 0x2207 s
  else s

/-- A write to FBK_QEn_CTL (R102, R106): what the filters accept in its core cycle meets the new EN (R107). -/
def qeCtlWrite (n : Fin 8) (v : Word) (s : State) : State :=
  let s := qeSettle n (s.time - 1) s
  let on := s.qeOn n
  let s := writeGuarded (.FBK_QE_CTL n) v (if on then 6#32 else 0#32) (qeIgn n) s
  if !on && s.qeOn n then qeEnable n s else s

/-- QE_CTL_WRITE (R102, R106). -/
def execQeCtlWrite (n : Fin 8) (value : Word) (s : State) : Host.Outcome State Fault Refusal := .next (agentTurn (qeCtlWrite n value) s)

/-- A write to MOD or CNT of a channel (R106); a count beyond MOD − 1 is not taken. -/
def qeGuardedWrite (n : Fin 8) (r : Reg) (v : Word) (s : State) : State :=
  let out : Bool := r = .FBK_QE_CNT n && s.qeMod n ≤ wGet v 0 24
  if out && !s.qeOn n then s else writeGuarded r v (if s.qeOn n then 0xFFFFFFFF#32 else 0#32) (qeIgn n) s

/-! ## SSI channels (R93 to R99) -/

def State.ssiOn (s : State) (n : Fin 4) : Bool := s.flag (Fld.FBK_SSI_CTL_EN n)

def ssiIgn (n : Fin 4) (s : State) : State := s.raise (Fld.FBK_SSI_STATUS_WR_IGN n)

/-- BUSY follows the burst and the pause. -/
def ssiBusy (n : Fin 4) (s : State) : State :=
  s.setF (Fld.FBK_SSI_STATUS_BUSY n) (bit (!s.fbk.ssi[n].frames.isEmpty || s.fbk.ssi[n].pause))

/-- A frame layout is reserved (R96), with the parity of a control word. -/
def ssiLayoutBad (s : State) (n : Fin 4) (ctl : Word) : Bool :=
  s.f (Fld.FBK_SSI_FRAME_FLEN n) < s.f (Fld.FBK_SSI_FRAME_POS_SH n) + s.f (Fld.FBK_SSI_FRAME_MT_BITS n) +
    s.f (Fld.FBK_SSI_FRAME_ST_BITS n) + bit (wGet ctl 13 2 != 0)

/-- A channel enabled (R95, R102): triggers raised before are gone, and PERIOD counts from now. -/
def ssiEnable (n : Fin 4) (s : State) : State :=
  let s := s.wr (.FBK_SSI_STATUS n) (s.rd (.FBK_SSI_STATUS n) &&& 0xFFFF0D80#32)
  let s := (s.lower (Fld.FBK_SSI_STATUS_FAILED n)).wr (.FBK_SSI_FRAMES n) 0#32
  let s := s.modPost fun p => { p with ssi := p.ssi.filter (·.1 != n.val) }
  s.modSsi n fun c => { c with org := s.time }

/-- EN = 0 written (R95): the clock returns high, and the frames that are not complete are discarded. -/
def ssiStop (n : Fin 4) (s : State) : State :=
  if s.fbk.ssi[n].frames.isEmpty then s
  else
    ssiBusy n (s.modSsi n fun c => { c with frames := [], rise := min c.rise s.time, last := min c.last s.time })

/-- A write to FBK_SSIn_CTL (R95, R106). -/
def ssiCtlWrite (n : Fin 4) (v : Word) (s : State) : State :=
  let on := s.ssiOn n
  let merged := (guardMask (s.rd (.FBK_SSI_CTL n)) (writeMerged s (.FBK_SSI_CTL n) v) (if on then 0x7000#32 else 0#32)).1
  if v.getLsbD 0 && ssiLayoutBad s n merged then ssiIgn n s
  else
    let s := writeGuarded (.FBK_SSI_CTL n) v (if on then 0x7000#32 else 0#32) (ssiIgn n) s
    if !on && s.ssiOn n then ssiEnable n s
    else if on && !s.ssiOn n then ssiStop n s
    else s

/-- SSI_CTL_WRITE (R95). -/
def execSsiCtlWrite (n : Fin 4) (value : Word) (s : State) : Host.Outcome State Fault Refusal := .next (agentTurn (ssiCtlWrite n value) s)

/-- A write to an RWL register of an SSI channel (R106): its RWL fields, named by a mask, are guarded while EN = 1. -/
def ssiGuardedWrite (n : Fin 4) (r : Reg) (mask v : Word) (s : State) : State :=
  writeGuarded r v (if s.ssiOn n then mask else 0#32) (ssiIgn n) s

/-- A write of 1 to SWTRG of an SSI channel (R101). -/
def ssiSwTrigger (n : Fin 4) (s : State) : State :=
  if s.ssiOn n && s.f (Fld.FBK_SSI_CTL_TRG n) = 6 then s.modPost fun p => { p with ssi := p.ssi ++ [(n.val, s.now, s.time)] } else s

/-- SSI_SWTRG (R99, R101). -/
def execSsiSwtrg (n : Fin 4) (s : State) : Host.Outcome State Fault Refusal := .next (agentTurn (ssiSwTrigger n) s)

/-- The clock period of a channel in core cycles (R93). -/
def ssiPeriod (s : State) (n : Fin 4) : Nat := 2 * (s.f (Fld.FBK_SSI_CLK_HDIV n) + 1)

/-- The level of a channel's clock output in a core cycle (R93, R95): idle high, low in the first half of each period of a burst. DEDUCED (log
entry 37): the clock stays high after the last rising edge, so the falling edge that R93 counts as k = FLEN is not driven. -/
def ssiClock (s : State) (n : Fin 4) (cyc : Nat) : Bool :=
  let c := s.fbk.ssi[n]
  c.rise ≤ cyc || cyc < c.t0 || ssiPeriod s n / 2 ≤ (cyc - c.t0) % ssiPeriod s n

/-- A trigger reaches a channel in a core cycle (R99): a burst starts once the last sample of the burst before has been taken and TM has passed
since its last rising edge, else the trigger is dropped. `ready` is the data level at t0. -/
def ssiTrigger (n : Fin 4) (cyc : Nat) (ready : Bool) (s : State) : State :=
  let c := s.fbk.ssi[n]
  if (!c.frames.isEmpty || c.pause) && (cyc < c.last || cyc < c.rise + s.f (Fld.FBK_SSI_CLK_TM n) * Config.cyclesPerUs) then
    s.raise (Fld.FBK_SSI_STATUS_TRG_LOST n)
  else
    let len := s.f (Fld.FBK_SSI_FRAME_FLEN n)
    let rise := cyc + len * ssiPeriod s n - ssiPeriod s n / 2
    let last := cyc + len * ssiPeriod s n + s.f (Fld.FBK_SSI_LDC_LDC n)
    ssiBusy n (s.modSsi n fun c =>
      { c with frames := c.frames ++ [⟨cyc, rise, last, ready⟩], pause := true, t0 := cyc, rise := rise, last := last })

/-- The core cycle of the next periodic trigger (R99): a multiple of PERIOD from EN on. DESIGN CHOICE (log entry 37): PERIOD or TRG written
later takes up the same multiples. -/
def ssiTick (s : State) (n : Fin 4) (p : Nat) : Nat :=
  let org := s.fbk.ssi[n].org
  org + max 1 ((s.time - org + p - 1) / p) * p

/-- SSI_BURST_START (R99): the trigger of a channel arrives: the periodic one when it is due, or the oldest of the selected
kind. -/
def execSsiBurstStart (n : Fin 4) (ready : Bool) (s : State) : Host.Outcome State Fault Refusal :=
  .next (
    if !s.ssiOn n then s
    else if s.f (Fld.FBK_SSI_CTL_TRG n) = 5 then
      let p := s.f (Fld.FBK_SSI_PERIOD_PERIOD n)
      if p = 0 then s
      else
        let cyc := ssiTick s n p
        ssiTrigger n cyc ready ((s.advance cyc).modSsi n fun c => { c with org := cyc })
    else
      match takeEv n.val s.post.ssi with
      | (some (_, cyc), rest) => ssiTrigger n cyc ready ((s.advance cyc).modPost fun p => { p with ssi := rest })
      | (none, _) => s)

/-- A Gray word of `w` bits as binary (R96). -/
def grayToBin : Nat → Nat → Nat → Nat
  | 0, _, acc => acc
  | w + 1, g, acc => grayToBin w g (2 * acc + (if g.testBit w != acc.testBit 0 then 1 else 0))

/-- How many of the low `w` bits are 1. -/
def onesIn : Nat → Nat → Nat
  | 0, _ => 0
  | w + 1, x => bit (x.testBit w) + onesIn w x

/-- The multi-turn and single-turn values of a frame (R96). -/
def ssiSplit (s : State) (n : Fin 4) (raw : Nat) : Nat × Nat :=
  let w := s.f (Fld.FBK_SSI_FRAME_MT_BITS n) + s.f (Fld.FBK_SSI_FRAME_ST_BITS n)
  let field := raw >>> (s.f (Fld.FBK_SSI_FRAME_FLEN n) - s.f (Fld.FBK_SSI_FRAME_POS_SH n) - w) % 2 ^ w
  let v := if s.flag (Fld.FBK_SSI_CTL_CODE n) then grayToBin w field 0 else field
  (v / 2 ^ s.f (Fld.FBK_SSI_FRAME_ST_BITS n), v % 2 ^ s.f (Fld.FBK_SSI_FRAME_ST_BITS n))

/-- The parity bit of a frame is wrong (R96, R98). -/
def ssiParityBad (s : State) (n : Fin 4) (raw : Nat) : Bool :=
  let odd := onesIn (s.f (Fld.FBK_SSI_FRAME_FLEN n)) raw % 2
  match s.f (Fld.FBK_SSI_CTL_PAR n) with
  | 1 => odd = 1
  | 2 => odd = 0
  | _ => false

/-- The encoder's error flag is active (R96, R98). -/
def ssiEncoderErr (s : State) (n : Fin 4) (raw : Nat) : Bool :=
  let k := s.f (Fld.FBK_SSI_ERR_ERR_BIT n)
  k != 0 && k ≤ s.f (Fld.FBK_SSI_FRAME_FLEN n) &&
    raw.testBit (s.f (Fld.FBK_SSI_FRAME_FLEN n) - k) == s.flag (Fld.FBK_SSI_ERR_ERR_POL n)

/-- A frame without errors (R97), of a burst that began in core cycle `t0`. -/
def ssiValid (n : Fin 4) (t0 raw : Nat) (s : State) : State :=
  let (mt, st) := ssiSplit s n raw
  let stamp := (t0 + s.f (Fld.FBK_SSI_LDC_LAT_OFS n)) * 16 + s.f (Fld.FBK_SSI_LDC_LDC n) * 8
  let s := s.modSsi n fun c => { c with mt := BitVec.ofNat 32 mt, raw := BitVec.ofNat 48 raw, stamp := stamp }
  let s := (s.setF (Fld.FBK_SSI_ST_ST n) st).raise (Fld.FBK_SSI_STATUS_FRAME n)
  let s := (s.wr (.FBK_SSI_FRAMES n) (s.rd (.FBK_SSI_FRAMES n) + 1#32)).setF (Fld.FBK_SSI_STATUS_ERUN n) 0
  if s.flag (Fld.FBK_SSI_STATUS_FAILED n) then s
  else postGen 2 n.val (.sampled (BitVec.ofNat 32 (st * 2 ^ (32 - s.f (Fld.FBK_SSI_FRAME_ST_BITS n)))) stamp) s

/-- A discarded frame (R98). DESIGN CHOICE (log entry 37): the channel fails where ERUN comes to equal ELIM, so an ELIM written below the present
run lets no later frame fail it. -/
def ssiDiscard (n : Fin 4) (s : State) : State :=
  let run := s.f (Fld.FBK_SSI_STATUS_ERUN n) + 1
  let s := recordFault 0x2108 (s.setF (Fld.FBK_SSI_STATUS_ERUN n) (sat 15 run))
  if run = s.f (Fld.FBK_SSI_ERR_ELIM n) then
    recordFault 0x2209 ((s.raise (Fld.FBK_SSI_STATUS_ELIMIT n)).raise (Fld.FBK_SSI_STATUS_FAILED n))
  else s

/-- SSI_FRAME_COMPLETE (R94, R97, R98): the bits of the oldest burst, the last in bit 0, two core cycles after its last sample. -/
def execSsiFrameComplete (n : Fin 4) (raw : BitVec 48) (s : State) : Host.Outcome State Fault Refusal :=
  .next (
    match s.fbk.ssi[n].frames with
    | [] => s
    | b :: rest =>
      let s := ssiBusy n ((s.advance (b.last + 2)).modSsi n fun c => { c with frames := rest })
      let w := raw.toNat % 2 ^ s.f (Fld.FBK_SSI_FRAME_FLEN n)
      let notReady := !b.ready
      let par := ssiParityBad s n w
      let enc := ssiEncoderErr s n w
      let s := if notReady then s.raise (Fld.FBK_SSI_STATUS_NOT_READY n) else s
      let s := if par then s.raise (Fld.FBK_SSI_STATUS_PAR_ERR n) else s
      let s := if enc then s.raise (Fld.FBK_SSI_STATUS_ENC_ERR n) else s
      if notReady || par || enc then ssiDiscard n s else ssiValid n b.t0 w s)

/-- SSI_PAUSE_END (R99): TM has passed since the last rising edge. -/
def execSsiPauseEnd (n : Fin 4) (s : State) : Host.Outcome State Fault Refusal :=
  .next (
    if s.fbk.ssi[n].pause then
      let s := s.advance (s.fbk.ssi[n].rise + s.f (Fld.FBK_SSI_CLK_TM n) * Config.cyclesPerUs)
      ssiBusy n (s.modSsi n fun c => { c with pause := false })
    else s)

/-- A read of FBK_SSIn_ST, with MT, RAW and T of the same frame captured (R105). -/
def ssiRead (n : Fin 4) (s : State) : Word × State :=
  let c := s.fbk.ssi[n]
  let s' := (s.wr (.FBK_SSI_MT n) c.mt).wr (.FBK_SSI_RAW_LO n) (c.raw.setWidth 32)
  (s.rd (.FBK_SSI_ST n), (s'.wr (.FBK_SSI_RAW_HI n) ((c.raw >>> 32).setWidth 32)).wr (.FBK_SSI_T n) (stampWord c.stamp))

end Sys2Proof.Machine
end

