-- ==== Sys2Proof/Machine/Sdm.lean ====
section
/-! DEFINITION. Redundant current sensing (04): the sinc filters, words and their windows, the bank and sum checks, delivery, stuck data and
the sinc2 sources. A command that completes a word or changes a sinc2 source tells the captured bits that its filter spans. -/

namespace Sys2Proof.Machine

open Sys2Proof

def State.modSdm (s : State) (k : Fin 32) (f : SdmCh → SdmCh) : State := { s with sdm := vmod s.sdm k f }

def State.sdmOn (s : State) (k : Fin 32) : Bool := s.flag (Fld.SDM_CH_CTL_EN k)

/-- The partner of a channel in its check pair, and the pair (R118). -/
def sdmPair (k : Fin 32) : Fin 16 := ⟨k.val % 16, Nat.mod_lt _ (by decide)⟩
def sdmPartner (k : Fin 32) : Fin 32 := ⟨(k.val + 16) % 32, Nat.mod_lt _ (by decide)⟩

/-- The check pair of a channel is enabled. -/
def State.pairOn (s : State) (k : Fin 32) : Bool := s.flag (Fld.SDM_CHK_CTL_EN (sdmPair k))

/-- The clock output of a channel, and its divider (R111). -/
def sdmClock (s : State) (k : Fin 32) : Fin 8 := ⟨(s.f (Fld.SDM_CH_CTL_CK k) + 4 * (k.val / 16)) % 8, Nat.mod_lt _ (by decide)⟩
def sdmDiv (s : State) (k : Fin 32) : Nat := s.f (Fld.SDM_CK_CTL_DIV (sdmClock s k))

/-- WIN and the OSR in force for a channel (R114, R118). -/
def sdmWin (s : State) (k : Fin 32) : Nat := s.f (Fld.SDM_CH_CTL_WIN (winOwner s k))
def sdmOsr (s : State) (k : Fin 32) : Nat := 16 * 2 ^ s.f (Fld.SDM_CH_CTL_OSR3 (winOwner s k))

/-- SDCKj has a rising edge in a core cycle (R111). -/
def sdckRise (s : State) (j : Fin 8) (cyc : Nat) : Bool :=
  s.flag (Fld.SDM_CK_CTL_EN j) && cyc % max 1 (s.f (Fld.SDM_CK_CTL_DIV j)) = 0

/-- The last eight bits captured up to the end of modulator period `n`, with the core cycles in which their periods began (R112). -/
def keepBits (k : Fin 32) (n bits : Nat) (s : State) : State :=
  let div := sdmDiv s k
  s.modSdm k fun c => { c with kept := (List.range 8).map fun i => (bits.testBit i, (n - i) * div) }

/-- The sums of a list's beginnings, from the empty one on. -/
def sums (acc : Nat) : List Nat → List Nat
  | [] => [acc]
  | x :: xs => acc :: sums (acc + x) xs

/-- The sums of every `w` neighbours of a list. -/
def boxcar (w : Nat) (xs : List Nat) : List Nat :=
  let ps := sums 0 xs
  List.zipWith (fun a b => b - a) ps (ps.drop w)

/-- `n` bits of a word from bit `i` up, as numbers. -/
def bitList (bits i n : Nat) : List Nat := (List.range n).map fun j => bit (bits.testBit (i + j))

/-- The raw output of the sinc3 filter over 3 × OSR bits (R114, R116), the newest in bit 0: three running sums. DEDUCED (log entry 40): its
3 × OSR − 2 weights lie centred in the window, whose centre R116 puts 1.5 × OSR periods after t_s. -/
def sinc3 (osr bits : Nat) : Nat := (boxcar osr (boxcar osr (boxcar osr (bitList bits 1 (3 * osr - 2))))).headD 0

/-- The raw output of the sinc2 filter over 2 × OSR2 bits (R123), the newest in bit 0: two running sums. DESIGN CHOICE (log entry 40): of the
bits the oldest has no weight. -/
def sinc2 (osr bits : Nat) : Nat := (boxcar osr (boxcar osr (bitList bits 0 (2 * osr - 1)))).headD 0

/-- Core cycles from t_s to the end of a word's bits (R116). -/
def sdmSpan (s : State) (k : Fin 32) : Nat := 3 * sdmOsr s k * sdmDiv s k

/-- The 24-bit saturation of R114. -/
def sat24 (x : Int) : Int := max (-(2 ^ 23)) (min x (2 ^ 23 - 1))

/-- The trimmed word of a raw filter output at an OSR (R114) before its last saturation. -/
def sdmTrim (s : State) (k : Fin 32) (osr r : Nat) : Int :=
  let full := osr ^ 3
  let n := sat24 ((2 * (r : Int) - (full : Int)) * 2 ^ 23 / (full : Int))
  Int.tdiv ((n - sext 24 (s.f (Fld.SDM_CH_OFS_OFS k))) * s.f (Fld.SDM_CH_GAIN_GAIN k)) (2 ^ 15)

/-! ## Checks (R119 to R121) -/

/-- The class 0x2 reaction of a channel's fault (R121): its axis goes to SAFE_HOLD; a free channel stops. -/
def sdmReaction (k : Fin 32) (s : State) : State :=
  if h : k.val % 16 < 12 then dsgWatch (s.setAxis ⟨k.val % 16 / 3, by omega⟩ axHold)
  else s.modSdm k fun c => { c with halted := true }

/-- A word's tags and check marks changed. -/
def tagWord (k : Fin 32) (f : SdmWord → SdmWord) (s : State) : State := s.modSdm k fun c => { c with pend := c.pend.map f }

/-- A channel holds a complete word of a window. -/
def hasWord (s : State) (k : Fin 32) (key : Nat) : Bool :=
  match s.sdm[k].pend with
  | some w => w.key = key
  | none => false

/-- A channel will have, or has, a word of a window (R117 to R119). -/
def wordExpected (s : State) (k : Fin 32) (key : Nat) : Bool :=
  s.sdmOn k && (hasWord s k key || s.sdm[k].win.any (·.key = key) ||
    (sdmWin s k = 0 && s.sdm[k].pend.isNone && s.sdm[k].enCyc + sdmSpan s k ≤ key / 16 &&
      key / 16 % (sdmOsr s k * sdmDiv s k) = 0 && sdckRise s (sdmClock s k) (key / 16)))

/-- A mismatch of a pair (R119). -/
def pairMismatch (m : Fin 16) (s : State) : State :=
  let run := s.f (Fld.SDM_CHK_STAT_XRUN m) + 1
  let s := (s.setF (Fld.SDM_CHK_STAT_XCNT m) (sat 65535 (s.f (Fld.SDM_CHK_STAT_XCNT m) + 1))).raise (Fld.SDM_CHK_STAT_XMIS m)
  let s := recordFault 0x3001 (s.setF (Fld.SDM_CHK_STAT_XRUN m) (sat 15 run))
  if s.f (Fld.SDM_CHK_CTL_XLIM m) != 0 && run = s.f (Fld.SDM_CHK_CTL_XLIM m) then
    let a : Fin 32 := ⟨m.val, by omega⟩
    sdmReaction (sdmPartner a) (sdmReaction a (recordFault 0x3202 (s.raise (Fld.SDM_CHK_STAT_XLIMIT m))))
  else s

/-- The pair check of a channel's waiting word, if it can be made (R118, R119). -/
def pairSettle (k : Fin 32) (s : State) : State :=
  match s.sdm[k].pend with
  | some w =>
    if w.pairDone then s
    else if !s.pairOn k then tagWord k (fun x => { x with pairDone := true }) s
    else
      let p := sdmPartner k
      let m := sdmPair k
      if hasWord s p w.key then
        match s.sdm[p].pend with
        | some v =>
          let bad := w.tags.getLsbD 3 || v.tags.getLsbD 3 || s.f (Fld.SDM_CHK_CTL_XTOL m) * 256 < (w.w - v.w).natAbs
          let tag (x : SdmWord) : SdmWord := { x with pairDone := true, tags := if bad then x.tags ||| 1#4 else x.tags }
          let s := tagWord p tag (tagWord k tag s)
          if bad then pairMismatch m s else s.setF (Fld.SDM_CHK_STAT_XRUN m) 0
        | none => s
      else if wordExpected s p w.key then s
      else pairMismatch m (tagWord k (fun x => { x with pairDone := true, tags := x.tags ||| 9#4 }) s)
  | none => s

/-- The three channels of a channel's sum group and bank (R120). -/
def sumMates (k : Fin 32) : Option (Fin 4 × Bool × Vector (Fin 32) 3) :=
  if h : k.val % 16 < 12 then
    let b := 16 * (k.val / 16) + 3 * (k.val % 16 / 3)
    some (⟨k.val % 16 / 3, by omega⟩, decide (16 ≤ k.val),
      #v[⟨b % 32, Nat.mod_lt _ (by decide)⟩, ⟨(b + 1) % 32, Nat.mod_lt _ (by decide)⟩, ⟨(b + 2) % 32, Nat.mod_lt _ (by decide)⟩])
  else none

/-- A sum beyond STOL (R120). -/
def sumMismatch (g : Fin 4) (b : Bool) (s : State) : State :=
  let F := if b then Fld.SDM_SG_STAT_SRUN_B g else Fld.SDM_SG_STAT_SRUN_A g
  let run := s.f F + 1
  let s := s.setF (Fld.SDM_SG_STAT_SCNT g) (sat 65535 (s.f (Fld.SDM_SG_STAT_SCNT g) + 1))
  let s := (s.setF F (sat 15 run)).raise (if b then Fld.SDM_SG_STAT_SMIS_B g else Fld.SDM_SG_STAT_SMIS_A g)
  let s := recordFault 0x3003 s
  if s.f (Fld.SDM_SG_CTL_SLIM g) != 0 && run = s.f (Fld.SDM_SG_CTL_SLIM g) then
    dsgWatch ((recordFault 0x3204 (s.raise (Fld.SDM_SG_STAT_SLIMIT g))).setAxis g axHold)
  else s

/-- The sum check of a channel's waiting word, if it can be made (R120). -/
def sumSettle (k : Fin 32) (s : State) : State :=
  match s.sdm[k].pend, sumMates k with
  | some w, some (g, b, mates) =>
    if w.sumDone then s
    else if !(if b then s.flag (Fld.SDM_SG_CTL_EN_B g) else s.flag (Fld.SDM_SG_CTL_EN_A g)) then
      tagWord k (fun x => { x with sumDone := true }) s
    else if mates.all fun j => hasWord s j w.key then
      let total := mates.foldl (fun t j => t + (match s.sdm[j].pend with | some x => x.w | none => 0)) (0 : Int)
      let bad := s.f (Fld.SDM_SG_CTL_STOL g) * 256 < total.natAbs
      let tag (x : SdmWord) : SdmWord := { x with sumDone := true, tags := if bad then x.tags ||| 2#4 else x.tags }
      let s := mates.foldl (fun s j => tagWord j tag s) s
      if bad then sumMismatch g b s else s.setF (if b then Fld.SDM_SG_STAT_SRUN_B g else Fld.SDM_SG_STAT_SRUN_A g) 0
    else if mates.all fun j => wordExpected s j w.key then s
    else tagWord k (fun x => { x with sumDone := true }) s
  | some _, none => tagWord k (fun x => { x with sumDone := true }) s
  | none, _ => s

/-! ## Delivery (R122, R532) -/

/-- A word whose checks have been made is delivered (R122). -/
def sdmDeliver (k : Fin 32) (s : State) : State :=
  match s.sdm[k].pend with
  | some w =>
    if w.pairDone && w.sumDone then
      let seq := w.seq.getD s.sdm[k].seq
      let word : Word := BitVec.ofNat 32 (wrapN 24 w.w + 2 ^ 24 * w.tags.toNat + 2 ^ 28 * (seq % 16))
      let s := s.modSdm k fun c => { c with pend := none, seq := if w.seq.isSome then c.seq else (c.seq + 1) % 16 }
      let s := (s.wr (.SDM_CH_DATA k) word).raise (Fld.SDM_CH_STATUS_WORD k)
      let s := if w.tags.getLsbD 2 then s.raise (Fld.SDM_CH_STATUS_SAT k) else s
      let s := if s.flag (Fld.SDM_CH_CTL_DMA k) then postDma k.val none s else s
      anvWord k.val word s
    else s
  | none => s

/-- Every waiting word whose checks can now be made, judged and delivered. -/
def sdmSettle (s : State) : State :=
  let s := (List.finRange 32).foldl (fun s k => pairSettle k s) s
  let s := (List.finRange 32).foldl (fun s k => sumSettle k s) s
  (List.finRange 32).foldl (fun s k => sdmDeliver k s) s

/-- A word that still waits when the next one of its channel completes: its partners brought none for its window. -/
def sdmFlush (k : Fin 32) (s : State) : State :=
  match s.sdm[k].pend with
  | some w =>
    let s := if w.pairDone then s
      else pairMismatch (sdmPair k) (tagWord k (fun x => { x with pairDone := true, tags := x.tags ||| 9#4 }) s)
    sdmDeliver k (tagWord k (fun x => { x with sumDone := true }) s)
  | none => s

/-- The word of a window complete with its bits, of which modulator period `n` is the last (R112, R114, R116). -/
def sdmComplete (k : Fin 32) (key : Nat) (seq : Option Nat) (osr n bits : Nat) (s : State) : State :=
  let s := sdmFlush k (keepBits k n bits s)
  let x := sdmTrim s k osr (sinc3 osr bits)
  let inv := s.flag (Fld.SDM_CH_STATUS_STUCK_NOW k) || s.sdm[k].halted
  let tags : BitVec 4 := BitVec.ofNat 4 (4 * bit (x != sat24 x) + 8 * bit inv)
  sdmSettle (s.modSdm k fun c =>
    { c with pend := some { key := key, w := sat24 x, tags := tags, seq := seq, pairDone := false, sumDone := false } })

/-- CONTINUOUS_WORD (R115, R532): modulator period `n` ends a word with its 3 × OSR bits, the newest in bit 0. -/
def execContinuousWord (k : Fin 32) (n bits : Nat) (s : State) : Host.Outcome State Fault Refusal :=
  .next (
    let fin := (n + 1) * sdmDiv s k
    if s.sdmOn k && sdckRise s (sdmClock s k) fin && sdmWin s k = 0 && (n + 1) % sdmOsr s k = 0 &&
        s.sdm[k].enCyc + sdmSpan s k ≤ fin then
      let s := s.advance (fin + s.f (Fld.SDM_CH_CTL_DLY k) + 8)
      sdmComplete k (fin * 16) (some ((n + 1) / sdmOsr s k % 16)) (sdmOsr s k) n bits s
    else s)

/-- A window event at an instant (R116, R117). -/
def sdmWindow (k : Fin 32) (tc : Nat) (s : State) : State :=
  if !s.sdmOn k || !s.flag (Fld.SDM_CK_CTL_EN (sdmClock s k)) then s
  else if s.sdm[k].win.isSome then recordFault 0x3106 (s.raise (Fld.SDM_CH_STATUS_WIN_LOST k))
  else
    let div := max 1 (sdmDiv s k)
    let ts := (tc + 16 * div - 1) / (16 * div) * div
    let osr := sdmOsr s k
    let s := s.modSdm k fun c => { c with win := some ⟨tc, ts, osr⟩ }
    (s.wr (.SDM_CH_WS_T k) (stampWord (ts * 16))).raise (Fld.SDM_CH_STATUS_OPEN k)

/-- SAMPLING_WINDOW_EVENT (R116, R117): the oldest window event on its way to a channel, which reaches the block one core cycle after the
event. -/
def execSamplingWindowEvent (k : Fin 32) (s : State) : Host.Outcome State Fault Refusal :=
  .next (
    match takeEv k.val s.post.win with
    | (some tc, rest) => sdmWindow k tc ((s.advance (tc / 16 + 1)).modPost fun p => { p with win := rest })
    | (none, _) => s)

/-- The window events that have reached the block by now are taken: they come before a write of their cycle (R130). -/
def sdmDrain (s : State) : State :=
  let due := s.post.win.filter fun e => e.2 / 16 + 1 ≤ s.time
  due.foldl (fun s e => sdmWindow ⟨e.1 % 32, Nat.mod_lt _ (by decide)⟩ e.2 s)
    (s.modPost fun p => { p with win := p.win.filter fun e => s.time < e.2 / 16 + 1 })

/-- A write to SDM_SWTRG (R118). -/
def sdmSwTrigger (mask : Word) (s : State) : State :=
  (List.finRange 32).foldl (fun s k =>
    if mask.getLsbD (winOwner s k).val && s.sdmOn k && sdmWin s k = 3 then sdmWindow k s.now s else s) s

/-- SOFTWARE_WINDOW (R118). -/
def execSoftwareWindow (mask : Word) (s : State) : Host.Outcome State Fault Refusal := .next (agentTurn (sdmSwTrigger mask) s)

/-- WINDOW_WORD_COMPLETE (R116): the open window of a channel ends with its 3 × OSR bits, the newest in bit 0. -/
def execWindowWordComplete (k : Fin 32) (bits : Nat) (s : State) : Host.Outcome State Fault Refusal :=
  .next (
    match s.sdm[k].win with
    | some w =>
      let div := sdmDiv s k
      let s := s.advance (w.ts + 3 * w.osr * div + s.f (Fld.SDM_CH_CTL_DLY k) + 8)
      let s := (s.modSdm k fun c => { c with win := none }).lower (Fld.SDM_CH_STATUS_OPEN k)
      sdmComplete k w.key none w.osr (w.ts / max 1 div + 3 * w.osr - 1) bits s
    | none => s)

/-! ## Stuck data and the sinc2 sources (R113, R123, R124) -/

/-- STUCK (R113): one data level for 128 modulator periods. -/
def execStuck (k : Fin 32) (s : State) : Host.Outcome State Fault Refusal :=
  .next (
    if s.sdmOn k && s.flag (Fld.SDM_CK_CTL_EN (sdmClock s k)) && !s.flag (Fld.SDM_CH_STATUS_STUCK_NOW k) then
      sdmReaction k (recordFault 0x3205 ((s.raise (Fld.SDM_CH_STATUS_STUCK k)).raise (Fld.SDM_CH_STATUS_STUCK_NOW k)))
    else s)

/-- STUCK_END (R113): the data toggles again. -/
def execStuckEnd (k : Fin 32) (s : State) : Host.Outcome State Fault Refusal :=
  .next (s.lower (Fld.SDM_CH_STATUS_STUCK_NOW k))

/-- The Quench source of a channel's sinc2 filter (R247). -/
def sinc2Src (k : Fin 32) : Fin 128 := ⟨80 + k.val, by omega⟩

/-- The sinc2 source of a channel released. -/
def sinc2Off (k : Fin 32) (s : State) : State :=
  if s.flag (Fld.SDM_CH_STATUS_FACT k) then sourceInactive (sinc2Src k) (s.lower (Fld.SDM_CH_STATUS_FACT k)) else s

/-- The 16-bit value of a raw sinc2 output (R114, R123). -/
def sinc2Value (osr r : Nat) : Int := min ((2 * (r : Int) - osr ^ 2) * 2 ^ 15 / (osr ^ 2 : Nat)) (2 ^ 15 - 1)

/-- SINC2_CHANGE (R123, R124): the sinc2 update at the end of modulator period `n`, with the 2 × OSR2 bits, the newest in bit 0. A change of the
source falls 18 core cycles after the capture of the newest bit. -/
def execSinc2Change (k : Fin 32) (n bits : Nat) (s : State) : Host.Outcome State Fault Refusal :=
  .next (
    let fin := (n + 1) * sdmDiv s k
    if s.sdmOn k && s.flag (Fld.SDM_CH_CTL_FEN k) && sdckRise s (sdmClock s k) fin then
      let at_ := fin + s.f (Fld.SDM_CH_CTL_DLY k) + 18
      let osr := 8 * 2 ^ s.f (Fld.SDM_CH_CTL_OSR2 k)
      let x := sinc2Value osr (sinc2 osr bits)
      let s := keepBits k n bits ((s.advance at_).setF (Fld.SDM_CH_FWORD_F k) (wrapN 16 x))
      let hi := sext 16 (s.f (Fld.SDM_CH_FTH_HI k))
      let lo := sext 16 (s.f (Fld.SDM_CH_FTH_LO k))
      let hys : Int := s.f (Fld.SDM_CH_FHYS_FHYS k)
      if s.flag (Fld.SDM_CH_STATUS_FACT k) then
        (if lo + hys ≤ x && x ≤ hi - hys then sinc2Off k s else s)
      else if hi < x || x < lo then
        sourceActive (sinc2Src k) (at_ * 16) ((s.raise (Fld.SDM_CH_STATUS_FACT k)).raise (Fld.SDM_CH_STATUS_FTRIP k))
      else s
    else s)

/-! ## Counters and control writes (R118, R128, R129) -/

/-- The counters of check pairs cleared. -/
def pairClear (mask : BitVec 16) (s : State) : State :=
  (List.finRange 16).foldl (fun s m =>
    if mask.getLsbD m.val then (s.setF (Fld.SDM_CHK_STAT_XCNT m) 0).setF (Fld.SDM_CHK_STAT_XRUN m) 0 else s) s

/-- The counters of sum groups cleared. -/
def groupClear (mask : BitVec 4) (s : State) : State :=
  (List.finRange 4).foldl (fun s g =>
    if mask.getLsbD g.val then
      ((s.setF (Fld.SDM_SG_STAT_SCNT g) 0).setF (Fld.SDM_SG_STAT_SRUN_A g) 0).setF (Fld.SDM_SG_STAT_SRUN_B g) 0
    else s) s

/-- COUNTER_CLEAR_PAIR (R128). -/
def execCounterClearPair (mask : BitVec 16) (s : State) : Host.Outcome State Fault Refusal := .next (agentTurn (pairClear mask) s)

/-- COUNTER_CLEAR_GROUP (R128). -/
def execCounterClearGroup (mask : BitVec 4) (s : State) : Host.Outcome State Fault Refusal := .next (agentTurn (groupClear mask) s)

def sdmIgn (k : Fin 32) (s : State) : State := s.raise (Fld.SDM_CH_STATUS_WR_IGN k)

/-- A write to SDM_CHKm_CTL (R118, R130). -/
def chkCtlWrite (m : Fin 16) (v : Word) (s : State) : State :=
  let s := sdmDrain s
  let a : Fin 32 := ⟨m.val, by omega⟩
  if v.getLsbD 0 && sdmDiv s a != sdmDiv s (sdmPartner a) then sdmIgn a s else sdmSettle (writePlain (.SDM_CHK_CTL m) v s)

/-- CHECK_PAIR_CTL_WRITE (R118). -/
def execCheckPairCtlWrite (m : Fin 16) (value : Word) (s : State) : Host.Outcome State Fault Refusal :=
  .next (agentTurn (chkCtlWrite m value) s)

/-- A write to SDM_CHk_CTL (R121, R129, R130, R532): a write of EN = 1 starts the sequence numbers anew; EN = 0 discards window events that
have not been taken. -/
def sdmCtlWrite (k : Fin 32) (v : Word) (s : State) : State :=
  let on := s.sdmOn k
  let s := writeGuarded (.SDM_CH_CTL k) v (if on then 0x3FFF76#32 else 0#32) (sdmIgn k) s
  let s := if s.flag (Fld.SDM_CH_CTL_FEN k) && s.sdmOn k then s else sinc2Off k s
  if !on && s.sdmOn k then
    s.modSdm k fun c => { c with win := none, pend := none, seq := 0, enCyc := s.time, halted := false }
  else if s.sdmOn k then s.modSdm k fun c => { c with seq := 0 }
  else if on then
    let s := s.modPost fun p => { p with win := p.win.filter (·.1 != k.val) }
    sdmSettle ((s.modSdm k fun c => { c with win := none, pend := none }).lower (Fld.SDM_CH_STATUS_OPEN k))
  else s

/-- A write to SDM_CKj_CTL (R128): guarded while an enabled channel uses the clock. -/
def sdmClockWrite (j : Fin 8) (v : Word) (s : State) : State :=
  let users := (List.finRange 32).filter fun k => s.sdmOn k && sdmClock s k = j
  let ign (s : State) : State := users.foldl (fun s k => sdmIgn k s) s
  if users.isEmpty then writePlain (.SDM_CK_CTL j) v s
  else if writeMerged s (.SDM_CK_CTL j) v = s.rd (.SDM_CK_CTL j) then s else ign s

end Sys2Proof.Machine
end

