-- ==== Sys2Proof/Machine/PwmBus.lean ====
section
/-! DEFINITION. A write to the PWM block as the commit port and the agent bus make it (R17, R152, R216, R237, R313): each register
goes to the operation its rules give it. -/

namespace Sys2Proof.Machine

open Sys2Proof

/-- The state a command answers with. -/
def nextOr (s : State) : Host.Outcome State Fault Refusal → State
  | .next t => t
  | _ => s

/-- The registers of a group that R217 guards while its counter runs. -/
def stoppedOnly : Reg → Option (Fin 16)
  | .PWM_G_CFG g => some g
  | .PWM_G_PHASE g => some g
  | .PWM_G_OUT_EN g => some g
  | .PWM_G_VP g => some g
  | .PWM_G_VPT g => some g
  | .PWM_G_SNS g _ => some g
  | .PWM_G_PAT_CTL g => some (axGroup g)
  | .PWM_G_PAT_OFS g => some (axGroup g)
  | .PWM_G_PAT_DLYC g => some (axGroup g)
  | .PWM_G_PAT_LVL g => some (axGroup g)
  | _ => none

/-- PWM_grp_CTL (R204, R216): an arm takes the XSRC of its write, and so does an arm of the same core cycle (R218). -/
def pwmCtlWrite (g : Fin 16) (v : Word) (s : State) : State :=
  let s := match (s.grp g).arm with
    | some (x, cyc) => if cyc = s.time ∧ x ≠ v.getLsbD 1 then armSet g (v.getLsbD 1) s else s
    | none => s
  if v.getLsbD 0 then loadallWrite g (some (v.getLsbD 1)) s else writePlain (.PWM_G_CTL g) v s

/-- PWM_DSC_PCH_CMD (R313): its key and its command; 0 and the reserved 3 have no effect. -/
def pchCmdWrite (v : Word) (s : State) : State :=
  let key : BitVec 16 := v.extractLsb' 16 16
  if wGet v 0 2 = 1 then pchCloseKey key s
  else if wGet v 0 2 = 2 then pchOpenKey key s
  else if key = 0x5AC3#16 then s else pchIgnored s

/-- PWM_DSC_DSG_REQ (R309, R313). -/
def dsgReqWrite (v : Word) (s : State) : State :=
  if v.getLsbD 0 then dsgKey (v.extractLsb' 16 16) s else s

/-- PWM_grp_PAT_ISIGN (R237): the word before the write stays for the cycles before it (R230). -/
def isignWrite (g : Fin 4) (v : Word) (s : State) : State :=
  let s := s.modGrp (axGroup g) fun r => if r.isgCyc = s.time then r else { r with isgCyc := s.time, isgOld := s.rd (.PWM_G_PAT_ISIGN g) }
  writePlain (.PWM_G_PAT_ISIGN g) v s

/-- A write to a register of the PWM block. -/
def pwmRegWrite (r : Reg) (v : Word) (s : State) : State :=
  match r with
  | .PWM_START => startGroups (v.extractLsb' 0 16) s
  | .PWM_STOP => stopGroups (v.extractLsb' 0 16) s
  | .PWM_LOADALL => (List.finRange 16).foldl (fun s g => if v.getLsbD g.val then armGroup g s else s) s
  | .PWM_G_CTL g => pwmCtlWrite g v s
  | .PWM_G_PER g => writeShadow g .per v s
  | .PWM_G_CMP g c => writeShadow g (.cmp c) v s
  | .PWM_G_PSEL g => writeShadow (axGroup g) .psel v s
  | .PWM_G_DT g => delayWrite (.dt g) v s
  | .PWM_G_BOOT g => delayWrite (.boot g) v s
  | .PWM_G_DT_C g => complementWrite (.dt g) v s
  | .PWM_G_BOOT_C g => complementWrite (.boot g) v s
  | .PWM_G_PAT_ISIGN g => isignWrite g v s
  | .PWM_DSC_PCH_CMD => pchCmdWrite v s
  | .PWM_DSC_DSG_REQ => dsgReqWrite v s
  | .PWM_DSC_DSG_SHM => dsgShmWrite v s
  | r =>
    match stoppedOnly r with
    | some g => if s.gRun g then writeGuarded r v (BitVec.allOnes 32) (pwmIgnored g) s else writePlain r v s
    | none => writePlain r v s

/-- A word write to an address of the PWM block, if something lies there. -/
def pwmBusWrite (a : Nat) (v : Word) (s : State) : Option State :=
  if 0x40060000 ≤ a ∧ a < 0x40080000 then some (patWrite ((a - 0x40060000) / 4) v s)
  else (Reg.ofAddr? a).map fun r => pwmRegWrite r v s

end Sys2Proof.Machine
end

