-- ==== Sys2Proof/Machine/Loop.lean ====
section
/-! DEFINITION. The loop engine pool and the dispatch ring (05, R144 to R169, R533): releases, deques, context copies,
stealing, commits and misses, the margin meter, retirement and drain. What a core does with an instruction stands in Engine.lean. -/

namespace Sys2Proof.Machine

open Sys2Proof

/-! ## Pairs and tasks -/

abbrev pairOff : Nat := 0
abbrev pairActive : Nat := 1
abbrev pairSlow : Nat := 2
abbrev pairDraining : Nat := 3
abbrev pairRetired : Nat := 4

def State.lp (s : State) (p : Fin 24) : LoopPair := s.pair[p]

def State.modLp (s : State) (p : Fin 24) (f : LoopPair → LoopPair) : State := { s with pair := vmod s.pair p f }

def State.modLoop (s : State) (f : LoopSt → LoopSt) : State := { s with loop := f s.loop }

/-- The state of a pair. -/
def State.pairSt (s : State) (p : Fin 24) : Nat := s.f (Fld.LOOP_P_STATE_STATE p)

def State.taskOn (s : State) (d : Fin 512) : Bool := s.flag (Fld.LOOP_D_CTL_EN d)
def State.taskPin (s : State) (d : Fin 512) : Bool := s.flag (Fld.LOOP_D_CTL_PIN d)
def State.taskHome (s : State) (d : Fin 512) : Nat := s.f (Fld.LOOP_D_CTL_HOME d)
def State.taskLen (s : State) (d : Fin 512) : Nat := s.f (Fld.LOOP_D_CTX_CTX_LEN d)
def State.taskBud (s : State) (d : Fin 512) : Nat := s.f (Fld.LOOP_D_BUD_BUD d)

/-- The home pair of a task, if HOME names one. -/
def State.homeOf (s : State) (d : Fin 512) : Option (Fin 24) := if h : s.taskHome d < 24 then some ⟨s.taskHome d, h⟩ else none

/-- HOMED of a pair: its tasks with EN = 1 (R166). -/
def homedCount (s : State) (p : Fin 24) : Nat :=
  ((List.finRange 512).filter fun d => s.taskOn d && s.taskHome d = p.val).length

def State.isSpare (s : State) (p : Fin 24) : Bool := s.bitOf .LOOP_SPARE p.val

/-- WR_IGN of the pool. -/
def loopIgn (s : State) : State := s.raise Fld.LOOP_STATUS_WR_IGN

/-- ACC_ERR with its code (R135, R139, R142, R178, R533). -/
def accErr (s : State) : State := recordFault 0x4107 (s.raise Fld.LOOP_STATUS_ACC_ERR)

/-- The pending instance of a task that is on no core, if there is one. -/
def State.instOf (s : State) (d : Fin 512) : Option Inst := s.loop.insts.find? fun i => i.d = d

/-- The instances on no core without a task's. -/
def dropInst (d : Fin 512) (s : State) : State := s.modLoop fun l => { l with insts := l.insts.filter fun i => i.d ≠ d }

/-- A task's instance put on no core. -/
def putInst (i : Inst) (s : State) : State :=
  s.modLoop fun l => { l with insts := i :: l.insts.filter fun j => j.d ≠ i.d }

/-- The pair on whose core a task's pending instance is. -/
def State.coreOf (s : State) (d : Fin 512) : Option (Fin 24) :=
  (List.finRange 24).find? fun p => match (s.lp p).run with
    | some i => i.d = d && !i.dropped
    | none => false

/-- The task has a pending instance (R146). -/
def State.hasPending (s : State) (d : Fin 512) : Bool := (s.instOf d).isSome || (s.coreOf d).isSome

/-- The pair whose local region holds a task's committed context (R148). -/
def State.heldBy (s : State) (d : Fin 512) : Option (Fin 24) := (s.loop.held.find? fun e => e.1 = d).map (·.2)

def setHeld (d : Fin 512) (p : Option (Fin 24)) (s : State) : State :=
  s.modLoop fun l => { l with held := (match p with | some q => [(d, q)] | none => []) ++ l.held.filter fun e => e.1 ≠ d }

/-- The deque of a pair in its order (R147). -/
def before (a b : Inst) : Bool := a.c < b.c || (a.c = b.c && a.d.val < b.d.val)

def insertInst (i : Inst) : List Inst → List Inst
  | [] => [i]
  | j :: l => if before i j then i :: j :: l else j :: insertInst i l

def State.deque (s : State) (p : Fin 24) : List Inst :=
  (s.loop.insts.filter fun i => i.place = .queued p).foldl (fun l i => insertInst i l) []

/-- Core cycles of a context copy or write-back: 44 + L / 8 (R148). -/
def copyTime (s : State) (d : Fin 512) : Nat := 44 + s.taskLen d

/-- The core cycles of the copy that a pair makes before a task's instance: none while its region holds the committed context (R148). -/
def copyFor (s : State) (d : Fin 512) (p : Fin 24) : Nat := if s.heldBy d = some p then 0 else copyTime s d

/-! ## Memory of the pairs -/

/-- The address of a pair's local memory in the agent's map (R33). -/
def localBase (p : Fin 24) : Nat := 0x30000000 + p.val * 0x10000

/-- A piece of memory as cells moved to another place. -/
def memSlice (m : List Host.Cell) (src n dst : Nat) : List Host.Cell :=
  (m.filter fun c => src ≤ c.1 && c.1 < src + n).map fun c => (c.1 - src + dst, c.2)

/-- Memory with a piece put at a place. -/
def memPaste (m : List Host.Cell) (dst n : Nat) (seg : List Host.Cell) : List Host.Cell :=
  m.filter (fun c => c.1 < dst) ++ seg ++ m.filter (fun c => dst + n ≤ c.1)

/-- The bytes of a task's region that lie in local memory. -/
def regionLen (s : State) (d : Fin 512) : Nat := min (8 * s.taskLen d) (0x10000 - 8 * s.f (Fld.LOOP_D_CTX_CTX_LOCAL d))

/-- The address of a half of a task's context block (R163). -/
def ctxHalf (s : State) (d : Fin 512) (h : Nat) : Nat := s.f (Fld.LOOP_D_CTXS_CTXS d) * 4096 + h * 0x800

/-- The memory that a copy has for itself: the lead's or the checker's. -/
def State.own (s : State) (chk : Bool) : List Host.Cell := if chk then s.chk else s.mem

/-- The copy's memory changed. -/
def State.modOwn (s : State) (chk : Bool) (f : List Host.Cell → List Host.Cell) : State :=
  if chk then { s with chk := f s.chk } else { s with mem := f s.mem }

/-- A word can be accessed in local memory. -/
def localOk (a : Nat) : Bool := a % 4 = 0 && a + 4 ≤ 0x10000

/-- Words put into a copy's local memory, as far as they lie there. -/
def putLocal (q : Fin 24) (chk : Bool) (l : List (Nat × Word)) (s : State) : State :=
  s.modOwn chk fun m => l.foldl (fun m e => if localOk e.1 then memSetWord m (localBase q + e.1) e.2 else m) m

/-- The words of a PILUT whose cycle has come by core cycle `cyc` are stored (R184 step 10). -/
def unitFlush (q : Fin 24) (cyc : Nat) (s : State) : State :=
  match (s.lp q).gain with
  | some u =>
    if u.at_ ≤ cyc then putLocal q true u.chk (putLocal q false u.lead (s.modLp q fun l => { l with gain := none })) else s
  | none => s

/-! ## ECC of local memory (R134) -/

/-- The core cycles that corrections add: two for each in the copy that has more of them. -/
def eccCycles : Ecc → Nat
  | .corrected a b => 2 * max a b
  | _ => 0

/-- The errors corrected, in both copies. -/
def eccErrors : Ecc → Nat
  | .corrected a b => a + b
  | _ => 0

/-- Corrected errors counted in CE. -/
def eccCount (q : Fin 24) (ecc : Ecc) (s : State) : State :=
  if eccErrors ecc = 0 then s else s.setF (Fld.LOOP_P_ECC_CE q) (sat 65535 (s.f (Fld.LOOP_P_ECC_CE q) + eccErrors ecc))

/-- The context copy's data: the committed half goes to CTX_LOCAL of both copies (R148). -/
def copyIn (p : Fin 24) (d : Fin 512) (s : State) : State :=
  let dst := localBase p + 8 * s.f (Fld.LOOP_D_CTX_CTX_LOCAL d)
  let n := regionLen s d
  let seg := memSlice s.mem (ctxHalf s d (s.f (Fld.LOOP_D_STAT_CTX_HALF d))) n dst
  { s with mem := memPaste s.mem dst n seg, chk := memPaste s.chk dst n seg }

/-- The words of a task's region on a pair. -/
def regionWords (s : State) (p : Fin 24) (d : Fin 512) : List Word :=
  memWords s.mem (localBase p + 8 * s.f (Fld.LOOP_D_CTX_CTX_LOCAL d)) (2 * s.taskLen d)

/-- Words stored one after the other. -/
def storeWords (a : Nat) : List Word → State → State
  | [], s => s
  | w :: l, s => storeWords (a + 4) l (s.setMemW a w)

/-! ## Reactions (R164) -/

/-- The reaction of a task's REACT: its axis to SAFE_HOLD, its converter stopped, or its EN cleared. -/
def taskReact (d : Fin 512) (code : Nat) (s : State) : State :=
  let s := recordFault code s
  let r := s.f (Fld.LOOP_D_CTL_REACT d)
  if r = 0 then s.lower (Fld.LOOP_D_CTL_EN d) else dsgWatch (groupReaction s ⟨(r - 1) % 16, Nat.mod_lt _ (by decide)⟩)

/-- A task stopped for want of a pair (R157, R159). -/
def stopTask (d : Fin 512) (s : State) : State := taskReact d 0x4209 (s.lower (Fld.LOOP_D_CTL_EN d))

/-! ## Re-homing (R157, R159) -/

/-- The member of a list with the least key, the earlier one of equals. -/
def leastBy (k : Fin 24 → Nat) : List (Fin 24) → Option (Fin 24)
  | [] => none
  | p :: l => match leastBy k l with
    | some q => if k q < k p then some q else some p
    | none => some p

/-- The new home of a stealable task that leaves a pair. -/
def rehomeTarget (s : State) (p : Fin 24) : Option (Fin 24) :=
  let act := (List.finRange 24).filter fun q => q ≠ p && s.pairSt q = pairActive
  let free := act.filter fun q => !s.isSpare q
  leastBy (homedCount s) (if free.isEmpty then act else free)

/-- The target spare of a pair (R159). -/
def spareTarget (s : State) (p : Fin 24) : Option (Fin 24) :=
  (List.finRange 24).find? fun q => q ≠ p && s.pairSt q = pairActive && s.isSpare q

/-- A task's queued instance moves from the deque of one pair to another's. -/
def moveInst (d : Fin 512) (p q : Fin 24) (s : State) : State :=
  match s.instOf d with
  | some i => if i.place = .queued p then putInst { i with place := .queued q, from_ := max i.from_ s.time } s else s
  | none => s

/-- HOME set to a pair. -/
def setHome (d : Fin 512) (q : Fin 24) (s : State) : State := s.setF (Fld.LOOP_D_CTL_HOME d) q.val

/-- The tasks that have a pair as their home: those with EN = 1 or with an instance. -/
def tasksAt (s : State) (p : Fin 24) : List (Fin 512) :=
  (List.finRange 512).filter fun d => s.taskHome d = p.val && (s.taskOn d || s.hasPending d)

/-- The stealable tasks of a SLOW pair are re-homed in descriptor order (R157). -/
def slowRehome (p : Fin 24) (s : State) : State :=
  (tasksAt s p).foldl (fun s d =>
    if s.taskPin d then s
    else match rehomeTarget s p with
      | some q => moveInst d p q (setHome d q s)
      | none => s) s

/-- A slack sample of a pair (R156): below TH it counts in LOW_RUN, and an ACTIVE pair with LOW_RUN at 8 or more becomes SLOW. -/
def slackSample (p : Fin 24) (v : Int) (s : State) : State :=
  let s := s.setF (Fld.LOOP_P_SLACK_LAST p) (wrapN 24 (max (-(2 ^ 23)) (min v (2 ^ 23 - 1))))
  let th := s.f (Fld.LOOP_P_MARGIN_TH p)
  let below : Bool := v < (th : Int)
  let n := if below then sat 15 (s.f (Fld.LOOP_P_STATE_LOW_RUN p) + 1) else 0
  let s := s.setF (Fld.LOOP_P_STATE_LOW_RUN p) n
  if th != 0 && below && 8 ≤ n && s.pairSt p = pairActive then
    let s := (s.setF (Fld.LOOP_P_STATE_STATE p) pairSlow).raise Fld.LOOP_STATUS_SLOW
    slowRehome p (recordFault 0x4103 s)
  else s

/-! ## Retirement (R158 to R160) -/

/-- The core of a pair let go of its instance. -/
def LoopPair.clear (l : LoopPair) : LoopPair := { l with run := none, live := false }

/-- What a retirement does at once to an instance on no core (R158 step 1). -/
def Inst.onRetire (p : Fin 24) (cause : Nat) (i : Inst) : Inst :=
  if i.place = .queued p then { i with place := .waiting p }
  else if i.place = .ended p && (cause = 1 || cause = 2) then { i with place := .waiting p, dropped := true, done := none }
  else i

/-- Retirement step 1 (R158): the pair is RETIRED, its running instance is aborted, for an Assay or ECC cause its ended instances
are discarded, and its queued instances wait. A hardware cause in the cycle of a RETIRE command takes its place (R168). -/
def retirePair (p : Fin 24) (cause : Nat) (s : State) : State :=
  let l := s.lp p
  if s.pairSt p = pairRetired then
    (if l.ret = some (s.time, 3) && cause != 3 then loopIgn (s.modLp p fun l => { l with ret := some (s.time, cause) }) else s)
  else
    let s := s.setF (Fld.LOOP_P_STATE_STATE p) pairRetired
    let s := match l.run with
      | some i => if i.dropped then s else
          (putInst { i with place := .waiting p, dropped := true } s).lower (Fld.LOOP_D_STAT_RUNNING i.d)
      | none => s
    let s := s.modLoop fun q => { q with insts := q.insts.map (Inst.onRetire p cause) }
    s.modLp p fun l => { l.clear with halted := false, copyTill := none, gain := none, ret := some (s.time, cause) }

/-- The scan of R158 step 3 over the tasks of a retiring pair. -/
def retireScan (p : Fin 24) (t0 : Nat) (target : Option (Fin 24)) (s : State) : State :=
  (tasksAt s p).foldl (fun s d =>
    if s.taskPin d then
      match target with
      | some q => setHome d q s
      | none => stopTask d s
    else match rehomeTarget s p with
      | some q => setHome d q s
      | none =>
        let s := stopTask d s
        match s.instOf d with
        | some i => if i.place = .waiting p && t0 ≤ i.tr && !i.dropped then
            (dropInst d s).lower (Fld.LOOP_D_STAT_PENDING d) else s
        | none => s) s

/-- An instance that waited enters the deque of its new home (R158 step 4). -/
def Inst.toNewHome (s : State) (p : Fin 24) (i : Inst) : Inst :=
  if i.place = .waiting p && !i.dropped then
    match s.homeOf i.d with
    | some h => if pairActive ≤ s.pairSt h ∧ s.pairSt h ≤ pairDraining then { i with place := .queued h, from_ := s.time } else i
    | none => i
  else i

/-- R158 step 4. -/
def retireMove (p : Fin 24) (s : State) : State :=
  s.modLoop fun q => { q with insts := q.insts.map (Inst.toNewHome s p) }

/-- RETIREMENT_COMPLETE (R158 steps 2 to 5). -/
def execRetirementComplete (p : Fin 24) (s : State) : Host.Outcome State Fault Refusal :=
  .next (
    match (s.lp p).ret with
    | none => s
    | some (t0, cause) =>
      let s := s.advance (t0 + 66)
      let target := if cause = 4 then (s.lp p).target else spareTarget s p
      let s := if target.isNone then s.raise Fld.LOOP_STATUS_NO_SPARE else s
      let s := retireMove p (retireScan p t0 target s)
      let s := match target with
        | some q => s.putBit .LOOP_SPARE q.val false
        | none => s
      let s := s.raise Fld.LOOP_STATUS_RETIRE
      let s := s.wr .LOOP_RETIRE_LAST (BitVec.ofNat 32 (p.val + 256 * cause + (match target with
        | some q => 65536 * q.val + 2 ^ 24
        | none => 0)))
      anvRetire p.val cause target.isNone (recordFault 0x4104 (s.modLp p fun l => { l with ret := none })))

/-- The outcome of a pinned task in a commit cycle (R158): the first miss of a cycle raises PIN_MISS_RUN, a cycle of commits
alone clears it, and at 2 the pair retires; a halted pair's misses do not count (R366). -/
def pinOutcome (p : Fin 24) (missed : Bool) (s : State) : State :=
  if s.pairSt p = pairOff ∨ s.pairSt p = pairRetired then s
  else if missed && (s.lp p).halted then s
  else
    let s := if (s.lp p).pinCyc = some s.time then s
      else s.modLp p fun l =>
        { l with pinCyc := some s.time, pinBase := s.f (Fld.LOOP_P_STATE_PIN_MISS_RUN p), pinMissed := false }
    let s := s.modLp p fun l => { l with pinMissed := l.pinMissed || missed }
    let n := if (s.lp p).pinMissed then sat 3 ((s.lp p).pinBase + 1) else 0
    let s := s.setF (Fld.LOOP_P_STATE_PIN_MISS_RUN p) n
    if 2 ≤ n then retirePair p 0 s else s

/-! ## Commit (R152 to R155, R533) -/

/-- An address that LOOP_TGTi accepts (R166). -/
def tgtOk (a : Nat) : Bool := a % 4 = 0 && ((0x40040000 ≤ a && a < 0x40080000) || (0x10000000 ≤ a && a < 0x103F0000))

/-- A write of the commit port (R17). -/
def commitWrite (a : Nat) (v : Word) (s : State) : State :=
  if a < 0x40000000 then s.setMemW a v else (pwmBusWrite a v s).getD s

/-- One entry of a commit (R152, R153, R533). -/
def commitEntry (d : Fin 512) (i : Inst) (s : State) (e : Fin 16) : State :=
  if !i.written.getLsbD e.val then s
  else
    let k : Fin 1024 := ⟨(s.f (Fld.LOOP_D_OUT_OUT_FIRST d) + e.val) % 1024, Nat.mod_lt _ (by decide)⟩
    let a := (s.rd (.LOOP_TGT k)).toNat
    if !tgtOk a then accErr s
    else
      let s := if s.loop.commitTo.contains a then recordFault 0x4106 (s.raise Fld.LOOP_STATUS_CONFLICT) else s
      commitWrite a i.slots[e] (s.modLoop fun l => { l with commitTo := a :: l.commitTo })

/-- A complete instance commits (R152). -/
def commitInst (d : Fin 512) (i : Inst) (p : Fin 24) (s : State) : State :=
  let s := (dropInst d s).lower (Fld.LOOP_D_STAT_PENDING d)
  let s := s.setF (Fld.LOOP_D_STAT_CTX_HALF d) (1 - s.f (Fld.LOOP_D_STAT_CTX_HALF d))
  let s := (s.setF (Fld.LOOP_D_STAT_LAST_PAIR d) p.val).setF (Fld.LOOP_D_STAT_MISS_RUN d) 0
  let s := setHeld d (some p) s
  let s := if s.loop.commitCyc = s.time then s else s.modLoop fun l => { l with commitCyc := s.time, commitTo := [] }
  (List.finRange 16).foldl (commitEntry d i) s

/-- The pair that an instance on no core counts for. -/
def InstAt.pair : InstAt → Fin 24
  | .queued p => p
  | .ended p => p
  | .waiting p => p

/-- A miss (R154): what the instance leaves behind goes, the miss is recorded, counted and sampled, and MISS_LIM applies. -/
def missInst (d : Fin 512) (p : Fin 24) (s : State) : State :=
  let s := (s.lower (Fld.LOOP_D_STAT_PENDING d)).lower (Fld.LOOP_D_STAT_RUNNING d)
  let s := recordFault 0x4102 (s.raise Fld.LOOP_STATUS_COMMIT_MISS)
  let s := s.wr .LOOP_MISS_LAST (BitVec.ofNat 32 (d.val + 65536 * p.val + 2 ^ 24 * bit (s.taskPin d)))
  let old := s.f (Fld.LOOP_D_STAT_MISS_RUN d)
  let s := s.setF (Fld.LOOP_D_STAT_MISS_RUN d) (sat 15 (old + 1))
  let s := s.setF (Fld.LOOP_P_CNT_MISSES p) (sat 65535 (s.f (Fld.LOOP_P_CNT_MISSES p) + 1))
  let s := slackSample p (-(2 ^ 23)) s
  let lim := s.f (Fld.LOOP_D_CTL_MISS_LIM d)
  if lim != 0 && old + 1 = lim then taskReact d 0x4208 s else s

/-- The instance on a core leaves it at its commit cycle: aborted, or kept to its END with its outputs discarded while the pair is
halted (R154, R366). -/
def abortRun (p : Fin 24) (c : Nat) (s : State) : State :=
  s.modLp p fun l =>
    if l.halted && l.live then { l with run := l.run.map fun i => { i with dropped := true } }
    else { l.clear with freeAt := c + 1 }

/-- The commit cycle of a task's pending instance. -/
def State.dueAt (s : State) (d : Fin 512) : Option Nat :=
  match s.instOf d with
  | some i => some i.c
  | none => (s.coreOf d).bind fun p => (s.lp p).run.map (·.c)

/-- A task in its commit cycle: its instance commits, or misses (R152, R154), with the pinned outcome of its home (R158). -/
def commitTask (c : Nat) (s : State) (d : Fin 512) : State :=
  let pin (ok : Bool) (s : State) : State :=
    if s.taskPin d then (match s.homeOf d with | some h => pinOutcome h (!ok) s | none => s) else s
  match s.instOf d with
  | some i =>
    let p := i.place.pair
    let ok : Bool := match i.place, i.done with
      | .ended _, some t => t < i.c && !i.dropped
      | _, _ => false
    pin ok (if ok then commitInst d i p s else missInst d p (dropInst d s))
  | none =>
    match s.coreOf d with
    | some p => pin false (missInst d p (abortRun p c s))
    | none => s

/-- COMMIT_CYCLE (R152 to R154, R158, R366, R533): the commit cycle of a task, with every other commit due in it, in ascending descriptor order. -/
def execCommitCycle (d : Fin 512) (s : State) : Host.Outcome State Fault Refusal :=
  .next (
    match s.dueAt d with
    | some c => ((List.finRange 512).filter fun e => s.dueAt e = some c).foldl (commitTask c) (s.advance c)
    | none => s)

/-! ## Releases (R144 to R146) -/

/-- The tick that a generator reaches next (R144). -/
def nextTick (s : State) (k : Fin 8) : Nat :=
  let per := s.f (Fld.LOOP_TICK_PER_PER k)
  let ph := s.f (Fld.LOOP_TICK_PH_PH k) % per
  let base := match s.loop.tick[k] with | some t => max s.time (t + 1) | none => s.time
  base + (ph + per - base % per) % per

/-- TICK (R144, R404): a generator reaches its phase. -/
def execTick (k : Fin 8) (s : State) : Host.Outcome State Fault Refusal :=
  .next (
    if s.f (Fld.LOOP_TICK_PER_PER k) = 0 then s
    else
      let t := nextTick s k
      let s := (s.advance t).modLoop fun l => { l with tick := vset l.tick k (some t) }
      hlmTrigger 2 k.val (postRel 2 k.val t s))

/-- The snapshot of R145 for a release cycle: bank A words, angles, speed and turns of AG, device time. -/
def snapshot (s : State) (d : Fin 512) (tr : Nat) : Vector Word 22 :=
  let g : Fin 8 := ⟨s.f (Fld.LOOP_D_CTL_AG d) % 8, Nat.mod_lt _ (by decide)⟩
  Vector.ofFn fun i : Fin 22 =>
    if h : i.val < 16 then s.rd (.SDM_CH_DATA ⟨i.val, by omega⟩)
    else if i.val = 16 then wordOfInt (genOut s g true tr)
    else if i.val = 17 then wordOfInt (genOut s g false tr)
    else if i.val = 18 then genSpeedReg s g tr
    else if i.val = 19 then genTurns s g tr
    else if i.val = 20 then BitVec.ofNat 32 tr
    else BitVec.ofNat 32 (tr / 2 ^ 32)

/-- A release accepted (R145, R146): its snapshot is taken and it enters the home deque ten cycles after t_r; while the home
retires it waits (R158 step 2). -/
def acceptRelease (d : Fin 512) (tr : Nat) (s : State) : State :=
  match s.homeOf d with
  | none => s
  | some h =>
    let n := s.f (Fld.LOOP_D_STAT_INST d)
    let i : Inst :=
      { d := d, tr := tr, c := tr + s.f (Fld.LOOP_D_CPH_CPH d), count := n, snap := snapshot s d tr, from_ := tr + 10,
        place := if s.pairSt h = pairRetired ∨ s.pairSt h = pairOff then .waiting h else .queued h }
    let s := (s.setF (Fld.LOOP_D_STAT_INST d) ((n + 1) % 256)).setF (Fld.LOOP_D_STAT_PENDING d) 1
    putInst i s

/-- TASK_RELEASE (R144, R146, R168): the oldest release on its way to a task reaches the LOOP block. -/
def execTaskRelease (d : Fin 512) (s : State) : Host.Outcome State Fault Refusal :=
  .next (
    match takeEv d.val s.post.rel with
    | (none, _) => s
    | (some tr, rest) =>
      let s := (s.modPost fun p => { p with rel := rest }).advance (tr + 1)
      if !s.flag Fld.LOOP_CTL_EN || !s.taskOn d then s
      else if s.hasPending d then recordFault 0x4105 (s.raise Fld.LOOP_STATUS_REL_LOST)
      else acceptRelease d tr s)

/-- A write to LOOP_SWREL (R144). -/
def swRelease (d : Fin 512) (s : State) : State :=
  if s.taskOn d && s.f (Fld.LOOP_D_CTL_REL d) = 6 then s.modPost fun p => { p with rel := p.rel ++ [(d.val, s.time)] } else s

/-- SOFTWARE_RELEASE (R144). -/
def execSoftwareRelease (d : Fin 512) (s : State) : Host.Outcome State Fault Refusal := .next (agentTurn (swRelease d) s)

/-! ## Starting and copying (R147, R148) -/

/-- A pair can take an instance. -/
def State.canRun (s : State) (p : Fin 24) : Bool :=
  let l := s.lp p
  pairActive ≤ s.pairSt p && s.pairSt p ≤ pairDraining && l.run.isNone && !l.halted && l.copyTill.isNone

/-- The instance executes from ENTRY at a cycle (R148). -/
def beginRun (p : Fin 24) (t : Nat) (s : State) : State :=
  match (s.lp p).run with
  | none => s
  | some i =>
    let pc : Word := BitVec.ofNat 32 (4 * s.f (Fld.LOOP_D_ENTRY_ENTRY i.d))
    let s := if s.heldBy i.d = some p then setHeld i.d none s else s
    let s := s.modLp p fun l =>
      { l with live := true, start := t, lost := 0, passed := false, stopped := false, pipe := { next := t },
               lead := { l.lead with pc := pc }, chk := { l.chk with pc := pc } }
    if i.dropped then s else s.setF (Fld.LOOP_D_STAT_RUNNING i.d) 1

/-- A pair takes an instance at a cycle: a context copy starts, or it executes at once (R148). -/
def assign (p : Fin 24) (i : Inst) (t : Nat) (s : State) : State :=
  let n := copyFor s i.d p
  let s := (dropInst i.d s).modLp p fun l => { l with run := some i, live := false, due := t + n }
  if n = 0 then beginRun p t s else s

/-- The entry of a deque that its pair begins next and the cycle of it (R147, R148): the head of what has entered, or the first to
enter. -/
def nextEntry (s : State) (p : Fin 24) (now : Nat) : Option (Inst × Nat) :=
  let q := s.deque p
  match q.filter fun i => i.from_ + 2 ≤ now with
  | i :: _ => some (i, now)
  | [] => match q with
    | [] => none
    | i :: l =>
      let j := l.foldl (fun b k => if k.from_ < b.from_ then k else b) i
      some (j, j.from_ + 2)

/-- INSTANCE_START (R148): a free pair takes the instance at the head of its deque. -/
def execInstanceStart (p : Fin 24) (s : State) : Host.Outcome State Fault Refusal :=
  .next (
    if s.canRun p then
      match nextEntry s p (max s.time (s.lp p).freeAt) with
      | some (i, t) => assign p i t (s.advance t)
      | none => s
    else s)

/-- CONTEXT_COPY_DONE (R134, R148). -/
def execContextCopyDone (p : EccOf 24) (s : State) : Host.Outcome State Fault Refusal :=
  .next (
    let ⟨p, ecc⟩ := p
    let l := s.lp p
    match l.run with
    | some i =>
      if l.live || l.halted || l.copyTill.isSome then s
      else
        let t := max (l.due + eccCycles ecc) l.freeAt
        let s := unitFlush p t (s.advance t)
        if ecc = .uncorrectable then retirePair p 2 s else beginRun p t (copyIn p i.d (eccCount p ecc s))
    | none => s)

/-- END of the instance on a core (R148): its region is kept for the write-back, and the pair is free in the next cycle. -/
def endRun (p : Fin 24) (t : Nat) (s : State) : State :=
  match (s.lp p).run with
  | none => s
  | some i =>
    let words := regionWords s p i.d
    let s := s.modLp p fun l => { l.clear with freeAt := t + 1 }
    if i.dropped then s
    else (putInst { i with place := .ended p, ended := t, region := words } s).lower (Fld.LOOP_D_STAT_RUNNING i.d)

/-- WRITE_BACK_DONE (R134, R148, R149, R156): the region stands in the staging half and the instance is complete. -/
def execWriteBackDone (d : EccOf 512) (s : State) : Host.Outcome State Fault Refusal :=
  .next (
    let ⟨d, ecc⟩ := d
    match s.instOf d with
    | some i =>
      match i.place, i.done with
      | .ended p, none =>
        let t := i.ended + copyTime s d + eccCycles ecc
        let s := s.advance t
        if ecc = .uncorrectable then retirePair p 2 s
        else
          let s := storeWords (ctxHalf s d (1 - s.f (Fld.LOOP_D_STAT_CTX_HALF d))) i.region (eccCount p ecc s)
          let s := putInst { i with done := some t } s
          if t < i.c then slackSample p ((i.c : Int) - t) s else s
      | _, _ => s
    | none => s)

/-- BUDGET_OVERRUN (R149): an instance that has not written END has executed more than BUD core cycles. -/
def execBudgetOverrun (p : Fin 24) (s : State) : Host.Outcome State Fault Refusal :=
  .next (
    let l := s.lp p
    match l.run with
    | some i =>
      let t := l.start + l.lost + s.taskBud i.d + 1
      if l.live && !l.halted && !l.passed && !i.dropped && t ≤ max s.time l.pipe.next then
        recordFault 0x4001 (((s.advance t).modLp p fun l => { l with passed := true }).raise Fld.LOOP_STATUS_BUDGET_OVR)
      else s
    | none => s)

/-! ## Stealing (R150, R151) -/

/-- The remaining budget of the instance on a core. -/
def remaining (s : State) (p : Fin 24) (t : Nat) : Nat :=
  let l := s.lp p
  match l.run with
  | some i => s.taskBud i.d - (if l.live then t - l.start - l.lost else 0)
  | none => 0

/-- The deque of a pair as it stands in a core cycle: an instance enters ten cycles after its release (R148). -/
def State.dequeAt (s : State) (p : Fin 24) (t : Nat) : List Inst := (s.deque p).filter fun i => i.from_ ≤ t

/-- S_p(t) of a deque that is not empty (R150). -/
def dequeSlack (s : State) (p : Fin 24) (t : Nat) : Int :=
  ((s.dequeAt p t).foldl (fun (a : Option Int × Nat) i =>
    let sum := a.2 + s.taskBud i.d
    let v : Int := (i.c : Int) - t - remaining s p t - sum
    (some (match a.1 with | some m => min m v | none => v), sum)) (none, 0)).1.getD (2 ^ 23 - 1)

/-- The entry at its head that a pair takes itself by a core cycle (R151). -/
def ownerTakes (s : State) (q : Fin 24) (t : Nat) : Option (Fin 512) :=
  if s.canRun q then
    match nextEntry s q (s.lp q).freeAt with
    | some (i, u) => if u ≤ t then some i.d else none
    | none => none
  else none

/-- The instance of a deque that qualifies for a thief, nearest the tail, but for the one that its owner takes in the cycle of the grant
(R150, R151). -/
def stealable (s : State) (q thief : Fin 24) (t : Nat) : Option Inst :=
  (s.dequeAt q t).reverse.find? fun i =>
    !s.taskPin i.d && ownerTakes s q (t + 1) != some i.d && t + 4 + copyFor s i.d thief + s.taskBud i.d ≤ i.c

/-- What a thief is granted: from the deque of least slack among those with a qualifying instance, lower pairs first (R150). -/
def grant (s : State) (thief : Fin 24) (t : Nat) : Option Inst :=
  ((List.finRange 24).foldl (fun (b : Option (Int × Inst)) q =>
    if q = thief ∨ s.pairSt q = pairOff ∨ s.pairSt q = pairRetired then b
    else match stealable s q thief t with
      | some i =>
        let v := dequeSlack s q (t + 1)
        (match b with
          | some (w, _) => if v < w then some (v, i) else b
          | none => some (v, i))
      | none => b) none).map (·.2)

/-- A pair requests work in a core cycle: it is ACTIVE, runs nothing and queues nothing (R150). -/
def State.requests (s : State) (p : Fin 24) (t : Nat) : Bool :=
  s.canRun p && (s.lp p).freeAt ≤ t && s.pairSt p = pairActive && (s.dequeAt p t).isEmpty

/-- What each requesting pair is granted in a core cycle. -/
def grants (s : State) (t : Nat) : List (Fin 24 × Inst) :=
  (List.finRange 24).filterMap fun p => if s.requests p t then (grant s p t).map fun i => (p, i) else none

/-- The grants that stand: of thieves on one entry the lowest-numbered (R151). -/
def winners (g : List (Fin 24 × Inst)) : List (Fin 24 × Inst) :=
  g.filter fun e => g.all fun f => f.2.d != e.2.d || e.1.val ≤ f.1.val

/-- An entry leaves its deque for a thief, whose context copy starts four cycles after the request (R150). -/
def steal (t : Nat) (s : State) (e : Fin 24 × Inst) : State :=
  let s := s.setF (Fld.LOOP_P_CNT_STEALS e.1) ((s.f (Fld.LOOP_P_CNT_STEALS e.1) + 1) % 65536)
  assign e.1 e.2 (t + 4) s

/-- The requests of one core cycle, and of the next for a pair that loses its grant (R151), at most `fuel` times. -/
def stealRounds (p : Fin 24) : Nat → Nat → State → State
  | 0, _, s => s
  | fuel + 1, t, s =>
    let g := grants s t
    if g.any (·.1 = p) then
      let w := winners g
      let s := w.foldl (steal t) ((s.advance t).modLoop fun l => { l with stealCyc := some t })
      if w.any (·.1 = p) then s else stealRounds p fuel (t + 1) s
    else s

/-- STEAL_REQUEST (R150, R151): an idle ACTIVE pair requests work in the present cycle, with every other idle ACTIVE pair, and takes what it is
granted; where a lower-numbered thief takes that entry it is granted again in the next cycle. -/
def execStealRequest (p : Fin 24) (s : State) : Host.Outcome State Fault Refusal :=
  .next (
    let t := max (max s.time (s.lp p).freeAt) (match s.loop.stealCyc with | some c => c + 1 | none => 0)
    stealRounds p 24 t s)

/-! ## Pair commands (R161, R167) -/

/-- ENABLE (R166, R363). -/
def pairEnable (p : Fin 24) (s : State) : State :=
  if s.pairSt p = pairOff && !s.bitOf .ASY_BIST p.val then s.setF (Fld.LOOP_P_STATE_STATE p) pairActive else loopIgn s

/-- DRAIN (R161): the pair's tasks get their new homes at once, and its queued instances move with them. -/
def drainPair (p : Fin 24) (s : State) : State :=
  if s.pairSt p = pairActive ∨ s.pairSt p = pairSlow then
    let target := spareTarget s p
    let s := (s.setF (Fld.LOOP_P_STATE_STATE p) pairDraining).modLp p fun l => { l with target := target }
    (tasksAt s p).foldl (fun s d =>
      if s.taskPin d then
        match target with
        | some q => moveInst d p q (setHome d q s)
        | none => stopTask d (s.raise Fld.LOOP_STATUS_NO_SPARE)
      else match rehomeTarget s p with
        | some q => moveInst d p q (setHome d q s)
        | none => s) s
  else loopIgn s

/-- RETIRE (R158). -/
def pairRetire (p : Fin 24) (s : State) : State :=
  if pairActive ≤ s.pairSt p ∧ s.pairSt p ≤ pairDraining then retirePair p 3 s else loopIgn s

/-- UNSLOW (R157). -/
def pairUnslow (p : Fin 24) (s : State) : State :=
  if s.pairSt p = pairSlow then (s.setF (Fld.LOOP_P_STATE_STATE p) pairActive).setF (Fld.LOOP_P_STATE_LOW_RUN p) 0 else loopIgn s

/-- A write to LOOP_PAIR_CMD (R166, R167). -/
def pairCommand (pair : Nat) (cmd : Nat) (key : BitVec 16) (s : State) : State :=
  if key != 0x96A5#16 then loopIgn s
  else if cmd = 0 then s
  else if h : pair < 24 then
    let p : Fin 24 := ⟨pair, h⟩
    if cmd = 1 then pairEnable p s
    else if cmd = 2 then drainPair p s
    else if cmd = 3 then pairRetire p s
    else if cmd = 4 then pairUnslow p s
    else loopIgn s
  else loopIgn s

/-- PAIR_ENABLE (R167). -/
def execPairEnable (pair : Fin 32) (key : BitVec 16) (s : State) : Host.Outcome State Fault Refusal :=
  .next (agentTurn (pairCommand pair.val 1 key) s)

/-- DRAIN (R161). -/
def execDrain (pair : Fin 32) (key : BitVec 16) (s : State) : Host.Outcome State Fault Refusal :=
  .next (agentTurn (pairCommand pair.val 2 key) s)

/-- RETIRE (R158). -/
def execRetire (pair : Fin 32) (key : BitVec 16) (s : State) : Host.Outcome State Fault Refusal :=
  .next (agentTurn (pairCommand pair.val 3 key) s)

/-- UNSLOW (R157). -/
def execUnslow (pair : Fin 32) (key : BitVec 16) (s : State) : Host.Outcome State Fault Refusal :=
  .next (agentTurn (pairCommand pair.val 4 key) s)

/-- DRAIN_COMPLETE (R161): the pair runs nothing, queues nothing and homes no task. -/
def execDrainComplete (p : Fin 24) (s : State) : Host.Outcome State Fault Refusal :=
  .next (
    if s.pairSt p = pairDraining && (s.lp p).run.isNone && (s.deque p).isEmpty && homedCount s p = 0 then retirePair p 4 s
    else s)

/-! ## Register writes (R166, R167) -/

/-- The conditions under which a write of EN = 1 is refused (R167). -/
def enRefused (s : State) (d : Fin 512) (w : Word) : Bool :=
  let home := wGet w 11 5
  let ctxs := s.f (Fld.LOOP_D_CTXS_CTXS d) * 4096
  (if h : home < 24 then s.pairSt ⟨home, h⟩ != pairActive || (w.getLsbD 1 && s.isSpare ⟨home, h⟩) else true) ||
    s.f (Fld.LOOP_D_CPH_CPH d) < s.taskBud d + 12 ||
    ctxs < 0x10000000 || 0x103F0000 < ctxs + 0x1000 ||
    1024 < s.f (Fld.LOOP_D_OUT_OUT_FIRST d) + s.f (Fld.LOOP_D_OUT_OUT_N d)

/-- EN = 0 written to a task (R168): a release that has not reached the LOOP block is discarded, as one is that reaches it in this core
cycle; one accepted before stays. -/
def releaseOff (d : Fin 512) (s : State) : State :=
  let s := s.modPost fun p => { p with rel := p.rel.filter fun e => e.1 != d.val || e.2 + 1 < s.time }
  match s.instOf d with
  | some i =>
    if i.tr + 1 = s.time then
      ((dropInst d s).lower (Fld.LOOP_D_STAT_PENDING d)).setF (Fld.LOOP_D_STAT_INST d) (i.count % 256)
    else s
  | none => s

/-- A write to LOOP_Dd_CTL (R148, R167, R168): with EN = 1 only EN and MISS_LIM act; a write of EN = 1 that a condition refuses has no
effect; after one that is not, the committed half counts as written by no pair. -/
def taskCtlWrite (d : Fin 512) (v : Word) (s : State) : State :=
  if s.taskOn d then
    if v.getLsbD 0 && enRefused s d (s.rd (.LOOP_D_CTL d)) then loopIgn s
    else
      let s := writeGuarded (.LOOP_D_CTL d) v 0xF0FFFFFE#32 loopIgn s
      if v.getLsbD 0 then setHeld d none s else releaseOff d s
  else
    let w := writeMerged s (.LOOP_D_CTL d) v
    if w.getLsbD 0 then (if enRefused s d w then loopIgn s else setHeld d none (s.wr (.LOOP_D_CTL d) w))
    else s.wr (.LOOP_D_CTL d) w

/-- TASK_CTL_WRITE (R167). -/
def execTaskCtlWrite (d : Fin 512) (value : Word) (s : State) : Host.Outcome State Fault Refusal := .next (agentTurn (taskCtlWrite d value) s)

/-- A write to another register of a descriptor: guarded while EN = 1 (R167). -/
def taskFieldWrite (d : Fin 512) (r : Reg) (v : Word) (s : State) : State :=
  if s.taskOn d then writeGuarded r v (BitVec.allOnes 32) loopIgn s else writePlain r v s

/-- A write to LOOP_TGTi (R166). -/
def tgtWrite (i : Fin 1024) (v : Word) (s : State) : State := 
  writeWhere (tgtOk v.toNat) (.LOOP_TGT i) v loopIgn (fun s => s.wr (.LOOP_TGT i) v) s

/-- A write to a register of the LOOP block. -/
def loopRegWrite (r : Reg) (v : Word) (s : State) : State :=
  match r with
  | .LOOP_PAIR_CMD => pairCommand (wGet v 0 5) (wGet v 8 3) (v.extractLsb' 16 16) s
  | .LOOP_SWREL => swRelease ⟨wGet v 0 9 % 512, Nat.mod_lt _ (by decide)⟩ s
  | .LOOP_D_CTL d => taskCtlWrite d v s
  | .LOOP_D_CPH d => taskFieldWrite d r v s
  | .LOOP_D_BUD d => taskFieldWrite d r v s
  | .LOOP_D_ENTRY d => taskFieldWrite d r v s
  | .LOOP_D_CTX d => taskFieldWrite d r v s
  | .LOOP_D_CTXS d => taskFieldWrite d r v s
  | .LOOP_D_OUT d => taskFieldWrite d r v s
  | .LOOP_TGT i => tgtWrite i v s
  | r => writePlain r v s

end Sys2Proof.Machine
end

