-- ==== Sys2Proof/Machine/Assay.lean ====
section
/-! DEFINITION. The Assay and the debug halt (13, R355 to R368): mismatches and what they cause, source 113, unstable reads, the
lane self-test, halts and resumes. Debug access to cores stands in Debug.lean. -/

namespace Sys2Proof.Machine

open Sys2Proof

/-- A pair of the Assay as a loop pair, or Kenow (R355). -/
def loopPair (p : Fin 25) : Option (Fin 24) := if h : p.val < 24 then some ⟨p.val, h⟩ else none

/-- The pair is halted, the resume copy included (R365, R368). -/
def State.isHalted (s : State) (p : Fin 25) : Bool :=
  match loopPair p with
  | some q => (s.lp q).halted
  | none => s.ken.halted

/-- The end of a pair's resume copy. -/
def State.copyTill (s : State) (p : Fin 25) : Option Nat :=
  match loopPair p with
  | some q => (s.lp q).copyTill
  | none => s.ken.copyTill

/-- The pair is neither OFF nor RETIRED. -/
def State.pairUp (s : State) (p : Fin 25) : Bool :=
  match loopPair p with
  | some q => pairActive ≤ s.pairSt q && s.pairSt q ≤ pairDraining
  | none => true

/-- The pair is being compared (R356, R365). -/
def State.compared (s : State) (p : Fin 25) : Bool := s.pairUp p && !s.isHalted p

/-! ## Source 113 (R359) -/

/-- A cause with a QSRC bit drives source 113 for 16 peripheral cycles. -/
def assaySource (b : Nat) (s : State) : State :=
  if (s.f Fld.ASY_CFG_QSRC).testBit b then
    let s := sourceActive 113 s.now s
    { s.raise Fld.ASY_STATUS_QSRC_ACT with asy := { s.asy with srcTill := some (s.perCycle + 16) } }
  else s

/-- ASSAY_SOURCE_END (R359). -/
def execAssaySourceEnd (s : State) : Host.Outcome State Fault Refusal :=
  .next (
    match s.asy.srcTill with
    | some c =>
      let s := sourceInactive 113 (s.advance (4 * c))
      { s.lower Fld.ASY_STATUS_QSRC_ACT with asy := { s.asy with srcTill := none } }
    | none => s)

/-! ## Mismatches (R358, R359, R377) -/

/-- The record of a mismatch; of two in one cycle the lower pair's stands (R375, R377). -/
def mismatchRecord (p : Fin 25) (lane : Fin 3) (addr lead chk : Word) (t : Nat) (s : State) : State :=
  let n := sat 255 (s.f Fld.ASY_MIS_LAST_CNT + 1)
  let keep : Bool := s.asy.misCyc = some s.time && s.f Fld.ASY_MIS_LAST_PAIR < p.val
  let s := { s.raise Fld.ASY_STATUS_MISMATCH with asy := { s.asy with misCyc := some s.time } }
  let s := s.setF Fld.ASY_MIS_LAST_CNT n
  if keep then s
  else
    let s := (s.setF Fld.ASY_MIS_LAST_PAIR p.val).setF Fld.ASY_MIS_LAST_LANE lane.val
    (((s.wr .ASY_MIS_ADDR addr).wr .ASY_MIS_LEAD lead).wr .ASY_MIS_CHK chk).wr .ASY_MIS_T (BitVec.ofNat 32 t)

/-- LOCKSTEP_MISMATCH (R358, R359): the lead's event of core cycle `cyc` differs from the checker's. It is discarded, and one cycle after
the comparison the loop pair retires, or the device enters FAULT for Kenow. -/
def execLockstepMismatch (p : Fin 25) (lane : Fin 3) (addr lead chk : Word) (cyc : Nat) (s : State) :
    Host.Outcome State Fault Refusal :=
  .next (
    if s.compared p then
      let s := mismatchRecord p lane addr lead chk (cyc + 2) (s.advance (cyc + 3))
      match loopPair p with
      | some q => assaySource 1 (retirePair q 1 (recordFault 0x5101 s))
      | none => assaySource 0 (recordFault 0x5402 s)
    else s)

/-! ## Asynchronous ports (R361, R362) -/

/-- A port read that ends unstable. -/
def unstableRead (port : Nat) (s : State) : State :=
  let old := s.f Fld.ASY_UNST_RUN
  let s := (s.raise Fld.ASY_STATUS_UNSTABLE).setF Fld.ASY_UNST_PORT port
  let s := (s.setF Fld.ASY_UNST_RUN (sat 15 (old + 1))).setF Fld.ASY_UNST_CNT (sat 65535 (s.f Fld.ASY_UNST_CNT + 1))
  let s := recordFault 0x5103 s
  let lim := s.f Fld.ASY_CFG_UNST_LIM
  if lim != 0 && old + 1 = lim then assaySource 2 (recordFault 0x5304 (s.raise Fld.ASY_STATUS_UNST_LIMIT)) else s

/-- A port read that resolves. -/
def stableRead (s : State) : State := s.setF Fld.ASY_UNST_RUN 0

/-! ## Lane self-test (R363) -/

/-- The outcome of the self-test: the pairs that failed it. -/
def laneTest (failed : BitVec 25) (s : State) : State :=
  if failed = 0#25 then s
  else
    let s := (s.setF Fld.ASY_BIST_FAILED failed.toNat).raise Fld.ASY_STATUS_BIST_FAIL
    let s := if failed.toNat % 2 ^ 24 = 0 then s else recordFault 0x5105 s
    if failed.getLsbD 24 then recordFault 0x5406 s else s

/-! ## Debug halt (R364 to R368) -/

/-- A halt, resume, step or register write refused (R376). -/
def dbgRefused (s : State) : State := s.raise Fld.DBG_STATUS_REFUSED

/-- The pair's two copies stop (R365 step 1). -/
def stopPair (p : Fin 25) (s : State) : State :=
  match loopPair p with
  | some q => s.modLp q fun l => { l with halted := true, haltCyc := s.time }
  | none => { s with ken := { s.ken with halted := true, haltCyc := s.time } }

/-- Lockstep is broken until reset (R365 steps 2 and 3). -/
def breakLockstep (p : Fin 25) (s : State) : State :=
  let s := ((s.raise Fld.ASY_STATUS_LOCKSTEP_BROKEN).raise Fld.SYS_STATE_LOCKSTEP_BROKEN).raise Fld.ASY_STATUS_BROKEN_EV
  let n := s.f Fld.ASY_BROKEN_HALTS
  let s := if n = 0 then s.setF Fld.ASY_BROKEN_FIRST p.val else s
  let s := recordFault 0x5007 (s.setF Fld.ASY_BROKEN_HALTS (sat 255 (n + 1)))
  if s.flag Fld.HLM_CFG_DBG_FLUSH then takeCause 16#5 s else s

/-- A debug halt of a pair (R364, R365); in ARMED and RUN the device enters DEBUG. A mismatch of the pair in the same core cycle stands
(R377). -/
def debugHalt (p : Fin 25) (s : State) : State :=
  if !s.flag Fld.SYS_STRAP_DBG then s
  else if s.dev = devBoot || !s.pairUp p || (s.asy.misCyc = some s.time && s.f Fld.ASY_MIS_LAST_PAIR = p.val) then dbgRefused s
  else if s.isHalted p then s
  else
    let s := (breakLockstep p (stopPair p s)).noteCause
    let s := pushEvent 0x0AF0 [BitVec.ofNat 8 p.val, 0#8, 0#8, 0#8] s
    if s.dev = devArmed ∨ s.dev = devRun then
      let s := setDev devDebug s
      dsgWatch { s with sys := { s.sys with dbgCyc := some s.perCycle } }
    else s

/-- The pairs of a mask, one after the other. -/
def eachPair (mask : BitVec 25) (f : Fin 25 → State → State) (s : State) : State :=
  (List.finRange 25).foldl (fun s p => if mask.getLsbD p.val then f p s else s) s

/-- DEBUG_HALT (R365): a DBG_HALT write. -/
def execDebugHalt (mask : BitVec 25) (s : State) : Host.Outcome State Fault Refusal :=
  .next (if s.flag Fld.SYS_STRAP_DBG then agentTurn (eachPair mask debugHalt) s else s)

/-- The lead copy of a pair's core. -/
def State.leadOf (s : State) (p : Fin 25) : Core :=
  match loopPair p with
  | some q => (s.lp q).lead
  | none => s.ken.lead

/-- A breakpoint matches the next instruction of a pair (R369). -/
def breakHit (s : State) (p : Fin 25) : Bool :=
  (List.finRange 4).any fun k =>
    s.flag (Fld.DBG_BRK_CTL_EN k) && (s.f (Fld.DBG_BRK_CTL_PAIRS k)).testBit p.val &&
      s.f (Fld.DBG_BRK_ADDR k) = (s.leadOf p).pc.toNat / 4

/-- The pair executes instructions now. -/
def State.executing (s : State) (p : Fin 25) : Bool :=
  match loopPair p with
  | some q => let l := s.lp q; l.live && !l.halted && !l.stopped
  | none => !s.ken.halted && s.running

/-- BREAKPOINT_MATCH (R369): the pair halts before the matching instruction. -/
def execBreakpointMatch (p : Fin 25) (s : State) : Host.Outcome State Fault Refusal :=
  .next (if s.executing p && breakHit s p then debugHalt p s else s)

/-- Core cycles of a resume copy (R368). -/
def resumeCycles : Nat := 2048

/-- A resume of one pair: its copy starts, or it is refused (R368, R377). -/
def resumePair (p : Fin 25) (s : State) : State :=
  if s.isHalted p && (s.copyTill p).isNone then
    match loopPair p with
    | some q => s.modLp q fun l => { l with copyTill := some (s.time + resumeCycles) }
    | none => { s with ken := { s.ken with copyTill := some (s.time + resumeCycles) } }
  else dbgRefused s

/-- RESUME (R368): a DBG_RESUME write; without ST_DBG there is no debug (R364). -/
def execResume (mask : BitVec 25) (s : State) : Host.Outcome State Fault Refusal :=
  .next (if s.flag Fld.SYS_STRAP_DBG then agentTurn (eachPair mask resumePair) s else s)

/-- RESUME_COPY_DONE (R368): the checker holds the lead's state and both copies go on; comparison resumes. -/
def execResumeCopyDone (p : Fin 25) (s : State) : Host.Outcome State Fault Refusal :=
  .next (
    match s.copyTill p with
    | none => s
    | some t =>
      let s := s.advance t
      match loopPair p with
      | some q => s.modLp q fun l =>
          { l with halted := false, copyTill := none, chk := l.lead, freeAt := max l.freeAt t,
                   lost := if l.live then l.lost + (t - l.haltCyc) else l.lost, pipe := { l.pipe with next := max l.pipe.next t } }
      | none => { s with ken := { s.ken with halted := false, copyTill := none, chk := s.ken.lead } })

/-- A write to ASY_CFG: WR_IGN where the lock ignores a change (R375, R529). -/
def asyCfgWrite (v : Word) (s : State) : State :=
  if s.locked then
    (if (s.rd .ASY_CFG ^^^ v) &&& 0xF07#32 = 0#32 then s else s.raise Fld.ASY_STATUS_WR_IGN)
  else writePlain .ASY_CFG v s

end Sys2Proof.Machine
end

