-- ==== Sys2Proof/Machine/Mcv.lean ====
section
/-! DEFINITION. The metering converter (14): the regular and injected sequences, their windows in FIXED and MAINS timing, delivery and the
result buffers, the reference and the guarded registers. The inputs are analogue and outside the model: a command that ends a window
tells its mean, in units of V_FSA / 2^22. -/

namespace Sys2Proof.Machine

open Sys2Proof

def State.mc (s : State) (c : Fin 4) : McvCh := s.mcv.ch[c]

def State.modMc (s : State) (c : Fin 4) (f : McvCh → McvCh) : State := { s with mcv := { s.mcv with ch := vmod s.mcv.ch c f } }

/-- Core cycles: 10 µs, T_SET, the 30.0 ms timeout, a millisecond, and the settling of the reference. -/
def mcvTen : Nat := 6000
def mcvSet : Nat := 1200
def mcvTimeout : Nat := 18000000
def mcvMs : Nat := 600000
def mcvRef : Nat := 3000000

def State.mcvOn (s : State) (c : Fin 4) : Bool := s.flag (Fld.MCV_C_CTL_EN c)
def State.mcvMains (s : State) (c : Fin 4) : Bool := s.flag (Fld.MCV_C_CTL_TIM c)

/-- The number of a sequence's entry, bounded. -/
def mcvSeq (c : Fin 4) (i : Nat) : RF := Fld.MCV_C_SEQ_CH c ⟨i % 32, Nat.mod_lt _ (by decide)⟩
def mcvInj (i : Nat) : Fin 8 := ⟨i % 8, Nat.mod_lt _ (by decide)⟩

/-- The mains generator of a converter. -/
def mcvAg (s : State) (c : Fin 4) : Fin 8 := ⟨s.f (Fld.MCV_C_CTL_AG c) % 8, Nat.mod_lt _ (by decide)⟩

def mcvIgn (c : Fin 4) (s : State) : State := s.raise (Fld.MCV_C_STATUS_WR_IGN c)

/-! ## Windows (R384, R387, R389, R390) -/

/-- A regular window of entry `i` begins at a core cycle: in FIXED timing it ends TINT later. -/
def mcvWindow (c : Fin 4) (i start : Nat) (s : State) : State :=
  let due := if s.mcvMains c then none else some (start + s.f (Fld.MCV_C_TINT_TINT c) * mcvTen)
  let hold := s.mcvMains c && s.flag (Fld.MAN_AG_STATUS_IN_HOLD (mcvAg s c))
  (s.setF (Fld.MCV_C_STATUS_IDX c) i).modMc c fun m =>
    { m with wait := none,
             win := some { inj := false, entry := i, ch := s.f (mcvSeq c i), read := none, start := start, due := due, hold := hold } }

/-- The regular sequence goes on from a core cycle: in MAINS timing its window waits for a boundary. -/
def mcvGo (c : Fin 4) (start : Nat) (s : State) : State :=
  if s.mcvMains c then s.modMc c fun m => { m with win := none, wait := some start }
  else mcvWindow c (s.f (Fld.MCV_C_STATUS_IDX c)) start s

/-- The threshold DAC that a KIND 1 entry converts: comparator and upper DAC, from number `i` on (R390). -/
def mcvDac (s : State) (i : Nat) : Option (Fin 64 × Bool) :=
  ((List.range 128).map fun k => (i + k) % 128).findSome? fun k =>
    let w : Fin 64 := ⟨k / 2 % 64, Nat.mod_lt _ (by decide)⟩
    if s.flag (Fld.CMP_WC_CTL_TS_EN w) then some (w, decide (k % 2 = 0)) else none

/-- The number of a threshold DAC in the order of R390. -/
def mcvDacNum (d : Fin 64 × Bool) : Nat := 2 * d.1.val + bit (!d.2)

/-- The first entry of the injected sequence from `i` on that is not skipped (R390), with the DAC it reads back. -/
def mcvNextInj (s : State) (c : Fin 4) : Nat → Nat → Option (Nat × Option (Fin 64 × Bool))
  | 0, _ => none
  | fuel + 1, i =>
    if s.f (Fld.MCV_C_SEQ_CFG_INJ_LEN c) < i then none
    else if s.f (Fld.MCV_C_INJ_KIND c (mcvInj i)) = 1 then
      (if s.flag Fld.CMP_TS_CTL_EN then
        match mcvDac s s.mcv.tsNext with
        | some d => some (i, some d)
        | none => mcvNextInj s c fuel (i + 1)
      else mcvNextInj s c fuel (i + 1))
    else some (i, none)

/-- The injected sequence ends at a core cycle, and the regular one resumes with the entry it had not completed: in FIXED timing in the next
cycle, in MAINS timing at the next boundary (R389). -/
def mcvInjEnd (c : Fin 4) (cyc : Nat) (s : State) : State :=
  let s := (s.lower (Fld.MCV_C_STATUS_INJ_RUN c)).setF (Fld.MCV_C_STATUS_INJ_IDX c) 0
  let s := s.modMc c fun m => { m with win := none }
  match (s.mc c).wait with
  | some t => mcvGo c (max t (if s.mcvMains c then cyc else cyc + 1)) s
  | none => s

/-- The window of the injected sequence's next entry from `i` on begins at a core cycle, if there is one. -/
def mcvInjWindow (c : Fin 4) (i start : Nat) (s : State) : Option State :=
  (mcvNextInj s c 9 i).map fun (j, read) =>
    let due := start + mcvSet + s.f (Fld.MCV_C_TINT_INJ_TINT c) * mcvTen
    let s := match read with
      | some d => { s with mcv := { s.mcv with tsNext := (mcvDacNum d + 1) % 128 } }
      | none => s
    (s.setF (Fld.MCV_C_STATUS_INJ_IDX c) j).modMc c fun m =>
      { m with win := some { inj := true, entry := j, ch := s.f (Fld.MCV_C_INJ_CH c (mcvInj j)), read := read, start := start,
                             due := some due, hold := false } }

/-- The injected sequence starts in the next peripheral cycle (R389); with every entry skipped it ends there. -/
def mcvInjStart (c : Fin 4) (s : State) : State :=
  let start := 4 * (s.perCycle + 1)
  let s := s.modMc c fun m => { m with injFrom := none }
  match mcvInjWindow c 0 start (s.raise (Fld.MCV_C_STATUS_INJ_RUN c)) with
  | some s => s
  | none => mcvInjEnd c (start - 1) ((s.raise (Fld.MCV_C_STATUS_INJ_DONE c)).modMc c fun m => { m with win := none })

/-! ## Starts, triggers and stops (R387 to R389) -/

/-- A regular start with start instant `ts` (R387). -/
def mcvStart (c : Fin 4) (ts : Nat) (s : State) : State :=
  if !s.mcvOn c then s
  else if s.flag (Fld.MCV_C_STATUS_RUN c) then recordFault 0x7006 (s.raise (Fld.MCV_C_STATUS_TRG_LOST c))
  else
    let s := (s.raise (Fld.MCV_C_STATUS_RUN c)).setF (Fld.MCV_C_STATUS_IDX c) 0
    if s.flag (Fld.MCV_C_STATUS_INJ_RUN c) then s.modMc c fun m => { m with wait := some ts } else mcvGo c ts s

/-- CMD.START (R387). -/
def mcvSoftStart (c : Fin 4) (s : State) : State :=
  if s.f (Fld.MCV_C_CTL_TRG c) = 0 then mcvStart c (s.time + s.f (Fld.MCV_C_DLY_DLY c)) s else s

/-- CONVERSION_START (R387): the software start, or the oldest start event on its way to the converter. -/
def execConversionStart (c : Fin 4) (software : Bool) (s : State) : Host.Outcome State Fault Refusal :=
  .next (
    if software then agentTurn (mcvSoftStart c) s
    else
      match takeEv c.val s.post.conv with
      | (some ts, rest) => mcvStart c ts (s.modPost fun p => { p with conv := rest })
      | (none, _) => s)

/-- A regular conversion aborted without a result (R389). -/
def mcvAbort (c : Fin 4) (s : State) : State :=
  let s := s.setF (Fld.MCV_C_CNT_ABORTS c) (sat 65535 (s.f (Fld.MCV_C_CNT_ABORTS c) + 1))
  recordFault 0x7005 (s.raise (Fld.MCV_C_STATUS_ABORT c))

/-- An injected trigger (R389, R400). -/
def mcvTrigger (c : Fin 4) (s : State) : State :=
  if !s.mcvOn c || (s.mc c).stopCyc = some s.perCycle then s
  else if s.flag (Fld.MCV_C_STATUS_INJ_RUN c) || (s.mc c).injFrom.isSome then
    recordFault 0x7107 (s.raise (Fld.MCV_C_STATUS_INJ_LOST c))
  else
    match (s.mc c).win with
    | none => mcvInjStart c s
    | some w =>
      if (w.due.map fun d => d / 4) = some s.perCycle then s.modMc c fun m => { m with injFrom := some (4 * (s.perCycle + 1)) }
      else
        let again := s.modMc c fun m => { m with win := none, wait := some (if s.time < w.start then w.start else 0) }
        mcvInjStart c (if s.time < w.start + mcvSet then again else mcvAbort c again)

/-- CMD.INJ (R389). -/
def mcvSoftTrigger (c : Fin 4) (s : State) : State := if s.f (Fld.MCV_C_SEQ_CFG_INJ_TRG c) = 0 then mcvTrigger c s else s

/-- INJECTED_TRIGGER (R389): CMD.INJ, or the oldest trigger on its way to the converter. -/
def execInjectedTrigger (c : Fin 4) (software : Bool) (s : State) : Host.Outcome State Fault Refusal :=
  .next (
    if software then agentTurn (mcvSoftTrigger c) s
    else
      match takeEv c.val s.post.inj with
      | (some t, rest) => mcvTrigger c ((s.advance t).modPost fun p => { p with inj := rest })
      | (none, _) => s)

/-- INJECTED_PERIODIC_TRIGGER (R389): INJ_PER milliseconds have passed. -/
def execInjectedPeriodicTrigger (c : Fin 4) (s : State) : Host.Outcome State Fault Refusal :=
  .next (
    if s.mcvOn c && s.f (Fld.MCV_C_SEQ_CFG_INJ_TRG c) = 3 then
      let t := (s.mc c).injNext
      mcvTrigger c ((s.advance t).modMc c fun m => { m with injNext := t + s.f (Fld.MCV_C_SEQ_CFG_INJ_PER c) * mcvMs })
    else s)

/-- Both sequences stop and return to entry 0 (R388). -/
def mcvStop (c : Fin 4) (s : State) : State :=
  let s := ((s.lower (Fld.MCV_C_STATUS_RUN c)).lower (Fld.MCV_C_STATUS_INJ_RUN c)).setF (Fld.MCV_C_STATUS_IDX c) 0
  (s.setF (Fld.MCV_C_STATUS_INJ_IDX c) 0).modMc c fun m =>
    { m with win := none, wait := none, injFrom := none, stopCyc := some s.perCycle }

/-- CONVERSION_STOP (R388). -/
def execConversionStop (c : Fin 4) (s : State) : Host.Outcome State Fault Refusal := .next (agentTurn (mcvStop c) s)

/-! ## The end of a window (R381, R382, R384 to R386, R393) -/

/-- A channel is privileged (R382). -/
def mcvPriv (s : State) (ch : Nat) : Bool :=
  (List.finRange 2).any fun i =>
    (s.flag (Fld.MCV_PRIV_EN0 i) && s.f (Fld.MCV_PRIV_CH0 i) = ch) || (s.flag (Fld.MCV_PRIV_EN1 i) && s.f (Fld.MCV_PRIV_CH1 i) = ch) ||
    (s.flag (Fld.MCV_PRIV_EN2 i) && s.f (Fld.MCV_PRIV_CH2 i) = ch) || (s.flag (Fld.MCV_PRIV_EN3 i) && s.f (Fld.MCV_PRIV_CH3 i) = ch)

/-- A conversion that began or ended with the reference not settled (R393, R400). -/
def mcvUnset (s : State) (start t0 : Nat) : Bool :=
  !s.flag Fld.MCV_REF_READY || start < s.mcv.refUp || t0 / 4 = s.mcv.refUp / 4

/-- The generator was in holdover during a window (R386). -/
def mcvHeld (s : State) (c : Fin 4) (w : McvWin) : Bool :=
  let n := mcvAg s c
  w.hold || s.flag (Fld.MAN_AG_STATUS_IN_HOLD n) || w.start < (s.gen n).holdAt

/-- A window's conversion on its way to delivery: the code of R381 and the flags of R383. -/
def mcvQueue (c : Fin 4) (w : McvWin) (t0 : Nat) (mean : Int) (peak bad last : Bool) (s : State) : State :=
  let ovr := w.read.isNone && mcvPriv s w.ch && (peak || decide ((2 ^ 22 : Int) ≤ mean))
  let code := if ovr then 2 ^ 22 - 1 else min mean.toNat (2 ^ 22 - 1)
  s.modMc c fun m =>
    { m with out := m.out ++ [{ ch := w.ch, code := code, ovr := ovr, unset := mcvUnset s w.start t0, inj := w.inj, mains := bad,
                                last := last, read := w.read, t0 := t0 }] }

/-- The regular sequence after a window of entry `i` that ended at a core cycle: the next window, or the end of the pass; an injected
sequence that waits for this end comes first (R387, R389). -/
def mcvNext (c : Fin 4) (i t0 : Nat) (s : State) : State :=
  let n := if i < s.f (Fld.MCV_C_SEQ_CFG_LEN c) then some (i + 1) else if s.flag (Fld.MCV_C_CTL_CONT c) then some 0 else none
  let s := s.modMc c fun m => { m with win := none }
  let s := match n with
    | some j => s.setF (Fld.MCV_C_STATUS_IDX c) j
    | none => (s.lower (Fld.MCV_C_STATUS_RUN c)).setF (Fld.MCV_C_STATUS_IDX c) 0
  if (s.mc c).injFrom.isSome then mcvInjStart c (if n.isSome then s.modMc c fun m => { m with wait := some t0 } else s)
  else match n with
    | some j => mcvWindow c j t0 s
    | none => s

/-- The injected sequence after a window of entry `i` that ended at a core cycle. -/
def mcvInjNext (c : Fin 4) (i t0 : Nat) (s : State) : State :=
  match mcvInjWindow c (i + 1) t0 s with
  | some s => s
  | none => mcvInjEnd c t0 s

/-- MCV_WINDOW_END (R384, R389): the window's time ends. -/
def execMcvWindowEnd (c : Fin 4) (mean : Int) (peak : Bool) (s : State) : Host.Outcome State Fault Refusal :=
  .next (
    match (s.mc c).win with
    | some w =>
      match w.due with
      | some t0 =>
        let s := s.advance t0
        if w.inj then
          let last := (mcvNextInj s c 9 (w.entry + 1)).isNone
          mcvInjNext c w.entry t0 (mcvQueue c w t0 mean peak false last s)
        else mcvNext c w.entry t0 (mcvQueue c w t0 mean peak false false s)
      | none => s
    | none => s)

/-- A boundary of R384 at a core cycle: a forward crossing of PH + k × 2^32 / DIV by the electrical angle, in the sense of R67. -/
def mcvBoundary (s : State) (c : Fin 4) (cyc : Nat) : Bool :=
  let n := mcvAg s c
  let prev := genOut s n true (cyc - 1)
  let now := genOut s n true cyc
  s.gSrc n = 7 && (List.range (2 ^ s.f (Fld.MCV_C_CTL_DIV c))).any fun k =>
    crossed prev now (s.f (Fld.MCV_C_PH_PH c) + k * 2 ^ (32 - s.f (Fld.MCV_C_CTL_DIV c)) : Nat) = 1

/-- MAINS_BOUNDARY (R384): the boundary of core cycle `cyc` ends the window, or begins the one that waits for it. -/
def execMainsBoundary (c : Fin 4) (cyc : Nat) (mean : Int) (peak : Bool) (s : State) : Host.Outcome State Fault Refusal :=
  .next (
    if s.mcvOn c && s.mcvMains c && s.time ≤ cyc && mcvBoundary s c cyc then
      let s := s.advance cyc
      match (s.mc c).win, (s.mc c).wait with
      | some w, _ =>
        if w.inj || cyc ≤ w.start || (w.start + mcvTimeout) / 4 < cyc / 4 then s
        else mcvNext c w.entry cyc (mcvQueue c w cyc mean peak (mcvHeld s c w) false s)
      | none, some t => if t < cyc then mcvWindow c (s.f (Fld.MCV_C_STATUS_IDX c)) cyc s else s
      | none, none => s
    else s)

/-- MAINS_WINDOW_TIMEOUT (R386): no boundary for 30.0 ms. -/
def execMainsWindowTimeout (c : Fin 4) (mean : Int) (peak : Bool) (s : State) : Host.Outcome State Fault Refusal :=
  .next (
    match (s.mc c).win with
    | some w =>
      if w.inj || w.due.isSome then s
      else
        let t0 := w.start + mcvTimeout
        let s := s.advance t0
        mcvNext c w.entry t0 (mcvQueue c w t0 mean peak true false s)
    | none => s)

/-! ## Delivery (R383, R391, R392) -/

/-- The format of R383. -/
def mcvWord (o : McvOut) : Word :=
  BitVec.ofNat 32 (o.code + 2 ^ 22 * bit o.ovr + 2 ^ 23 * bit o.unset + 2 ^ 24 * bit o.inj + 2 ^ 25 * bit o.mains + 2 ^ 26 * o.ch)

/-- A buffer's entry (R392). A buffer that does not lie in shared SRAM takes none (log entry 30). -/
def mcvStore (c : Fin 4) (o : McvOut) (s : State) : State :=
  let base := s.f (Fld.MCV_C_BUF_BASE c) * 128
  let n := 2 ^ (s.f (Fld.MCV_C_BUF_SIZE c) + 4)
  if base < 0x10000000 ∨ hlmLive < base + 8 * n then s
  else
    let w := s.f (Fld.MCV_C_IDX_WIDX c) % n
    let r := s.f (Fld.MCV_C_IDX_RIDX c) % n
    let s := (s.setMemW (base + 8 * w) (mcvWord o)).setMemW (base + 8 * w + 4) (BitVec.ofNat 32 o.t0)
    let w := (w + 1) % n
    let s := s.setF (Fld.MCV_C_IDX_WIDX c) w
    if w = r then recordFault 0x7003 ((s.setF (Fld.MCV_C_IDX_RIDX c) ((r + 1) % n)).raise (Fld.MCV_C_STATUS_OVF c)) else s

/-- The sticky bits and faults of a result's flags (R382, R386, R393). -/
def mcvFlags (c : Fin 4) (o : McvOut) (s : State) : State :=
  let s := if o.ovr then recordFault 0x7101 (s.raise (Fld.MCV_C_STATUS_OVR c)) else s
  let s := if o.unset then recordFault 0x7104 (s.raise (Fld.MCV_C_STATUS_UNSET c)) else s
  if o.mains then recordFault 0x7102 (s.raise (Fld.MCV_C_STATUS_MAINS_INV c)) else s

/-- A result delivered (R391 steps 2 to 4). -/
def mcvDeliver (c : Fin 4) (o : McvOut) (s : State) : State :=
  let k : Fin 64 := ⟨o.ch % 64, Nat.mod_lt _ (by decide)⟩
  let s := (mcvFlags c o s).wr (.MCV_CH_RES k) (mcvWord o)
  let s := if o.inj then s else s.raise (Fld.MCV_C_STATUS_DONE c)
  let s := if o.last then s.raise (Fld.MCV_C_STATUS_INJ_DONE c) else s
  let s := s.setF (Fld.MCV_C_CNT_CONV c) (s.f (Fld.MCV_C_CNT_CONV c) + 1)
  let s := postDma (48 + c.val) none (hlmTrigger 3 c.val (postRel 4 c.val s.time s))
  let s := if o.unset then s else anvVoltage o.ch o.code o.ovr (dclResult o.ch o.code o.ovr s)
  mcvStore c o s

/-- A readback delivered to Touchstone, and to nothing else (R390). -/
def mcvReadback (c : Fin 4) (o : McvOut) (w : Fin 64) (upper : Bool) (s : State) : State :=
  let s := mcvFlags c o s
  let s := if o.last then s.raise (Fld.MCV_C_STATUS_INJ_DONE c) else s
  cmpReadback w upper (roundDiv (o.code * 33000) (2 ^ 22 * 32)).toNat s

/-- CONVERSION_DELIVERY (R391): the oldest conversion of a converter is delivered. -/
def execConversionDelivery (c : Fin 4) (s : State) : Host.Outcome State Fault Refusal :=
  .next (
    match (s.mc c).out with
    | o :: rest =>
      let s := (s.advance (mcvDue o)).modMc c fun m => { m with out := rest }
      match o.read with
      | some (w, upper) => mcvReadback c o w upper s
      | none => mcvDeliver c o s
    | [] => s)

/-! ## Reference and guarded writes (R393, R398, R399) -/

/-- A write to MCV_REF (R393). -/
def mcvRefWrite (v : Word) (s : State) : State :=
  let on := s.flag Fld.MCV_REF_EN
  let s := s.wr .MCV_REF (fieldWrite s .MCV_REF v (s.rd .MCV_REF) ⟨16, 1, .w1c, 0, []⟩)
  if v.getLsbD 0 then
    (if on then s
    else
      let s := s.setF Fld.MCV_REF_EN 1
      { s with mcv := { s.mcv with refAt := some (s.time + mcvRef) } })
  else if !on then s
  else if (List.finRange 4).any fun c => s.mcvOn c then s.raise Fld.MCV_REF_WR_IGN
  else
    let s := (s.lower Fld.MCV_REF_EN).lower Fld.MCV_REF_READY
    { s with mcv := { s.mcv with refAt := none } }

/-- REF_WRITE (R393). -/
def execRefWrite (value : Word) (s : State) : Host.Outcome State Fault Refusal := .next (agentTurn (mcvRefWrite value) s)

/-- REF_READY (R393). -/
def execRefReady (s : State) : Host.Outcome State Fault Refusal :=
  .next (
    match s.mcv.refAt with
    | some t =>
      let s := (s.advance t).setF Fld.MCV_REF_READY 1
      { s with mcv := { s.mcv with refAt := none, refUp := t } }
    | none => s)

/-- A write to MCVc_CTL (R398, R399, R400). -/
def mcvCtlWrite (c : Fin 4) (v : Word) (s : State) : State :=
  let on := s.mcvOn c
  let s := writeGuarded (.MCV_C_CTL c) v (if on then 0xFFFFFFFE#32 else 0#32) (mcvIgn c) s
  if !on && s.mcvOn c then
    if s.mcvMains c && s.gSrc (mcvAg s c) != 7 then mcvIgn c (s.lower (Fld.MCV_C_CTL_EN c))
    else s.modMc c fun m => { m with injNext := s.time + s.f (Fld.MCV_C_SEQ_CFG_INJ_PER c) * mcvMs }
  else if on && !s.mcvOn c then
    (mcvStop c s).modMc c fun m => { m with out := m.out.filter fun o => o.t0 / 4 != s.perCycle }
  else s

/-- A write to MCVc_CMD: STOP alone where it is written, else START and INJ (R387 to R389, R400). -/
def mcvCmdWrite (c : Fin 4) (v : Word) (s : State) : State :=
  if v.getLsbD 2 then mcvStop c s
  else
    let s := if v.getLsbD 0 then mcvSoftStart c s else s
    if v.getLsbD 1 then mcvSoftTrigger c s else s

/-- A write to MCVc_BUF (R398, R399): BASE takes a value aligned to the buffer's size, in shared SRAM below the Crucible. -/
def mcvBufWrite (c : Fin 4) (v : Word) (s : State) : State :=
  if s.mcvOn c then writeGuarded (.MCV_C_BUF c) v (BitVec.allOnes 32) (mcvIgn c) s
  else
    let w := fieldWrite s (.MCV_C_BUF c) v (s.rd (.MCV_C_BUF c)) ⟨0, 4, .rw, 0, [(9, 15)]⟩
    let s := s.wr (.MCV_C_BUF c) w
    let base := wGet v 7 25 * 128
    if 0x10000000 ≤ base ∧ base < hlmLive ∧ base % (8 * 2 ^ (wGet w 0 4 + 4)) = 0 then s.setF (Fld.MCV_C_BUF_BASE c) (wGet v 7 25)
    else if wGet v 7 25 = s.f (Fld.MCV_C_BUF_BASE c) then s
    else mcvIgn c s

/-- The converter whose EN guards a register (R399). -/
def mcvGuard : Reg → Option (Fin 4)
  | .MCV_C_TINT c => some c
  | .MCV_C_PH c => some c
  | .MCV_C_DLY c => some c
  | .MCV_C_SEQ_CFG c => some c
  | .MCV_C_SEQ c _ => some c
  | .MCV_C_INJ c _ => some c
  | _ => none

/-- A write to a register of the MCV block. -/
def mcvRegWrite (r : Reg) (v : Word) (s : State) : State :=
  match r with
  | .MCV_REF => mcvRefWrite v s
  | .MCV_C_CTL c => mcvCtlWrite c v s
  | .MCV_C_CMD c => mcvCmdWrite c v s
  | .MCV_C_BUF c => mcvBufWrite c v s
  | r =>
    match mcvGuard r with
    | some c => if s.mcvOn c then writeGuarded r v (BitVec.allOnes 32) (mcvIgn c) s else writePlain r v s
    | none => writePlain r v s

/-- MCV_SUM: the converters with a sticky bit set (R398). -/
def mcvSum (s : State) : Word :=
  (List.finRange 4).foldl (fun w c => if wGet (s.rd (.MCV_C_STATUS c)) 0 10 = 0 then w else wPut w c.val 1 1) 0#32

end Sys2Proof.Machine
end

