-- ==== Sys2Proof/Machine/LineBus.lean ====
section
/-! DEFINITION. The line bus (16): transmission modes, filters and the receive FIFO, the schedule matrix, reference messages, global
time and synchronisation, master election, and error states. What passes on the wire is outside the model: commands tell of the
frames that are received, sent or failed, with the stamp of their start and the core cycle at which they end. -/

namespace Sys2Proof.Machine

open Sys2Proof

def State.lbc (s : State) (c : Fin 4) : LbCh := s.lb.ch[c]

def State.modLb (s : State) (c : Fin 4) (f : LbCh → LbCh) : State := { s with lb := { s.lb with ch := vmod s.lb.ch c f } }

/-- Codes of SYNC and ROLE (R454). -/
abbrev lbOff : Nat := 0
abbrev lbListen : Nat := 1
abbrev lbLocked : Nat := 2
abbrev lbHoldover : Nat := 3
abbrev lbSlave : Nat := 0
abbrev lbBackup : Nat := 1
abbrev lbMaster : Nat := 2

def State.lbSync (s : State) (c : Fin 4) : Nat := s.f (Fld.LB_SYNC_STAT_SYNC c)
def State.lbRole (s : State) (c : Fin 4) : Nat := s.f (Fld.LB_SYNC_STAT_ROLE c)
def State.lbOn (s : State) (c : Fin 4) : Bool := s.flag (Fld.LB_CTL_EN c)
def State.lbTt (s : State) (c : Fin 4) : Bool := s.f (Fld.LB_CTL_MODE c) = 0
def State.lbPrio (s : State) (c : Fin 4) : Nat := s.f (Fld.LB_SYNC_CFG_MST_PRIO c)

/-- A LINE event (R469). -/
def lbEvent (c : Fin 4) (s : State) : State :=
  pushEvent 0x07F0 ([c.val, s.lbSync c, s.lbRole c, s.f (Fld.LB_SYNC_STAT_MNODE c)].map (BitVec.ofNat 8)) s

/-- SYNC and ROLE put to a state. -/
def lbSet (c : Fin 4) (sync role : Nat) (s : State) : State :=
  if s.lbSync c = sync ∧ s.lbRole c = role then s
  else lbEvent c ((s.setF (Fld.LB_SYNC_STAT_SYNC c) sync).setF (Fld.LB_SYNC_STAT_ROLE c) role)

/-! ## Message RAM (R429, R430) -/

/-- The message RAM of a controller, and places in it. -/
def lbRam (c : Fin 4) : Nat := 0x50000000 + c.val * 0x10000
def lbTxBuf (c : Fin 4) (b : Nat) : Nat := lbRam c + 0x2400 + b * 0x50
def lbRxBuf (c : Fin 4) (k : Nat) : Nat := lbRam c + 0x3800 + k * 0x50
def lbFifoAt (c : Fin 4) (j : Nat) : Nat := lbRam c + 0x4C00 + j * 0x50

/-- Data bytes of a DLC: of an FD frame up to 64, of a classical frame up to 8. -/
def lbBytes (fdf : Bool) (dlc : Nat) : Nat :=
  if dlc ≤ 8 then dlc else if !fdf then 8
  else if dlc ≤ 12 then 12 + 4 * (dlc - 9) else if dlc = 13 then 32 else if dlc = 14 then 48 else 64

/-- Bytes written to memory from an address up. -/
def putBytes (a : Nat) (l : List Byte) (m : List Host.Cell) : List Host.Cell :=
  (l.foldl (fun (p : List Host.Cell × Nat) b => (memSet p.1 p.2 b, p.2 + 1)) (m, a)).1

/-- Bytes read from memory from an address up. -/
def getBytes (m : List Host.Cell) (a n : Nat) : List Byte := (List.range n).map fun i => memGet m (a + i)

/-- Words 0 and 1 of a transmit buffer. -/
def State.lbW0 (s : State) (c : Fin 4) (b : Fin 64) : Word := s.memW (lbTxBuf c b.val)
def State.lbW1 (s : State) (c : Fin 4) (b : Fin 64) : Word := s.memW (lbTxBuf c b.val + 4)
def State.lbOneShot (s : State) (c : Fin 4) (b : Fin 64) : Bool := (s.lbW1 c b).getLsbD 8
def State.lbArb (s : State) (c : Fin 4) (b : Fin 64) : Bool := (s.lbW1 c b).getLsbD 9
def State.lbMarkEn (s : State) (c : Fin 4) (b : Fin 64) : Bool := (s.lbW1 c b).getLsbD 10

/-- The frame that a transmit buffer holds. -/
def lbFrameOf (s : State) (c : Fin 4) (b : Fin 64) : LbFrame :=
  let w := s.lbW0 c b
  let dlc : BitVec 4 := (s.lbW1 c b).extractLsb' 0 4
  { id := w.extractLsb' 0 29, xtd := w.getLsbD 29, fdf := w.getLsbD 30, brs := w.getLsbD 31, esi := s.f (Fld.LB_ERR_ESTATE c) = 1,
    remote := false, dlc := dlc, data := getBytes s.mem (lbTxBuf c b.val + 16) (lbBytes (w.getLsbD 30) dlc.toNat) }

/-- A buffer is latched (R437): with SRC it takes its data from shared SRAM. -/
def lbLatch (c : Fin 4) (b : Fin 64) (s : State) : State :=
  let src := (s.memW (lbTxBuf c b.val + 8)).toNat / 4 * 4
  if src = 0 then s
  else
    let n := lbBytes ((s.lbW0 c b).getLsbD 30) ((s.lbW1 c b).extractLsb' 0 4).toNat
    if 0x10000000 ≤ src ∧ src + n ≤ 0x10400000 then
      { s with mem := memPaste s.mem (lbTxBuf c b.val + 16) n (memSlice s.mem src n (lbTxBuf c b.val + 16)) }
    else s

/-! ## Pending buffers (R425, R426, R456) -/

def lbReqReg (c : Fin 4) (b : Fin 64) : Reg := .LB_TXREQ c ⟨b.val / 32, by omega⟩
def lbDoneReg (c : Fin 4) (b : Fin 64) : Reg := .LB_TXDONE c ⟨b.val / 32, by omega⟩

/-- The buffer is pending. -/
def State.lbPend (s : State) (c : Fin 4) (b : Fin 64) : Bool := s.bitOf (lbReqReg c b) (b.val % 32)

def lbIgn (c : Fin 4) (s : State) : State := s.raise (Fld.LB_STATUS_WR_IGN c)

/-- A buffer becomes pending, by a TXREQ write or its mark; in COMPAT mode it joins the queue (R426, R430). -/
def lbRequest (c : Fin 4) (b : Fin 64) (s : State) : State :=
  let compat := s.f (Fld.LB_CTL_MODE c) = 2
  if compat && 32 ≤ (s.lbc c).queue.length then lbIgn c s
  else
    let bitB : BitVec 64 := 1#64 <<< b.val
    let new := if s.lbPend c b then 0#64 else bitB
    let s := s.modLb c fun l =>
      { l with queue := if compat then l.queue ++ [b] else l.queue, newCyc := s.perCycle,
               newReq := (if l.newCyc = s.perCycle then l.newReq else 0#64) ||| new }
    s.putBit (lbReqReg c b) (b.val % 32) true

/-- A request of a buffer is over. -/
def lbUnrequest (c : Fin 4) (b : Fin 64) (s : State) : State :=
  if s.f (Fld.LB_CTL_MODE c) = 2 then
    let q := (s.lbc c).queue.erase b
    let s := s.modLb c fun l => { l with queue := q }
    if q.contains b then s else s.putBit (lbReqReg c b) (b.val % 32) false
  else s.putBit (lbReqReg c b) (b.val % 32) false

/-- A write to LBn_TXREQ: the named buffers in ascending order. -/
def lbTxReqWrite (c : Fin 4) (half : Fin 2) (mask : Word) (s : State) : State :=
  (List.finRange 32).foldl (fun s i =>
    if mask.getLsbD i.val then lbRequest c ⟨32 * half.val + i.val, by omega⟩ s else s) s

/-- TRANSMIT_REQUEST (R426). -/
def execTransmitRequest (c : Fin 4) (half : Fin 2) (mask : Word) (s : State) : Host.Outcome State Fault Refusal :=
  .next (agentTurn (lbTxReqWrite c half mask) s)

/-- Angle mark `m` fires: its buffers become pending (R430). -/
def lbMark (m : Nat) (s : State) : State :=
  (List.finRange 4).foldl (fun s c =>
    (List.finRange 64).foldl (fun s b =>
      if s.lbMarkEn c b && wGet (s.lbW1 c b) 16 6 = m then
        (lbRequest c b s).modLb c fun l => { l with marked := l.marked ||| (1#64 <<< b.val) }
      else s) s) s

/-! ## Global time and cycle time (R433, R446) -/

def State.lbDrift (s : State) (c : Fin 4) : Int := (s.rd (.LB_DRIFT c)).toInt

/-- Global time at an instant in taps. -/
def lbGt (s : State) (c : Fin 4) (t : Nat) : Int :=
  let l := s.lbc c
  (l.gtK : Int) + ((t : Int) - l.tK) * (2 ^ 32 + s.lbDrift c) / (16 * 2 ^ 32)

/-- The core cycle in which global time reaches a value. -/
def lbGtCycle (s : State) (c : Fin 4) (g : Nat) : Nat :=
  let l := s.lbc c
  let taps := (l.tK : Int) + -((-((g : Int) - l.gtK) * (16 * 2 ^ 32)) / (2 ^ 32 + s.lbDrift c))
  taps.toNat / 16

/-- The core cycle in which cycle time reaches a value (150 ticks each). -/
def lbCtCycle (s : State) (c : Fin 4) (ct : Nat) : Nat := lbGtCycle s c ((s.lbc c).gtRef + 150 * ct)

/-- Cycle time at an instant in taps. -/
def lbCt (s : State) (c : Fin 4) (t : Nat) : Int := (lbGt s c t - (s.lbc c).gtRef) / 150

def State.lbCycLen (s : State) (c : Fin 4) : Nat := s.f (Fld.LB_CYC_CYC_LEN c)
def State.lbGap (s : State) (c : Fin 4) : Nat := s.f (Fld.LB_CYC_MST_GAP c)

/-! ## Enabling (R439) -/

/-- The window table: START, TX_END and KIND of entry `w`. -/
def lbWin (s : State) (c : Fin 4) (w : Nat) : Nat × Nat × Nat :=
  let w0 := s.memW (lbRam c + 8 * w)
  (wGet w0 0 16, wGet w0 16 16, wGet (s.memW (lbRam c + 8 * w + 4)) 0 3)

/-- The windows before the first OFF entry. -/
def lbWins (s : State) (c : Fin 4) : List (Nat × Nat × Nat) :=
  ((List.range 64).map (lbWin s c)).takeWhile fun w => w.2.2 != 0

/-- The STARTs ascend strictly and lie below CYC_LEN. -/
def lbAscend (len : Nat) : List (Nat × Nat × Nat) → Bool
  | [] => true
  | [w] => w.1 < len
  | w :: v :: l => w.1 < v.1 && lbAscend len (v :: l)

/-- START ≤ TX_END < the next START or CYC_LEN. -/
def lbEnds (len : Nat) : List (Nat × Nat × Nat) → Bool
  | [] => true
  | [w] => w.1 ≤ w.2.1 && w.2.1 < len
  | w :: v :: l => w.1 ≤ w.2.1 && w.2.1 < v.1 && lbEnds len (v :: l)

/-- The first rule of R439 that fails; 0 for none. Rule 4 never fails: a cell's six bits name one of 64 buffers. -/
def lbCheck (s : State) (c : Fin 4) : Nat :=
  let ws := lbWins s c
  if !(s.flag (Fld.LB_CTL_FD c) && (lbWin s c 0).2.2 = 1 && (lbWin s c 0).1 = 0) then 1
  else if !lbAscend (s.lbCycLen c) ws then 2
  else if !lbEnds (s.lbCycLen c) ws then 3
  else if !(s.f (Fld.LB_SYNC_CFG_MX c) ≤ 6 && 400 ≤ s.lbCycLen c) then 5
  else 0

/-- The controller starts (R447, R448). -/
def lbStart (c : Fin 4) (s : State) : State :=
  let s := s.modLb c fun l =>
    { l with last := none, good := 0, bad := 0, heard := false, enCyc := s.time, cycOn := false, nextWin := 0, offer := 0#64,
             excl := false, holdN := 0, refReq := false, agOld := none, disc := false, offCyc := none,
             gtK := (lbGt s c s.now).toNat, tK := s.now }
  if s.lbTt c then lbSet c lbListen (if s.flag (Fld.LB_SYNC_CFG_MST_EN c) then lbBackup else lbSlave) s else lbSet c lbOff lbSlave s

/-- A write to LBn_CTL (R439, R455): EN = 1 is checked in TT mode; in bus-off it starts the recovery (R423). -/
def lbCtlWrite (c : Fin 4) (v : Word) (s : State) : State :=
  let on := s.lbOn c
  let s := writeGuarded (.LB_CTL c) v (if on then 0xFFFFFFFE#32 else 0#32) (lbIgn c) s
  let s := if v.getLsbD 0 && s.f (Fld.LB_ERR_ESTATE c) = 2 then s.modLb c fun l => { l with recov := true } else s
  if !on && s.lbOn c then
    let rule := if s.lbTt c then lbCheck s c else 0
    let s := s.setF (Fld.LB_STATUS_CFG_RULE c) rule
    if rule = 0 then lbStart c s else (s.lower (Fld.LB_CTL_EN c)).raise (Fld.LB_STATUS_CFG_ERR c)
  else if on && !s.lbOn c then
    lbSet c lbOff lbSlave (s.modLb c fun l => { l with offCyc := some s.time, offer := 0#64, refReq := false, cycOn := false })
  else s

/-- CONTROLLER_ENABLE (R439): a write to LBn_CTL. -/
def execControllerEnable (c : Fin 4) (value : Word) (s : State) : Host.Outcome State Fault Refusal := .next (agentTurn (lbCtlWrite c value) s)

/-- A frame whose start lies at an instant concerns the controller: it is on, or the frame was on the bus when it was turned off
(R454); its transceiver has its supply (R510). -/
def lbLive (s : State) (c : Fin 4) (t : Nat) : Bool :=
  (s.lbOn c || ((s.lbc c).offCyc.map fun o => decide (t / 16 ≤ o)).getD false) && !(s.lb.lost && c.val < 2)

/-- The node may send (R423, R425, R447). -/
def lbMaySend (s : State) (c : Fin 4) : Bool :=
  !s.flag (Fld.LB_CTL_MON c) && s.f (Fld.LB_ERR_ESTATE c) != 2 &&
    (!s.lbTt c || (s.lbSync c != lbHoldover && (s.lbSync c = lbLocked || s.lbRole c = lbMaster)))

/-! ## Error counters (R423, R454) -/

/-- Error-active again once neither counter holds the node passive. -/
def lbActive (c : Fin 4) (s : State) : State :=
  if s.f (Fld.LB_ERR_ESTATE c) = 1 && s.f (Fld.LB_ERR_TEC c) ≤ 127 && !s.flag (Fld.LB_ERR_RP c) then s.setF (Fld.LB_ERR_ESTATE c) 0
  else s

/-- Error-passive entered. -/
def lbPassive (c : Fin 4) (s : State) : State :=
  if s.f (Fld.LB_ERR_ESTATE c) = 0 then
    recordFault 0x8108 ((s.setF (Fld.LB_ERR_ESTATE c) 1).raise (Fld.LB_STATUS_ERR_PASSIVE c))
  else s

/-- A frame sent: the transmit error counter falls. -/
def lbTxOk (c : Fin 4) (s : State) : State := lbActive c (s.setF (Fld.LB_ERR_TEC c) (s.f (Fld.LB_ERR_TEC c) - 1))

/-- A transmit error: the counter rises by 8, to error-passive above 127 and bus-off above 255. -/
def lbTxErr (c : Fin 4) (last : Nat) (ackPassive : Bool) (s : State) : State :=
  let s := s.setF (Fld.LB_ERR_LAST c) last
  if ackPassive then s
  else
    let tec := s.f (Fld.LB_ERR_TEC c) + 8
    if 255 < tec then
      let s := (s.setF (Fld.LB_ERR_TEC c) 255).setF (Fld.LB_ERR_ESTATE c) 2
      recordFault 0x8109 ((s.raise (Fld.LB_STATUS_BUS_OFF c)).modLb c fun l => { l with recov := false })
    else
      let s := s.setF (Fld.LB_ERR_TEC c) tec
      if 127 < tec then lbPassive c s else s

/-- A frame received: the receive error counter falls, from above 127 to a value of 119 to 127 that is left open (log entry 32). -/
def lbRxOk (c : Fin 4) (s : State) : State :=
  if s.flag (Fld.LB_ERR_RP c) then
    let (w, s) := s.takeWord
    lbActive c ((s.lower (Fld.LB_ERR_RP c)).setF (Fld.LB_ERR_REC c) (119 + w.toNat % 9))
  else s.setF (Fld.LB_ERR_REC c) (s.f (Fld.LB_ERR_REC c) - 1)

/-- LAST's code of a receive error. -/
def lbRxCode : LbRxErr → Nat
  | .stuff => 1
  | .form => 2
  | .bit1 => 4
  | .bit0 => 5
  | .crc => 6

/-- RECEIVE_ERROR (R423): an error in a received frame, after which the counter rises by 1 or, where the bus stays dominant after the
error flag, by 8. -/
def execReceiveError (c : Fin 4) (e : LbRxErr) (eight : Bool) (s : State) : Host.Outcome State Fault Refusal :=
  .next (
    if lbLive s c s.now && s.f (Fld.LB_ERR_ESTATE c) != 2 then
      let s := s.setF (Fld.LB_ERR_LAST c) (lbRxCode e)
      if s.flag (Fld.LB_ERR_RP c) then s
      else
        let n := s.f (Fld.LB_ERR_REC c) + (if eight then 8 else 1)
        if 127 < n then lbPassive c ((s.setF (Fld.LB_ERR_REC c) 127).setF (Fld.LB_ERR_RP c) 1) else s.setF (Fld.LB_ERR_REC c) n
    else s)

/-- BUS_OFF_RECOVERY (R423): 128 occurrences of 11 recessive bits have passed. -/
def execBusOffRecovery (c : Fin 4) (s : State) : Host.Outcome State Fault Refusal :=
  .next (
    if s.f (Fld.LB_ERR_ESTATE c) = 2 && ((s.lbc c).recov || s.flag (Fld.LB_CTL_AUTO_REC c)) then
      let s := ((s.setF (Fld.LB_ERR_TEC c) 0).setF (Fld.LB_ERR_REC c) 0).setF (Fld.LB_ERR_RP c) 0
      (s.setF (Fld.LB_ERR_ESTATE c) 0).modLb c fun l => { l with recov := false }
    else s)

/-! ## Reception (R430 to R432) -/

/-- A frame matches filter `k`. -/
def lbMatch (s : State) (c : Fin 4) (f : LbFrame) (k : Nat) : Bool :=
  let w0 := s.memW (lbRam c + 0x2200 + 8 * k)
  let mask : BitVec 29 := (s.memW (lbRam c + 0x2200 + 8 * k + 4)).extractLsb' 0 29
  w0.getLsbD 31 && w0.getLsbD 29 = f.xtd && (w0.extractLsb' 0 29 ^^^ f.id) &&& mask = 0#29

/-- The frame is a reference message (R441): the identifier range of REF_ID with its format. -/
def lbIsRef (s : State) (c : Fin 4) (f : LbFrame) : Bool :=
  !f.xtd && f.fdf && !f.remote && f.brs = s.flag (Fld.LB_CTL_BRS c) && f.dlc = 10#4 && f.data.length = 16 &&
    (f.id.extractLsb' 21 8).toNat = s.f (Fld.LB_SYNC_CFG_REF_ID c)

/-- A little-endian number in a frame's data. -/
def lbField (f : LbFrame) (at_ n : Nat) : Nat := ((f.data.drop at_).take n).foldr (fun b a => b.toNat + 256 * a) 0

/-- An entry written (R430). -/
def lbEntry (a k : Nat) (c : Fin 4) (f : LbFrame) (t : Nat) (s : State) : State :=
  let w0 := f.id.toNat + 2 ^ 29 * bit f.xtd + 2 ^ 30 * bit f.fdf + 2 ^ 31 * bit f.brs
  let w1 := f.dlc.toNat + 2 ^ 4 * bit f.esi + 2 ^ 5 * bit (s.lbTt c && lbIsRef s c f)
  let w3 := k + 2 ^ 8 * (((s.lbc c).nextWin - 1) % 64) + 2 ^ 16 * s.f (Fld.LB_SYNC_STAT_CYCLE c) + 2 ^ 24 * bit (s.lbSync c = lbLocked)
  let s := ((s.setMemW a (BitVec.ofNat 32 w0)).setMemW (a + 4) (BitVec.ofNat 32 w1)).setMemW (a + 8) (stampWord t)
  let s := s.setMemW (a + 12) (BitVec.ofNat 32 w3)
  { s with mem := putBytes (a + 16) (f.data.take (lbBytes f.fdf f.dlc.toNat)) s.mem }

/-- A frame goes through the filters (R431, R432). -/
def lbStore (c : Fin 4) (f : LbFrame) (t : Nat) (s : State) : State :=
  match (List.range 64).find? (lbMatch s c f) with
  | none => s
  | some k =>
    if (s.memW (lbRam c + 0x2200 + 8 * k)).getLsbD 30 then (lbEntry (lbRxBuf c k) k c f t s).raise (Fld.LB_STATUS_RXB c)
    else
      let len := max 1 (s.f (Fld.LB_FIFO_FIFO_LEN c))
      let w := s.f (Fld.LB_FIFO_IDX_WIDX c)
      let n := (w + 1) % len
      if n = s.f (Fld.LB_FIFO_IDX_RIDX c) then recordFault 0x8103 (s.raise (Fld.LB_STATUS_RXF_OVF c))
      else (lbEntry (lbFifoAt c w) k c f t s).setF (Fld.LB_FIFO_IDX_WIDX c) n

/-! ## References (R441 to R447) -/

/-- GT_ERR judged (R447): the new state of synchronisation. -/
def lbJudge (c : Fin 4) (err : Int) (s : State) : State :=
  let s := s.wr (.LB_GT_ERR c) (wordOfInt (max (-(2 ^ 31)) (min err (2 ^ 31 - 1))))
  if err.natAbs ≤ s.f (Fld.LB_TOL_SYNC_TOL c) then
    let s := s.modLb c fun l => { l with good := l.good + 1, bad := 0 }
    if 2 ≤ (s.lbc c).good then lbSet c lbLocked (s.lbRole c) s else s
  else
    let s := recordFault 0x800A ((s.raise (Fld.LB_STATUS_GT_ERR c)).modLb c fun l => { l with good := 0, bad := l.bad + 1 })
    if 2 ≤ (s.lbc c).bad && s.lbSync c = lbLocked then lbSet c lbListen (s.lbRole c) s else s

/-- DRIFT from two references of one PRIO (R446 step 2). -/
def lbRate (c : Fin 4) (prio gt t : Nat) (s : State) : State :=
  match (s.lbc c).last with
  | some (p, g0, t0) =>
    if p != prio || t ≤ t0 then s
    else
      let dt : Int := (t : Int) - t0
      let d := roundDiv ((((gt : Int) - g0) * 16 - dt) * 2 ^ 32) dt
      if d.natAbs * 1000 ≤ s.f (Fld.LB_TOL_DRIFT_LIM c) * 4294967 then s.wr (.LB_DRIFT c) (wordOfInt d)
      else recordFault 0x800C (s.raise (Fld.LB_STATUS_RATE_ERR c))
  | none => s

/-- A reference accepted (R444, R446): its cycle starts, and its position goes to the generators. -/
def lbAccept (c : Fin 4) (prio node cycle gt : Nat) (pos : Word) (t : Nat) (own : Bool) (s : State) : State :=
  let err := lbGt s c t - gt
  let s := if own then s else lbRate c prio gt t s
  let s := s.modLb c fun l =>
    { l with last := some (prio, gt, t), gtK := if own then l.gtK else gt, tK := if own then l.tK else t, gtRef := gt,
             cycOn := true, nextWin := 0, offer := 0#64, heard := true, holdN := 0, refReq := false }
  let s := s.wr (.LB_REF_T c) (stampWord t)
  let s := ((s.setF (Fld.LB_SYNC_STAT_CYCLE c) cycle).setF (Fld.LB_SYNC_STAT_CUR_PRIO c) prio).setF (Fld.LB_SYNC_STAT_MNODE c) node
  postGen 5 c.val (.sampled pos t) ((lbJudge c err s).modLb c fun x => { x with pos := pos })

/-- A reference message of another node (R442, R444, R445, R448). A master takes none of lower priority than its own. -/
def lbForeign (c : Fin 4) (f : LbFrame) (t : Nat) (s : State) : State :=
  let w := lbField f 0 4
  let prio : Fin 8 := ⟨(f.id.extractLsb' 18 3).toNat % 8, Nat.mod_lt _ (by decide)⟩
  if w / 4096 % 16 != 1 || (s.lbRole c = lbMaster && s.lbPrio c ≤ prio.val) then s
  else
    let at_ := t - s.f (Fld.LB_RXDLY_RX_DLY c) - s.f (Fld.LB_PROP_PROP c prio)
    let s := if s.lbRole c = lbMaster then lbSet c (s.lbSync c) lbBackup s else s
    let s := if w / 128 % 2 = 1 then recordFault 0x810B (s.raise (Fld.LB_STATUS_DISC c)) else s
    lbAccept c prio.val (w / 65536 % 64) (w % 64) (lbField f 4 8) (BitVec.ofNat 32 (lbField f 12 4)) at_ false s

/-- The generator whose position an own reference carries (R443, R445, R456): the one named when the reference was filled. -/
def lbMstAg (s : State) (c : Fin 4) (t : Nat) : Fin 8 × Bool :=
  match (s.lbc c).agOld with
  | some (old, cyc) => if t / 16 < cyc then (old, true) else (⟨s.f (Fld.LB_SYNC_CFG_MST_AG c) % 8, Nat.mod_lt _ (by decide)⟩, false)
  | none => (⟨s.f (Fld.LB_SYNC_CFG_MST_AG c) % 8, Nat.mod_lt _ (by decide)⟩, false)

/-- POS at an instant (R443): the geared mechanical output of the core cycle, plus speed times the tap fraction. -/
def lbPos (s : State) (n : Fin 8) (t : Nat) : Word :=
  let (a, b) := genSpeed s n (t / 16)
  let num := a * (s.gen n).num * (t % 16 : Nat)
  wordOfInt (genOut s n false (t / 16) + roundDiv num ((b * s.f (Fld.MAN_AG_GEAR_DEN_DEN n) : Nat) : Int))

/-- The frame of an own reference (R441). -/
def lbOwnFrame (s : State) (c : Fin 4) (cycle : Nat) (disc : Bool) (gt : Nat) (pos : Word) : LbFrame :=
  let head := cycle + 2 ^ 7 * bit disc + 2 ^ 8 * s.lbPrio c + 2 ^ 12 + 2 ^ 16 * s.f (Fld.LB_SYNC_CFG_NODE c)
  { id := BitVec.ofNat 29 ((s.f (Fld.LB_SYNC_CFG_REF_ID c) * 8 + s.lbPrio c) * 2 ^ 18), xtd := false, fdf := true,
    brs := s.flag (Fld.LB_CTL_BRS c), esi := s.f (Fld.LB_ERR_ESTATE c) = 1, remote := false, dlc := 10#4,
    data := leBytes head 4 ++ leBytes gt 8 ++ leBytes pos.toNat 4 }

/-- An own reference becomes valid (R443 to R445, R448): the node is, or becomes, the master. -/
def lbOwn (c : Fin 4) (stamp : Nat) (s : State) : State :=
  let t := stamp - s.f (Fld.LB_RXDLY_RX_DLY c)
  let first := s.lbRole c != lbMaster
  let (n, later) := lbMstAg s c t
  let follows := s.gSrc n = 5 && s.f (Fld.MAN_AG_CTL_SRC_CH n) = c.val
  let disc := (s.lbc c).disc && !later || (first && !follows)
  let gt := (lbGt s c t).toNat
  let cycle := if (s.lbc c).heard then (s.f (Fld.LB_SYNC_STAT_CYCLE c) + 1) % 64 else 0
  let pos := lbPos s n t
  let f := lbOwnFrame s c cycle disc gt pos
  let s := s.modLb c fun l => { l with disc := later, agOld := if later then l.agOld else none }
  let s := if first then recordFault 0x8107 ((lbSet c (s.lbSync c) lbMaster s).raise (Fld.LB_STATUS_TAKEOVER c)) else s
  let s := lbTxOk c (lbAccept c (s.lbPrio c) (s.f (Fld.LB_SYNC_CFG_NODE c)) cycle gt pos t true s)
  if s.f (Fld.LB_CTL_LOOP c) = 0 then s else lbStore c f stamp s

/-- A frame received (R423, R431): remote frames and, with FD = 0, FD frames are not stored. -/
def lbReceive (c : Fin 4) (f : LbFrame) (t : Nat) (s : State) : State :=
  let s := lbRxOk c s
  if f.remote || (f.fdf && !s.flag (Fld.LB_CTL_FD c)) then s
  else
    let s := lbStore c f t s
    if s.lbTt c && s.lbOn c && lbIsRef s c f then lbForeign c f t s else s

/-- FRAME_RECEIVED (R431): a frame whose start is stamped `t` is valid at core cycle `cyc`. -/
def execFrameReceived (c : Fin 4) (f : LbFrame) (t cyc : Nat) (s : State) : Host.Outcome State Fault Refusal :=
  .next (if lbLive s c t && s.f (Fld.LB_ERR_ESTATE c) != 2 then lbReceive c f t (s.advance cyc) else s)

/-- REFERENCE_MESSAGE (R444): a reference of another node, or the one this node has requested, becomes valid. -/
def execReferenceMessage (c : Fin 4) (f : Option LbFrame) (t cyc : Nat) (s : State) : Host.Outcome State Fault Refusal :=
  .next (
    if lbLive s c t && s.f (Fld.LB_ERR_ESTATE c) != 2 && s.lbTt c then
      match f with
      | some f => if lbIsRef s c f then lbReceive c f t (s.advance cyc) else s
      | none => if (s.lbc c).refReq && !s.flag (Fld.LB_CTL_MON c) then lbOwn c t (s.advance cyc) else s
    else s)

/-! ## Transmission (R427, R436, R440, R448, R450) -/

/-- A buffer is on offer to the bus. -/
def lbOffered (s : State) (c : Fin 4) (b : Fin 64) : Bool :=
  match s.f (Fld.LB_CTL_MODE c) with
  | 0 => (s.lbc c).offer.getLsbD b.val
  | 1 => s.lbPend c b && s.lbArb c b
  | _ => (s.lbc c).queue.head? = some b

/-- FRAME_TRANSMITTED (R427): the frame of a buffer has been sent. -/
def execFrameTransmitted (c : Fin 4) (b : Fin 64) (t cyc : Nat) (s : State) : Host.Outcome State Fault Refusal :=
  .next (
    if lbLive s c t && lbMaySend s c && lbOffered s c b then
      let s := lbTxOk c (s.advance cyc)
      let f := lbFrameOf s c b
      let s := lbUnrequest c b s
      let s := s.modLb c fun l => { l with offer := l.offer &&& ~~~(1#64 <<< b.val), marked := l.marked &&& ~~~(1#64 <<< b.val) }
      let s := s.raiseBit (lbDoneReg c b) (b.val % 32)
      if s.f (Fld.LB_CTL_LOOP c) = 0 then s else lbStore c f t s
    else s)

/-- LBn_TXFAIL's code of a failure (R427). -/
def lbCause : LbFail → Nat
  | .arbLost _ => 1
  | .bitErr _ _ => 2
  | .formErr => 3
  | .ackErr => 4
  | .stuffErr => 5
  | .winEnd => 6
  | .busOff => 7

/-- A failure's effect on the transmit error counter. -/
def lbFailCount (c : Fin 4) (e : LbFail) (s : State) : State :=
  match e with
  | .bitErr r _ => lbTxErr c (if r then 4 else 5) false s
  | .formErr => lbTxErr c 2 false s
  | .ackErr => lbTxErr c 3 (s.f (Fld.LB_ERR_ESTATE c) = 1) s
  | .stuffErr => lbTxErr c 1 false s
  | _ => s

/-- A failure stored (R427). -/
def lbFailed (c : Fin 4) (buf : Nat) (e : LbFail) (s : State) : State :=
  let s := (s.setF (Fld.LB_TXFAIL_BUF c) buf).setF (Fld.LB_TXFAIL_CAUSE c) (lbCause e)
  let s := (s.setF (Fld.LB_TXFAIL_WIN c) (((s.lbc c).nextWin - 1) % 64)).setF (Fld.LB_TXFAIL_CYCLE c) (s.f (Fld.LB_SYNC_STAT_CYCLE c))
  recordFault 0x8001 (s.raise (Fld.LB_STATUS_TXFAIL c))

/-- A schedule violation (R440). -/
def lbViol (c : Fin 4) (s : State) : State :=
  let s := s.setF (Fld.LB_CNT_VIOL c) (sat 65535 (s.f (Fld.LB_CNT_VIOL c) + 1))
  recordFault 0x8104 (s.raise (Fld.LB_STATUS_SCHED_VIOL c))

/-- An identifier collision (R450). -/
def lbCollision (c : Fin 4) (id : BitVec 29) (xtd : Bool) (s : State) : State :=
  let s := s.wr (.LB_IDCOL c) (BitVec.ofNat 32 (id.toNat + 2 ^ 29 * bit xtd))
  let s := s.setF (Fld.LB_CNT_IDCOL c) (sat 65535 (s.f (Fld.LB_CNT_IDCOL c) + 1))
  recordFault 0x8102 (s.raise (Fld.LB_STATUS_IDCOL c))

/-- The failure is an identifier collision. -/
def lbIsCollision : LbFail → Bool
  | .bitErr true true => true
  | _ => false

/-- The failure of a buffer's frame. -/
def lbFailBuffer (c : Fin 4) (b : Fin 64) (e : LbFail) (s : State) : State :=
  let tt := s.lbTt c
  let excl := tt && (s.lbc c).excl
  let s := lbFailCount c e s
  let s := if lbIsCollision e then lbCollision c ((s.lbW0 c b).extractLsb' 0 29) ((s.lbW0 c b).getLsbD 29) s else s
  let once := s.lbOneShot c b || excl
  let s := if once then lbFailed c b.val e s else s
  let over_ := (once && !excl) || s.f (Fld.LB_ERR_ESTATE c) = 2
  let s := if over_ then lbUnrequest c b s else s
  let s := if once || lbCause e = 6 || s.f (Fld.LB_ERR_ESTATE c) = 2 then
      s.modLb c fun l => { l with offer := l.offer &&& ~~~(1#64 <<< b.val) }
    else s
  if excl || (tt && lbIsCollision e) then lbViol c s else s

/-- The failure of an own reference (R427, R448). -/
def lbFailRef (c : Fin 4) (e : LbFail) (s : State) : State :=
  let s := lbFailed c 63 e (lbFailCount c e s)
  let id : BitVec 29 := BitVec.ofNat 29 ((s.f (Fld.LB_SYNC_CFG_REF_ID c) * 8 + s.lbPrio c) * 2 ^ 18)
  let s := if lbIsCollision e then lbCollision c id false s else s
  let end_ := match e with
    | .arbLost toRef => toRef
    | _ => s.lbRole c != lbMaster || ((s.lbCycLen c + s.lbGap c : Nat) : Int) ≤ lbCt s c s.now
  if end_ then lbSet c (s.lbSync c) lbBackup (s.modLb c fun l => { l with refReq := false }) else s

/-- TRANSMISSION_FAILED (R427, R440, R448, R450): an attempt to send a buffer, or the requested reference, fails at a core cycle. -/
def execTransmissionFailed (c : Fin 4) (b : Option (Fin 64)) (e : LbFail) (cyc : Nat) (s : State) :
    Host.Outcome State Fault Refusal :=
  .next (
    match b with
    | some b => if s.lbOn c && lbOffered s c b then lbFailBuffer c b e (s.advance cyc) else s
    | none => if s.lbOn c && (s.lbc c).refReq then lbFailRef c e (s.advance cyc) else s)

/-! ## The schedule (R433 to R438, R447, R448) -/

/-- The cell of the schedule matrix for a window of the present cycle (R435). -/
def lbCellWord (s : State) (c : Fin 4) (w : Nat) : Nat :=
  let cyc := s.f (Fld.LB_SYNC_STAT_CYCLE c) % 2 ^ s.f (Fld.LB_SYNC_CFG_MX c)
  let a := lbRam c + 0x200 + (cyc * 64 + w) * 2
  (memGet s.mem a).toNat + 256 * (memGet s.mem (a + 1)).toNat

/-- The buffers that a window offers (R436): pending as before the requests of this peripheral cycle (R456). -/
def lbOffers (s : State) (c : Fin 4) (kind buf : Nat) : List (Fin 64) :=
  let fresh := if (s.lbc c).newCyc = s.perCycle then (s.lbc c).newReq else 0#64
  if kind = 2 then
    let b : Fin 64 := ⟨buf % 64, Nat.mod_lt _ (by decide)⟩
    if !s.lbMarkEn c b || ((s.lbc c).marked &&& ~~~fresh).getLsbD b.val then [b] else []
  else if kind = 3 then
    (List.finRange 64).filter fun b => s.lbPend c b && s.lbArb c b && !fresh.getLsbD b.val
  else []

/-- SCHEDULE_WINDOW_START (R433, R436 to R438): the next window of the cycle starts, while the bus is busy with a frame or not. -/
def execScheduleWindowStart (c : Fin 4) (busy : Bool) (s : State) : Host.Outcome State Fault Refusal :=
  .next (
    let w := (s.lbc c).nextWin
    let (start, _, kind) := lbWin s c w
    if s.lbOn c && s.lbTt c && (s.lbc c).cycOn && s.lbSync c != lbListen && w < 64 && kind != 0 then
      let s := (s.advance (lbCtCycle s c start)).modLb c fun l => { l with nextWin := w + 1, offer := 0#64, excl := decide (kind = 2) }
      let cell := lbCellWord s c w
      let s := if cell / 2 ^ 14 % 2 = 1 then postDma (52 + c.val) none (postRel 5 c.val s.time s) else s
      if cell / 2 ^ 15 % 2 = 1 && lbMaySend s c && kind != 1 && kind != 4 then
        let bs := lbOffers s c kind (cell % 64)
        let s := bs.foldl (fun s b => lbLatch c b s) s
        let s := s.modLb c fun l => { l with offer := bs.foldl (fun m b => m ||| (1#64 <<< b.val)) 0#64 }
        if busy then lbViol c s else s
      else s
    else s)

/-- The next predicted cycle of a node in HOLDOVER (R447). -/
def lbPredict (c : Fin 4) (s : State) : State :=
  (s.setF (Fld.LB_SYNC_STAT_CYCLE c) ((s.f (Fld.LB_SYNC_STAT_CYCLE c) + 1) % 64)).modLb c fun l =>
    { l with gtRef := l.gtRef + 150 * s.lbCycLen c, nextWin := 0, offer := 0#64 }

/-- CYCLE_END (R447, R448): cycle time reaches CYC_LEN: a master requests its reference, and a node in HOLDOVER goes on to the
next predicted cycle. -/
def execCycleEnd (c : Fin 4) (s : State) : Host.Outcome State Fault Refusal :=
  .next (
    if s.lbOn c && s.lbTt c && (s.lbc c).cycOn then
      if s.lbRole c = lbMaster then
        (s.advance (lbCtCycle s c (s.lbCycLen c))).modLb c fun l => { l with refReq := true, offer := 0#64 }
      else if s.lbSync c = lbHoldover then
        lbPredict c ((s.advance (lbCtCycle s c (s.lbCycLen c))).modLb c fun l => { l with holdN := l.holdN + 1 })
      else s
    else s)

/-- BACKUP_SLOT (R448): a backup's slot passes without a reference start, and it sends its own reference. -/
def execBackupSlot (c : Fin 4) (s : State) : Host.Outcome State Fault Refusal :=
  .next (
    if s.lbOn c && s.lbTt c && s.lbRole c = lbBackup && !s.flag (Fld.LB_CTL_MON c) && s.lbSync c != lbHoldover &&
        !(s.lbc c).refReq then
      let slot := (s.lbPrio c + 1) * s.lbGap c
      let at_ := if (s.lbc c).heard then lbCtCycle s c (s.lbCycLen c + slot)
        else lbGtCycle s c ((lbGt s c ((s.lbc c).enCyc * 16)).toNat + 150 * (1 + slot))
      (s.advance at_).modLb c fun l => { l with refReq := true }
    else s)

/-- The windows of the present cycle that start before the present core cycle are passed over. -/
def lbSkip (c : Fin 4) (s : State) : State :=
  let n := ((lbWins s c).takeWhile fun w => lbCtCycle s c w.1 < s.time).length
  s.modLb c fun l => { l with nextWin := n }

/-- REFERENCE_MISSING (R447): no reference start by the HOLDOVER point. The predicted cycle has begun at CYC_LEN. -/
def execReferenceMissing (c : Fin 4) (s : State) : Host.Outcome State Fault Refusal :=
  .next (
    if s.lbOn c && s.lbTt c && s.lbSync c = lbLocked then
      let s := s.advance (lbCtCycle s c (s.lbCycLen c + 9 * s.lbGap c))
      let s := (lbSet c lbHoldover (s.lbRole c) s).modLb c fun l => { l with holdN := 0, good := 0, bad := 0 }
      lbSkip c (lbPredict c (recordFault 0x8105 (s.raise (Fld.LB_STATUS_REF_MISS c))))
    else s)

/-- HOLDOVER_LIMIT (R447): REF_LIM cycles in a row in HOLDOVER. -/
def execHoldoverLimit (c : Fin 4) (s : State) : Host.Outcome State Fault Refusal :=
  .next (
    if s.lbOn c && s.lbSync c = lbHoldover && s.f (Fld.LB_CYC_REF_LIM c) ≤ (s.lbc c).holdN then
      recordFault 0x8106 ((lbSet c lbListen (s.lbRole c) s).modLb c fun l => { l with good := 0, bad := 0, cycOn := false })
    else s)

/-! ## Register and message RAM writes (R454, R455) -/

/-- A write to LBn_SYNC_CFG: MST_AG stays writable, and a change of it while master makes DISC due (R445, R455, R456). -/
def lbSyncCfgWrite (c : Fin 4) (v : Word) (s : State) : State :=
  let old : Fin 8 := ⟨s.f (Fld.LB_SYNC_CFG_MST_AG c) % 8, Nat.mod_lt _ (by decide)⟩
  let s := writeGuarded (.LB_SYNC_CFG c) v (if s.lbOn c then 0xFFF8FFFF#32 else 0#32) (lbIgn c) s
  if s.lbOn c && s.lbRole c = lbMaster then s.modLb c fun l => { l with disc := true, agOld := some (old, s.time) } else s

/-- The controller whose EN guards a register (R455). -/
def lbGuard : Reg → Option (Fin 4)
  | .LB_NBT c => some c
  | .LB_DBT c => some c
  | .LB_CYC c => some c
  | .LB_TOL c => some c
  | .LB_RXDLY c => some c
  | .LB_PROP c _ => some c
  | .LB_FIFO c => some c
  | _ => none

/-- A write to a register of the LB block. -/
def lbRegWrite (r : Reg) (v : Word) (s : State) : State :=
  match r with
  | .LB_CTL c => lbCtlWrite c v s
  | .LB_SYNC_CFG c => lbSyncCfgWrite c v s
  | .LB_TXREQ c h => lbTxReqWrite c h v s
  | r =>
    match lbGuard r with
    | some c => if s.lbOn c then writeGuarded r v (BitVec.allOnes 32) (lbIgn c) s else writePlain r v s
    | none => writePlain r v s

/-- An aligned word written to message RAM: window table, matrix and filters only while EN = 0 (R455). -/
def lbRamWrite (a : Nat) (v : Word) (s : State) : State :=
  let c : Fin 4 := ⟨(a - 0x50000000) / 0x10000 % 4, Nat.mod_lt _ (by decide)⟩
  if s.lbOn c && a % 0x10000 < 0x2400 then (if s.memW a = v then s else lbIgn c s) else s.setMemW a v

/-- RXF_WM (R432). -/
def lbWatermark (s : State) (c : Fin 4) : Bool :=
  let len := max 1 (s.f (Fld.LB_FIFO_FIFO_LEN c))
  s.f (Fld.LB_FIFO_WM c) ≤ (s.f (Fld.LB_FIFO_IDX_WIDX c) + len - s.f (Fld.LB_FIFO_IDX_RIDX c)) % len

/-- A read of LBn_GT_LO captures LBn_GT_HI (R454). -/
def lbGtRead (c : Fin 4) (s : State) : Word × State :=
  let g := (lbGt s c s.now).toNat
  (BitVec.ofNat 32 g, s.wr (.LB_GT_HI c) (BitVec.ofNat 32 (g / 2 ^ 32)))

/-- VBUS_LB_LOSS (R510): the integrated transceivers hold and report a recessive bus. -/
def execVbusLbLoss (s : State) : Host.Outcome State Fault Refusal := .next { s with lb := { s.lb with lost := true } }

/-- VBUS_LB_RETURN (R510). -/
def execVbusLbReturn (s : State) : Host.Outcome State Fault Refusal := .next { s with lb := { s.lb with lost := false } }

end Sys2Proof.Machine
end

