-- ==== Sys2Proof/Machine/Marks.lean ====
section
/-! DEFINITION. The angle marks (R67 to R72): crossings, arming, and what a firing does in the blocks that select the mark. -/

namespace Sys2Proof.Machine

open Sys2Proof

/-- The generator that a mark follows, and whether it follows the electrical angle. -/
def markAg (s : State) (m : Fin 64) : Fin 8 := ⟨s.f (Fld.MAN_AM_CTL_AG m) % 8, Nat.mod_lt _ (by decide)⟩
def markElec (s : State) (m : Fin 64) : Bool := s.flag (Fld.MAN_AM_CTL_DOMAIN m)

/-- The angle that a mark follows, in a core cycle, unwrapped. -/
def markOut (s : State) (m : Fin 64) (cyc : Nat) : Int := genOut s (markAg s m) (markElec s m) cyc

/-- The change of angle in a core cycle is a jump or an offset step (R60, R64). -/
def markJump (s : State) (m : Fin 64) (cyc : Nat) : Bool :=
  let g := s.gen (markAg s m)
  g.chg = cyc && (if markElec s m then g.jumpE else g.jumpM)

/-- The crossing of a mark in a core cycle (R67): 1 forward, −1 reverse, 0 none. -/
def markCross (s : State) (m : Fin 64) (cyc : Nat) : Int :=
  crossed (markOut s m (cyc - 1)) (markOut s m cyc) (s.f (Fld.MAN_AM_ANGLE_ANGLE m))

/-- The crossing time (R71). -/
def markTime (s : State) (m : Fin 64) (cyc : Nat) : Nat :=
  if markJump s m cyc then cyc * 16
  else
    let p := markOut s m (cyc - 1)
    let d := sAng (markOut s m cyc - p)
    let a : Int := s.f (Fld.MAN_AM_ANGLE_ANGLE m)
    let part := if 0 < d then (a - p) % 2 ^ 32 else (p - a) % 2 ^ 32
    ((cyc - 1) * 16 + roundDiv (part * 16) (d.natAbs : Int)).toNat

/-- The consumers of a mark event, one core cycle after the cycle of the crossing angle (R72). -/
def markDeliver (m : Fin 64) (cyc tc : Nat) (s : State) : State :=
  let s := markTransfer m.val (cyc + 1) tc (s.advance (cyc + 1))
  let s := s.modPost fun p => { p with win := p.win ++ pick 32 tc (winSel s 1 m.val) }
  let s := postConv 1 m.val (tc / 16) (cyc + 1) (postCap 3 m.val tc (cyc + 1) (postRel 1 m.val cyc s))
  lbMark m.val (hlmTrigger 1 m.val s)

/-- A mark fires (R70, R71). -/
def markFire (m : Fin 64) (cyc : Nat) (s : State) : State :=
  let tc := markTime s m cyc
  let half : Fin 2 := ⟨m.val / 32, by omega⟩
  let jump := markJump s m cyc
  let s := s.raiseBit (.MAN_AM_FIRED half) (m.val % 32)
  let s := if jump then s.raiseBit (.MAN_AM_JUMPED half) (m.val % 32) else s
  markDeliver m cyc tc (s.wr (.MAN_AM_TS m) (stampWord tc))

/-- The mark as the crossing of core cycle `cyc` finds it (R67, R68, R70, R71): armed for its direction, it fires, or a jump disarms it.
The cycle is the present one, or the one before, whose events reach their consumers now. -/
def markJudge (m : Fin 64) (cyc : Nat) (s : State) : State :=
  let x := markCross s m cyc
  let b := if x = 1 then 1 else 2
  let arm := s.f (Fld.MAN_AM_CTL_ARM m)
  if s.flag (Fld.MAN_AM_CTL_EN m) && s.time ≤ cyc + 1 && (s.gen (markAg s m)).chg ≤ cyc && x != 0 && arm / b % 2 = 1 then
    let drop := markJump s m cyc && s.flag (Fld.MAN_AM_CTL_JUMP_SUPP m)
    let t := (s.advance cyc).setF (Fld.MAN_AM_CTL_ARM m) (arm - b)
    if drop then t else markFire m cyc t
  else s

/-- MARK_CROSSING (R67, R68, R70, R71): the angle of core cycle `cyc`, with the generator's events up to it, crosses the mark. -/
def execMarkCrossing (m : Fin 64) (cyc : Nat) (s : State) : Host.Outcome State Fault Refusal :=
  .next (markJudge m cyc (genSettle (markAg s m) cyc s))

/-- MARK_ARMING (R68): a disarmed direction of the mark meets its condition in core cycle `cyc`. -/
def execMarkArming (m : Fin 64) (cyc : Nat) (s : State) : Host.Outcome State Fault Refusal :=
  .next (
    let n := markAg s m
    let s := genSettle n cyc s
    if s.flag (Fld.MAN_AM_CTL_EN m) && s.genOn n && s.time ≤ cyc + 1 && (s.gen n).chg ≤ cyc then
      let d := sAng (markOut s m cyc - s.f (Fld.MAN_AM_ANGLE_ANGLE m))
      let h : Int := s.f (Fld.MAN_AM_HYST_HYST m)
      let dir := s.f (Fld.MAN_AM_CTL_DIR m)
      let arm := s.f (Fld.MAN_AM_CTL_ARM m)
      let fwd : Bool := dir != 1 && decide (d < -h)
      let rev : Bool := dir != 0 && decide (h ≤ d)
      (s.advance cyc).setF (Fld.MAN_AM_CTL_ARM m) (bit (fwd || arm % 2 = 1) + 2 * bit (rev || arm / 2 % 2 = 1))
    else s)

/-- A crossing in the core cycle of a write comes before it (R78). -/
def markFirst (m : Fin 64) (s : State) : State := markJudge m s.time (genSettle (markAg s m) s.time s)

/-- A write to MAN_AMm_CTL (R69, R78): the mark is disarmed by its enabling and by a change of AG, DOMAIN or DIR. -/
def markCtlWrite (m : Fin 64) (v : Word) (s : State) : State :=
  let s := markFirst m s
  let old := s.rd (.MAN_AM_CTL m)
  let new := writeMerged s (.MAN_AM_CTL m) v
  let t := s.wr (.MAN_AM_CTL m) new
  if wGet new 0 1 = 0 || wGet old 0 1 = 0 || wGet new 1 6 != wGet old 1 6 then t.setF (Fld.MAN_AM_CTL_ARM m) 0 else t

/-- MARK_CTL_WRITE (R69). -/
def execMarkCtlWrite (m : Fin 64) (value : Word) (s : State) : Host.Outcome State Fault Refusal := .next (agentTurn (markCtlWrite m value) s)

/-- A write to MAN_AMm_ANGLE (R69, R78): a change on an enabled mark disarms it. -/
def markAngleWrite (m : Fin 64) (v : Word) (s : State) : State :=
  let s := markFirst m s
  let t := s.wr (.MAN_AM_ANGLE m) v
  if s.flag (Fld.MAN_AM_CTL_EN m) && s.rd (.MAN_AM_ANGLE m) != v then t.setF (Fld.MAN_AM_CTL_ARM m) 0 else t

/-- MARK_ANGLE_WRITE (R69). -/
def execMarkAngleWrite (m : Fin 64) (value : Word) (s : State) : Host.Outcome State Fault Refusal :=
  .next (agentTurn (markAngleWrite m value) s)

end Sys2Proof.Machine
end

