-- ==== Sys2Proof/Machine/Sys.lean ====
section
/-! DEFINITION. The SYS block (01): device-state requests, axis writes, general-purpose pins, the clock monitors and the reads that
capture. -/

namespace Sys2Proof.Machine

open Sys2Proof

/-! ## Refusals (R23, R28, R31) -/

/-- A device-state request refused. -/
def requestRefused (target : Nat) (s : State) : State :=
  let s := (s.raise Fld.SYS_STATUS_REQ_REFUSED).setF Fld.SYS_REFUSE_TARGET target
  (s.setF Fld.SYS_REFUSE_DEV_AT s.dev).setF Fld.SYS_REFUSE_AXIS_WR 0

/-- A write or request without a target refused. -/
def refused (s : State) : State := s.raise Fld.SYS_STATUS_REQ_REFUSED

/-- Every axis is OFF. -/
def State.axesOff (s : State) : Bool := (List.finRange 4).all fun n => s.axis n = axOff

/-- The configuration's lockstep flag of R23. -/
def State.broken (s : State) : Bool := s.flag Fld.SYS_STATE_LOCKSTEP_BROKEN

/-- No Quench source other than 117 counts as active (R23, R531). -/
def noOtherSource (s : State) : Bool := (List.finRange 128).all fun k => k.val = 117 || !s.srcCounts k

/-- The condition of R23 for a requested change of device state. -/
def requestOk (s : State) (target : Nat) : Bool :=
  let d := s.dev
  if target = devConfig then d = devStandby
  else if target = devStandby then
    (d = devConfig && s.locked && s.sv = svArmed) ||
      (d = devArmed && s.axesOff && !s.gRun 4 && !s.gRun 5) ||
      (d = devSafe && s.sv = svArmed && noOtherSource s)
  else if target = devArmed then
    (d = devStandby && s.sv = svEnabled && !s.broken) || (d = devRun && s.axesOff)
  else if target = devRun then d = devArmed && !s.broken
  else if target = devSafe then devConfig ≤ d && d ≤ devRun
  else if target = devDebug then devStandby ≤ d && d ≤ devRun && s.flag Fld.SYS_STRAP_DBG
  else false

/-- SAFE is left (R30): the latch of source 117 clears, and every axis in SAFE_HOLD becomes OFF. -/
def leaveSafe (s : State) : State :=
  let s := sourceDrop 117 true s
  (List.finRange 4).foldl (fun s n => if s.axis n = axHold then s.setAxis n axOff else s) s

/-- A requested change carried out (R23). A return to CONFIG takes an enabled Anvil back to SV_ARMED (R321). -/
def requestDo (target : Nat) (s : State) : State :=
  if target = devSafe then withCause 0 enterSafe s
  else
    let old := s.dev
    let s := withCause 0 (setDev target) s
    let s := if old = devSafe then leaveSafe s else s
    let s := if target = devConfig && s.sv = svEnabled then s.setSv svArmed else s
    let s := if target = devDebug then { s with sys := { s.sys with dbgCyc := some s.perCycle } } else s
    dsgWatch s

/-- A device-state request (R23, R24, R31): a wrong key, a cause of FAULT, SAFE or DEBUG in the same peripheral cycle, or a change that the
table does not allow refuses it. -/
def stateRequest (target : Nat) (key : BitVec 16) (s : State) : State :=
  if key = 0xC3A5#16 && s.sys.causeCyc != some s.perCycle && requestOk s target then requestDo target s
  else requestRefused target s

/-- REQUEST_CONFIG (R23). -/
def execRequestConfig (key : BitVec 16) (s : State) : Host.Outcome State Fault Refusal := .next (agentTurn (stateRequest devConfig key) s)
/-- REQUEST_STANDBY (R23). -/
def execRequestStandby (key : BitVec 16) (s : State) : Host.Outcome State Fault Refusal := .next (agentTurn (stateRequest devStandby key) s)
/-- REQUEST_ARMED (R23). -/
def execRequestArmed (key : BitVec 16) (s : State) : Host.Outcome State Fault Refusal := .next (agentTurn (stateRequest devArmed key) s)
/-- REQUEST_RUN (R23). -/
def execRequestRun (key : BitVec 16) (s : State) : Host.Outcome State Fault Refusal := .next (agentTurn (stateRequest devRun key) s)
/-- REQUEST_SAFE (R23). -/
def execRequestSafe (key : BitVec 16) (s : State) : Host.Outcome State Fault Refusal := .next (agentTurn (stateRequest devSafe key) s)
/-- REQUEST_DEBUG (R23). -/
def execRequestDebug (key : BitVec 16) (s : State) : Host.Outcome State Fault Refusal := .next (agentTurn (stateRequest devDebug key) s)

/-! ## Axis writes (R28, R29) -/

/-- The axis states before the present peripheral cycle's changes by the hardware. -/
def axisBefore (s : State) : Word := if s.sys.axCyc = some s.perCycle then s.sys.axOld else s.rd .SYS_AX_STATE

/-- An axis write from `old` to `new` is allowed (R28, R29). -/
def axisOk (s : State) (n : Fin 4) (old new : Nat) : Bool :=
  s.axis n = old &&
    (if new = axOff then (List.finRange 128).all fun k => !s.srcCounts k || srcAction s k (axGroup n) = 0
     else if new = axHold then true
     else (s.dev = devRun || s.dev = devDebug) && old != axHold)

/-- One field of an axis write: the state, and whether it was refused. Reserved codes leave the field (R10). -/
def axisField (value before : Word) (n : Fin 4) (s : State) : State × Bool :=
  let old := wGet before (4 * n.val) 3
  let new := wGet value (4 * n.val) 3
  if new = old || axHold < new then (s, false)
  else if axisOk s n old new then
    (axisEvent n old new (s.wr .SYS_AX_STATE (wPut (s.rd .SYS_AX_STATE) (4 * n.val) 3 new)), false)
  else (s, true)

/-- A write to SYS_AX_STATE (R28): the fields are judged one by one; REQ_REFUSED once, with the highest refused axis. -/
def axStateWrite (value : Word) (s : State) : State :=
  let before := axisBefore s
  let (s, bad) := (List.finRange 4).foldl (fun (p : State × Option (Fin 4)) n =>
    let (t, no) := axisField value before n p.1
    (t, if no then some n else p.2)) (s, none)
  let s := match bad with
    | some n =>
      let s := (s.raise Fld.SYS_STATUS_REQ_REFUSED).setF Fld.SYS_REFUSE_TARGET (wGet value (4 * n.val) 3)
      ((s.setF Fld.SYS_REFUSE_DEV_AT s.dev).setF Fld.SYS_REFUSE_AXIS n.val).setF Fld.SYS_REFUSE_AXIS_WR 1
    | none => s
  dsgWatch s

/-- AX_STATE_WRITE (R28). -/
def execAxStateWrite (value : Word) (s : State) : Host.Outcome State Fault Refusal := .next (agentTurn (axStateWrite value) s)

/-- FAULT_CODE_CLEAR (R32). -/
def execFaultCodeClear (s : State) : Host.Outcome State Fault Refusal := .next (agentTurn clearFaults s)

/-- A read of SYS_TIME_LO: the lower half of device time, with the upper half captured (R20). -/
def timeRead (s : State) : Word × State := (BitVec.ofNat 32 s.time, s.wr .SYS_TIME_HI (BitVec.ofNat 32 (s.time / 2 ^ 32)))

/-- TIME_LO_READ (R20). -/
def execTimeLoRead (s : State) : Host.Outcome State Fault Refusal :=
  .next (
    let (w, s) := timeRead s
    { s with rdata := w })

/-! ## General-purpose pins (R37 to R39) -/

/-- The pins that the precharge sequencer drives, with the level of each (R38, R303). -/
def ownedOut (s : State) : List (Nat × Bool) :=
  if !s.locked then []
  else
    [(s.f Fld.PWM_DSC_PCH_CFG_PCH_IO, s.dcl.pre), (s.f Fld.PWM_DSC_PCH_CFG_MAIN_IO, s.dcl.main)] ++
      (if s.flag Fld.PWM_DSC_PCH_CFG_NEG_EN then [(s.f Fld.PWM_DSC_PCH_CFG_NEG_IO, s.dcl.neg)] else [])

/-- The pins owned as inputs (R38). -/
def ownedIn (s : State) : List Nat :=
  if !s.locked then []
  else
    (if s.flag Fld.PWM_DSC_PCH_CFG_FB_EN then [s.f Fld.PWM_DSC_PCH_CFG_FB_IO] else []) ++
      (if s.flag Fld.ANV_SBC_FB_EN0 then [s.f Fld.ANV_SBC_FB_IO0] else []) ++
      (if s.flag Fld.ANV_SBC_FB_EN1 then [s.f Fld.ANV_SBC_FB_IO1] else [])

/-- SYS_GPIO_OWN (R38). -/
def gpioOwned (s : State) : Word :=
  (((ownedOut s).map (·.1)) ++ ownedIn s).foldl (fun w i => wPut w i 1 1) 0#32

/-- What a pin drives: a level, or nothing (R37, R38). Where two owned outputs name one pin, the first of the table drives it. -/
def gpioDrive (s : State) (i : Fin 32) : Option Bool :=
  match (ownedOut s).find? fun p => p.1 = i.val with
  | some (_, b) => some b
  | none =>
    if (ownedIn s).contains i.val then none
    else if s.bitOf .SYS_GPIO_DIR i.val then some (s.bitOf .SYS_GPIO_OUT i.val) else none

/-- Bits of DIR or OUT put to a word where the pins are not owned (R38). -/
def gpioPut (r : Reg) (v : Word) (s : State) : State :=
  let own := gpioOwned s
  s.wr r ((s.rd r &&& own) ||| (v &&& ~~~own))

/-- GPIO_SET (R37). -/
def execGpioSet (mask : Word) (s : State) : Host.Outcome State Fault Refusal :=
  .next (agentTurn (gpioPut .SYS_GPIO_OUT (s.rd .SYS_GPIO_OUT ||| mask)) s)

/-- GPIO_CLR (R37). -/
def execGpioClr (mask : Word) (s : State) : Host.Outcome State Fault Refusal :=
  .next (agentTurn (gpioPut .SYS_GPIO_OUT (s.rd .SYS_GPIO_OUT &&& ~~~mask)) s)

/-- GPIO_INPUT_EDGE (R39): the synchroniser output of a pin changes to a level; a driven pin takes only its own level. RISE or FALL is set
in the next peripheral cycle, and captures take the instant two core cycles earlier (R101). -/
def execGpioInputEdge (pin : Fin 32) (level : Bool) (s : State) : Host.Outcome State Fault Refusal :=
  .next (
    if s.sys.sync.getLsbD pin.val = level || (gpioDrive s pin).any (· != level) then s
    else
      let t := (s.time - 2) * 16
      let s := contactEdge pin level { s with sys := { s.sys with sync := wPut s.sys.sync pin.val 1 (bit level) } }
      let s := fbWatch 1 (fbWatch 0 s)
      let s := postCap (if level then 1 else 2) pin.val t s.time s
      (s.advance (4 * (s.perCycle + 1))).raiseBit (if level then .SYS_GPIO_RISE else .SYS_GPIO_FALL) pin.val)

/-! ## Clock monitors (R21) -/

/-- Two failed windows in a row (R21): the clock-fail source and 0xA409; a failed Anvil oscillator is a failure of its domain (R317). -/
def clockFail (anvil : Bool) (s : State) : State :=
  let s := s.raise (if anvil then Fld.SYS_STATUS_CLK_MAIN_FAIL else Fld.SYS_STATUS_CLK_SV_FAIL)
  let s := recordFault 0xA409 (sourceActive 114 s.now s)
  if anvil then s else anvFail s

/-- CLOCK_MONITOR_WINDOW (R21): a window of the Anvil's monitor or of SYS's ends with a count. DESIGN CHOICE (log entry 37): a loss of
lock in the main PLL fails the window of the Anvil's monitor, which watches the main clock. -/
def execClockMonitorWindow (anvilMonitor : Bool) (count : Nat) (pllLocked : Bool) (s : State) :
    Host.Outcome State Fault Refusal :=
  .next (
    let ok := if anvilMonitor then 1425 ≤ count && count ≤ 1575 && pllLocked else 950 ≤ count && count ≤ 1050
    let bad := if anvilMonitor then s.sys.mainBad else s.sys.svBad
    let n := if ok then 0 else bad + 1
    let s := { s with sys := if anvilMonitor then { s.sys with mainBad := n } else { s.sys with svBad := n } }
    if n = 2 then clockFail anvilMonitor s
    else if s.sys.mainBad < 2 && s.sys.svBad < 2 && s.raw 114 then sourceInactive 114 s
    else s)

/-- SYS_STATUS.UNMAPPED takes the first unlisted address since its last clear
(R34). -/
def unmapped (a : Word) (s : State) : State :=
  if s.flag Fld.SYS_STATUS_UNMAPPED then s else (s.wr .SYS_UNMAPPED_ADDR a).raise Fld.SYS_STATUS_UNMAPPED

end Sys2Proof.Machine
end

