-- ==== Sys2Proof/Machine/Boot.lean ====
section
/-! DEFINITION. Reset, straps, pad check, boot and fuses (18). -/

namespace Sys2Proof.Machine

open Sys2Proof

/-! ## Reset (R477, R478) -/

/-- A fuse word after an operation that did not end as asked, or that a reset cut short: some of the staged bits are blown (R494, R497). -/
def fusePartial (s : State) : State :=
  (List.finRange 8).foldl (fun s i =>
    let (w, s) := s.takeWord
    { s with fuse := { s.fuse with hash := vset s.fuse.hash i (s.fuse.hash[i] ||| (s.fuse.want[i] &&& w)) } }) s

/-- A reset ends a fuse operation: the hash stays partial and CUST_EN 0; another fuse is blown or is not (R497). -/
def fuseCut (s : State) : State :=
  match s.fuse.op with
  | none => s
  | some (op, _) =>
    let s := if op = 1 then fusePartial s else s
    let (b, s) := s.takeBit
    { s with fuse := { s.fuse with op := none, portiel := s.fuse.portiel || (op = 2 && b), flock := s.fuse.flock || (op = 3 && b) } }

/-- Ferroelectric memory (R33). -/
def ferroLo : Nat := 0x20000000
def ferroHi : Nat := 0x20800000

/-- A reset during a flush (R412, R420): the slot holds the bursts written by then, the one under way at free words, and no trailer. -/
def tornSlot (s : State) : State :=
  if s.hlm.phase = .writing then
    let from_ := s.hlm.start + copyCycles + 600
    let k := min 213 ((s.time - from_) / 600)
    let a := nextSlot s
    let s := { s with mem := memCopy s.mem hlmSnap a (64 * k) }
    if s.time ≤ from_ + 600 * k || k = 213 then s
    else (List.range 16).foldl (fun s i => let (w, s) := s.takeWord; s.setMemW (a + 64 * k + 4 * i) w) s
  else s

/-- A source begins to hold reset (R477): 0 power-on, 1 RST_N, 2 software. What R478 names is kept, with the commands that wait, what the pins
and supplies give, and the model's own fields; the JTAG port goes with power-on alone (R370). -/
def enterReset (source : Nat) (low : Bool) (s : State) : State :=
  let was := s.dev = devFault
  let fresh := s.boot.hold = 0#3
  let s := tornSlot (fuseCut s)
  { State.reset with
    pending := s.pending
    free := s.free
    rdata := s.rdata
    regs := tabSet Reg.addr (Reg.QNC_RAW 2).reset (.QNC_RAW 2) (s.qnc.tripLow.setWidth 32)
      (tabSet Reg.addr Reg.SYS_RST_CAUSE.reset .SYS_RST_CAUSE (s.rd .SYS_RST_CAUSE) [])
    mem := s.mem.filter fun c => ferroLo ≤ c.1 && c.1 < ferroHi
    fuse := s.fuse
    sys := { sync := s.sys.sync }
    lb := { lost := s.lb.lost }
    cmp := { lost := s.cmp.lost, vin := s.cmp.vin }
    qnc := { tripLow := s.qnc.tripLow }
    anv := { stoLow := s.anv.stoLow.map fun t => t.map fun _ => 0 }
    tap := if source = 0 then {} else s.tap
    boot := { hold := BitVec.ofNat 3 (2 ^ source) ||| (if fresh then 0#3 else s.boot.hold)
              wasFault := if fresh then was else s.boot.wasFault
              rstLow := low } }

/-- POWER_ON_RESET (R477): a supply leaves its range. -/
def execPowerOnReset (s : State) : Host.Outcome State Fault Refusal := .next (enterReset 0 s.boot.rstLow s)

/-- RST_N (R477): a low level holds reset; its end leaves release to RESET_RELEASE. -/
def execRstN (low : Bool) (s : State) : Host.Outcome State Fault Refusal :=
  .next (if low then enterReset 1 true s else { s with boot := { s.boot with rstLow := false } })

/-- A running flush ends before a software reset (R493), with one that waits for its end. -/
def endFlush (s : State) : State :=
  let once (s : State) : State := nextOr s (execFlushComplete (nextOr s (execSnapshotCopyDone s)))
  once (once s)

/-- The device states in which software may reset (R493). -/
def swResetOk (d : Nat) : Bool := d = devConfig || d = devStandby || d = devSafe || d = devFault || d = devDebug

/-- A write to SYS_SWRST (R493). -/
def softwareReset (key : BitVec 16) (s : State) : State :=
  if key = 0x7E57#16 && swResetOk s.dev then
    let t := endFlush s
    { enterReset 2 s.boot.rstLow t with boot := { hold := 4#3, wasFault := s.dev = devFault, rstLow := s.boot.rstLow } }
  else refused s

/-- SOFTWARE_RESET (R493). -/
def execSoftwareReset (key : BitVec 16) (s : State) : Host.Outcome State Fault Refusal := .next (agentTurn (softwareReset key) s)

/-! ## Reset release (R479, R480, R482) -/

/-- The word of SYS_STRAP from the straps in the order of R480: ST_BOOT0–1, ST_HOSTQ, ST_NODE0–5, ST_GPOL0–3, ST_SAFE, ST_DBG, ST_LBT0–1. -/
def strapWord (p : BitVec 17) : Word :=
  BitVec.ofNat 32 (wGet (p.setWidth 32) 0 2 + 4 * wGet (p.setWidth 32) 2 1 + 8 * wGet (p.setWidth 32) 13 1 +
    16 * wGet (p.setWidth 32) 14 1 + 32 * wGet (p.setWidth 32) 15 2 + 128 * wGet (p.setWidth 32) 9 4 +
    65536 * wGet (p.setWidth 32) 3 6)

/-- What the straps set elsewhere (R480). -/
def strapDefaults (s : State) : State :=
  let s := s.setF Fld.PWM_POL_GPOL (s.f Fld.SYS_STRAP_GPOL)
  let s := (List.finRange 4).foldl (fun s c => s.setF (Fld.LB_SYNC_CFG_NODE c) (s.f Fld.SYS_STRAP_NODE)) s
  let s := s.setF (Fld.LB_CTL_TERM 0) (s.f Fld.SYS_STRAP_LBT % 2)
  let s := s.setF (Fld.LB_CTL_TERM 1) (s.f Fld.SYS_STRAP_LBT / 2)
  let sel := strapSelection s
  let s := (List.finRange 4).foldl (fun s n => s.setF (Fld.ANV_AX_STAT_SEL n) (sel % 4)) s
  ((s.setF Fld.QNC_SAFESEL_SEL sel).setF Fld.QNC_SAFESEL_SEL_C (255 - sel)).setF Fld.QNC_SEL_USED_USED sel

/-- The fuses as SYS_FUSE shows them, and the hash words as the staged words begin (R496). -/
def fuseRegs (s : State) : State :=
  let s := s.setF Fld.SYS_FUSE_CUST_EN (bit s.fuse.cust)
  let s := (s.setF Fld.SYS_FUSE_PORTIEL_DIS (bit s.fuse.portiel)).setF Fld.SYS_FUSE_FLOCK (bit s.fuse.flock)
  (List.finRange 8).foldl (fun s i => s.wr (.SYS_FUSE_HASH i) s.fuse.hash[i]) s

/-- The cause of the reset that ends (R496). -/
def rstCause (s : State) : Word :=
  BitVec.ofNat 32 (s.boot.hold.toNat + 8 * bit s.boot.wasFault)

/-- RESET_RELEASE (R477, R479, R480, R482 step 1): no source holds reset any more. Source 115 is active until pad check
passes (R247). -/
def execResetRelease (straps : BitVec 17) (s : State) : Host.Outcome State Fault Refusal :=
  .next (
    if s.boot.hold = 0#3 || s.boot.rstLow then s
    else
      let s := (s.wr .SYS_RST_CAUSE (rstCause s)).wr .SYS_STRAP (strapWord straps)
      let s := fuseRegs (strapDefaults s)
      let s := sourceActive 115 s.now { s with boot := { s.boot with hold := 0#3 } }
      let s := if s.anv.stoLow.any (·.isSome) then stoTake s else s
      if s.cmp.lost then cmpSupply true s else s)

/-- All the command slots offered to the host by the boot ROM (R490). -/
def serveHost (s : State) : State :=
  (s.setF Fld.MBX_CTL_UP 1).setF Fld.MBX_SLOTS_GRANTED 0xFF

/-- The boot ROM takes the boot source (R490). -/
def bootSource (s : State) : State :=
  if s.f Fld.SYS_STRAP_BOOT = 1 then serveHost s
  else if s.f Fld.SYS_STRAP_BOOT = 3 then recordFault 0xA102 s
  else s

/-- The clocks run (R482 step 2). -/
def clocksRun (s : State) : State := { s with running := true, boot := { s.boot with pll := true } }

/-- Pad check starts (R483). -/
def padsStart (s : State) : State := { s with boot := { s.boot with pads := .pull s.time } }

/-- PLL_LOCK (R482 steps 2 to 4 and 6): the clocks run, the lane self-test ends 427 ns later, pad check starts, and the boot ROM
takes the boot source. -/
def execPllLock (failed : BitVec 25) (s : State) : Host.Outcome State Fault Refusal :=
  .next (
    if s.boot.hold != 0#3 || s.boot.pll then s
    else bootSource (padsStart (laneTest failed ((clocksRun s).advance (s.time + 256)))))

/-! ## Pad check (R483, R484) -/

/-- PAD_CHECK_PULL_END (R483): 20 µs in, the pads that read beyond 0.7 V of their inactive rail. -/
def execPadCheckPullEnd (fails : BitVec 140) (s : State) : Host.Outcome State Fault Refusal :=
  .next (
    match s.boot.pads with
    | .pull c =>
      let s := s.advance (c + 20 * Config.cyclesPerUs)
      { s with boot := { s.boot with pads := .drive s.time, pull := fails } }
    | _ => s)

/-- Every pad has passed (R483). -/
def padsPassed (s : State) : State :=
  let s := { s with boot := { s.boot with pads := .passed } }
  let s := sourceDrop 115 false (s.setF Fld.PWM_PAD_DRIVE 0xFFFF)
  s.setF Fld.SYS_BOOT_PADCHK_DONE 1

/-- Some pad has failed (R484). -/
def padsFailed (fails : BitVec 140) (s : State) : State :=
  let driveOnly := s.boot.pull = 0#140
  let s := { s with boot := { s.boot with pads := .failed } }
  let s := (List.finRange 5).foldl (fun s k => s.wr (.SYS_PADFAIL k) (fails.extractLsb' (32 * k.val) 32)) s
  let s := s.setF Fld.SYS_BOOT_PAD_PULL 1
  recordFault 0xA405 (if driveOnly then s.setF Fld.SYS_BOOT_PAD_DRV 1 else s)

/-- PAD_CHECK_DONE (R483, R484): the drive phase ends 1 µs after the pull phase. -/
def execPadCheckDone (fails : BitVec 140) (s : State) : Host.Outcome State Fault Refusal :=
  .next (
    match s.boot.pads with
    | .drive c =>
      let s := s.advance (c + Config.cyclesPerUs)
      let all := fails ||| s.boot.pull
      if all = 0#140 then padsPassed s else padsFailed all s
    | _ => s)

/-! ## Images (R485 to R490) -/

/-- The base of an image slot (R485). -/
def imgBase (slot : Fin 2) : Nat := 0x20000000 + 0x300000 * slot.val

/-- A word of a slot's header (R486). -/
def imgW (s : State) (slot : Fin 2) (off : Nat) : Nat := (s.memW (imgBase slot + off)).toNat

/-- A section lies within LENGTH and within a limit (R487). -/
def sectionOk (s : State) (slot : Fin 2) (off limit : Nat) : Bool :=
  imgW s slot off + imgW s slot (off + 4) ≤ imgW s slot 8 && imgW s slot (off + 4) ≤ limit

/-- The key of an image is allowed by the fuses (R488). -/
def imgKeyOk (s : State) (slot : Fin 2) : Bool :=
  if imgW s slot 0x2C = 0 then !s.fuse.portiel else imgW s slot 0x2C = 1 && s.fuse.cust

/-- A slot is valid but for its signature and the hash of its key, which the command tells (R486 to R488). -/
def imgOk (s : State) (slot : Fin 2) (sig : Bool) : Bool :=
  imgW s slot 0 = 0x4E4D4449 && imgW s slot 4 = 1 && imgW s slot 8 % 4 = 0 && imgW s slot 8 ≤ 0x2FFFC0 &&
    sectionOk s slot 0x10 0x80000 && sectionOk s slot 0x1C 0x10000 && sectionOk s slot 0x24 0xFFFFFFFF &&
    decide (imgW s slot 0x30 ≤ Config.siliconRev.toNat) && imgKeyOk s slot && sig

/-- Kenow local memory (R33). -/
def kenowMem : Nat := 0x08000000

/-- Bytes of one memory in place of a range of another. -/
def memInto (src : List Host.Cell) (a dst n : Nat) (m : List Host.Cell) : List Host.Cell :=
  m.filter (fun c => c.1 < dst) ++
    ((src.filter fun c => a ≤ c.1 && c.1 < a + n).map fun c => (c.1 - a + dst, c.2)) ++
    m.filter (fun c => dst + n ≤ c.1)

/-- A verified slot is booted (R490): its agent section goes into both copies of Kenow local memory. -/
def bootSlot (slot : Fin 2) (src : Nat) (s : State) : State :=
  let a := imgBase slot + imgW s slot 0x10
  let n := imgW s slot 0x14
  let s := { s with mem := memInto s.mem a kenowMem n s.mem, chk := memInto s.mem a kenowMem n s.chk
                    boot := { s.boot with image := true } }
  let s := (s.setF Fld.SYS_BOOT_SLOT slot.val).setF Fld.SYS_BOOT_SRC src
  (s.setF Fld.SYS_BOOT_KEY_ID (imgW s slot 0x2C)).wr .SYS_BOOT_VER (s.memW (imgBase slot + 0xC))

/-- The boot record (R485). -/
def bootRecord : Nat := 0x20600000

/-- The boot record is sound (R489). -/
def recordOk (s : State) : Bool := s.memW (bootRecord + 4) = ~~~s.memW bootRecord

/-- The active slot (R489). -/
def activeSlot (s : State) : Fin 2 :=
  if recordOk s && (s.memW bootRecord).getLsbD 0 then 1 else 0

/-- No slot is valid (R490). -/
def noImage (s : State) : State :=
  if s.f Fld.SYS_STRAP_BOOT = 2 then serveHost (recordFault 0xA103 s)
  else recordFault 0xA404 (s.setF Fld.SYS_BOOT_SRC 3)

/-- IMAGE_VERIFIED (R487 to R490): the boot ROM has judged the slots; `sig` tells of each slot whether its key's hash and its signature
verify. -/
def execImageVerified (sig : BitVec 2) (s : State) : Host.Outcome State Fault Refusal :=
  .next (
    if s.dev != devBoot || !s.boot.pll || s.boot.image || s.f Fld.SYS_STRAP_BOOT = 1 || s.flag Fld.MBX_CTL_UP then s
    else
      let s := if recordOk s then s else recordFault 0xA10A s
      let a := activeSlot s
      let o := 1 - a
      if imgOk s a (sig.getLsbD a.val) then bootSlot a 0 s
      else if imgOk s o (sig.getLsbD o.val) then bootSlot o 1 (recordFault 0xA101 s)
      else noImage s)

/-- AGENT_START (R23, R143, R482 step 7): pad check, the Hallmark restore and the boot source have passed. Kenow goes on at the entry
point of the image, with a VBASE that the boot ROM has set and the spec does not give (log entry 5), and the device enters CONFIG. -/
def execAgentStart (s : State) : Host.Outcome State Fault Refusal :=
  .next (
    if s.dev = devBoot && s.boot.pads = .passed && s.flag Fld.HLM_STATUS_RESTORED && s.boot.image then
      let slot : Fin 2 := if s.flag Fld.SYS_BOOT_SLOT then 1 else 0
      let pc := s.memW (imgBase slot + 0x18)
      let (base, s) := s.takeWord
      let s := { s with ken := { s.ken with lead := { s.ken.lead with pc := pc }, chk := { s.ken.chk with pc := pc },
                                            vbase := base &&& 0xFFFFFF00#32 }
                        boot := { s.boot with agent := true } }
      setDev devConfig s
    else s)

/-! ## Configuration lock (R492) -/

/-- A write to SYS_CFG_LOCK (R492). The stored CRC is a value whose computation the spec does not fix (R271). -/
def configLock (key : BitVec 16) (s : State) : State :=
  if key = 0x4C4B#16 && s.dev = devConfig && !s.locked then
    let (crc, s) := (s.setF Fld.SYS_STATE_CFG_LOCKED 1).takeWord
    s.wr .QNC_CRC crc
  else refused s

/-- CONFIGURATION_LOCK (R492). -/
def execConfigurationLock (key : BitVec 16) (s : State) : Host.Outcome State Fault Refusal := .next (agentTurn (configLock key) s)

/-! ## Fuses (R494) -/

/-- A fuse operation is allowed (R494). -/
def fuseOk (op : Nat) (s : State) : Bool :=
  s.dev = devConfig && !s.locked && !s.fuse.flock && s.fuse.op.isNone &&
    (if op = 1 then !s.fuse.cust else if op = 2 then s.fuse.cust else true)

/-- A write to SYS_FUSE_CMD (R494, R496). -/
def fuseCmd (op : Nat) (key : BitVec 16) (s : State) : State :=
  if key != 0xF05E#16 || op = 0 then s
  else if fuseOk op s then
    let want : Vector Word 8 := Vector.ofFn fun i => s.rd (.SYS_FUSE_HASH i)
    { s.setF Fld.SYS_FUSE_BUSY 1 with fuse := { s.fuse with op := some (op, s.time), want := want } }
  else refused s

/-- BLOW_CUSTOMER_HASH (R494). -/
def execBlowCustomerHash (key : BitVec 16) (s : State) : Host.Outcome State Fault Refusal := .next (agentTurn (fuseCmd 1 key) s)
/-- BLOW_PORTIEL_DIS (R494). -/
def execBlowPortielDis (key : BitVec 16) (s : State) : Host.Outcome State Fault Refusal := .next (agentTurn (fuseCmd 2 key) s)
/-- BLOW_FLOCK (R494). -/
def execBlowFlock (key : BitVec 16) (s : State) : Host.Outcome State Fault Refusal := .next (agentTurn (fuseCmd 3 key) s)

/-- The hash is blown and CUST_EN last; bits that are blown stay blown. -/
def blowHash (s : State) : State :=
  let hash : Vector Word 8 := Vector.ofFn fun i => s.fuse.hash[i] ||| s.fuse.want[i]
  { s with fuse := { s.fuse with hash := hash, cust := true } }

/-- What an operation leaves in the fuses, and whether the read back fuses are as asked. -/
def fuseResult (op : Nat) (ok : Bool) (s : State) : State × Bool :=
  if op = 1 then
    let s := if ok then blowHash s else
      let (b, s) := (fusePartial s).takeBit
      { s with fuse := { s.fuse with cust := b } }
    (s, ok && s.fuse.hash = s.fuse.want)
  else if ok then
    ({ s with fuse := { s.fuse with portiel := s.fuse.portiel || op = 2, flock := s.fuse.flock || op = 3 } }, true)
  else (s, false)

/-- FUSE_OPERATION_DONE (R494): `ok` tells whether every fuse asked for has blown. -/
def execFuseOperationDone (ok : Bool) (s : State) : Host.Outcome State Fault Refusal :=
  .next (
    match s.fuse.op with
    | none => s
    | some (op, _) =>
      let (s, good) := fuseResult op ok s
      let s := ({ s with fuse := { s.fuse with op := none } } : State).setF Fld.SYS_FUSE_BUSY 0
      let s := s.setF Fld.SYS_FUSE_CUST_EN (bit s.fuse.cust)
      let s := (s.setF Fld.SYS_FUSE_PORTIEL_DIS (bit s.fuse.portiel)).setF Fld.SYS_FUSE_FLOCK (bit s.fuse.flock)
      let s := if s.fuse.cust then (List.finRange 8).foldl (fun s i => s.wr (.SYS_FUSE_HASH i) s.fuse.hash[i]) s else s
      if good then s else recordFault 0xA108 (s.raise Fld.SYS_FUSE_PROG_ERR))

/-- A write to a staged hash word (R496): with CUST_EN = 1 it has no effect. -/
def fuseHashWrite (i : Fin 8) (v : Word) (s : State) : State :=
  if s.fuse.cust then s else s.wr (.SYS_FUSE_HASH i) v

end Sys2Proof.Machine
end

