-- ==== Sys2Proof/Machine/Pads.lean ====
section
/-! DEFINITION. What the 140 gate pads and the status outputs show (R15, R27, R190, R322, R471, R481). The pads are numbered as
SYS_PADFAIL numbers them (R496). -/

namespace Sys2Proof.Machine

open Sys2Proof

/-- The gate group of a pad, and its output in the group. -/
def padGroup (p : Fin 140) : Fin 16 × Nat :=
  if p.val < 72 then (⟨p.val / 18 % 16, Nat.mod_lt _ (by decide)⟩, p.val % 18)
  else if p.val < 88 then (⟨(4 + (p.val - 72) / 8) % 16, Nat.mod_lt _ (by decide)⟩, (p.val - 72) % 8)
  else if p.val < 136 then (⟨(6 + (p.val - 88) / 6) % 16, Nat.mod_lt _ (by decide)⟩, (p.val - 88) % 6)
  else if p.val < 138 then (14, p.val - 136)
  else (15, p.val - 138)

/-- The polarity class of a group (R188). -/
def padClass (g : Fin 16) : Nat := if g.val < 4 then 0 else if g.val < 6 then 1 else if g.val < 14 then 2 else 3

/-- An output as a timer cell commands it: pairs in groups 0 to 13, single outputs in DSC (R189). -/
def cellOut (s : State) (g : Fin 16) (i : Nat) : Bool :=
  let c : Fin 9 := ⟨(if g.val < 14 then i / 2 else i) % 9, Nat.mod_lt _ (by decide)⟩
  let cell := (s.grp g).cell[c]
  if 14 ≤ g.val then cell.hi else if i % 2 = 0 then cell.hi else cell.lo

/-- The timers reach the pads of a group (R27, R28). -/
def timersReach (s : State) (g : Fin 16) : Bool :=
  if h : g.val < 4 then s.moving ⟨g.val, h⟩
  else if g.val < 6 then s.dev = devArmed || s.dev = devRun || s.dev = devDebug
  else if g.val < 14 then s.dev != devBoot && s.dev != devFault
  else s.dev = devArmed || s.dev = devRun || s.dev = devSafe || s.dev = devDebug

/-- Level 5 of R15: the timers' output, inactive while a delay pair that covers the group is open (R202, R270), or the SBC function
(R189, R190). -/
def timerOut (s : State) (g : Fin 16) (i : Nat) : Bool :=
  if g.val = 15 then sbcOut s (if i = 0 then 0 else 1)
  else
    (s.rd (.PWM_G_OUT_EN g)).getLsbD i && timersReach s g && !(g.val < 4 && 6 ≤ i && !s.flag (Fld.PWM_G_CFG_TOPO g)) &&
      !s.pairOpen g && cellOut s g i

/-- Level 4 of R15: the Quench's action on a group, if one acts (R252, R254, R255); in HOLD every output is inactive (R264). -/
def quenchOut (s : State) (g : Fin 16) (i : Nat) : Option Bool :=
  if g.val = 14 && s.dsgRun then none
  else if s.flag (Fld.QNC_G_STATE_HOLD g) then some false
  else
    match actionKind s g s.qnc.eff[g] with
    | 0 => none
    | 1 => some false
    | k =>
      let mask := if k = 2 then s.rd (.QNC_G_ASC_L g) else if k = 3 then s.rd (.QNC_G_ASC_H g) else s.rd (.QNC_G_PAT g)
      some (s.flag (Fld.QNC_G_STATE_ASC_ON g) && mask.getLsbD i && (s.rd (.PWM_G_OUT_EN g)).getLsbD i)

/-- The STO cut acts on a group (R323). -/
def stoCuts (s : State) (g : Fin 16) : Bool :=
  s.flag Fld.ANV_STATUS_CUT &&
    (if 6 ≤ g.val && g.val < 14 then (s.f Fld.ANV_CFG_STO_AUX).testBit (g.val - 6) else true)

/-- An output is on, by levels 2 to 5 of R15. -/
def outOn (s : State) (g : Fin 16) (i : Nat) : Bool :=
  if stoCuts s g then false
  else if g.val = 14 && s.dsgRun then s.dsg = 2 && (s.f Fld.PWM_DSC_DSG_CFG_DSC_MASK).testBit i
  else (quenchOut s g i).getD (timerOut s g i)

/-- A pad: its level (true high), or high impedance (R15, R27, R483). -/
def padLevel (s : State) (p : Fin 140) : Option Bool :=
  let (g, i) := padGroup p
  let on := !(s.f Fld.SYS_STRAP_GPOL).testBit (padClass g)
  if s.boot.hold != 0#3 then none
  else match s.boot.pads with
    | .drive _ => some (!on)
    | .passed => if g.val < 4 && s.anv.failed then none else some (on == outOn s g i)
    | _ => none

/-- FAULT_N is high (R481). -/
def faultN (s : State) : Bool := s.boot.hold = 0#3 && s.dev != devBoot && s.dev != devFault

/-- SAFE_OUT_N is high (R317, R322). -/
def safeOutN (s : State) : Bool :=
  s.boot.hold = 0#3 && !s.anv.failed && (s.sv = svArmed || s.sv = svEnabled) && s.anv.react.all (fun r => r.axis.isNone) &&
    !s.flag Fld.ANV_STATUS_CUT

/-- HIRQ_N is high (R471). -/
def hirqN (s : State) : Bool :=
  !(s.boot.hold = 0#3 && s.flag Fld.MBX_CTL_UP &&
    ((s.flag Fld.HST_IRQ_EN_RSP && s.flag Fld.MBX_SLOTS_DONE) || (s.flag Fld.HST_IRQ_EN_EVT && s.flag Fld.MBX_EVT_PENDING) ||
      (s.flag Fld.HST_IRQ_EN_ERR && s.rd .HST_ERR != 0#32)))

end Sys2Proof.Machine
end

