-- ==== Sys2Proof/Machine/Mailbox.lean ====
section
/-! DEFINITION. The host port and the mailbox (R458 to R463, R470 to R476): the host's transactions, the slots' transitions, the reset of the port,
and the posting of events. -/

namespace Sys2Proof.Machine

open Sys2Proof

/-! ## Slots (R462, R476) -/

/-- The slot registers as they stood before the present peripheral cycle's transitions: a transition takes effect at the end of its
cycle. -/
def slotsBefore (s : State) : Word := if s.mbx.oldCyc = some s.perCycle then s.mbx.oldSlots else s.rd .MBX_SLOTS
def evtBefore (s : State) : Word := if s.mbx.oldCyc = some s.perCycle then s.mbx.oldEvt else s.rd .MBX_EVT

/-- The states are kept before the first transition of a cycle. -/
def slotsNote (s : State) : State :=
  if s.mbx.oldCyc = some s.perCycle then s
  else { s with mbx := { s.mbx with oldCyc := some s.perCycle, oldSlots := s.rd .MBX_SLOTS, oldEvt := s.rd .MBX_EVT } }

/-- A command slot is SUBMITTED, GRANTED or DONE in a word of slot states; otherwise it is IDLE. -/
def isSubmitted (w : Word) (i : Fin 8) : Bool := w.getLsbD i.val
def isGranted (w : Word) (i : Fin 8) : Bool := w.getLsbD (8 + i.val)
def isDone (w : Word) (i : Fin 8) : Bool := w.getLsbD (16 + i.val)
def isIdle (w : Word) (i : Fin 8) : Bool := !isSubmitted w i && !isGranted w i && !isDone w i

/-- A command slot put into a state: 0 SUBMITTED, 1 GRANTED, 2 DONE, 3 IDLE. -/
def slotTo (st : Nat) (i : Fin 8) (s : State) : State :=
  let s := slotsNote s
  let w := wPut (wPut (wPut (s.rd .MBX_SLOTS) i.val 1 0) (8 + i.val) 1 0) (16 + i.val) 1 0
  s.wr .MBX_SLOTS (if st < 3 then wPut w (8 * st + i.val) 1 1 else w)

/-- An event slot put to PENDING or to FREE. -/
def evtTo (pending : Bool) (e : Fin 8) (s : State) : State :=
  let s := slotsNote s
  s.wr .MBX_EVT (wPut (wPut (s.rd .MBX_EVT) e.val 1 (bit pending)) (8 + e.val) 1 (bit !pending))

/-- An HST_ERR bit is set (R463): the first since the last clear records 0x9101. -/
def hostErr (F : RF) (s : State) : State :=
  let first := s.rd .HST_ERR = 0#32
  let s := (s.raise F).raise Fld.MBX_STATUS_HOST_ERR
  if first then recordFault 0x9101 s else s

/-- For each bit of a mask, lowest first. -/
def eachBit (mask : BitVec 8) (f : Fin 8 → State → State) (s : State) : State :=
  (List.finRange 8).foldl (fun s i => if mask.getLsbD i.val then f i s else s) s

/-- The host port is in reset (R461). -/
def portReset (s : State) : Bool := s.flag Fld.MBX_STATUS_HRST_LVL

/-- SUBMIT bits (R462, R463). -/
def hostSubmit (mask : BitVec 8) (s : State) : State :=
  eachBit mask (fun i s =>
    if isGranted (slotsBefore s) i then
      let s := (slotTo 0 i s).raise Fld.MBX_STATUS_DB
      { s with mbx := { s.mbx with order := s.mbx.order ++ [i] } }
    else hostErr Fld.HST_ERR_DB s) s

/-- RSP_ACK bits (R462, R463). -/
def hostRspAck (mask : BitVec 8) (s : State) : State :=
  eachBit mask (fun i s =>
    if isDone (slotsBefore s) i then (slotTo 3 i s).raise Fld.MBX_STATUS_RSP_ACK else hostErr Fld.HST_ERR_ACK s) s

/-- EVT_ACK bits (R462, R463). -/
def hostEvtAck (mask : BitVec 8) (s : State) : State :=
  eachBit mask (fun e s =>
    if (evtBefore s).getLsbD e.val then (evtTo false e s).raise Fld.MBX_STATUS_EVT_ACK else hostErr Fld.HST_ERR_EVT_WR s) s

/-- SUBMIT (R462). -/
def execSubmit (mask : BitVec 8) (s : State) : Host.Outcome State Fault Refusal :=
  .next (if portReset s then s else hostSubmit mask s)
/-- RSP_ACK (R462). -/
def execRspAck (mask : BitVec 8) (s : State) : Host.Outcome State Fault Refusal :=
  .next (if portReset s then s else hostRspAck mask s)
/-- EVT_ACK (R462). -/
def execEvtAck (mask : BitVec 8) (s : State) : Host.Outcome State Fault Refusal :=
  .next (if portReset s then s else hostEvtAck mask s)

/-! ## The agent's transitions (R462, R463, R473) -/

def mbxIgnored (s : State) : State := s.raise Fld.MBX_STATUS_WR_IGN

/-- RSP bits of MBX_POST. A slot answered leaves Felyene's order. -/
def agentRsp (mask : BitVec 8) (s : State) : State :=
  eachBit mask (fun i s =>
    if isSubmitted (slotsBefore s) i then
      let s := slotTo 2 i s
      { s with mbx := { s.mbx with order := s.mbx.order.filter (· != i) } }
    else mbxIgnored s) s

/-- GRANT bits of MBX_POST. -/
def agentGrant (mask : BitVec 8) (s : State) : State :=
  eachBit mask (fun i s => if isIdle (slotsBefore s) i then slotTo 1 i s else mbxIgnored s) s

/-- EVT bits of MBX_POST. -/
def agentEvt (mask : BitVec 8) (s : State) : State :=
  eachBit mask (fun e s => if (evtBefore s).getLsbD e.val then mbxIgnored s else evtTo true e s) s

/-- POST_RSP (R462). -/
def execPostRsp (mask : BitVec 8) (s : State) : Host.Outcome State Fault Refusal := .next (agentTurn (agentRsp mask) s)
/-- POST_GRANT (R462). -/
def execPostGrant (mask : BitVec 8) (s : State) : Host.Outcome State Fault Refusal := .next (agentTurn (agentGrant mask) s)
/-- POST_EVT (R462). -/
def execPostEvt (mask : BitVec 8) (s : State) : Host.Outcome State Fault Refusal := .next (agentTurn (agentEvt mask) s)

/-! ## Transactions (R459, R460) -/

/-- HST_STATUS (R472). -/
def hstStatus (s : State) : Word :=
  let sl := slotsBefore s
  BitVec.ofNat 32 (wGet sl 8 8 + 2 ^ 8 * wGet sl 16 8 + 2 ^ 16 * wGet (evtBefore s) 0 8 + 2 ^ 24 * s.dev +
    2 ^ 27 * bit (s.flag Fld.MBX_CTL_UP) + 2 ^ 28 * bit (s.rd .HST_ERR != 0#32))

/-- A word of the host registers; HST_DB reads 0. -/
def hostReg (off : Nat) (s : State) : Word :=
  match off with
  | 0x00 => s.rd .HST_ID
  | 0x04 => hstStatus s
  | 0x0C => s.rd .HST_ERR
  | 0x10 => s.rd .HST_IRQ_EN
  | 0x14 => s.rd .MBX_EVT_LOST
  | _ => 0#32

/-- The agent address of the mailbox window (R460). -/
def mbxBase : Nat := 0x40010000

/-- A word of the window as the host reads it: what lies outside its areas reads 0. -/
def hostRead (a : Nat) (s : State) : Word :=
  if a < 0x18 then hostReg a s
  else if 0x800 ≤ a && a < 0x1800 then s.memW (mbxBase + a)
  else 0#32

/-- A word that the host writes into the window. -/
def hostWrite (a : Nat) (w : Word) (s : State) : State :=
  if a = 0x08 then hostEvtAck (w.extractLsb' 16 8) (hostRspAck (w.extractLsb' 8 8) (hostSubmit (w.extractLsb' 0 8) s))
  else if a = 0x0C then writePlain .HST_ERR w s
  else if a = 0x10 then writePlain .HST_IRQ_EN w s
  else if 0x800 ≤ a && a < 0x1000 then
    (if isGranted (slotsBefore s) ⟨(a - 0x800) / 0x100 % 8, Nat.mod_lt _ (by decide)⟩ then s.setMemW (mbxBase + a) w
     else hostErr Fld.HST_ERR_SLOT_WR s)
  else if 0x1000 ≤ a && a < 0x1800 then hostErr Fld.HST_ERR_EVT_WR s
  else s

/-- The whole words of a transaction written one after another; an incomplete last word is discarded (R459). -/
def hostWords (a : BitVec 16) (data : List Byte) (s : State) : State :=
  match data with
  | b0 :: b1 :: b2 :: b3 :: rest => hostWords (a + 4) rest (hostWrite a.toNat (b3 ++ b2 ++ b1 ++ b0) s)
  | [] => s
  | _ => hostErr Fld.HST_ERR_FRAME s

/-- WRITE (R459). -/
def execWrite (addr : BitVec 16) (data : List Byte) (s : State) : Host.Outcome State Fault Refusal :=
  .next (if portReset s then s else if addr.toNat % 4 = 0 then hostWords addr data s else hostErr Fld.HST_ERR_FRAME s)

/-- READ (R459): the model keeps the last word of the transaction. What a refused read shifts out is not stated (log entry 5). -/
def execRead (addr : BitVec 16) (words : Nat) (s : State) : Host.Outcome State Fault Refusal :=
  .next (
    if portReset s || words = 0 then s
    else if addr.toNat % 4 = 0 then { s with rdata := hostRead (addr + BitVec.ofNat 16 (4 * (words - 1))).toNat s }
    else
      let (w, s) := (hostErr Fld.HST_ERR_FRAME s).takeWord
      { s with rdata := w })

/-- STATUS (R459). -/
def execStatus (s : State) : Host.Outcome State Fault Refusal :=
  .next (if portReset s then s else { s with rdata := hstStatus s })

/-- UNKNOWN_INSTRUCTION (R459). -/
def execUnknownInstruction (code : Byte) (s : State) : Host.Outcome State Fault Refusal :=
  .next (if portReset s || code = 0x02#8 || code = 0x0B#8 || code = 0x05#8 then s else hostErr Fld.HST_ERR_FRAME s)

/-! ## Reset of the host port (R461, R497) -/

/-- HOST_RESET (R461): HRST_N has been low for 1 µs. A boot session is closed (R497). -/
def execHostReset (s : State) : Host.Outcome State Fault Refusal :=
  .next (
    let s := slotsNote s
    let s := (s.wr .MBX_SLOTS 0#32).wr .HST_ERR 0#32
    let s := s.wr .HST_IRQ_EN Reg.HST_IRQ_EN.reset
    let s := (s.raise Fld.MBX_STATUS_HRST).setF Fld.MBX_STATUS_HRST_LVL 1
    let fw := if s.dev = devBoot then none else s.mbx.fw
    let run := s.mbx.run.map fun r => { r with drop := true }
    recordFault 0x9103 { s with mbx := { s.mbx with order := [], run := run, fw := fw, oldSlots := 0#32 } })

/-- HOST_RESET_RELEASE (R461, R497): in BOOT the boot ROM grants the slots again. -/
def execHostResetRelease (s : State) : Host.Outcome State Fault Refusal :=
  .next (
    if portReset s then
      let s := s.setF Fld.MBX_STATUS_HRST_LVL 0
      if s.dev = devBoot && s.flag Fld.MBX_CTL_UP then agentGrant 0xFF#8 s else s
    else s)

/-! ## Events (R465, R470) -/

/-- The frame of an event (R465). -/
def evFrame (seq : Nat) (lost : Bool) (e : FelEv) : List Byte :=
  leBytes e.code 2 ++ leBytes seq 2 ++ leBytes e.data.length 2 ++ [0#8, 0#8, BitVec.ofNat 8 e.dev, 0xFF#8,
    BitVec.ofNat 8 (2 + 4 * bit lost), 0#8] ++ leBytes (e.at_ % 2 ^ 32) 4 ++ e.data

/-- EVENT_POST (R469, R470): the oldest waiting event goes into the lowest FREE event slot. -/
def execEventPost (s : State) : Host.Outcome State Fault Refusal :=
  .next (
    match s.mbx.evq, (List.finRange 8).find? (fun e => !(evtBefore s).getLsbD e.val) with
    | e :: rest, some i =>
      let frame := evFrame s.mbx.seq s.mbx.lost e
      let s := { s with mem := putBytes (mbxBase + 0x1000 + 0x100 * i.val) frame s.mem }
      evtTo true i { s with mbx := { s.mbx with evq := rest, seq := (s.mbx.seq + 1) % 65536, lost := false } }
    | _, _ => s)

end Sys2Proof.Machine
end

