-- ==== Sys2Proof/Machine/Irq.lean ====
section
/-! DEFINITION. The 128 interrupt lines of Kenow as levels (R45, R46), and the summary registers of the blocks. -/

namespace Sys2Proof.Machine

open Sys2Proof

/-- Some W1C bit of a register is set. -/
def State.sticky (s : State) (r : Reg) : Bool := r.rows.any fun row => row.acc = .w1c && wGet (s.rd r) row.lo row.width != 0

/-- A word of truth values, bit 0 first. -/
def bitsWord (l : List Bool) : Word := BitVec.ofNat 32 (l.foldr (fun b n => 2 * n + bit b) 0)

/-! ## Summaries -/

/-- MAN_AG_SUM (R76). -/
def manSum (s : State) : Word := bitsWord ((List.finRange 8).map fun n => s.sticky (.MAN_AG_STATUS n))

/-- FBK_SUM (R105). -/
def fbkSum (s : State) : Word :=
  bitsWord (((List.finRange 8).map fun n => s.sticky (.FBK_QE_STATUS n)) ++
    (List.finRange 4).map fun n => s.sticky (.FBK_SSI_STATUS n))

/-- SDM_SUM (R128). -/
def sdmSum (s : State) : Word := bitsWord ((List.finRange 32).map fun k => s.sticky (.SDM_CH_STATUS k))

/-- PWM_SUM (R216, R238, R313). -/
def pwmSum (s : State) : Word :=
  bitsWord ((List.finRange 16).map fun g =>
    s.sticky (.PWM_G_STATUS g) || (if h : g.val < 4 then s.sticky (.PWM_G_PAT_STATUS ⟨g.val, h⟩) else false) ||
      (g.val = 14 && (s.sticky .PWM_DSC_PCH_STAT || s.sticky .PWM_DSC_DSG_STAT)))

/-- CMP_SUM0 and CMP_SUM1 (R274). -/
def cmpSum (k : Fin 2) (s : State) : Word :=
  bitsWord ((List.finRange 32).map fun i => s.sticky (.CMP_WC_STAT ⟨32 * k.val + i.val, by omega⟩))

/-- AUX_SUM (R298). -/
def auxSum (s : State) : Word := bitsWord ((List.finRange 8).map fun n => s.sticky (.AUX_CH_STATUS n))

/-! ## Lines -/

/-- A bit of some register of a row of registers is set. -/
def anyFlag {n : Nat} (s : State) (F : Fin n → RF) : Bool := (List.finRange n).any fun i => s.flag (F i)

/-- SYS lines (R45). -/
def sysLines (s : State) : List Bool :=
  [s.flag Fld.SYS_STATUS_STATE_CHG, s.flag Fld.SYS_STATUS_REQ_REFUSED, s.flag Fld.SYS_STATUS_UNMAPPED,
    s.flag Fld.SYS_STATUS_CLK_MAIN_FAIL || s.flag Fld.SYS_STATUS_CLK_SV_FAIL, s.flag Fld.SYS_STATUS_FAULT_NEW,
    s.flag Fld.ASY_STATUS_BROKEN_EV, (s.rd .SYS_GPIO_RISE ||| s.rd .SYS_GPIO_FALL) &&& s.rd .SYS_GPIO_IE != 0#32]

/-- MBX lines (R474). -/
def mbxLines (s : State) : List Bool := (List.range 6).map fun j => s.bitOf .MBX_STATUS j

/-- MAN lines (R75). -/
def manLines (s : State) : List Bool :=
  [(List.finRange 2).any fun k => s.rd (.MAN_AM_FIRED k) &&& s.rd (.MAN_AM_IE k) != 0#32,
    anyFlag s Fld.MAN_AG_STATUS_JUMP, anyFlag s Fld.MAN_AG_STATUS_REV, anyFlag s Fld.MAN_AG_STATUS_STILL,
    anyFlag s Fld.MAN_AG_STATUS_HOLDOVER || anyFlag s Fld.MAN_AG_STATUS_MAINS_LOST, anyFlag s Fld.MAN_AG_STATUS_WR_IGN]

/-- FBK lines (R104). -/
def fbkLines (s : State) : List Bool :=
  [anyFlag s Fld.FBK_QE_STATUS_DS || anyFlag s Fld.FBK_QE_STATUS_IDX_MISM || anyFlag s Fld.FBK_QE_STATUS_LOS ||
      anyFlag s Fld.FBK_QE_STATUS_HALL_SKIP || anyFlag s Fld.FBK_QE_STATUS_HALL_INV,
    anyFlag s Fld.FBK_QE_STATUS_IDX_EV, anyFlag s Fld.FBK_QE_STATUS_CAP || anyFlag s Fld.FBK_QE_STATUS_CAP_OVR,
    anyFlag s Fld.FBK_SSI_STATUS_FRAME,
    anyFlag s Fld.FBK_SSI_STATUS_PAR_ERR || anyFlag s Fld.FBK_SSI_STATUS_ENC_ERR || anyFlag s Fld.FBK_SSI_STATUS_NOT_READY ||
      anyFlag s Fld.FBK_SSI_STATUS_TRG_LOST,
    anyFlag s Fld.FBK_QE_STATUS_FAILED || anyFlag s Fld.FBK_SSI_STATUS_FAILED]

/-- PWM lines (R215). -/
def pwmLines (s : State) : List Bool :=
  [(List.finRange 16).any fun g => s.flag (Fld.PWM_G_STATUS_XFER g) && s.bitOf .PWM_XFER_IE g.val,
    anyFlag s Fld.PWM_G_STATUS_LATE, anyFlag s Fld.PWM_G_STATUS_TORN_WR,
    anyFlag s Fld.PWM_G_STATUS_ZTMO || anyFlag s Fld.PWM_G_STATUS_PTMO, anyFlag s Fld.PWM_G_STATUS_PEAK,
    anyFlag s Fld.PWM_G_STATUS_REFRESH, anyFlag s Fld.PWM_G_STATUS_WR_IGN, anyFlag s Fld.PWM_G_STATUS_DT_ERR]

/-- QNC lines (R273). -/
def qncLines (s : State) : List Bool := (List.range 6).map fun j => s.bitOf .QNC_STATUS j

/-- CMP lines (R273). -/
def cmpLines (s : State) : List Bool :=
  [(List.finRange 64).any fun w =>
      s.flag (Fld.CMP_WC_CTL_IE w) && (s.flag (Fld.CMP_WC_STAT_EDGE_HI w) || s.flag (Fld.CMP_WC_STAT_EDGE_LO w)),
    (List.finRange 64).any fun w =>
      s.flag (Fld.CMP_WC_CTL_IE w) && (s.flag (Fld.CMP_WC_STAT_LAT_HI w) || s.flag (Fld.CMP_WC_STAT_LAT_LO w)),
    anyFlag s Fld.CMP_WC_STAT_TS_FAIL, anyFlag s Fld.CMP_WC_STAT_RB_FAIL, anyFlag s Fld.CMP_WC_STAT_TS_SKIP,
    anyFlag s Fld.CMP_WC_STAT_WR_IGN]

/-- SDM lines (R127). -/
def sdmLines (s : State) : List Bool :=
  [(List.finRange 32).any fun k => s.flag (Fld.SDM_CH_STATUS_WORD k) && s.bitOf .SDM_WORD_IE k.val,
    anyFlag s Fld.SDM_CHK_STAT_XMIS || anyFlag s Fld.SDM_SG_STAT_SMIS_A || anyFlag s Fld.SDM_SG_STAT_SMIS_B,
    anyFlag s Fld.SDM_CHK_STAT_XLIMIT || anyFlag s Fld.SDM_SG_STAT_SLIMIT, anyFlag s Fld.SDM_CH_STATUS_STUCK,
    anyFlag s Fld.SDM_CH_STATUS_FTRIP, anyFlag s Fld.SDM_CH_STATUS_WIN_LOST || anyFlag s Fld.SDM_CH_STATUS_SAT,
    anyFlag s Fld.SDM_CH_STATUS_WR_IGN]

/-- MCV lines (R397). -/
def mcvLines (s : State) : List Bool :=
  [anyFlag s Fld.MCV_C_STATUS_DONE, anyFlag s Fld.MCV_C_STATUS_INJ_DONE, anyFlag s Fld.MCV_C_STATUS_OVF,
    anyFlag s Fld.MCV_C_STATUS_OVR, anyFlag s Fld.MCV_C_STATUS_TRG_LOST || anyFlag s Fld.MCV_C_STATUS_INJ_LOST,
    anyFlag s Fld.MCV_C_STATUS_ABORT, anyFlag s Fld.MCV_C_STATUS_MAINS_INV || anyFlag s Fld.MCV_C_STATUS_UNSET,
    anyFlag s Fld.MCV_C_STATUS_WR_IGN || s.flag Fld.MCV_REF_WR_IGN]

/-- AUX lines (R297). -/
def auxLines (s : State) : List Bool :=
  [anyFlag s Fld.AUX_CH_STATUS_STATE_CHG, anyFlag s Fld.AUX_CH_STATUS_ZC_LOST, anyFlag s Fld.AUX_CH_STATUS_RESYNC,
    anyFlag s Fld.AUX_CH_STATUS_FAIL, anyFlag s Fld.AUX_CH_STATUS_LATE_COM,
    anyFlag s Fld.AUX_CH_STATUS_PK_STUCK || anyFlag s Fld.AUX_CH_STATUS_TRIPPED, anyFlag s Fld.AUX_CH_STATUS_WR_IGN]

/-- LOOP lines (R165). -/
def loopLines (s : State) : List Bool :=
  [s.flag Fld.LOOP_STATUS_COMMIT_MISS, s.flag Fld.LOOP_STATUS_SLOW,
    s.flag Fld.LOOP_STATUS_RETIRE || s.flag Fld.LOOP_STATUS_NO_SPARE, s.flag Fld.LOOP_STATUS_REL_LOST,
    s.flag Fld.LOOP_STATUS_BUDGET_OVR, s.flag Fld.LOOP_STATUS_CONFLICT,
    s.flag Fld.LOOP_STATUS_WR_IGN || s.flag Fld.LOOP_STATUS_ACC_ERR]

/-- ASY lines (R374). -/
def asyLines (s : State) : List Bool := (List.range 6).map fun j => s.bitOf .ASY_STATUS j

/-- ANV lines (R350). -/
def anvLines (s : State) : List Bool :=
  [s.flag Fld.ANV_STATUS_DEV_REACT || s.sv = svLatched, anyFlag s Fld.ANV_AX_STAT_REACT_ACT, s.flag Fld.ANV_STATUS_CUT,
    anyFlag s Fld.ANV_AX_STAT_SEL, anyFlag s Fld.ANV_AX_STAT_SS1_RUN,
    anyFlag s Fld.ANV_AX_STAT_SLS_ACT || anyFlag s Fld.ANV_AX_STAT_SDI_ACT,
    s.flag Fld.ANV_STATUS_WD_EXP || s.flag Fld.ANV_STATUS_SSPI_ERR,
    s.flag Fld.ANV_PSTAT_DONE && !s.flag Fld.ANV_PSTAT_CONFIRMED]

/-- HLM lines (R418). -/
def hlmLines (s : State) : List Bool :=
  [s.flag Fld.HLM_STATUS_FLUSHED, s.flag Fld.HLM_STATUS_TORN || s.flag Fld.HLM_STATUS_EMPTY, s.flag Fld.HLM_STATUS_SAT,
    s.flag Fld.HLM_STATUS_LOST || s.flag Fld.HLM_STATUS_TALLY_FULL, s.flag Fld.HLM_STATUS_RECONF,
    s.flag Fld.HLM_STATUS_WR_IGN]

/-- The two lines of a line-bus controller (R453). -/
def lbLines (c : Fin 4) (s : State) : List Bool :=
  let w := s.rd (.LB_IRQ_EN c)
  let data := [lbWatermark s c, s.flag (Fld.LB_STATUS_RXB c),
    (List.finRange 2).any fun h => s.rd (.LB_TXDONE c h) != 0#32]
  let evt := [s.flag (Fld.LB_STATUS_TXFAIL c), s.flag (Fld.LB_STATUS_IDCOL c), s.flag (Fld.LB_STATUS_SCHED_VIOL c),
    s.flag (Fld.LB_STATUS_RXF_OVF c),
    s.flag (Fld.LB_STATUS_REF_MISS c) || s.flag (Fld.LB_STATUS_TAKEOVER c) || s.flag (Fld.LB_STATUS_DISC c) ||
      s.flag (Fld.LB_STATUS_GT_ERR c) || s.flag (Fld.LB_STATUS_RATE_ERR c),
    s.flag (Fld.LB_STATUS_ERR_PASSIVE c) || s.flag (Fld.LB_STATUS_BUS_OFF c),
    s.flag (Fld.LB_STATUS_CFG_ERR c) || s.flag (Fld.LB_STATUS_WR_IGN c)]
  [bitsWord data &&& w != 0#32, (bitsWord evt <<< 8) &&& w != 0#32]

/-- DMA lines (R44). -/
def dmaLines (s : State) : List Bool :=
  let on := s.rd .DMA_STATUS &&& s.rd .DMA_IE
  (List.range 8).map fun m => on.getLsbD (2 * m) || on.getLsbD (2 * m + 1) || on.getLsbD (16 + 2 * m) || on.getLsbD (17 + 2 * m)

/-- The levels of a block's eight lines, with its enables. -/
def enLines (s : State) (en : Reg) (l : List Bool) : Nat := (bitsWord l &&& s.rd en).toNat % 256

/-- The eight lines of a block, in the order of R45. -/
def blockLines (s : State) (b : Nat) : Nat :=
  match b with
  | 0 => enLines s .SYS_IRQ_EN (sysLines s)
  | 1 => enLines s .MBX_IRQ_EN (mbxLines s)
  | 2 => enLines s .MAN_IRQ_EN (manLines s)
  | 3 => enLines s .FBK_IRQ_EN (fbkLines s)
  | 4 => enLines s .PWM_IRQ_EN (pwmLines s)
  | 5 => enLines s .QNC_IRQ_EN (qncLines s)
  | 6 => enLines s .CMP_IRQ_EN (cmpLines s)
  | 7 => enLines s .SDM_IRQ_EN (sdmLines s)
  | 8 => enLines s .MCV_IRQ_EN (mcvLines s)
  | 9 => enLines s .AUX_IRQ_EN (auxLines s)
  | 10 => enLines s .LOOP_IRQ_EN (loopLines s)
  | 11 => enLines s .ASY_IRQ_EN (asyLines s)
  | 12 => enLines s .ANV_IRQ_EN (anvLines s)
  | 13 => enLines s .HLM_IRQ_EN (hlmLines s)
  | 14 => (bitsWord (lbLines 0 s ++ lbLines 1 s ++ lbLines 2 s ++ lbLines 3 s)).toNat
  | 15 => (bitsWord (dmaLines s)).toNat
  | _ => 0

/-- The level of a line (R45, R46). -/
def State.line (s : State) (l : Fin 128) : Bool := (blockLines s (l.val / 8)).testBit (l.val % 8)

/-- IPENDk (R141). -/
def ipend (k : Nat) (s : State) : Word :=
  BitVec.ofNat 32 (blockLines s (4 * k) + 2 ^ 8 * blockLines s (4 * k + 1) + 2 ^ 16 * blockLines s (4 * k + 2) +
    2 ^ 24 * blockLines s (4 * k + 3))

end Sys2Proof.Machine
end

