-- ==== Sys2Proof/Machine/Csr.lean ====
section
/-! DEFINITION. The cores' registers as instructions and the debug port see them (R136, R141, R376). -/

namespace Sys2Proof.Machine

open Sys2Proof

/-! ## Copies of a core -/

/-- A copy of a pair's core: the checker's, or the lead's. -/
def State.copyOf (s : State) (p : Fin 25) (checker : Bool) : Core :=
  match loopPair p with
  | some q => if checker then (s.lp q).chk else (s.lp q).lead
  | none => if checker then s.ken.chk else s.ken.lead

/-- A copy of a pair's core changed. -/
def State.modCopy (s : State) (p : Fin 25) (checker : Bool) (f : Core → Core) : State :=
  match loopPair p with
  | some q => s.modLp q fun l => if checker then { l with chk := f l.chk } else { l with lead := f l.lead }
  | none => { s with ken := if checker then { s.ken with chk := f s.ken.chk } else { s.ken with lead := f s.ken.lead } }

/-- An integer register; x0 reads 0 (R136). -/
def Core.getX (c : Core) (r : Fin 32) : Word := if r = 0 then 0#32 else c.x[r]

/-- An integer register written; x0 ignores it (R136). -/
def Core.setX (c : Core) (r : Fin 32) (w : Word) : Core := if r = 0 then c else { c with x := vset c.x r w }

/-- An FP32 register written. -/
def Core.setF (c : Core) (r : Fin 32) (w : Word) : Core := { c with f := vset c.f r w }

/-! ## Control registers (R141) -/

/-- A control register of a copy at a core cycle. -/
def csrRead (s : State) (p : Fin 25) (checker : Bool) (cyc n : Nat) : Word :=
  let c := s.copyOf p checker
  match n with
  | 0x000 =>
    match loopPair p with
    | some q => BitVec.ofNat 32 (cyc - (s.lp q).start)
    | none => BitVec.ofNat 32 cyc
  | 0x001 => BitVec.ofNat 32 (bit c.pv)
  | 0x002 => c.fflags.setWidth 32
  | 0x003 => BitVec.ofNat 32 p.val
  | n =>
    if p.val < 24 then 0#32
    else match n with
      | 0x010 => s.ken.vbase
      | 0x011 => s.ken.epc
      | 0x012 => s.ken.ecause
      | 0x013 => BitVec.ofNat 32 (bit s.ken.ien)
      | 0x020 => s.ken.imask[0]
      | 0x021 => s.ken.imask[1]
      | 0x022 => s.ken.imask[2]
      | 0x023 => s.ken.imask[3]
      | 0x024 => ipend 0 s
      | 0x025 => ipend 1 s
      | 0x026 => ipend 2 s
      | 0x027 => ipend 3 s
      | _ => 0#32

/-- A control register written; numbers the core does not have and RO registers are left (R141). Kenow's own registers are written once
for both copies. -/
def csrWrite (p : Fin 25) (checker : Bool) (n : Nat) (v : Word) (s : State) : State :=
  match n with
  | 0x002 => s.modCopy p checker fun c => { c with fflags := v.extractLsb' 0 5 }
  | n =>
    if p.val < 24 || checker then s
    else match n with
      | 0x010 => { s with ken := { s.ken with vbase := v &&& 0xFFFFFF00#32 } }
      | 0x011 => { s with ken := { s.ken with epc := v } }
      | 0x013 => { s with ken := { s.ken with ien := v.getLsbD 0 } }
      | 0x020 => { s with ken := { s.ken with imask := vset s.ken.imask 0 v } }
      | 0x021 => { s with ken := { s.ken with imask := vset s.ken.imask 1 v } }
      | 0x022 => { s with ken := { s.ken with imask := vset s.ken.imask 2 v } }
      | 0x023 => { s with ken := { s.ken with imask := vset s.ken.imask 3 v } }
      | _ => s

/-! ## The registers of the debug block that show a core (R367, R376) -/

/-- The pair that DBG_SEL names. -/
def dbgPair (s : State) : Fin 25 := ⟨s.f Fld.DBG_SEL_PAIR % 25, Nat.mod_lt _ (by decide)⟩

/-- A register of a core as DBG_REG numbers it: 0 to 31 integer, 32 to 63 FP32, 64 to 127 control. -/
def coreReg (s : State) (p : Fin 25) (checker : Bool) (n : Nat) : Word :=
  let c := s.copyOf p checker
  if n < 32 then c.getX ⟨n % 32, Nat.mod_lt _ (by decide)⟩
  else if n < 64 then c.f[(⟨(n - 32) % 32, Nat.mod_lt _ (by decide)⟩ : Fin 32)]
  else csrRead s p checker s.time (n - 64)

/-- A register of the lead written by debug: the checker takes its state at the resume (R367, R368). -/
def coreRegWrite (p : Fin 25) (n : Nat) (v : Word) (s : State) : State :=
  if n < 32 then s.modCopy p false fun c => c.setX ⟨n % 32, Nat.mod_lt _ (by decide)⟩ v
  else if n < 64 then s.modCopy p false fun c => c.setF ⟨(n - 32) % 32, Nat.mod_lt _ (by decide)⟩ v
  else csrWrite p false (n - 64) v s

end Sys2Proof.Machine
end

