-- ==== Sys2Proof/Machine/Bus.lean ====
section
/-! DEFINITION. The agent's view of the address map (R5, R33 to R36, R485): reads with their effects, and writes handed to the operations
of the blocks. The debug port uses the same view (R372). -/

namespace Sys2Proof.Machine

open Sys2Proof

/-! ## The map (R33) -/

/-- What lies at an address. -/
inductive Region where
  | rom | kenow | sram | crucible | ferro
  | engine (p : Fin 24)
  | block | lbRam | nothing
  deriving DecidableEq, Repr

/-- The region of an address. -/
def regionOf (a : Nat) : Region :=
  if a < 0x10000 then .rom
  else if 0x08000000 ≤ a ∧ a < 0x08080000 then .kenow
  else if 0x10000000 ≤ a ∧ a < 0x103F0000 then .sram
  else if 0x103F0000 ≤ a ∧ a < 0x10400000 then .crucible
  else if 0x20000000 ≤ a ∧ a < 0x20800000 then .ferro
  else if 0x30000000 ≤ a ∧ a < 0x30180000 then .engine ⟨(a - 0x30000000) / 0x10000 % 24, Nat.mod_lt _ (by decide)⟩
  else if 0x40000000 ≤ a ∧ a < 0x40114000 then .block
  else if 0x40120000 ≤ a ∧ a < 0x40140000 then .block
  else if 0x50000000 ≤ a ∧ a < 0x50040000 then .lbRam
  else .nothing

/-- Words of the blocks that are memory: the mailbox slots, the pattern memory and the Anvil's tables (R221, R352, R460). -/
def blockMem (a : Nat) : Bool :=
  (0x40010800 ≤ a && a < 0x40011800) || (0x40060000 ≤ a && a < 0x40080000) || (0x400F4000 ≤ a && a < 0x400F6200)

/-! ## Reads -/

/-- PWM_PAD as read: the AX groups are not driven while the Anvil domain has failed (R27, R216). -/
def padReg (s : State) : Word := if s.anv.failed then s.rd .PWM_PAD &&& 0xFFFFFFF0#32 else s.rd .PWM_PAD

/-- LOOP_STATUS with the numbers of active pairs and spares (R166). -/
def loopStatus (s : State) : Word :=
  let on := (List.finRange 24).filter fun p => s.pairSt p = pairActive
  wPut (wPut (s.rd .LOOP_STATUS) 16 5 on.length) 24 5 (on.filter fun p => s.isSpare p).length

/-- LOOP_Pp_STATE (R166). -/
def pairState (p : Fin 24) (s : State) : Word :=
  wPut (wPut (wPut (s.rd (.LOOP_P_STATE p)) 3 1 (bit (s.isSpare p))) 4 1 (bit (s.lp p).run.isSome)) 16 9 (homedCount s p)

/-- A mask of pairs. -/
def pairMask (f : Fin 25 → Bool) : Word := bitsWord ((List.finRange 25).map f)

/-- DBG_STATUS (R376). -/
def dbgStatus (s : State) : Word :=
  wPut (s.rd .DBG_STATUS ||| pairMask s.isHalted) 25 1 (bit ((List.finRange 25).any fun p => (s.copyTill p).isSome))

/-- ANV_SBC_STAT (R351). -/
def sbcStat (s : State) : Word :=
  wPut (s.rd .ANV_SBC_STAT) 0 4 (bit (sbcOut s 0) + 2 * bit (sbcOut s 1) + 4 * bit (sbcFb s 0).1 + 8 * bit (sbcFb s 1).1)

/-- A register as the hardware forms it at a read, where that is more than the word it holds. -/
def shownReg (r : Reg) (s : State) : Word :=
  match r with
  | .SYS_GPIO_IN => s.sys.sync
  | .SYS_GPIO_OWN => gpioOwned s
  | .MAN_AG_SUM => manSum s
  | .FBK_SUM => fbkSum s
  | .SDM_SUM => sdmSum s
  | .PWM_SUM => pwmSum s
  | .CMP_SUM k => cmpSum k s
  | .AUX_SUM => auxSum s
  | .MCV_SUM => mcvSum s
  | .PWM_PAD => padReg s
  | .PWM_G_CNT g => BitVec.ofNat 32 (s.gCnt g)
  | .PWM_G_PAT_STATUS g =>
    if s.f (Fld.PWM_G_PSEL_ACT_PSEL g) = 0 && (s.grp (axGroup g)).hov ≤ s.now then wPut (s.rd r) 16 1 0 else s.rd r
  | .PWM_DSC_VLINK => vlinkWord s
  | .PWM_DSC_DSG_STAT => dsgStatWord s
  | .QNC_G_STATE g => if g.val = 14 then wPut (s.rd r) 16 1 (bit s.dsgRun) else s.rd r
  | .ANV_SBC_STAT => sbcStat s
  | .LOOP_STATUS => loopStatus s
  | .LOOP_P_STATE p => pairState p s
  | .ASY_ACTIVE => pairMask s.compared
  | .DBG_HALT => pairMask s.isHalted
  | .DBG_STATUS => dbgStatus s
  | .DBG_PC => (s.copyOf (dbgPair s) (s.flag Fld.DBG_SEL_CORE)).pc
  | .DBG_REGDATA => coreReg s (dbgPair s) (s.flag Fld.DBG_SEL_CORE) (s.f Fld.DBG_REG_REG)
  | .LB_STATUS c => wPut (s.rd r) 14 1 (bit (lbWatermark s c))
  | .MBX_SLOTS => slotsBefore s
  | .MBX_EVT => evtBefore s
  | r => s.rd r

/-- A read of a register, with what it captures (R20, R76, R105, R454). The core's PC and registers have no stated value while the pair is
not halted (R367, R376). -/
def readReg (r : Reg) (s : State) : Word × State :=
  match r with
  | .SYS_TIME_LO => timeRead s
  | .MAN_AG_ELEC n => elecRead n s
  | .MAN_AG_LATCH_POS n => latchRead n s
  | .FBK_SSI_ST n => ssiRead n s
  | .LB_GT_LO c => lbGtRead c s
  | .DBG_PC => if s.isHalted (dbgPair s) then (shownReg r s, s) else s.takeWord
  | .DBG_REGDATA => if s.isHalted (dbgPair s) then (shownReg r s, s) else s.takeWord
  | r => (shownReg r s, s)

/-- An aligned word read from the blocks' part of the map: what has no register reads 0. -/
def blockRead (a : Nat) (s : State) : Word × State :=
  if blockMem a then (s.memW a, s)
  else if 0x40010100 ≤ a ∧ a < 0x40010118 then (hostReg (a - 0x40010100) s, s)
  else match Reg.ofAddr? a with
    | some r => readReg r s
    | none => (0#32, s)

/-- The bytes from an address on as a word. -/
def bytesAt (get : Nat → Byte) (a width : Nat) : Word :=
  BitVec.ofNat 32 ((List.range width).foldl (fun n i => n + (get (a + i)).toNat * 256 ^ i) 0)

/-- A read of 1, 2 or 4 bytes at an address aligned to them (R5, R33, R34). One of ferroelectric memory stalls until the end of a flush that
writes it (R416). -/
def busRead (a width : Nat) (s : State) : Word × State :=
  match regionOf a with
  | .rom => (bytesAt Config.bootRom a width, s)
  | .block => if width = 4 then blockRead a s else (0#32, s)
  | .nothing => (0#32, unmapped (BitVec.ofNat 32 a) s)
  | .ferro =>
    let s := flushEnd s
    (bytesAt (memGet s.mem) a width, s)
  | .engine p =>
    let s := unitFlush p s.time s
    (bytesAt (memGet s.mem) a width, s)
  | _ => (bytesAt (memGet s.mem) a width, s)

/-- An aligned 32-bit read with the agent's view (R41). -/
def agentRead (a : Nat) (s : State) : Word × State := busRead (a / 4 * 4) 4 s

/-! ## Writes of registers -/

/-- The ones of a register's RWL fields. -/
def rwlMask (r : Reg) : Word := r.rows.foldl (fun w f => if f.acc = .rwl then w ||| wMask f.lo f.width else w) 0#32

/-- A write to SYS registers (R31, R37, R496). -/
def sysRegWrite (r : Reg) (v : Word) (s : State) : State :=
  match r with
  | .SYS_STATE_REQ => stateRequest (wGet v 0 3) (v.extractLsb' 16 16) s
  | .SYS_AX_STATE => axStateWrite v s
  | .SYS_FAULT_CLR => if v.getLsbD 0 then clearFaults s else s
  | .SYS_GPIO_DIR => gpioPut .SYS_GPIO_DIR v s
  | .SYS_GPIO_OUT => gpioPut .SYS_GPIO_OUT v s
  | .SYS_GPIO_SET => gpioPut .SYS_GPIO_OUT (s.rd .SYS_GPIO_OUT ||| v) s
  | .SYS_GPIO_CLR => gpioPut .SYS_GPIO_OUT (s.rd .SYS_GPIO_OUT &&& ~~~v) s
  | .SYS_CFG_LOCK => configLock (v.extractLsb' 16 16) s
  | .SYS_SWRST => softwareReset (v.extractLsb' 16 16) s
  | .SYS_FUSE_CMD => fuseCmd (wGet v 0 2) (v.extractLsb' 16 16) s
  | .SYS_FUSE_HASH i => fuseHashWrite i v s
  | r => writePlain r v s

/-- A write to MBX registers (R473). -/
def mbxRegWrite (r : Reg) (v : Word) (s : State) : State :=
  match r with
  | .MBX_POST => agentEvt (v.extractLsb' 16 8) (agentGrant (v.extractLsb' 8 8) (agentRsp (v.extractLsb' 0 8) s))
  | r => writePlain r v s

/-- A write to MAN registers (R76, R77). -/
def manRegWrite (r : Reg) (v : Word) (s : State) : State :=
  match r with
  | .MAN_AG_CTL n => genCtlWrite n v s
  | .MAN_AG_CPR n => genScaleWrite n r v s
  | .MAN_AG_GEAR_DEN n => genScaleWrite n r v s
  | .MAN_AG_PP n => genScaleWrite n r v s
  | .MAN_AG_GEAR_NUM n => gearWrite n v s
  | .MAN_AG_EOFS n => eofsWrite n v s
  | .MAN_AM_CTL m => markCtlWrite m v s
  | .MAN_AM_ANGLE m => markAngleWrite m v s
  | r => writePlain r v s

/-- A write to FBK registers (R101, R105, R106). -/
def fbkRegWrite (r : Reg) (v : Word) (s : State) : State :=
  match r with
  | .FBK_QE_CTL n => qeCtlWrite n v s
  | .FBK_QE_MOD n => qeGuardedWrite n r v s
  | .FBK_QE_CNT n => qeGuardedWrite n r v s
  | .FBK_QE_IDX_CTL n =>
    let s := writePlain r v (qeSettle n s.time s)
    if v.getLsbD 2 then qeArm n s else s
  | .FBK_QE_FILT n => writePlain r v (qeSettle n s.time s)
  | .FBK_QE_IDX_CNT n => writePlain r v (qeSettle n s.time s)
  | .FBK_QE_ERRLIM n => writePlain r v (qeSettle n s.time s)
  | .FBK_QE_CAP_CTL n =>
    let s := writePlain r v s
    if v.getLsbD 11 then qeSwTrigger n s else s
  | .FBK_QE_CLR n =>
    let s := if v.getLsbD 0 then qeClearDs n s else s
    if v.getLsbD 1 then qeClearIdx n s else s
  | .FBK_SSI_CTL n =>
    let s := ssiCtlWrite n v s
    if v.getLsbD 15 then ssiSwTrigger n s else s
  | .FBK_SSI_CLK n => ssiGuardedWrite n r (rwlMask r) v s
  | .FBK_SSI_FRAME n => ssiGuardedWrite n r (rwlMask r) v s
  | .FBK_SSI_ERR n => ssiGuardedWrite n r (rwlMask r) v s
  | r => writePlain r v s

/-- A write to SDM registers (R128, R129). -/
def sdmRegWrite (r : Reg) (v : Word) (s : State) : State :=
  match r with
  | .SDM_CH_CTL k => sdmCtlWrite k v s
  | .SDM_CK_CTL j => sdmClockWrite ⟨j.val % 8, Nat.mod_lt _ (by decide)⟩ v s
  | .SDM_CHK_CTL m => chkCtlWrite m v s
  | .SDM_SG_CTL _ => sdmSettle (writePlain r v s)
  | .SDM_SWTRG => sdmSwTrigger v s
  | .SDM_CNT_CLR => groupClear (v.extractLsb' 16 4) (pairClear (v.extractLsb' 0 16) s)
  | r => writePlain r v s

/-- A write to QNC and CMP registers (R245, R246, R250, R254, R259, R270, R271). QNC_SAFESEL belongs to the Anvil (R260). -/
def qncRegWrite (r : Reg) (v : Word) (s : State) : State :=
  match r with
  | .QNC_CLR k => latchClear k v s
  | .QNC_ASC_DLY k => delayWrite (.asc k) v s
  | .QNC_ASC_DLY_C k => complementWrite (.asc k) v s
  | .CMP_TS_CTL => tsCtlWrite v s
  | .CMP_WC_CTL w => cmpWrite w true v s
  | .CMP_WC_TH w => cmpWrite w false v s
  | .CMP_WC_STAT w => cmpApply w s.now (writePlain r v s)
  | r => qncConfigWrite r v s

/-- A write to AUX registers (R286 to R299). -/
def auxRegWrite (r : Reg) (v : Word) (s : State) : State :=
  match r with
  | .AUX_CH_CMD n => if wGet v 0 2 = 1 then auxStart n s else if wGet v 0 2 = 2 then auxStop n s else if wGet v 0 2 = 3 then auxClear n s else s
  | .AUX_CH_CTL n => auxConfigWrite n r v s
  | .AUX_CH_ZC n => auxConfigWrite n r v s
  | .AUX_CH_IPK n => auxConfigWrite n r v s
  | .AUX_CH_SPD n => auxConfigWrite n r v s
  | .AUX_CH_ADV n _ => auxConfigWrite n r v s
  | .AUX_CH_START n => auxConfigWrite n r v s
  | .AUX_CH_RAMP n => auxConfigWrite n r v s
  | r => writePlain r v s

/-- A write to HLM registers (R408, R410, R419). -/
def hlmRegWrite (r : Reg) (v : Word) (s : State) : State :=
  match r with
  | .HLM_CMD =>
    let s := if v.getLsbD 0 then takeCause 4#5 s else s
    if v.getLsbD 1 then hlmSnapCmd s else s
  | .HLM_CLR => hlmClear (v.extractLsb' 0 4) (v.extractLsb' 16 16) s
  | .HLM_CNT_INC => hlmCntInc v s
  | .HLM_H_CTL h => histCtlWrite h v s
  | .HLM_X_CTL e => extCtlWrite e v s
  | r => hlmFieldWrite r v s

/-- WR_IGN of a DMA channel. -/
def dmaIgn (c : Fin 16) (s : State) : State := s.raise (Fld.DMA_CH_STAT_WR_IGN c)

/-- A buffer lies in shared SRAM below the Crucible (R43). -/
def dmaFits (s : State) (c : Fin 16) : Bool :=
  let a := s.f (Fld.DMA_CH_DST_ADDR c) * 4
  0x10000000 ≤ a && a + 4 * s.f (Fld.DMA_CH_LEN_LEN c) ≤ 0x103F0000

/-- The requests that reached a channel in the present peripheral cycle are discarded (R44). -/
def dmaDiscard (c : Fin 16) (s : State) : State :=
  let s := if s.flag (Fld.DMA_CH_STAT_PEND c) && s.dma.accepted[c] = s.perCycle then s.lower (Fld.DMA_CH_STAT_PEND c) else s
  if s.dma.ovrCyc[c] = some s.perCycle then s.putBit .DMA_STATUS (16 + c.val) false else s

/-- A write of EN = 1 that has no effect (R43): REQ is reserved, or the buffer does not fit. -/
def dmaEnRefused (s : State) (c : Fin 16) (v : Word) : Bool := (56 ≤ wGet v 1 6 && wGet v 1 6 ≤ 62) || !dmaFits s c

/-- A channel enabled, or enabled again (R43, R44): WIDX is 0, and requests of this cycle are discarded. -/
def dmaStart (c : Fin 16) (s : State) : State :=
  let s := (dmaDiscard c s).setF (Fld.DMA_CH_STAT_WIDX c) 0
  { s with dma := { s.dma with enCyc := vset s.dma.enCyc c (some s.perCycle) } }

/-- A write to DMA_CHc_CTL (R43, R44): EN may change; the other fields only while EN = 0, and a write of EN = 1 is checked. EN = 0
discards an accepted request and waits for a running burst's end. DESIGN CHOICE (log entry 37): a write of EN = 1 during a running burst
for whose end EN = 0 waits takes back the EN = 0. -/
def dmaCtlWrite (c : Fin 16) (v : Word) (s : State) : State :=
  if v.getLsbD 0 && dmaEnRefused s c v then dmaIgn c s
  else if s.flag (Fld.DMA_CH_CTL_EN c) then
    let s := if (s.rd (.DMA_CH_CTL c) ^^^ writeMerged s (.DMA_CH_CTL c) v) &&& 0x1FFE#32 = 0#32 then s else dmaIgn c s
    if v.getLsbD 0 then
      let s := dmaStart c s
      { s with dma := { s.dma with offAtEnd := s.dma.offAtEnd &&& ~~~(1#16 <<< c.val) } }
    else
      let s := (dmaDiscard c s).lower (Fld.DMA_CH_STAT_PEND c)
      if s.flag (Fld.DMA_CH_STAT_BUSY c) then
        { s with dma := { s.dma with offAtEnd := s.dma.offAtEnd ||| (1#16 <<< c.val) } }
      else s.lower (Fld.DMA_CH_CTL_EN c)
  else if v.getLsbD 0 then dmaStart c (s.wr (.DMA_CH_CTL c) (v &&& 0x1FFF#32))
  else writePlain (.DMA_CH_CTL c) v s

/-- A write to SRC, DST or LEN of a channel (R43). -/
def dmaFieldWrite (c : Fin 16) (r : Reg) (v : Word) (s : State) : State :=
  if s.flag (Fld.DMA_CH_CTL_EN c) then writeGuarded r v (BitVec.allOnes 32) (dmaIgn c) s else writePlain r v s

/-- Request 63 of a channel (R40). -/
def dmaSoftware (c : Fin 16) (s : State) : State :=
  if s.flag (Fld.DMA_CH_CTL_EN c) && s.f (Fld.DMA_CH_CTL_REQ c) = 63 then postDma 63 (some c) s else s

/-- A write to DMA registers (R43). -/
def dmaRegWrite (r : Reg) (v : Word) (s : State) : State :=
  match r with
  | .DMA_CH_CTL c => dmaCtlWrite c v s
  | .DMA_CH_SRC c => dmaFieldWrite c r v s
  | .DMA_CH_DST c => dmaFieldWrite c r v s
  | .DMA_CH_LEN c => dmaFieldWrite c r v s
  | .DMA_CH_SWREQ c => if v.getLsbD 0 then dmaSoftware c s else s
  | r => writePlain r v s

/-- A write to a register of the ANV block: none after lock (R36). -/
def anvRegWrite (r : Reg) (v : Word) (s : State) : State := if s.locked then s else writePlain r v s

/-- A write to a register of the ASY block. -/
def asyRegWrite (r : Reg) (v : Word) (s : State) : State :=
  match r with
  | .ASY_CFG => asyCfgWrite v s
  | r => writePlain r v s

/-- An aligned word written to the blocks' part of the map; agent writes to the DBG block have no effect (R376). -/
def blockWrite (a : Nat) (v : Word) (s : State) : State :=
  if 0x40010800 ≤ a ∧ a < 0x40011800 then s.setMemW a v
  else if 0x40060000 ≤ a ∧ a < 0x40080000 then patWrite ((a - 0x40060000) / 4) v s
  else if 0x400F4000 ≤ a ∧ a < 0x400F6200 then (if s.locked then s else s.setMemW a v)
  else match Reg.ofAddr? a with
    | none => s
    | some r =>
      let b := a / 0x10000
      if b = 0x4000 then sysRegWrite r v s
      else if b = 0x4001 then mbxRegWrite r v s
      else if b = 0x4002 then manRegWrite r v s
      else if b = 0x4003 then fbkRegWrite r v s
      else if b < 0x4008 then pwmRegWrite r v s
      else if b < 0x400A then qncRegWrite r v s
      else if b = 0x400A then sdmRegWrite r v s
      else if b = 0x400B then mcvRegWrite r v s
      else if b = 0x400C then auxRegWrite r v s
      else if b = 0x400D then loopRegWrite r v s
      else if b = 0x400E then asyRegWrite r v s
      else if b = 0x400F then anvRegWrite r v s
      else if b = 0x4010 then hlmRegWrite r v s
      else if b = 0x4011 then lbRegWrite r v s
      else if b = 0x4012 then dmaRegWrite r v s
      else s

/-! ## Writes of memory -/

/-- The low bytes of a word put into memory. -/
def memPut (a width : Nat) (v : Word) (m : List Host.Cell) : List Host.Cell :=
  (List.range width).foldl (fun m i => memSet m (a + i) (v.extractLsb' (8 * i) 8)) m

/-- Both copies of a core's memory written. -/
def putBoth (a width : Nat) (v : Word) (s : State) : State :=
  { s with mem := memPut a width v s.mem, chk := memPut a width v s.chk }

/-- A write into the window of a pair (R35): none while the pair runs a task. -/
def windowWrite (p : Fin 24) (a width : Nat) (v : Word) (s : State) : State :=
  if (s.lp p).run.isSome then refused s else putBoth a width v (unitFlush p s.time s)

/-- The parts of ferroelectric memory that the agent may write (R485). -/
def ferroFree (a : Nat) : Bool := 0x20600100 ≤ a && !(0x20700000 ≤ a && a < 0x20708000)

/-- The low bytes of a word with the others of a memory word. -/
def mergeBytes (old : Word) (off width : Nat) (v : Word) : Word := wPut old (8 * off) (8 * width) (v.toNat % 2 ^ (8 * width))

/-- A write of 1, 2 or 4 bytes at an address aligned to them (R5, R33 to R36, R485). One of ferroelectric memory stalls as a read does
(R416). -/
def busWrite (a width : Nat) (v : Word) (s : State) : State :=
  match regionOf a with
  | .rom => s
  | .kenow => putBoth a width v s
  | .sram => { s with mem := memPut a width v s.mem }
  | .crucible => s
  | .ferro =>
    let s := flushEnd s
    if ferroFree a then { s with mem := memPut a width v s.mem } else refused s
  | .engine p => windowWrite p a width v s
  | .block => if width = 4 then agentTurn (blockWrite a v) s else s
  | .lbRam => lbRamWrite (a / 4 * 4) (mergeBytes (s.memW (a / 4 * 4)) (a % 4) width v) s
  | .nothing => unmapped (BitVec.ofNat 32 a) s

/-- An aligned access: its width is 1, 2 or 4 bytes and divides its address. -/
def accessOk (a width : Nat) : Bool := (width = 1 || width = 2 || width = 4) && a % width = 0

/-- A register write of any width or alignment: one that is not a whole aligned word has no effect on a register (R5). -/
def agentWrite (a width : Nat) (v : Word) (s : State) : State :=
  if accessOk a width then busWrite a width v s
  else if regionOf a = .nothing then unmapped (BitVec.ofNat 32 a) s
  else s

/-- UNMAPPED_ACCESS (R34). -/
def execUnmappedAccess (addr : Word) (isWrite : Bool) (s : State) : Host.Outcome State Fault Refusal :=
  .next (
    if regionOf addr.toNat = .nothing then
      let s := unmapped addr s
      if isWrite then s else { s with rdata := 0#32 }
    else s)

/-- ENGINE_MEMORY_WRITE (R35): an aligned word into the window of a pair. -/
def execEngineMemoryWrite (p : Fin 24) (offset : BitVec 16) (value : Word) (s : State) : Host.Outcome State Fault Refusal :=
  .next (if offset.toNat % 4 = 0 then windowWrite p (localBase p + offset.toNat) 4 value s else s)

end Sys2Proof.Machine
end

