-- ==== Sys2Proof/Machine/Dma.lean ====
section
/-! DEFINITION. The DMA channels (R40 to R44). -/

namespace Sys2Proof.Machine

open Sys2Proof

/-- A channel takes a request of a block, or its own software request (R40). -/
def dmaTakes (s : State) (q : DmaReq) (c : Fin 16) : Bool :=
  s.flag (Fld.DMA_CH_CTL_EN c) && s.f (Fld.DMA_CH_CTL_REQ c) = q.req && (q.ch.isNone || q.ch = some c) &&
    s.dma.enCyc[c] != some s.perCycle

/-- A request reaches a channel: it is accepted, or dropped with OVR while one is accepted or a burst runs (R42). -/
def dmaAccept (c : Fin 16) (s : State) : State :=
  if s.flag (Fld.DMA_CH_STAT_PEND c) || s.flag (Fld.DMA_CH_STAT_BUSY c) then
    let s := if s.bitOf .DMA_STATUS (16 + c.val) then s
      else { s with dma := { s.dma with ovrCyc := vset s.dma.ovrCyc c (some s.perCycle) } }
    s.raiseBit .DMA_STATUS (16 + c.val)
  else
    let s := s.setF (Fld.DMA_CH_STAT_PEND c) 1
    { s with dma := { s.dma with accepted := vset s.dma.accepted c s.perCycle } }

/-- DMA_REQUEST (R40, R42, R44): the oldest request on its way reaches the DMA block, one peripheral cycle after its event. -/
def execDmaRequest (s : State) : Host.Outcome State Fault Refusal :=
  .next (
    match s.dma.inbox with
    | [] => s
    | q :: rest =>
      let s := { s with dma := { s.dma with inbox := rest } }.advance q.at_
      (List.finRange 16).foldl (fun s c => if dmaTakes s q c then dmaAccept c s else s) s)

/-- DMA_SOFTWARE_REQUEST (R40). -/
def execDmaSoftwareRequest (c : Fin 16) (s : State) : Host.Outcome State Fault Refusal := .next (agentTurn (dmaSoftware c) s)

/-- DMA_CHANNEL_CTL_WRITE (R43). -/
def execDmaChannelCtlWrite (c : Fin 16) (value : Word) (s : State) : Host.Outcome State Fault Refusal :=
  .next (agentTurn (dmaCtlWrite c value) s)

/-- DMA_BURST_START (R42): with no burst running, the lowest channel with an accepted request starts, from the cycle after the
request's. -/
def execDmaBurstStart (s : State) : Host.Outcome State Fault Refusal :=
  .next (
    if (List.finRange 16).any fun c => s.flag (Fld.DMA_CH_STAT_BUSY c) then s
    else
      match (List.finRange 16).find? fun c => s.flag (Fld.DMA_CH_STAT_PEND c) with
      | none => s
      | some c =>
        let s := s.advance (4 * (s.dma.accepted[c] + 1))
        let s := (s.lower (Fld.DMA_CH_STAT_PEND c)).setF (Fld.DMA_CH_STAT_BUSY c) 1
        { s with dma := { s.dma with start := s.time } })

/-- The words of a burst from word `j` on (R41): each is read with the agent's view and written to the buffer; a full buffer wraps, or ends
the channel and the burst, and a further request of that cycle finds EN = 0 (R44). -/
def dmaWords (c : Fin 16) : Nat → Nat → State → State
  | 0, _, s => s
  | k + 1, j, s =>
    let src := s.f (Fld.DMA_CH_SRC_ADDR c) * 4
    let (w, s) := agentRead (if s.flag (Fld.DMA_CH_CTL_SRC_INC c) then src + 4 * j else src) s
    let i := s.f (Fld.DMA_CH_STAT_WIDX c)
    let s := (s.setMemW (s.f (Fld.DMA_CH_DST_ADDR c) * 4 + 4 * i) w).setF (Fld.DMA_CH_STAT_WIDX c) (i + 1)
    if i + 1 = s.f (Fld.DMA_CH_LEN_LEN c) then
      let s := s.raiseBit .DMA_STATUS c.val
      if s.flag (Fld.DMA_CH_CTL_CIRC c) then dmaWords c k (j + 1) (s.setF (Fld.DMA_CH_STAT_WIDX c) 0)
      else dmaDiscard c (s.lower (Fld.DMA_CH_CTL_EN c))
    else dmaWords c k (j + 1) s

/-- DMA_BURST_END (R41, R43): the last word of the running burst is written. The instant is told by `cyc`, since contention moves it
(R42 step 3); the words take the values of that instant. -/
def execDmaBurstEnd (cyc : Nat) (s : State) : Host.Outcome State Fault Refusal :=
  .next (
    match (List.finRange 16).find? fun c => s.flag (Fld.DMA_CH_STAT_BUSY c) with
    | none => s
    | some c =>
      let s := s.advance (max cyc s.dma.start)
      let s := dmaWords c (s.f (Fld.DMA_CH_CTL_BURST c) + 1) 0 s
      let s := s.lower (Fld.DMA_CH_STAT_BUSY c)
      if s.dma.offAtEnd.getLsbD c.val then
        { s.lower (Fld.DMA_CH_CTL_EN c) with dma := { s.dma with offAtEnd := s.dma.offAtEnd &&& ~~~(1#16 <<< c.val) } }
      else s)

end Sys2Proof.Machine
end

