-- ==== Sys2Proof/Machine/Gain.lean ====
section
/-! DEFINITION. The gain-table unit (06, R170 to R186): its operations on a loop record and on tables, as functions of what local
memory holds. Sums, products and quotients are FP32 operations made one after the other in the order in which the rules write them
(log entry 61). -/

namespace Sys2Proof.Machine

open Sys2Proof

/-- An IEEE 754 binary16 value as FP32, exactly. -/
def fOfHalf (h : BitVec 16) : Word :=
  let e := (h.extractLsb' 10 5).toNat
  let m := (h.extractLsb' 0 10).toNat
  let neg := h.getLsbD 15
  if e = 31 then (if m = 0 then fInf neg else fNaN)
  else if e = 0 then (fRound neg m (2 ^ 24)).1
  else (fRound neg ((m + 1024) * 2 ^ e) (2 ^ 25)).1

/-- A binary16 value is a NaN. -/
def hIsNaN (h : BitVec 16) : Bool := (h.extractLsb' 10 5).toNat = 31 && (h.extractLsb' 0 10).toNat != 0

/-- A natural number as FP32. -/
def fNat (n : Nat) : Word := (fRound false n 1).1

/-- min(max(v, lo), hi). -/
def fClamp (v lo hi : Word) : Word := (fMinMax false (fMinMax true v lo).1 hi).1

/-- a ≥ b. -/
def fGe (a b : Word) : Bool := (fCompare true b a).1

/-- Positive, or negative, and no zero. -/
def fPositive (w : Word) : Bool := !fSign w && !fIsZero w && !fIsNaN w
def fNegative (w : Word) : Bool := fSign w && !fIsZero w && !fIsNaN w

/-- The place of an argument in a table of 256 entries: the lower entry and the fraction. Where the position is no number the spec states
no result and the place comes from a free word. -/
def entryPlace (x : Word) (free : Word) : Nat × Word :=
  if fFinite x && !fNegative x then
    let i := min (fVal x).floor.toNat 254
    (i, (fSub x (fNat i)).1)
  else (free.toNat % 255, free)

/-- a + f × (b − a). -/
def fLerp (a b f : Word) : Word := (fAdd a (fMul f (fSub b a).1).1).1

/-! ## Table sets (R174, R176) -/

/-- A set lies in local memory with a valid header. -/
def setOk (get : Nat → Word) (b : Nat) : Bool :=
  b + 0x410 ≤ 0x10000 && fPositive (get b) && fFinite (get b) && wGet (get (b + 0x0C)) 0 8 = 1

/-- x of R176 for an error. -/
def setPlace (get : Nat → Word) (b : Nat) (e free : Word) : Nat × Word :=
  let m := get b
  let ec := fClamp e (fNegate m) m
  entryPlace (fDiv (fMul (fAdd ec m).1 (fNat 255)).1 (fMul (fNat 2) m).1).1 free

/-- Kp and Ki of a set at an error, or none where an entry that is read is a NaN. -/
def setGains (get : Nat → Word) (b : Nat) (e free : Word) : Option (Word × Word) :=
  let (i, f) := setPlace get b e free
  let w0 := get (b + 0x10 + 4 * i)
  let w1 := get (b + 0x10 + 4 * (i + 1))
  let kp0 := w0.extractLsb' 16 16
  let ki0 := w0.extractLsb' 0 16
  let kp1 := w1.extractLsb' 16 16
  let ki1 := w1.extractLsb' 0 16
  if hIsNaN kp0 || hIsNaN ki0 || hIsNaN kp1 || hIsNaN ki1 then none
  else
    some ((fMul (get (b + 4)) (fLerp (fOfHalf kp0) (fOfHalf kp1) f)).1, (fMul (get (b + 8)) (fLerp (fOfHalf ki0) (fOfHalf ki1) f)).1)

/-! ## PILUT -/

/-- The set selection of a loop record: ACT, NEXT, PREV, RAMP_K, and whether it was just switched. -/
structure PiSel where
  act : Nat
  next : Nat
  prev : Nat
  k : Nat
  switched : Bool := false
  deriving DecidableEq, Repr

/-- The promotion of R181 for the first PILUT on a record in an instance. Without scheduling NEXT counts as ACT. -/
def PiSel.promote (x : PiSel) (sched : Bool) (n : Nat) : PiSel :=
  if x.k < n then { x with k := x.k + 1 }
  else if sched && x.next != x.act then
    { act := x.next, next := x.next, prev := x.act, k := if n = 0 then 255 else 1, switched := true }
  else x

/-- The number of thresholds in use that `v` has reached after a shift (R179). -/
def passed (get : Nat → Word) (ra nset : Nat) (v : Word) (shift : Word → Word) : Nat :=
  ((List.range nset).filter fun j => fGe v (shift (get (ra + 0x0C + 4 * j)))).length

/-- NEXT (R179, R180). -/
def nextSet (get : Nat → Word) (ra : Nat) (cfg fv : Word) (act : Nat) : Nat :=
  let nset := wGet cfg 0 3
  let v := if cfg.getLsbD 3 then fv &&& 0x7FFFFFFF#32 else fv
  let h := get (ra + 0x08)
  let up := passed get ra nset v fun t => (fAdd t h).1
  let dn := passed get ra nset v fun t => (fSub t h).1
  if !cfg.getLsbD 4 then act else if act < up then up else if dn < act then dn else act

/-- What a PILUT leaves: fd, PV, the words it stores, and whether the record's placement was wrong. -/
structure PiOut where
  fd : Word
  pv : Bool
  puts : List (Nat × Word)
  misplaced : Bool := false
  deriving DecidableEq, Repr

/-- The record lies in the running task's context region (R173, R178). -/
def recordPlaced (ra lo hi : Nat) : Bool := ra % 8 = 0 && lo ≤ ra && ra + 64 ≤ hi && ra + 64 ≤ 0x10000

/-- A record-content error (R178). -/
def recordBad (cfg state hyst : Word) : Bool :=
  let nset := wGet cfg 0 3
  nset < wGet state 0 3 || nset < wGet state 4 3 || nset < wGet state 8 3 ||
    (wGet cfg 8 8 < wGet state 16 8 && wGet state 16 8 != 255) ||
    (cfg.getLsbD 4 && (fNegative hyst || !fFinite hyst))

/-- An output held under R178: fd is LREC_OUT, and only the named sticky bits change. -/
def piHeld (get : Nat → Word) (ra : Nat) (bits : Word) : PiOut :=
  { fd := get (ra + 0x34), pv := false, puts := [(ra + 0x3C, get (ra + 0x3C) ||| bits)] }

/-- u, I and whether the clamp acted (R177). -/
def piStep (w kpP kpA kiA e ff i umin umax : Word) : Word × Word × Bool :=
  let p := (fAdd (fMul (fMul (fSub (fNat 1) w).1 kpP).1 e).1 (fMul (fMul w kpA).1 e).1).1
  let q := (fMul kiA e).1
  let it := (fAdd i q).1
  let ut := (fAdd (fAdd p it).1 ff).1
  let hold := ((fCompare false umax ut).1 && fPositive q) || ((fCompare false ut umin).1 && fNegative q)
  let i' := if hold then i else fClamp it umin umax
  let v := (fAdd (fAdd p i').1 ff).1
  (fClamp v umin umax, i', !(fGe v umin && fGe umax v))

/-- The record after a PILUT that was not held (R173, R177, R180, R181). -/
def piStore (get : Nat → Word) (ra inst : Nat) (first : Bool) (x : PiSel) (u i : Word) (sat : Bool) : List (Nat × Word) :=
  let st := wPut (wPut (wPut (wPut (get (ra + 0x38)) 0 3 x.act) 4 3 x.next) 8 3 x.prev) 16 8 x.k
  let t := get (ra + 0x3C)
  let t := if first then wPut t 0 9 inst else t
  let t := wPut t 16 1 (bit sat)
  let t := if sat then wPut t 20 1 1 else t
  let t := if x.switched then wPut t 24 1 1 else t
  [(ra + 0x30, i), (ra + 0x34, u), (ra + 0x38, st), (ra + 0x3C, t)]

/-- PILUT (R176 to R182, R184): the record at `ra`, the context region from `lo` to `hi`, the instance count, and a free word for places
that the spec leaves open. -/
def pilut (get : Nat → Word) (ra lo hi inst : Nat) (fe ff fv free : Word) : PiOut :=
  if !recordPlaced ra lo hi then { fd := 0#32, pv := false, puts := [], misplaced := true }
  else
    let cfg := get ra
    let state := get (ra + 0x38)
    let stat := get (ra + 0x3C)
    let umin := get (ra + 0x28)
    let umax := get (ra + 0x2C)
    let recErr := recordBad cfg state (get (ra + 0x08))
    let argErr := !fFinite fe || !fFinite ff || !fFinite fv || fGe umin umax
    if recErr || argErr then
      piHeld get ra ((if recErr then 0x400000#32 else 0#32) ||| (if argErr then 0x800000#32 else 0#32))
    else
      let n := wGet cfg 8 8
      let first : Bool := stat.getLsbD 8 || wGet stat 0 8 != inst
      let x0 : PiSel := { act := wGet state 0 3, next := wGet state 4 3, prev := wGet state 8 3, k := wGet state 16 8 }
      let x := if first then x0.promote (cfg.getLsbD 4) n else x0
      let base := wGet (get (ra + 0x04)) 4 12 * 16
      let sA := base + x.act * 0x410
      let sP := base + x.prev * 0x410
      if !setOk get sA || !setOk get sP then piHeld get ra 0x200000#32
      else match setGains get sA fe free, setGains get sP fe free with
        | some (kpA, kiA), some (kpP, _) =>
          let w := if n = 0 then fNat 1 else (fDiv (fNat (min x.k n)) (fNat n)).1
          let (u, i, sat) := piStep w kpP kpA kiA fe ff (get (ra + 0x30)) umin umax
          let x := { x with next := nextSet get ra cfg fv x.act }
          { fd := u, pv := true, puts := piStore get ra inst first x u i sat }
        | _, _ => piHeld get ra 0x200000#32

/-- PILINIT (R170, R173): the words it stores. -/
def pilinit (ra : Nat) (fi : Word) : List (Nat × Word) :=
  [(ra + 0x30, fi), (ra + 0x34, fi), (ra + 0x38, 0x00FF0000#32), (ra + 0x3C, 0x100#32)]

/-! ## TLU and SINCOS -/

/-- TLU (R170): X_MIN and X_MAX, then 256 entries; the position is formed as R176 forms it. A NaN argument or limits not in order
have no stated result: it is then a free word. -/
def tlu (get : Nat → Word) (ra : Nat) (fx free : Word) : Word :=
  let lo := get ra
  let hi := get (ra + 4)
  if fIsNaN fx || !(fCompare false lo hi).1 then free
  else
    let x := (fDiv (fMul (fSub (fClamp fx lo hi) lo).1 (fNat 255)).1 (fSub hi lo).1).1
    let (i, f) := entryPlace x free
    if fFinite x then fLerp (get (ra + 8 + 4 * i)) (get (ra + 8 + 4 * (i + 1))) f else free

/-- The local addresses that a TLU reads: the limits and the two entries. -/
def tluReads (get : Nat → Word) (ra : Nat) (fx free : Word) : List Nat :=
  let lo := get ra
  let hi := get (ra + 4)
  let x := (fDiv (fMul (fSub (fClamp fx lo hi) lo).1 (fNat 255)).1 (fSub hi lo).1).1
  let i := (entryPlace x free).1
  [ra, ra + 4, ra + 8 + 4 * i, ra + 8 + 4 * (i + 1)]

/-- A free result within 2^-22 of a value (R170). -/
def within22 (v : Frac) (free : Word) : Word :=
  if fFinite free && ((fVal free).sub v).abs.le ⟨1, 2 ^ 22⟩ then free else (fOfFrac v).1

end Sys2Proof.Machine
end

