-- ==== Sys2Proof/Machine/Isa.lean ====
section
/-! DEFINITION. The core instruction set (R137, R138): the instructions with their operands, their words, and the decoding of a
word. -/

namespace Sys2Proof.Machine

open Sys2Proof

/-- OP 0x00, numbered by F. -/
inductive AluOp where
  | add | sub | and | or | xor | shl | shr | sra | slt | sltu | min | max | mul
  deriving DecidableEq, Repr

/-- The immediate forms whose IMM is used whole. -/
inductive ImmOp where
  | addi | andi | ori | xori | slti
  deriving DecidableEq, Repr

/-- The immediate shifts. -/
inductive ShiftOp where
  | shli | shri | srai
  deriving DecidableEq, Repr

/-- The integer loads and stores. -/
inductive LoadOp where
  | lw | lh | lhu | lb | lbu
  deriving DecidableEq, Repr

inductive StoreOp where
  | sw | sh | sb
  deriving DecidableEq, Repr

/-- The conditional branches. -/
inductive BranchOp where
  | beq | bne | blt | bge | bltu | bgeu
  deriving DecidableEq, Repr

/-- OP 0x30 with three FP32 registers. -/
inductive FpOp where
  | fadd | fsub | fmul | fmac | fdiv | fmin | fmax
  deriving DecidableEq, Repr

/-- OP 0x30 with two FP32 registers. -/
inductive FpUn where
  | fsqrt | fabs | fneg
  deriving DecidableEq, Repr

/-- The FP32 comparisons. -/
inductive FpCmp where
  | feq | flt | fle
  deriving DecidableEq, Repr

/-- The moves and conversions between the register files. -/
inductive FpMove where
  | fcvtws | fcvtsw | fmvxs | fmvsx
  deriving DecidableEq, Repr

/-- An instruction of a core with its operands. -/
inductive CoreOp where
  | alu (o : AluOp) (d a b : BitVec 5)
  | imm (o : ImmOp) (d a : BitVec 5) (v : BitVec 16)
  | shift (o : ShiftOp) (d a sh : BitVec 5)
  | lui (d : BitVec 5) (v : BitVec 16)
  | load (o : LoadOp) (d a : BitVec 5) (v : BitVec 16)
  | store (o : StoreOp) (b a : BitVec 5) (v : BitVec 16)
  | flw (d a : BitVec 5) (v : BitVec 16)
  | fsw (b a : BitVec 5) (v : BitVec 16)
  | branch (o : BranchOp) (b a : BitVec 5) (ofs : BitVec 16)
  | j (ofs : BitVec 26)
  | jal (ofs : BitVec 26)
  | jr (d a : BitVec 5)
  | fp (o : FpOp) (d a b : BitVec 5)
  | dmac (d a b : BitVec 5)
  | fun1 (o : FpUn) (d a : BitVec 5)
  | fcmp (o : FpCmp) (d a b : BitVec 5)
  | fmove (o : FpMove) (d a : BitVec 5)
  | pilut (d a b c e : BitVec 5)
  | pilinit (a b : BitVec 5)
  | tlu (d a b : BitVec 5)
  | sincos (d a c : BitVec 5)
  | csrr (d : BitVec 5) (n : BitVec 12)
  | csrw (a : BitVec 5) (n : BitVec 12)
  | nop | wfi | iret
  deriving DecidableEq, Repr

/-! ## Words (R137) -/

/-- Formats R, I (with S and Br), J and G. -/
def encR (op : BitVec 6) (d a b : BitVec 5) (f : BitVec 11) : Word := f ++ (b ++ (a ++ (d ++ op)))
def encI (op : BitVec 6) (d a : BitVec 5) (v : BitVec 16) : Word := v ++ (a ++ (d ++ op))
def encJ (op : BitVec 6) (ofs : BitVec 26) : Word := ofs ++ op
def encG (op : BitVec 6) (d a b c e : BitVec 5) : Word := 0#1 ++ (e ++ (c ++ (b ++ (a ++ (d ++ op)))))

def AluOp.code : AluOp → BitVec 11
  | .add => 0 | .sub => 1 | .and => 2 | .or => 3 | .xor => 4 | .shl => 5 | .shr => 6 | .sra => 7
  | .slt => 8 | .sltu => 9 | .min => 10 | .max => 11 | .mul => 12

def ImmOp.code : ImmOp → BitVec 6
  | .addi => 0x01 | .andi => 0x02 | .ori => 0x03 | .xori => 0x04 | .slti => 0x08

def ShiftOp.code : ShiftOp → BitVec 6
  | .shli => 0x05 | .shri => 0x06 | .srai => 0x07

def LoadOp.code : LoadOp → BitVec 6
  | .lw => 0x10 | .lh => 0x11 | .lhu => 0x12 | .lb => 0x13 | .lbu => 0x14

def StoreOp.code : StoreOp → BitVec 6
  | .sw => 0x15 | .sh => 0x16 | .sb => 0x17

def BranchOp.code : BranchOp → BitVec 6
  | .beq => 0x20 | .bne => 0x21 | .blt => 0x22 | .bge => 0x23 | .bltu => 0x24 | .bgeu => 0x25

def FpOp.code : FpOp → BitVec 11
  | .fadd => 0 | .fsub => 1 | .fmul => 2 | .fmac => 3 | .fdiv => 5 | .fmin => 7 | .fmax => 8

def FpUn.code : FpUn → BitVec 11
  | .fsqrt => 6 | .fabs => 9 | .fneg => 10

def FpCmp.code : FpCmp → BitVec 11
  | .feq => 11 | .flt => 12 | .fle => 13

def FpMove.code : FpMove → BitVec 11
  | .fcvtws => 14 | .fcvtsw => 15 | .fmvxs => 16 | .fmvsx => 17

/-- The word of an instruction (R138). -/
def CoreOp.encode : CoreOp → Word
  | .alu o d a b => encR 0x00 d a b o.code
  | .imm o d a v => encI o.code d a v
  | .shift o d a sh => encI o.code d a (0#11 ++ sh)
  | .lui d v => encI 0x09 d 0 v
  | .load o d a v => encI o.code d a v
  | .store o b a v => encI o.code b a v
  | .flw d a v => encI 0x18 d a v
  | .fsw b a v => encI 0x19 b a v
  | .branch o b a ofs => encI o.code b a ofs
  | .j ofs => encJ 0x26 ofs
  | .jal ofs => encJ 0x27 ofs
  | .jr d a => encR 0x28 d a 0 0
  | .fp o d a b => encR 0x30 d a b o.code
  | .dmac d a b => encR 0x30 d a b 4
  | .fun1 o d a => encR 0x30 d a 0 o.code
  | .fcmp o d a b => encR 0x30 d a b o.code
  | .fmove o d a => encR 0x30 d a 0 o.code
  | .pilut d a b c e => encG 0x38 d a b c e
  | .pilinit a b => encG 0x39 0 a b 0 0
  | .tlu d a b => encG 0x3A d a b 0 0
  | .sincos d a c => encG 0x3B d a 0 c 0
  | .csrr d n => encI 0x3C d 0 (0#4 ++ n)
  | .csrw a n => encI 0x3D 0 a (0#4 ++ n)
  | .nop => encR 0x3E 0 0 0 0
  | .wfi => encR 0x3E 0 0 0 1
  | .iret => encR 0x3E 0 0 0 2

/-! ## Decoding -/

/-- Operands that the encoding admits: DMAC names even registers (R138). -/
def CoreOp.wf : CoreOp → Bool
  | .dmac d a b => !d.getLsbD 0 && !a.getLsbD 0 && !b.getLsbD 0
  | _ => true

/-- OP 0x00 by its function. -/
def aluOf (f : Nat) : Option AluOp :=
  match f with
  | 0 => some .add | 1 => some .sub | 2 => some .and | 3 => some .or | 4 => some .xor
  | 5 => some .shl | 6 => some .shr | 7 => some .sra | 8 => some .slt | 9 => some .sltu
  | 10 => some .min | 11 => some .max | 12 => some .mul
  | _ => none

/-- OP 0x30 by its function. -/
def fpOf (f : Nat) (d a b : BitVec 5) : Option CoreOp :=
  match f with
  | 0 => some (.fp .fadd d a b)
  | 1 => some (.fp .fsub d a b)
  | 2 => some (.fp .fmul d a b)
  | 3 => some (.fp .fmac d a b)
  | 4 => if (CoreOp.dmac d a b).wf then some (.dmac d a b) else none
  | 5 => some (.fp .fdiv d a b)
  | 6 => if b = 0 then some (.fun1 .fsqrt d a) else none
  | 7 => some (.fp .fmin d a b)
  | 8 => some (.fp .fmax d a b)
  | 9 => if b = 0 then some (.fun1 .fabs d a) else none
  | 10 => if b = 0 then some (.fun1 .fneg d a) else none
  | 11 => some (.fcmp .feq d a b)
  | 12 => some (.fcmp .flt d a b)
  | 13 => some (.fcmp .fle d a b)
  | 14 => if b = 0 then some (.fmove .fcvtws d a) else none
  | 15 => if b = 0 then some (.fmove .fcvtsw d a) else none
  | 16 => if b = 0 then some (.fmove .fmvxs d a) else none
  | 17 => if b = 0 then some (.fmove .fmvsx d a) else none
  | _ => none

/-- OP 0x3E by its function. -/
def sysOf (f : Nat) (d a b : BitVec 5) : Option CoreOp :=
  if d = 0 ∧ a = 0 ∧ b = 0 then
    match f with
    | 0 => some .nop | 1 => some .wfi | 2 => some .iret
    | _ => none
  else none

/-- The fields of a word (R137). -/
def wOp (w : Word) : Nat := (w.extractLsb' 0 6).toNat
def wD (w : Word) : BitVec 5 := w.extractLsb' 6 5
def wA (w : Word) : BitVec 5 := w.extractLsb' 11 5
def wB (w : Word) : BitVec 5 := w.extractLsb' 16 5
def wC (w : Word) : BitVec 5 := w.extractLsb' 21 5
def wE (w : Word) : BitVec 5 := w.extractLsb' 26 5
def wF (w : Word) : Nat := (w.extractLsb' 21 11).toNat
def wImm (w : Word) : BitVec 16 := w.extractLsb' 16 16
def wOfs (w : Word) : BitVec 26 := w.extractLsb' 6 26

/-- The instruction that a word spells, or none where it is illegal on every core (R138). -/
def decodeWord (w : Word) : Option CoreOp :=
  let d := wD w
  let a := wA w
  let v := wImm w
  match wOp w with
  | 0x00 => (aluOf (wF w)).map fun o => .alu o d a (wB w)
  | 0x01 => some (.imm .addi d a v)
  | 0x02 => some (.imm .andi d a v)
  | 0x03 => some (.imm .ori d a v)
  | 0x04 => some (.imm .xori d a v)
  | 0x05 => if v.extractLsb' 5 11 = 0 then some (.shift .shli d a (v.extractLsb' 0 5)) else none
  | 0x06 => if v.extractLsb' 5 11 = 0 then some (.shift .shri d a (v.extractLsb' 0 5)) else none
  | 0x07 => if v.extractLsb' 5 11 = 0 then some (.shift .srai d a (v.extractLsb' 0 5)) else none
  | 0x08 => some (.imm .slti d a v)
  | 0x09 => if a = 0 then some (.lui d v) else none
  | 0x10 => some (.load .lw d a v)
  | 0x11 => some (.load .lh d a v)
  | 0x12 => some (.load .lhu d a v)
  | 0x13 => some (.load .lb d a v)
  | 0x14 => some (.load .lbu d a v)
  | 0x15 => some (.store .sw d a v)
  | 0x16 => some (.store .sh d a v)
  | 0x17 => some (.store .sb d a v)
  | 0x18 => some (.flw d a v)
  | 0x19 => some (.fsw d a v)
  | 0x20 => some (.branch .beq d a v)
  | 0x21 => some (.branch .bne d a v)
  | 0x22 => some (.branch .blt d a v)
  | 0x23 => some (.branch .bge d a v)
  | 0x24 => some (.branch .bltu d a v)
  | 0x25 => some (.branch .bgeu d a v)
  | 0x26 => some (.j (wOfs w))
  | 0x27 => some (.jal (wOfs w))
  | 0x28 => if wF w = 0 ∧ wB w = 0 then some (.jr d a) else none
  | 0x30 => fpOf (wF w) d a (wB w)
  | 0x38 => if w.getLsbD 31 then none else some (.pilut d a (wB w) (wC w) (wE w))
  | 0x39 => if w.getLsbD 31 ∨ d ≠ 0 ∨ wC w ≠ 0 ∨ wE w ≠ 0 then none else some (.pilinit a (wB w))
  | 0x3A => if w.getLsbD 31 ∨ wC w ≠ 0 ∨ wE w ≠ 0 then none else some (.tlu d a (wB w))
  | 0x3B => if w.getLsbD 31 ∨ wB w ≠ 0 ∨ wE w ≠ 0 then none else some (.sincos d a (wC w))
  | 0x3C => if a = 0 ∧ v.extractLsb' 12 4 = 0 then some (.csrr d (v.extractLsb' 0 12)) else none
  | 0x3D => if d = 0 ∧ v.extractLsb' 12 4 = 0 then some (.csrw a (v.extractLsb' 0 12)) else none
  | 0x3E => sysOf (wF w) d a (wB w)
  | _ => none

/-- The gain-table instructions, which only engine cores have (R170). -/
def CoreOp.isGain : CoreOp → Bool
  | .pilut .. => true
  | .pilinit .. => true
  | .tlu .. => true
  | .sincos .. => true
  | _ => false

/-- The instructions that only Kenow has (R138). -/
def CoreOp.kenowOnly : CoreOp → Bool
  | .wfi => true
  | .iret => true
  | _ => false

end Sys2Proof.Machine
end

