-- ==== Sys2Proof/Machine/Engine.lean ====
section
/-! DEFINITION. The cores (R132 to R143, R170 to R172): fetch, the effect of an instruction on a copy, the timing of an engine core, the
spaces of engine cores and of Kenow, exceptions and interrupts of Kenow. The commands stand in Exec.lean. -/

namespace Sys2Proof.Machine

open Sys2Proof

/-! ## Register operations (R138, R140) -/

def AluOp.eval (o : AluOp) (a b : Word) : Word :=
  match o with
  | .add => a + b
  | .sub => a - b
  | .and => a &&& b
  | .or => a ||| b
  | .xor => a ^^^ b
  | .shl => a <<< (b.toNat % 32)
  | .shr => a >>> (b.toNat % 32)
  | .sra => a.sshiftRight (b.toNat % 32)
  | .slt => if a.slt b then 1#32 else 0#32
  | .sltu => if a.ult b then 1#32 else 0#32
  | .min => if a.slt b then a else b
  | .max => if a.slt b then b else a
  | .mul => a * b

def ImmOp.eval (o : ImmOp) (a : Word) (v : BitVec 16) : Word :=
  match o with
  | .addi => a + v.signExtend 32
  | .andi => a &&& v.setWidth 32
  | .ori => a ||| v.setWidth 32
  | .xori => a ^^^ v.setWidth 32
  | .slti => if a.slt (v.signExtend 32) then 1#32 else 0#32

def ShiftOp.eval (o : ShiftOp) (a : Word) (sh : BitVec 5) : Word :=
  match o with
  | .shli => a <<< sh.toNat
  | .shri => a >>> sh.toNat
  | .srai => a.sshiftRight sh.toNat

def BranchOp.taken (o : BranchOp) (a b : Word) : Bool :=
  match o with
  | .beq => a = b
  | .bne => a ≠ b
  | .blt => a.slt b
  | .bge => !a.slt b
  | .bltu => a.ult b
  | .bgeu => !a.ult b

/-- FP32 operations of three registers: `d` is the old value of the destination. -/
def FpOp.eval (o : FpOp) (d a b : Word) : Word × FFlags :=
  match o with
  | .fadd => fAdd a b
  | .fsub => fSub a b
  | .fmul => fMul a b
  | .fmac => fMac d a b
  | .fdiv => fDiv a b
  | .fmin => fMinMax false a b
  | .fmax => fMinMax true a b

def FpUn.eval (o : FpUn) (a : Word) : Word × FFlags :=
  match o with
  | .fsqrt => fSqrt a
  | .fabs => (a &&& 0x7FFFFFFF#32, 0#5)
  | .fneg => (a ^^^ 0x80000000#32, 0#5)

def FpCmp.eval (o : FpCmp) (a b : Word) : Bool × FFlags :=
  match o with
  | .feq => fEq a b
  | .flt => fCompare false a b
  | .fle => fCompare true a b

/-! ## A copy of a core -/

/-- An integer register named by an instruction. -/
def Core.rx (c : Core) (r : BitVec 5) : Word := c.getX r.toFin

/-- An FP32 register named by an instruction. -/
def Core.rf (c : Core) (r : BitVec 5) : Word := c.f[r.toFin]

def Core.wx (c : Core) (r : BitVec 5) (w : Word) : Core := c.setX r.toFin w
def Core.wf (c : Core) (r : BitVec 5) (w : Word) : Core := c.setF r.toFin w

/-- Exception flags set, sticky (R140). -/
def Core.flags (c : Core) (fl : FFlags) : Core := { c with fflags := c.fflags ||| fl }

/-- The copy goes on at an address. -/
def Core.goto (c : Core) (pc : Word) : Core := { c with pc := pc }

/-- The copy goes on with the next instruction. -/
def Core.nextPc (c : Core) : Core := c.goto (c.pc + 4#32)

/-- The target of a branch or jump by words (R137). -/
def Core.target (c : Core) (ofs : Word) : Word := c.pc + 4#32 + (ofs <<< 2)

/-- The odd register of a pair. -/
def oddOf (r : BitVec 5) : BitVec 5 := r ||| 1#5

/-- DMAC: each half rounded once. -/
def Core.dmac (c : Core) (d a b : BitVec 5) : Core :=
  let (u, fu) := fMac (c.rf d) (c.rf a) (c.rf b)
  let (v, fv) := fMac (c.rf (oddOf d)) (c.rf (oddOf a)) (c.rf (oddOf b))
  ((c.wf d u).wf (oddOf d) v).flags (fu ||| fv)

/-- The moves and conversions. -/
def Core.fmove (c : Core) (o : FpMove) (d a : BitVec 5) : Core :=
  match o with
  | .fcvtws => (c.wx d (fToInt (c.rf a)).1).flags (fToInt (c.rf a)).2
  | .fcvtsw => (c.wf d (fOfInt (c.rx a)).1).flags (fOfInt (c.rx a)).2
  | .fmvxs => c.wx d (c.rf a)
  | .fmvsx => c.wf d (c.rx a)

/-- What an instruction that touches nothing but the copy's registers does to it; others only go on. -/
def Core.run (c : Core) (o : CoreOp) : Core :=
  match o with
  | .alu o d a b => (c.wx d (o.eval (c.rx a) (c.rx b))).nextPc
  | .imm o d a v => (c.wx d (o.eval (c.rx a) v)).nextPc
  | .shift o d a sh => (c.wx d (o.eval (c.rx a) sh)).nextPc
  | .lui d v => (c.wx d (v ++ 0#16)).nextPc
  | .branch o b a ofs => if o.taken (c.rx a) (c.rx b) then c.goto (c.target (ofs.signExtend 32)) else c.nextPc
  | .j ofs => c.goto (c.target (ofs.signExtend 32))
  | .jal ofs => (c.wx 31#5 (c.pc + 4#32)).goto (c.target (ofs.signExtend 32))
  | .jr d a => (c.wx d (c.pc + 4#32)).goto (c.rx a)
  | .fp o d a b => ((c.wf d (o.eval (c.rf d) (c.rf a) (c.rf b)).1).flags (o.eval (c.rf d) (c.rf a) (c.rf b)).2).nextPc
  | .dmac d a b => (c.dmac d a b).nextPc
  | .fun1 o d a => ((c.wf d (o.eval (c.rf a)).1).flags (o.eval (c.rf a)).2).nextPc
  | .fcmp o d a b =>
    ((c.wx d (if (o.eval (c.rf a) (c.rf b)).1 then 1#32 else 0#32)).flags (o.eval (c.rf a) (c.rf b)).2).nextPc
  | .fmove o d a => (c.fmove o d a).nextPc
  | _ => c.nextPc

/-- The address of a load or store (R137). -/
def Core.ea (c : Core) (a : BitVec 5) (v : BitVec 16) : Nat := (c.rx a + v.signExtend 32).toNat

/-! ## Widths -/

def LoadOp.width : LoadOp → Nat
  | .lw => 4 | .lh => 2 | .lhu => 2 | .lb => 1 | .lbu => 1

/-- The register value of loaded bytes. -/
def LoadOp.extend (o : LoadOp) (w : Word) : Word :=
  match o with
  | .lw => w
  | .lh => (w.extractLsb' 0 16).signExtend 32
  | .lhu => (w.extractLsb' 0 16).setWidth 32
  | .lb => (w.extractLsb' 0 8).signExtend 32
  | .lbu => (w.extractLsb' 0 8).setWidth 32

def StoreOp.width : StoreOp → Nat
  | .sw => 4 | .sh => 2 | .sb => 1

/-! ## Fetch (R136, R142, R143) -/

/-- The instruction word at a core's PC, or none where the PC is not a word's (R136, R143) or lies beyond what it can fetch from. -/
def fetchWord (s : State) (p : Fin 25) : Option Word :=
  let a := (s.copyOf p false).pc.toNat
  if a % 4 ≠ 0 then none
  else match loopPair p with
  | some q => if a + 4 ≤ 0x10000 then some (memWord s.mem (localBase q + a)) else none
  | none =>
    match regionOf a with
    | .rom => some (bytesAt Config.bootRom a 4)
    | .kenow => some (memWord s.mem a)
    | _ => none

/-- An instruction that the pair's cores have. -/
def hasOp (p : Fin 25) (o : CoreOp) : Bool := if p.val < 24 then !o.kenowOnly else !o.isGain

/-- The instruction that a pair executes next, or none where it is illegal (R138). -/
def nextOp (s : State) (p : Fin 25) : Option CoreOp :=
  ((fetchWord s p).bind decodeWord).bind fun o => if hasOp p o then some o else none

/-- A function applied to both copies of a pair. -/
def State.both (s : State) (p : Fin 25) (f : Core → Core) : State := (s.modCopy p false f).modCopy p true f

/-! ## Timing of engine cores (R133, R170, R171) -/

/-- The integer registers that an instruction needs. -/
def CoreOp.needsX : CoreOp → List (BitVec 5)
  | .alu _ _ a b => [a, b]
  | .imm _ _ a _ => [a]
  | .shift _ _ a _ => [a]
  | .load _ _ a _ => [a]
  | .store _ b a _ => [b, a]
  | .flw _ a _ => [a]
  | .fsw _ a _ => [a]
  | .branch _ b a _ => [b, a]
  | .jr _ a => [a]
  | .fmove .fcvtsw _ a => [a]
  | .fmove .fmvsx _ a => [a]
  | .pilut _ a _ _ _ => [a]
  | .pilinit a _ => [a]
  | .tlu _ a _ => [a]
  | .sincos _ a _ => [a]
  | .csrw a _ => [a]
  | _ => []

/-- The FP32 registers that an instruction needs. -/
def CoreOp.needsF : CoreOp → List (BitVec 5)
  | .fsw b _ _ => [b]
  | .fp .fmac d a b => [d, a, b]
  | .fp _ _ a b => [a, b]
  | .dmac d a b => [d, oddOf d, a, oddOf a, b, oddOf b]
  | .fun1 _ _ a => [a]
  | .fcmp _ _ a b => [a, b]
  | .fmove .fcvtws _ a => [a]
  | .fmove .fmvxs _ a => [a]
  | .pilut _ _ b c e => [b, c, e]
  | .pilinit _ b => [b]
  | .tlu _ _ b => [b]
  | _ => []

/-- The integer register that an instruction writes. -/
def CoreOp.givesX : CoreOp → List (BitVec 5)
  | .alu _ d _ _ => [d]
  | .imm _ d _ _ => [d]
  | .shift _ d _ _ => [d]
  | .lui d _ => [d]
  | .load _ d _ _ => [d]
  | .jal _ => [31#5]
  | .jr d _ => [d]
  | .fcmp _ d _ _ => [d]
  | .fmove .fcvtws d _ => [d]
  | .fmove .fmvxs d _ => [d]
  | .csrr d _ => [d]
  | _ => []

/-- The FP32 registers that an instruction writes. -/
def CoreOp.givesF : CoreOp → List (BitVec 5)
  | .flw d _ _ => [d]
  | .fp _ d _ _ => [d]
  | .dmac d _ _ => [d, oddOf d]
  | .fun1 _ d _ => [d]
  | .fmove .fcvtsw d _ => [d]
  | .fmove .fmvsx d _ => [d]
  | .pilut d _ _ _ _ => [d]
  | .tlu d _ _ => [d]
  | .sincos d _ c => [d, c]
  | _ => []

/-- The divider and square root are not pipelined. -/
def CoreOp.divides : CoreOp → Bool
  | .fp .fdiv _ _ _ => true
  | .fun1 .fsqrt _ _ => true
  | _ => false

/-- Core cycles to the result of an instruction that touches no memory (R133, R170). -/
def CoreOp.latency : CoreOp → Nat
  | .alu .mul _ _ _ => 2
  | .fp .fadd _ _ _ => 4
  | .fp .fsub _ _ _ => 4
  | .fp .fmul _ _ _ => 4
  | .fp .fmac _ _ _ => 4
  | .fp .fdiv _ _ _ => 14
  | .fp _ _ _ _ => 2
  | .dmac _ _ _ => 4
  | .fun1 .fsqrt _ _ => 14
  | .fun1 _ _ _ => 2
  | .fcmp _ _ _ _ => 2
  | .fmove _ _ _ => 2
  | .pilut _ _ _ _ _ => 40
  | .pilinit _ _ => 6
  | .tlu _ _ _ => 14
  | .sincos _ _ _ => 10
  | _ => 1

/-- Core cycles for which the gain-table unit is busy (R170). -/
def CoreOp.unitBusy : CoreOp → Nat
  | .pilut _ _ _ _ _ => 40
  | .pilinit _ _ => 6
  | .tlu _ _ _ => 8
  | .sincos _ _ _ => 4
  | _ => 0

/-- The cycle in which a pair issues an instruction: in order, when its operands and its unit are there (R133, R171). -/
def issueCycle (l : LoopPair) (o : CoreOp) : Nat :=
  let q := l.pipe
  let t := ((o.needsX.filter fun r => r != 0#5).map fun r => q.xr[r.toFin]).foldl max q.next
  let t := (o.needsF.map fun r => q.fr[r.toFin]).foldl max t
  let t := if o.isGain then max t q.unit else t
  let t := if o.divides then max t q.div else t
  match o with
  | .csrr _ n => if n = 1#12 then max t q.pvAt else t
  | _ => t

/-- The issue state after an instruction issued at `t`: the next issue three cycles later after a taken branch, else one. -/
def Pipe.issue (q : Pipe) (o : CoreOp) (t lat : Nat) (taken : Bool) (extra : Nat) : Pipe :=
  { next := t + (if taken then 3 else 1),
    xr := o.givesX.foldl (fun v r => vset v r.toFin (t + lat)) q.xr,
    fr := o.givesF.foldl (fun v r => vset v r.toFin (t + lat)) q.fr,
    pvAt := (match o with | .pilut _ _ _ _ _ => t + lat | _ => q.pvAt),
    unit := if o.isGain then t + o.unitBusy + extra else q.unit,
    div := if o.divides then t + 14 else q.div }

/-- The pair's issue state moved on by an instruction. -/
def issued (q : Fin 24) (o : CoreOp) (t lat : Nat) (taken : Bool) (extra : Nat) (s : State) : State :=
  s.modLp q fun l => { l with pipe := l.pipe.issue o t lat taken extra }

/-! ## The space of an engine core (R135, R139) -/

/-- What an aligned access of an engine core reaches. -/
inductive Space where
  | local_ | window | slot (i : Fin 16) | endReg | shared | outside
  deriving DecidableEq, Repr

/-- The part of the space at an address. -/
def spaceOf (a : Nat) : Space :=
  if a < 0x10000 then .local_
  else if a < 0x10060 then .window
  else if 0x10100 ≤ a ∧ a < 0x10140 then .slot ⟨(a - 0x10100) / 4 % 16, Nat.mod_lt _ (by decide)⟩
  else if 0x10140 ≤ a ∧ a < 0x10144 then .endReg
  else if 0x10000000 ≤ a ∧ a < 0x103F0000 then .shared
  else .outside

/-- The space of an access: a misaligned one is outside (R139). -/
def accessSpace (a width : Nat) : Space := if a % width = 0 then spaceOf a else .outside

/-- A word of the input window (R145). -/
def windowWord (s : State) (q : Fin 24) (k : Nat) : Word :=
  match (s.lp q).run with
  | none => 0#32
  | some i =>
    if h : k < 22 then i.snap[k]
    else if k = 22 then BitVec.ofNat 32 (i.count % 256 + q.val * 256)
    else 0#32

/-- The bytes that a copy of an engine core reads. -/
def engineRead (s : State) (q : Fin 24) (chk : Bool) (a width : Nat) : Word :=
  match accessSpace a width with
  | .local_ => bytesAt (memGet (s.own chk)) (localBase q + a) width
  | .window => BitVec.ofNat 32 (wGet (windowWord s q ((a - 0x10000) / 4)) (8 * (a % 4)) (8 * width))
  | .shared => bytesAt (memGet s.mem) a width
  | _ => 0#32

/-- Core cycles to the data of a read. -/
def readLatency (sp : Space) (lat : Nat) (ecc : Ecc) : Nat :=
  match sp with
  | .local_ => 2 + eccCycles ecc
  | .window => 3
  | .shared => 6 + lat
  | _ => 1

/-- The accesses that an engine core cannot make as a read (R135). -/
def Space.readable : Space → Bool
  | .local_ => true
  | .window => true
  | .shared => true
  | _ => false

/-- The next issue of a pair held by corrections (R134). -/
def held (q : Fin 24) (ecc : Ecc) (s : State) : State :=
  s.modLp q fun l => { l with pipe := { l.pipe with next := l.pipe.next + eccCycles ecc } }

/-- The instance on a core stops (R142). -/
def engineStop (q : Fin 24) (s : State) : State := accErr (s.modLp q fun l => { l with stopped := true })

/-- A load of an engine core; `put` sets the destination of a copy. -/
def engineLoad (q : Fin 24) (o : CoreOp) (a : BitVec 5) (v : BitVec 16) (width : Nat) (put : Core → Word → Core) (lat : Nat) (ecc : Ecc)
    (t : Nat) (s : State) : State :=
  let p : Fin 25 := q.castSucc
  let ea := (s.copyOf p false).ea a v
  let sp := accessSpace ea width
  if sp = .local_ ∧ ecc = .uncorrectable then retirePair q 2 s
  else
    let w0 := engineRead s q false ea width
    let w1 := engineRead s q true (if sp = .local_ then (s.copyOf p true).ea a v else ea) width
    let s := (s.modCopy p false fun c => (put c w0).nextPc).modCopy p true fun c => (put c w1).nextPc
    let s := issued q o t (readLatency sp lat ecc) false 0 s
    let s := if sp = .local_ then eccCount q ecc s else s
    if sp.readable then s else accErr s

/-- A commit-slot write (R135, R533). -/
def commitSlotWrite (q : Fin 24) (i : Fin 16) (w : Word) (s : State) : State :=
  match (s.lp q).run with
  | none => s
  | some n =>
    if i.val < s.f (Fld.LOOP_D_OUT_OUT_N n.d) then
      s.modLp q fun l => { l with run := some { n with slots := vset n.slots i w, written := n.written ||| (1#16 <<< i.val) } }
    else accErr s

/-- Lead and checker make the same store: address and data (R356). A store outside local memory that they do not agree on is discarded
(R358). -/
def storeAgrees (lead chk : Core) (a : BitVec 5) (v : BitVec 16) (width : Nat) (src : Core → Word) : Bool :=
  lead.ea a v = chk.ea a v && wGet (src lead) 0 (8 * width) = wGet (src chk) 0 (8 * width)

/-- A store of an engine core: of each copy into its own local memory, else of the lead once compared (R357, R358). DESIGN CHOICE (log entry 41):
a correction holds the next issue for its two cycles. -/
def engineStore (q : Fin 24) (o : CoreOp) (a : BitVec 5) (v : BitVec 16) (width : Nat) (src : Core → Word) (ecc : Ecc) (t : Nat) (s : State) :
    State :=
  let p : Fin 25 := q.castSucc
  let lead := s.copyOf p false
  let chk := s.copyOf p true
  let ea := lead.ea a v
  let ok := storeAgrees lead chk a v width src
  let s0 := s
  let s := issued q o t 1 false 0 (s.both p Core.nextPc)
  match accessSpace ea width with
  | .local_ =>
    if ecc = .uncorrectable then retirePair q 2 s0
    else
      let s := eccCount q ecc (held q ecc s)
      let s := s.modOwn false (memPut (localBase q + ea) width (src lead))
      let eb := chk.ea a v
      if accessSpace eb width = .local_ then s.modOwn true (memPut (localBase q + eb) width (src chk)) else s
  | .slot i => if width ≠ 4 then accErr s else if ok then commitSlotWrite q i (src lead) s else s
  | .endReg => if width ≠ 4 then accErr s else if ok then endRun q t s else s
  | .shared => if ok then { s with mem := memPut ea width (src lead) s.mem } else s
  | .window => accErr s
  | .outside => accErr s

/-! ## The gain-table unit of a pair -/

/-- A word of a copy's local memory; beyond it or misaligned it reads 0 (R135, R139). -/
def localWord (s : State) (q : Fin 24) (chk : Bool) (a : Nat) : Word :=
  if a % 4 = 0 ∧ a + 4 ≤ 0x10000 then memWord (s.own chk) (localBase q + a) else 0#32

/-- The context region of the instance on a pair and its count. -/
def runRegion (s : State) (q : Fin 24) : Nat × Nat × Nat :=
  match (s.lp q).run with
  | some i =>
    let lo := 8 * s.f (Fld.LOOP_D_CTX_CTX_LOCAL i.d)
    (lo, lo + 8 * s.taskLen i.d, i.count % 256)
  | none => (0, 0, 0)

/-- PILUT on a copy. -/
def pilutOut (s : State) (q : Fin 24) (c : Core) (chk : Bool) (a b f e : BitVec 5) (free : Word) : PiOut :=
  let (lo, hi, n) := runRegion s q
  pilut (localWord s q chk) (c.rx a).toNat lo hi n (c.rf b) (c.rf f) (c.rf e) free

/-- Exception flags that the spec leaves open (log entry 62). -/
def openFlags (w : Word) : FFlags := w.extractLsb' 0 5

/-- PILUT (R177, R178, R184): its words are stored 36 cycles after its issue, fd and PV are there after 40. DEDUCED (log entry 41): everything that
it reads is read at its issue. -/
def enginePilut (q : Fin 24) (o : CoreOp) (d a b f e : BitVec 5) (ecc : Ecc) (t : Nat) (s : State) : State :=
  let p : Fin 25 := q.castSucc
  let (free, s) := s.takeWord
  let (fl, s) := s.takeWord
  let r0 := pilutOut s q (s.copyOf p false) false a b f e free
  let r1 := pilutOut s q (s.copyOf p true) true a b f e free
  if ecc = .uncorrectable && !r0.misplaced then retirePair q 2 s
  else
    let extra : Nat := if r0.misplaced then 0 else eccCycles ecc
    let s := s.modLp q fun l => { l with gain := some ⟨t + 36 + extra, r0.puts, r1.puts⟩ }
    let s := s.modCopy p false fun c => { (((c.wf d r0.fd).flags (openFlags fl)).nextPc) with pv := r0.pv }
    let s := s.modCopy p true fun c => { (((c.wf d r1.fd).flags (openFlags fl)).nextPc) with pv := r1.pv }
    let s := issued q o t (40 + extra) false extra s
    if r0.misplaced then accErr s else eccCount q ecc s

/-- PILINIT (R170). -/
def enginePilinit (q : Fin 24) (o : CoreOp) (a b : BitVec 5) (ecc : Ecc) (t : Nat) (s : State) : State :=
  let p : Fin 25 := q.castSucc
  if ecc = .uncorrectable then retirePair q 2 s
  else
    let c0 := s.copyOf p false
    let c1 := s.copyOf p true
    let l0 := pilinit (c0.rx a).toNat (c0.rf b)
    let s := putLocal q true (pilinit (c1.rx a).toNat (c1.rf b)) (putLocal q false l0 s)
    let s := eccCount q ecc (issued q o t (6 + eccCycles ecc) false (eccCycles ecc) (s.both p Core.nextPc))
    if l0.all fun e => localOk e.1 then s else accErr s

/-- TLU (R170). -/
def engineTlu (q : Fin 24) (o : CoreOp) (d a b : BitVec 5) (ecc : Ecc) (t : Nat) (s : State) : State :=
  let p : Fin 25 := q.castSucc
  let (free, s) := s.takeWord
  let (fl, s) := s.takeWord
  if ecc = .uncorrectable then retirePair q 2 s
  else
    let c0 := s.copyOf p false
    let c1 := s.copyOf p true
    let w0 := tlu (localWord s q false) (c0.rx a).toNat (c0.rf b) free
    let w1 := tlu (localWord s q true) (c1.rx a).toNat (c1.rf b) free
    let ok := (tluReads (localWord s q false) (c0.rx a).toNat (c0.rf b) free).all localOk
    let extra := eccCycles ecc
    let s := s.modCopy p false fun c => ((c.wf d w0).flags (openFlags fl)).nextPc
    let s := s.modCopy p true fun c => ((c.wf d w1).flags (openFlags fl)).nextPc
    let s := issued q o t (14 + extra) false extra s
    let s := eccCount q ecc s
    if ok then s else accErr s

/-- sin and cos written to their registers; where both are one register the spec does not say which stays. -/
def putSinCos (d f : BitVec 5) (x y w : Word) (c : Core) : Core := if d = f then c.wf d w else (c.wf d x).wf f y

/-- SINCOS (R170): each result is any word within 2^-22 of the value. -/
def engineSincos (q : Fin 24) (o : CoreOp) (d a f : BitVec 5) (t : Nat) (s : State) : State :=
  let p : Fin 25 := q.castSucc
  let (x, s) := s.takeWord
  let (y, s) := s.takeWord
  let (fl, s) := s.takeWord
  let (k, s) := s.takeBit
  let s := s.both p fun c =>
    let u := within22 (sinFrac (c.rx a)) x
    let v := within22 (cosFrac (c.rx a)) y
    ((putSinCos d f u v (if k then u else v) c).flags (openFlags fl)).nextPc
  issued q o t 10 false 0 s

/-! ## An instruction of an engine core -/

/-- The instruction moves the PC by a branch or jump that is taken. -/
def CoreOp.takes (o : CoreOp) (c : Core) : Bool :=
  match o with
  | .branch o b a _ => o.taken (c.rx a) (c.rx b)
  | .j _ => true
  | .jal _ => true
  | .jr _ _ => true
  | _ => false

/-- A JR to an address that is not a word's (R142, R143). -/
def CoreOp.strays (o : CoreOp) (c : Core) : Bool :=
  match o with
  | .jr _ a => (c.rx a).toNat % 4 != 0
  | _ => false

/-- A control register read into a register of both copies (R141). -/
def readCsr (p : Fin 25) (d : BitVec 5) (n : BitVec 12) (cyc : Nat) (s : State) : State :=
  let w0 := csrRead s p false cyc n.toNat
  let w1 := csrRead s p true cyc n.toNat
  (s.modCopy p false fun c => (c.wx d w0).nextPc).modCopy p true fun c => (c.wx d w1).nextPc

/-- A control register written by both copies (R141). -/
def writeCsr (p : Fin 25) (a : BitVec 5) (n : BitVec 12) (s : State) : State :=
  let w0 := (s.copyOf p false).rx a
  let w1 := (s.copyOf p true).rx a
  csrWrite p true n.toNat w1 (csrWrite p false n.toNat w0 (s.both p Core.nextPc))

/-- An instruction of a loop pair (R138, R142, R177): `lat` is what contention adds to a read of shared SRAM, `ecc` what the ECC of local
memory found. -/
def engineOp (q : Fin 24) (o : CoreOp) (lat : Nat) (ecc : Ecc) (s : State) : State :=
  let p : Fin 25 := q.castSucc
  let t := issueCycle (s.lp q) o
  let s := unitFlush q t (s.advance t)
  let lead := s.copyOf p false
  if o.strays lead then engineStop q s
  else match o with
    | .load k d a v => engineLoad q o a v k.width (fun c w => c.wx d (k.extend w)) lat ecc t s
    | .flw d a v => engineLoad q o a v 4 (fun c w => c.wf d w) lat ecc t s
    | .store k b a v => engineStore q o a v k.width (fun c => c.rx b) ecc t s
    | .fsw b a v => engineStore q o a v 4 (fun c => c.rf b) ecc t s
    | .pilut d a b c e => enginePilut q o d a b c e ecc t s
    | .pilinit a b => enginePilinit q o a b ecc t s
    | .tlu d a b => engineTlu q o d a b ecc t s
    | .sincos d a c => engineSincos q o d a c t s
    | .csrr d n => issued q o t 1 false 0 (readCsr p d n t s)
    | .csrw a n => issued q o t 1 false 0 (writeCsr p a n s)
    | o => issued q o t o.latency (o.takes lead) 0 (s.both p fun c => c.run o)

/-! ## Kenow (R139, R143, R357, R360) -/

/-- The lowest line that is high and enabled in IMASK. -/
def maskedLine (s : State) : Option (Fin 128) :=
  (List.finRange 128).find? fun l => s.line l && (s.ken.imask[l.val / 32]'(by omega)).getLsbD (l.val % 32)

/-- Both copies of Kenow go on at an address. -/
def kenowGoto (pc : Word) (s : State) : State := s.both 24 fun c => c.goto pc

/-- An exception of Kenow (R143). -/
def kenowTrap (cause : Nat) (s : State) : State :=
  let pc := (s.copyOf 24 false).pc
  kenowGoto s.ken.vbase { s with ken := { s.ken with epc := pc, ecause := BitVec.ofNat 32 cause, ien := false, wait := false } }

/-- An interrupt of Kenow (R143). -/
def kenowInterrupt (l : Fin 128) (s : State) : State :=
  let pc := (s.copyOf 24 false).pc
  kenowGoto (s.ken.vbase + BitVec.ofNat 32 (0x40 + 4 * l.val))
    { s with ken := { s.ken with epc := pc, ecause := BitVec.ofNat 32 (l.val * 256), ien := false, wait := false } }

/-- The asynchronous port that a register read uses (R360). -/
def asyncPort (a : Nat) : Option Nat :=
  if a = Reg.addr .SYS_GPIO_IN then some 0
  else if a / 0x10000 = 0x400F then some 1
  else if a / 0x10000 = 0x4013 then some 2
  else none

/-- A load of Kenow: from its own memory each copy reads its own, elsewhere one read serves both. A word read of an asynchronous port
here resolves (R361); one that does not is ASYNC_PORT_READ. -/
def kenowLoad (a : BitVec 5) (v : BitVec 16) (width : Nat) (put : Core → Word → Core) (s : State) : State :=
  let ea := (s.copyOf 24 false).ea a v
  if ea % width ≠ 0 then kenowTrap 3 s
  else
    let w1 := bytesAt (memGet s.chk) ((s.copyOf 24 true).ea a v) width
    let (w0, s) := busRead ea width s
    let s := if width = 4 ∧ (asyncPort ea).isSome then stableRead s else s
    let w1 := if regionOf ea = .kenow then w1 else w0
    (s.modCopy 24 false fun c => (put c w0).nextPc).modCopy 24 true fun c => (put c w1).nextPc

/-- A store of Kenow (R357, R358). -/
def kenowStore (a : BitVec 5) (v : BitVec 16) (width : Nat) (src : Core → Word) (s : State) : State :=
  let lead := s.copyOf 24 false
  let chk := s.copyOf 24 true
  let ea := lead.ea a v
  if ea % width ≠ 0 then kenowTrap 3 s
  else
    let s := s.both 24 Core.nextPc
    if regionOf ea = .kenow then
      (s.modOwn false (memPut ea width (src lead))).modOwn true (memPut (chk.ea a v) width (src chk))
    else if storeAgrees lead chk a v width src then busWrite ea width (src lead) s else s

/-- IRET (R143). -/
def kenowIret (s : State) : State :=
  if s.ken.epc.toNat % 4 ≠ 0 then kenowTrap 2 s
  else
    let pc := s.ken.epc
    kenowGoto pc { s with ken := { s.ken with ien := true } }

/-- WFI (R143): Kenow waits while no enabled line is high. -/
def kenowWfi (s : State) : State :=
  let s := s.both 24 Core.nextPc
  { s with ken := { s.ken with wait := (maskedLine s).isNone || s.ken.ien } }

/-- An instruction of Kenow. -/
def kenowOp (o : CoreOp) (s : State) : State :=
  let s := { s with ken := { s.ken with wait := false } }
  if o.strays (s.copyOf 24 false) then kenowTrap 2 s
  else match o with
    | .load k d a v => kenowLoad a v k.width (fun c w => c.wx d (k.extend w)) s
    | .flw d a v => kenowLoad a v 4 (fun c w => c.wf d w) s
    | .store k b a v => kenowStore a v k.width (fun c => c.rx b) s
    | .fsw b a v => kenowStore a v 4 (fun c => c.rf b) s
    | .csrr d n => readCsr 24 d n s.time s
    | .csrw a n => writeCsr 24 a n s
    | .wfi => kenowWfi s
    | .iret => kenowIret s
    | o => s.both 24 fun c => c.run o

/-! ## One instruction of a pair -/

/-- An instruction of a pair. -/
def runOp (p : Fin 25) (o : CoreOp) (lat : Nat) (ecc : Ecc) (s : State) : State :=
  match loopPair p with
  | some q => engineOp q o lat ecc s
  | none => kenowOp o s

/-- The pair can take its next instruction: Kenow does not while it waits for an interrupt line (R143). -/
def State.ready (s : State) (p : Fin 25) : Bool :=
  s.executing p && (p.val < 24 || !s.ken.wait || ((maskedLine s).isSome && !s.ken.ien))

/-- A command of the instruction set: the pair executes the instruction, if it is the one at its PC. -/
def coreCmd (p : Fin 25) (o : CoreOp) (lat : Nat) (ecc : Ecc) (s : State) : Host.Outcome State Fault Refusal :=
  .next (if s.ready p ∧ nextOp s p = some o then runOp p o lat ecc s else s)

/-- The fetch of a pair's next instruction met the ECC of local memory (R134): a correction holds the issue, an error that cannot be corrected
retires the pair. -/
def fetchEcc (p : Fin 25) (ecc : Ecc) (s : State) : State :=
  match loopPair p with
  | some q =>
    let s := s.advance (s.lp q).pipe.next
    if ecc = .uncorrectable then retirePair q 2 s else eccCount q ecc (held q ecc s)
  | none => s

/-- The next instruction of a pair is illegal, strays, or lies beyond what can be fetched: the instance stops (R142), or Kenow takes the
exception (R143). Its fetch can meet an ECC error first, which is told here for a legal instruction too (log entry 41). -/
def illegalOp (p : Fin 25) (fetch : Ecc) (s : State) : State :=
  let s := if fetch = .ok then s else fetchEcc p fetch s
  if fetch = .uncorrectable then s
  else match nextOp s p with
  | some o => if o.strays (s.copyOf p false) then runOp p o 0 .ok s else s
  | none =>
    match loopPair p with
    | some q => engineStop q (s.advance (s.lp q).pipe.next)
    | none => kenowTrap (if (s.copyOf p false).pc.toNat % 4 = 0 then 1 else 2) s

end Sys2Proof.Machine
end

