-- ==== Sys2Proof/Machine/Exec.lean ====
section
/-! DEFINITION. The commands of the cores: one per instruction of R138 and R170, interrupts and illegal instructions (R142, R143), and
reads of asynchronous ports that need re-captures (R361). An instruction command names the pair and the operands; the pair executes the
instruction where it stands at its PC (log entry 60). -/

namespace Sys2Proof.Machine

open Sys2Proof

/-- ADD (R138). -/
def execAdd (p : Fin 25) (d a b : BitVec 5) (s : State) : Host.Outcome State Fault Refusal :=
  coreCmd p (.alu .add d a b) 0 .ok s

/-- SUB (R138). -/
def execSub (p : Fin 25) (d a b : BitVec 5) (s : State) : Host.Outcome State Fault Refusal :=
  coreCmd p (.alu .sub d a b) 0 .ok s

/-- AND (R138). -/
def execAnd (p : Fin 25) (d a b : BitVec 5) (s : State) : Host.Outcome State Fault Refusal :=
  coreCmd p (.alu .and d a b) 0 .ok s

/-- OR (R138). -/
def execOr (p : Fin 25) (d a b : BitVec 5) (s : State) : Host.Outcome State Fault Refusal :=
  coreCmd p (.alu .or d a b) 0 .ok s

/-- XOR (R138). -/
def execXor (p : Fin 25) (d a b : BitVec 5) (s : State) : Host.Outcome State Fault Refusal :=
  coreCmd p (.alu .xor d a b) 0 .ok s

/-- SHL (R138). -/
def execShl (p : Fin 25) (d a b : BitVec 5) (s : State) : Host.Outcome State Fault Refusal :=
  coreCmd p (.alu .shl d a b) 0 .ok s

/-- SHR (R138). -/
def execShr (p : Fin 25) (d a b : BitVec 5) (s : State) : Host.Outcome State Fault Refusal :=
  coreCmd p (.alu .shr d a b) 0 .ok s

/-- SRA (R138). -/
def execSra (p : Fin 25) (d a b : BitVec 5) (s : State) : Host.Outcome State Fault Refusal :=
  coreCmd p (.alu .sra d a b) 0 .ok s

/-- SLT (R138). -/
def execSlt (p : Fin 25) (d a b : BitVec 5) (s : State) : Host.Outcome State Fault Refusal :=
  coreCmd p (.alu .slt d a b) 0 .ok s

/-- SLTU (R138). -/
def execSltu (p : Fin 25) (d a b : BitVec 5) (s : State) : Host.Outcome State Fault Refusal :=
  coreCmd p (.alu .sltu d a b) 0 .ok s

/-- MIN (R138). -/
def execMin (p : Fin 25) (d a b : BitVec 5) (s : State) : Host.Outcome State Fault Refusal :=
  coreCmd p (.alu .min d a b) 0 .ok s

/-- MAX (R138). -/
def execMax (p : Fin 25) (d a b : BitVec 5) (s : State) : Host.Outcome State Fault Refusal :=
  coreCmd p (.alu .max d a b) 0 .ok s

/-- MUL (R138). -/
def execMul (p : Fin 25) (d a b : BitVec 5) (s : State) : Host.Outcome State Fault Refusal :=
  coreCmd p (.alu .mul d a b) 0 .ok s

/-- ADDI (R138). -/
def execAddi (p : Fin 25) (d a : BitVec 5) (v : BitVec 16) (s : State) : Host.Outcome State Fault Refusal :=
  coreCmd p (.imm .addi d a v) 0 .ok s

/-- ANDI (R138). -/
def execAndi (p : Fin 25) (d a : BitVec 5) (v : BitVec 16) (s : State) : Host.Outcome State Fault Refusal :=
  coreCmd p (.imm .andi d a v) 0 .ok s

/-- ORI (R138). -/
def execOri (p : Fin 25) (d a : BitVec 5) (v : BitVec 16) (s : State) : Host.Outcome State Fault Refusal :=
  coreCmd p (.imm .ori d a v) 0 .ok s

/-- XORI (R138). -/
def execXori (p : Fin 25) (d a : BitVec 5) (v : BitVec 16) (s : State) : Host.Outcome State Fault Refusal :=
  coreCmd p (.imm .xori d a v) 0 .ok s

/-- SHLI (R138). -/
def execShli (p : Fin 25) (d a sh : BitVec 5) (s : State) : Host.Outcome State Fault Refusal :=
  coreCmd p (.shift .shli d a sh) 0 .ok s

/-- SHRI (R138). -/
def execShri (p : Fin 25) (d a sh : BitVec 5) (s : State) : Host.Outcome State Fault Refusal :=
  coreCmd p (.shift .shri d a sh) 0 .ok s

/-- SRAI (R138). -/
def execSrai (p : Fin 25) (d a sh : BitVec 5) (s : State) : Host.Outcome State Fault Refusal :=
  coreCmd p (.shift .srai d a sh) 0 .ok s

/-- SLTI (R138). -/
def execSlti (p : Fin 25) (d a : BitVec 5) (v : BitVec 16) (s : State) : Host.Outcome State Fault Refusal :=
  coreCmd p (.imm .slti d a v) 0 .ok s

/-- LUI (R138). -/
def execLui (p : Fin 25) (d : BitVec 5) (v : BitVec 16) (s : State) : Host.Outcome State Fault Refusal :=
  coreCmd p (.lui d v) 0 .ok s

/-- LW (R138). -/
def execLw (p : Fin 25) (d a : BitVec 5) (v : BitVec 16) (lat : Fin 35) (ecc : Ecc) (s : State) : Host.Outcome State Fault Refusal :=
  coreCmd p (.load .lw d a v) lat.val ecc s

/-- LH (R138). -/
def execLh (p : Fin 25) (d a : BitVec 5) (v : BitVec 16) (lat : Fin 35) (ecc : Ecc) (s : State) : Host.Outcome State Fault Refusal :=
  coreCmd p (.load .lh d a v) lat.val ecc s

/-- LHU (R138). -/
def execLhu (p : Fin 25) (d a : BitVec 5) (v : BitVec 16) (lat : Fin 35) (ecc : Ecc) (s : State) : Host.Outcome State Fault Refusal :=
  coreCmd p (.load .lhu d a v) lat.val ecc s

/-- LB (R138). -/
def execLb (p : Fin 25) (d a : BitVec 5) (v : BitVec 16) (lat : Fin 35) (ecc : Ecc) (s : State) : Host.Outcome State Fault Refusal :=
  coreCmd p (.load .lb d a v) lat.val ecc s

/-- LBU (R138). -/
def execLbu (p : Fin 25) (d a : BitVec 5) (v : BitVec 16) (lat : Fin 35) (ecc : Ecc) (s : State) : Host.Outcome State Fault Refusal :=
  coreCmd p (.load .lbu d a v) lat.val ecc s

/-- SW (R138). -/
def execSw (p : EccOf 25) (b a : BitVec 5) (v : BitVec 16) (s : State) : Host.Outcome State Fault Refusal :=
  coreCmd p.on (.store .sw b a v) 0 p.ecc s

/-- SH (R138). -/
def execSh (p : EccOf 25) (b a : BitVec 5) (v : BitVec 16) (s : State) : Host.Outcome State Fault Refusal :=
  coreCmd p.on (.store .sh b a v) 0 p.ecc s

/-- SB (R138). -/
def execSb (p : EccOf 25) (b a : BitVec 5) (v : BitVec 16) (s : State) : Host.Outcome State Fault Refusal :=
  coreCmd p.on (.store .sb b a v) 0 p.ecc s

/-- FLW (R138). -/
def execFlw (p : Fin 25) (d a : BitVec 5) (v : BitVec 16) (lat : Fin 35) (ecc : Ecc) (s : State) : Host.Outcome State Fault Refusal :=
  coreCmd p (.flw d a v) lat.val ecc s

/-- FSW (R138). -/
def execFsw (p : EccOf 25) (b a : BitVec 5) (v : BitVec 16) (s : State) : Host.Outcome State Fault Refusal :=
  coreCmd p.on (.fsw b a v) 0 p.ecc s

/-- BEQ (R138). -/
def execBeq (p : Fin 25) (b a : BitVec 5) (ofs : BitVec 16) (s : State) : Host.Outcome State Fault Refusal :=
  coreCmd p (.branch .beq b a ofs) 0 .ok s

/-- BNE (R138). -/
def execBne (p : Fin 25) (b a : BitVec 5) (ofs : BitVec 16) (s : State) : Host.Outcome State Fault Refusal :=
  coreCmd p (.branch .bne b a ofs) 0 .ok s

/-- BLT (R138). -/
def execBlt (p : Fin 25) (b a : BitVec 5) (ofs : BitVec 16) (s : State) : Host.Outcome State Fault Refusal :=
  coreCmd p (.branch .blt b a ofs) 0 .ok s

/-- BGE (R138). -/
def execBge (p : Fin 25) (b a : BitVec 5) (ofs : BitVec 16) (s : State) : Host.Outcome State Fault Refusal :=
  coreCmd p (.branch .bge b a ofs) 0 .ok s

/-- BLTU (R138). -/
def execBltu (p : Fin 25) (b a : BitVec 5) (ofs : BitVec 16) (s : State) : Host.Outcome State Fault Refusal :=
  coreCmd p (.branch .bltu b a ofs) 0 .ok s

/-- BGEU (R138). -/
def execBgeu (p : Fin 25) (b a : BitVec 5) (ofs : BitVec 16) (s : State) : Host.Outcome State Fault Refusal :=
  coreCmd p (.branch .bgeu b a ofs) 0 .ok s

/-- J (R138). -/
def execJ (p : Fin 25) (ofs : BitVec 26) (s : State) : Host.Outcome State Fault Refusal :=
  coreCmd p (.j ofs) 0 .ok s

/-- JAL (R138). -/
def execJal (p : Fin 25) (ofs : BitVec 26) (s : State) : Host.Outcome State Fault Refusal :=
  coreCmd p (.jal ofs) 0 .ok s

/-- JR (R138). -/
def execJr (p : Fin 25) (d a : BitVec 5) (s : State) : Host.Outcome State Fault Refusal :=
  coreCmd p (.jr d a) 0 .ok s

/-- FADD (R138). -/
def execFadd (p : Fin 25) (d a b : BitVec 5) (s : State) : Host.Outcome State Fault Refusal :=
  coreCmd p (.fp .fadd d a b) 0 .ok s

/-- FSUB (R138). -/
def execFsub (p : Fin 25) (d a b : BitVec 5) (s : State) : Host.Outcome State Fault Refusal :=
  coreCmd p (.fp .fsub d a b) 0 .ok s

/-- FMUL (R138). -/
def execFmul (p : Fin 25) (d a b : BitVec 5) (s : State) : Host.Outcome State Fault Refusal :=
  coreCmd p (.fp .fmul d a b) 0 .ok s

/-- FMAC (R138). -/
def execFmac (p : Fin 25) (d a b : BitVec 5) (s : State) : Host.Outcome State Fault Refusal :=
  coreCmd p (.fp .fmac d a b) 0 .ok s

/-- DMAC (R138). -/
def execDmac (p : Fin 25) (d a b : BitVec 5) (s : State) : Host.Outcome State Fault Refusal :=
  coreCmd p (.dmac d a b) 0 .ok s

/-- FDIV (R138). -/
def execFdiv (p : Fin 25) (d a b : BitVec 5) (s : State) : Host.Outcome State Fault Refusal :=
  coreCmd p (.fp .fdiv d a b) 0 .ok s

/-- FSQRT (R138). -/
def execFsqrt (p : Fin 25) (d a : BitVec 5) (s : State) : Host.Outcome State Fault Refusal :=
  coreCmd p (.fun1 .fsqrt d a) 0 .ok s

/-- FMIN (R138). -/
def execFmin (p : Fin 25) (d a b : BitVec 5) (s : State) : Host.Outcome State Fault Refusal :=
  coreCmd p (.fp .fmin d a b) 0 .ok s

/-- FMAX (R138). -/
def execFmax (p : Fin 25) (d a b : BitVec 5) (s : State) : Host.Outcome State Fault Refusal :=
  coreCmd p (.fp .fmax d a b) 0 .ok s

/-- FABS (R138). -/
def execFabs (p : Fin 25) (d a : BitVec 5) (s : State) : Host.Outcome State Fault Refusal :=
  coreCmd p (.fun1 .fabs d a) 0 .ok s

/-- FNEG (R138). -/
def execFneg (p : Fin 25) (d a : BitVec 5) (s : State) : Host.Outcome State Fault Refusal :=
  coreCmd p (.fun1 .fneg d a) 0 .ok s

/-- FEQ (R138). -/
def execFeq (p : Fin 25) (d a b : BitVec 5) (s : State) : Host.Outcome State Fault Refusal :=
  coreCmd p (.fcmp .feq d a b) 0 .ok s

/-- FLT (R138). -/
def execFlt (p : Fin 25) (d a b : BitVec 5) (s : State) : Host.Outcome State Fault Refusal :=
  coreCmd p (.fcmp .flt d a b) 0 .ok s

/-- FLE (R138). -/
def execFle (p : Fin 25) (d a b : BitVec 5) (s : State) : Host.Outcome State Fault Refusal :=
  coreCmd p (.fcmp .fle d a b) 0 .ok s

/-- FCVTWS (R138). -/
def execFcvtws (p : Fin 25) (d a : BitVec 5) (s : State) : Host.Outcome State Fault Refusal :=
  coreCmd p (.fmove .fcvtws d a) 0 .ok s

/-- FCVTSW (R138). -/
def execFcvtsw (p : Fin 25) (d a : BitVec 5) (s : State) : Host.Outcome State Fault Refusal :=
  coreCmd p (.fmove .fcvtsw d a) 0 .ok s

/-- FMVXS (R138). -/
def execFmvxs (p : Fin 25) (d a : BitVec 5) (s : State) : Host.Outcome State Fault Refusal :=
  coreCmd p (.fmove .fmvxs d a) 0 .ok s

/-- FMVSX (R138). -/
def execFmvsx (p : Fin 25) (d a : BitVec 5) (s : State) : Host.Outcome State Fault Refusal :=
  coreCmd p (.fmove .fmvsx d a) 0 .ok s

/-- PILUT (R177). -/
def execPilut (p : Fin 24) (d a b c e : BitVec 5) (ecc : Ecc) (s : State) : Host.Outcome State Fault Refusal :=
  coreCmd p.castSucc (.pilut d a b c e) 0 ecc s

/-- PILINIT (R170). -/
def execPilinit (p : EccOf 24) (a b : BitVec 5) (s : State) : Host.Outcome State Fault Refusal :=
  coreCmd p.on.castSucc (.pilinit a b) 0 p.ecc s

/-- TLU (R170). -/
def execTlu (p : Fin 24) (d a b : BitVec 5) (ecc : Ecc) (s : State) : Host.Outcome State Fault Refusal :=
  coreCmd p.castSucc (.tlu d a b) 0 ecc s

/-- SINCOS (R170). -/
def execSincos (p : Fin 24) (d a c : BitVec 5) (s : State) : Host.Outcome State Fault Refusal :=
  coreCmd p.castSucc (.sincos d a c) 0 .ok s

/-- CSRR (R141). -/
def execCsrr (p : Fin 25) (d : BitVec 5) (n : BitVec 12) (s : State) : Host.Outcome State Fault Refusal :=
  coreCmd p (.csrr d n) 0 .ok s

/-- CSRW (R141). -/
def execCsrw (p : Fin 25) (a : BitVec 5) (n : BitVec 12) (s : State) : Host.Outcome State Fault Refusal :=
  coreCmd p (.csrw a n) 0 .ok s

/-- NOP (R138). -/
def execNop (p : Fin 25) (s : State) : Host.Outcome State Fault Refusal :=
  coreCmd p .nop 0 .ok s

/-- WFI (R143). -/
def execWfi (s : State) : Host.Outcome State Fault Refusal :=
  coreCmd 24 .wfi 0 .ok s

/-- IRET (R143). -/
def execIret (s : State) : Host.Outcome State Fault Refusal :=
  coreCmd 24 .iret 0 .ok s

/-- INTERRUPT_TAKEN (R143): Kenow takes the lowest enabled line that is high, at an instruction boundary. -/
def execInterruptTaken (s : State) : Host.Outcome State Fault Refusal :=
  .next (
    if s.executing 24 && s.ken.ien then
      match maskedLine s with
      | some l => kenowInterrupt l s
      | none => s
    else s)

/-- ILLEGAL_INSTRUCTION (R142, R143). -/
def execIllegalInstruction (p : EccOf 25) (s : State) : Host.Outcome State Fault Refusal :=
  .next (if s.ready p.on then illegalOp p.on p.ecc s else s)

/-- The core cycles of a port read that resolves after a number of re-captures, or does not (R361). -/
def portCycles (tries : Fin 5) : Nat := min 16 (4 * (tries.val + 1))

/-- A word loaded by Kenow from an asynchronous port: with re-captures, or unstable with the lead's last sample (R361, R362). -/
def portLoad (a : BitVec 5) (v : BitVec 16) (tries : Fin 5) (sample : Word) (put : Core → Word → Core) (s : State) : State :=
  let ea := (s.copyOf 24 false).ea a v
  match asyncPort ea with
  | none => s
  | some k =>
    if ea % 4 ≠ 0 then s
    else
      let s := s.advance (s.time + portCycles tries)
      let s := { s with ken := { s.ken with wait := false } }
      if tries.val < 4 then kenowLoad a v 4 put s
      else unstableRead k (s.both 24 fun c => (put c sample).nextPc)

/-- ASYNC_PORT_READ (R361): Kenow's next instruction is a word load from a port, and takes `tries` re-captures; with 4 the samples differ to
the end and `sample` is the lead's last. -/
def execAsyncPortRead (tries : Fin 5) (sample : Word) (s : State) : Host.Outcome State Fault Refusal :=
  .next (
    if s.ready 24 then
      match nextOp s 24 with
      | some (.load .lw d a v) => portLoad a v tries sample (fun c w => c.wx d w) s
      | some (.flw d a v) => portLoad a v tries sample (fun c w => c.wf d w) s
      | _ => s
    else s)

end Sys2Proof.Machine
end

