-- ==== Sys2Proof/Machine/Debug.lean ====
section
/-! DEFINITION. Debug access and the JTAG port (R364, R367 to R372, R376), and writes of registers that have no command of their own
(R5, R6). -/

namespace Sys2Proof.Machine

open Sys2Proof

/-! ## The DBG block as the debug port writes it (R367 to R369, R376) -/

/-- A write to DBG_REGDATA (R367). -/
def dbgDataWrite (v : Word) (s : State) : State :=
  let p := dbgPair s
  if s.isHalted p && !s.flag Fld.DBG_SEL_CORE then coreRegWrite p (s.f Fld.DBG_REG_REG) v s else dbgRefused s

/-- The halted pair has an instruction to step: a loop pair with an instance that R142 has not stopped; Kenow, unless it waits for a
line (R143). -/
def canStep (s : State) (p : Fin 25) : Bool :=
  match loopPair p with
  | some q => (s.lp q).live && !(s.lp q).stopped
  | none => !s.ken.wait || ((maskedLine s).isSome && !s.ken.ien)

/-- The pair's next issue falls in the present cycle or later. -/
def issueNow (p : Fin 25) (s : State) : State :=
  match loopPair p with
  | some q => s.modLp q fun l => { l with pipe := { l.pipe with next := max l.pipe.next s.time } }
  | none => s

/-- DBG_STEP (R369): the halted pair of DBG_SEL executes one instruction in both copies. -/
def stepPair (s : State) : State :=
  let p := dbgPair s
  if !s.isHalted p || (s.copyTill p).isSome then dbgRefused s
  else if !canStep s p then s
  else
    let s := issueNow p s
    match nextOp s p with
    | some o => runOp p o 0 .ok s
    | none => illegalOp p .ok s

/-- A write to a register of the DBG block. -/
def dbgRegWrite (r : Reg) (v : Word) (s : State) : State :=
  match r with
  | .DBG_HALT => eachPair (v.extractLsb' 0 25) debugHalt s
  | .DBG_RESUME => eachPair (v.extractLsb' 0 25) resumePair s
  | .DBG_REGDATA => dbgDataWrite v s
  | .DBG_STEP => if v.getLsbD 0 then stepPair s else s
  | r => writePlain r v s

/-! ## The debug port (R367, R372) -/

/-- An access of the debug port is refused. -/
def portRefuses (s : State) (a : Nat) (isWrite : Bool) : Bool :=
  !s.flag Fld.SYS_STRAP_DBG || (isWrite && ((a / 0x10000 = 0x400F && s.locked) || regionOf a = .crucible))

/-- A word written by the debug port: the agent's view, the DBG block, and the local memory of halted pairs. -/
def portWrite (a width : Nat) (v : Word) (s : State) : State :=
  if portRefuses s a true then s
  else if !accessOk a width then agentWrite a width v s
  else if a / 0x10000 = 0x4013 then
    match (if width = 4 then Reg.ofAddr? a else none) with
    | some r => agentTurn (dbgRegWrite r v) s
    | none => s
  else match regionOf a with
    | .engine p => if s.isHalted p.castSucc then putBoth a width v (unitFlush p s.time s) else busWrite a width v s
    | _ => busWrite a width v s

/-- A word read by the debug port. At a misaligned address a register reads 0 (R5) and an unlisted address is recorded (R34); for memory
no result is stated. -/
def portRead (a : Nat) (s : State) : Word × State :=
  if a % 4 = 0 then busRead a 4 s
  else match regionOf a with
    | .block => (0#32, s)
    | .nothing => (0#32, unmapped (BitVec.ofNat 32 a) s)
    | _ => s.takeWord

/-- REGISTER_WRITE (R5, R6): a write of 1, 2 or 4 bytes by the agent, or by the debug port. -/
def execRegisterWrite (addr value : Word) (width : Nat) (port : Bool) (s : State) : Host.Outcome State Fault Refusal :=
  .next (if port then portWrite addr.toNat width value s else agentWrite addr.toNat width value s)

/-- STEP (R369). -/
def execStep (s : State) : Host.Outcome State Fault Refusal := .next (if s.flag Fld.SYS_STRAP_DBG then agentTurn stepPair s else s)

/-- DEBUG_REGISTER_WRITE (R367): a debug write to DBG_REGDATA. -/
def execDebugRegisterWrite (value : Word) (s : State) : Host.Outcome State Fault Refusal :=
  .next (if s.flag Fld.SYS_STRAP_DBG then agentTurn (dbgDataWrite value) s else s)

/-! ## The TAP (R370, R371) -/

/-- The codes of the TAP's instructions (R370). -/
abbrev irExtest : BitVec 6 := 0x00#6
abbrev irSample : BitVec 6 := 0x01#6
abbrev irIdcode : BitVec 6 := 0x02#6
abbrev irHighz : BitVec 6 := 0x04#6
abbrev irAddr : BitVec 6 := 0x10#6
abbrev irData : BitVec 6 := 0x11#6

/-- How the selected instruction behaves. -/
inductive TapMode where
  | extest | sample | idcode | highz | bypass | addr | data
  deriving DecidableEq, Repr

/-- The behaviour of an instruction: EXTEST and HIGHZ act only while RST_N is low (R371), the debug registers exist only while ST_DBG is
high (R364). -/
def tapMode (s : State) (ir : BitVec 6) : TapMode :=
  if ir = irExtest then (if s.boot.rstLow then .extest else .sample)
  else if ir = irSample then .sample
  else if ir = irIdcode then .idcode
  else if ir = irHighz then (if s.boot.rstLow then .highz else .bypass)
  else if ir = irAddr then (if s.flag Fld.SYS_STRAP_DBG then .addr else .bypass)
  else if ir = irData then (if s.flag Fld.SYS_STRAP_DBG then .data else .bypass)
  else .bypass

/-- An instruction selected. -/
def tapSelect (ir : BitVec 6) (s : State) : State := { s with tap := { s.tap with ir := ir } }

/-- A pad that is no gate pad, with boundary cell `k`, as the TAP leaves it: driven from its cell under EXTEST, released under HIGHZ, else the
device's own (R371). The gate pads' cells only observe. -/
def tapPad (s : State) (k : Nat) (own : Option Bool) : Option Bool :=
  match tapMode s s.tap.ir with
  | .extest => s.tap.cells[k]?
  | .highz => none
  | _ => own

/-- TAP_RESET (R370): IDCODE is selected. -/
def execTapReset (s : State) : Host.Outcome State Fault Refusal := .next (tapSelect irIdcode s)

/-- EXTEST (R371). -/
def execExtest (s : State) : Host.Outcome State Fault Refusal := .next (tapSelect irExtest s)

/-- SAMPLE_PRELOAD (R370): the cells take what is shifted in. -/
def execSamplePreload (cells : List Bool) (s : State) : Host.Outcome State Fault Refusal :=
  .next (let s := tapSelect irSample s; { s with tap := { s.tap with cells := cells } })

/-- The identity (R370): version 0x1, part 0x0960, Portiel 0x079. -/
def idcode : Word := 0x109600F3#32

/-- IDCODE (R370). -/
def execIdcode (s : State) : Host.Outcome State Fault Refusal := .next { tapSelect irIdcode s with rdata := idcode }

/-- HIGHZ (R371). -/
def execHighz (s : State) : Host.Outcome State Fault Refusal := .next (tapSelect irHighz s)

/-- BYPASS (R370): 0x3F, or a code that names no instruction; another code selects nothing here. -/
def execBypass (code : BitVec 6) (s : State) : Host.Outcome State Fault Refusal :=
  .next (
    if code = irExtest ∨ code = irSample ∨ code = irIdcode ∨ code = irHighz ∨ code = irAddr ∨ code = irData then s
    else tapSelect code s)

/-- DBG_ADDR (R372). -/
def execDbgAddr (value : Word) (s : State) : Host.Outcome State Fault Refusal :=
  .next (
    let s := tapSelect irAddr s
    if tapMode s irAddr = .addr then { s with tap := { s.tap with addr := value } } else s)

/-- An operation of DBG_DATA (R372): one issued while the last is busy is ignored; a refused one ends at once. -/
def portIssue (isWrite : Bool) (v : Word) (s : State) : State :=
  let s := tapSelect irData s
  if tapMode s irData ≠ .data then s
  else if s.tap.busy.isSome then s
  else if portRefuses s s.tap.addr.toNat isWrite then { s with tap := { s.tap with status := 2#2 } }
  else { s with tap := { s.tap with busy := some (isWrite, v), status := 1#2 } }

/-- DEBUG_READ (R372). -/
def execDebugRead (s : State) : Host.Outcome State Fault Refusal := .next (portIssue false 0#32 s)

/-- DEBUG_WRITE (R372). -/
def execDebugWrite (value : Word) (s : State) : Host.Outcome State Fault Refusal := .next (portIssue true value s)

/-- DEBUG_ACCESS_DONE (R372): the access under way completes at a core cycle, and DBG_ADDR moves on. -/
def execDebugAccessDone (cyc : Nat) (s : State) : Host.Outcome State Fault Refusal :=
  .next (
    match s.tap.busy with
    | none => s
    | some (isWrite, v) =>
      let a := s.tap.addr
      let s := s.advance cyc
      let s := { s with tap := { s.tap with busy := none, status := 0#2, addr := a + 4#32 } }
      if isWrite then portWrite a.toNat 4 v s
      else
        let (w, s) := portRead a.toNat s
        { s with tap := { s.tap with data := w }, rdata := w })

end Sys2Proof.Machine
end

