-- ==== Sys2Proof/Machine/Felyene.lean ====
section
/-! DEFINITION. Felyene's service of the mailbox (R464 to R468): the frame of a command, the order in which it is judged, its response, and
the commands of families 0x01 to 0x04. -/

namespace Sys2Proof.Machine

open Sys2Proof

/-! ## Frames (R465) -/

/-- A command's frame: OPCODE, TAG, LEN and the payload bytes. -/
structure Frame where
  op : Nat
  tag : Nat
  len : Nat
  pay : List Byte
  deriving DecidableEq, Repr

/-- The address of a command slot. -/
def slotBase (i : Fin 8) : Nat := mbxBase + 0x800 + 0x100 * i.val

/-- A number from bytes, least significant first. -/
def leNat (l : List Byte) : Nat := l.foldr (fun b n => b.toNat + 256 * n) 0

/-- The frame in a slot. -/
def frameOf (s : State) (i : Fin 8) : Frame :=
  let a := slotBase i
  { op := leNat (getBytes s.mem a 2), tag := leNat (getBytes s.mem (a + 2) 2), len := leNat (getBytes s.mem (a + 4) 2),
    pay := getBytes s.mem (a + 16) 240 }

/-- Payload bytes, halfwords and words at an offset. -/
def Frame.b (f : Frame) (k : Nat) : Nat := (f.pay.getD k 0#8).toNat
def Frame.h (f : Frame) (k : Nat) : Nat := f.b k + 256 * f.b (k + 1)
def Frame.w (f : Frame) (k : Nat) : Word := BitVec.ofNat 32 (f.h k + 65536 * f.h (k + 2))

/-- A check that fails, with its offset: bytes that must be 0. -/
def Frame.zero (f : Frame) (k n : Nat) : Bool × Nat := (((f.pay.drop k).take n).any (· != 0#8), k)

/-- The first failing check (R466), with detail code 0. -/
def firstBad (l : List (Bool × Nat)) : Option (Nat × Nat) := (l.find? (·.1)).map fun e => (e.2, 0)

/-! ## Answers (R465 to R467) -/

/-- An answer: STATUS, header byte 9, and the payload. -/
structure Ans where
  st : Nat
  obj : Nat := 0xFF
  data : List Byte := []
  deriving DecidableEq, Repr

def ansOk (data : List Byte) : Ans := { st := 0, data := data }
def ansBad (off detail : Nat) : Ans := { st := 3, data := leBytes off 2 ++ [BitVec.ofNat 8 detail, 0#8] }
def ansBusy : Ans := { st := 4 }
def ansState (obj : Nat) : Ans := { st := 5, obj := obj }
def ansLock : Ans := { st := 6 }
def ansSafety : Ans := { st := 7 }
def ansAuth : Ans := { st := 8 }
def ansTimeout : Ans := { st := 9 }

/-- The bytes of words. -/
def wordBytes (l : List Word) : List Byte := l.flatMap fun w => leBytes w.toNat 4

/-- One byte and three zeros. -/
def byteAns (n : Nat) : Ans := ansOk [BitVec.ofNat 8 n, 0#8, 0#8, 0#8]

/-- What the execution of a command gives: an answer, or a response that waits. -/
inductive FelRes where
  | answer (a : Ans) (s : State)
  | wait (arg : Nat) (s : State)

/-- A response frame (R465). -/
def rspFrame (op tag dev at_ : Nat) (a : Ans) : List Byte :=
  leBytes op 2 ++ leBytes tag 2 ++ leBytes a.data.length 2 ++ leBytes a.st 2 ++
    [BitVec.ofNat 8 dev, BitVec.ofNat 8 a.obj, 1#8, 0#8] ++ leBytes (at_ % 2 ^ 32) 4 ++ a.data

/-- The response is posted in the slot of the command. -/
def respond (i : Fin 8) (op tag dev at_ : Nat) (a : Ans) (s : State) : State :=
  agentRsp (1#8 <<< i.val) { s with mem := putBytes (slotBase i) (rspFrame op tag dev at_ a) s.mem }

/-! ## Judgement (R464, R466, R468) -/

/-- The opcodes of the command table. -/
def felOps : List Nat :=
  [0x0100, 0x0101, 0x0102, 0x0103, 0x0104, 0x0105, 0x0106, 0x0107, 0x0200, 0x0201, 0x0202, 0x0203, 0x0204, 0x0300, 0x0301, 0x0302,
   0x0400, 0x0401, 0x0402, 0x0403, 0x0500, 0x0501, 0x0600, 0x0601, 0x0602, 0x0603, 0x0700, 0x0701, 0x0800, 0x0801, 0x0802, 0x0803,
   0x0804, 0x0900, 0x0901, 0x0902, 0x0A00, 0x0A01]

/-- A row of the command table: the lengths it takes, its parameter checks, the states it is legal in, and its object. -/
structure FelRow where
  lenOk : Frame → State → Bool
  bad : Frame → State → Option (Nat × Nat) := fun _ _ => none
  states : Frame → List Nat
  obj : Frame → State → Nat := fun _ _ => 0xFF

/-- Every state except BOOT. -/
def allStates : List Nat := [devConfig, devStandby, devArmed, devRun, devSafe, devFault, devDebug]

/-- Felyene, or in BOOT the boot ROM, serves the mailbox. -/
def felServes (s : State) : Bool := s.flag Fld.MBX_CTL_UP && !s.ken.halted

/-- A transition of the present cycle is past (R462, R476). -/
def pastCycle (s : State) : State := if s.mbx.oldCyc = some s.perCycle then s.advance (4 * (s.perCycle + 1)) else s

/-- A command judged in the order of R466, up to the state; what follows is the command's own. -/
def judge (row : FelRow) (f : Frame) (act : State → FelRes) (s : State) : FelRes :=
  if 240 < f.len || !row.lenOk f s then .answer { st := 2 } s
  else match row.bad f s with
    | some (off, d) => .answer (ansBad off d) s
    | none => if (row.states f).contains s.dev then act s else .answer (ansState (row.obj f s)) s

/-- The result of a new command: its response is posted, or it waits. -/
def felDone (i : Fin 8) (f : Frame) (dev at_ : Nat) : FelRes → State
  | .answer a s => respond i f.op f.tag dev at_ a s
  | .wait arg s =>
    { s with mbx := { s.mbx with run := some { slot := i, op := f.op, tag := f.tag, dev := dev, at_ := at_, arg := arg } } }

/-- The result of a command that waited. -/
def felEnd (r : FelRun) : FelRes → State
  | .answer a s =>
    let s := { s with mbx := { s.mbx with run := none } }
    if r.drop then s else respond r.slot r.op r.tag r.dev r.at_ a s
  | .wait _ s => s

/-- A command of the mailbox: the slot that is first in order is executed if its OPCODE is this row's; one that the table does not hold is
answered BAD_OPCODE. While a response waits, the same command sent again asks whether its action has ended. Kenow's register writes that a
command makes take their turns on the agent bus (R530). -/
def felCmd (i : Fin 8) (op : Nat) (row : FelRow) (act : Frame → State → FelRes)
    (again : FelRun → State → FelRes) (s : State) : Host.Outcome State Fault Refusal :=
  .next (
    match s.mbx.run with
    | some r => if r.slot = i ∧ r.op = op then agentTurn (fun s => felEnd r (again r s)) s else s
    | none =>
      if s.mbx.order.head? = some i && felServes s then
        let s := pastCycle s
        let f := frameOf s i
        if f.op = op then agentTurn (fun s => felDone i f s.dev s.time (judge row f (act f) s)) s
        else if felOps.contains f.op then s
        else agentTurn (fun s => respond i f.op f.tag s.dev s.time { st := 1 } s) s
      else s)

/-- A command that never waits. -/
def noWait (_ : FelRun) (s : State) : FelRes := .wait 0 s

/-- A row of a fixed length. -/
def fixedLen (n : Nat) (f : Frame) (_ : State) : Bool := f.len = n

/-! ## Family 0x01 -/

/-- The straps as GET_INFO gives them. -/
def infoStraps (s : State) : Nat :=
  s.f Fld.SYS_STRAP_BOOT + 4 * s.f Fld.SYS_STRAP_HOSTQ + 8 * s.f Fld.SYS_STRAP_SAFE + 16 * s.f Fld.SYS_STRAP_DBG +
    32 * s.f Fld.SYS_STRAP_LBT + 128 * s.f Fld.SYS_STRAP_GPOL

/-- GET_INFO (R468). -/
def execGetInfo (i : Fin 8) (s : State) : Host.Outcome State Fault Refusal :=
  felCmd i 0x0100 { lenOk := fixedLen 0, states := fun _ => devBoot :: allStates }
    (fun _ s =>
      .answer (ansOk (leBytes 0x0960 2 ++ [Config.siliconRev] ++ leBytes Config.felVersion.toNat 2 ++
        [BitVec.ofNat 8 (activeSlot s).val] ++ leBytes (infoStraps s) 2 ++
        [BitVec.ofNat 8 (s.f Fld.SYS_STRAP_NODE), BitVec.ofNat 8 (bit s.broken), 0#8, 0#8] ++
        wordBytes [s.rd .HLM_OPSEC, s.rd .HLM_PWRCYC, 0#32, 0#32, 0#32])) s)
    noWait s

/-- GET_STATE (R468). -/
def execGetState (i : Fin 8) (s : State) : Host.Outcome State Fault Refusal :=
  felCmd i 0x0101 { lenOk := fixedLen 0, states := fun _ => allStates }
    (fun _ s =>
      .answer (ansOk (([s.dev, s.sv] ++ (List.finRange 4).map s.axis ++ (List.finRange 8).map s.auxSt ++ [s.pch, s.dsg]).map
        (BitVec.ofNat 8))) s)
    noWait s

/-- A change of device state from the present state is one of R23's. -/
def requestFrom (s : State) (target : Nat) : Bool :=
  let d := s.dev
  if target = devConfig then d = devStandby
  else if target = devStandby then d = devConfig || d = devArmed || d = devSafe
  else if target = devArmed then d = devStandby || d = devRun
  else if target = devRun then d = devArmed
  else if target = devSafe then devConfig ≤ d && d ≤ devRun
  else if target = devDebug then devStandby ≤ d && d ≤ devRun
  else false

/-- The answer where the hardware refuses a request (R466, R467): the first in order of state, lock and safety. -/
def requestAns (s : State) (target : Nat) : Ans :=
  let d := s.dev
  if requestOk s target || !requestFrom s target then ansState 0xFF
  else if (target = devStandby && d = devArmed) || (target = devArmed && d = devRun) || target = devDebug then ansState 0xFF
  else if target = devStandby && d = devConfig && !s.locked then ansLock
  else ansSafety

/-- Felyene's request for a device state. -/
def felRequest (target : Nat) (data : State → List Byte) (s : State) : FelRes :=
  let ok := s.sys.causeCyc != some s.perCycle && requestOk s target
  let a := requestAns s target
  let s := stateRequest target 0xC3A5#16 s
  if ok then .answer (ansOk (data s)) s else .answer a s

/-- SET_STATE (R468). -/
def execSetState (i : Fin 8) (s : State) : Host.Outcome State Fault Refusal :=
  felCmd i 0x0102
    { lenOk := fixedLen 4, bad := fun f _ => firstBad [(7 < f.b 0, 0), f.zero 1 3],
      states := fun _ => [devConfig, devStandby, devArmed, devRun, devSafe] }
    (fun f s => felRequest (f.b 0) (fun s => [BitVec.ofNat 8 s.dev, 0#8, 0#8, 0#8]) s)
    noWait s

/-- LOCK_CONFIG (R468): the response waits for the lock check (R343). -/
def execLockConfig (i : Fin 8) (s : State) : Host.Outcome State Fault Refusal :=
  felCmd i 0x0103 { lenOk := fixedLen 0, states := fun _ => [devConfig] }
    (fun _ s => if s.locked then .answer ansLock s else .wait 0 (configLock 0x4C4B#16 s))
    (fun _ s =>
      if !s.flag Fld.ANV_PSTAT_DONE then .wait 0 s
      else if s.flag Fld.ANV_PSTAT_RANGE_ERR then .answer (ansBad 0 1) s
      else .answer (ansOk (wordBytes [s.rd .ANV_PCRC, s.rd .QNC_CRC])) s)
    s

/-- Words read one after the other as agent reads. -/
def readWords (a : Nat) : Nat → State → List Word × State
  | 0, s => ([], s)
  | n + 1, s =>
    let (w, s) := agentRead a s
    let (l, s) := readWords (a + 4) n s
    (w :: l, s)

/-- REG_READ (R468). -/
def execRegRead (i : Fin 8) (s : State) : Host.Outcome State Fault Refusal :=
  felCmd i 0x0104
    { lenOk := fixedLen 8,
      bad := fun f _ => firstBad [((f.w 0).toNat % 4 != 0, 0), (f.b 4 = 0 || 60 < f.b 4, 4), f.zero 5 3], states := fun _ => allStates }
    (fun f s =>
      let (l, s) := readWords (f.w 0).toNat (f.b 4) s
      .answer (ansOk (wordBytes l)) s)
    noWait s

/-- An address that REG_WRITE does not take (R468). -/
def regWriteBad (a : Nat) : Bool :=
  let b := a / 0x10000
  a % 4 != 0 || b = 0x4000 || b = 0x4001 || b = 0x4012 || b = 0x4013 || b = 0x400F || b = 0x4006 || b = 0x4007 ||
    (0x30000000 ≤ a && a < 0x30180000)

/-- The masked writes of REG_WRITE from triple `k` on, each in a peripheral cycle of its own (R530). -/
def regWrites (f : Frame) : Nat → Nat → State → List Word × State
  | 0, _, s => ([], s)
  | n + 1, k, s =>
    let a := (f.w (12 * k)).toNat
    let mask := f.w (12 * k + 4)
    let (old, s) := agentRead a s
    let s := agentWrite a 4 ((old &&& ~~~mask) ||| (f.w (12 * k + 8) &&& mask)) s
    let (back, s) := agentRead a s
    let (l, s) := regWrites f n (k + 1) s
    (back :: l, s)

/-- REG_WRITE (R468). -/
def execRegWrite (i : Fin 8) (s : State) : Host.Outcome State Fault Refusal :=
  felCmd i 0x0105
    { lenOk := fun f _ => f.len % 12 = 0 && f.len != 0,
      bad := fun f _ => firstBad ((List.range (f.len / 12)).map fun k => (regWriteBad (f.w (12 * k)).toNat, 12 * k)),
      states := fun _ => [devConfig, devStandby, devArmed, devRun, devSafe, devDebug] }
    (fun f s =>
      let (l, s) := regWrites f (f.len / 12) 0 s
      .answer (ansOk (wordBytes l)) s)
    noWait s

/-- FAULT_READ (R468). -/
def execFaultRead (i : Fin 8) (s : State) : Host.Outcome State Fault Refusal :=
  felCmd i 0x0106
    { lenOk := fixedLen 4, bad := fun f _ => firstBad [(1 < f.b 0, 0), f.zero 1 3], states := fun _ => allStates }
    (fun f s =>
      let a := ansOk (wordBytes [s.rd .SYS_FAULT, s.rd .SYS_STATUS])
      .answer a (if f.b 0 = 1 then clearFaults s else s))
    noWait s

/-- RESET (R468): the device resets 1 ms after the response. -/
def execReset (i : Fin 8) (s : State) : Host.Outcome State Fault Refusal :=
  felCmd i 0x0107
    { lenOk := fixedLen 4, bad := fun f _ => firstBad [(f.h 0 != 0x7E57, 0), f.zero 2 2],
      states := fun _ => [devConfig, devStandby, devSafe, devFault, devDebug] }
    (fun _ s => .answer (ansOk []) { s with boot := { s.boot with rstAt := some (s.time + msCycles) } })
    noWait s

/-! ## Family 0x02 -/

/-- The axis that a frame names. -/
def Frame.axis (f : Frame) : Fin 4 := ⟨f.b 0 % 4, Nat.mod_lt _ (by decide)⟩

/-- AX_SET_STATE (R468): a write of the axis's field, checked under R28. -/
def execAxSetState (i : Fin 8) (s : State) : Host.Outcome State Fault Refusal :=
  felCmd i 0x0200
    { lenOk := fixedLen 4, bad := fun f _ => firstBad [(3 < f.b 0, 0), (axHold < f.b 1, 1), f.zero 2 2],
      states := fun _ => [devRun, devDebug], obj := fun f s => s.axis f.axis }
    (fun f s =>
      let n := f.axis
      let before := axisBefore s
      let old := wGet before (4 * n.val) 3
      let ok := f.b 1 = old || axisOk s n old (f.b 1)
      let obj := s.axis n
      let s := axStateWrite (wPut before (4 * n.val) 3 (f.b 1)) s
      .answer (if ok then byteAns (s.axis n) else ansState obj) s)
    noWait s

/-- AX_SETPOINT (R468): the set-point is kept for the engine firmware. -/
def execAxSetpoint (i : Fin 8) (s : State) : Host.Outcome State Fault Refusal :=
  felCmd i 0x0201
    { lenOk := fixedLen 16, bad := fun f _ => firstBad [(3 < f.b 0, 0), (2 < f.b 1, 1), f.zero 2 2, f.zero 12 4],
      states := fun _ => [devArmed, devRun, devDebug], obj := fun f s => s.axis f.axis }
    (fun f s =>
      if s.axis f.axis = axHold then .answer (ansState axHold) s
      else .answer (ansOk []) { s with mbx := { s.mbx with sp := vset s.mbx.sp f.axis (some (f.b 1, f.w 4, f.w 8)) } })
    noWait s

/-- AX_STATUS (R468). Speed, currents and V_DC are figures of Felyene's firmware, and the task of MISS_RUN is its choice: the spec does not
say how they are formed (log entry 5). -/
def execAxStatus (i : Fin 8) (s : State) : Host.Outcome State Fault Refusal :=
  felCmd i 0x0202
    { lenOk := fixedLen 4, bad := fun f _ => firstBad [(3 < f.b 0, 0), f.zero 1 3], states := fun _ => allStates }
    (fun f s =>
      let n := f.axis
      let g := axGroup n
      let (speed, s) := s.takeWord
      let (id, s) := s.takeWord
      let (iq, s) := s.takeWord
      let (vdc, s) := s.takeWord
      let (run, s) := s.takeWord
      let head := [s.axis n, s.f (Fld.PWM_G_PSEL_ACT_PSEL n), s.f (Fld.ANV_AX_STAT_SEL n),
        s.f (Fld.QNC_G_STATE_TRIPPED g) + 2 * s.f (Fld.QNC_G_STATE_HOLD g)]
      .answer (ansOk (head.map (BitVec.ofNat 8) ++ wordBytes [speed, s.rd (.ANV_AX_TQ n), id, iq, vdc] ++
        [BitVec.ofNat 8 (s.f (Fld.QNC_G_STATE_FIRST_SRC g)), run.extractLsb' 0 8] ++ List.replicate 6 0#8)) s)
    noWait s

/-- AX_DRAW (R468): GEAR_NUM of the axis's line generator, which the spec leaves to Felyene's configuration: the command tells it. -/
def execAxDraw (i g : Fin 8) (s : State) : Host.Outcome State Fault Refusal :=
  felCmd i 0x0203
    { lenOk := fixedLen 8, bad := fun f _ => firstBad [(3 < f.b 0, 0), f.zero 1 3, (f.w 4 = 0#32, 4)],
      states := fun _ => [devStandby, devArmed, devRun, devDebug], obj := fun f s => s.axis f.axis }
    (fun f s => .answer (ansOk []) (gearWrite g (f.w 4) s))
    noWait s

/-- The angle words of AX_PATTERN written, from entry `j` on. -/
def patAngles (f : Frame) (first : Nat) : Nat → Nat → State → State
  | 0, _, s => s
  | n + 1, j, s => patAngles f first n (j + 1) (if first + j ≤ 32511 then agentTurn (patWrite (256 + first + j) (f.w (16 + 4 * j))) s else s)

/-- The words of AX_PATTERN in the pattern memory, word 0 with VALID last (R221 to R223). -/
def patLoad (f : Frame) (s : State) : State :=
  let k := f.b 0
  let w0 : Word := BitVec.ofNat 32 (f.h 12 % 2 ^ 15 + 2 ^ 16 * f.b 1 + 2 ^ 24 * (f.b 2 % 4) + 2 ^ 28 * (f.b 2 / 16 % 2))
  let s := agentTurn (patWrite (4 * k) w0) s
  let s := agentTurn (patWrite (4 * k + 1) (f.w 8)) s
  let s := agentTurn (patWrite (4 * k + 2) (f.w 4)) s
  let s := patAngles f (f.h 12) (f.b 1) 0 s
  agentTurn (patWrite (4 * k) (w0 ||| 0x80000000#32)) s

/-- AX_PATTERN (R468): the response waits for the check of R223. -/
def execAxPattern (i : Fin 8) (s : State) : Host.Outcome State Fault Refusal :=
  felCmd i 0x0204
    { lenOk := fun f _ => f.len = 16 + 4 * f.b 1,
      bad := fun f _ => firstBad [(f.b 0 = 0 || 63 < f.b 0, 0), (f.b 1 = 0 || 56 < f.b 1, 1), (f.b 2 &&& 0xEC != 0, 2), f.zero 3 1,
        (2 ^ 15 ≤ f.h 12, 12), f.zero 14 2],
      states := fun _ => [devConfig, devStandby, devArmed, devRun, devDebug] }
    (fun f s =>
      if s.pwm.chk.isSome || (List.finRange 4).any (fun g => patNamed s g (f.b 0)) then .answer ansBusy s
      else .wait 0 (patLoad f s))
    (fun _ s =>
      if s.pwm.chk.isSome then .wait 0 s
      else if s.flag Fld.PWM_PAT_CHK_OK then .answer (ansOk []) s
      else .answer (ansBad 0 (s.f Fld.PWM_PAT_CHK_RULE)) s)
    s

/-! ## Family 0x03 -/

/-- The channel that a frame names. -/
def Frame.chan (f : Frame) : Fin 8 := ⟨f.b 0 % 8, Nat.mod_lt _ (by decide)⟩

/-- AUX_CMD (R468), checked under R288. -/
def execAuxCmd (i : Fin 8) (s : State) : Host.Outcome State Fault Refusal :=
  felCmd i 0x0300
    { lenOk := fixedLen 4, bad := fun f _ => firstBad [(7 < f.b 0, 0), (f.b 1 = 0 || 3 < f.b 1, 1), f.zero 2 2],
      states := fun _ => [devConfig, devStandby, devArmed, devRun, devSafe, devDebug], obj := fun f s => s.auxSt f.chan }
    (fun f s =>
      let n := f.chan
      let bad := if f.b 1 = 1 then auxStartBad n s else if f.b 1 = 2 then auxStopBad n s else auxClearBad n s
      let obj := s.auxSt n
      let s := if f.b 1 = 1 then auxStart n s else if f.b 1 = 2 then auxStop n s else auxClear n s
      .answer (if bad then ansState obj else byteAns (s.auxSt n)) s)
    noWait s

/-- AUX_DUTY (R468): CMP0 takes the duty's part of the period in taps, rounded down or up, and the group is armed. -/
def execAuxDuty (i : Fin 8) (s : State) : Host.Outcome State Fault Refusal :=
  felCmd i 0x0301
    { lenOk := fixedLen 4, bad := fun f _ => firstBad [(7 < f.b 0, 0), f.zero 1 1],
      states := fun _ => [devConfig, devStandby, devArmed, devRun, devSafe, devDebug], obj := fun f s => s.auxSt f.chan }
    (fun f s =>
      let g := auxGroup f.chan
      let n := f.h 2 * 16 * s.f (Fld.PWM_G_PER_PER g)
      let (up, s) := s.takeBit
      let v := n / 65536 + (if n % 65536 != 0 && up then 1 else 0)
      .answer (ansOk []) (agentTurn (armGroup g) (agentTurn (writeShadow g (.cmp 0) (BitVec.ofNat 32 v)) s)))
    noWait s

/-- AUX_STATUS (R468). -/
def execAuxStatus (i : Fin 8) (s : State) : Host.Outcome State Fault Refusal :=
  felCmd i 0x0302
    { lenOk := fixedLen 4, bad := fun f _ => firstBad [(7 < f.b 0, 0), f.zero 1 3], states := fun _ => allStates }
    (fun f s =>
      let n := f.chan
      .answer (ansOk (wordBytes [s.rd (.AUX_CH_STATUS n), s.rd (.AUX_CH_FREQ n), s.rd (.AUX_CH_TSEC n), 0#32])) s)
    noWait s

/-! ## Family 0x04 -/

/-- DC_PRECHARGE (R468), checked under R303. -/
def execDcPrecharge (i : Fin 8) (s : State) : Host.Outcome State Fault Refusal :=
  felCmd i 0x0400
    { lenOk := fixedLen 4, bad := fun f _ => firstBad [(f.b 0 != 1 && f.b 0 != 2, 0), f.zero 1 3],
      states := fun f => if f.b 0 = 1 then [devStandby, devArmed] else [devConfig, devStandby, devArmed, devSafe, devFault],
      obj := fun _ s => s.pch }
    (fun f s =>
      let bad := f.b 0 = 1 && !pchCloseOk s
      let obj := s.pch
      let s := if f.b 0 = 1 then pchClose s else pchOpenCmd s
      .answer (if bad then ansState obj else byteAns s.pch) s)
    noWait s

/-- The gate group of a storage converter. -/
def convGroup (c : Nat) : Fin 16 := if c = 0 then 4 else 5

/-- A storage converter started in a mode (R306): with a changed direction its group stops first and SWAP is written, 1 for boost; the
shadows are armed and the group starts. -/
def convStart (c : Fin 2) (mode : Nat) (kw : Word) (s : State) : State :=
  let g := convGroup c.val
  let s :=
    if s.gRun g && (s.mbx.conv[c]).1 = mode then s
    else
      let s := if s.gRun g then agentTurn (stopGroup g) s else s
      let s := (List.finRange 4).foldl (fun s k =>
        agentTurn (fun s => pwmRegWrite (.PWM_G_SNS g k) (wPut (s.rd (.PWM_G_SNS g k)) 16 1 (bit (mode = 1))) s) s) s
      agentTurn (startGroup g) (agentTurn (armGroup g) s)
  { s with mbx := { s.mbx with conv := vset s.mbx.conv c (mode, kw) } }

/-- A storage converter stopped. -/
def convStop (c : Fin 2) (s : State) : State :=
  let g := convGroup c.val
  let s := if s.gRun g then stopGroup g s else s
  { s with mbx := { s.mbx with conv := vset s.mbx.conv c (0, 0#32) } }

/-- DC_CONV (R468). -/
def execDcConv (i : Fin 8) (s : State) : Host.Outcome State Fault Refusal :=
  felCmd i 0x0401
    { lenOk := fixedLen 8, bad := fun f _ => firstBad [(1 < f.b 0, 0), (2 < f.b 1, 1), f.zero 2 2],
      states := fun f => if f.b 1 = 0 then allStates else [devArmed, devRun, devDebug], obj := fun _ s => s.pch }
    (fun f s =>
      let c : Fin 2 := ⟨f.b 0 % 2, Nat.mod_lt _ (by decide)⟩
      if f.b 1 = 0 then .answer (byteAns 0) (convStop c s)
      else if s.pch != pchClosed then .answer (ansState s.pch) s
      else
        let s := convStart c (f.b 1) (f.w 4) s
        .answer (byteAns (bit (s.gRun (convGroup c.val)))) s)
    noWait s

/-- DC_DISCHARGE (R468), checked under R309. -/
def execDcDischarge (i : Fin 8) (s : State) : Host.Outcome State Fault Refusal :=
  felCmd i 0x0402
    { lenOk := fixedLen 4, bad := fun f _ => firstBad [(f.h 0 != 0xA55A, 0), f.zero 2 2],
      states := fun _ => [devArmed, devRun, devSafe, devFault], obj := fun _ s => s.dsg }
    (fun _ s =>
      let ok := (dsgRequest 0 s).2
      let obj := s.dsg
      let s := dsgAgent s
      .answer (if ok then byteAns s.dsg else ansState obj) s)
    noWait s

/-- DC_STATUS (R468). -/
def execDcStatus (i : Fin 8) (s : State) : Host.Outcome State Fault Refusal :=
  felCmd i 0x0403 { lenOk := fixedLen 0, states := fun _ => allStates }
    (fun _ s => .answer (ansOk (wordBytes [vlinkWord s, s.rd .PWM_DSC_PCH_STAT, dsgStatWord s, 0#32])) s)
    noWait s

end Sys2Proof.Machine
end

