-- ==== Sys2Proof/Machine/Agent.lean ====
section
/-! DEFINITION. Felyene's commands of families 0x05 to 0x0A (R468): measurements, the recorder, the line bus, firmware loading (R487 to R490),
safety parameters and debug. -/

namespace Sys2Proof.Machine

open Sys2Proof

/-! ## Family 0x05 -/

/-- The channel numbers of MEAS_READ and SDM_READ that are out of range, with their offsets. -/
def chansBad (f : Frame) (lim : Nat) : List (Bool × Nat) := (List.range (f.b 0)).map fun k => (lim < f.b (4 + k), 4 + k)

/-- The length of a list of channel numbers, padded to words. -/
def chansLen (f : Frame) (_ : State) : Bool := f.len = 4 + 4 * ((f.b 0 + 3) / 4)

/-- MEAS_READ (R468). -/
def execMeasRead (i : Fin 8) (s : State) : Host.Outcome State Fault Refusal :=
  felCmd i 0x0500
    { lenOk := chansLen, bad := fun f _ => firstBad ([(f.b 0 = 0 || 60 < f.b 0, 0), f.zero 1 3] ++ chansBad f 60), states := fun _ => allStates }
    (fun f s =>
      .answer (ansOk (wordBytes ((List.range (f.b 0)).map fun k => s.rd (.MCV_CH_RES ⟨f.b (4 + k) % 64, Nat.mod_lt _ (by decide)⟩)))) s)
    noWait s

/-- SDM_READ (R468). -/
def execSdmRead (i : Fin 8) (s : State) : Host.Outcome State Fault Refusal :=
  felCmd i 0x0501
    { lenOk := chansLen, bad := fun f _ => firstBad ([(f.b 0 = 0 || 60 < f.b 0, 0), f.zero 1 3] ++ chansBad f 31), states := fun _ => allStates }
    (fun f s =>
      .answer (ansOk (wordBytes ((List.range (f.b 0)).map fun k => s.rd (.SDM_CH_DATA ⟨f.b (4 + k) % 32, Nat.mod_lt _ (by decide)⟩)))) s)
    noWait s

/-! ## Family 0x06 -/

/-- The SEQ of the flush that includes a cause taken now (R414, R476). -/
def flushSeq (s : State) : Word :=
  if s.hlm.phase = .copyFlush ∨ s.hlm.phase = .writing then s.hlm.seq + 2#32 else s.hlm.seq + 1#32

/-- REC_FLUSH (R468, R476): the response waits for the flush that includes the command's cause, or for 2 ms. -/
def execRecFlush (i : Fin 8) (s : State) : Host.Outcome State Fault Refusal :=
  felCmd i 0x0600 { lenOk := fixedLen 0, states := fun _ => allStates }
    (fun _ s =>
      let n := (flushSeq s).toNat
      .wait n (takeCause 4#5 s))
    (fun r s =>
      if 0 ≤ (s.hlm.seq - BitVec.ofNat 32 r.arg).toInt then .answer (ansOk (wordBytes [s.hlm.seq])) s
      else if r.at_ + 2 * msCycles ≤ s.time then .answer ansTimeout s
      else .wait 0 s)
    s

/-- REC_SNAP (R468): the response waits for the end of the copy. -/
def execRecSnap (i : Fin 8) (s : State) : Host.Outcome State Fault Refusal :=
  felCmd i 0x0601 { lenOk := fixedLen 0, states := fun _ => allStates }
    (fun _ s => if s.flag Fld.HLM_STATUS_BUSY then .answer ansBusy s else .wait 0 (hlmSnapCmd s))
    (fun _ s => if s.hlm.phase = .copySnap then .wait 0 s else .answer (ansOk []) s)
    s

/-- The base of an area of REC_READ. -/
def recArea (k : Nat) : Nat := if k = 0 then hlmSnap else slotAddr (k = 2)

/-- REC_READ (R468); a slot is read once a flush that writes has ended (R416). -/
def execRecRead (i : Fin 8) (s : State) : Host.Outcome State Fault Refusal :=
  felCmd i 0x0602
    { lenOk := fixedLen 4,
      bad := fun f _ => firstBad [(2 < f.b 0, 0), (f.b 1 < 4 || 240 < f.b 1 || f.b 1 % 4 != 0, 1),
        (f.h 2 % 4 != 0 || 0x3580 < f.h 2 + f.b 1, 2)],
      states := fun _ => allStates }
    (fun f s =>
      let s := if f.b 0 = 0 then s else flushEnd s
      .answer (ansOk (getBytes s.mem (recArea (f.b 0) + f.h 2) (f.b 1))) s)
    noWait s

/-- REC_CLEAR (R468). -/
def execRecClear (i : Fin 8) (s : State) : Host.Outcome State Fault Refusal :=
  felCmd i 0x0603
    { lenOk := fixedLen 4, bad := fun f _ => firstBad [(15 < f.b 0, 0), f.zero 1 3], states := fun _ => [devConfig, devStandby] }
    (fun f s => .answer (ansOk []) (hlmClear (BitVec.ofNat 4 (f.b 0)) 0x6B1D#16 s))
    noWait s

/-! ## Family 0x07 -/

/-- LB_STATUS (R468). -/
def execLbStatus (i : Fin 8) (s : State) : Host.Outcome State Fault Refusal :=
  felCmd i 0x0700
    { lenOk := fixedLen 4, bad := fun f _ => firstBad [(3 < f.b 0, 0), f.zero 1 3], states := fun _ => allStates }
    (fun f s =>
      let c := f.axis
      let st := shownReg (.LB_STATUS c) s
      let (lo, s) := lbGtRead c s
      .answer (ansOk (wordBytes [s.rd (.LB_SYNC_STAT c), st, s.rd (.LB_ERR c), lo, s.rd (.LB_GT_HI c), s.rd (.LB_CNT c)])) s)
    noWait s

/-- The data bytes that the words of LB_SEND name (R430). -/
def lbSendBytes (f : Frame) : Nat := lbBytes ((f.w 4).getLsbD 30) (wGet (f.w 8) 0 4)

/-- LB_SEND (R468): the buffer is written and its TXREQ bit set. -/
def execLbSend (i : Fin 8) (s : State) : Host.Outcome State Fault Refusal :=
  felCmd i 0x0701
    { lenOk := fun f _ => f.len = 12 + lbSendBytes f,
      bad := fun f s => firstBad [(3 < f.b 0 || (s.f (Fld.LB_CTL_MODE f.axis) != 1 && s.f (Fld.LB_CTL_MODE f.axis) != 2), 0),
        (63 < f.b 1, 1), f.zero 2 2],
      states := fun _ => [devStandby, devArmed, devRun, devSafe, devDebug], obj := fun f s => s.lbSync f.axis }
    (fun f s =>
      let c := f.axis
      let a := lbTxBuf c (f.b 1 % 64)
      let s := busWrite (a + 12) 4 0#32 (busWrite (a + 8) 4 0#32 (busWrite (a + 4) 4 (f.w 8) (busWrite a 4 (f.w 4) s)))
      let s := (List.range (lbSendBytes f)).foldl (fun s k => busWrite (a + 16 + k) 1 (BitVec.ofNat 32 (f.b (12 + k))) s) s
      let half : Fin 2 := ⟨f.b 1 / 32 % 2, Nat.mod_lt _ (by decide)⟩
      .answer (ansOk []) (lbRegWrite (.LB_TXREQ c half) (1#32 <<< (f.b 1 % 32)) s.atWrite))
    noWait s

/-! ## Family 0x08 (R485 to R490) -/

/-- FW_INFO (R468); `sig` tells of each slot whether its key's hash and its signature verify. -/
def execFwInfo (i : Fin 8) (sig : BitVec 2) (s : State) : Host.Outcome State Fault Refusal :=
  felCmd i 0x0800 { lenOk := fixedLen 0, states := fun _ => devBoot :: allStates }
    (fun _ s =>
      let s := flushEnd s
      let row (k : Fin 2) : List Byte :=
        wordBytes [s.memW (imgBase k + 8), s.memW (imgBase k + 0xC)] ++
          [BitVec.ofNat 8 (bit (imgOk s k (sig.getLsbD k.val))), BitVec.ofNat 8 (bit (activeSlot s = k))] ++ List.replicate 6 0#8
      .answer (ansOk (row 0 ++ row 1)) s)
    noWait s

/-- The states of the firmware commands. -/
def fwStates (_ : Frame) : List Nat := [devBoot, devConfig, devStandby]

/-- The slot that a frame names. -/
def Frame.slot (f : Frame) : Fin 2 := ⟨f.b 0 % 2, Nat.mod_lt _ (by decide)⟩

def setSession (x : Option FwSess) (s : State) : State := { s with mbx := { s.mbx with fw := x } }

/-- FW_BEGIN (R468, R487). -/
def execFwBegin (i : Fin 8) (s : State) : Host.Outcome State Fault Refusal :=
  felCmd i 0x0801
    { lenOk := fixedLen 8,
      bad := fun f s => firstBad [(1 < f.b 0 || f.slot = activeSlot s, 0), f.zero 1 3,
        ((f.w 4).toNat % 4 != 0 || (f.w 4).toNat = 0 || 0x2FFFC0 < (f.w 4).toNat, 4)],
      states := fwStates }
    (fun f s =>
      if s.mbx.fw.isSome then .answer ansBusy s
      else .answer (ansOk []) (setSession (some { slot := f.slot, size := (f.w 4).toNat }) ((flushEnd s).setMemW (imgBase f.slot) 0#32)))
    noWait s

/-- The data of FW_DATA at an offset: the word at offset 0 is kept with the session and written as 0 (R487). -/
def fwPut (f : Frame) (x : FwSess) (s : State) : State :=
  let off := (f.w 0).toNat
  let k := f.len - 4
  let data := (f.pay.drop 4).take k
  let s := { s with mem := putBytes (imgBase x.slot + off) data s.mem }
  let s := if off = 0 then s.setMemW (imgBase x.slot) 0#32 else s
  setSession (some { x with next := off + k, magic := if off = 0 then f.w 4 else x.magic }) s

/-- FW_DATA (R468, R487): without a session the object is not in a state for it. -/
def execFwData (i : Fin 8) (s : State) : Host.Outcome State Fault Refusal :=
  felCmd i 0x0802
    { lenOk := fun f _ => f.len % 4 = 0 && 8 ≤ f.len,
      bad := fun f s => match s.mbx.fw with
        | some x => firstBad [((f.w 0).toNat != x.next || x.size < (f.w 0).toNat + (f.len - 4), 0)]
        | none => none,
      states := fwStates }
    (fun f s => match s.mbx.fw with
      | some x => .answer (ansOk []) (fwPut f x (flushEnd s))
      | none => .answer (ansState 0xFF) s)
    noWait s

/-- The boot record names a slot (R485). -/
def putRecord (slot : Fin 2) (s : State) : State :=
  let w : Word := BitVec.ofNat 32 slot.val
  (s.setMemW bootRecord w).setMemW (bootRecord + 4) (~~~w)

/-- FW_END (R468, R487, R490): `sig` tells whether the key's hash and the signature verify. In BOOT the slot is booted, or 0xA107 is recorded. -/
def execFwEnd (i : Fin 8) (sig : Bool) (s : State) : Host.Outcome State Fault Refusal :=
  felCmd i 0x0803 { lenOk := fixedLen 64, states := fwStates }
    (fun f s => match s.mbx.fw with
      | none => .answer (ansState 0xFF) s
      | some x =>
        let inBoot := s.dev = devBoot
        let s := flushEnd s
        let full := (setSession none s).setMemW (imgBase x.slot) x.magic
        if imgOk full x.slot sig then
          let s := { full with mem := putBytes (imgBase x.slot + imgW full x.slot 8) (f.pay.take 64) full.mem }
          let s := s.setMemW (imgBase x.slot) x.magic
          .answer (byteAns 1) (if inBoot then bootSlot x.slot 2 (putRecord x.slot s) else s)
        else .answer ansAuth (if inBoot then recordFault 0xA107 (setSession none s) else setSession none s))
    noWait s

/-- FW_SELECT (R468, R485). -/
def execFwSelect (i : Fin 8) (sig : Bool) (s : State) : Host.Outcome State Fault Refusal :=
  felCmd i 0x0804
    { lenOk := fixedLen 4, bad := fun f s => firstBad [(1 < f.b 0 || !imgOk s f.slot sig, 0), f.zero 1 3],
      states := fun _ => [devConfig, devStandby] }
    (fun f s => .answer (ansOk []) (putRecord f.slot (flushEnd s)))
    noWait s

/-! ## Family 0x09 -/

/-- The base of the ANV block. -/
def anvBase : Nat := 0x400F0000

/-- An offset of the parameter image (R343). -/
def inImage (off : Nat) : Bool :=
  off % 4 = 0 && ((0x00C ≤ off && off < 0x020) || (0x100 ≤ off && off < 0x200) || (0x4000 ≤ off && off < 0x6200))

/-- SAFE_PARAM_WRITE (R468). -/
def execSafeParamWrite (i : Fin 8) (s : State) : Host.Outcome State Fault Refusal :=
  felCmd i 0x0900
    { lenOk := fun f _ => f.len % 4 = 0 && 8 ≤ f.len,
      bad := fun f _ => firstBad [((List.range (f.len / 4 - 1)).any (fun k => !inImage (f.h 0 + 4 * k)), 0), f.zero 2 2],
      states := fun _ => [devConfig] }
    (fun f s =>
      if s.locked then .answer ansLock s
      else
        .answer (ansOk []) ((List.range (f.len / 4 - 1)).foldl (fun s k => busWrite (anvBase + f.h 0 + 4 * k) 4 (f.w (4 + 4 * k)) s) s))
    noWait s

/-- SAFE_PARAM_READ (R468). -/
def execSafeParamRead (i : Fin 8) (s : State) : Host.Outcome State Fault Refusal :=
  felCmd i 0x0901
    { lenOk := fixedLen 4,
      bad := fun f _ => firstBad [(f.h 0 % 4 != 0 || 0x10000 < f.h 0 + 4 * f.b 2, 0), (f.b 2 = 0 || 60 < f.b 2, 2), f.zero 3 1],
      states := fun _ => allStates }
    (fun f s =>
      let (l, s) := readWords (anvBase + f.h 0) (f.b 2) s
      .answer (ansOk (wordBytes l)) s)
    noWait s

/-- SAFE_STATUS (R468). -/
def execSafeStatus (i : Fin 8) (s : State) : Host.Outcome State Fault Refusal :=
  felCmd i 0x0902 { lenOk := fixedLen 0, states := fun _ => allStates }
    (fun _ s =>
      .answer (ansOk (wordBytes ([s.rd .ANV_STATUS, s.rd .ANV_CAUSE, s.rd .ANV_PSTAT, s.rd .ANV_PCRC, s.rd .ANV_DEMAND] ++
        (List.finRange 4).map fun n => s.rd (.ANV_AX_STAT n)))) s)
    noWait s

/-! ## Family 0x0A -/

/-- DBG_ENTER (R468). -/
def execDbgEnter (i : Fin 8) (s : State) : Host.Outcome State Fault Refusal :=
  felCmd i 0x0A00
    { lenOk := fixedLen 4, bad := fun f _ => firstBad [(f.h 0 != 0xDB60, 0), f.zero 2 2], states := fun _ => [devStandby, devArmed, devRun] }
    (fun _ s => if s.flag Fld.SYS_STRAP_DBG then felRequest devDebug (fun _ => []) s else .answer ansSafety s)
    noWait s

/-- DBG_POOL (R468). -/
def execDbgPool (i : Fin 8) (s : State) : Host.Outcome State Fault Refusal :=
  felCmd i 0x0A01 { lenOk := fixedLen 0, states := fun _ => allStates }
    (fun _ s =>
      .answer (ansOk (wordBytes [loopStatus s] ++ (List.finRange 24).map (fun p => (pairState p s).extractLsb' 0 8) ++
        wordBytes [s.rd .ASY_MIS_LAST])) s)
    noWait s

end Sys2Proof.Machine
end

