-- ==== Sys2Proof/Machine/Idle.lean ====
section
/-! DEFINITION. What passes while no command waits (log entry 3). -/

namespace Sys2Proof.Machine

open Sys2Proof

/-- The write of a RESET command falls due (R468, R493). -/
def resetDue (s : State) : State :=
  match s.boot.rstAt with
  | some t => if t ≤ s.time then softwareReset 0x7E57#16 { s with boot := { s.boot with rstAt := none } } else s
  | none => s

/-- One core cycle of device time; none while device time does not count (R20, R482). -/
def idle (s : State) : State := if s.running then resetDue { s with time := s.time + 1 } else s

end Sys2Proof.Machine
end

