-- ==== Sys2Proof/Machine/Dispatch.lean ====
section
/-! DEFINITION. The dispatch of commands: one arm per row of spec/opcode_table.json. -/

namespace Sys2Proof.Machine

open Sys2Proof

def exec (i : Instr) (s : State) : Host.Outcome State Fault Refusal :=
  match i with
  | .registerWrite addr value width port => Sys2Proof.Machine.execRegisterWrite addr value width port s
  | .unmappedAccess addr isWrite => Sys2Proof.Machine.execUnmappedAccess addr isWrite s
  | .requestConfig key => Sys2Proof.Machine.execRequestConfig key s
  | .requestStandby key => Sys2Proof.Machine.execRequestStandby key s
  | .requestArmed key => Sys2Proof.Machine.execRequestArmed key s
  | .requestRun key => Sys2Proof.Machine.execRequestRun key s
  | .requestSafe key => Sys2Proof.Machine.execRequestSafe key s
  | .requestDebug key => Sys2Proof.Machine.execRequestDebug key s
  | .axStateWrite value => Sys2Proof.Machine.execAxStateWrite value s
  | .faultCodeClear => Sys2Proof.Machine.execFaultCodeClear s
  | .timeLoRead => Sys2Proof.Machine.execTimeLoRead s
  | .engineMemoryWrite p offset value => Sys2Proof.Machine.execEngineMemoryWrite p offset value s
  | .gpioSet mask => Sys2Proof.Machine.execGpioSet mask s
  | .gpioClr mask => Sys2Proof.Machine.execGpioClr mask s
  | .gpioInputEdge pin level => Sys2Proof.Machine.execGpioInputEdge pin level s
  | .clockMonitorWindow anvilMonitor count pllLocked => Sys2Proof.Machine.execClockMonitorWindow anvilMonitor count pllLocked s
  | .dmaRequest => Sys2Proof.Machine.execDmaRequest s
  | .dmaSoftwareRequest c => Sys2Proof.Machine.execDmaSoftwareRequest c s
  | .dmaChannelCtlWrite c value => Sys2Proof.Machine.execDmaChannelCtlWrite c value s
  | .dmaBurstStart => Sys2Proof.Machine.execDmaBurstStart s
  | .dmaBurstEnd cyc => Sys2Proof.Machine.execDmaBurstEnd cyc s
  | .interruptTaken => Sys2Proof.Machine.execInterruptTaken s
  | .illegalInstruction p => Sys2Proof.Machine.execIllegalInstruction p s
  | .add p d a b => Sys2Proof.Machine.execAdd p d a b s
  | .sub p d a b => Sys2Proof.Machine.execSub p d a b s
  | .and p d a b => Sys2Proof.Machine.execAnd p d a b s
  | .or p d a b => Sys2Proof.Machine.execOr p d a b s
  | .xor p d a b => Sys2Proof.Machine.execXor p d a b s
  | .shl p d a b => Sys2Proof.Machine.execShl p d a b s
  | .shr p d a b => Sys2Proof.Machine.execShr p d a b s
  | .sra p d a b => Sys2Proof.Machine.execSra p d a b s
  | .slt p d a b => Sys2Proof.Machine.execSlt p d a b s
  | .sltu p d a b => Sys2Proof.Machine.execSltu p d a b s
  | .min p d a b => Sys2Proof.Machine.execMin p d a b s
  | .max p d a b => Sys2Proof.Machine.execMax p d a b s
  | .mul p d a b => Sys2Proof.Machine.execMul p d a b s
  | .addi p d a v => Sys2Proof.Machine.execAddi p d a v s
  | .andi p d a v => Sys2Proof.Machine.execAndi p d a v s
  | .ori p d a v => Sys2Proof.Machine.execOri p d a v s
  | .xori p d a v => Sys2Proof.Machine.execXori p d a v s
  | .shli p d a sh => Sys2Proof.Machine.execShli p d a sh s
  | .shri p d a sh => Sys2Proof.Machine.execShri p d a sh s
  | .srai p d a sh => Sys2Proof.Machine.execSrai p d a sh s
  | .slti p d a v => Sys2Proof.Machine.execSlti p d a v s
  | .lui p d v => Sys2Proof.Machine.execLui p d v s
  | .lw p d a v lat ecc => Sys2Proof.Machine.execLw p d a v lat ecc s
  | .lh p d a v lat ecc => Sys2Proof.Machine.execLh p d a v lat ecc s
  | .lhu p d a v lat ecc => Sys2Proof.Machine.execLhu p d a v lat ecc s
  | .lb p d a v lat ecc => Sys2Proof.Machine.execLb p d a v lat ecc s
  | .lbu p d a v lat ecc => Sys2Proof.Machine.execLbu p d a v lat ecc s
  | .sw p b a v => Sys2Proof.Machine.execSw p b a v s
  | .sh p b a v => Sys2Proof.Machine.execSh p b a v s
  | .sb p b a v => Sys2Proof.Machine.execSb p b a v s
  | .flw p d a v lat ecc => Sys2Proof.Machine.execFlw p d a v lat ecc s
  | .fsw p b a v => Sys2Proof.Machine.execFsw p b a v s
  | .beq p b a ofs => Sys2Proof.Machine.execBeq p b a ofs s
  | .bne p b a ofs => Sys2Proof.Machine.execBne p b a ofs s
  | .blt p b a ofs => Sys2Proof.Machine.execBlt p b a ofs s
  | .bge p b a ofs => Sys2Proof.Machine.execBge p b a ofs s
  | .bltu p b a ofs => Sys2Proof.Machine.execBltu p b a ofs s
  | .bgeu p b a ofs => Sys2Proof.Machine.execBgeu p b a ofs s
  | .j p ofs => Sys2Proof.Machine.execJ p ofs s
  | .jal p ofs => Sys2Proof.Machine.execJal p ofs s
  | .jr p d a => Sys2Proof.Machine.execJr p d a s
  | .fadd p d a b => Sys2Proof.Machine.execFadd p d a b s
  | .fsub p d a b => Sys2Proof.Machine.execFsub p d a b s
  | .fmul p d a b => Sys2Proof.Machine.execFmul p d a b s
  | .fmac p d a b => Sys2Proof.Machine.execFmac p d a b s
  | .dmac p d a b => Sys2Proof.Machine.execDmac p d a b s
  | .fdiv p d a b => Sys2Proof.Machine.execFdiv p d a b s
  | .fsqrt p d a => Sys2Proof.Machine.execFsqrt p d a s
  | .fmin p d a b => Sys2Proof.Machine.execFmin p d a b s
  | .fmax p d a b => Sys2Proof.Machine.execFmax p d a b s
  | .fabs p d a => Sys2Proof.Machine.execFabs p d a s
  | .fneg p d a => Sys2Proof.Machine.execFneg p d a s
  | .feq p d a b => Sys2Proof.Machine.execFeq p d a b s
  | .flt p d a b => Sys2Proof.Machine.execFlt p d a b s
  | .fle p d a b => Sys2Proof.Machine.execFle p d a b s
  | .fcvtws p d a => Sys2Proof.Machine.execFcvtws p d a s
  | .fcvtsw p d a => Sys2Proof.Machine.execFcvtsw p d a s
  | .fmvxs p d a => Sys2Proof.Machine.execFmvxs p d a s
  | .fmvsx p d a => Sys2Proof.Machine.execFmvsx p d a s
  | .pilut p d a b c e ecc => Sys2Proof.Machine.execPilut p d a b c e ecc s
  | .pilinit p a b => Sys2Proof.Machine.execPilinit p a b s
  | .tlu p d a b ecc => Sys2Proof.Machine.execTlu p d a b ecc s
  | .sincos p d a c => Sys2Proof.Machine.execSincos p d a c s
  | .csrr p d n => Sys2Proof.Machine.execCsrr p d n s
  | .csrw p a n => Sys2Proof.Machine.execCsrw p a n s
  | .nop p => Sys2Proof.Machine.execNop p s
  | .wfi => Sys2Proof.Machine.execWfi s
  | .iret => Sys2Proof.Machine.execIret s
  | .tick k => Sys2Proof.Machine.execTick k s
  | .taskRelease d => Sys2Proof.Machine.execTaskRelease d s
  | .softwareRelease d => Sys2Proof.Machine.execSoftwareRelease d s
  | .instanceStart p => Sys2Proof.Machine.execInstanceStart p s
  | .contextCopyDone p => Sys2Proof.Machine.execContextCopyDone p s
  | .writeBackDone d => Sys2Proof.Machine.execWriteBackDone d s
  | .budgetOverrun p => Sys2Proof.Machine.execBudgetOverrun p s
  | .stealRequest p => Sys2Proof.Machine.execStealRequest p s
  | .commitCycle d => Sys2Proof.Machine.execCommitCycle d s
  | .retirementComplete p => Sys2Proof.Machine.execRetirementComplete p s
  | .pairEnable pair key => Sys2Proof.Machine.execPairEnable pair key s
  | .drain pair key => Sys2Proof.Machine.execDrain pair key s
  | .retire pair key => Sys2Proof.Machine.execRetire pair key s
  | .unslow pair key => Sys2Proof.Machine.execUnslow pair key s
  | .drainComplete p => Sys2Proof.Machine.execDrainComplete p s
  | .taskCtlWrite d value => Sys2Proof.Machine.execTaskCtlWrite d value s
  | .generatorEvent e => Sys2Proof.Machine.execGeneratorEvent e s
  | .standstillTimeout n => Sys2Proof.Machine.execStandstillTimeout n s
  | .holdoverEntry n => Sys2Proof.Machine.execHoldoverEntry n s
  | .mainsLost n => Sys2Proof.Machine.execMainsLost n s
  | .rampSpeedStep n => Sys2Proof.Machine.execRampSpeedStep n s
  | .generatorCtlWrite n value => Sys2Proof.Machine.execGeneratorCtlWrite n value s
  | .gearNumWrite n value => Sys2Proof.Machine.execGearNumWrite n value s
  | .eofsWrite n value => Sys2Proof.Machine.execEofsWrite n value s
  | .elecRead n => Sys2Proof.Machine.execElecRead n s
  | .latchPosRead n => Sys2Proof.Machine.execLatchPosRead n s
  | .markCrossing m cyc => Sys2Proof.Machine.execMarkCrossing m cyc s
  | .markCtlWrite m value => Sys2Proof.Machine.execMarkCtlWrite m value s
  | .markAngleWrite m value => Sys2Proof.Machine.execMarkAngleWrite m value s
  | .quadratureCount n a b cyc => Sys2Proof.Machine.execQuadratureCount n a b cyc s
  | .indexEvent n edges cyc => Sys2Proof.Machine.execIndexEvent n edges cyc s
  | .hallChange n edges cyc => Sys2Proof.Machine.execHallChange n edges cyc s
  | .lineLoss n line => Sys2Proof.Machine.execLineLoss n line s
  | .indexArm n => Sys2Proof.Machine.execIndexArm n s
  | .capture n => Sys2Proof.Machine.execCapture n s
  | .captureSwtrg n => Sys2Proof.Machine.execCaptureSwtrg n s
  | .clearDoubleSteps n => Sys2Proof.Machine.execClearDoubleSteps n s
  | .clearIndexMisses n => Sys2Proof.Machine.execClearIndexMisses n s
  | .qeCtlWrite n value => Sys2Proof.Machine.execQeCtlWrite n value s
  | .ssiCtlWrite n value => Sys2Proof.Machine.execSsiCtlWrite n value s
  | .ssiSwtrg n => Sys2Proof.Machine.execSsiSwtrg n s
  | .ssiBurstStart n ready => Sys2Proof.Machine.execSsiBurstStart n ready s
  | .ssiFrameComplete n raw => Sys2Proof.Machine.execSsiFrameComplete n raw s
  | .continuousWord k n bits => Sys2Proof.Machine.execContinuousWord k n bits s
  | .samplingWindowEvent k => Sys2Proof.Machine.execSamplingWindowEvent k s
  | .softwareWindow mask => Sys2Proof.Machine.execSoftwareWindow mask s
  | .windowWordComplete k bits => Sys2Proof.Machine.execWindowWordComplete k bits s
  | .stuck k => Sys2Proof.Machine.execStuck k s
  | .sinc2Change k n bits => Sys2Proof.Machine.execSinc2Change k n bits s
  | .counterClearPair mask => Sys2Proof.Machine.execCounterClearPair mask s
  | .counterClearGroup mask => Sys2Proof.Machine.execCounterClearGroup mask s
  | .checkPairCtlWrite m value => Sys2Proof.Machine.execCheckPairCtlWrite m value s
  | .periodStart g c => Sys2Proof.Machine.execPeriodStart g c s
  | .periodCentre g => Sys2Proof.Machine.execPeriodCentre g s
  | .commandEdge g c t => Sys2Proof.Machine.execCommandEdge g c t s
  | .deadTimeExpiry g c => Sys2Proof.Machine.execDeadTimeExpiry g c s
  | .bootstrapRefresh g c => Sys2Proof.Machine.execBootstrapRefresh g c s
  | .onTimeEnd g c => Sys2Proof.Machine.execOnTimeEnd g c s
  | .offTimeEnd g c => Sys2Proof.Machine.execOffTimeEnd g c s
  | .zeroCurrentEvent g c => Sys2Proof.Machine.execZeroCurrentEvent g c s
  | .peakEvent g c => Sys2Proof.Machine.execPeakEvent g c s
  | .tmaxTimeout g c => Sys2Proof.Machine.execTmaxTimeout g c s
  | .loadallArm g ctl => Sys2Proof.Machine.execLoadallArm g ctl s
  | .shadowWrite g r value => Sys2Proof.Machine.execShadowWrite g r value s
  | .groupStart mask => Sys2Proof.Machine.execGroupStart mask s
  | .groupStop mask => Sys2Proof.Machine.execGroupStop mask s
  | .delayRegisterWrite r value => Sys2Proof.Machine.execDelayRegisterWrite r value s
  | .complementWrite r value => Sys2Proof.Machine.execComplementWrite r value s
  | .patternCheckStart k value => Sys2Proof.Machine.execPatternCheckStart k value s
  | .patternCheckDone => Sys2Proof.Machine.execPatternCheckDone s
  | .patternEntryWrite ix value => Sys2Proof.Machine.execPatternEntryWrite ix value s
  | .patternEdge g ph cyc => Sys2Proof.Machine.execPatternEdge g ph cyc s
  | .comparatorChange w mv uv t => Sys2Proof.Machine.execComparatorChange w mv uv t s
  | .thresholdWrite w ctl value => Sys2Proof.Machine.execThresholdWrite w ctl value s
  | .sourceActive k t => Sys2Proof.Machine.execSourceActive k t s
  | .ascDelayExpiry g => Sys2Proof.Machine.execAscDelayExpiry g s
  | .latchClear k mask => Sys2Proof.Machine.execLatchClear k mask s
  | .safeselWrite sel selC => Sys2Proof.Machine.execSafeselWrite sel selC s
  | .routeCrcCheck crc => Sys2Proof.Machine.execRouteCrcCheck crc s
  | .touchstoneSweepStart => Sys2Proof.Machine.execTouchstoneSweepStart s
  | .touchstoneSweepEnd hi lo => Sys2Proof.Machine.execTouchstoneSweepEnd hi lo s
  | .auxStart n => Sys2Proof.Machine.execAuxStart n s
  | .auxStop n => Sys2Proof.Machine.execAuxStop n s
  | .auxClear n => Sys2Proof.Machine.execAuxClear n s
  | .zeroCrossing n ph level t => Sys2Proof.Machine.execZeroCrossing n ph level t s
  | .commutation n => Sys2Proof.Machine.execCommutation n s
  | .demagBlankEnd n => Sys2Proof.Machine.execDemagBlankEnd n s
  | .zcTimeout n => Sys2Proof.Machine.execZcTimeout n s
  | .listenEnd n => Sys2Proof.Machine.execListenEnd n s
  | .brakeSliceEnd n => Sys2Proof.Machine.execBrakeSliceEnd n s
  | .listenIntervalEnd n => Sys2Proof.Machine.execListenIntervalEnd n s
  | .brakeTimeout n => Sys2Proof.Machine.execBrakeTimeout n s
  | .alignEnd n => Sys2Proof.Machine.execAlignEnd n s
  | .rampSectorEnd n => Sys2Proof.Machine.execRampSectorEnd n s
  | .coastEnd n => Sys2Proof.Machine.execCoastEnd n s
  | .runOkExpiry n => Sys2Proof.Machine.execRunOkExpiry n s
  | .auxPeakEvent n own => Sys2Proof.Machine.execAuxPeakEvent n own s
  | .prechargeClose key => Sys2Proof.Machine.execPrechargeClose key s
  | .prechargeOpen key => Sys2Proof.Machine.execPrechargeOpen key s
  | .prechargeRiseCheck => Sys2Proof.Machine.execPrechargeRiseCheck s
  | .prechargeTimeout => Sys2Proof.Machine.execPrechargeTimeout s
  | .prechargeOverlapEnd => Sys2Proof.Machine.execPrechargeOverlapEnd s
  | .prechargeCloseCheck => Sys2Proof.Machine.execPrechargeCloseCheck s
  | .contactorDrop => Sys2Proof.Machine.execContactorDrop s
  | .voltageStale link => Sys2Proof.Machine.execVoltageStale link s
  | .dischargeRequest key => Sys2Proof.Machine.execDischargeRequest key s
  | .dischargeOpenEnd => Sys2Proof.Machine.execDischargeOpenEnd s
  | .decayCheck => Sys2Proof.Machine.execDecayCheck s
  | .dischargeTimeout => Sys2Proof.Machine.execDischargeTimeout s
  | .monitoringCycle => Sys2Proof.Machine.execMonitoringCycle s
  | .stoInputChange low t => Sys2Proof.Machine.execStoInputChange low t s
  | .stoDiscrepancy => Sys2Proof.Machine.execStoDiscrepancy s
  | .sspiRead cmd seq data crc clocks => Sys2Proof.Machine.execSspiRead cmd seq data crc clocks s
  | .demand seq data crc clocks => Sys2Proof.Machine.execDemand seq data crc clocks s
  | .confirm seq data crc clocks => Sys2Proof.Machine.execConfirm seq data crc clocks s
  | .ack seq data crc clocks => Sys2Proof.Machine.execAck seq data crc clocks s
  | .watchdogExpiry => Sys2Proof.Machine.execWatchdogExpiry s
  | .heartbeatMissing => Sys2Proof.Machine.execHeartbeatMissing s
  | .anvilDomainFail => Sys2Proof.Machine.execAnvilDomainFail s
  | .lockCheckDone => Sys2Proof.Machine.execLockCheckDone s
  | .parameterCrcCheck crc => Sys2Proof.Machine.execParameterCrcCheck crc s
  | .brakeFeedbackMismatch k => Sys2Proof.Machine.execBrakeFeedbackMismatch k s
  | .lockstepMismatch p lane addr lead chk cyc => Sys2Proof.Machine.execLockstepMismatch p lane addr lead chk cyc s
  | .assaySourceEnd => Sys2Proof.Machine.execAssaySourceEnd s
  | .asyncPortRead tries sample => Sys2Proof.Machine.execAsyncPortRead tries sample s
  | .debugHalt mask => Sys2Proof.Machine.execDebugHalt mask s
  | .breakpointMatch p => Sys2Proof.Machine.execBreakpointMatch p s
  | .resume mask => Sys2Proof.Machine.execResume mask s
  | .resumeCopyDone p => Sys2Proof.Machine.execResumeCopyDone p s
  | .step => Sys2Proof.Machine.execStep s
  | .debugRegisterWrite value => Sys2Proof.Machine.execDebugRegisterWrite value s
  | .tapReset => Sys2Proof.Machine.execTapReset s
  | .extest => Sys2Proof.Machine.execExtest s
  | .samplePreload cells => Sys2Proof.Machine.execSamplePreload cells s
  | .idcode => Sys2Proof.Machine.execIdcode s
  | .highz => Sys2Proof.Machine.execHighz s
  | .bypass code => Sys2Proof.Machine.execBypass code s
  | .dbgAddr value => Sys2Proof.Machine.execDbgAddr value s
  | .debugRead => Sys2Proof.Machine.execDebugRead s
  | .debugWrite value => Sys2Proof.Machine.execDebugWrite value s
  | .debugAccessDone cyc => Sys2Proof.Machine.execDebugAccessDone cyc s
  | .conversionStart c software => Sys2Proof.Machine.execConversionStart c software s
  | .injectedTrigger c software => Sys2Proof.Machine.execInjectedTrigger c software s
  | .injectedPeriodicTrigger c => Sys2Proof.Machine.execInjectedPeriodicTrigger c s
  | .conversionStop c => Sys2Proof.Machine.execConversionStop c s
  | .mcvWindowEnd c mean peak => Sys2Proof.Machine.execMcvWindowEnd c mean peak s
  | .mainsBoundary c cyc mean peak => Sys2Proof.Machine.execMainsBoundary c cyc mean peak s
  | .mainsWindowTimeout c mean peak => Sys2Proof.Machine.execMainsWindowTimeout c mean peak s
  | .conversionDelivery c => Sys2Proof.Machine.execConversionDelivery c s
  | .refReady => Sys2Proof.Machine.execRefReady s
  | .refWrite value => Sys2Proof.Machine.execRefWrite value s
  | .opsecTick => Sys2Proof.Machine.execOpsecTick s
  | .flush => Sys2Proof.Machine.execFlush s
  | .pfail => Sys2Proof.Machine.execPfail s
  | .vddMonitorFire => Sys2Proof.Machine.execVddMonitorFire s
  | .faultHoldEnd => Sys2Proof.Machine.execFaultHoldEnd s
  | .snap => Sys2Proof.Machine.execSnap s
  | .snapshotCopyDone => Sys2Proof.Machine.execSnapshotCopyDone s
  | .flushComplete => Sys2Proof.Machine.execFlushComplete s
  | .clearHistograms key => Sys2Proof.Machine.execClearHistograms key s
  | .clearExtremes key => Sys2Proof.Machine.execClearExtremes key s
  | .clearCounters key => Sys2Proof.Machine.execClearCounters key s
  | .clearTally key => Sys2Proof.Machine.execClearTally key s
  | .counterIncrement value => Sys2Proof.Machine.execCounterIncrement value s
  | .histogramEnable j value => Sys2Proof.Machine.execHistogramEnable j value s
  | .restoreDone => Sys2Proof.Machine.execRestoreDone s
  | .controllerEnable c value => Sys2Proof.Machine.execControllerEnable c value s
  | .transmitRequest c half mask => Sys2Proof.Machine.execTransmitRequest c half mask s
  | .frameReceived c f t cyc => Sys2Proof.Machine.execFrameReceived c f t cyc s
  | .referenceMessage c f t cyc => Sys2Proof.Machine.execReferenceMessage c f t cyc s
  | .frameTransmitted c b t cyc => Sys2Proof.Machine.execFrameTransmitted c b t cyc s
  | .transmissionFailed c b e cyc => Sys2Proof.Machine.execTransmissionFailed c b e cyc s
  | .scheduleWindowStart c busy => Sys2Proof.Machine.execScheduleWindowStart c busy s
  | .cycleEnd c => Sys2Proof.Machine.execCycleEnd c s
  | .backupSlot c => Sys2Proof.Machine.execBackupSlot c s
  | .referenceMissing c => Sys2Proof.Machine.execReferenceMissing c s
  | .holdoverLimit c => Sys2Proof.Machine.execHoldoverLimit c s
  | .busOffRecovery c => Sys2Proof.Machine.execBusOffRecovery c s
  | .write addr data => Sys2Proof.Machine.execWrite addr data s
  | .read addr words => Sys2Proof.Machine.execRead addr words s
  | .status => Sys2Proof.Machine.execStatus s
  | .unknownInstruction code => Sys2Proof.Machine.execUnknownInstruction code s
  | .submit mask => Sys2Proof.Machine.execSubmit mask s
  | .rspAck mask => Sys2Proof.Machine.execRspAck mask s
  | .evtAck mask => Sys2Proof.Machine.execEvtAck mask s
  | .postRsp mask => Sys2Proof.Machine.execPostRsp mask s
  | .postGrant mask => Sys2Proof.Machine.execPostGrant mask s
  | .postEvt mask => Sys2Proof.Machine.execPostEvt mask s
  | .hostReset => Sys2Proof.Machine.execHostReset s
  | .eventPost => Sys2Proof.Machine.execEventPost s
  | .getInfo ix => Sys2Proof.Machine.execGetInfo ix s
  | .getState ix => Sys2Proof.Machine.execGetState ix s
  | .setState ix => Sys2Proof.Machine.execSetState ix s
  | .lockConfig ix => Sys2Proof.Machine.execLockConfig ix s
  | .regRead ix => Sys2Proof.Machine.execRegRead ix s
  | .regWrite ix => Sys2Proof.Machine.execRegWrite ix s
  | .faultRead ix => Sys2Proof.Machine.execFaultRead ix s
  | .reset ix => Sys2Proof.Machine.execReset ix s
  | .axSetState ix => Sys2Proof.Machine.execAxSetState ix s
  | .axSetpoint ix => Sys2Proof.Machine.execAxSetpoint ix s
  | .axStatus ix => Sys2Proof.Machine.execAxStatus ix s
  | .axDraw ix g => Sys2Proof.Machine.execAxDraw ix g s
  | .axPattern ix => Sys2Proof.Machine.execAxPattern ix s
  | .auxCmd ix => Sys2Proof.Machine.execAuxCmd ix s
  | .auxDuty ix => Sys2Proof.Machine.execAuxDuty ix s
  | .auxStatus ix => Sys2Proof.Machine.execAuxStatus ix s
  | .dcPrecharge ix => Sys2Proof.Machine.execDcPrecharge ix s
  | .dcConv ix => Sys2Proof.Machine.execDcConv ix s
  | .dcDischarge ix => Sys2Proof.Machine.execDcDischarge ix s
  | .dcStatus ix => Sys2Proof.Machine.execDcStatus ix s
  | .measRead ix => Sys2Proof.Machine.execMeasRead ix s
  | .sdmRead ix => Sys2Proof.Machine.execSdmRead ix s
  | .recFlush ix => Sys2Proof.Machine.execRecFlush ix s
  | .recSnap ix => Sys2Proof.Machine.execRecSnap ix s
  | .recRead ix => Sys2Proof.Machine.execRecRead ix s
  | .recClear ix => Sys2Proof.Machine.execRecClear ix s
  | .lbStatus ix => Sys2Proof.Machine.execLbStatus ix s
  | .lbSend ix => Sys2Proof.Machine.execLbSend ix s
  | .fwInfo ix sig => Sys2Proof.Machine.execFwInfo ix sig s
  | .fwBegin ix => Sys2Proof.Machine.execFwBegin ix s
  | .fwData ix => Sys2Proof.Machine.execFwData ix s
  | .fwEnd ix sig => Sys2Proof.Machine.execFwEnd ix sig s
  | .fwSelect ix sig => Sys2Proof.Machine.execFwSelect ix sig s
  | .safeParamWrite ix => Sys2Proof.Machine.execSafeParamWrite ix s
  | .safeParamRead ix => Sys2Proof.Machine.execSafeParamRead ix s
  | .safeStatus ix => Sys2Proof.Machine.execSafeStatus ix s
  | .dbgEnter ix => Sys2Proof.Machine.execDbgEnter ix s
  | .dbgPool ix => Sys2Proof.Machine.execDbgPool ix s
  | .powerOnReset => Sys2Proof.Machine.execPowerOnReset s
  | .rstN low => Sys2Proof.Machine.execRstN low s
  | .softwareReset key => Sys2Proof.Machine.execSoftwareReset key s
  | .vddaCmpLoss => Sys2Proof.Machine.execVddaCmpLoss s
  | .vbusLbLoss => Sys2Proof.Machine.execVbusLbLoss s
  | .resetRelease straps => Sys2Proof.Machine.execResetRelease straps s
  | .pllLock failed => Sys2Proof.Machine.execPllLock failed s
  | .padCheckPullEnd fails => Sys2Proof.Machine.execPadCheckPullEnd fails s
  | .padCheckDone fails => Sys2Proof.Machine.execPadCheckDone fails s
  | .imageVerified sig => Sys2Proof.Machine.execImageVerified sig s
  | .agentStart => Sys2Proof.Machine.execAgentStart s
  | .configurationLock key => Sys2Proof.Machine.execConfigurationLock key s
  | .blowCustomerHash key => Sys2Proof.Machine.execBlowCustomerHash key s
  | .blowPortielDis key => Sys2Proof.Machine.execBlowPortielDis key s
  | .blowFlock key => Sys2Proof.Machine.execBlowFlock key s
  | .fuseOperationDone ok => Sys2Proof.Machine.execFuseOperationDone ok s
  | .extrapolationClamp n => Sys2Proof.Machine.execExtrapolationClamp n s
  | .markArming m cyc => Sys2Proof.Machine.execMarkArming m cyc s
  | .stuckEnd k => Sys2Proof.Machine.execStuckEnd k s
  | .ssiPauseEnd n => Sys2Proof.Machine.execSsiPauseEnd n s
  | .listenSyncTimeout n => Sys2Proof.Machine.execListenSyncTimeout n s
  | .receiveError c e eight => Sys2Proof.Machine.execReceiveError c e eight s
  | .vddaCmpReturn => Sys2Proof.Machine.execVddaCmpReturn s
  | .vbusLbReturn => Sys2Proof.Machine.execVbusLbReturn s
  | .hostResetRelease => Sys2Proof.Machine.execHostResetRelease s
  | .tripPinRelease p => Sys2Proof.Machine.execTripPinRelease p s

end Sys2Proof.Machine
end

