-- ==== Sys2Proof/Safety.lean ====
section
/-! DEFINITION. What counts as a safe state, in the terms that statements use: tables in their canonical form, and gate pads that switch
nothing on. -/

namespace Sys2Proof.Machine

open Sys2Proof

/-- A memory in its canonical form: addresses strictly rising, and no byte equal to 0, which an unlisted address reads as. -/
def Memory.wf (m : List Host.Cell) : Bool := tabWf id (fun _ => 0#8) m

/-- The register bank in its canonical form. -/
def Bank.wf (l : List (Reg × Word)) : Bool := tabWf Reg.addr Reg.reset l

/-- The tables of a state are in their canonical form, so that equal contents are equal data. -/
def State.canonical (s : State) : Bool := Bank.wf s.regs && Memory.wf s.mem && Memory.wf s.chk

/-- The level at which a pad switches its transistor on (R188, R496): the strapped polarity of its class. -/
def padOnLevel (s : State) (p : Fin 140) : Bool := !(s.f Fld.SYS_STRAP_GPOL).testBit (padClass (padGroup p).1)

/-- A pad switches nothing on: high impedance, or the inactive level. -/
def padQuiet (s : State) (p : Fin 140) : Bool := padLevel s p != some (padOnLevel s p)

/-- Every gate pad is quiet. -/
def State.quiet (s : State) : Prop := ∀ p, padQuiet s p = true

/-! The vocabulary of statements about commands. -/

/-- The command answers a next state of which `P` holds. -/
def gives (c : Instr) (s : State) (P : State → Prop) : Prop := ∃ t, exec c s = .next t ∧ P t

/-- A register write on the agent bus answers a next state: at the core cycle in which it takes effect, as `s.atWrite` moves there, it leaves a
state of which `P` holds, and the next state is that one at the end of its peripheral cycle (R207, R530). -/
def writes (c : Instr) (s : State) (P : State → State → Prop) : Prop := ∃ t, exec c s = .next (s.turned t) ∧ P s.atWrite t

/-- No register but those listed differs from one state to the other. -/
def State.keeps (s t : State) (rs : List Reg) : Prop := ∀ r, r ∉ rs → t.rd r = s.rd r

/-- No register outside the blocks listed differs: a block is named by the upper half of its addresses (R33). -/
def State.keepsOutside (s t : State) (blocks : List Nat) : Prop := ∀ r : Reg, r.addr / 0x10000 ∉ blocks → t.rd r = s.rd r

/-- No byte of memory differs, in either copy. -/
def State.keepsMem (s t : State) : Prop := t.mem = s.mem ∧ t.chk = s.chk

/-- No byte of memory outside the Hallmark's live image and snapshot (R403) differs, nor any of the second copies. -/
def State.keepsMemButHlm (s t : State) : Prop :=
  (∀ a, a < hlmLive ∨ hlmSnap + hlmLen ≤ a → memGet t.mem a = memGet s.mem a) ∧ t.chk = s.chk

/-- What a command that may record fault codes leaves unchanged (R32, R48, R409, R411): every register outside SYS, the mailbox's
count of lost events, the Hallmark and the blocks listed, and every byte of memory outside the Hallmark's images. -/
def State.faultFrame (s t : State) (blocks : List Nat) : Prop :=
  s.keepsOutside t (0x4000 :: 0x4001 :: 0x4010 :: blocks) ∧ s.keepsMemButHlm t

/-- Only the register bank differs, and there only the registers listed, with SYS's note of the bits that this peripheral cycle has set
(R7). -/
def State.onlyRegs (s t : State) (rs : List Reg) : Prop := { t with regs := s.regs, sys := s.sys } = s ∧ s.keeps t rs

end Sys2Proof.Machine
end

