-- ==== Sys2Proof/WellFormed.lean ====
section
/-! DEFINITION. Well-formed commands: what an operand's type does not already say. A command that is not well-formed names something
that the spec does not give; the machine answers it with an unchanged state or as its rule says. -/

namespace Sys2Proof

/-- The data bytes that a DLC codes (R430): at most 8 in a classic frame. -/
def dlcBytes (fdf : Bool) (dlc : Nat) : Nat :=
  if dlc ≤ 8 then dlc
  else if fdf then [12, 16, 20, 24, 32, 48, 64].getD (dlc - 9) 64
  else 8

/-- A frame of the line bus (R423, R430): a base identifier in bits [28:18], BRS only with FDF, no remote frame with FDF, and the data of its
DLC. -/
def LbFrame.wf (f : LbFrame) : Bool :=
  (f.xtd || f.id.extractLsb' 0 18 = 0#18) && (f.fdf || !f.brs) && !(f.remote && f.fdf) &&
    f.data.length = if f.remote then 0 else dlcBytes f.fdf f.dlc.toNat

/-- A command is well-formed. -/
def Instr.wf (i : Instr) : Bool :=
  match i with
  | .registerWrite _ _ width _ => width = 1 || width = 2 || width = 4
  | .unmappedAccess _ _ => true
  | .requestConfig _ => true
  | .requestStandby _ => true
  | .requestArmed _ => true
  | .requestRun _ => true
  | .requestSafe _ => true
  | .requestDebug _ => true
  | .axStateWrite _ => true
  | .faultCodeClear => true
  | .timeLoRead => true
  | .engineMemoryWrite _ offset _ => offset.toNat % 4 = 0
  | .gpioSet _ => true
  | .gpioClr _ => true
  | .gpioInputEdge _ _ => true
  | .clockMonitorWindow _ _ _ => true
  | .dmaRequest => true
  | .dmaSoftwareRequest _ => true
  | .dmaChannelCtlWrite _ _ => true
  | .dmaBurstStart => true
  | .dmaBurstEnd _ => true
  | .interruptTaken => true
  | .illegalInstruction _ => true
  | .add _ _ _ _ => true
  | .sub _ _ _ _ => true
  | .and _ _ _ _ => true
  | .or _ _ _ _ => true
  | .xor _ _ _ _ => true
  | .shl _ _ _ _ => true
  | .shr _ _ _ _ => true
  | .sra _ _ _ _ => true
  | .slt _ _ _ _ => true
  | .sltu _ _ _ _ => true
  | .min _ _ _ _ => true
  | .max _ _ _ _ => true
  | .mul _ _ _ _ => true
  | .addi _ _ _ _ => true
  | .andi _ _ _ _ => true
  | .ori _ _ _ _ => true
  | .xori _ _ _ _ => true
  | .shli _ _ _ _ => true
  | .shri _ _ _ _ => true
  | .srai _ _ _ _ => true
  | .slti _ _ _ _ => true
  | .lui _ _ _ => true
  | .lw _ _ _ _ _ _ => true
  | .lh _ _ _ _ _ _ => true
  | .lhu _ _ _ _ _ _ => true
  | .lb _ _ _ _ _ _ => true
  | .lbu _ _ _ _ _ _ => true
  | .sw _ _ _ _ => true
  | .sh _ _ _ _ => true
  | .sb _ _ _ _ => true
  | .flw _ _ _ _ _ _ => true
  | .fsw _ _ _ _ => true
  | .beq _ _ _ _ => true
  | .bne _ _ _ _ => true
  | .blt _ _ _ _ => true
  | .bge _ _ _ _ => true
  | .bltu _ _ _ _ => true
  | .bgeu _ _ _ _ => true
  | .j _ _ => true
  | .jal _ _ => true
  | .jr _ _ _ => true
  | .fadd _ _ _ _ => true
  | .fsub _ _ _ _ => true
  | .fmul _ _ _ _ => true
  | .fmac _ _ _ _ => true
  | .dmac _ d a b => !d.getLsbD 0 && !a.getLsbD 0 && !b.getLsbD 0
  | .fdiv _ _ _ _ => true
  | .fsqrt _ _ _ => true
  | .fmin _ _ _ _ => true
  | .fmax _ _ _ _ => true
  | .fabs _ _ _ => true
  | .fneg _ _ _ => true
  | .feq _ _ _ _ => true
  | .flt _ _ _ _ => true
  | .fle _ _ _ _ => true
  | .fcvtws _ _ _ => true
  | .fcvtsw _ _ _ => true
  | .fmvxs _ _ _ => true
  | .fmvsx _ _ _ => true
  | .pilut _ _ _ _ _ _ _ => true
  | .pilinit _ _ _ => true
  | .tlu _ _ _ _ _ => true
  | .sincos _ _ _ _ => true
  | .csrr _ _ _ => true
  | .csrw _ _ _ => true
  | .nop _ => true
  | .wfi => true
  | .iret => true
  | .tick _ => true
  | .taskRelease _ => true
  | .softwareRelease _ => true
  | .instanceStart _ => true
  | .contextCopyDone _ => true
  | .writeBackDone _ => true
  | .budgetOverrun _ => true
  | .stealRequest _ => true
  | .commitCycle _ => true
  | .retirementComplete _ => true
  | .pairEnable _ _ => true
  | .drain _ _ => true
  | .retire _ _ => true
  | .unslow _ _ => true
  | .drainComplete _ => true
  | .taskCtlWrite _ _ => true
  | .generatorEvent _ => true
  | .standstillTimeout _ => true
  | .holdoverEntry _ => true
  | .mainsLost _ => true
  | .rampSpeedStep _ => true
  | .generatorCtlWrite _ _ => true
  | .gearNumWrite _ _ => true
  | .eofsWrite _ _ => true
  | .elecRead _ => true
  | .latchPosRead _ => true
  | .markCrossing _ _ => true
  | .markCtlWrite _ _ => true
  | .markAngleWrite _ _ => true
  | .quadratureCount _ _ _ _ => true
  | .indexEvent _ _ _ => true
  | .hallChange _ _ _ => true
  | .lineLoss _ _ => true
  | .indexArm _ => true
  | .capture _ => true
  | .captureSwtrg _ => true
  | .clearDoubleSteps _ => true
  | .clearIndexMisses _ => true
  | .qeCtlWrite _ _ => true
  | .ssiCtlWrite _ _ => true
  | .ssiSwtrg _ => true
  | .ssiBurstStart _ _ => true
  | .ssiFrameComplete _ _ => true
  | .continuousWord _ _ _ => true
  | .samplingWindowEvent _ => true
  | .softwareWindow _ => true
  | .windowWordComplete _ _ => true
  | .stuck _ => true
  | .sinc2Change _ _ _ => true
  | .counterClearPair _ => true
  | .counterClearGroup _ => true
  | .checkPairCtlWrite _ _ => true
  | .periodStart _ _ => true
  | .periodCentre _ => true
  | .commandEdge _ _ _ => true
  | .deadTimeExpiry _ _ => true
  | .bootstrapRefresh _ _ => true
  | .onTimeEnd _ _ => true
  | .offTimeEnd _ _ => true
  | .zeroCurrentEvent _ _ => true
  | .peakEvent _ _ => true
  | .tmaxTimeout _ _ => true
  | .loadallArm _ _ => true
  | .shadowWrite g r _ => r != .psel || g.val < 4
  | .groupStart _ => true
  | .groupStop _ => true
  | .delayRegisterWrite _ _ => true
  | .complementWrite _ _ => true
  | .patternCheckStart _ _ => true
  | .patternCheckDone => true
  | .patternEntryWrite _ _ => true
  | .patternEdge _ _ _ => true
  | .comparatorChange _ mv uv _ => mv * 1000 + uv.val ≤ 3300000
  | .thresholdWrite _ _ _ => true
  | .sourceActive _ _ => true
  | .ascDelayExpiry _ => true
  | .latchClear _ _ => true
  | .safeselWrite _ _ => true
  | .routeCrcCheck _ => true
  | .touchstoneSweepStart => true
  | .touchstoneSweepEnd _ _ => true
  | .auxStart _ => true
  | .auxStop _ => true
  | .auxClear _ => true
  | .zeroCrossing _ _ _ _ => true
  | .commutation _ => true
  | .demagBlankEnd _ => true
  | .zcTimeout _ => true
  | .listenEnd _ => true
  | .brakeSliceEnd _ => true
  | .listenIntervalEnd _ => true
  | .brakeTimeout _ => true
  | .alignEnd _ => true
  | .rampSectorEnd _ => true
  | .coastEnd _ => true
  | .runOkExpiry _ => true
  | .auxPeakEvent _ _ => true
  | .prechargeClose _ => true
  | .prechargeOpen _ => true
  | .prechargeRiseCheck => true
  | .prechargeTimeout => true
  | .prechargeOverlapEnd => true
  | .prechargeCloseCheck => true
  | .contactorDrop => true
  | .voltageStale _ => true
  | .dischargeRequest _ => true
  | .dischargeOpenEnd => true
  | .decayCheck => true
  | .dischargeTimeout => true
  | .monitoringCycle => true
  | .stoInputChange _ _ => true
  | .stoDiscrepancy => true
  | .sspiRead _ _ _ _ _ => true
  | .demand _ _ _ _ => true
  | .confirm _ _ _ _ => true
  | .ack _ _ _ _ => true
  | .watchdogExpiry => true
  | .heartbeatMissing => true
  | .anvilDomainFail => true
  | .lockCheckDone => true
  | .parameterCrcCheck _ => true
  | .brakeFeedbackMismatch _ => true
  | .lockstepMismatch _ _ _ _ _ _ => true
  | .assaySourceEnd => true
  | .asyncPortRead _ _ => true
  | .debugHalt _ => true
  | .breakpointMatch _ => true
  | .resume _ => true
  | .resumeCopyDone _ => true
  | .step => true
  | .debugRegisterWrite _ => true
  | .tapReset => true
  | .extest => true
  | .samplePreload _ => true
  | .idcode => true
  | .highz => true
  | .bypass code => !(code = 0x00#6 || code = 0x01#6 || code = 0x02#6 || code = 0x04#6 || code = 0x10#6 || code = 0x11#6)
  | .dbgAddr _ => true
  | .debugRead => true
  | .debugWrite _ => true
  | .debugAccessDone _ => true
  | .conversionStart _ _ => true
  | .injectedTrigger _ _ => true
  | .injectedPeriodicTrigger _ => true
  | .conversionStop _ => true
  | .mcvWindowEnd _ _ _ => true
  | .mainsBoundary _ _ _ _ => true
  | .mainsWindowTimeout _ _ _ => true
  | .conversionDelivery _ => true
  | .refReady => true
  | .refWrite _ => true
  | .opsecTick => true
  | .flush => true
  | .pfail => true
  | .vddMonitorFire => true
  | .faultHoldEnd => true
  | .snap => true
  | .snapshotCopyDone => true
  | .flushComplete => true
  | .clearHistograms _ => true
  | .clearExtremes _ => true
  | .clearCounters _ => true
  | .clearTally _ => true
  | .counterIncrement _ => true
  | .histogramEnable _ _ => true
  | .restoreDone => true
  | .controllerEnable _ _ => true
  | .transmitRequest _ _ _ => true
  | .frameReceived _ f _ _ => f.wf
  | .referenceMessage _ f _ _ => f.all LbFrame.wf
  | .frameTransmitted _ _ _ _ => true
  | .transmissionFailed _ _ _ _ => true
  | .scheduleWindowStart _ _ => true
  | .cycleEnd _ => true
  | .backupSlot _ => true
  | .referenceMissing _ => true
  | .holdoverLimit _ => true
  | .busOffRecovery _ => true
  | .write _ _ => true
  | .read _ words => words != 0
  | .status => true
  | .unknownInstruction code => code != 0x02#8 && code != 0x0B#8 && code != 0x05#8
  | .submit _ => true
  | .rspAck _ => true
  | .evtAck _ => true
  | .postRsp _ => true
  | .postGrant _ => true
  | .postEvt _ => true
  | .hostReset => true
  | .eventPost => true
  | .getInfo _ => true
  | .getState _ => true
  | .setState _ => true
  | .lockConfig _ => true
  | .regRead _ => true
  | .regWrite _ => true
  | .faultRead _ => true
  | .reset _ => true
  | .axSetState _ => true
  | .axSetpoint _ => true
  | .axStatus _ => true
  | .axDraw _ _ => true
  | .axPattern _ => true
  | .auxCmd _ => true
  | .auxDuty _ => true
  | .auxStatus _ => true
  | .dcPrecharge _ => true
  | .dcConv _ => true
  | .dcDischarge _ => true
  | .dcStatus _ => true
  | .measRead _ => true
  | .sdmRead _ => true
  | .recFlush _ => true
  | .recSnap _ => true
  | .recRead _ => true
  | .recClear _ => true
  | .lbStatus _ => true
  | .lbSend _ => true
  | .fwInfo _ _ => true
  | .fwBegin _ => true
  | .fwData _ => true
  | .fwEnd _ _ => true
  | .fwSelect _ _ => true
  | .safeParamWrite _ => true
  | .safeParamRead _ => true
  | .safeStatus _ => true
  | .dbgEnter _ => true
  | .dbgPool _ => true
  | .powerOnReset => true
  | .rstN _ => true
  | .softwareReset _ => true
  | .vddaCmpLoss => true
  | .vbusLbLoss => true
  | .resetRelease _ => true
  | .pllLock _ => true
  | .padCheckPullEnd _ => true
  | .padCheckDone _ => true
  | .imageVerified _ => true
  | .agentStart => true
  | .configurationLock _ => true
  | .blowCustomerHash _ => true
  | .blowPortielDis _ => true
  | .blowFlock _ => true
  | .fuseOperationDone _ => true
  | .extrapolationClamp _ => true
  | .markArming _ _ => true
  | .stuckEnd _ => true
  | .ssiPauseEnd _ => true
  | .listenSyncTimeout _ => true
  | .receiveError _ _ _ => true
  | .vddaCmpReturn => true
  | .vbusLbReturn => true
  | .hostResetRelease => true
  | .tripPinRelease _ => true

end Sys2Proof
end

