-- ==== Sys2Proof/Certificates/Slice0/Obligations.lean ====
section
/-! DEFINITION. The statements for the provers: what the numbered rules of spec/ say that commands do, as propositions about `exec` and
`step`. -/

open Sys2Proof Sys2Proof.Machine

/-- With command c at the front of the queue, step is exec of c on the state with the rest of the queue, for every command of the table and
every operand and state; exec answers a next state, so the model stops on none. With nothing waiting, step answers a next state in which,
while device time counts and no RESET command's write has fallen due, device time is one core cycle later and everything else is as before.
What passes on an empty queue is the model's choice (log entry 3). (00_scope.md, 01_architecture.md, log entry 3). -/
def Obligations.StepRunsTheFrontCommand : Prop :=
  (∀ (c : Instr) (rest : List Instr) (s : State), s.pending = c :: rest → step s = exec c { s with pending := rest }) ∧
    (∀ (c : Instr) (s : State), ∃ t, exec c s = .next t) ∧
    ∀ s : State, s.pending = [] → s.running = true → (∀ t, s.boot.rstAt = some t → s.time + 1 < t) →
      step s = .next { s with time := s.time + 1 }

/-- Right after reset every register holds the value of its table, the device is in BOOT with every axis and auxiliary drive OFF and the
Anvil in SV_INIT, device time is 0, no command waits, every gate pad floats and so switches nothing on, and the register bank and the
memories are in canonical form. Memory that reads 0 and the values the spec does not give are the model's choice (log entries 1 and 2).
(R11, R20, R15, R22, log entry 1, log entry 2). -/
def Obligations.ResetStateIsAsTheTablesSay : Prop :=
  (∀ r : Reg, State.reset.rd r = r.reset) ∧ State.reset.dev = devBoot ∧ State.reset.sv = svInit ∧
    (∀ n, State.reset.axis n = axOff) ∧ (∀ n, State.reset.auxSt n = auxOff) ∧ State.reset.time = 0 ∧
    State.reset.pending = [] ∧ (∀ a, memGet State.reset.mem a = 0#8) ∧ (∀ p, padLevel State.reset p = none) ∧
    State.reset.quiet ∧ State.reset.canonical = true

/-- Write v to register r by its access codes alone, in any state. For every field of the register's table: an RO, WO or W1S field keeps its
value; a W1C bit is cleared if v has a 1 there and the hardware has not set it in the present peripheral cycle, and is kept otherwise; an RW
field takes v, an RWL field before configuration lock, an RWC field in CONFIG or SAFE, unless v holds an encoding the table reserves there,
and each keeps its value otherwise. A bit that no field names keeps its value. Only register r changes. (R6, R7, R9, R10, R12). -/
def Obligations.AccessCodesGovernRegisterWrites : Prop :=
  ∀ (r : Reg) (v : Word) (s : State),
    (∀ row ∈ r.rows,
      let old := wGet (s.rd r) row.lo row.width
      let x := wGet v row.lo row.width
      let new := wGet ((writePlain r v s).rd r) row.lo row.width
      let free := (∀ p ∈ row.rsv, ¬ (p.1 ≤ x ∧ x ≤ p.2)) ∧ rsvNow s r row.lo ((writePlain r v s).rd r) x = false
      (row.acc = .ro ∨ row.acc = .wo ∨ row.acc = .w1s → new = old) ∧
      (row.acc = .rw → new = (if free then x else old)) ∧
      (row.acc = .rwl → new = (if s.locked = false ∧ free then x else old)) ∧
      (row.acc = .rwc → new = (if (s.dev = devConfig ∨ s.dev = devSafe) ∧ free then x else old)) ∧
      (row.acc = .w1c → ∀ i, row.lo ≤ i → i < row.lo + row.width →
        ((writePlain r v s).rd r).getLsbD i = ((s.rd r).getLsbD i && !(v.getLsbD i && !(s.hotBits r).getLsbD i)))) ∧
    (∀ i, (∀ row ∈ r.rows, ¬ (row.lo ≤ i ∧ i < row.lo + row.width)) →
      ((writePlain r v s).rd r).getLsbD i = (s.rd r).getLsbD i) ∧
    s.onlyRegs (writePlain r v s) [r]

/-- The rows of R23 that an agent request can use, by target. -/
def agentChange (s : State) (target : Nat) : Prop :=
  (target = devConfig ∧ s.dev = devStandby) ∨
  (target = devStandby ∧ ((s.dev = devConfig ∧ s.locked = true ∧ s.sv = svArmed) ∨
    (s.dev = devArmed ∧ (∀ n, s.axis n = axOff) ∧ s.gRun 4 = false ∧ s.gRun 5 = false) ∨
    (s.dev = devSafe ∧ s.sv = svArmed ∧ ∀ k : Fin 128, k ≠ 117 → s.srcCounts k = false))) ∨
  (target = devArmed ∧ ((s.dev = devStandby ∧ s.sv = svEnabled ∧ s.flag Fld.SYS_STATE_LOCKSTEP_BROKEN = false) ∨
    (s.dev = devRun ∧ ∀ n, s.axis n = axOff))) ∨
  (target = devRun ∧ s.dev = devArmed ∧ s.flag Fld.SYS_STATE_LOCKSTEP_BROKEN = false) ∨
  (target = devSafe ∧ (s.dev = devConfig ∨ s.dev = devStandby ∨ s.dev = devArmed ∨ s.dev = devRun)) ∨
  (target = devDebug ∧ (s.dev = devStandby ∨ s.dev = devArmed ∨ s.dev = devRun) ∧ s.flag Fld.SYS_STRAP_DBG = true)

/-- A request command with its key, and its target. -/
def isRequest (c : Instr) (key : BitVec 16) (target : Nat) : Prop :=
  (c = .requestConfig key ∧ target = devConfig) ∨ (c = .requestStandby key ∧ target = devStandby) ∨
  (c = .requestArmed key ∧ target = devArmed) ∨ (c = .requestRun key ∧ target = devRun) ∨
  (c = .requestSafe key ∧ target = devSafe) ∨ (c = .requestDebug key ∧ target = devDebug)

/-- REQUEST_CONFIG, REQUEST_STANDBY, REQUEST_ARMED, REQUEST_RUN, REQUEST_SAFE and REQUEST_DEBUG with KEY 0xC3A5, in a state that a row of
R23 lets an agent leave for the target, with no cause of FAULT, SAFE or DEBUG in this peripheral cycle and no discharge running, take the
device to the target with STATE_CHG set. REQUEST_SAFE also makes source 117 active and holds every axis; leaving SAFE for STANDBY clears
source 117 and turns the held axes OFF. Registers outside SYS, MBX, PWM, QNC, AUX, ANV and HLM are unchanged, and with room in Felyene's
queue a request for CONFIG, ARMED, RUN or DEBUG changes SYS_STATE, SYS_STATUS and ANV_STATUS only and no memory. With another key, with such
a cause, or where no row allows the change, the request sets REQ_REFUSED and SYS_REFUSE and changes nothing else. (R23, R24, R25, R30, R31,
R531). -/
def Obligations.StateRequestsFollowTheTable : Prop :=
  ∀ (c : Instr) (key : BitVec 16) (target : Nat) (s : State), isRequest c key target →
    (key = 0xC3A5#16 → s.sys.causeCyc ≠ some s.perCycle → agentChange s target → s.dsgRun = false → s.latch 117 = false ∨ target ≠ devSafe →
      writes c s fun s t =>
        t.dev = target ∧ t.flag Fld.SYS_STATUS_STATE_CHG = true ∧ t.time = s.time ∧
        (target = devSafe → t.raw 117 = true ∧ t.latch 117 = true ∧ ∀ n, t.axis n = axHold) ∧
        (target = devStandby ∧ s.dev = devSafe → t.raw 117 = false ∧ t.latch 117 = false ∧
          ∀ n, t.axis n = if s.axis n = axHold then axOff else s.axis n) ∧
        s.faultFrame t [0x4004, 0x4005, 0x4008, 0x400C, 0x400F] ∧
        (target ≠ devSafe → target ≠ devStandby → s.mbx.evq.length < 60 →
          s.keeps t [.SYS_STATE, .SYS_STATUS, .ANV_STATUS] ∧ s.keepsMem t)) ∧
    (key ≠ 0xC3A5#16 ∨ s.sys.causeCyc = some s.perCycle ∨ ¬ agentChange s target →
      writes c s fun s t =>
        t.flag Fld.SYS_STATUS_REQ_REFUSED = true ∧ t.f Fld.SYS_REFUSE_TARGET = target ∧ t.f Fld.SYS_REFUSE_DEV_AT = s.dev ∧
        t.f Fld.SYS_REFUSE_AXIS_WR = 0 ∧ s.onlyRegs t [.SYS_STATUS, .SYS_REFUSE])

/-- Write SYS_AX_STATE with one field changed, from old to new (a defined code), where no hardware change of the axes falls in this
peripheral cycle. With new one of ALIGN, CATCH, RUN and STOPPING, the device in RUN or DEBUG and old not SAFE_HOLD, or with new OFF and no
active Quench source routed to the axis's groups, the axis takes the new state, the other axes keep theirs and no refusal is recorded; with
no discharge in its WINDINGS method and room in Felyene's queue only SYS_AX_STATE changes. Outside RUN and DEBUG, or from SAFE_HOLD, a write
of ALIGN to STOPPING is refused, and so is OFF while such a source is active: the axis keeps its state, REQ_REFUSED is set, and SYS_REFUSE
names the axis, the state asked for and the device state; only SYS_STATUS and SYS_REFUSE change. (R28, R29, R31). -/
def Obligations.AxisWritesAreJudgedFieldByField : Prop :=
  ∀ (s : State) (value : Word) (n : Fin 4),
    let old := s.axis n
    let new := wGet value (4 * n.val) 3
    let driven := new = 1 ∨ new = 2 ∨ new = 3 ∨ new = 4
    let tripped := ∃ k : Fin 128, s.srcCounts k = true ∧ srcAction s k (axGroup n) ≠ 0
    let allowed := (driven ∧ (s.dev = devRun ∨ s.dev = devDebug) ∧ old ≠ axHold) ∨ (new = axOff ∧ ¬ tripped)
    new ≠ old → (∀ m : Fin 4, m ≠ n → wGet value (4 * m.val) 3 = s.axis m) → s.sys.axCyc ≠ some s.perCycle →
    s.dsgRun = false →
    (allowed → writes (.axStateWrite value) s fun s t =>
      t.axis n = new ∧ (∀ m, m ≠ n → t.axis m = s.axis m) ∧
      t.flag Fld.SYS_STATUS_REQ_REFUSED = s.flag Fld.SYS_STATUS_REQ_REFUSED ∧ t.dev = s.dev ∧
      (s.mbx.evq.length < 64 → s.keeps t [.SYS_AX_STATE] ∧ s.keepsMem t)) ∧
    (driven ∨ new = axOff → ¬ allowed → writes (.axStateWrite value) s fun s t =>
      (∀ m, t.axis m = s.axis m) ∧ t.flag Fld.SYS_STATUS_REQ_REFUSED = true ∧ t.f Fld.SYS_REFUSE_TARGET = new ∧
      t.f Fld.SYS_REFUSE_DEV_AT = s.dev ∧ t.f Fld.SYS_REFUSE_AXIS = n.val ∧ t.f Fld.SYS_REFUSE_AXIS_WR = 1 ∧
      s.onlyRegs t [.SYS_STATUS, .SYS_REFUSE])

/-- The address lies in a range of R33. -/
def mapped (a : Nat) : Prop :=
  a ≤ 0xFFFF ∨ (0x08000000 ≤ a ∧ a ≤ 0x0807FFFF) ∨ (0x10000000 ≤ a ∧ a ≤ 0x103FFFFF) ∨ (0x20000000 ≤ a ∧ a ≤ 0x207FFFFF) ∨
  (0x30000000 ≤ a ∧ a ≤ 0x3017FFFF) ∨ (0x40000000 ≤ a ∧ a ≤ 0x40113FFF) ∨ (0x40120000 ≤ a ∧ a ≤ 0x4013FFFF) ∨
  (0x50000000 ≤ a ∧ a ≤ 0x5003FFFF)

/-- REGISTER_WRITE of a whole aligned word to SYS_IRQ_EN or SYS_GPIO_IE by the agent stores its writable bits and nothing else; of any other
width, to any register of the map, it changes nothing. UNMAPPED_ACCESS outside the map of R33 sets UNMAPPED and the address if UNMAPPED was
0; a read answers 0. FAULT_CODE_CLEAR with no fault in this cycle clears SYS_FAULT; otherwise FIRST and LAST take the lowest and highest
code of the cycle. TIME_LO_READ answers the lower half of device time and captures the upper. GPIO_SET and GPIO_CLR set or clear the OUT
bits named whose pins are not owned. ENGINE_MEMORY_WRITE puts a word into both copies of the window, or, while the pair runs a task, only
sets REQ_REFUSED. Nothing else changes. (R34). -/
def Obligations.SystemRegisterCommands : Prop :=
  ∀ s : State,
    (∀ v, writes (.registerWrite 0x40000024#32 v 4 false) s fun s t => t.rd .SYS_IRQ_EN = v &&& 0x7F#32 ||| s.rd .SYS_IRQ_EN &&& 0xFFFFFF80#32 ∧
      s.onlyRegs t [.SYS_IRQ_EN]) ∧
    (∀ v, writes (.registerWrite 0x40000120#32 v 4 false) s fun s t => t.rd .SYS_GPIO_IE = v ∧ s.onlyRegs t [.SYS_GPIO_IE]) ∧
    (∀ v (r : Reg) (a : Word) (w : Nat), a.toNat = r.addr → w ≠ 4 → exec (.registerWrite a v w false) s = .next s) ∧
    (∀ (a : Word) (isWrite : Bool), ¬ mapped a.toNat → gives (.unmappedAccess a isWrite) s fun t =>
      t.flag Fld.SYS_STATUS_UNMAPPED = true ∧
      t.rd .SYS_UNMAPPED_ADDR = (if s.flag Fld.SYS_STATUS_UNMAPPED then s.rd .SYS_UNMAPPED_ADDR else a) ∧
      t.rdata = (if isWrite then s.rdata else 0#32) ∧ s.onlyRegs { t with rdata := s.rdata } [.SYS_STATUS, .SYS_UNMAPPED_ADDR]) ∧
    (writes .faultCodeClear s fun s t =>
      (s.sys.faultCyc ≠ some s.perCycle → t.rd .SYS_FAULT = 0#32) ∧
      (s.sys.faultCyc = some s.perCycle → s.sys.faultLo < 2 ^ 16 → s.sys.faultHi < 2 ^ 16 →
        t.f Fld.SYS_FAULT_FIRST = s.sys.faultLo ∧ t.f Fld.SYS_FAULT_LAST = s.sys.faultHi) ∧
      s.onlyRegs t [.SYS_FAULT]) ∧
    (gives .timeLoRead s fun t => t.rdata = BitVec.ofNat 32 s.time ∧ t.rd .SYS_TIME_HI = BitVec.ofNat 32 (s.time / 2 ^ 32) ∧
      s.onlyRegs { t with rdata := s.rdata } [.SYS_TIME_HI]) ∧
    (∀ mask, writes (.gpioSet mask) s fun s t =>
      t.rd .SYS_GPIO_OUT = s.rd .SYS_GPIO_OUT ||| (mask &&& ~~~gpioOwned s) ∧ s.onlyRegs t [.SYS_GPIO_OUT]) ∧
    (∀ mask, writes (.gpioClr mask) s fun s t =>
      t.rd .SYS_GPIO_OUT = s.rd .SYS_GPIO_OUT &&& ~~~(mask &&& ~~~gpioOwned s) ∧ s.onlyRegs t [.SYS_GPIO_OUT]) ∧
    (∀ (p : Fin 24) (offset : BitVec 16) (v : Word), offset.toNat % 4 = 0 →
      let a := 0x30000000 + p.val * 0x10000 + offset.toNat
      ((s.lp p).run = none → (∀ u, (s.lp p).gain = some u → s.time < u.at_) → gives (.engineMemoryWrite p offset v) s fun t =>
        t.memW a = v ∧ memWord t.chk a = v ∧
        (∀ b, b < a ∨ a + 4 ≤ b → memGet t.mem b = memGet s.mem b ∧ memGet t.chk b = memGet s.chk b) ∧
        { t with mem := s.mem, chk := s.chk } = s) ∧
      ((s.lp p).run ≠ none → gives (.engineMemoryWrite p offset v) s fun t =>
        t.flag Fld.SYS_STATUS_REQ_REFUSED = true ∧ s.onlyRegs t [.SYS_STATUS]))

/-- GPIO_INPUT_EDGE: a pin that is not driven to another level and stands at the other level takes the level at its synchroniser output, the
pin's RISE or FALL bit is set in the next peripheral cycle, and no other register changes. CLOCK_MONITOR_WINDOW: a window within 1,425 to
1,575 with the PLL locked (for SYS's monitor 950 to 1,050) ends a run of failed windows and, from a state in which source 114 is not active,
changes nothing else; the first failed window only counts; the second in a row sets CLK_MAIN_FAIL or CLK_SV_FAIL and leaves source 114
active and the device in FAULT. (R21, R22, R37, R38, R39, R48, log entry 4). -/
def Obligations.SystemEvents : Prop :=
  ∀ s : State,
    (∀ (pin : Fin 32) (level : Bool), s.sys.sync.getLsbD pin.val ≠ level → (∀ b, gpioDrive s pin = some b → b = level) →
      gives (.gpioInputEdge pin level) s fun t =>
        (shownReg .SYS_GPIO_IN t).getLsbD pin.val = level ∧
        (∀ j : Fin 32, j ≠ pin → (shownReg .SYS_GPIO_IN t).getLsbD j.val = s.sys.sync.getLsbD j.val) ∧
        t.bitOf (if level then .SYS_GPIO_RISE else .SYS_GPIO_FALL) pin.val = true ∧ t.time = 4 * (s.perCycle + 1) ∧
        s.keeps t [if level then .SYS_GPIO_RISE else .SYS_GPIO_FALL] ∧ s.keepsMem t) ∧
    (∀ (n : Nat) (locked : Bool),
      let good := 1425 ≤ n ∧ n ≤ 1575 ∧ locked = true
      (good → s.raw 114 = false → exec (.clockMonitorWindow true n locked) s = .next { s with sys := { s.sys with mainBad := 0 } }) ∧
      (¬ good → s.sys.mainBad = 0 → s.raw 114 = false →
        exec (.clockMonitorWindow true n locked) s = .next { s with sys := { s.sys with mainBad := 1 } }) ∧
      (¬ good → s.sys.mainBad = 1 → gives (.clockMonitorWindow true n locked) s fun t =>
        t.flag Fld.SYS_STATUS_CLK_MAIN_FAIL = true ∧ t.raw 114 = true ∧ t.dev = devFault ∧ t.time = s.time)) ∧
    (∀ (n : Nat) (locked : Bool),
      let good := 950 ≤ n ∧ n ≤ 1050
      (good → s.raw 114 = false → exec (.clockMonitorWindow false n locked) s = .next { s with sys := { s.sys with svBad := 0 } }) ∧
      (¬ good → s.sys.svBad = 1 → gives (.clockMonitorWindow false n locked) s fun t =>
        t.flag Fld.SYS_STATUS_CLK_SV_FAIL = true ∧ t.raw 114 = true ∧ t.dev = devFault ∧ t.time = s.time))

/-- DMA_REQUEST: the oldest request on its way leaves the queue; each enabled channel that selects it and was not enabled in this cycle gets
PEND, or OVR if it holds a request or runs a burst. DMA_SOFTWARE_REQUEST: a channel enabled with REQ 63 puts its request on the way for the
next peripheral cycle. DMA_CHANNEL_CTL_WRITE of EN = 1 to a stopped channel with a defined REQ and a buffer in shared SRAM below the
Crucible stores the fields and sets WIDX to 0; otherwise it sets WR_IGN and nothing else. DMA_BURST_START: with no burst running, the lowest
channel with PEND gets BUSY. DMA_BURST_END of a one-word burst with SRC in memory copies the word to DST + 4 x WIDX, advances WIDX, and
clears BUSY; a filled buffer sets DONE and then wraps with CIRC or clears EN. Registers other than those of DMA are unchanged. (R40, R41,
R42, R43, R44). -/
def Obligations.DmaChannels : Prop :=
  ∀ s : State,
    (∀ q rest, s.dma.inbox = q :: rest → gives .dmaRequest s fun t =>
      t.dma.inbox = rest ∧
      (∀ c : Fin 16,
        let u := { s with time := max s.time q.at_ }
        (dmaTakes u q c = true → s.f (Fld.DMA_CH_STAT_PEND c) = 0 → s.f (Fld.DMA_CH_STAT_BUSY c) = 0 → t.f (Fld.DMA_CH_STAT_PEND c) = 1) ∧
        (dmaTakes u q c = true → s.f (Fld.DMA_CH_STAT_PEND c) = 1 ∨ s.f (Fld.DMA_CH_STAT_BUSY c) = 1 → t.bitOf .DMA_STATUS (16 + c.val) = true) ∧
        (dmaTakes u q c = false → t.rd (.DMA_CH_STAT c) = s.rd (.DMA_CH_STAT c) ∧
          t.bitOf .DMA_STATUS (16 + c.val) = s.bitOf .DMA_STATUS (16 + c.val))) ∧
      s.keepsOutside t [0x4012] ∧ s.keepsMem t) ∧
    (∀ c : Fin 16, s.flag (Fld.DMA_CH_CTL_EN c) = true → s.f (Fld.DMA_CH_CTL_REQ c) = 63 →
      writes (.dmaSoftwareRequest c) s fun s t =>
        t = { s with dma := { s.dma with inbox := s.dma.inbox ++ [⟨63, some c, 4 * (s.perCycle + 1)⟩] } }) ∧
    (∀ (c : Fin 16) (v : Word), s.flag (Fld.DMA_CH_CTL_EN c) = false → v.getLsbD 0 = true →
      let ok := (wGet v 1 6 < 56 ∨ wGet v 1 6 = 63) ∧ 0x10000000 ≤ s.f (Fld.DMA_CH_DST_ADDR c) * 4 ∧
        s.f (Fld.DMA_CH_DST_ADDR c) * 4 + 4 * s.f (Fld.DMA_CH_LEN_LEN c) ≤ 0x103F0000
      (ok → writes (.dmaChannelCtlWrite c v) s fun s t =>
        t.rd (.DMA_CH_CTL c) = v &&& 0x1FFF#32 ∧ t.f (Fld.DMA_CH_STAT_WIDX c) = 0 ∧
        s.keeps t [.DMA_CH_CTL c, .DMA_CH_STAT c] ∧ s.keepsMem t) ∧
      (¬ ok → writes (.dmaChannelCtlWrite c v) s fun s t =>
        t.f (Fld.DMA_CH_STAT_WR_IGN c) = 1 ∧ t.rd (.DMA_CH_CTL c) = s.rd (.DMA_CH_CTL c) ∧ s.onlyRegs t [.DMA_CH_STAT c])) ∧
    (∀ c : Fin 16, (∀ d, s.f (Fld.DMA_CH_STAT_BUSY d) = 0) → s.f (Fld.DMA_CH_STAT_PEND c) = 1 →
      (∀ d, d < c → s.f (Fld.DMA_CH_STAT_PEND d) = 0) → gives .dmaBurstStart s fun t =>
        t.f (Fld.DMA_CH_STAT_BUSY c) = 1 ∧ t.f (Fld.DMA_CH_STAT_PEND c) = 0 ∧ s.keeps t [.DMA_CH_STAT c] ∧ s.keepsMem t) ∧
    (∀ (c : Fin 16) (cyc : Nat), s.f (Fld.DMA_CH_STAT_BUSY c) = 1 → (∀ d, d ≠ c → s.f (Fld.DMA_CH_STAT_BUSY d) = 0) →
      s.f (Fld.DMA_CH_CTL_BURST c) = 0 → s.dma.offAtEnd.getLsbD c.val = false →
      0x10000000 ≤ s.f (Fld.DMA_CH_SRC_ADDR c) * 4 → s.f (Fld.DMA_CH_SRC_ADDR c) * 4 < 0x103F0000 →
      let i := s.f (Fld.DMA_CH_STAT_WIDX c)
      let a := s.f (Fld.DMA_CH_DST_ADDR c) * 4 + 4 * i
      let full := i + 1 = s.f (Fld.DMA_CH_LEN_LEN c)
      gives (.dmaBurstEnd cyc) s fun t =>
        t.memW a = s.memW (s.f (Fld.DMA_CH_SRC_ADDR c) * 4) ∧
        (∀ b, b < a ∨ a + 4 ≤ b → memGet t.mem b = memGet s.mem b) ∧ t.chk = s.chk ∧
        t.f (Fld.DMA_CH_STAT_BUSY c) = 0 ∧
        (full → t.bitOf .DMA_STATUS c.val = true) ∧
        (full → s.flag (Fld.DMA_CH_CTL_CIRC c) = true → t.f (Fld.DMA_CH_STAT_WIDX c) = 0 ∧ t.rd (.DMA_CH_CTL c) = s.rd (.DMA_CH_CTL c)) ∧
        (full → s.flag (Fld.DMA_CH_CTL_CIRC c) = false → t.f (Fld.DMA_CH_CTL_EN c) = 0) ∧
        (¬ full → t.f (Fld.DMA_CH_STAT_WIDX c) = (i + 1) % 2 ^ 16 ∧ t.rd (.DMA_CH_CTL c) = s.rd (.DMA_CH_CTL c)) ∧
        s.keeps t [.DMA_CH_CTL c, .DMA_CH_STAT c, .DMA_STATUS])

/-- GENERATOR_EVENT with a count at the head of an enabled generator's queue, three core cycles after its acceptance, one event a cycle,
latches the boundary location (the larger count) and the stamp, sets MOVING, DIR and LATCH_POS, clears CLAMPED, and measures the speed over
the last 2^SPD_N events of the same direction; a reversal or a first event has speed 0 and a reversal sets REV. A MAINS_REF crossing told to
a mains generator latches the zero or half-turn position at its tap; one within half an expected half period of the last is discarded.
STANDSTILL_TIMEOUT on a moving counted source sets STILL, clears MOVING, and the position holds from then on. HOLDOVER_ENTRY and MAINS_LOST
set their bit and IN_HOLD, clear MOVING and keep the speed. RAMP_SPEED_STEP moves the ramp speed towards its target by RAMP_ACC and sets
MOVING and DIR. EXTRAPOLATION_CLAMP of a forward source sets CLAMPED with the position one au short of the next boundary. An event that
reaches the outputs by a timeout's cycle is applied instead of it. Other generators are unchanged. (R52, R53, R54, R55, R56, R57, R58, R65,
R74, R66, R78, log entry 20). -/
def Obligations.GeneratorEventsAndTimeouts : Prop :=
  ∀ (s : State) (n : Fin 8), s.flag (Fld.MAN_AG_CTL_EN n) = true → 0 < s.f (Fld.MAN_AG_CPR_CPR n) → s.f (Fld.MAN_AG_CPR_CPR n) ≤ 2 ^ 24 →
    s.dsgRun = false →
    let g := s.gen n
    let counted := s.gSrc n = 1 ∨ s.gSrc n = 3 ∨ s.gSrc n = 4
    let cpr := s.f (Fld.MAN_AG_CPR_CPR n)
    let others (t : State) : Prop := ∀ m, m ≠ n → t.gen m = s.gen m
    let meets (cyc : Nat) : Prop := (g.inbox.head?.any fun e => max (e.2 + 3) (g.evAt + 1) ≤ cyc) = true
    (∀ delta st a rest, g.inbox = (.counts delta st, a) :: rest → delta ≠ 0 →
      gives (.generatorEvent ⟨n, none⟩) s fun t =>
        let d := if s.flag (Fld.MAN_AG_CTL_DIR_INV n) then -delta else delta
        let rev := (0 < d ∧ g.dir = -1) ∨ (d < 0 ∧ g.dir = 1)
        let pos := countPos cpr (if 0 < d then g.count + d else g.count + d + 1)
        let first := g.hist[min (2 ^ s.f (Fld.MAN_AG_CTL_SPD_N n)) g.hist.length - 1]?
        (t.gen n).count = g.count + d ∧ (t.gen n).pos = pos ∧ (t.gen n).stamp = st ∧ (t.gen n).inbox = rest ∧
        (t.gen n).evAt = max (a + 3) (g.evAt + 1) ∧ t.time = max s.time (t.gen n).evAt ∧
        t.rd (.MAN_AG_LATCH_POS n) = wordOfInt pos ∧ t.f (Fld.MAN_AG_STATUS_DIR n) = (if d < 0 then 1 else 0) ∧
        t.f (Fld.MAN_AG_STATUS_MOVING n) = 1 ∧ t.f (Fld.MAN_AG_STATUS_CLAMPED n) = 0 ∧
        (rev → t.f (Fld.MAN_AG_STATUS_REV n) = 1 ∧ (t.gen n).wn = 0) ∧
        (g.hist = [] → (t.gen n).wn = 0) ∧
        (g.dir = 1 ∨ g.dir = -1 ∨ g.dir = 0 → ¬ rev → ∀ p0 t0, first = some (p0, t0) → t0 < st →
          (t.gen n).wn = pos - p0 ∧ (t.gen n).wd = st - t0) ∧
        others t ∧ s.faultFrame t [0x4002, 0x4004, 0x4005]) ∧
    (g.inbox = [] → exec (.generatorEvent ⟨n, none⟩) s = .next s) ∧
    (∀ rising T, s.gSrc n = 7 → g.inbox = [] →
      (g.wn = 0 → gives (.generatorEvent ⟨n, some (rising, T)⟩) s fun t =>
        (t.gen n).stamp = T ∧ t.rd (.MAN_AG_LATCH_POS n) = (if rising then 0#32 else 0x80000000#32) ∧ (t.gen n).evAt = max (T / 16 + 3) (g.evAt + 1) ∧
        t.time = max s.time (max (T / 16) (t.gen n).evAt) ∧ others t ∧ s.faultFrame t [0x4002, 0x4004, 0x4005]) ∧
      (∀ h, halfPeriod g = some h → 0 < g.events → 2 * (T - g.stamp) < h → gives (.generatorEvent ⟨n, some (rising, T)⟩) s fun t =>
        (t.gen n).toGenRec = g.toGenRec ∧ others t ∧ s.keeps t [] ∧ s.keepsMem t)) ∧
    (counted → s.f (Fld.MAN_AG_TMO_STILL_TMO n) ≠ 0 → 0 < g.events → g.held = none →
      let due := g.stamp / 16 + s.f (Fld.MAN_AG_TMO_STILL_TMO n) * 6000 + 1
      (meets due → exec (.standstillTimeout n) s = .next s) ∧
      (¬ meets due → gives (.standstillTimeout n) s fun t =>
        t.time = max s.time due ∧
        t.f (Fld.MAN_AG_STATUS_STILL n) = 1 ∧ t.f (Fld.MAN_AG_STATUS_MOVING n) = 0 ∧
        (∀ c, genPos t n c = genPos s n t.time ∧ (genSpeed t n c).1 = 0) ∧ others t ∧
        s.keeps t [.MAN_AG_STATUS n] ∧ s.keepsMem t)) ∧
    (s.gSrc n = 2 ∨ s.gSrc n = 5 → s.f (Fld.MAN_AG_TMO_HOLD_TMO n) ≠ 0 → 0 < g.events → s.f (Fld.MAN_AG_STATUS_IN_HOLD n) = 0 →
      let due := g.stamp / 16 + s.f (Fld.MAN_AG_TMO_HOLD_TMO n) * 6000 + 1
      (meets due → exec (.holdoverEntry n) s = .next s) ∧
      (¬ meets due → gives (.holdoverEntry n) s fun t =>
        t.time = max s.time due ∧
        t.f (Fld.MAN_AG_STATUS_HOLDOVER n) = 1 ∧ t.f (Fld.MAN_AG_STATUS_IN_HOLD n) = 1 ∧ t.f (Fld.MAN_AG_STATUS_MOVING n) = 0 ∧
        (t.gen n).wn = g.wn ∧ (t.gen n).wd = g.wd ∧ t.flag Fld.SYS_STATUS_FAULT_NEW = true ∧ others t ∧
        s.faultFrame t [0x4002])) ∧
    (∀ h, s.gSrc n = 7 → halfPeriod g = some h → s.f (Fld.MAN_AG_STATUS_IN_HOLD n) = 0 →
      (meets ((g.stamp + 3 * h / 2) / 16 + 1) → exec (.mainsLost n) s = .next s) ∧
      (¬ meets ((g.stamp + 3 * h / 2) / 16 + 1) → gives (.mainsLost n) s fun t =>
        t.f (Fld.MAN_AG_STATUS_MAINS_LOST n) = 1 ∧ t.f (Fld.MAN_AG_STATUS_IN_HOLD n) = 1 ∧ t.f (Fld.MAN_AG_STATUS_MOVING n) = 0 ∧
        t.f (Fld.MAN_AG_STATUS_HOLDOVER n) = s.f (Fld.MAN_AG_STATUS_HOLDOVER n) ∧ (t.gen n).wn = g.wn ∧
        t.flag Fld.SYS_STATUS_FAULT_NEW = true ∧ others t ∧ s.faultFrame t [0x4002])) ∧
    (s.gSrc n = 6 → gives (.rampSpeedStep n) s fun t =>
      let tgt := (s.rd (.MAN_AG_RAMP_TGT n)).toInt
      let acc : Int := (s.rd (.MAN_AG_RAMP_ACC n)).toNat
      t.time = max s.time (g.rampCyc + 1024) ∧
      (t.gen n).rampV = (if g.rampV ≤ tgt then min tgt (g.rampV + acc) else max tgt (g.rampV - acc)) ∧
      (t.gen n).rampPos (g.rampCyc + 1024) = g.rampPos (g.rampCyc + 1024) ∧
      t.f (Fld.MAN_AG_STATUS_MOVING n) = (if (t.gen n).rampV = 0 then 0 else 1) ∧ others t ∧
      s.keeps t [.MAN_AG_STATUS n] ∧ s.keepsMem t) ∧
    (counted → g.held = none → 0 < g.wn → 0 < g.wd → g.dir = 1 →
      let due := (g.stamp + ((2 ^ 32 / cpr) * g.wd + g.wn.natAbs - 1) / g.wn.natAbs + 15) / 16
      (meets due → exec (.extrapolationClamp n) s = .next s) ∧
      (¬ meets due → gives (.extrapolationClamp n) s fun t =>
      t.f (Fld.MAN_AG_STATUS_CLAMPED n) = 1 ∧ genPos t n t.time = g.pos + (2 ^ 32 / cpr : Nat) - 1 ∧
      t.man = s.man ∧ s.keeps t [.MAN_AG_STATUS n] ∧ s.keepsMem t))

/-- GENERATOR_CTL_WRITE that enables a generator sets EN with TURNS reading 0, and SRC before the lock (a reserved SRC leaves it); one that
disables an enabled generator discards an event of the write's core cycle, holds its output, keeps SRC, SRC_CH and DIR_INV and sets WR_IGN
exactly if it would have changed them. GEAR_NUM_WRITE of a value other than 0 stores it, and on an enabled generator the geared output does
not step in the next core cycle; a write of 0 changes nothing. EOFS_WRITE of another value steps the electrical angle by the change, as a
jump of the electrical and not the mechanical angle; JUMP and JUMP_LAST change exactly if the step is beyond JUMP_TH x PP. ELEC_READ answers
the electrical angle and captures MECH, SPEED, TURNS and TSNAP of the same core cycle; LATCH_POS_READ answers LATCH_POS and captures
LATCH_T. Events that have reached the outputs by the core cycle are applied first. Nothing else changes, but for what an offset step does to
running patterns. (R62, R63, R64, R76, R77, R78, R529). -/
def Obligations.GeneratorWritesAndSnapshots : Prop :=
  ∀ (s : State) (n : Fin 8), 0 < s.f (Fld.MAN_AG_GEAR_DEN_DEN n) → 0 < s.f (Fld.MAN_AG_CPR_CPR n) →
    let others (t : State) : Prop := ∀ m, m ≠ n → t.gen m = s.gen m
    let src (v : Word) : Nat := if wGet v 1 4 < 8 then wGet v 1 4 else s.gSrc n
    let othersOf (s t : State) : Prop := ∀ m, m ≠ n → t.gen m = s.gen m
    (∀ c, (s.gen n).inbox = [] → genSettle n c s = s) ∧
    ((s.gen n).inbox = [] → (∀ w, (s.gen n).undo = some w → w.cyc ≠ s.time) → genDiscard n s = s) ∧
    (∀ w, (s.gen n).inbox = [] → (s.gen n).undo = some w → w.cyc = s.time →
      ((genDiscard n s).gen n).toGenRec = w.was ∧ (genDiscard n s).rd (.MAN_AG_STATUS n) = w.status ∧
      (genDiscard n s).rd (.MAN_AG_LATCH_POS n) = w.latch ∧ (genDiscard n s).rd (.MAN_AG_JUMP_LAST n) = w.jump) ∧
    (∀ v : Word, s.flag (Fld.MAN_AG_CTL_EN n) = false → v.getLsbD 0 = true → writes (.generatorCtlWrite n v) s fun s t =>
      t.flag (Fld.MAN_AG_CTL_EN n) = true ∧ t.f (Fld.MAN_AG_CTL_SPD_N n) = wGet v 9 3 ∧
      (s.locked = false → t.gSrc n = src v) ∧ (s.locked = true → t.gSrc n = s.gSrc n) ∧
      genTurns t n t.time = 0#32 ∧ (genSpeed t n t.time).1 = 0 ∧ others t ∧ s.keeps t [.MAN_AG_CTL n] ∧ s.keepsMem t) ∧
    (∀ v : Word, s.flag (Fld.MAN_AG_CTL_EN n) = true → v.getLsbD 0 = false → writes (.generatorCtlWrite n v) s fun s t =>
      let cyc := if (s.gen n).evAt = s.time ∨ genMeets s n s.time = true then s.time - 1 else s.time
      let u := genDiscard n s
      t.flag (Fld.MAN_AG_CTL_EN n) = false ∧ wGet (t.rd (.MAN_AG_CTL n)) 1 8 = wGet (s.rd (.MAN_AG_CTL n)) 1 8 ∧
      t.f (Fld.MAN_AG_STATUS_WR_IGN n) = (if s.locked = false ∧ (src v ≠ s.gSrc n ∨ wGet v 5 4 ≠ wGet (s.rd (.MAN_AG_CTL n)) 5 4) then 1
        else u.f (Fld.MAN_AG_STATUS_WR_IGN n)) ∧
      (∀ c, genMech t n c = genOut u n false cyc ∧ (genSpeed t n c).1 = 0) ∧ t.f (Fld.MAN_AG_STATUS_MOVING n) = 0 ∧
      othersOf u t ∧ u.keeps t [.MAN_AG_CTL n, .MAN_AG_STATUS n] ∧ u.keepsMem t) ∧
    (∀ v : Word, v ≠ 0#32 → writes (.gearNumWrite n v) s fun s t =>
      let u := if s.flag (Fld.MAN_AG_CTL_EN n) then genSettle n s.time s else s
      t.rd (.MAN_AG_GEAR_NUM n) = v ∧
      (s.flag (Fld.MAN_AG_CTL_EN n) = true →
        t.time = s.time + 1 ∧ genMech t n t.time = genMech u n t.time ∧ (t.gen n).num = v.toNat ∧
        (t.gen n).jumpM = ((u.gen n).chg == t.time && (u.gen n).jumpM)) ∧
      othersOf u t ∧ u.keeps t [.MAN_AG_GEAR_NUM n] ∧ u.keepsMem t) ∧
    exec (.gearNumWrite n 0#32) s = .next (s.turned s.atWrite) ∧
    exec (.eofsWrite n (s.rd (.MAN_AG_EOFS n))) s = .next (s.turned s.atWrite) ∧
    (∀ v : Word, v ≠ s.rd (.MAN_AG_EOFS n) → s.dsgRun = false → writes (.eofsWrite n v) s fun s t =>
      let u := genSettle n s.time s
      let step := (v - s.rd (.MAN_AG_EOFS n)).toInt
      let pp := s.f (Fld.MAN_AG_PP_PP n)
      let jump := s.f (Fld.MAN_AG_JUMP_TH_TH n) * pp < step.natAbs
      t.rd (.MAN_AG_EOFS n) = v ∧ t.time = s.time + 1 ∧
      wordOfInt (genElec t n t.time) = wordOfInt (genElec u n t.time) + (v - s.rd (.MAN_AG_EOFS n)) ∧
      (∀ c, genMech t n c = genMech u n c) ∧
      (t.gen n).jumpE = true ∧ (t.gen n).jumpM = ((u.gen n).chg == t.time && (u.gen n).jumpM) ∧
      t.f (Fld.MAN_AG_STATUS_JUMP n) = (if jump then 1 else u.f (Fld.MAN_AG_STATUS_JUMP n)) ∧
      t.rd (.MAN_AG_JUMP_LAST n) = (if jump then wordOfInt (Int.tdiv step pp) else u.rd (.MAN_AG_JUMP_LAST n)) ∧
      othersOf u t ∧ s.faultFrame t [0x4002, 0x4004, 0x4005]) ∧
    (gives (.elecRead n) s fun t =>
      let u := genSettle n s.time s
      t.rdata = wordOfInt (genElec u n s.time) ∧ t.rd (.MAN_AG_MECH n) = wordOfInt (genMech u n s.time) ∧
      t.rd (.MAN_AG_SPEED n) = genSpeedReg u n s.time ∧ t.rd (.MAN_AG_TURNS n) = genTurns u n s.time ∧
      t.rd (.MAN_AG_TSNAP n) = BitVec.ofNat 32 s.time ∧
      u.onlyRegs { t with rdata := s.rdata } [.MAN_AG_MECH n, .MAN_AG_SPEED n, .MAN_AG_TURNS n, .MAN_AG_TSNAP n]) ∧
    (gives (.latchPosRead n) s fun t =>
      t.rdata = s.rd (.MAN_AG_LATCH_POS n) ∧ t.rd (.MAN_AG_LATCH_T n) = BitVec.ofNat 32 (s.gen n).latchT ∧
      s.onlyRegs { t with rdata := s.rdata } [.MAN_AG_LATCH_T n])

/-- MARK_CROSSING in a core cycle in which the followed angle crosses an enabled mark that is armed for that direction: the mark is disarmed
for the direction, and unless the crossing is a jump with JUMP_SUPP = 1 its FIRED bit is set and MAN_AMm_TS takes the crossing time; a jump
also sets the JUMPED bit. A mark that is not armed for the direction does not change. MARK_ARMING arms a direction whose condition of R68
holds in the core cycle. MARK_CTL_WRITE that enables the mark or changes AG, DOMAIN or DIR leaves it disarmed, and otherwise keeps its
arming; MARK_ANGLE_WRITE stores ANGLE and disarms an enabled mark whose ANGLE it changes; a crossing in the core cycle of a write comes
before it. Other marks' arming is unchanged. (R67, R68, R69, R70, R71, R72, R76, R78). -/
def Obligations.AngleMarks : Prop :=
  ∀ (s : State) (m : Fin 64),
    let half : Fin 2 := ⟨m.val / 32, by omega⟩
    let arm := s.f (Fld.MAN_AM_CTL_ARM m)
    ((s.gen (markAg s m)).inbox = [] → markCross s m s.time = 0 → markFirst m s = s) ∧
    (∀ (cyc : Nat) (b : Nat), s.flag (Fld.MAN_AM_CTL_EN m) = true → s.time ≤ cyc + 1 →
      let u := genSettle (markAg s m) cyc s
      (u.gen (markAg s m)).chg ≤ cyc → (markCross u m cyc = 1 ∧ b = 1) ∨ (markCross u m cyc = -1 ∧ b = 2) →
      (arm / b % 2 = 1 → gives (.markCrossing m cyc) s fun t =>
        let jump := markJump u m cyc = true
        let drop := jump ∧ s.flag (Fld.MAN_AM_CTL_JUMP_SUPP m) = true
        t.time = (if drop then max s.time cyc else cyc + 1) ∧ t.f (Fld.MAN_AM_CTL_ARM m) = arm - b ∧
        (¬ drop → t.bitOf (.MAN_AM_FIRED half) (m.val % 32) = true ∧ t.rd (.MAN_AM_TS m) = stampWord (markTime u m cyc) ∧
          t.bitOf (.MAN_AM_JUMPED half) (m.val % 32) = (decide jump || s.bitOf (.MAN_AM_JUMPED half) (m.val % 32))) ∧
        (drop → u.keeps t [.MAN_AM_CTL m] ∧ u.keepsMem t) ∧
        (∀ m', m' ≠ m → t.rd (.MAN_AM_CTL m') = s.rd (.MAN_AM_CTL m') ∧ t.rd (.MAN_AM_TS m') = s.rd (.MAN_AM_TS m')) ∧ t.man = u.man) ∧
      (arm / b % 2 = 0 → exec (.markCrossing m cyc) s = .next u)) ∧
    (∀ cyc : Nat, s.flag (Fld.MAN_AM_CTL_EN m) = true → s.genOn (markAg s m) = true → s.time ≤ cyc + 1 →
      let u := genSettle (markAg s m) cyc s
      (u.gen (markAg s m)).chg ≤ cyc → gives (.markArming m cyc) s fun t =>
        let d := sAng (markOut u m cyc - s.f (Fld.MAN_AM_ANGLE_ANGLE m))
        let h : Int := s.f (Fld.MAN_AM_HYST_HYST m)
        let dir := s.f (Fld.MAN_AM_CTL_DIR m)
        (t.f (Fld.MAN_AM_CTL_ARM m) % 2 = 1 ↔ arm % 2 = 1 ∨ (dir ≠ 1 ∧ d < -h)) ∧
        (t.f (Fld.MAN_AM_CTL_ARM m) / 2 = 1 ↔ arm / 2 = 1 ∨ (dir ≠ 0 ∧ h ≤ d)) ∧
        t.time = max s.time cyc ∧ u.keeps t [.MAN_AM_CTL m] ∧ u.keepsMem t) ∧
    (∀ v : Word, wGet v 5 2 ≠ 3 → writes (.markCtlWrite m v) s fun s t =>
      let u := markFirst m s
      wGet (t.rd (.MAN_AM_CTL m)) 0 8 = wGet v 0 8 ∧
      t.f (Fld.MAN_AM_CTL_ARM m) =
        (if wGet v 0 1 = 1 ∧ s.flag (Fld.MAN_AM_CTL_EN m) = true ∧ wGet v 1 6 = wGet (s.rd (.MAN_AM_CTL m)) 1 6 then u.f (Fld.MAN_AM_CTL_ARM m) else 0) ∧
      u.onlyRegs t [.MAN_AM_CTL m]) ∧
    (∀ v : Word, writes (.markAngleWrite m v) s fun s t =>
      let u := markFirst m s
      t.rd (.MAN_AM_ANGLE m) = v ∧
      t.f (Fld.MAN_AM_CTL_ARM m) = (if s.flag (Fld.MAN_AM_CTL_EN m) = true ∧ v ≠ s.rd (.MAN_AM_ANGLE m) then 0 else u.f (Fld.MAN_AM_CTL_ARM m)) ∧
      u.onlyRegs t [.MAN_AM_ANGLE m, .MAN_AM_CTL m])

/-- A transition of one input of an enabled channel at tap T is accepted after L filter samples and taken two core cycles after the last of
them (without prescaling T / 16 + L + 2), and not before; a pulse that ends before its L-th sample is never taken. QUADRATURE_COUNT of one
step forward or back then moves CNT by one modulo MOD, counts a wrap in TURNS, sets DIR and hands one event with stamp T to each generator
on the channel unless it has failed; both lines changing raises DS_CNT and DS and with DS_POL 0 leaves the count, with DS_POL 1 moves it two
on. INDEX_EVENT of a rising Z sets IDX_EV and IDX_T; in OFF mode that is all; in ONCE mode it homes the count; else it finds a match, which
clears RUN, or a mismatch, which records D and RAW, raises IDX_MISM, RUN and IDX_MISS and fails the channel once RUN exceeds IDX_LIM; ALWAYS
corrects the count, IDX_POL 0 leaves it. HALL_CHANGE follows a neighbouring sector, marks a skipped one, and fails on 0b000 and 0b111.
LINE_LOSS sets LOS and FAILED. Other channels are unchanged. (R81, R82, R83, R84, R85, R88, R89, R90, R91, R92, R102, log entry 39). -/
def Obligations.IncrementalChannels : Prop :=
  ∀ (s : State) (n : Fin 8), s.flag (Fld.FBK_QE_CTL_EN n) = true → s.f (Fld.FBK_QE_CNT_CNT n) < s.f (Fld.FBK_QE_MOD_MOD n) →
    s.dsgRun = false →
    let cnt := s.f (Fld.FBK_QE_CNT_CNT n)
    let md := s.f (Fld.FBK_QE_MOD_MOD n)
    let in_ := s.f (Fld.FBK_QE_STATUS_IN n)
    let qe : List Reg := [.FBK_QE_CNT n, .FBK_QE_TURNS n, .FBK_QE_STATUS n]
    let settled := ∀ l : Fin 3, (s.fbk.qe[n].line[l]).seen = (s.fbk.qe[n].line[l]).raw ∧
      (s.fbk.qe[n].line[l]).out = (s.fbk.qe[n].line[l]).raw ∧ (s.fbk.qe[n].line[l]).raw = in_.testBit l.val
    let quiet := s.fbk.qe[n].acc = [] ∧ settled
    let due (l : Fin 3) (T : Nat) : Nat :=
      nextSample (qeFilter s n l).2 (Config.filterPhase (2 * n.val + l.val / 2)) (T / 16 + 1) + ((qeFilter s n l).1 - 1) * (qeFilter s n l).2 + 2
    let told (t : State) (src : Nat) (e : GenEv) (cyc : Nat) : Prop := ∀ m, (t.gen m).inbox = (s.gen m).inbox ++
      (if s.flag (Fld.FBK_QE_STATUS_FAILED n) = false ∧ s.flag (Fld.MAN_AG_CTL_EN m) = true ∧ s.gSrc m = src ∧
        s.f (Fld.MAN_AG_CTL_SRC_CH m) = n.val then [(e, max s.time cyc)] else [])
    let ungated := s.flag (Fld.FBK_QE_IDX_CTL_ZGATE n) = false
    let pin (b : Bool) (l : List (Bool × Nat)) (cyc : Nat) : Instr := .quadratureCount n (if b then [] else l) (if b then l else []) cyc
    (∀ T, (s.f (Fld.FBK_QE_FILT_AB_PRE n) = 0 → due 0 T = T / 16 + (s.f (Fld.FBK_QE_FILT_AB_N n) + 1) + 2 ∧ due 1 T = due 0 T) ∧
      (s.f (Fld.FBK_QE_FILT_Z_PRE n) = 0 → due 2 T = T / 16 + (s.f (Fld.FBK_QE_FILT_Z_N n) + 1) + 2)) ∧
    (∀ (b v : Bool) (T cyc : Nat), s.f (Fld.FBK_QE_CTL_MODE n) = 0 → quiet →
      let l : Fin 3 := if b then 1 else 0
      in_.testBit l.val = !v →
      (cyc < due l T → gives (pin b [(v, T)] cyc) s fun t =>
        t.time = max s.time cyc ∧ t.man = s.man ∧ s.keeps t [] ∧ s.keepsMem t) ∧
      (∀ T', T ≤ T' → T' / 16 < T / 16 + (qeFilter s n l).1 → (qeFilter s n l).2 = 1 →
        gives (pin b [(v, T), (!v, T')] cyc) s fun t => t.time = max s.time cyc ∧ t.man = s.man ∧ s.keeps t [] ∧ s.keepsMem t) ∧
      (due l T ≤ cyc → ungated → gives (pin b [(v, T)] cyc) s fun t =>
        let up := (quadPlace (if b then in_.testBit 0 else v) (if b then v else in_.testBit 1) + 4 -
          quadPlace (in_.testBit 0) (in_.testBit 1)) % 4 = 1
        t.f (Fld.FBK_QE_CNT_CNT n) = (if up then (if cnt + 1 = md then 0 else cnt + 1) else if cnt = 0 then md - 1 else cnt - 1) ∧
        t.rd (.FBK_QE_TURNS n) = s.rd (.FBK_QE_TURNS n) + (if up ∧ cnt + 1 = md then 1#32 else 0#32) - (if ¬ up ∧ cnt = 0 then 1#32 else 0#32) ∧
        t.f (Fld.FBK_QE_STATUS_DIR n) = (if up then 0 else 1) ∧ (t.f (Fld.FBK_QE_STATUS_IN n)).testBit l.val = v ∧
        told t 1 (.counts (if up then 1 else -1) T) (due l T) ∧ t.time = max s.time cyc ∧ s.keeps t qe ∧ s.keepsMem t)) ∧
    (∀ (T T' cyc : Nat), s.f (Fld.FBK_QE_CTL_MODE n) = 0 → quiet → ungated → T / 16 = T' / 16 → due 0 T ≤ cyc →
      gives (.quadratureCount n [(!in_.testBit 0, T)] [(!in_.testBit 1, T')] cyc) s fun t =>
        t.f (Fld.FBK_QE_ERRCNT_DS_CNT n) = min 65535 (s.f (Fld.FBK_QE_ERRCNT_DS_CNT n) + 1) ∧ t.f (Fld.FBK_QE_STATUS_DS n) = 1 ∧
        (s.flag (Fld.FBK_QE_CTL_DS_POL n) = false ∨ s.fbk.qe[n].lastUp = none → t.f (Fld.FBK_QE_CNT_CNT n) = cnt) ∧
        (∀ up, s.flag (Fld.FBK_QE_CTL_DS_POL n) = true → s.fbk.qe[n].lastUp = some up →
          (t.f (Fld.FBK_QE_CNT_CNT n) : Int) = ((cnt : Int) + (if up then 2 else -2)) % (md : Int) ∧
          told t 1 (.counts (if up then 2 else -2) (max T T')) (due 0 T)) ∧
        (t.f (Fld.FBK_QE_ERRCNT_DS_CNT n) = s.f (Fld.FBK_QE_ERRLIM_DS_LIM n) →
          t.f (Fld.FBK_QE_STATUS_DS_LIMIT n) = 1 ∧ t.f (Fld.FBK_QE_STATUS_FAILED n) = 1) ∧
        s.faultFrame t [0x4002, 0x4003]) ∧
    (∀ (T cyc : Nat), s.f (Fld.FBK_QE_CTL_MODE n) = 0 → quiet → ungated → in_.testBit 2 = false →
      let d := qeDiff s n
      let mode := s.f (Fld.FBK_QE_IDX_CTL_IDX_MODE n)
      let homed := s.flag (Fld.FBK_QE_STATUS_HOMED n) = true
      let tol := s.f (Fld.FBK_QE_IDX_CTL_IDX_TOL n)
      let set_ := s.f (Fld.FBK_QE_IDX_CNT_IDX_CNT n)
      let judged := mode = 1 ∨ (mode = 2 ∧ homed)
      (-(md / 2 : Nat) ≤ d ∧ d < ((md + 1) / 2 : Nat) ∧ (d - (cnt - set_)) % (md : Int) = 0) ∧
      (cyc < due 2 T → gives (.indexEvent n [(true, T)] cyc) s fun t =>
        t.time = max s.time cyc ∧ t.man = s.man ∧ s.keeps t [] ∧ s.keepsMem t) ∧
      (due 2 T ≤ cyc → gives (.indexEvent n [(true, T)] cyc) s fun t =>
        t.f (Fld.FBK_QE_STATUS_IDX_EV n) = 1 ∧ t.rd (.FBK_QE_IDX_T n) = BitVec.ofNat 32 T ∧ t.time = max s.time cyc ∧
        (mode = 0 → s.keeps t [.FBK_QE_STATUS n, .FBK_QE_IDX_T n] ∧ s.keepsMem t ∧ t.man = s.man) ∧
        (mode = 2 → ¬ homed → t.f (Fld.FBK_QE_STATUS_HOMED n) = 1 ∧ (set_ < md → t.f (Fld.FBK_QE_CNT_CNT n) = set_) ∧
          t.f (Fld.FBK_QE_IDX_STAT_RUN n) = s.f (Fld.FBK_QE_IDX_STAT_RUN n)) ∧
        (judged → d.natAbs ≤ tol → t.f (Fld.FBK_QE_IDX_STAT_RUN n) = 0 ∧ (mode = 2 → t.f (Fld.FBK_QE_CNT_CNT n) = cnt)) ∧
        (mode = 1 → set_ < md → t.f (Fld.FBK_QE_CNT_CNT n) = set_ ∧ (d ≠ 0 → told t 1 (.index (-d) T) (due 2 T))) ∧
        (judged → tol < d.natAbs →
          t.rd (.FBK_QE_IDX_DIFF n) = BitVec.ofInt 32 d ∧ t.f (Fld.FBK_QE_IDX_STAT_RAW n) = cnt ∧
          (mode = 2 → s.flag (Fld.FBK_QE_IDX_CTL_IDX_POL n) = false → t.f (Fld.FBK_QE_CNT_CNT n) = cnt) ∧
          t.f (Fld.FBK_QE_STATUS_IDX_MISM n) = 1 ∧ t.f (Fld.FBK_QE_IDX_STAT_RUN n) = min 31 (s.f (Fld.FBK_QE_IDX_STAT_RUN n) + 1) ∧
          t.f (Fld.FBK_QE_ERRCNT_IDX_MISS n) = min 65535 (s.f (Fld.FBK_QE_ERRCNT_IDX_MISS n) + 1) ∧
          (s.f (Fld.FBK_QE_IDX_CTL_IDX_LIM n) < s.f (Fld.FBK_QE_IDX_STAT_RUN n) + 1 →
            t.f (Fld.FBK_QE_STATUS_IDX_LIMIT n) = 1 ∧ t.f (Fld.FBK_QE_STATUS_FAILED n) = 1)) ∧
        s.faultFrame t [0x4003])) ∧
    (∀ (w : BitVec 3) (edges : List (Fin 3 × Bool × Nat)) (x st cyc : Nat), s.f (Fld.FBK_QE_CTL_MODE n) = 1 → md = 6 → settled → x ≤ cyc →
      (s.fbk.qe[n].acc = [⟨x, 0, w.getLsbD 0, st⟩, ⟨x, 1, w.getLsbD 1, st⟩, ⟨x, 2, w.getLsbD 2, st⟩] ∧ edges = []) ∨
      (quiet ∧ ∃ l : Fin 3, edges = [(l, !in_.testBit l.val, st)] ∧ x = due l st ∧ w.toNat = in_ ^^^ (1 <<< l.val)) →
      gives (.hallChange n edges cyc) s fun t =>
        t.f (Fld.FBK_QE_STATUS_IN n) = w.toNat ∧ t.time = max s.time cyc ∧
        (w = 0#3 ∨ w = 7#3 → t.f (Fld.FBK_QE_CNT_CNT n) = cnt ∧ t.f (Fld.FBK_QE_STATUS_HALL_INV n) = 1 ∧ t.f (Fld.FBK_QE_STATUS_FAILED n) = 1) ∧
        (∀ k, hallSector w.toNat = some k →
          t.f (Fld.FBK_QE_CNT_CNT n) = k ∧
          (k = (cnt + 1) % 6 → told t 3 (.counts 1 st) x) ∧ (k = (cnt + 5) % 6 → told t 3 (.counts (-1) st) x) ∧
          (k ≠ cnt → k ≠ (cnt + 1) % 6 → k ≠ (cnt + 5) % 6 → t.f (Fld.FBK_QE_STATUS_HALL_SKIP n) = 1)) ∧
        s.faultFrame t [0x4003]) ∧
    (∀ line : Fin 3, s.f (Fld.FBK_QE_CTL_MODE n) = 0 →
      let used := line ≠ 2 ∨ s.f (Fld.FBK_QE_IDX_CTL_IDX_MODE n) ≠ 0 ∨ ¬ ungated
      (used → gives (.lineLoss n line) s fun t =>
        t.f (Fld.FBK_QE_STATUS_LOS n) = 1 ∧ t.f (Fld.FBK_QE_STATUS_FAILED n) = 1 ∧ t.rd (.FBK_QE_CNT n) = s.rd (.FBK_QE_CNT n) ∧
        s.faultFrame t [0x4003]) ∧
      (¬ used → exec (.lineLoss n line) s = .next s))

/-- INDEX_ARM clears HOMED. CLEAR_DOUBLE_STEPS clears DS_CNT and CLEAR_INDEX_MISSES clears IDX_MISS and RUN. CAPTURE_SWTRG puts a trigger,
with its core cycle as the time, before a channel whose TRG is 6. CAPTURE takes the oldest trigger of the channel in the core cycle in which
it arrives: the count, the low 8 bits of TURNS and the trigger's time are stored and CAP is set, with CAP_OVR if CAP was set. QE_CTL_WRITE
that enables the channel clears FAILED, HOMED, RUN and the sticky bits, and fails a Hall channel whose state is no sector; on an enabled
channel MODE keeps its value, and before the lock a write of another, defined MODE sets WR_IGN. Each acts on the channel with the counts and
index events of its core cycle applied (EN: of the cycles before); with the inputs settled there are none. Nothing else changes. (R86, R90,
R91, R100, R101, R102, R105, R106, R107). -/
def Obligations.FeedbackWritesAndCaptures : Prop :=
  ∀ (s : State) (n : Fin 8),
    (∀ c, s.fbk.qe[n].acc = [] → (∀ l : Fin 3, (s.fbk.qe[n].line[l]).seen = (s.fbk.qe[n].line[l]).raw ∧
      (s.fbk.qe[n].line[l]).out = (s.fbk.qe[n].line[l]).raw) → qeSettle n c s = s) ∧
    (writes (.indexArm n) s fun s t =>
      let u := qeSettle n s.time s
      t.f (Fld.FBK_QE_STATUS_HOMED n) = 0 ∧ t.rd (.FBK_QE_STATUS n) = u.rd (.FBK_QE_STATUS n) &&& ~~~(1#32 <<< 17) ∧
      u.onlyRegs t [.FBK_QE_STATUS n]) ∧
    (writes (.clearDoubleSteps n) s fun s t =>
      let u := qeSettle n s.time s
      t.f (Fld.FBK_QE_ERRCNT_DS_CNT n) = 0 ∧
      t.f (Fld.FBK_QE_ERRCNT_IDX_MISS n) = u.f (Fld.FBK_QE_ERRCNT_IDX_MISS n) ∧ u.onlyRegs t [.FBK_QE_ERRCNT n]) ∧
    (writes (.clearIndexMisses n) s fun s t =>
      let u := qeSettle n s.time s
      t.f (Fld.FBK_QE_ERRCNT_IDX_MISS n) = 0 ∧ t.f (Fld.FBK_QE_IDX_STAT_RUN n) = 0 ∧
      t.f (Fld.FBK_QE_ERRCNT_DS_CNT n) = u.f (Fld.FBK_QE_ERRCNT_DS_CNT n) ∧
      t.f (Fld.FBK_QE_IDX_STAT_RAW n) = u.f (Fld.FBK_QE_IDX_STAT_RAW n) ∧ u.onlyRegs t [.FBK_QE_ERRCNT n, .FBK_QE_IDX_STAT n]) ∧
    (writes (.captureSwtrg n) s fun s t =>
      t = (if s.f (Fld.FBK_QE_CAP_CTL_TRG n) = 6 then
        { s with post := { s.post with cap := s.post.cap ++ [(n.val, s.time * 16, s.time + 1)] } } else s)) ∧
    (∀ before at_ cyc rest, s.post.cap = before ++ (n.val, at_, cyc) :: rest → (∀ e ∈ before, e.1 ≠ n.val) → gives (.capture n) s fun t =>
      let u := qeSettle n cyc s
      t.post.cap = before ++ rest ∧ t.time = max u.time cyc ∧
      t.rd (.FBK_QE_CAP_CNT n) = BitVec.ofNat 32 (u.f (Fld.FBK_QE_CNT_CNT n) + 2 ^ 24 * wGet (u.rd (.FBK_QE_TURNS n)) 0 8) ∧
      t.rd (.FBK_QE_CAP_T n) = BitVec.ofNat 32 at_ ∧ t.flag (Fld.FBK_QE_STATUS_CAP n) = true ∧
      t.flag (Fld.FBK_QE_STATUS_CAP_OVR n) = (u.flag (Fld.FBK_QE_STATUS_CAP n) || u.flag (Fld.FBK_QE_STATUS_CAP_OVR n)) ∧
      u.keeps t [.FBK_QE_CAP_CNT n, .FBK_QE_CAP_T n, .FBK_QE_STATUS n] ∧ u.keepsMem t ∧ t.man = u.man) ∧
    (∀ v : Word, s.flag (Fld.FBK_QE_CTL_EN n) = false → v.getLsbD 0 = true → writes (.qeCtlWrite n v) s fun s t =>
      let u := qeSettle n (s.time - 1) s
      let lost := t.f (Fld.FBK_QE_CTL_MODE n) = 1 ∧ hallSector (u.f (Fld.FBK_QE_STATUS_IN n)) = none
      t.flag (Fld.FBK_QE_CTL_EN n) = true ∧ t.f (Fld.FBK_QE_STATUS_HOMED n) = 0 ∧ t.f (Fld.FBK_QE_IDX_STAT_RUN n) = 0 ∧
      t.rd (.FBK_QE_TURNS n) = 0#32 ∧
      (¬ lost → wGet (t.rd (.FBK_QE_STATUS n)) 0 11 = 0 ∧ t.f (Fld.FBK_QE_STATUS_FAILED n) = 0 ∧
        u.keeps t [.FBK_QE_CTL n, .FBK_QE_STATUS n, .FBK_QE_IDX_STAT n, .FBK_QE_TURNS n, .FBK_QE_CNT n] ∧ u.keepsMem t) ∧
      (lost → t.f (Fld.FBK_QE_STATUS_HALL_INV n) = 1 ∧ t.f (Fld.FBK_QE_STATUS_FAILED n) = 1 ∧
        (s.dsgRun = false → u.faultFrame t [0x4003]))) ∧
    (∀ v : Word, s.flag (Fld.FBK_QE_CTL_EN n) = true → writes (.qeCtlWrite n v) s fun s t =>
      let u := qeSettle n (s.time - 1) s
      t.f (Fld.FBK_QE_CTL_MODE n) = s.f (Fld.FBK_QE_CTL_MODE n) ∧ t.flag (Fld.FBK_QE_CTL_EN n) = v.getLsbD 0 ∧
      t.flag (Fld.FBK_QE_CTL_DS_POL n) = v.getLsbD 5 ∧
      (s.locked = false → wGet v 1 2 < 2 → wGet v 1 2 ≠ s.f (Fld.FBK_QE_CTL_MODE n) → t.flag (Fld.FBK_QE_STATUS_WR_IGN n) = true) ∧
      (wGet v 1 2 = s.f (Fld.FBK_QE_CTL_MODE n) → t.rd (.FBK_QE_STATUS n) = u.rd (.FBK_QE_STATUS n)) ∧
      u.onlyRegs t [.FBK_QE_CTL n, .FBK_QE_STATUS n])

/-- SSI_CTL_WRITE that enables a channel with a defined layout clears FAILED, ERUN, the sticky bits and FRAMES; with a reserved layout it
sets WR_IGN and nothing else; a write of EN = 0 during a burst ends the burst. SSI_SWTRG puts a trigger before an enabled channel whose TRG
is 6. SSI_BURST_START of a waiting trigger starts a burst, with BUSY set, of an idle channel or one whose last sample is taken and whose
pause is over, and otherwise only sets TRG_LOST; with TRG 5 the trigger comes at a multiple of PERIOD after EN. SSI_FRAME_COMPLETE, two core
cycles after the last sample of the oldest burst, of a frame without error stores ST, sets FRAME, advances FRAMES, clears ERUN and passes
the single-turn value with the stamp t0 + LDC / 2 + LAT_OFS to the generators on the channel; a frame with an error changes none of these
but ERUN, sets the sticky bit of its cause, and at ELIM fails the channel. SSI_PAUSE_END clears BUSY once no frame is outstanding. (R93,
R94, R95, R96, R97, R98, R99, R101, R102, R105, R106). -/
def Obligations.SsiChannels : Prop :=
  ∀ (s : State) (n : Fin 4), s.dsgRun = false →
    let c := s.fbk.ssi[n]
    (∀ v : Word, s.flag (Fld.FBK_SSI_CTL_EN n) = false → v.getLsbD 0 = true → s.locked = true →
      let bad := s.f (Fld.FBK_SSI_FRAME_FLEN n) < s.f (Fld.FBK_SSI_FRAME_POS_SH n) + s.f (Fld.FBK_SSI_FRAME_MT_BITS n) +
        s.f (Fld.FBK_SSI_FRAME_ST_BITS n) + (if s.f (Fld.FBK_SSI_CTL_PAR n) = 0 then 0 else 1)
      (bad → writes (.ssiCtlWrite n v) s fun s t => t.flag (Fld.FBK_SSI_STATUS_WR_IGN n) = true ∧ s.onlyRegs t [.FBK_SSI_STATUS n]) ∧
      (¬ bad → writes (.ssiCtlWrite n v) s fun s t =>
        t.flag (Fld.FBK_SSI_CTL_EN n) = true ∧ wGet (t.rd (.FBK_SSI_STATUS n)) 0 7 = 0 ∧ t.f (Fld.FBK_SSI_STATUS_FAILED n) = 0 ∧
        t.f (Fld.FBK_SSI_STATUS_ERUN n) = 0 ∧ t.rd (.FBK_SSI_FRAMES n) = 0#32 ∧
        t.post.ssi = s.post.ssi.filter (·.1 != n.val) ∧ t.fbk.ssi[n].org = s.time ∧
        s.keeps t [.FBK_SSI_CTL n, .FBK_SSI_STATUS n, .FBK_SSI_FRAMES n] ∧ s.keepsMem t)) ∧
    (∀ v : Word, s.flag (Fld.FBK_SSI_CTL_EN n) = true → v.getLsbD 0 = false → c.frames ≠ [] → writes (.ssiCtlWrite n v) s fun s t =>
      t.flag (Fld.FBK_SSI_CTL_EN n) = false ∧ t.fbk.ssi[n].frames = [] ∧ t.f (Fld.FBK_SSI_STATUS_ERUN n) = s.f (Fld.FBK_SSI_STATUS_ERUN n) ∧
      ssiClock t n s.time = true ∧
      s.keeps t [.FBK_SSI_CTL n, .FBK_SSI_STATUS n] ∧ s.keepsMem t) ∧
    (writes (.ssiSwtrg n) s fun s t => t = (if s.flag (Fld.FBK_SSI_CTL_EN n) = true ∧ s.f (Fld.FBK_SSI_CTL_TRG n) = 6 then
      { s with post := { s.post with ssi := s.post.ssi ++ [(n.val, s.time * 16, s.time)] } } else s)) ∧
    (∀ ready cyc,
      let per := s.f (Fld.FBK_SSI_PERIOD_PERIOD n)
      let half := s.f (Fld.FBK_SSI_CLK_HDIV n) + 1
      let len := s.f (Fld.FBK_SSI_FRAME_FLEN n)
      let waits := (c.frames ≠ [] ∨ c.pause = true) ∧ (cyc < c.last ∨ cyc < c.rise + s.f (Fld.FBK_SSI_CLK_TM n) * 600)
      let b : SsiBurst := ⟨cyc, cyc + len * (2 * half) - half, cyc + len * (2 * half) + s.f (Fld.FBK_SSI_LDC_LDC n), ready⟩
      let started (t : State) : Prop := t.time = max s.time cyc ∧ s.keeps t [.FBK_SSI_STATUS n] ∧ s.keepsMem t ∧
        (¬ waits → t.flag (Fld.FBK_SSI_STATUS_BUSY n) = true ∧ t.fbk.ssi[n].frames = c.frames ++ [b] ∧ t.fbk.ssi[n].pause = true ∧
          (t.fbk.ssi[n].t0, t.fbk.ssi[n].rise, t.fbk.ssi[n].last) = (b.t0, b.rise, b.last)) ∧
        (waits → t.flag (Fld.FBK_SSI_STATUS_TRG_LOST n) = true ∧ t.fbk.ssi[n].frames = c.frames)
      s.flag (Fld.FBK_SSI_CTL_EN n) = true →
      (∀ before at_ rest, s.f (Fld.FBK_SSI_CTL_TRG n) ≠ 5 → s.post.ssi = before ++ (n.val, at_, cyc) :: rest → (∀ e ∈ before, e.1 ≠ n.val) →
        gives (.ssiBurstStart n ready) s fun t => started t ∧ t.post.ssi = before ++ rest) ∧
      (s.f (Fld.FBK_SSI_CTL_TRG n) = 5 → 0 < per → c.org ≤ s.time → s.time ≤ cyc → cyc < s.time + per → c.org < cyc → (cyc - c.org) % per = 0 →
        gives (.ssiBurstStart n ready) s fun t => started t ∧ t.post = s.post)) ∧
    (∀ (raw : BitVec 48) b rest, c.frames = b :: rest →
      let w := raw.toNat % 2 ^ s.f (Fld.FBK_SSI_FRAME_FLEN n)
      let good := b.ready = true ∧ ssiParityBad s n w = false ∧ ssiEncoderErr s n w = false
      let stamp := (b.t0 + s.f (Fld.FBK_SSI_LDC_LAT_OFS n)) * 16 + s.f (Fld.FBK_SSI_LDC_LDC n) * 8
      (good → gives (.ssiFrameComplete n raw) s fun t =>
        t.f (Fld.FBK_SSI_ST_ST n) = (ssiSplit s n w).2 % 2 ^ 24 ∧ t.f (Fld.FBK_SSI_STATUS_FRAME n) = 1 ∧
        t.rd (.FBK_SSI_FRAMES n) = s.rd (.FBK_SSI_FRAMES n) + 1#32 ∧ t.f (Fld.FBK_SSI_STATUS_ERUN n) = 0 ∧
        t.fbk.ssi[n].stamp = stamp ∧ t.fbk.ssi[n].frames = rest ∧ t.time = max s.time (b.last + 2) ∧
        (∀ m, s.flag (Fld.FBK_SSI_STATUS_FAILED n) = false → s.flag (Fld.MAN_AG_CTL_EN m) = true → s.gSrc m = 2 →
          s.f (Fld.MAN_AG_CTL_SRC_CH m) = n.val → (t.gen m).inbox = (s.gen m).inbox ++
            [(.sampled (BitVec.ofNat 32 ((ssiSplit s n w).2 * 2 ^ (32 - s.f (Fld.FBK_SSI_FRAME_ST_BITS n)))) stamp, t.time)]) ∧
        s.keeps t [.FBK_SSI_ST n, .FBK_SSI_STATUS n, .FBK_SSI_FRAMES n] ∧ s.keepsMem t) ∧
      (¬ good → gives (.ssiFrameComplete n raw) s fun t =>
        t.fbk.ssi[n].frames = rest ∧ (b.ready = false → t.f (Fld.FBK_SSI_STATUS_NOT_READY n) = 1) ∧
        (ssiParityBad s n w = true → t.f (Fld.FBK_SSI_STATUS_PAR_ERR n) = 1) ∧
        (ssiEncoderErr s n w = true → t.f (Fld.FBK_SSI_STATUS_ENC_ERR n) = 1) ∧
        t.f (Fld.FBK_SSI_STATUS_ERUN n) = min 15 (s.f (Fld.FBK_SSI_STATUS_ERUN n) + 1) ∧
        (s.f (Fld.FBK_SSI_STATUS_ERUN n) + 1 = s.f (Fld.FBK_SSI_ERR_ELIM n) → t.f (Fld.FBK_SSI_STATUS_FAILED n) = 1) ∧
        t.rd (.FBK_SSI_ST n) = s.rd (.FBK_SSI_ST n) ∧ t.rd (.FBK_SSI_FRAMES n) = s.rd (.FBK_SSI_FRAMES n) ∧ t.man = s.man ∧
        s.faultFrame t [0x4003])) ∧
    (c.pause = true → gives (.ssiPauseEnd n) s fun t =>
      t.flag (Fld.FBK_SSI_STATUS_BUSY n) = !c.frames.isEmpty ∧ t.fbk.ssi[n].pause = false ∧ t.time = max s.time (c.rise + s.f (Fld.FBK_SSI_CLK_TM n) * 600) ∧
      s.keeps t [.FBK_SSI_STATUS n] ∧ s.keepsMem t)

/-- On an enabled channel whose clock runs: SAMPLING_WINDOW_EVENT of an event at t_c opens a window at the first modulator period at or
after t_c, with WS_T and OPEN, and while a window is open only sets WIN_LOST with a fault recorded. SOFTWARE_WINDOW does the same at the
present time for each named channel in software mode. The window events that have arrived are taken before a pair's write. STUCK sets STUCK
and STUCK_NOW and sends the channel's axis to SAFE_HOLD, or stops a free channel; STUCK_END clears STUCK_NOW. SINC2_CHANGE at the end of a
modulator period forms F from its 2 x OSR2 bits and stores it 18 core cycles after the last capture; beyond a threshold it sets FACT and
FTRIP and activates source 80 + k, inside the release band it clears FACT and releases the source. The counter clears zero exactly the
counts of the named pairs and groups. CHECK_PAIR_CTL_WRITE of EN = 1 with different dividers only sets WR_IGN; any other write sets the
register. (R113, R116, R117, R118, R121, R123, R124, R128, R130, R247, log entry 40). -/
def Obligations.SensingWindowsAndSources : Prop :=
  ∀ (s : State), s.dsgRun = false → (∀ j, 0 < sdmDiv s j) →
    let runs (k : Fin 32) : Prop := s.sdmOn k = true ∧ s.flag (Fld.SDM_CK_CTL_EN (sdmClock s k)) = true
    let opened (t : State) (k : Fin 32) (tc : Nat) : Prop :=
      ∃ ts, sdmDiv s k ∣ ts ∧ tc ≤ ts * 16 ∧ ts * 16 < tc + sdmDiv s k * 16 ∧ t.sdm[k].win = some ⟨tc, ts, sdmOsr s k⟩ ∧
        t.rd (.SDM_CH_WS_T k) = BitVec.ofNat 32 (ts * 16) ∧ t.f (Fld.SDM_CH_STATUS_OPEN k) = 1
    let lost (t : State) (k : Fin 32) : Prop :=
      t.sdm[k] = s.sdm[k] ∧ t.f (Fld.SDM_CH_STATUS_WIN_LOST k) = 1 ∧ t.rd (.SDM_CH_WS_T k) = s.rd (.SDM_CH_WS_T k) ∧
        t.flag Fld.SYS_STATUS_FAULT_NEW = true
    (∀ k before tc rest, runs k → s.post.win = before ++ (k.val, tc) :: rest → (∀ e ∈ before, e.1 ≠ k.val) →
      gives (.samplingWindowEvent k) s fun t =>
        t.post.win = before ++ rest ∧ t.time = max s.time (tc / 16 + 1) ∧ (∀ j, j ≠ k → t.sdm[j] = s.sdm[j]) ∧
        (s.sdm[k].win = none → opened t k tc ∧ s.keeps t [.SDM_CH_WS_T k, .SDM_CH_STATUS k] ∧ s.keepsMem t) ∧
        (s.sdm[k].win ≠ none → lost t k ∧ s.faultFrame t [0x400A])) ∧
    (∀ mask : Word, writes (.softwareWindow mask) s fun s t =>
      t.time = s.time ∧ s.faultFrame t [0x400A] ∧
      ∀ k, let named := mask.getLsbD (winOwner s k).val = true ∧ runs k ∧ sdmWin s k = 3
        (named → s.sdm[k].win = none → opened t k s.now) ∧ (named → s.sdm[k].win ≠ none → lost t k) ∧
        (¬ named → t.sdm[k] = s.sdm[k] ∧ t.rd (.SDM_CH_STATUS k) = s.rd (.SDM_CH_STATUS k))) ∧
    (∀ k, runs k → s.f (Fld.SDM_CH_STATUS_STUCK_NOW k) = 0 → gives (.stuck k) s fun t =>
      t.f (Fld.SDM_CH_STATUS_STUCK k) = 1 ∧ t.f (Fld.SDM_CH_STATUS_STUCK_NOW k) = 1 ∧ t.flag Fld.SYS_STATUS_FAULT_NEW = true ∧
      (∀ n : Fin 4, k.val % 16 < 12 → k.val % 16 / 3 = n.val → t.axis n = axHold ∧ t.sdm = s.sdm) ∧
      (12 ≤ k.val % 16 → t.sdm[k].halted = true ∧ t.rd .SYS_AX_STATE = s.rd .SYS_AX_STATE) ∧ s.faultFrame t [0x400A]) ∧
    (∀ k, gives (.stuckEnd k) s fun t =>
      t.f (Fld.SDM_CH_STATUS_STUCK_NOW k) = 0 ∧ t.f (Fld.SDM_CH_STATUS_STUCK k) = s.f (Fld.SDM_CH_STATUS_STUCK k) ∧ s.onlyRegs t [.SDM_CH_STATUS k]) ∧
    (∀ k (n bits : Nat), runs k → s.flag (Fld.SDM_CH_CTL_FEN k) = true → gives (.sinc2Change k n bits) s fun t =>
      let osr := 8 * 2 ^ s.f (Fld.SDM_CH_CTL_OSR2 k)
      let r := ((List.range osr).map fun i => ((List.range osr).map fun j => bit (bits.testBit (i + j))).sum).sum
      let f : Int := min ((2 * (r : Int) - osr ^ 2) * 2 ^ 15 / (osr ^ 2 : Nat)) (2 ^ 15 - 1)
      let at_ := (n + 1) * sdmDiv s k + s.f (Fld.SDM_CH_CTL_DLY k) + 18
      let lo := (BitVec.ofNat 16 (s.f (Fld.SDM_CH_FTH_LO k))).toInt
      let hi := (BitVec.ofNat 16 (s.f (Fld.SDM_CH_FTH_HI k))).toInt
      let hys : Int := s.f (Fld.SDM_CH_FHYS_FHYS k)
      let was := s.flag (Fld.SDM_CH_STATUS_FACT k)
      (t.f (Fld.SDM_CH_FWORD_F k) : Int) = f % 2 ^ 16 ∧ t.time = max s.time at_ ∧ (∀ j, j ≠ k → t.sdm[j] = s.sdm[j]) ∧
      t.sdm[k] = { s.sdm[k] with kept := (List.range 8).map fun i => (bits.testBit i, (n - i) * sdmDiv s k) } ∧
      (was = false → f < lo ∨ hi < f →
        t.flag (Fld.SDM_CH_STATUS_FACT k) = true ∧ t.f (Fld.SDM_CH_STATUS_FTRIP k) = 1 ∧ t.raw (sinc2Src k) = true ∧
        (s.flag (Fld.QNC_ROUTE_EN (sinc2Src k)) = true → t.latch (sinc2Src k) = true) ∧ s.faultFrame t [0x4008, 0x400A, 0x400C]) ∧
      (was = true → lo + hys ≤ f → f ≤ hi - hys →
        t.flag (Fld.SDM_CH_STATUS_FACT k) = false ∧ t.raw (sinc2Src k) = false ∧ t.latch (sinc2Src k) = s.latch (sinc2Src k) ∧
        s.keeps t [.SDM_CH_FWORD k, .SDM_CH_STATUS k, .QNC_RAW 2, .QNC_RAW 3] ∧ s.keepsMem t) ∧
      ((was = false ∧ lo ≤ f ∧ f ≤ hi) ∨ (was = true ∧ (f < lo + hys ∨ hi - hys < f)) →
        s.keeps t [.SDM_CH_FWORD k] ∧ s.keepsMem t)) ∧
    (∀ mask : BitVec 16, writes (.counterClearPair mask) s fun s t =>
      (∀ m, t.rd (.SDM_CHK_STAT m) = if mask.getLsbD m.val then s.rd (.SDM_CHK_STAT m) &&& 0xFFF00000#32 else s.rd (.SDM_CHK_STAT m)) ∧
      s.onlyRegs t ((List.finRange 16).map .SDM_CHK_STAT)) ∧
    (∀ mask : BitVec 4, writes (.counterClearGroup mask) s fun s t =>
      (∀ g, t.rd (.SDM_SG_STAT g) = if mask.getLsbD g.val then s.rd (.SDM_SG_STAT g) &&& 0xFF000000#32 else s.rd (.SDM_SG_STAT g)) ∧
      s.onlyRegs t ((List.finRange 4).map .SDM_SG_STAT)) ∧
    (∀ (m : Fin 16) (a b : Fin 32) (v : Word), a.val = m.val → b.val = m.val + 16 →
      ((∀ e ∈ s.post.win, s.time < e.2 / 16 + 1) → sdmDrain s = s) ∧
      (v.getLsbD 0 = true → sdmDiv s a ≠ sdmDiv s b → writes (.checkPairCtlWrite m v) s fun s t =>
        t.f (Fld.SDM_CH_STATUS_WR_IGN a) = 1 ∧ (sdmDrain s).onlyRegs t [.SDM_CH_STATUS a]) ∧
      (v.getLsbD 0 = false ∨ sdmDiv s a = sdmDiv s b → (∀ j : Fin 32, s.sdm[j].pend = none) → writes (.checkPairCtlWrite m v) s fun s t =>
        t.f (Fld.SDM_CHK_CTL_EN m) = wGet v 0 1 ∧ t.f (Fld.SDM_CHK_CTL_XLIM m) = wGet v 8 4 ∧
        t.f (Fld.SDM_CHK_CTL_XTOL m) = wGet v 16 16 ∧ (sdmDrain s).onlyRegs t [.SDM_CHK_CTL m]))

/-- A word of an enabled channel takes the sinc3 output r of its 3 x OSR bits, normalises r, subtracts OFS, scales by GAIN, rounds towards
zero and saturates; with no check to wait for it is delivered: DATA holds the current, SAT where it saturated, INVALID where the channel is
stuck or stopped, and its sequence number, ((n + 1) / OSR) mod 16 in continuous mode and the count of delivered words in the windowed modes;
WORD is set. In continuous mode this happens at the periods whose n + 1 is a multiple of OSR. WINDOW_WORD_COMPLETE ends the open window.
When the second word of an enabled check pair completes, a difference beyond XTOL tags both words XFAIL, sets XMIS and advances XCNT and
XRUN, and at XLIM sets XLIMIT and sends the pair's axis to SAFE_HOLD; a difference within XTOL sets XRUN to 0. (R114, R115, R116, R119,
R121, R122, R532, log entry 40). -/
def Obligations.SensingWordsAreTrimmedCheckedAndDelivered : Prop :=
  ∀ (s : State) (k : Fin 32) (bits e : Nat), s.dsgRun = false → s.sdmOn k = true → s.flag (Fld.SDM_CK_CTL_EN (sdmClock s k)) = true →
    e ≤ 4 → 0 < sdmDiv s k →
    (∀ g : Fin 4, s.f (Fld.SDM_SG_CTL_EN_A g) = 0 ∧ s.f (Fld.SDM_SG_CTL_EN_B g) = 0) →
    (k.val < 16 ∨ s.anvLive = false) →
    let osr := 16 * 2 ^ e
    let r := ((List.range osr).map fun i => ((List.range osr).map fun j =>
      ((List.range osr).map fun l => bit (bits.testBit (1 + i + j + l))).sum).sum).sum
    let kept (n : Nat) : List (Bool × Nat) := (List.range 8).map fun i => (bits.testBit i, (n - i) * sdmDiv s k)
    let n0 := min (((r : Int) - (osr ^ 3 / 2 : Nat)) * (2 ^ 24 / osr ^ 3 : Nat)) (2 ^ 23 - 1)
    let w0 := Int.tdiv ((n0 - (BitVec.ofNat 24 (s.f (Fld.SDM_CH_OFS_OFS k))).toInt) * s.f (Fld.SDM_CH_GAIN_GAIN k)) (2 ^ 15)
    let w := max (-(2 ^ 23)) (min w0 (2 ^ 23 - 1))
    let invalid := s.flag (Fld.SDM_CH_STATUS_STUCK_NOW k) = true ∨ s.sdm[k].halted = true
    let delivered (t : State) (seq : Nat) : Prop :=
      let d := t.rd (.SDM_CH_DATA k)
      (BitVec.ofNat 24 d.toNat).toInt = w ∧ d.getLsbD 24 = false ∧ d.getLsbD 25 = false ∧ (d.getLsbD 26 = true ↔ w ≠ w0) ∧
      (d.getLsbD 27 = true ↔ invalid) ∧ wGet d 28 4 = seq % 16 ∧ t.f (Fld.SDM_CH_STATUS_WORD k) = 1 ∧
      (w ≠ w0 → t.f (Fld.SDM_CH_STATUS_SAT k) = 1) ∧ (∀ j, j ≠ k → t.sdm[j] = s.sdm[j]) ∧
      s.keeps t [.SDM_CH_DATA k, .SDM_CH_STATUS k] ∧ s.keepsMem t
    ((∀ j : Fin 32, s.sdm[j].pend = none) → s.pairOn k = false →
      (∀ n, sdmWin s k = 0 → s.f (Fld.SDM_CH_CTL_OSR3 (winOwner s k)) = e → osr ∣ n + 1 → s.sdm[k].enCyc + 3 * osr * sdmDiv s k ≤ (n + 1) * sdmDiv s k →
        gives (.continuousWord k n bits) s fun t =>
          delivered t ((n + 1) / osr) ∧ t.sdm[k] = { s.sdm[k] with kept := kept n } ∧
          t.time = max s.time ((n + 1) * sdmDiv s k + s.f (Fld.SDM_CH_CTL_DLY k) + 8)) ∧
      (∀ key ts, s.sdm[k].win = some ⟨key, ts, osr⟩ → gives (.windowWordComplete k bits) s fun t =>
        delivered t s.sdm[k].seq ∧ t.f (Fld.SDM_CH_STATUS_OPEN k) = 0 ∧
        t.sdm[k] = { s.sdm[k] with win := none, seq := (s.sdm[k].seq + 1) % 16, kept := kept (ts / sdmDiv s k + 3 * osr - 1) } ∧
        t.time = max s.time (ts + 3 * osr * sdmDiv s k + s.f (Fld.SDM_CH_CTL_DLY k) + 8))) ∧
    (∀ (m : Fin 16) (a : Fin 32) (key ts : Nat) (x : SdmWord), a.val = m.val → k.val = m.val + 16 → s.flag (Fld.SDM_CHK_CTL_EN m) = true →
      s.sdm[k].win = some ⟨key, ts, osr⟩ → s.sdm[a].pend = some x → x.key = key → x.pairDone = false → x.tags = 0#4 →
      (∀ j : Fin 32, j ≠ a → s.sdm[j].pend = none) → ¬ invalid →
      let bad := s.f (Fld.SDM_CHK_CTL_XTOL m) * 256 < (x.w - w).natAbs
      let run := s.f (Fld.SDM_CHK_STAT_XRUN m) + 1
      gives (.windowWordComplete k bits) s fun t =>
        t.sdm[a].pend = none ∧ t.sdm[k].pend = none ∧ t.f (Fld.SDM_CH_STATUS_WORD a) = 1 ∧ t.f (Fld.SDM_CH_STATUS_WORD k) = 1 ∧
        (t.rd (.SDM_CH_DATA a)).getLsbD 24 = decide bad ∧ (t.rd (.SDM_CH_DATA k)).getLsbD 24 = decide bad ∧
        (¬ bad → t.f (Fld.SDM_CHK_STAT_XRUN m) = 0 ∧ t.f (Fld.SDM_CHK_STAT_XCNT m) = s.f (Fld.SDM_CHK_STAT_XCNT m)) ∧
        (bad → t.f (Fld.SDM_CHK_STAT_XMIS m) = 1 ∧ t.f (Fld.SDM_CHK_STAT_XCNT m) = min 65535 (s.f (Fld.SDM_CHK_STAT_XCNT m) + 1) ∧
          t.f (Fld.SDM_CHK_STAT_XRUN m) = min 15 run ∧
          (s.f (Fld.SDM_CHK_CTL_XLIM m) = run → t.f (Fld.SDM_CHK_STAT_XLIMIT m) = 1 ∧
            ∀ ax : Fin 4, m.val / 3 = ax.val → t.axis ax = axHold)) ∧
        s.faultFrame t [0x400A])

/-- What an instruction command leaves of the cores: copy `chk` of pair `p` is as `f` says, every other copy is as before, and of the pairs'
records only the issue state moves (for Kenow, its wait). -/
def coreStep (p : Fin 25) (f : Bool → Core → Core) (s t : State) : Prop :=
  (∀ chk, t.copyOf p chk = f chk (s.copyOf p chk)) ∧ s.time ≤ t.time ∧ (p ≠ 24 → t.ken = s.ken) ∧
  { t.ken with lead := s.ken.lead, chk := s.ken.chk, wait := s.ken.wait } = s.ken ∧
  ∀ q : Fin 24, (q.castSucc ≠ p → t.lp q = s.lp q) ∧
    { t.lp q with lead := (s.lp q).lead, chk := (s.lp q).chk, pipe := (s.lp q).pipe } = s.lp q

/-- A state as pair `p` finds it where it issues an instruction: the words of a PILUT that are due by then are stored (R184). -/
def flushed (s : State) (p : Fin 25) (o : CoreOp) : State :=
  match loopPair p with
  | some q => unitFlush q (issueCycle (s.lp q) o) s
  | none => s

/-- Nothing but the cores and device time differs. -/
def coreOnly (s t : State) : Prop := { t with time := s.time, pair := s.pair, ken := s.ken } = s

/-- Where pair p can take its next instruction and the word at its PC decodes to it, the command of ADD, SUB, AND, OR, XOR, SHL, SHR, SRA,
SLT, SLTU, MIN, MAX, MUL, ADDI, ANDI, ORI, XORI, SLTI, SHLI, SHRI, SRAI, LUI or NOP writes in each copy xD as R138 says of the copy's own
registers, moves its PC by 4, and changes no other register of any core, no register of a block and no memory, but for the words of an
earlier PILUT that fall due by its issue (R184). x0 reads 0 and ignores writes; a write of another register changes that register alone.
That a command acts where the pair stands at its instruction is the model's choice (log entry 60). (R136, R137, R138, R184, log entry 60). -/
def Obligations.IntegerInstructions : Prop :=
  (∀ (c : Core) (r r' : BitVec 5) (w : Word), (c.wx r w).rx r' = (if r' = 0#5 then 0#32 else if r' = r then w else c.rx r') ∧
    { c.wx r w with x := c.x } = c) ∧
  (∀ (s : State) (p : Fin 25) (o : CoreOp), { flushed s p o with mem := s.mem, chk := s.chk, pair := s.pair } = s ∧
    (∀ q, { (flushed s p o).lp q with gain := (s.lp q).gain } = s.lp q) ∧
    ((∀ q w, loopPair p = some q → (s.lp q).gain = some w → issueCycle (s.lp q) o < w.at_) → flushed s p o = s)) ∧
  ∀ (s : State) (p : Fin 25) (d a b : BitVec 5) (v : BitVec 16), s.ready p = true →
    let runs (i : Instr) (o : CoreOp) (f : Core → Core) : Prop := nextOp s p = some o → gives i s fun t =>
      coreStep p (fun _ c => { f c with pc := c.pc + 4#32 }) (flushed s p o) t ∧ coreOnly (flushed s p o) t
    runs (.add p d a b) (.alu .add d a b) (fun c => c.wx d (BitVec.ofNat 32 ((c.rx a).toNat + (c.rx b).toNat))) ∧
    runs (.sub p d a b) (.alu .sub d a b) (fun c => c.wx d (BitVec.ofInt 32 ((c.rx a).toNat - (c.rx b).toNat))) ∧
    runs (.and p d a b) (.alu .and d a b) (fun c => c.wx d (c.rx a &&& c.rx b)) ∧
    runs (.or p d a b) (.alu .or d a b) (fun c => c.wx d (c.rx a ||| c.rx b)) ∧
    runs (.xor p d a b) (.alu .xor d a b) (fun c => c.wx d (c.rx a ^^^ c.rx b)) ∧
    runs (.shl p d a b) (.alu .shl d a b) (fun c => c.wx d (BitVec.ofNat 32 ((c.rx a).toNat * 2 ^ ((c.rx b).toNat % 32)))) ∧
    runs (.shr p d a b) (.alu .shr d a b) (fun c => c.wx d (BitVec.ofNat 32 ((c.rx a).toNat / 2 ^ ((c.rx b).toNat % 32)))) ∧
    runs (.sra p d a b) (.alu .sra d a b) (fun c => c.wx d (BitVec.ofInt 32 ((c.rx a).toInt / 2 ^ ((c.rx b).toNat % 32)))) ∧
    runs (.slt p d a b) (.alu .slt d a b) (fun c => c.wx d (if (c.rx a).toInt < (c.rx b).toInt then 1#32 else 0#32)) ∧
    runs (.sltu p d a b) (.alu .sltu d a b) (fun c => c.wx d (if (c.rx a).toNat < (c.rx b).toNat then 1#32 else 0#32)) ∧
    runs (.min p d a b) (.alu .min d a b) (fun c => c.wx d (BitVec.ofInt 32 (min (c.rx a).toInt (c.rx b).toInt))) ∧
    runs (.max p d a b) (.alu .max d a b) (fun c => c.wx d (BitVec.ofInt 32 (max (c.rx a).toInt (c.rx b).toInt))) ∧
    runs (.mul p d a b) (.alu .mul d a b) (fun c => c.wx d (BitVec.ofNat 32 ((c.rx a).toNat * (c.rx b).toNat))) ∧
    runs (.addi p d a v) (.imm .addi d a v) (fun c => c.wx d (BitVec.ofInt 32 ((c.rx a).toInt + v.toInt))) ∧
    runs (.andi p d a v) (.imm .andi d a v) (fun c => c.wx d (c.rx a &&& (0#16 ++ v))) ∧
    runs (.ori p d a v) (.imm .ori d a v) (fun c => c.wx d (c.rx a ||| (0#16 ++ v))) ∧
    runs (.xori p d a v) (.imm .xori d a v) (fun c => c.wx d (c.rx a ^^^ (0#16 ++ v))) ∧
    runs (.slti p d a v) (.imm .slti d a v) (fun c => c.wx d (if (c.rx a).toInt < v.toInt then 1#32 else 0#32)) ∧
    runs (.shli p d a b) (.shift .shli d a b) (fun c => c.wx d (BitVec.ofNat 32 ((c.rx a).toNat * 2 ^ b.toNat))) ∧
    runs (.shri p d a b) (.shift .shri d a b) (fun c => c.wx d (BitVec.ofNat 32 ((c.rx a).toNat / 2 ^ b.toNat))) ∧
    runs (.srai p d a b) (.shift .srai d a b) (fun c => c.wx d (BitVec.ofInt 32 ((c.rx a).toInt / 2 ^ b.toNat))) ∧
    runs (.lui p d v) (.lui d v) (fun c => c.wx d (BitVec.ofNat 32 (v.toNat * 65536))) ∧
    runs (.nop p) .nop id

/-- Where pair p can take its next instruction and the word at its PC decodes to it, each FP32 instruction writes in each copy its result
and ORs its flags into FFLAGS, with PC moved by 4 and nothing else changed; FABS and FNEG change bit 31 alone and raise nothing, FMVXS and
FMVSX move bits. A NaN result of an addition, subtraction, multiplication, fused multiply-add, division or square root is 0x7FC00000. FMIN
and FMAX answer the other operand where exactly one is a NaN and 0x7FC00000 where both are, and order -0.0 below +0.0. FEQ raises NV exactly
for a signalling NaN operand, FLT and FLE for any NaN operand, and a comparison with a NaN is false. FCVTWS saturates, and gives 0 for a
NaN. (R136, R138, R140, log entry 60). -/
def Obligations.FloatingPointInstructions : Prop :=
  (∀ a b c : Word, (fIsNaN (fAdd a b).1 = true → (fAdd a b).1 = 0x7FC00000#32) ∧ (fIsNaN (fSub a b).1 = true → (fSub a b).1 = 0x7FC00000#32) ∧
    (fIsNaN (fMul a b).1 = true → (fMul a b).1 = 0x7FC00000#32) ∧ (fIsNaN (fMac c a b).1 = true → (fMac c a b).1 = 0x7FC00000#32) ∧
    (fIsNaN (fDiv a b).1 = true → (fDiv a b).1 = 0x7FC00000#32) ∧ (fIsNaN (fSqrt a).1 = true → (fSqrt a).1 = 0x7FC00000#32) ∧
    (∀ m, (fIsNaN a = true → fIsNaN b = true → (fMinMax m a b).1 = 0x7FC00000#32) ∧
      (fIsNaN a = true → fIsNaN b = false → (fMinMax m a b).1 = b) ∧ (fIsNaN a = false → fIsNaN b = true → (fMinMax m a b).1 = a) ∧
      ((fMinMax m a b).2.getLsbD 0 = true ↔ fIsSNaN a = true ∨ fIsSNaN b = true)) ∧
    (fMinMax false 0x80000000#32 0#32).1 = 0x80000000#32 ∧ (fMinMax false 0#32 0x80000000#32).1 = 0x80000000#32 ∧
    (fMinMax true 0x80000000#32 0#32).1 = 0#32 ∧ (fMinMax true 0#32 0x80000000#32).1 = 0#32 ∧
    ((fEq a b).2.getLsbD 0 = true ↔ fIsSNaN a = true ∨ fIsSNaN b = true) ∧
    (∀ e, ((fCompare e a b).2.getLsbD 0 = true ↔ fIsNaN a = true ∨ fIsNaN b = true) ∧
      (fIsNaN a = true ∨ fIsNaN b = true → (fCompare e a b).1 = false ∧ (fEq a b).1 = false)) ∧
    (fIsNaN a = true → (fToInt a).1 = 0#32) ∧ (fToInt 0x4F000000#32).1 = 0x7FFFFFFF#32 ∧ (fToInt 0xFF800000#32).1 = 0x80000000#32) ∧
  ∀ (s : State) (p : Fin 25) (d a b : BitVec 5), s.ready p = true →
    let runs (i : Instr) (o : CoreOp) (f : Core → Core) : Prop := nextOp s p = some o → gives i s fun t =>
      coreStep p (fun _ c => { f c with pc := c.pc + 4#32 }) (flushed s p o) t ∧ coreOnly (flushed s p o) t
    let res (c : Core) (r : Word × FFlags) : Core := { c.wf d r.1 with fflags := c.fflags ||| r.2 }
    let cmp (c : Core) (r : Bool × FFlags) : Core := { c.wx d (if r.1 then 1#32 else 0#32) with fflags := c.fflags ||| r.2 }
    runs (.fadd p d a b) (.fp .fadd d a b) (fun c => res c (fAdd (c.rf a) (c.rf b))) ∧
    runs (.fsub p d a b) (.fp .fsub d a b) (fun c => res c (fSub (c.rf a) (c.rf b))) ∧
    runs (.fmul p d a b) (.fp .fmul d a b) (fun c => res c (fMul (c.rf a) (c.rf b))) ∧
    runs (.fmac p d a b) (.fp .fmac d a b) (fun c => res c (fMac (c.rf d) (c.rf a) (c.rf b))) ∧
    runs (.fdiv p d a b) (.fp .fdiv d a b) (fun c => res c (fDiv (c.rf a) (c.rf b))) ∧
    runs (.fmin p d a b) (.fp .fmin d a b) (fun c => res c (fMinMax false (c.rf a) (c.rf b))) ∧
    runs (.fmax p d a b) (.fp .fmax d a b) (fun c => res c (fMinMax true (c.rf a) (c.rf b))) ∧
    runs (.fsqrt p d a) (.fun1 .fsqrt d a) (fun c => res c (fSqrt (c.rf a))) ∧
    runs (.fabs p d a) (.fun1 .fabs d a) (fun c => res c (c.rf a &&& 0x7FFFFFFF#32, 0#5)) ∧
    runs (.fneg p d a) (.fun1 .fneg d a) (fun c => res c (c.rf a ^^^ 0x80000000#32, 0#5)) ∧
    runs (.feq p d a b) (.fcmp .feq d a b) (fun c => cmp c (fEq (c.rf a) (c.rf b))) ∧
    runs (.flt p d a b) (.fcmp .flt d a b) (fun c => cmp c (fCompare false (c.rf a) (c.rf b))) ∧
    runs (.fle p d a b) (.fcmp .fle d a b) (fun c => cmp c (fCompare true (c.rf a) (c.rf b))) ∧
    runs (.fcvtws p d a) (.fmove .fcvtws d a) (fun c => (c.wx d (fToInt (c.rf a)).1).flags (fToInt (c.rf a)).2) ∧
    runs (.fcvtsw p d a) (.fmove .fcvtsw d a) (fun c => res c (fOfInt (c.rx a))) ∧
    runs (.fmvxs p d a) (.fmove .fmvxs d a) (fun c => c.wx d (c.rf a)) ∧
    runs (.fmvsx p d a) (.fmove .fmvsx d a) (fun c => c.wf d (c.rx a)) ∧
    (d.getLsbD 0 = false → a.getLsbD 0 = false → b.getLsbD 0 = false → runs (.dmac p d a b) (.dmac d a b) fun c =>
      let x := fMac (c.rf d) (c.rf a) (c.rf b)
      let y := fMac (c.rf (d + 1#5)) (c.rf (a + 1#5)) (c.rf (b + 1#5))
      ((c.wf d x.1).wf (d + 1#5) y.1).flags (x.2 ||| y.2))

/-- Round an exact value, given as a sign and a positive fraction n / d, to FP32. Where the result is finite, no finite FP32 value lies
nearer to the exact value than the result does; and where the exact value is itself a finite FP32 value, the result has that value and no
flag is raised. Every FP32 operation rounds its exact result once, by this function. (R140). -/
def Obligations.RoundingIsToTheNearest : Prop :=
  ∀ (neg : Bool) (n d : Nat), 0 < n → 0 < d →
    let x : Frac := ⟨if neg then -(n : Int) else n, d⟩
    let w := (fRound neg n d).1
    (fFinite w = true → ∀ w' : Word, fFinite w' = true → ((fVal w).sub x).abs.le ((fVal w').sub x).abs = true) ∧
    (∀ w' : Word, fFinite w' = true → (fVal w').le x = true → x.le (fVal w') = true →
      (fVal w).le x = true ∧ x.le (fVal w) = true ∧ (fRound neg n d).2 = 0#5)

/-- Where pair p can take its next instruction and the word at its PC decodes to it: a branch goes in each copy to PC + 4 + 4 x OFS where
its condition holds and to PC + 4 otherwise; J and JAL go to their target, JAL with the return address in x31; JR writes PC + 4 to xD and
goes to xA. A JR to an address with xA[1:0] not 0 stops an engine instance with ACC_ERR and a recorded fault, and on Kenow is an exception:
EPC is the address of the JR, ECAUSE 2, IEN 0, PC VBASE. CSRR reads FFLAGS, PV, COREID and Kenow's own registers, and 0 for a number the
core does not have; CSRW writes FFLAGS and Kenow's own registers and leaves read-only numbers. Nothing else changes. (R136, R137, R138,
R141, R142, R143, log entry 60). -/
def Obligations.BranchesJumpsAndControlRegisters : Prop :=
  ∀ (s : State) (p : Fin 25) (d a b : BitVec 5) (ofs : BitVec 16) (far : BitVec 26) (n : BitVec 12), s.ready p = true →
    let runs (i : Instr) (o : CoreOp) (f : Core → Core) : Prop := nextOp s p = some o → gives i s fun t =>
      coreStep p (fun _ => f) (flushed s p o) t ∧ coreOnly (flushed s p o) t
    let dest (c : Core) (o : Int) : Word := BitVec.ofInt 32 ((c.pc.toNat : Int) + 4 + 4 * o)
    let branches (i : Instr) (o : CoreOp) (cond : Core → Prop) : Prop := nextOp s p = some o → gives i s fun t =>
      (∀ chk, (cond (s.copyOf p chk) → t.copyOf p chk = { s.copyOf p chk with pc := dest (s.copyOf p chk) ofs.toInt }) ∧
        (¬ cond (s.copyOf p chk) → t.copyOf p chk = { s.copyOf p chk with pc := (s.copyOf p chk).pc + 4#32 })) ∧
      coreStep p (fun chk _ => t.copyOf p chk) (flushed s p o) t ∧ coreOnly (flushed s p o) t
    branches (.beq p b a ofs) (.branch .beq b a ofs) (fun c => c.rx a = c.rx b) ∧
    branches (.bne p b a ofs) (.branch .bne b a ofs) (fun c => c.rx a ≠ c.rx b) ∧
    branches (.blt p b a ofs) (.branch .blt b a ofs) (fun c => (c.rx a).toInt < (c.rx b).toInt) ∧
    branches (.bge p b a ofs) (.branch .bge b a ofs) (fun c => (c.rx b).toInt ≤ (c.rx a).toInt) ∧
    branches (.bltu p b a ofs) (.branch .bltu b a ofs) (fun c => (c.rx a).toNat < (c.rx b).toNat) ∧
    branches (.bgeu p b a ofs) (.branch .bgeu b a ofs) (fun c => (c.rx b).toNat ≤ (c.rx a).toNat) ∧
    runs (.j p far) (.j far) (fun c => { c with pc := dest c far.toInt }) ∧
    runs (.jal p far) (.jal far) (fun c => { c.wx 31#5 (c.pc + 4#32) with pc := dest c far.toInt }) ∧
    ((s.copyOf p false).rx a &&& 3#32 = 0#32 → runs (.jr p d a) (.jr d a) fun c => { c.wx d (c.pc + 4#32) with pc := c.rx a }) ∧
    (∀ q : Fin 24, p = q.castSucc → (s.copyOf p false).rx a &&& 3#32 ≠ 0#32 → nextOp s p = some (.jr d a) → s.dsgRun = false →
      gives (.jr p d a) s fun t => (t.lp q).stopped = true ∧ (∀ chk, t.copyOf p chk = s.copyOf p chk) ∧
        t.flag Fld.LOOP_STATUS_ACC_ERR = true ∧ t.flag Fld.SYS_STATUS_FAULT_NEW = true ∧
        (flushed s p (.jr d a)).faultFrame t [0x400D]) ∧
    (p = 24 → (s.copyOf p false).rx a &&& 3#32 ≠ 0#32 → nextOp s p = some (.jr d a) →
      gives (.jr p d a) s fun t => t.ken.epc = s.ken.lead.pc ∧ t.ken.ecause = 2#32 ∧ t.ken.ien = false ∧
        (∀ chk, t.copyOf p chk = { s.copyOf p chk with pc := s.ken.vbase }) ∧ coreOnly s t) ∧
    (nextOp s p = some (.csrr d n) → gives (.csrr p d n) s fun t =>
      coreStep p (fun chk _ => t.copyOf p chk) (flushed s p (.csrr d n)) t ∧ coreOnly (flushed s p (.csrr d n)) t ∧
      ∀ chk, let c := s.copyOf p chk
        let reads (k : Nat) (w : Word) : Prop := n.toNat = k → t.copyOf p chk = { c.wx d w with pc := c.pc + 4#32 }
        reads 0x001 (if c.pv then 1#32 else 0#32) ∧ reads 0x002 (0#27 ++ c.fflags) ∧ reads 0x003 (BitVec.ofNat 32 p.val) ∧
        (∀ q : Fin 24, p = q.castSucc → reads 0x000 (BitVec.ofNat 32 (issueCycle (s.lp q) (.csrr d n) - (s.lp q).start))) ∧
        (p = 24 → reads 0x000 (BitVec.ofNat 32 s.time) ∧ reads 0x010 s.ken.vbase ∧ reads 0x011 s.ken.epc ∧ reads 0x012 s.ken.ecause ∧
          reads 0x013 (if s.ken.ien then 1#32 else 0#32) ∧ ∀ k : Fin 4, reads (0x020 + k.val) s.ken.imask[k]) ∧
        (p ≠ 24 → ∀ k, 4 ≤ k → reads k 0#32)) ∧
    (nextOp s p = some (.csrw a n) → gives (.csrw p a n) s fun t =>
      coreOnly (flushed s p (.csrw a n)) t ∧ (∀ chk, let c := s.copyOf p chk
        (n = 2#12 → t.copyOf p chk = { c with fflags := (c.rx a).extractLsb' 0 5, pc := c.pc + 4#32 }) ∧
        (n ≠ 2#12 → t.copyOf p chk = { c with pc := c.pc + 4#32 })) ∧
      (p ≠ 24 → t.ken = s.ken) ∧
      (p = 24 → let w := s.ken.lead.rx a
        t.ken.vbase = (if n = 0x010#12 then w &&& 0xFFFFFF00#32 else s.ken.vbase) ∧
        t.ken.epc = (if n = 0x011#12 then w else s.ken.epc) ∧ t.ken.ecause = s.ken.ecause ∧
        t.ken.ien = (if n = 0x013#12 then w.getLsbD 0 else s.ken.ien) ∧
        ∀ k : Fin 4, t.ken.imask[k] = (if n.toNat = 0x020 + k.val then w else s.ken.imask[k])))

/-- Where pair p can take its next instruction, the word at its PC decodes to LW, LH, LHU, LB, LBU or FLW and both copies name one address
xA + IMM. On an engine core an aligned load takes its bytes, extended as R138 says, from each copy's own local memory, from the input
window, or from shared SRAM; any other load, a misaligned one included, gives 0, sets ACC_ERR and records a fault. Corrected ECC errors of
local memory count in CE, an uncorrectable one retires the pair. On Kenow an aligned load reads each copy's own memory or a RAM of the map,
and a misaligned one is an exception with ECAUSE 3. PC moves by 4, and nothing else changes. (R33, R134, R135, R137, R138, R139, R143, R145,
log entry 60). -/
def Obligations.LoadsReadTheSpaceOfTheCore : Prop :=
  ∀ (s : State) (p : Fin 25) (d a : BitVec 5) (v : BitVec 16) (lat : Fin 35), s.ready p = true →
    (s.copyOf p true).rx a = (s.copyOf p false).rx a → s.dsgRun = false →
    let ea := ((s.copyOf p false).rx a + v.signExtend 32).toNat
    let loads (i : Ecc → Instr) (o : CoreOp) (width : Nat) (put : Core → (Nat → Byte) → Core) : Prop := nextOp s p = some o →
      let u := flushed s p o
      let takes (e : Ecc) (m : Bool → Nat → Byte) (also : State → Prop) : Prop := gives (i e) s fun t =>
        coreStep p (fun chk c => { put c (m chk) with pc := c.pc + 4#32 }) u t ∧ also t
      (∀ q : Fin 24, p = q.castSucc → ea % width = 0 →
        let base := 0x30000000 + q.val * 0x10000
        (ea < 0x10000 → takes .ok (fun chk i => memGet (u.own chk) (base + ea + i)) (coreOnly u) ∧
          (∀ m n, takes (.corrected m n) (fun chk i => memGet (u.own chk) (base + ea + i)) (fun t =>
            t.f (Fld.LOOP_P_ECC_CE q) = min 65535 (s.f (Fld.LOOP_P_ECC_CE q) + (m + n)) ∧ u.keeps t [.LOOP_P_ECC q] ∧ u.keepsMem t)) ∧
          gives (i .uncorrectable) s fun t => t.pairSt q = pairRetired ∧ u.keepsOutside t [0x400D] ∧ u.keepsMem t) ∧
        (∀ e, 0x10000 ≤ ea → ea < 0x10060 →
          takes e (fun _ i => (windowWord s q ((ea - 0x10000) / 4)).extractLsb' (8 * ((ea + i) % 4)) 8) (coreOnly u)) ∧
        (∀ e, 0x10000000 ≤ ea → ea < 0x103F0000 → takes e (fun _ i => memGet s.mem (ea + i)) (coreOnly u))) ∧
      (∀ (q : Fin 24) (e : Ecc), p = q.castSucc → ea % width ≠ 0 ∨ (0x10060 ≤ ea ∧ ea < 0x10000000) ∨ 0x103F0000 ≤ ea →
        takes e (fun _ _ => 0#8) fun t =>
          t.flag Fld.LOOP_STATUS_ACC_ERR = true ∧ t.flag Fld.SYS_STATUS_FAULT_NEW = true ∧ u.faultFrame t [0x400D]) ∧
      (∀ e, p = 24 → ea % width = 0 →
        (0x08000000 ≤ ea → ea < 0x08080000 → takes e (fun chk i => memGet (s.own chk) (ea + i)) (coreOnly s)) ∧
        (0x10000000 ≤ ea → ea < 0x10400000 → takes e (fun _ i => memGet s.mem (ea + i)) (coreOnly s))) ∧
      (∀ e, p = 24 → ea % width ≠ 0 → gives (i e) s fun t =>
        t.ken.epc = s.ken.lead.pc ∧ t.ken.ecause = 3#32 ∧ t.ken.ien = false ∧
        (∀ chk, t.copyOf p chk = { s.copyOf p chk with pc := s.ken.vbase }) ∧ coreOnly s t)
    loads (fun e => .lw p d a v lat e) (.load .lw d a v) 4 (fun c m => c.wx d (m 3 ++ m 2 ++ m 1 ++ m 0)) ∧
    loads (fun e => .lh p d a v lat e) (.load .lh d a v) 2 (fun c m => c.wx d ((m 1 ++ m 0).signExtend 32)) ∧
    loads (fun e => .lhu p d a v lat e) (.load .lhu d a v) 2 (fun c m => c.wx d (0#16 ++ m 1 ++ m 0)) ∧
    loads (fun e => .lb p d a v lat e) (.load .lb d a v) 1 (fun c m => c.wx d ((m 0).signExtend 32)) ∧
    loads (fun e => .lbu p d a v lat e) (.load .lbu d a v) 1 (fun c m => c.wx d (0#24 ++ m 0)) ∧
    loads (fun e => .flw p d a v lat e) (.flw d a v) 4 (fun c m => c.wf d (m 3 ++ m 2 ++ m 1 ++ m 0))

/-- Where pair p can take its next instruction, the word at its PC decodes to SW, SH, SB or FSW and both copies name one address xA + IMM.
An aligned store writes the low bytes of the register at that address: an engine core into each copy's own local memory, with the ECC as for
loads and a correction holding the next issue two cycles, or, once, into shared SRAM; Kenow into both copies of its memory or, once, into
shared SRAM; a store outside local memory whose data differs between lead and checker is discarded. Every other byte reads as before. With
equal data, on an engine core a word store to a commit slot below OUT_N stores the entry, one at or beyond OUT_N is not stored and sets
ACC_ERR, and a word store to END ends the instance, with its region kept; a store anywhere else outside the space, a misaligned one
included, has no effect but ACC_ERR with a recorded fault. On Kenow a misaligned store is an exception with ECAUSE 3. (R33, R134, R135,
R137, R138, R139, R143, R148, R358, R533, log entry 41, log entry 60). -/
def Obligations.StoresWriteTheSpaceOfTheCore : Prop :=
  ∀ (s : State) (p : Fin 25) (b a : BitVec 5) (v : BitVec 16), s.ready p = true →
    (s.copyOf p true).rx a = (s.copyOf p false).rx a → s.dsgRun = false →
    let ea := ((s.copyOf p false).rx a + v.signExtend 32).toNat
    let next := fun (_ : Bool) (c : Core) => { c with pc := c.pc + 4#32 }
    let stores (i : Ecc → Instr) (o : CoreOp) (width : Nat) (src : Core → Word) : Prop := nextOp s p = some o →
      let u := flushed s p o
      let put (old new : List Host.Cell) (at_ : Nat) (w : Word) : Prop :=
        ∀ x, memGet new x = if at_ ≤ x ∧ x < at_ + width then w.extractLsb' (8 * (x - at_)) 8 else memGet old x
      let same : Prop := (src (s.copyOf p true)).extractLsb' 0 (8 * width) = (src (s.copyOf p false)).extractLsb' 0 (8 * width)
      let own (e : Ecc) (at_ : Nat) (also : State → Prop) : Prop := gives (i e) s fun t =>
        (∀ chk, put (u.own chk) (t.own chk) at_ (src (s.copyOf p chk))) ∧ coreStep p next u t ∧ also t
      let shared (e : Ecc) : Prop := gives (i e) s fun t =>
        (same → put u.mem t.mem ea (src (s.copyOf p false))) ∧ (¬ same → t.mem = u.mem) ∧ coreStep p next u t ∧
        coreOnly u { t with mem := u.mem }
      let outside (e : Ecc) (q : Fin 24) : Prop := gives (i e) s fun t =>
        coreStep p next u t ∧ t.flag Fld.LOOP_STATUS_ACC_ERR = true ∧ t.flag Fld.SYS_STATUS_FAULT_NEW = true ∧
        (t.lp q).run = (s.lp q).run ∧ u.faultFrame t [0x400D]
      (∀ (q : Fin 24) (e : Ecc), p = q.castSucc →
        (ea % width = 0 → ea < 0x10000 →
          own .ok (0x30000000 + q.val * 0x10000 + ea) (fun t => coreOnly u { t with mem := u.mem, chk := u.chk }) ∧
          (∀ m n, own (.corrected m n) (0x30000000 + q.val * 0x10000 + ea) fun t =>
            t.f (Fld.LOOP_P_ECC_CE q) = min 65535 (s.f (Fld.LOOP_P_ECC_CE q) + (m + n)) ∧ u.keeps t [.LOOP_P_ECC q] ∧
            (t.lp q).pipe.next = issueCycle (s.lp q) o + 1 + 2 * max m n) ∧
          gives (i .uncorrectable) s fun t => t.pairSt q = pairRetired ∧ u.keepsOutside t [0x400D] ∧ u.keepsMem t) ∧
        (ea % width = 0 → 0x10000000 ≤ ea → ea < 0x103F0000 → shared e) ∧
        (∀ (k : Fin 16) (n : Inst), width = 4 → same → ea = 0x10100 + 4 * k.val → (s.lp q).run = some n →
          (k.val < s.f (Fld.LOOP_D_OUT_OUT_N n.d) → gives (i e) s fun t =>
            (t.lp q).run = some { n with slots := vset n.slots k (src (s.copyOf p false)), written := n.written ||| (1#16 <<< k.val) } ∧
            (∀ chk, t.copyOf p chk = next chk (s.copyOf p chk)) ∧ coreOnly u t) ∧
          (s.f (Fld.LOOP_D_OUT_OUT_N n.d) ≤ k.val → outside e q)) ∧
        (∀ n : Inst, width = 4 → same → ea = 0x10140 → (s.lp q).run = some n → n.dropped = false → gives (i e) s fun t =>
          (t.lp q).run = none ∧ (t.lp q).live = false ∧ (t.lp q).freeAt = issueCycle (s.lp q) o + 1 ∧
          t.instOf n.d = some { n with place := .ended q, ended := issueCycle (s.lp q) o, region := regionWords u q n.d } ∧
          t.f (Fld.LOOP_D_STAT_RUNNING n.d) = 0 ∧ (∀ chk, t.copyOf p chk = next chk (s.copyOf p chk)) ∧
          s.keeps t [.LOOP_D_STAT n.d] ∧ u.keepsMem t) ∧
        (ea % width ≠ 0 ∨ (0x10000 ≤ ea ∧ ea < 0x10100) ∨ (0x10100 ≤ ea ∧ ea < 0x10144 ∧ width ≠ 4) ∨
          (0x10144 ≤ ea ∧ ea < 0x10000000) ∨ 0x103F0000 ≤ ea → outside e q)) ∧
      (∀ e, p = 24 → ea % width = 0 → 0x08000000 ≤ ea → ea < 0x08080000 →
        own e ea (fun t => coreOnly u { t with mem := u.mem, chk := u.chk })) ∧
      (∀ e, p = 24 → ea % width = 0 → 0x10000000 ≤ ea → ea < 0x103F0000 → shared e) ∧
      (∀ e, p = 24 → ea % width ≠ 0 → gives (i e) s fun t =>
        t.ken.epc = s.ken.lead.pc ∧ t.ken.ecause = 3#32 ∧ t.ken.ien = false ∧
        (∀ chk, t.copyOf p chk = { s.copyOf p chk with pc := s.ken.vbase }) ∧ coreOnly s t)
    stores (fun e => .sw ⟨p, e⟩ b a v) (.store .sw b a v) 4 (fun c => c.rx b) ∧
    stores (fun e => .sh ⟨p, e⟩ b a v) (.store .sh b a v) 2 (fun c => c.rx b) ∧
    stores (fun e => .sb ⟨p, e⟩ b a v) (.store .sb b a v) 1 (fun c => c.rx b) ∧
    stores (fun e => .fsw ⟨p, e⟩ b a v) (.fsw b a v) 4 (fun c => c.rf b)

/-- INTERRUPT_TAKEN with IEN = 1 and a line high with its IMASK bit set takes the lowest such line l: EPC is the address of the next
instruction, ECAUSE 0 with the line in [14:8], IEN 0, and both copies go on at VBASE + 0x40 + 4 l. IRET goes to EPC with IEN 1. WFI goes on
at PC + 4, and Kenow waits exactly while no enabled line is high or an interrupt is to be taken. ILLEGAL_INSTRUCTION with no instruction at
PC is on Kenow an exception with ECAUSE 1 and EPC the address of the instruction, whatever IEN is, and on an engine core stops the instance,
which stays on its core, with ACC_ERR and a recorded fault; a PC that is no word's has ECAUSE 2. The command also tells what the ECC found
at a fetch: corrections count in CE and hold the next issue, an uncorrectable error retires the pair (log entry 41). Nothing else changes.
(R134, R136, R138, R142, R143, log entry 41, log entry 60). -/
def Obligations.InterruptsExceptionsAndWaiting : Prop :=
  ∀ (s : State), s.dsgRun = false →
    let both (t : State) (pc : Word) : Prop := ∀ chk, t.copyOf 24 chk = { s.copyOf 24 chk with pc := pc }
    let rest (t : State) : Prop := { t.ken with
      lead := s.ken.lead, chk := s.ken.chk, wait := s.ken.wait, epc := s.ken.epc, ecause := s.ken.ecause, ien := s.ken.ien } = s.ken ∧ { t with ken := s.ken } = s
    let up (l : Fin 128) : Prop := s.line l = true ∧ (s.ken.imask[l.val / 32]!).getLsbD (l.val % 32) = true
    (∀ l : Fin 128, s.executing 24 = true → s.ken.ien = true → up l → (∀ k, k.val < l.val → ¬ up k) → gives .interruptTaken s fun t =>
      t.ken.epc = s.ken.lead.pc ∧ t.ken.ecause = BitVec.ofNat 32 (l.val * 256) ∧ t.ken.ien = false ∧ t.ken.wait = false ∧
      both t (s.ken.vbase + BitVec.ofNat 32 (0x40 + 4 * l.val)) ∧ rest t) ∧
    (s.ready 24 = true → nextOp s 24 = some .iret → s.ken.epc.toNat % 4 = 0 → gives .iret s fun t =>
      both t s.ken.epc ∧ t.ken.ien = true ∧ t.ken.epc = s.ken.epc ∧ t.ken.ecause = s.ken.ecause ∧ rest t) ∧
    (s.ready 24 = true → nextOp s 24 = some .wfi → gives .wfi s fun t =>
      (∀ chk, t.copyOf 24 chk = { s.copyOf 24 chk with pc := (s.copyOf 24 chk).pc + 4#32 }) ∧
      (t.ken.wait = true ↔ (∀ l, ¬ up l) ∨ s.ken.ien = true) ∧ t.ken.ien = s.ken.ien ∧ t.ken.epc = s.ken.epc ∧ rest t) ∧
    (∀ e, s.ready 24 = true → nextOp s 24 = none → e ≠ .uncorrectable → gives (.illegalInstruction ⟨24, e⟩) s fun t =>
      t.ken.epc = s.ken.lead.pc ∧ t.ken.ecause = (if s.ken.lead.pc.toNat % 4 = 0 then 1#32 else 2#32) ∧ t.ken.ien = false ∧
      both t s.ken.vbase ∧ rest t) ∧
    (∀ q : Fin 24, s.ready q.castSucc = true → nextOp s q.castSucc = none → gives (.illegalInstruction ⟨q.castSucc, .ok⟩) s fun t =>
      (t.lp q).stopped = true ∧ { t.lp q with stopped := (s.lp q).stopped } = s.lp q ∧ t.executing q.castSucc = false ∧
      t.flag Fld.LOOP_STATUS_ACC_ERR = true ∧ t.flag Fld.SYS_STATUS_FAULT_NEW = true ∧ s.faultFrame t [0x400D]) ∧
    (∀ (q : Fin 24) (m n : Nat), s.ready q.castSucc = true →
      (gives (.illegalInstruction ⟨q.castSucc, .corrected m n⟩) s fun t =>
        t.f (Fld.LOOP_P_ECC_CE q) = min 65535 (s.f (Fld.LOOP_P_ECC_CE q) + (m + n)) ∧
        (t.lp q).stopped = ((s.lp q).stopped || (nextOp s q.castSucc).isNone ||
          (nextOp s q.castSucc).any fun o => o.strays (s.copyOf q.castSucc false)) ∧
        (∀ o, nextOp s q.castSucc = some o → o.strays (s.copyOf q.castSucc false) = false →
          (t.lp q).pipe.next = (s.lp q).pipe.next + 2 * max m n ∧ (∀ chk, t.copyOf q.castSucc chk = s.copyOf q.castSucc chk) ∧
          t.time = max s.time (s.lp q).pipe.next ∧ s.keeps t [.LOOP_P_ECC q] ∧ s.keepsMem t)) ∧
      (gives (.illegalInstruction ⟨q.castSucc, .uncorrectable⟩) s fun t =>
        t.pairSt q = pairRetired ∧ s.keepsOutside t [0x400D] ∧ s.keepsMem t))

/-- For every core instruction with every operand the encoding admits (DMAC: even registers), the decoder reads the instruction back from
its word. Every word that the decoder accepts is exactly the word of the well-formed instruction it gives: no unused field is ignored, no
two words spell one instruction, and a word that spells none is refused. (R137, R138). -/
def Obligations.DecodingAnInstructionWordGivesItBack : Prop :=
  (∀ o : CoreOp, o.wf = true → decodeWord o.encode = some o) ∧
    (∀ (w : Word) (o : CoreOp), decodeWord w = some o → o.encode = w ∧ o.wf = true)

/-- The words that the worked example of chapter 05 writes out decode to ADDI x5, x0, 100; PILUT f8, x12, f2, f3, f4; LUI x9, 1; SW x0,
0x140(x9) and BNE x5, x0, -4; so do words written out from the formats of R137 for ADD, JAL, FMAC, CSRW and IRET; ADD with function 13 and
NOP with a register field decode to nothing. (R137, R138). -/
def Obligations.WordsOfTheSpecDecode : Prop :=
  decodeWord 0x00640141#32 = some (.imm .addi 5 0 100) ∧ decodeWord 0x10626238#32 = some (.pilut 8 12 2 3 4) ∧
    decodeWord 0x00010249#32 = some (.lui 9 1) ∧ decodeWord 0x01404815#32 = some (.store .sw 0 9 0x140) ∧
    decodeWord 0xFFFC2821#32 = some (.branch .bne 0 5 0xFFFC) ∧
    decodeWord (0#11 ++ 7#5 ++ 6#5 ++ 5#5 ++ 0x00#6) = some (.alu .add 5 6 7) ∧ decodeWord (0x3FFFFFE#26 ++ 0x27#6) = some (.jal 0x3FFFFFE) ∧
    decodeWord (3#11 ++ 3#5 ++ 2#5 ++ 1#5 ++ 0x30#6) = some (.fp .fmac 1 2 3) ∧
    decodeWord (0#4 ++ 0x013#12 ++ 4#5 ++ 0#5 ++ 0x3D#6) = some (.csrw 4 0x013) ∧
    decodeWord (2#11 ++ 0#5 ++ 0#5 ++ 0#5 ++ 0x3E#6) = some .iret ∧
    decodeWord (13#11 ++ 7#5 ++ 6#5 ++ 5#5 ++ 0x00#6) = none ∧ decodeWord (0#11 ++ 0#5 ++ 0#5 ++ 1#5 ++ 0x3E#6) = none

/-- TICK reaches the first cycle at or after now, beyond the generator's last tick, that is PH modulo PER, and sends a release to each
enabled task with REL 2 of that generator. SOFTWARE_RELEASE sends one to a task with REL 6. TASK_RELEASE of the oldest release of an enabled
task, with dispatch running, creates its instance with commit cycle t_r + CPH in the deque of its ACTIVE home, sets PENDING and advances
INST, or, while an instance is pending, drops the release with REL_LOST and a recorded fault. INSTANCE_START gives a free pair the instance
at its deque's head: it executes from ENTRY at once where the pair holds the committed context, else the copy of 44 + L / 8 cycles begins.
CONTEXT_COPY_DONE puts the committed half at CTX_LOCAL in both copies and starts the instance. Nothing else changes. (R144, R145, R146,
R147, R148, R166, log entry 4). -/
def Obligations.ReleasesAndStarts : Prop :=
  ∀ (s : State), s.dsgRun = false →
    (∀ k : Fin 8, s.f (Fld.LOOP_TICK_PER_PER k) ≠ 0 → gives (.tick k) s fun t =>
      let per := s.f (Fld.LOOP_TICK_PER_PER k)
      let hits (c : Nat) : Prop := s.time ≤ c ∧ c % per = s.f (Fld.LOOP_TICK_PH_PH k) % per ∧ ∀ u, s.loop.tick[k] = some u → u < c
      hits t.time ∧ (∀ c, hits c → t.time ≤ c) ∧ t.loop.tick[k] = some t.time ∧
      t.post.rel = s.post.rel ++ ((List.finRange 512).filter (relSel s 2 k.val)).map (fun d => (d.val, t.time)) ∧ s.faultFrame t []) ∧
    (∀ d : Fin 512, writes (.softwareRelease d) s fun s t => t = (if s.taskOn d = true ∧ s.f (Fld.LOOP_D_CTL_REL d) = 6 then
      { s with post := { s.post with rel := s.post.rel ++ [(d.val, s.time)] } } else s)) ∧
    (∀ (d : Fin 512) (h : Fin 24) (tr : Nat) before rest, s.post.rel = before ++ (d.val, tr) :: rest → (∀ e ∈ before, e.1 ≠ d.val) →
      s.flag Fld.LOOP_CTL_EN = true → s.taskOn d = true →
      (s.hasPending d = false → s.taskHome d = h.val → s.pairSt h = pairActive → gives (.taskRelease d) s fun t =>
        t.post.rel = before ++ rest ∧ t.time = max s.time (tr + 1) ∧ t.f (Fld.LOOP_D_STAT_PENDING d) = 1 ∧
        t.f (Fld.LOOP_D_STAT_INST d) = (s.f (Fld.LOOP_D_STAT_INST d) + 1) % 256 ∧
        (∃ i, t.instOf d = some i ∧ i.d = d ∧ i.tr = tr ∧ i.c = tr + s.f (Fld.LOOP_D_CPH_CPH d) ∧ i.count = s.f (Fld.LOOP_D_STAT_INST d) ∧
          i.place = .queued h ∧ i.from_ = tr + 10 ∧ i.written = 0#16 ∧ (∀ k : Fin 16, i.snap[k.val] = s.rd (.SDM_CH_DATA ⟨k.val, by omega⟩)) ∧
          i.snap[20] = BitVec.ofNat 32 tr ∧ i.snap[21] = BitVec.ofNat 32 (tr / 2 ^ 32)) ∧
        (∀ e, e ≠ d → t.instOf e = s.instOf e) ∧ s.keeps t [.LOOP_D_STAT d] ∧ s.keepsMem t ∧ t.pair = s.pair) ∧
      (s.hasPending d = true → gives (.taskRelease d) s fun t =>
        t.post.rel = before ++ rest ∧ t.flag Fld.LOOP_STATUS_REL_LOST = true ∧ t.flag Fld.SYS_STATUS_FAULT_NEW = true ∧
        t.loop = s.loop ∧ t.pair = s.pair ∧ t.rd (.LOOP_D_STAT d) = s.rd (.LOOP_D_STAT d) ∧ s.faultFrame t [0x400D])) ∧
    (∀ (p : Fin 24) (i : Inst) rest, s.canRun p = true → s.deque p = i :: rest → (∀ k ∈ rest, i.from_ ≤ k.from_) → i.dropped = false →
      gives (.instanceStart p) s fun t =>
        let now := max (max s.time (s.lp p).freeAt) (i.from_ + 2)
        t.time = now ∧ (t.lp p).run = some i ∧ t.instOf i.d = none ∧ (∀ q, q ≠ p → t.lp q = s.lp q) ∧
        (s.heldBy i.d ≠ some p → (t.lp p).live = false ∧ (t.lp p).due = now + 44 + s.taskLen i.d ∧ t.regs = s.regs) ∧
        (s.heldBy i.d = some p → (t.lp p).live = true ∧ (t.lp p).start = now ∧ t.heldBy i.d = none ∧
          (∀ chk, (t.copyOf p.castSucc chk).pc = BitVec.ofNat 32 (4 * s.f (Fld.LOOP_D_ENTRY_ENTRY i.d))) ∧
          t.f (Fld.LOOP_D_STAT_RUNNING i.d) = 1) ∧
        s.keeps t [.LOOP_D_STAT i.d] ∧ s.keepsMem t) ∧
    (∀ (p : Fin 24) (i : Inst) (e : Ecc), (s.lp p).run = some i → i.dropped = false → (s.lp p).live = false → (s.lp p).halted = false →
      (s.lp p).copyTill = none → 8 * s.f (Fld.LOOP_D_CTX_CTX_LOCAL i.d) + 8 * s.taskLen i.d ≤ 0x10000 →
      let at_ := max ((s.lp p).due + eccCycles e) (s.lp p).freeAt
      let u := unitFlush p at_ s
      (e ≠ .uncorrectable → gives (.contextCopyDone ⟨p, e⟩) s fun t =>
        let to_ := localBase p + 8 * s.f (Fld.LOOP_D_CTX_CTX_LOCAL i.d)
        t.time = max s.time at_ ∧ (t.lp p).live = true ∧ (t.lp p).run = some i ∧
        (t.lp p).start = at_ ∧ t.f (Fld.LOOP_D_STAT_RUNNING i.d) = 1 ∧
        t.f (Fld.LOOP_P_ECC_CE p) = min 65535 (s.f (Fld.LOOP_P_ECC_CE p) + eccErrors e) ∧
        (∀ chk, (t.copyOf p.castSucc chk).pc = BitVec.ofNat 32 (4 * s.f (Fld.LOOP_D_ENTRY_ENTRY i.d)) ∧
          (∀ j, j < 8 * s.taskLen i.d →
            memGet (t.own chk) (to_ + j) = memGet u.mem (ctxHalf s i.d (s.f (Fld.LOOP_D_STAT_CTX_HALF i.d)) + j)) ∧
          ∀ x, x < to_ ∨ to_ + 8 * s.taskLen i.d ≤ x → memGet (t.own chk) x = memGet (u.own chk) x) ∧
        s.keeps t [.LOOP_D_STAT i.d, .LOOP_P_ECC p] ∧ (∀ q, q ≠ p → t.lp q = s.lp q)) ∧
      (gives (.contextCopyDone ⟨p, .uncorrectable⟩) s fun t => t.pairSt p = pairRetired ∧ u.keepsMem t))

/-- WRITE_BACK_DONE stores the region as it stood at END in the staging half, completes the instance 44 + L / 8 cycles after END and, before
the commit cycle, gives the pair the sample C minus completion: SLACK takes it and LOW_RUN counts it if it is below TH, else becomes 0; an
ACTIVE pair whose LOW_RUN reaches 8 becomes SLOW. Corrected ECC errors add their cycles and count in CE, an uncorrectable one retires the
pair. BUDGET_OVERRUN of an instance that executes beyond BUD without END sets BUDGET_OVR and records 0x4001, once. STEAL_REQUEST of an idle
ACTIVE pair takes, from the deque of least slack among those that hold one, the qualifying stealable instance nearest the tail, with STEALS
advanced; a granted instance has entered its deque and can still finish in time. Of two thieves on one entry the lower-numbered takes it.
Nothing else changes. (R134, R147, R148, R149, R150, R151, R156, R157, R166, log entry 41). -/
def Obligations.CompletionStealingAndBudgets : Prop :=
  ∀ (s : State), s.dsgRun = false →
    (∀ (d : Fin 512) (p : Fin 24) (i : Inst) (e : Ecc), s.instOf d = some i → i.d = d → i.place = .ended p → i.done = none →
      i.region.length = 2 * s.taskLen d → s.taskLen d ≤ 256 →
      (gives (.writeBackDone ⟨d, .uncorrectable⟩) s fun t => t.pairSt p = pairRetired ∧ s.keepsMem t) ∧
      (e ≠ .uncorrectable → gives (.writeBackDone ⟨d, e⟩) s fun t =>
        let done := i.ended + 44 + s.taskLen d + eccCycles e
        let half := ctxHalf s d (1 - s.f (Fld.LOOP_D_STAT_CTX_HALF d))
        let sample : Int := (i.c : Int) - done
        let low := sample < (s.f (Fld.LOOP_P_MARGIN_TH p) : Int)
        let slow := done < i.c ∧ low ∧ 7 ≤ s.f (Fld.LOOP_P_STATE_LOW_RUN p) ∧ s.pairSt p = pairActive
        t.time = max s.time done ∧ t.instOf d = some { i with done := some done } ∧ t.chk = s.chk ∧
        t.f (Fld.LOOP_P_ECC_CE p) = min 65535 (s.f (Fld.LOOP_P_ECC_CE p) + eccErrors e) ∧
        (done < i.c → (BitVec.ofNat 24 (t.f (Fld.LOOP_P_SLACK_LAST p))).toInt = min sample (2 ^ 23 - 1) ∧
          t.f (Fld.LOOP_P_STATE_LOW_RUN p) = (if low then min 15 (s.f (Fld.LOOP_P_STATE_LOW_RUN p) + 1) else 0)) ∧
        (¬ slow → t.pairSt p = s.pairSt p ∧ t.pair = s.pair ∧ s.keeps t [.LOOP_P_SLACK p, .LOOP_P_STATE p, .LOOP_P_ECC p] ∧
          (∀ j (h : j < i.region.length), t.memW (half + 4 * j) = i.region[j]) ∧
          ∀ x, x < half ∨ half + 8 * s.taskLen d ≤ x → memGet t.mem x = memGet s.mem x) ∧
        (slow → t.pairSt p = pairSlow ∧ t.flag Fld.LOOP_STATUS_SLOW = true ∧ t.flag Fld.SYS_STATUS_FAULT_NEW = true))) ∧
    (∀ (p : Fin 24) (i : Inst), (s.lp p).run = some i → (s.lp p).live = true → (s.lp p).halted = false → (s.lp p).passed = false →
      i.dropped = false → (s.lp p).start + (s.lp p).lost + s.taskBud i.d + 1 ≤ max s.time (s.lp p).pipe.next →
      gives (.budgetOverrun p) s fun t =>
        t.flag Fld.LOOP_STATUS_BUDGET_OVR = true ∧ (t.lp p).passed = true ∧ { t.lp p with passed := false } = s.lp p ∧
        exec (.budgetOverrun p) t = .next t ∧ (∀ q, q ≠ p → t.lp q = s.lp q) ∧ t.loop = s.loop ∧ s.faultFrame t [0x400D]) ∧
    (∀ p : Fin 24,
      let now := max (max s.time (s.lp p).freeAt) (match s.loop.stealCyc with | some c => c + 1 | none => 0)
      let asks (q : Fin 24) : Prop := s.requests q now = true
      (∀ q, asks q ↔ s.canRun q = true ∧ (s.lp q).freeAt ≤ now ∧ s.pairSt q = pairActive ∧ ∀ i ∈ s.deque q, now < i.from_) ∧
      (asks p → (∀ q, q ≠ p → ¬ asks q) → ∀ (v : Fin 24) (i : Inst),
        let fit (q : Fin 24) : Option Inst :=
          if q ≠ p ∧ (s.pairSt q = pairActive ∨ s.pairSt q = pairSlow ∨ s.pairSt q = pairDraining) then stealable s q p now else none
        (∀ q, s.pairSt q ≤ 4) → fit v = some i →
        (∀ q, q ≠ v → fit q ≠ none → dequeSlack s v (now + 1) < dequeSlack s q (now + 1) ∨
          (dequeSlack s v (now + 1) = dequeSlack s q (now + 1) ∧ v.val < q.val)) →
        gives (.stealRequest p) s fun t =>
          t.time = max s.time now ∧ (t.lp p).run = some i ∧ t.instOf i.d = none ∧
          t.f (Fld.LOOP_P_CNT_STEALS p) = (s.f (Fld.LOOP_P_CNT_STEALS p) + 1) % 65536 ∧
          s.taskPin i.d = false ∧ now + 4 + copyFor s i.d p + s.taskBud i.d ≤ i.c ∧ i ∈ s.deque v ∧ i.from_ ≤ now ∧
          (s.heldBy i.d ≠ some p → (t.lp p).due = now + 4 + 44 + s.taskLen i.d) ∧
          (∀ q, q ≠ p → t.lp q = s.lp q) ∧ s.keeps t [.LOOP_P_CNT p, .LOOP_D_STAT i.d] ∧ s.keepsMem t) ∧
      (∀ (q : Fin 24) (i : Inst), q.val < p.val → asks p → asks q → (∀ r, r ≠ p → r ≠ q → ¬ asks r) → i.dropped = false →
        grant s p now = some i → grant s q now = some i → gives (.stealRequest p) s fun t =>
          (t.lp q).run = some i ∧ (t.lp p).run ≠ some i ∧ t.f (Fld.LOOP_P_CNT_STEALS q) = (s.f (Fld.LOOP_P_CNT_STEALS q) + 1) % 65536 ∧
          s.keepsMem t) ∧
      (¬ asks p → exec (.stealRequest p) s = .next s))

/-- COMMIT_CYCLE of an instance complete before C flips CTX_HALF, sets LAST_PAIR and clears MISS_RUN and PENDING; with its outputs in
different words of shared SRAM each entry it wrote stands at its target, and no other byte of memory changes. An instance that is queued or
on a core misses: it is removed or aborted, COMMIT_MISS is set, 0x4102 is recorded, LOOP_MISS_LAST names task and pair, MISS_RUN and the
pair's MISSES advance, the pair takes the sample -2^23; CTX_HALF, LAST_PAIR and all memory outside the Hallmark's images are unchanged. Of
two tasks due in one cycle that write one target the word of the higher descriptor stands, with CONFLICT. The other clauses are of one task
due in its cycle, a miss of a stealable task of a pair with TH 0 and no MISS_LIM reached. A pinned task's first outcome of a cycle sets
PIN_MISS_RUN of its home to 0 for a commit. (R152, R153, R154, R155, R156, R158, R164, R166, R533). -/
def Obligations.CommitsAndMisses : Prop :=
  ∀ (s : State) (d : Fin 512), s.dsgRun = false →
    (∀ (p : Fin 24) (i : Inst) (done : Nat), s.instOf d = some i → i.place = .ended p → i.done = some done → done < i.c → i.dropped = false →
      s.loop.commitCyc ≠ max s.time i.c → (∀ e, e ≠ d → s.dueAt e ≠ some i.c) →
      let target (e : Fin 16) : Nat := (s.rd (.LOOP_TGT ⟨(s.f (Fld.LOOP_D_OUT_OUT_FIRST d) + e.val) % 1024, Nat.mod_lt _ (by decide)⟩)).toNat
      (∀ e, i.written.getLsbD e.val = true → target e % 4 = 0 ∧ 0x10000000 ≤ target e ∧ target e < 0x103F0000) →
      (∀ e f, e ≠ f → i.written.getLsbD e.val = true → i.written.getLsbD f.val = true → target e ≠ target f) →
      gives (.commitCycle d) s fun t =>
        t.time = max s.time i.c ∧ t.f (Fld.LOOP_D_STAT_CTX_HALF d) = 1 - s.f (Fld.LOOP_D_STAT_CTX_HALF d) ∧
        t.f (Fld.LOOP_D_STAT_LAST_PAIR d) = p.val ∧ t.f (Fld.LOOP_D_STAT_MISS_RUN d) = 0 ∧ t.f (Fld.LOOP_D_STAT_PENDING d) = 0 ∧
        t.instOf d = none ∧ t.heldBy d = some p ∧
        (∀ e, i.written.getLsbD e.val = true → t.memW (target e) = i.slots[e]) ∧
        (∀ x, (∀ e, i.written.getLsbD e.val = true → x < target e ∨ target e + 4 ≤ x) → memGet t.mem x = memGet s.mem x) ∧ t.chk = s.chk ∧
        (s.taskPin d = false → s.keeps t [.LOOP_D_STAT d] ∧ t.pair = s.pair) ∧
        (∀ h : Fin 24, s.taskPin d = true → s.taskHome d = h.val → s.pairSt h = pairActive → (s.lp h).pinCyc ≠ some (max s.time i.c) →
          t.f (Fld.LOOP_P_STATE_PIN_MISS_RUN h) = 0 ∧ t.pairSt h = pairActive ∧ s.keeps t [.LOOP_D_STAT d, .LOOP_P_STATE h])) ∧
    (∀ (e : Fin 512) (p q : Fin 24) (i j : Inst) (x y : Nat) (m k : Fin 16), d.val < e.val → s.instOf d = some i → s.instOf e = some j →
      i.place = .ended p → j.place = .ended q → i.done = some x → j.done = some y → x < i.c → y < i.c → j.c = i.c → i.dropped = false → j.dropped = false →
      s.taskPin d = false → s.taskPin e = false → (∀ r, r ≠ d → r ≠ e → s.dueAt r ≠ some i.c) →
      let target (a : Fin 512) (b : Fin 16) : Nat := (s.rd (.LOOP_TGT ⟨(s.f (Fld.LOOP_D_OUT_OUT_FIRST a) + b.val) % 1024, Nat.mod_lt _ (by decide)⟩)).toNat
      i.written = 1#16 <<< m.val → j.written = 1#16 <<< k.val → target d m = target e k → target e k % 4 = 0 →
      0x10000000 ≤ target e k → target e k < 0x103F0000 →
      (∀ c ∈ [d, e], gives (.commitCycle c) s fun t =>
        t.memW (target e k) = j.slots[k] ∧ t.flag Fld.LOOP_STATUS_CONFLICT = true ∧ t.flag Fld.SYS_STATUS_FAULT_NEW = true ∧
        t.instOf d = none ∧ t.instOf e = none ∧ s.keepsOutside t [0x4000, 0x4001, 0x4010, 0x400D])) ∧
    (∀ (p : Fin 24) (c : Nat), (∀ e, e ≠ d → s.dueAt e ≠ some c) →
      (∃ i, s.instOf d = some i ∧ i.place = .queued p ∧ i.c = c) ∨
        (s.instOf d = none ∧ s.coreOf d = some p ∧ (∃ i, (s.lp p).run = some i ∧ i.c = c) ∧ (s.lp p).halted = false) →
      s.taskPin d = false → s.f (Fld.LOOP_P_MARGIN_TH p) = 0 →
      s.f (Fld.LOOP_D_CTL_MISS_LIM d) ≠ s.f (Fld.LOOP_D_STAT_MISS_RUN d) + 1 →
      gives (.commitCycle d) s fun t =>
        t.time = max s.time c ∧ t.flag Fld.LOOP_STATUS_COMMIT_MISS = true ∧ t.flag Fld.SYS_STATUS_FAULT_NEW = true ∧
        t.f Fld.LOOP_MISS_LAST_TASK = d.val ∧ t.f Fld.LOOP_MISS_LAST_PAIR = p.val ∧ t.f Fld.LOOP_MISS_LAST_PINNED = 0 ∧
        t.f (Fld.LOOP_D_STAT_MISS_RUN d) = min 15 (s.f (Fld.LOOP_D_STAT_MISS_RUN d) + 1) ∧
        t.f (Fld.LOOP_P_CNT_MISSES p) = min 65535 (s.f (Fld.LOOP_P_CNT_MISSES p) + 1) ∧
        t.f (Fld.LOOP_P_SLACK_LAST p) = 0x800000 ∧ t.f (Fld.LOOP_D_STAT_PENDING d) = 0 ∧ t.f (Fld.LOOP_D_STAT_RUNNING d) = 0 ∧
        t.f (Fld.LOOP_D_STAT_CTX_HALF d) = s.f (Fld.LOOP_D_STAT_CTX_HALF d) ∧
        t.f (Fld.LOOP_D_STAT_LAST_PAIR d) = s.f (Fld.LOOP_D_STAT_LAST_PAIR d) ∧ t.instOf d = none ∧ (s.instOf d = none → (t.lp p).run = none) ∧
        s.faultFrame t [0x400D])

/-- PAIR_ENABLE of an OFF pair that passed its self-test makes it ACTIVE, UNSLOW of a SLOW pair makes it ACTIVE with LOW_RUN 0, RETIRE of an
ACTIVE, SLOW or DRAINING pair makes it RETIRED with its instance aborted, DRAIN of an ACTIVE or SLOW pair makes it DRAINING; each with the
wrong key, a reserved pair or a state that does not allow it only sets WR_IGN. A drain, and the scan of a retirement, with a target spare
give each pinned task homed there the spare as HOME and each stealable one another ACTIVE pair; tasks of other homes keep theirs.
RETIREMENT_COMPLETE clears the spare's bit, sets RETIRE and LOOP_RETIRE_LAST and records 0x4104. DRAIN_COMPLETE of a DRAINING pair with
nothing left retires it. TASK_CTL_WRITE takes a write to a disabled task unless R167 refuses EN = 1, and on an enabled task, where R167 does
not refuse it, changes EN and MISS_LIM alone; EN = 0 discards releases that have not been accepted by its core cycle. (R157, R158, R159,
R161, R166, R167, R168). -/
def Obligations.PairCommandsAndRetirement : Prop :=
  ∀ (s : State), s.dsgRun = false →
    let ign (i : Instr) : Prop := writes i s fun s t => t.flag Fld.LOOP_STATUS_WR_IGN = true ∧ s.onlyRegs t [.LOOP_STATUS]
    let homed (p : Fin 24) (d : Fin 512) : Prop := s.taskOn d = true ∧ s.taskHome d = p.val
    let rehomed (t : State) (p q : Fin 24) : Prop :=
      (∀ d, homed p d → s.taskPin d = true → t.taskHome d = q.val) ∧
      (∀ d, homed p d → s.taskPin d = false → ∃ r : Fin 24, t.taskHome d = r.val ∧ r ≠ p ∧ s.pairSt r = pairActive) ∧
      (∀ d, s.taskHome d ≠ p.val → t.rd (.LOOP_D_CTL d) = s.rd (.LOOP_D_CTL d)) ∧ (∀ d, t.taskOn d = s.taskOn d)
    (∀ (pair : Fin 32) (key : BitVec 16), key ≠ 0x96A5#16 ∨ 24 ≤ pair.val →
      ign (.pairEnable pair key) ∧ ign (.drain pair key) ∧ ign (.retire pair key) ∧ ign (.unslow pair key)) ∧
    (∀ (pair : Fin 32) (p : Fin 24), pair.val = p.val →
      let st := s.pairSt p
      (st = pairOff → s.bitOf .ASY_BIST p.val = false → writes (.pairEnable pair 0x96A5#16) s fun s t =>
        t.pairSt p = pairActive ∧ s.onlyRegs t [.LOOP_P_STATE p]) ∧
      (st ≠ pairOff ∨ s.bitOf .ASY_BIST p.val = true → ign (.pairEnable pair 0x96A5#16)) ∧
      (st = pairSlow → writes (.unslow pair 0x96A5#16) s fun s t =>
        t.pairSt p = pairActive ∧ t.f (Fld.LOOP_P_STATE_LOW_RUN p) = 0 ∧ s.onlyRegs t [.LOOP_P_STATE p]) ∧
      (st ≠ pairSlow → ign (.unslow pair 0x96A5#16)) ∧
      (st = pairActive ∨ st = pairSlow ∨ st = pairDraining → writes (.retire pair 0x96A5#16) s fun s t =>
        t.pairSt p = pairRetired ∧ (t.lp p).run = none ∧ (t.lp p).ret = some (s.time, 3) ∧ (∀ q, q ≠ p → t.lp q = s.lp q) ∧
        (∀ i, (s.lp p).run = some i → s.keeps t [.LOOP_P_STATE p, .LOOP_D_STAT i.d]) ∧
        ((s.lp p).run = none → s.keeps t [.LOOP_P_STATE p]) ∧ s.keepsMem t) ∧
      (st = pairOff ∨ st = pairRetired → ign (.retire pair 0x96A5#16)) ∧
      (∀ q, st = pairActive ∨ st = pairSlow → spareTarget s p = some q → writes (.drain pair 0x96A5#16) s fun s t =>
        t.pairSt p = pairDraining ∧ rehomed t p q ∧ s.keeps t (.LOOP_P_STATE p :: (List.finRange 512).map .LOOP_D_CTL) ∧ s.keepsMem t ∧
        (∀ r, r ≠ p → t.lp r = s.lp r) ∧ (t.lp p).run = (s.lp p).run) ∧
      (st ≠ pairActive → st ≠ pairSlow → ign (.drain pair 0x96A5#16))) ∧
    (∀ (p q : Fin 24) (t0 cause : Nat), (s.lp p).ret = some (t0, cause) → cause < 4 → s.pairSt p = pairRetired → spareTarget s p = some q →
      s.anv.failed = true ∨ min 31 (s.f Fld.ANV_RET_CNT + 1) ≤ s.f Fld.ANV_WD_RET_MAX → gives (.retirementComplete p) s fun t =>
        t.time = max s.time (t0 + 66) ∧ rehomed t p q ∧ t.bitOf .LOOP_SPARE q.val = false ∧ (t.lp p).ret = none ∧
        (∀ r : Fin 24, r ≠ q → t.isSpare r = s.isSpare r) ∧ t.flag Fld.LOOP_STATUS_RETIRE = true ∧
        t.f Fld.LOOP_RETIRE_LAST_PAIR = p.val ∧ t.f Fld.LOOP_RETIRE_LAST_CAUSE = cause ∧ t.f Fld.LOOP_RETIRE_LAST_TARGET = q.val ∧
        t.f Fld.LOOP_RETIRE_LAST_TGT_VALID = 1 ∧ t.flag Fld.SYS_STATUS_FAULT_NEW = true ∧ s.faultFrame t [0x400D, 0x400F]) ∧
    (∀ p : Fin 24, s.pairSt p = pairDraining → (s.lp p).run = none → s.deque p = [] → (∀ d, ¬ homed p d) →
      gives (.drainComplete p) s fun t => t.pairSt p = pairRetired ∧ (t.lp p).ret = some (s.time, 4) ∧ s.keeps t [.LOOP_P_STATE p] ∧ s.keepsMem t) ∧
    (∀ (d : Fin 512) (v : Word),
      let bad (s : State) (pin : Bool) (h : Fin 24) : Prop :=
        let ctxs := s.f (Fld.LOOP_D_CTXS_CTXS d) * 4096
        s.f (Fld.LOOP_D_CPH_CPH d) < s.f (Fld.LOOP_D_BUD_BUD d) + 12 ∨ s.pairSt h ≠ pairActive ∨
          (pin = true ∧ s.isSpare h = true) ∨ ctxs < 0x10000000 ∨ 0x103F0000 ≤ ctxs ∨
          1024 < s.f (Fld.LOOP_D_OUT_OUT_FIRST d) + s.f (Fld.LOOP_D_OUT_OUT_N d)
      (∀ h : Fin 24, s.taskOn d = true → s.taskHome d = h.val →
        (v.getLsbD 0 = true → bad s (s.taskPin d) h → ign (.taskCtlWrite d v)) ∧
        (v.getLsbD 0 = false ∨ ¬ bad s (s.taskPin d) h → writes (.taskCtlWrite d v) s fun s t =>
          t.taskOn d = v.getLsbD 0 ∧ t.f (Fld.LOOP_D_CTL_MISS_LIM d) = wGet v 24 4 ∧
          t.rd (.LOOP_D_CTL d) &&& 0xF0FFFFFE#32 = s.rd (.LOOP_D_CTL d) &&& 0xF0FFFFFE#32 ∧
          (wGet v 1 1 ≠ s.f (Fld.LOOP_D_CTL_PIN d) → t.flag Fld.LOOP_STATUS_WR_IGN = true) ∧
          (v.getLsbD 0 = false → t.post.rel = s.post.rel.filter fun e => e.1 != d.val || e.2 + 1 < s.time) ∧
          (∀ i, v.getLsbD 0 = false → s.instOf d = some i → i.tr + 1 = s.time → t.instOf d = none ∧ t.f (Fld.LOOP_D_STAT_PENDING d) = 0) ∧
          s.keeps t [.LOOP_D_CTL d, .LOOP_STATUS, .LOOP_D_STAT d] ∧ s.keepsMem t)) ∧
      (s.taskOn d = false → v.getLsbD 0 = true → wGet v 2 3 ≠ 7 → wGet v 20 3 ≠ 7 → ∀ h : Fin 24, wGet v 11 5 = h.val →
        let bad := bad s (v.getLsbD 1) h
        (bad → ign (.taskCtlWrite d v)) ∧
        (¬ bad → writes (.taskCtlWrite d v) s fun s t =>
          t.taskOn d = true ∧ t.taskPin d = v.getLsbD 1 ∧ t.f (Fld.LOOP_D_CTL_REL d) = wGet v 2 3 ∧ t.f (Fld.LOOP_D_CTL_REL_SEL d) = wGet v 5 6 ∧
          t.taskHome d = h.val ∧ t.heldBy d = none ∧ s.keeps t [.LOOP_D_CTL d] ∧ s.keepsMem t)))

/-- Where engine pair q can take its next instruction and it is PILUT, with both copies alike and an instance on the core: a record outside
the context region or misaligned gives fd = +0.0 and PV 0, sets ACC_ERR, records a fault and touches no memory; an operand error alone gives
fd = LREC_OUT and PV 0 and sets ARG_ERR, the record otherwise unchanged; a good PILUT that is not the first on its record in its instance,
with good table sets, gives fd = u and PV 1, stores I and u 36 core cycles after issue, sets NEXT by R180 with ACT, PREV and RAMP_K
unchanged, and SAT, SAT_SEEN by the clamp. In each case the unit is busy for 40 core cycles from issue, two more for each corrected ECC
error of a copy, no byte outside the record's four state words and no other register of the copies but FFLAGS changes. The order of the FP32
operations and FFLAGS are the model's choice (log entries 61 and 62). (R134, R170, R172, R173, R176, R177, R178, R180, R184, log entry 41,
log entry 61, log entry 62). -/
def Obligations.GainTableStep : Prop :=
  ∀ (s : State) (q : Fin 24) (d a b c e : BitVec 5) (n : Inst), s.dsgRun = false → s.ready q.castSucc = true →
    nextOp s q.castSucc = some (.pilut d a b c e) → s.copyOf q.castSucc true = s.copyOf q.castSucc false →
    let p : Fin 25 := q.castSucc
    let o : CoreOp := .pilut d a b c e
    let u := flushed s p o
    (∀ x, localWord u q true x = localWord u q false x) → (s.lp q).run = some n →
    let k := s.copyOf p false
    let ra := (k.rx a).toNat
    let get := localWord u q false
    let lo := 8 * s.f (Fld.LOOP_D_CTX_CTX_LOCAL n.d)
    let placed := ra % 8 = 0 ∧ lo ≤ ra ∧ ra + 64 ≤ lo + 8 * s.f (Fld.LOOP_D_CTX_CTX_LEN n.d) ∧ ra + 64 ≤ 0x10000
    let recBad := recordBad (get ra) (get (ra + 0x38)) (get (ra + 0x08)) = true
    let argBad := fFinite (k.rf b) = false ∨ fFinite (k.rf c) = false ∨ fFinite (k.rf e) = false ∨ fGe (get (ra + 0x28)) (get (ra + 0x2C)) = true
    let out (x : Ecc) (t : State) (fd : Word) (pv : Bool) : Prop :=
      (∀ chk, { t.copyOf p chk with fflags := k.fflags } = { k.wf d fd with pv := pv, pc := k.pc + 4#32 }) ∧
      (t.lp q).pipe.unit = issueCycle (s.lp q) o + 40 + eccCycles x ∧ (t.lp q).run = some n
    let stores (x : Ecc) (t : State) (new : (Nat → Word) → Prop) : Prop :=
      u.keepsMem t ∧ u.keeps t [.LOOP_P_ECC q] ∧ t.f (Fld.LOOP_P_ECC_CE q) = min 65535 (s.f (Fld.LOOP_P_ECC_CE q) + eccErrors x) ∧
      ∃ w, (t.lp q).gain = some w ∧ w.at_ = issueCycle (s.lp q) o + 36 + eccCycles x ∧
        ∀ chk, new (localWord (unitFlush q w.at_ t) q chk) ∧
          ∀ y, y < localBase q + ra + 0x30 ∨ localBase q + ra + 0x40 ≤ y →
            memGet ((unitFlush q w.at_ t).own chk) y = memGet (u.own chk) y
    (placed → gives (.pilut q d a b c e .uncorrectable) s fun t => t.pairSt q = pairRetired ∧ u.keepsMem t) ∧
    (∀ x, ¬ placed → gives (.pilut q d a b c e x) s fun t =>
      out .ok t 0#32 false ∧ (∀ w, (t.lp q).gain = some w → w.lead = [] ∧ w.chk = []) ∧
      t.flag Fld.LOOP_STATUS_ACC_ERR = true ∧ t.flag Fld.SYS_STATUS_FAULT_NEW = true ∧ u.faultFrame t [0x400D]) ∧
    (∀ x, placed → ¬ recBad → argBad → x ≠ .uncorrectable → gives (.pilut q d a b c e x) s fun t =>
      out x t (get (ra + 0x34)) false ∧
      stores x t fun new => new (ra + 0x3C) = get (ra + 0x3C) ||| 0x00800000#32 ∧ ∀ j, j < 15 → new (ra + 4 * j) = get (ra + 4 * j)) ∧
    (∀ x kpA kiA kpP kiP, x ≠ .uncorrectable → placed → ¬ recBad → ¬ argBad → wGet (get (ra + 0x3C)) 0 9 = n.count % 256 →
      let cfg := get ra
      let st := get (ra + 0x38)
      let set_ (j : Nat) : Nat := wGet (get (ra + 0x04)) 4 12 * 16 + j * 0x410
      setOk get (set_ (wGet st 0 3)) = true → setOk get (set_ (wGet st 8 3)) = true →
      setGains get (set_ (wGet st 0 3)) (k.rf b) (Config.freeWord s.free) = some (kpA, kiA) →
      setGains get (set_ (wGet st 8 3)) (k.rf b) (Config.freeWord s.free) = some (kpP, kiP) →
      let w := if wGet cfg 8 8 = 0 then fNat 1 else (fDiv (fNat (min (wGet st 16 8) (wGet cfg 8 8))) (fNat (wGet cfg 8 8))).1
      let step := piStep w kpP kpA kiA (k.rf b) (k.rf c) (get (ra + 0x30)) (get (ra + 0x28)) (get (ra + 0x2C))
      gives (.pilut q d a b c e x) s fun t =>
        out x t step.1 true ∧
        stores x t fun new =>
          new (ra + 0x30) = step.2.1 ∧ new (ra + 0x34) = step.1 ∧
          wGet (new (ra + 0x38)) 4 3 = nextSet get ra cfg (k.rf e) (wGet st 0 3) % 8 ∧ wGet (new (ra + 0x38)) 0 3 = wGet st 0 3 ∧
          wGet (new (ra + 0x38)) 8 3 = wGet st 8 3 ∧ wGet (new (ra + 0x38)) 16 8 = wGet st 16 8 ∧
          (new (ra + 0x3C)).getLsbD 16 = step.2.2 ∧ (new (ra + 0x3C)).getLsbD 20 = ((get (ra + 0x3C)).getLsbD 20 || step.2.2) ∧
          wGet (new (ra + 0x3C)) 0 9 = n.count % 256)

/-- Where engine pair q can take its next instruction, with both copies alike: PILINIT stores fi in LREC_INT and LREC_OUT, 0 in ACT, NEXT
and PREV, 255 in RAMP_K and 0x100 in TAG with the other bits of LREC_STAT 0, and changes no other byte. TLU with X_MIN below X_MAX, fx a
number, and a position x that is finite and not negative gives a + f x (b - a) between the entries i and i + 1 with i = min(floor(x), 254)
and f = x - i. SINCOS with two different destinations gives a word within 2^-22 of the sine, or the sine rounded, and likewise the cosine.
PC moves by 4; corrected ECC errors count in CE, an uncorrectable one retires the pair; PV and, but for FFLAGS, everything else is
unchanged. The order of the FP32 operations and FFLAGS are the model's choice (log entries 61 and 62). (R134, R170, R172, R173, log entry
41, log entry 60, log entry 61, log entry 62). -/
def Obligations.GainTableInitialisationAndTables : Prop :=
  ∀ (s : State) (q : Fin 24) (d a b c : BitVec 5), s.ready q.castSucc = true →
    s.copyOf q.castSucc true = s.copyOf q.castSucc false →
    let p : Fin 25 := q.castSucc
    let k := s.copyOf p false
    let ra := (k.rx a).toNat
    let next (o : CoreOp) (i : Instr) (P : State → State → Core → Prop) : Prop :=
      let u := flushed s p o
      nextOp s p = some o → (∀ x, localWord u q true x = localWord u q false x) → gives i s fun t =>
      (∀ chk, P u t { t.copyOf p chk with fflags := k.fflags, pc := k.pc }) ∧ (∀ chk, (t.copyOf p chk).pc = k.pc + 4#32) ∧
      coreStep p (fun chk _ => t.copyOf p chk) u t
    let counted (e : Ecc) (u t : State) : Prop := coreOnly u { t with regs := u.regs } ∧ u.keeps t [.LOOP_P_ECC q] ∧
      t.f (Fld.LOOP_P_ECC_CE q) = min 65535 (s.f (Fld.LOOP_P_ECC_CE q) + eccErrors e)
    ((nextOp s p = some (.pilinit a b) → gives (.pilinit ⟨q, .uncorrectable⟩ a b) s fun t => t.pairSt q = pairRetired) ∧
      (nextOp s p = some (.tlu d a b) → gives (.tlu q d a b .uncorrectable) s fun t => t.pairSt q = pairRetired)) ∧
    (∀ e : Ecc, e ≠ .uncorrectable → ra % 4 = 0 → ra + 0x40 ≤ 0x10000 → next (.pilinit a b) (.pilinit ⟨q, e⟩ a b) fun u t m =>
      m = k ∧ counted e u { t with mem := u.mem, chk := u.chk } ∧
      ∀ chk, localWord t q chk (ra + 0x30) = k.rf b ∧ localWord t q chk (ra + 0x34) = k.rf b ∧
        localWord t q chk (ra + 0x38) = 0x00FF0000#32 ∧ localWord t q chk (ra + 0x3C) = 0x100#32 ∧
        ∀ x, x < localBase q + ra + 0x30 ∨ localBase q + ra + 0x40 ≤ x → memGet (t.own chk) x = memGet (u.own chk) x) ∧
    (let get := localWord (flushed s p (.tlu d a b)) q false
     let lo := get ra
     let hi := get (ra + 4)
     let x := (fDiv (fMul (fSub (fClamp (k.rf b) lo hi) lo).1 (fNat 255)).1 (fSub hi lo).1).1
     let i := min (fVal x).floor.toNat 254
     fIsNaN (k.rf b) = false → (fCompare false lo hi).1 = true → fFinite x = true → fNegative x = false → ra % 4 = 0 →
       ra + 0x408 ≤ 0x10000 → ∀ e : Ecc, e ≠ .uncorrectable → next (.tlu d a b) (.tlu q d a b e) fun u t m =>
         m = k.wf d (fLerp (get (ra + 8 + 4 * i)) (get (ra + 8 + 4 * (i + 1))) (fSub x (fNat i)).1) ∧ counted e u { t with free := u.free }) ∧
    (d ≠ c → next (.sincos d a c) (.sincos q d a c) fun u t m =>
      let near (w : Word) (v : Frac) : Prop := ((fVal w).sub v).abs.le ⟨1, 2 ^ 22⟩ = true ∨ w = (fOfFrac v).1
      near (m.rf d) (sinFrac (k.rx a)) ∧ near (m.rf c) (cosFrac (k.rx a)) ∧ (∀ r, r ≠ d → r ≠ c → m.rf r = k.rf r) ∧
      { m with f := k.f } = k ∧ coreOnly u { t with free := u.free })

/-- A reload copied every shadow of a group to its active copy (R203, R204). -/
def reloaded (g : Fin 16) (s t : State) : Prop :=
  (t.grp g).arm = none ∧ t.f (Fld.PWM_G_PER_ACT_PER g) = s.f (Fld.PWM_G_PER_PER g) ∧
    (∀ c, t.rd (.PWM_G_CMP_ACT g c) = s.rd (.PWM_G_CMP g c)) ∧ t.f (Fld.PWM_G_STATUS_XFER g) = 1 ∧ t.f (Fld.PWM_G_CTL_LOADALL g) = 0

/-- No reload reached a group. -/
def notReloaded (g : Fin 16) (s t : State) : Prop :=
  (t.grp g).arm = (s.grp g).arm ∧ t.rd (.PWM_G_PER_ACT g) = s.rd (.PWM_G_PER_ACT g) ∧
    ∀ c, t.rd (.PWM_G_CMP_ACT g c) = s.rd (.PWM_G_CMP_ACT g c)

/-- On a running group with the symmetric carrier: PERIOD_START happens PER core cycles after the last, or where a handover's load of PHASE
puts it (R235), takes a pending reload arm of an earlier peripheral cycle (every shadow to its active copy, XFER set, LOADALL 0), marks one
of the same peripheral cycle LATE, leaves one for the common mark, emits the period event to the windows and releases that select it unless
EVT is 1, and ends HOLD. PERIOD_CENTRE happens floor(PER / 2) core cycles after the period start, reloads only with RLD_CTR = 1 and emits
the event for EVT 1 and 2. COMMAND_EDGE of a channel that its carrier commands gives it the level that R193 gives at its position; an edge
turns the outgoing output off at once and the other on after its dead time, with pad edges 128 taps later; nothing else changes. Other
groups are unchanged. (R192, R193, R194, R200, R201, R203, R204, R205, R208, R235, R264). -/
def Obligations.GatePeriodsAndCommandEdges : Prop :=
  ∀ (s : State) (g : Fin 16) (c : Fin 9), s.dsgRun = false → s.gRun g = true →
    let r := s.grp g
    let others (t : State) : Prop := ∀ h, h ≠ g → t.grp h = s.grp h
    let evented (cyc : Nat) (t : State) : Prop :=
      t.post.win = s.post.win ++ pick 32 (cyc * 16) (winSel s 2 g.val) ∧ t.post.rel = s.post.rel ++ pick 512 cyc (relSel s 3 g.val)
    let reloads (cyc : Nat) (t : State) : Prop :=
      (∀ k, r.arm = some (false, k) → k / 4 < cyc / 4 → reloaded g s t) ∧
      (∀ k, r.arm = some (false, k) → cyc / 4 ≤ k / 4 → notReloaded g s t ∧ t.f (Fld.PWM_G_STATUS_LATE g) = 1 ∧
        t.flag Fld.SYS_STATUS_FAULT_NEW = true) ∧
      ((r.arm = none ∨ ∃ k, r.arm = some (true, k)) → notReloaded g s t)
    (∀ k, (r.sync = none → counterDue r k = (r.org + k).toNat) ∧
      (∀ (c : Nat) (ph : Int), r.sync = some (c, (c : Int) - ph) → r.org + k < c → counterDue r k = (r.org + k).toNat) ∧
      (∀ c : Nat, r.sync = some (c, (c : Int)) → (c : Int) ≤ r.org + k → counterDue r k = c + k % r.per) ∧
      (∀ c ph : Nat, ph ≠ 0 → r.sync = some (c, (c : Int) - ph) → (c : Int) ≤ r.org + k → counterDue r k = ((c : Int) - ph + k).toNat)) ∧
    (s.variable g = false →
      let cyc := counterDue r r.per
      gives (.periodStart g c) s fun t =>
        t.time = max s.time cyc ∧ (t.grp g).per = t.f (Fld.PWM_G_PER_ACT_PER g) ∧ reloads cyc t ∧
        (t.grp g).org = cyc ∧ (s.f (Fld.PWM_G_CFG_EVT g) ≠ 1 → evented cyc t) ∧ (s.f (Fld.PWM_G_CFG_EVT g) = 1 → t.post = s.post) ∧
        (s.flag (Fld.QNC_G_STATE_HOLD g) = true → s.qnc.holdCyc[g] ≠ cyc →
          t.flag (Fld.QNC_G_STATE_HOLD g) = false ∧ t.flag Fld.QNC_STATUS_RESUME = true) ∧
        others t ∧ s.faultFrame t [0x4004, 0x4005, 0x4008, 0x4009, 0x400C]) ∧
    (s.variable g = false →
      let cyc := counterDue r (r.per / 2)
      let evt := s.f (Fld.PWM_G_CFG_EVT g)
      gives (.periodCentre g) s fun t =>
        t.time = max s.time cyc ∧ (t.grp g).org = r.org ∧ (t.grp g).per = r.per ∧
        (s.flag (Fld.PWM_G_CFG_RLD_CTR g) = true → reloads cyc t) ∧
        (s.flag (Fld.PWM_G_CFG_RLD_CTR g) = false → t.regs = s.regs ∧ t.pwm = s.pwm ∧ s.keepsMem t) ∧
        (evt = 1 ∨ evt = 2 → evented cyc t) ∧ (evt = 0 → t.post = s.post) ∧
        others t ∧ s.faultFrame t [0x4004, 0x4005]) ∧
    (∀ tap, g.val ≠ 15 → carries s g c tap = true → gives (.commandEdge g c tap) s fun t =>
      let P := 16 * r.per
      let cmp := s.cmpAct g c
      let pos := carrierPos s g c tap
      let a := s.cell g c
      let b := t.cell g c
      let on := chanLevel s g c tap
      let high : Bool := on != s.swap g c
      (auxOf g = none → (on = true ↔ 0 < cmp ∧ (P ≤ cmp ∨ (P - cmp) / 2 ≤ pos ∧ pos < (P - cmp) / 2 + cmp))) ∧
      b.cmd = on ∧ t.time = max s.time (tap / 16) ∧
      (a.cmd = on → t.pwm = s.pwm) ∧
      (a.cmd ≠ on → g.val < 14 →
        (high = true → b.lo = false ∧ (a.lo = true → b.padLo = tap + 128) ∧ b.hi = a.hi ∧
          b.pend = some (.highOn, tap + s.f (if s.swap g c then Fld.PWM_G_DT_DT_HL g else Fld.PWM_G_DT_DT_LH g))) ∧
        (high = false → b.hi = false ∧ (a.hi = true → b.padHi = tap + 128) ∧ b.lo = false ∧
          ((cellParAt s g c tap).noLow = false →
            b.pend = some (.lowOn, tap + s.f (if s.swap g c then Fld.PWM_G_DT_DT_LH g else Fld.PWM_G_DT_DT_HL g))))) ∧
      (a.cmd ≠ on → g.val = 14 → b.hi = on ∧ b.padHi = tap + 128) ∧
      (∀ d, d ≠ c → t.cell g d = s.cell g d) ∧ others t ∧ { t with time := s.time, pwm := s.pwm } = s)

/-- On a running DC or DSC group in MODE 2 or 3 with no arm pending and no HOLD: a scheduled PERIOD_START turns the command of a channel
whose CMP is not 0 on and stores the length of the ended period in VPc_LAST. In MODE 2 ON_TIME_END ends the on interval TON after its start,
a peak event with PEN after BLANK and before the core cycle of its end ends it with PEAK set, a zero-current event after BLANK and not
beyond TMAX schedules the next start ZDLY after it takes effect, and TMAX_TIMEOUT starts the next period with ZTMO and 0x1182. In MODE 3 a
peak event after BLANK and not beyond TMAX, or TMAX_TIMEOUT with PTMO and 0x1183, ends the on interval, and OFF_TIME_END starts the next
period TOFF after it. A comparator event takes effect at tap 0 of the third core cycle after its own; one within BLANK is ignored, and one
that takes effect by TMAX comes before the timeout. Other channels and groups are unchanged. (R195, R196, R197, R198, R199, R208, R213,
R218). -/
def Obligations.VariablePeriods : Prop :=
  ∀ (s : State) (g : Fin 16) (c : Fin 4), s.dsgRun = false → s.gRun g = true → (g.val = 4 ∨ g.val = 5 ∨ g.val = 14) →
    (s.gMode g = 2 ∨ s.gMode g = 3) → (s.grp g).arm = none → s.flag (Fld.QNC_G_STATE_HOLD g) = false →
    let k : Fin 9 := ⟨c.val, by omega⟩
    let x := s.cell g k
    let n := s.cmpAct g k
    let tm := 16 * s.f (Fld.PWM_G_VPT_TMAX g)
    let rest (t : State) : Prop := (∀ h, h ≠ g → t.grp h = s.grp h) ∧ (∀ d, d ≠ k → t.cell g d = s.cell g d) ∧
      s.faultFrame t [0x4004, 0x4005, 0x4009]
    let started (tap : Nat) (t : State) : Prop :=
      t.time = max s.time (tap / 16) ∧ (t.cell g k).cmd = true ∧ (t.cell g k).on = true ∧ (t.cell g k).start = tap ∧
      (t.cell g k).next = none ∧ t.f (Fld.PWM_G_VP_LAST_T g c) = min ((tap - x.start) / 16) 0xFFFFFF ∧ rest t
    let fallen (tap : Nat) (t : State) : Prop :=
      t.time = max s.time (tap / 16) ∧ (t.cell g k).cmd = false ∧ (t.cell g k).on = false ∧ (t.cell g k).edge = tap ∧ rest t
    (∀ t0, x.next = some t0 → n ≠ 0 → gives (.periodStart g k) s (started (vpStartTime s g c t0))) ∧
    (s.gMode g = 2 → x.on = true → gives (.onTimeEnd g c) s fun t =>
      fallen (x.start + n) t ∧ s.keeps t [] ∧ s.keepsMem t) ∧
    (s.gMode g = 3 → x.on = false → x.next = none → n ≠ 0 → s.flag (Fld.PWM_G_CFG_INTLV g) = false →
      gives (.offTimeEnd g c) s (started (x.edge + n))) ∧
    let late (peak : Bool) (from_ : Nat) : Prop := ∀ e ∈ s.pwm.vpEv, e.g = g → e.c = c → e.peak = peak →
      from_ + 16 * s.f (Fld.PWM_G_VP_BLANK g) ≤ e.at_ → from_ + tm < (e.at_ / 16 + 3) * 16
    (s.gMode g = 2 → x.on = false → x.next = none → n ≠ 0 → ¬ late false x.edge → exec (.tmaxTimeout g c) s = .next s) ∧
    (s.gMode g = 3 → x.on = true → ¬ late true x.start → exec (.tmaxTimeout g c) s = .next s) ∧
    (s.gMode g = 2 → x.on = false → x.next = none → n ≠ 0 → s.flag (Fld.PWM_G_CFG_INTLV g) = false → late false x.edge →
      gives (.tmaxTimeout g c) s fun t => started (x.edge + tm) t ∧ t.f (Fld.PWM_G_STATUS_ZTMO g) = 1 ∧
        t.flag Fld.SYS_STATUS_FAULT_NEW = true) ∧
    (s.gMode g = 3 → x.on = true → late true x.start → gives (.tmaxTimeout g c) s fun t =>
      fallen (x.start + tm) t ∧ t.f (Fld.PWM_G_STATUS_PTMO g) = 1 ∧ t.flag Fld.SYS_STATUS_FAULT_NEW = true) ∧
    (∀ tap l, takeVp g c false s.pwm.vpEv = (some tap, l) →
      let te := (tap / 16 + 3) * 16
      s.gMode g = 2 → x.on = false → x.next = none → n ≠ 0 →
      (x.edge + 16 * s.f (Fld.PWM_G_VP_BLANK g) ≤ tap → te ≤ x.edge + tm → gives (.zeroCurrentEvent g c) s fun t =>
        t.time = max s.time (te / 16) ∧ (t.cell g k).next = some (te + 16 * s.f (Fld.PWM_G_VP_ZDLY g)) ∧ t.pwm.vpEv = l ∧
        rest t ∧ s.keeps t [] ∧ s.keepsMem t) ∧
      (tap < x.edge + 16 * s.f (Fld.PWM_G_VP_BLANK g) →
        exec (.zeroCurrentEvent g c) s = .next { s with pwm := { s.pwm with vpEv := l } })) ∧
    (∀ tap l, takeVp g c true s.pwm.vpEv = (some tap, l) → x.on = true →
      let te := (tap / 16 + 3) * 16
      (x.start + 16 * s.f (Fld.PWM_G_VP_BLANK g) ≤ tap →
        (s.gMode g = 2 → s.flag (Fld.PWM_G_SNS_PEN g c) = true → te / 16 < (x.start + n) / 16 → gives (.peakEvent g c) s fun t =>
          fallen te t ∧ t.f (Fld.PWM_G_STATUS_PEAK g) = 1 ∧ t.pwm.vpEv = l ∧ s.keeps t [.PWM_G_STATUS g] ∧ s.keepsMem t) ∧
        (s.gMode g = 3 → te ≤ x.start + tm → gives (.peakEvent g c) s fun t =>
          fallen te t ∧ t.pwm.vpEv = l ∧ s.keeps t [] ∧ s.keepsMem t)) ∧
      (tap < x.start + 16 * s.f (Fld.PWM_G_VP_BLANK g) ∨ (s.gMode g = 2 ∧ (x.start + n) / 16 ≤ te / 16) →
        exec (.peakEvent g c) s = .next { s with pwm := { s.pwm with vpEv := l } }))

/-- DEAD_TIME_EXPIRY turns the waiting side on at its due tap; a high side whose timer has reached T_BOOT and whose command stays on through
the cycle stays off and a refresh begins with REFRESH set. BOOTSTRAP_REFRESH begins a refresh in the cycle in which the timer reaches T_BOOT
with the high side on and its command staying on, and otherwise does the next step: low side on after the dead time, off T_REF later with
the timer restarted, high side on after the other dead time; so it does the low-side pulses of R291. DELAY_REGISTER_WRITE stores the fields
that are not reserved and opens, if there are any, the pair of a stopped group in CONFIG or SAFE (an ASC pair: while the configuration is
not locked); a changing write to a running group only sets WR_IGN. COMPLEMENT_WRITE stores the complement and closes the pair: matching, the
pair's cause ends; a mismatch of DT sets DT_ERR, records a fault, makes source 116 active and, where it is new, latched and sends an AX
group's axis to SAFE_HOLD. What the write codes do not accept leaves the pair as it was. (R201, R202, R210, R211, R212, R217, R270, R291,
R48). -/
def Obligations.DeadTimeRefreshAndDelayPairs : Prop :=
  (∀ (s : State) (g : Fin 16) (c : Fin 9) (due : Nat),
    let x := s.cell g c
    let p := cellParAt s g c s.now
    let rest (t : State) : Prop := (∀ h, h ≠ g → t.grp h = s.grp h) ∧ (∀ d, d ≠ c → t.cell g d = s.cell g d) ∧
      s.keeps t [.PWM_G_STATUS g] ∧ s.keepsMem t
    let refresh (t0 : Nat) (t : State) : Prop :=
      t.time = max s.time (t0 / 16) ∧ (t.cell g c).hi = false ∧ (t.cell g c).pend = some (.refLowOn, t0 + p.toLow) ∧
      (x.hi = true → (t.cell g c).padHi = t0 + 128) ∧ t.f (Fld.PWM_G_STATUS_REFRESH g) = 1 ∧ rest t
    let kept (t : State) : Prop := t.time = max s.time (due / 16) ∧ t.regs = s.regs ∧ rest t
    (x.pend = some (.lowOn, due) → gives (.deadTimeExpiry g c) s fun t =>
      (t.cell g c).lo = true ∧ (t.cell g c).hi = x.hi ∧ (t.cell g c).pend = none ∧
      (x.lo = false → (t.cell g c).padLo = due + 128 ∧ (t.cell g c).loT = due) ∧ kept t) ∧
    (x.pend = some (.highOn, due) →
      (s.refreshes g = true ∧ bootDue s g c ≤ due ∧ driveStays s g c due = true → gives (.deadTimeExpiry g c) s (refresh (due / 16 * 16))) ∧
      (¬ (s.refreshes g = true ∧ bootDue s g c ≤ due ∧ driveStays s g c due = true) → gives (.deadTimeExpiry g c) s fun t =>
        (t.cell g c).hi = true ∧ (t.cell g c).lo = x.lo ∧ (t.cell g c).pend = none ∧
        (x.hi = false → (t.cell g c).padHi = due + 128) ∧ kept t)) ∧
    (let t0 := bootDue s g c / 16 * 16
     x.pend = none → s.gRun g = true → s.refreshes g = true → x.hi = true →
      (driveStays s g c t0 = true → gives (.bootstrapRefresh g c) s (refresh t0)) ∧
      (driveStays s g c t0 = false → exec (.bootstrapRefresh g c) s = .next s)) ∧
    (x.pend = some (.refLowOn, due) → gives (.bootstrapRefresh g c) s fun t =>
      (t.cell g c).lo = true ∧ (t.cell g c).hi = x.hi ∧
      (t.cell g c).pend = some (.refLowOff, due + 16 * s.f (Fld.PWM_G_BOOT_T_REF g)) ∧ kept t) ∧
    (x.pend = some (.refLowOff, due) → gives (.bootstrapRefresh g c) s fun t =>
      (t.cell g c).lo = false ∧ (t.cell g c).hi = x.hi ∧ (t.cell g c).refT = due ∧
      (t.cell g c).pend = some (.refHighOn, due + p.toHigh) ∧ kept t) ∧
    (x.pend = some (.refHighOn, due) → gives (.bootstrapRefresh g c) s fun t =>
      (t.cell g c).hi = true ∧ (t.cell g c).lo = x.lo ∧ (t.cell g c).pend = none ∧ kept t) ∧
    (x.pend = some (.pulseOn, due) → gives (.bootstrapRefresh g c) s fun t =>
      (t.cell g c).lo = true ∧ (t.cell g c).hi = x.hi ∧
      (t.cell g c).pend = some (.pulseOff, due + 16 * s.f (Fld.PWM_G_BOOT_T_REF g)) ∧ kept t) ∧
    (x.pend = some (.pulseOff, due) → (∀ n, auxOf g = some n → due < (s.aux[n]).pulseEnd) → gives (.bootstrapRefresh g c) s fun t =>
      (t.cell g c).lo = false ∧ (t.cell g c).hi = x.hi ∧ (t.cell g c).pend = none ∧ kept t)) ∧
  (∀ (s : State) (g : Fin 16) (v : Word), s.dsgRun = false →
    let cfg := s.dev = devConfig ∨ s.dev = devSafe
    let others (t : State) : Prop := ∀ h, h ≠ g → t.grp h = s.grp h
    (cfg → s.gRun g = false →
      (writes (.delayRegisterWrite (.dt g) v) s fun s t =>
        t.rd (.PWM_G_DT g) = v ∧ (t.grp g).dtOpen = true ∧ t.f (Fld.PWM_G_STATUS_OPEN g) = 1 ∧ others t ∧
        s.keepsOutside t [0x4004, 0x4005] ∧ s.keepsMem t) ∧
      (writes (.delayRegisterWrite (.boot g) v) s fun s t =>
        t.f (Fld.PWM_G_BOOT_T_REF g) = (if wGet v 0 12 = 0 then s.f (Fld.PWM_G_BOOT_T_REF g) else wGet v 0 12) ∧
        t.f (Fld.PWM_G_BOOT_T_BOOT g) = (if wGet v 16 16 = 0 then s.f (Fld.PWM_G_BOOT_T_BOOT g) else wGet v 16 16) ∧
        (t.grp g).bootOpen = ((s.grp g).bootOpen || decide (wGet v 0 12 ≠ 0 ∨ wGet v 16 16 ≠ 0)) ∧
        ((wGet v 0 12 ≠ 0 ∨ wGet v 16 16 ≠ 0) → t.f (Fld.PWM_G_STATUS_OPEN g) = 1) ∧ others t ∧
        s.keepsOutside t [0x4004, 0x4005] ∧ s.keepsMem t) ∧
      (writes (.complementWrite (.dt g) v) s fun s t =>
        t.rd (.PWM_G_DT_C g) = v ∧ (t.grp g).dtOpen = false ∧ (t.grp g).dtBad = decide (s.rd (.PWM_G_DT g) ≠ ~~~v) ∧
        (s.rd (.PWM_G_DT g) = ~~~v → t.f (Fld.PWM_G_STATUS_DT_ERR g) = s.f (Fld.PWM_G_STATUS_DT_ERR g)) ∧
        (s.rd (.PWM_G_DT g) ≠ ~~~v → t.f (Fld.PWM_G_STATUS_DT_ERR g) = 1 ∧ t.flag Fld.SYS_STATUS_FAULT_NEW = true ∧
          ((s.grp g).dtBad = false → t.raw 116 = true ∧ t.latch 116 = true) ∧ ∀ n : Fin 4, n.val = g.val → t.axis n = axHold) ∧
        s.faultFrame t [0x4004, 0x4005, 0x4008, 0x400C])) ∧
    (cfg → s.gRun g = true → v ≠ s.rd (.PWM_G_DT g) → writes (.delayRegisterWrite (.dt g) v) s fun s t =>
      t.f (Fld.PWM_G_STATUS_WR_IGN g) = 1 ∧ t.pwm = s.pwm ∧ s.onlyRegs t [.PWM_G_STATUS g]) ∧
    (¬ cfg → s.gRun g = false → writes (.delayRegisterWrite (.dt g) v) s fun s t => t = s.wr (.PWM_G_DT g) (s.rd (.PWM_G_DT g))) ∧
    (∀ k : Fin 2, s.locked = false → writes (.delayRegisterWrite (.asc k) v) s fun s t =>
      t.rd (.QNC_ASC_DLY k) = v ∧ t.qnc.ascOpen.getLsbD k.val = true ∧
      (∀ h : Fin 16, h.val < 15 → h.val / 8 = k.val → t.f (Fld.PWM_G_STATUS_OPEN h) = 1) ∧
      t.pwm = s.pwm ∧ s.keepsOutside t [0x4004, 0x4005, 0x4008] ∧ s.keepsMem t))

/-- LOADALL_ARM of a group without a pending arm arms it with the XSRC in force (a CTL write brings its own) and the present core cycle, and
sets LATE if the transfer event of that kind has already come in that cycle; of an armed group it changes XSRC at most. SHADOW_WRITE stores
the value (PER below 64 is not taken) while no arm is pending, and otherwise leaves the shadow and sets TORN_WR with 0x1180. GROUP_START
starts every named group that is stopped, has MODE other than 0 and no open delay pair or mismatch in this cycle: RUN is set, the counter
holds PHASE, a pending arm of either kind transfers, and each pair of a symmetric AX or DC group begins with both outputs off and turns its
side on after its dead time; a refused group keeps everything but WR_IGN. GROUP_STOP stops every named running group with its count kept,
every output and command off and the arm kept. Groups not named are unchanged. (R203, R204, R205, R206, R207, R209, R213, R217, R218, R264). -/
def Obligations.ShadowsArmsStartsAndStops : Prop :=
  (∀ (s : State) (g : Fin 16) (v : Word), s.dsgRun = false →
    let arm := (s.grp g).arm
    (∀ ctl : Option Bool,
      let x := ctl.getD (s.flag (Fld.PWM_G_CTL_XSRC g))
      (arm = none → writes (.loadallArm g ctl) s fun s t =>
        (t.grp g).arm = some (x, s.time) ∧ t.f (Fld.PWM_G_CTL_LOADALL g) = 1 ∧ t.flag (Fld.PWM_G_CTL_XSRC g) = x ∧
        t.bitOf .PWM_LOADALL g.val = true ∧
        ((if x then (s.grp g).lastMark else (s.grp g).lastRld) = some s.perCycle →
          t.f (Fld.PWM_G_STATUS_LATE g) = 1 ∧ t.flag Fld.SYS_STATUS_FAULT_NEW = true) ∧
        ((if x then (s.grp g).lastMark else (s.grp g).lastRld) ≠ some s.perCycle →
          s.keeps t [.PWM_G_CTL g, .PWM_LOADALL] ∧ s.keepsMem t) ∧
        (∀ h, h ≠ g → t.grp h = s.grp h) ∧ s.faultFrame t [0x4004, 0x4005]) ∧
      (arm.isSome = true → writes (.loadallArm g ctl) s fun s t =>
        t.pwm = s.pwm ∧ t.flag (Fld.PWM_G_CTL_XSRC g) = x ∧ s.onlyRegs t [.PWM_G_CTL g])) ∧
    (arm = none →
      (writes (.shadowWrite g .per v) s fun s t =>
        t.f (Fld.PWM_G_PER_PER g) = (if wGet v 0 24 < 64 then s.f (Fld.PWM_G_PER_PER g) else wGet v 0 24) ∧
        s.onlyRegs t [.PWM_G_PER g]) ∧
      (∀ c, writes (.shadowWrite g (.cmp c) v) s fun s t =>
        wGet (t.rd (.PWM_G_CMP g c)) 0 28 = wGet v 0 28 ∧ s.onlyRegs t [.PWM_G_CMP g c]) ∧
      (∀ a : Fin 4, axGroup a = g → writes (.shadowWrite g .psel v) s fun s t =>
        t.f (Fld.PWM_G_PSEL_PSEL a) = wGet v 0 6 ∧ s.onlyRegs t [.PWM_G_PSEL a])) ∧
    (arm.isSome = true → ∀ r, (g.val < 4 ∨ r ≠ .psel) → writes (.shadowWrite g r v) s fun s t =>
      t.f (Fld.PWM_G_STATUS_TORN_WR g) = 1 ∧ t.flag Fld.SYS_STATUS_FAULT_NEW = true ∧ t.pwm = s.pwm ∧
      t.rd (.PWM_G_PER g) = s.rd (.PWM_G_PER g) ∧ (∀ c, t.rd (.PWM_G_CMP g c) = s.rd (.PWM_G_CMP g c)) ∧
      (∀ a, t.rd (.PWM_G_PSEL a) = s.rd (.PWM_G_PSEL a)) ∧ s.faultFrame t [0x4004, 0x4005])) ∧
  (∀ (s : State) (mask : BitVec 16), s.dsgRun = false →
    (writes (.groupStart mask) s fun s t =>
      t.time = s.time ∧ s.faultFrame t [0x4004, 0x4005, 0x4008, 0x4009, 0x400C] ∧ ∀ g : Fin 16,
        let refused := s.gMode g = 0 ∨ s.pairOpen g = true ∨ s.gRun g = true ∨ (s.grp g).errCyc = some s.perCycle
        (mask.getLsbD g.val = false → t.grp g = s.grp g ∧ t.rd (.PWM_G_STATUS g) = s.rd (.PWM_G_STATUS g)) ∧
        (mask.getLsbD g.val = true → refused → t.grp g = s.grp g ∧ t.f (Fld.PWM_G_STATUS_WR_IGN g) = 1 ∧
          t.f (Fld.PWM_G_STATUS_RUN g) = s.f (Fld.PWM_G_STATUS_RUN g)) ∧
        (mask.getLsbD g.val = true → ¬ refused →
          t.f (Fld.PWM_G_STATUS_RUN g) = 1 ∧ (t.grp g).arm = none ∧ (t.grp g).per = t.f (Fld.PWM_G_PER_ACT_PER g) ∧
          (s.gMode g ≠ 4 → s.variable g = false → (t.grp g).org = (s.time : Int) - s.f (Fld.PWM_G_PHASE_PHASE g)) ∧
          ((s.grp g).arm.isSome = true → reloaded g s t) ∧ ((s.grp g).arm = none → notReloaded g s t) ∧
          ∀ c : Fin 9, g.val < 6 → s.gMode g = 1 → c.val < chans g → (3 ≤ c.val → g.val < 4 → s.flag (Fld.PWM_G_CFG_TOPO g) = true) →
            (t.cell g c).hi = false ∧ (t.cell g c).lo = false ∧
            (t.cell g c).pend = (if (t.cell g c).cmd != s.swap g c then some (.highOn, s.now + (s.cellPar g c).toHigh)
              else some (.lowOn, s.now + (s.cellPar g c).toLow)))) ∧
    (writes (.groupStop mask) s fun s t =>
      t.time = s.time ∧ s.keepsOutside t [0x4004, 0x4005, 0x4008] ∧ s.keepsMem t ∧ t.post = s.post ∧ ∀ g : Fin 16,
        (mask.getLsbD g.val = false ∨ s.gRun g = false → t.grp g = s.grp g ∧ t.rd (.PWM_G_STATUS g) = s.rd (.PWM_G_STATUS g) ∧
          t.rd (.PWM_G_CNT g) = s.rd (.PWM_G_CNT g)) ∧
        (mask.getLsbD g.val = true → s.gRun g = true →
          t.f (Fld.PWM_G_STATUS_RUN g) = 0 ∧ t.f (Fld.PWM_G_CNT_CNT g) = s.gCnt g % 2 ^ 24 ∧ (t.grp g).arm = (s.grp g).arm ∧
          (∀ c, (t.cell g c).hi = false ∧ (t.cell g c).lo = false ∧ (t.cell g c).cmd = false ∧ (t.cell g c).pend = none) ∧
          t.flag (Fld.QNC_G_STATE_HOLD g) = false)))

/-- PATTERN_CHECK_START of a pattern that no MODE 4 group names, with no check running, stores its word with VALID 0 and starts a check that
ends N + 4 peripheral cycles later; while one runs it only sets IGN. PATTERN_CHECK_DONE ends the check: BUSY clears and the pattern gets
VALID with OK and RULE 0 exactly if the five rules of R223 hold, otherwise OK is 0, RULE is from 1 to 5 and no memory changes.
PATTERN_ENTRY_WRITE of an angle entry that no named pattern holds stores the word, takes VALID from the valid patterns that hold it and
cancels a check over it with RULE 6; one that a named pattern holds changes no memory and sets WR_IGN. PATTERN_EDGE before the handover's
instant brings device time there and gives the phase the level of the handover's cycle; after it, it gives the phase the level that R229
computes from the compensated angles of the core cycle: LVL shows it and the channels of a two-level or three-level phase take its commands;
a level that stays sets no MERGE. (R220, R221, R222, R223, R224, R225, R227, R229, R230, R232, R236, log entry 4). -/
def Obligations.PulsePatterns : Prop :=
  (∀ (s : State) (k : Fin 64) (v : Word), k ≠ 0 → s.dsgRun = false →
    let w := v &&& 0x137F7FFF#32
    let a := 0x40060000 + 16 * k.val
    let named := ∃ g : Fin 4, s.gMode (axGroup g) = 4 ∧ (s.f (Fld.PWM_G_PSEL_PSEL g) = k.val ∨ s.f (Fld.PWM_G_PSEL_ACT_PSEL g) = k.val)
    (s.pwm.chk = none → ¬ named → writes (.patternCheckStart k v) s fun s t =>
      t.memW a = w ∧ (∀ x, x < a ∨ a + 4 ≤ x → memGet t.mem x = memGet s.mem x) ∧ t.chk = s.chk ∧
      t.pwm.chk = some (k.val, w, s.time + 4 * (wGet w 16 7 + 4)) ∧ t.f Fld.PWM_PAT_CHK_PAT = k.val ∧
      t.f Fld.PWM_PAT_CHK_BUSY = 1 ∧ t.pwm.g = s.pwm.g ∧ s.keeps t [.PWM_PAT_CHK]) ∧
    (s.pwm.chk.isSome = true → ¬ named → writes (.patternCheckStart k v) s fun s t =>
      t.f Fld.PWM_PAT_CHK_IGN = 1 ∧ s.onlyRegs t [.PWM_PAT_CHK]) ∧
    (∀ due, s.pwm.chk = some (k.val, w, due) →
      let n := wGet w 16 7
      let f := wGet w 0 15
      let l0 := wGet w 24 2
      let three := w.getLsbD 28 = true
      let ang (i : Nat) : Nat := wGet (s.memW (0x40060400 + 4 * (f + i))) 0 30
      let lvl (i : Nat) : Nat := wGet (s.memW (0x40060400 + 4 * (f + i))) 30 2
      let fits (l : Nat) : Prop := l = 2 ∨ (three ∧ l = 1) ∨ (¬ three ∧ l = 0)
      let good := 1 ≤ n ∧ f + n - 1 ≤ 32511 ∧ 1 ≤ ang 0 ∧ (∀ i, i + 1 < n → ang i < ang (i + 1)) ∧
        (∀ i, i < n → fits (lvl i) ∧ lvl i ≠ (if i = 0 then l0 else lvl (i - 1))) ∧ fits l0
      gives .patternCheckDone s fun t =>
        t.time = max s.time due ∧ t.pwm.chk = none ∧ t.f Fld.PWM_PAT_CHK_BUSY = 0 ∧
        (good → t.f Fld.PWM_PAT_CHK_OK = 1 ∧ t.f Fld.PWM_PAT_CHK_RULE = 0 ∧ t.memW a = s.memW a ||| 0x80000000#32 ∧
          ∀ x, x < a ∨ a + 4 ≤ x → memGet t.mem x = memGet s.mem x) ∧
        (¬ good → t.f Fld.PWM_PAT_CHK_OK = 0 ∧ 1 ≤ t.f Fld.PWM_PAT_CHK_RULE ∧ t.f Fld.PWM_PAT_CHK_RULE ≤ 5 ∧ t.mem = s.mem) ∧
        t.chk = s.chk ∧ t.pwm.g = s.pwm.g ∧ s.keeps t [.PWM_PAT_CHK])) ∧
  (∀ (s : State) (i : Fin 32768) (v : Word), 256 ≤ i.val →
    let e := i.val - 256
    let holds (k : Nat) : Prop := 0 < k ∧ k < 64 ∧ patHas s k e = true
    let named (g : Fin 4) (k : Nat) : Prop :=
      s.gMode (axGroup g) = 4 ∧ (s.f (Fld.PWM_G_PSEL_PSEL g) = k ∨ s.f (Fld.PWM_G_PSEL_ACT_PSEL g) = k)
    ((∀ g k, holds k → ¬ named g k) → writes (.patternEntryWrite i v) s fun s t =>
      t.memW (0x40060000 + 4 * i.val) = v ∧ t.chk = s.chk ∧ t.pwm.g = s.pwm.g ∧
      (∀ k, holds k → (patW0 t k).getLsbD 31 = false ∧ wGet (patW0 t k) 0 31 = wGet (patW0 s k) 0 31) ∧
      (∀ k, k < 64 → ¬ holds k → patW0 t k = patW0 s k) ∧
      (∀ x, x < 0x40060000 ∨ 0x40060400 ≤ x → x < 0x40060000 + 4 * i.val ∨ 0x40060000 + 4 * i.val + 4 ≤ x →
        memGet t.mem x = memGet s.mem x) ∧
      (∀ k w due, s.pwm.chk = some (k, w, due) → wGet w 0 15 ≤ e → e < wGet w 0 15 + wGet w 16 7 →
        t.pwm.chk = none ∧ t.f Fld.PWM_PAT_CHK_RULE = 6 ∧ t.f Fld.PWM_PAT_CHK_OK = 0 ∧ t.f Fld.PWM_PAT_CHK_BUSY = 0) ∧
      s.keeps t [.PWM_PAT_CHK]) ∧
    (∀ g k, holds k → named g k → writes (.patternEntryWrite i v) s fun s t =>
      t.f (Fld.PWM_G_STATUS_WR_IGN (axGroup g)) = 1 ∧ t.pwm = s.pwm ∧ s.keepsMem t ∧
      s.onlyRegs t ((List.finRange 16).map Reg.PWM_G_STATUS))) ∧
  (∀ (s : State) (g : Fin 4) (ph : Fin 3) (cyc : Nat) (lvl : Nat) (cmds : List (Nat × Bool)), s.gRun (axGroup g) = true →
    s.gMode (axGroup g) = 4 → s.f (Fld.PWM_G_PSEL_ACT_PSEL g) ≠ 0 → (s.grp (axGroup g)).patPh.getLsbD ph.val = false →
    (s.grp (axGroup g)).hovLv[ph.val]? = some (lvl, cmds) → lvl < 3 →
    gives (.patternEdge g ph cyc) s fun t =>
      t.time = max s.time ((s.grp (axGroup g)).hov / 16) ∧ t.f (Fld.PWM_G_PAT_STATUS_PAT_ON g) = 1 ∧
      (t.grp (axGroup g)).patPh.getLsbD ph.val = true ∧ wGet (t.rd (.PWM_G_PAT_STATUS g)) (20 + 2 * ph.val) 2 = lvl ∧
      (∀ p : Fin 3, p ≠ ph → wGet (t.rd (.PWM_G_PAT_STATUS g)) (20 + 2 * p.val) 2 = wGet (s.rd (.PWM_G_PAT_STATUS g)) (20 + 2 * p.val) 2) ∧
      (∀ h, h ≠ axGroup g → t.grp h = s.grp h) ∧ s.faultFrame t [0x4004, 0x4005]) ∧
  (∀ (s : State) (g : Fin 4) (ph : Fin 3) (cyc : Nat), s.gRun (axGroup g) = true → s.gMode (axGroup g) = 4 →
    s.f (Fld.PWM_G_PSEL_ACT_PSEL g) ≠ 0 → (s.grp (axGroup g)).patPh.getLsbD ph.val = true → s.dsgRun = false →
    gives (.patternEdge g ph cyc) s fun t =>
      let k := s.f (Fld.PWM_G_PSEL_ACT_PSEL g)
      let l (adv : Nat) : Nat := patLevel (wGet (patW0 s k) 24 2) (patEntries s k) (patPhi s g ph.val cyc (patTc s g + adv)).toNat
      let up := (signTimes s g ph.val cyc).1
      let dn := (signTimes s g ph.val cyc).2
      let lvl := if dn ≤ up then max (l up) (l dn) else min (l up) (l dn)
      let old := wGet (s.rd (.PWM_G_PAT_STATUS g)) (20 + 2 * ph.val) 2
      let first := (patPhi s g ph.val cyc (patTc s g)).toNat < 2 ^ 31
      let map := if lvl = 2 then s.f (Fld.PWM_G_PAT_LVL_P g) else if lvl = 0 then s.f (Fld.PWM_G_PAT_LVL_N g)
        else if first then s.f (Fld.PWM_G_PAT_LVL_OP g) else s.f (Fld.PWM_G_PAT_LVL_ON g)
      t.time = max s.time cyc ∧ wGet (t.rd (.PWM_G_PAT_STATUS g)) (20 + 2 * ph.val) 2 = lvl ∧
      (∀ p : Fin 3, p ≠ ph → wGet (t.rd (.PWM_G_PAT_STATUS g)) (20 + 2 * p.val) 2 = wGet (s.rd (.PWM_G_PAT_STATUS g)) (20 + 2 * p.val) 2) ∧
      (s.flag (Fld.PWM_G_CFG_TOPO (axGroup g)) = false → (t.cell (axGroup g) ⟨ph.val, by omega⟩).cmd = decide (lvl = 2) ∧
        ∀ c : Fin 9, c.val ≠ ph.val → t.cell (axGroup g) c = s.cell (axGroup g) c) ∧
      (s.flag (Fld.PWM_G_CFG_TOPO (axGroup g)) = true →
        (∀ j : Fin 3, (t.cell (axGroup g) ⟨3 * ph.val + j.val, by omega⟩).cmd = decide (map / 2 ^ j.val % 2 = 1)) ∧
        ∀ c : Fin 9, c.val / 3 ≠ ph.val → t.cell (axGroup g) c = s.cell (axGroup g) c) ∧
      (lvl = old → t.f (Fld.PWM_G_PAT_STATUS_MERGE g) = s.f (Fld.PWM_G_PAT_STATUS_MERGE g) ∧ s.keepsMem t) ∧
      (∀ h, h ≠ axGroup g → t.grp h = s.grp h) ∧ s.faultFrame t [0x4004, 0x4005])

/-- COMPARATOR_CHANGE of an enabled comparator with its supply, not under sweep, sets HI where the voltage is above V_HI, or HI stood and it
is at least V_HI - V_HYS, and LO likewise below V_LO and up to V_LO + V_HYS; in LEVEL mode a 1 sets its LAT bit, in EDGE mode a rise sets
its EDGE bit and LAT stays; its Quench source is HI, LO or either by QSEL and a newly active one with an enabled row latches; with EN = 0 HI
and LO are 0; under sweep only the voltage is noted. THRESHOLD_WRITE stores the fields and the outputs follow them, but once the
configuration is locked and the row enabled EN, HYS, QSEL and the thresholds keep their values and a changing write sets WR_IGN.
TOUCHSTONE_SWEEP_START comes every TS_INT ms and takes the next comparator in ascending order; if the conditions of R267 hold TEST, BUSY and
LAST are set, otherwise TS_SKIP is set. TOUCHSTONE_SWEEP_END comes 19.0 us after the start, clears TEST and BUSY, and passes exactly if the
outputs required of R268 were found; a failure sets TS_FAIL, records a fault and sends the axes of the row to SAFE_HOLD. Losing VDDA_CMP
drives every enabled comparator's HI and LO to 1, and its return gives them what the voltage, the thresholds and the hysteresis make of
them. (R242, R243, R244, R246, R249, R267, R268, R269, R510, log entry 4, log entry 37). -/
def Obligations.ComparatorsAndTouchstone : Prop :=
  ∀ (s : State) (w : Fin 64), s.dsgRun = false →
    let src : Fin 128 := ⟨w.val, by omega⟩
    let en := s.flag (Fld.CMP_WC_CTL_EN w)
    let mode := s.flag (Fld.CMP_WC_CTL_MODE w)
    let hi0 := s.f (Fld.CMP_WC_STAT_HI w)
    let lo0 := s.f (Fld.CMP_WC_STAT_LO w)
    let frame (s t : State) : Prop := s.faultFrame t [0x4008, 0x4009, 0x400C]
    let tv (f : RF) : Nat := s.f f * 3200
    let hys := match s.f (Fld.CMP_WC_CTL_HYS w) with | 0 => 0 | 1 => 10000 | 2 => 20000 | _ => 40000
    let aboveHi (uv : Nat) : Bool := decide (tv (Fld.CMP_WC_TH_TH_HI w) < uv ∨ (hi0 = 1 ∧ tv (Fld.CMP_WC_TH_TH_HI w) ≤ uv + hys))
    let belowLo (uv : Nat) : Bool := decide (uv < tv (Fld.CMP_WC_TH_TH_LO w) ∨ (lo0 = 1 ∧ uv ≤ tv (Fld.CMP_WC_TH_TH_LO w) + hys))
    (∀ (mv : Nat) (frac : Fin 1000) (tap : Nat), s.flag (Fld.CMP_WC_STAT_TEST w) = false →
      let uv := mv * 1000 + frac.val
      let above := aboveHi uv
      let below := belowLo uv
      (en = true → s.cmp.lost = false → gives (.comparatorChange w mv frac tap) s fun t =>
        let q := s.f (Fld.CMP_WC_CTL_QSEL w)
        let now := (q ≠ 1 ∧ above = true) ∨ (q ≠ 0 ∧ below = true)
        t.time = max s.time (tap / 16) ∧ t.f (Fld.CMP_WC_STAT_HI w) = bit above ∧ t.f (Fld.CMP_WC_STAT_LO w) = bit below ∧
        t.f (Fld.CMP_WC_STAT_LAT_HI w) = (if mode = false ∧ above = true then 1 else s.f (Fld.CMP_WC_STAT_LAT_HI w)) ∧
        t.f (Fld.CMP_WC_STAT_LAT_LO w) = (if mode = false ∧ below = true then 1 else s.f (Fld.CMP_WC_STAT_LAT_LO w)) ∧
        t.f (Fld.CMP_WC_STAT_EDGE_HI w) = (if mode = true ∧ above = true ∧ hi0 = 0 then 1 else s.f (Fld.CMP_WC_STAT_EDGE_HI w)) ∧
        t.f (Fld.CMP_WC_STAT_EDGE_LO w) = (if mode = true ∧ below = true ∧ lo0 = 0 then 1 else s.f (Fld.CMP_WC_STAT_EDGE_LO w)) ∧
        (t.raw src = true ↔ now) ∧
        (now → s.raw src = false → s.flag (Fld.QNC_ROUTE_EN src) = true → t.latch src = true) ∧
        (¬ now → t.latch src = s.latch src) ∧ t.cmp.vin[w] = uv ∧ frame s t) ∧
      (en = false → gives (.comparatorChange w mv frac tap) s fun t =>
        t.f (Fld.CMP_WC_STAT_HI w) = 0 ∧ t.f (Fld.CMP_WC_STAT_LO w) = 0 ∧ frame s t)) ∧
    (∀ (mv : Nat) (frac : Fin 1000) (tap : Nat), s.flag (Fld.CMP_WC_STAT_TEST w) = true → gives (.comparatorChange w mv frac tap) s fun t =>
      { t with cmp := s.cmp, time := s.time } = s ∧ t.cmp.vin[w] = mv * 1000 + frac.val) ∧
    (∀ v : Word,
      let fixed := s.locked = true ∧ s.flag (Fld.QNC_ROUTE_EN src) = true
      (¬ fixed → writes (.thresholdWrite w false v) s fun s t =>
        t.f (Fld.CMP_WC_TH_TH_LO w) = wGet v 0 10 ∧ t.f (Fld.CMP_WC_TH_TH_HI w) = wGet v 16 10 ∧ frame s t ∧
        (s.flag (Fld.CMP_WC_STAT_TEST w) = false → en = true → s.cmp.lost = false →
          (t.f (Fld.CMP_WC_STAT_HI w) = 1 ↔ (wGet v 16 10 * 3200 < s.cmp.vin[w] ∨ (hi0 = 1 ∧ wGet v 16 10 * 3200 ≤ s.cmp.vin[w] + hys))) ∧
          (t.f (Fld.CMP_WC_STAT_LO w) = 1 ↔ (s.cmp.vin[w] < wGet v 0 10 * 3200 ∨ (lo0 = 1 ∧ s.cmp.vin[w] ≤ wGet v 0 10 * 3200 + hys))))) ∧
      (fixed → writes (.thresholdWrite w false v) s fun s t =>
        t.rd (.CMP_WC_TH w) = s.rd (.CMP_WC_TH w) ∧
        (wGet v 0 10 ≠ s.f (Fld.CMP_WC_TH_TH_LO w) ∨ wGet v 16 10 ≠ s.f (Fld.CMP_WC_TH_TH_HI w) → t.f (Fld.CMP_WC_STAT_WR_IGN w) = 1) ∧
        frame s t) ∧
      (writes (.thresholdWrite w true v) s fun s t =>
        t.f (Fld.CMP_WC_CTL_MODE w) = wGet v 1 1 ∧ t.f (Fld.CMP_WC_CTL_PCLR w) = wGet v 6 1 ∧
        t.f (Fld.CMP_WC_CTL_CLRGRP w) = wGet v 8 4 ∧
        (fixed → t.f (Fld.CMP_WC_CTL_EN w) = s.f (Fld.CMP_WC_CTL_EN w) ∧ t.f (Fld.CMP_WC_CTL_HYS w) = s.f (Fld.CMP_WC_CTL_HYS w) ∧
          t.f (Fld.CMP_WC_CTL_QSEL w) = s.f (Fld.CMP_WC_CTL_QSEL w) ∧
          (wGet v 0 1 ≠ s.f (Fld.CMP_WC_CTL_EN w) ∨ wGet v 2 2 ≠ s.f (Fld.CMP_WC_CTL_HYS w) → t.f (Fld.CMP_WC_STAT_WR_IGN w) = 1)) ∧
        (¬ fixed → t.f (Fld.CMP_WC_CTL_EN w) = wGet v 0 1 ∧ t.f (Fld.CMP_WC_CTL_HYS w) = wGet v 2 2 ∧
          (wGet v 0 1 = 0 → s.flag (Fld.CMP_WC_STAT_TEST w) = false →
            t.f (Fld.CMP_WC_STAT_HI w) = 0 ∧ t.f (Fld.CMP_WC_STAT_LO w) = 0)) ∧ frame s t)) ∧
    (∀ due, s.cmp.tsDue = some due → s.cmp.sweep = none → s.flag (Fld.CMP_WC_CTL_TS_EN w) = true →
      ((s.cmp.next ≤ w.val ∧ ∀ m : Fin 64, s.flag (Fld.CMP_WC_CTL_TS_EN m) = true → s.cmp.next ≤ m.val → w ≤ m) ∨
        ∀ m : Fin 64, s.flag (Fld.CMP_WC_CTL_TS_EN m) = true → m.val < s.cmp.next ∧ w ≤ m) →
      gives .touchstoneSweepStart s fun t =>
        let m : Fin 64 := ⟨s.f (Fld.CMP_WC_CTL_PARTNER w) % 64, by omega⟩
        let pm : Fin 128 := ⟨m.val, by omega⟩
        let ok := m ≠ w ∧ s.flag (Fld.CMP_WC_CTL_EN m) = true ∧ s.flag (Fld.QNC_ROUTE_EN pm) = true ∧
          s.f (Fld.QNC_ROUTE_GROUPS pm) = s.f (Fld.QNC_ROUTE_GROUPS src) ∧ s.f (Fld.QNC_ROUTE_PROF pm) = s.f (Fld.QNC_ROUTE_PROF src) ∧
          s.raw pm = false ∧ s.raw src = false ∧ s.flag (Fld.CMP_WC_STAT_TEST m) = false
        t.time = max s.time due ∧ t.cmp.tsDue = some (due + s.f Fld.CMP_TS_CTL_TS_INT * 600000) ∧
        t.f Fld.CMP_TS_STAT_LAST = w.val ∧
        (ok → t.f (Fld.CMP_WC_STAT_TEST w) = 1 ∧ t.f Fld.CMP_TS_STAT_BUSY = 1 ∧ t.cmp.sweep = some (w, t.time) ∧
          s.keeps t [.CMP_TS_STAT, .CMP_WC_STAT w] ∧ s.keepsMem t) ∧
        (¬ ok → t.f (Fld.CMP_WC_STAT_TS_SKIP w) = 1 ∧ t.f Fld.CMP_TS_STAT_PASS = 0 ∧ t.cmp.sweep = none ∧
          s.faultFrame t [0x4009])) ∧
    (∀ (hi lo : BitVec 17) (t0 : Nat), s.cmp.sweep = some (w, t0) → gives (.touchstoneSweepEnd hi lo) s fun t =>
      let good := ∀ i : Fin 17, (i.val < 6 → hi.getLsbD i.val = true ∧ lo.getLsbD i.val = false) ∧
        (11 ≤ i.val → hi.getLsbD i.val = false ∧ lo.getLsbD i.val = true)
      t.time = max s.time (t0 + 11400) ∧ t.cmp.sweep = none ∧ t.f (Fld.CMP_WC_STAT_TEST w) = 0 ∧ t.f Fld.CMP_TS_STAT_BUSY = 0 ∧
      (good → t.f Fld.CMP_TS_STAT_PASS = 1 ∧ t.f (Fld.CMP_WC_STAT_TS_FAIL w) = s.f (Fld.CMP_WC_STAT_TS_FAIL w)) ∧
      (¬ good → t.f Fld.CMP_TS_STAT_PASS = 0 ∧ t.f (Fld.CMP_WC_STAT_TS_FAIL w) = 1 ∧ t.flag Fld.SYS_STATUS_FAULT_NEW = true ∧
        ∀ n : Fin 4, (s.rd (.QNC_ROUTE src)).getLsbD n.val = true → t.axis n = axHold) ∧
      s.faultFrame t [0x4004, 0x4005, 0x4008, 0x4009, 0x400C]) ∧
    (gives .vddaCmpLoss s fun t => t.cmp.lost = true ∧ frame s t ∧
      (en = true → s.flag (Fld.CMP_WC_STAT_TEST w) = false →
        t.f (Fld.CMP_WC_STAT_HI w) = 1 ∧ t.f (Fld.CMP_WC_STAT_LO w) = 1 ∧ t.raw src = true)) ∧
    (gives .vddaCmpReturn s fun t => t.cmp.lost = false ∧ frame s t ∧
      (en = true → s.flag (Fld.CMP_WC_STAT_TEST w) = false →
        t.f (Fld.CMP_WC_STAT_HI w) = bit (aboveHi s.cmp.vin[w]) ∧ t.f (Fld.CMP_WC_STAT_LO w) = bit (belowLo s.cmp.vin[w])))

/-- SOURCE_ACTIVE of a routable source whose condition holds (a trip pin goes low by it), whose row is enabled and whose latch is clear sets
RAW and LATCH; each group it gives an action and that nothing tripped takes the action with its mask due D_ASC later, TRIPPED, FIRST_SRC,
TRIP_T, TRIP and a fault are recorded, what its cells had pending is cancelled and its axis goes to SAFE_HOLD; of sources first in one core
cycle the lower number stays in FIRST_SRC; a group it gives none is unchanged. With EN = 0 only RAW is set, and a source whose condition
does not hold stays as it is. TRIP_PIN_RELEASE clears RAW, which still counts for a clear of its peripheral cycle, and leaves the latch.
ASC_DELAY_EXPIRY turns the mask on. LATCH_CLEAR clears the requested latches that are not refused, leaves the others, replaces REFUSED0 to
3, reports refusals, and a group that nothing trips any more enters HOLD while it runs. SAFESEL_WRITE applies a good selection and retimes
the masks of SAFE trips; a bad one brings the ST_SAFE fallback, source 116, a fault and SAFE. ROUTE_CRC_CHECK that differs does the same for
every group. That a clear of sources 112, 114, 115 and 117 is refused only while the latch is set is the model's reading (log entry 29).
(R247, R249, R251, R252, R256, R257, R258, R259, R260, R262, R264, log entry 29). -/
def Obligations.QuenchTripsMasksAndClears : Prop :=
  (∀ (s : State) (k : Fin 128) (tap : Nat), s.dsgRun = false → k.val < 112 →
    let pin := 64 ≤ k.val ∧ k.val < 80
    let hi := s.flag (Fld.CMP_WC_STAT_HI ⟨k.val % 64, by omega⟩)
    let lo := s.flag (Fld.CMP_WC_STAT_LO ⟨k.val % 64, by omega⟩)
    let qsel := s.f (Fld.CMP_WC_CTL_QSEL ⟨k.val % 64, by omega⟩)
    let holds := pin ∨ (k.val < 64 ∧ s.flag (Fld.CMP_WC_STAT_TEST ⟨k.val % 64, by omega⟩) = false ∧
      ((qsel ≠ 1 ∧ hi = true) ∨ (qsel ≠ 0 ∧ lo = true))) ∨ (80 ≤ k.val ∧ s.raw k = true)
    (¬ holds → gives (.sourceActive k tap) s fun t => t.time = max s.time (tap / 16) ∧ { t with time := s.time } = s) ∧
    (pin → gives (.sourceActive k tap) s fun t => t.qnc.tripLow.getLsbD (k.val - 64) = true) ∧
    (holds → s.flag (Fld.QNC_ROUTE_EN k) = true → s.latch k = false → gives (.sourceActive k tap) s fun t =>
      t.time = max s.time (tap / 16) ∧ t.raw k = true ∧ t.latch k = true ∧ (∀ j, j ≠ k → t.latch j = s.latch j ∧ t.raw j = s.raw j) ∧
      (∀ g : Fin 16, s.qnc.eff[g] = 0 → firstAction (givenActions s g) = 0 → ∀ a, srcAction s k g = a → 1 ≤ a → a ≤ 5 →
        (s.rd (.QNC_ROUTE k)).getLsbD g.val = true ∧
        t.f (Fld.QNC_G_STATE_TRIPPED g) = 1 ∧ t.f (Fld.QNC_G_STATE_ACTION g) = a ∧ t.f (Fld.QNC_G_STATE_FIRST_SRC g) = k.val ∧
        t.f (Fld.QNC_G_STATE_HOLD g) = 0 ∧ t.f (Fld.QNC_G_STATE_ASC_ON g) = 0 ∧ t.rd (.QNC_G_TRIP_T g) = stampWord tap ∧
        t.qnc.eff[g] = a ∧ t.qnc.due[g] = (if actionKind s g a = 1 then none else some (tap + ascDelay s g)) ∧
        t.f Fld.QNC_STATUS_TRIP = 1 ∧ t.flag Fld.SYS_STATUS_FAULT_NEW = true ∧ (∀ c, (t.cell g c).pend = none) ∧
        ∀ n : Fin 4, axGroup n = g → t.axis n = axHold) ∧
      (∀ g : Fin 16, srcAction s k g = 0 → s.qnc.eff[g] = firstAction (givenActions s g) → ascConflict (givenActions s g) = false →
        t.rd (.QNC_G_STATE g) = s.rd (.QNC_G_STATE g) ∧ t.grp g = s.grp g ∧ t.qnc.eff[g] = s.qnc.eff[g]) ∧
      (∀ g : Fin 16, srcAction s k g ≠ 0 → s.qnc.eff[g] ≠ 0 → s.flag (Fld.QNC_G_STATE_TRIPPED g) = true → s.qnc.tripAt[g] / 16 = tap / 16 →
        t.f (Fld.QNC_G_STATE_FIRST_SRC g) = min k.val (s.f (Fld.QNC_G_STATE_FIRST_SRC g))) ∧
      s.faultFrame t [0x4008, 0x400C]) ∧
    (holds → s.flag (Fld.QNC_ROUTE_EN k) = false → gives (.sourceActive k tap) s fun t =>
      t.raw k = true ∧ { t with time := s.time, regs := s.regs, qnc := s.qnc } = s ∧
      { t.qnc with tripLow := s.qnc.tripLow } = s.qnc ∧ s.keeps t ((List.finRange 4).map Reg.QNC_RAW))) ∧
  (∀ (s : State) (p : Fin 16), gives (.tripPinRelease p) s fun t =>
    t.raw ⟨64 + p.val, by omega⟩ = false ∧ (∀ k, t.latch k = s.latch k) ∧ t.qnc.tripLow.getLsbD p.val = false ∧
    (s.raw ⟨64 + p.val, by omega⟩ = true → t.rawInCycle ⟨64 + p.val, by omega⟩ = true) ∧
    { t with regs := s.regs, qnc := s.qnc } = s ∧ s.keeps t [.QNC_RAW 2]) ∧
  (∀ (s : State) (g : Fin 16) (due : Nat), s.qnc.due[g] = some due → gives (.ascDelayExpiry g) s fun t =>
    t.time = max s.time (due / 16) ∧ t.f (Fld.QNC_G_STATE_ASC_ON g) = 1 ∧ t.qnc.due[g] = none ∧
    s.keeps t [.QNC_G_STATE g] ∧ s.keepsMem t ∧ t.pwm = s.pwm) ∧
  (∀ (s : State) (k : Fin 4) (mask : Word), s.dsgRun = false → writes (.latchClear k mask) s fun s t =>
    let num (b : Fin 32) : Fin 128 := ⟨32 * k.val + b.val, by omega⟩
    let refused (b : Fin 32) : Prop := mask.getLsbD b.val = true ∧ (s.rawInCycle (num b) = true ∨
      (s.latch (num b) = true ∧ ((num b).val = 112 ∨ (num b).val = 114 ∨ (num b).val = 115 ∨ (num b).val = 117)))
    (∀ b : Fin 32, ((t.rd (.QNC_REFUSED k)).getLsbD b.val = true ↔ refused b) ∧
      t.latch (num b) = (s.latch (num b) && (!mask.getLsbD b.val || (t.rd (.QNC_REFUSED k)).getLsbD b.val))) ∧
    (∀ j, j ≠ k → t.rd (.QNC_REFUSED j) = 0#32 ∧ t.rd (.QNC_LATCH j) = s.rd (.QNC_LATCH j)) ∧
    ((∃ b, refused b) → t.f Fld.QNC_STATUS_CLR_REFUSED = 1 ∧ t.flag Fld.SYS_STATUS_FAULT_NEW = true) ∧
    (∀ g : Fin 16, s.qnc.eff[g] ≠ 0 → firstAction (givenActions t g) = 0 →
      t.f (Fld.QNC_G_STATE_TRIPPED g) = 0 ∧ t.qnc.eff[g] = 0 ∧
      (s.gRun g = true → s.gMode g ≠ 0 → t.f (Fld.QNC_G_STATE_HOLD g) = 1 ∧ t.qnc.holdCyc[g] = s.time) ∧
      (s.gRun g = false → t.f Fld.QNC_STATUS_RESUME = 1)) ∧
    s.faultFrame t [0x4008, 0x400C]) ∧
  (∀ (s : State) (sel selC : BitVec 8), s.dsgRun = false → s.flag Fld.QNC_STATUS_SEL_FALLBACK = false →
    let good := selC = ~~~sel ∧ ∀ n : Fin 4, wGet (sel.setWidth 32) (2 * n.val) 2 ≠ 3
    let stored (t : State) : Prop := t.f Fld.QNC_SAFESEL_SEL = sel.toNat ∧ t.f Fld.QNC_SAFESEL_SEL_C = selC.toNat ∧
      t.f Fld.QNC_SAFESEL_SEQ = (s.f Fld.QNC_SAFESEL_SEQ + 1) % 256
    (good → gives (.safeselWrite sel selC) s fun t =>
      stored t ∧ t.f Fld.QNC_SEL_USED_USED = sel.toNat ∧
      (∀ n : Fin 4,
        let g := axGroup n
        (s.qnc.eff[g] = 4 → t.selUsed n ≠ s.selUsed n → t.f (Fld.QNC_G_STATE_ASC_ON g) = 0 ∧
          t.qnc.due[g] = (if t.selUsed n = 0 then none else some (s.now + ascDelay s g))) ∧
        (s.qnc.eff[g] ≠ 4 ∨ t.selUsed n = s.selUsed n → t.rd (.QNC_G_STATE g) = s.rd (.QNC_G_STATE g) ∧ t.qnc.due[g] = s.qnc.due[g])) ∧
      s.keepsOutside t [0x4008] ∧ s.keepsMem t) ∧
    (¬ good → gives (.safeselWrite sel selC) s fun t =>
      stored t ∧ t.f Fld.QNC_STATUS_SEL_FALLBACK = 1 ∧
      t.f Fld.QNC_SEL_USED_USED = (if s.flag Fld.SYS_STRAP_SAFE = true then 0x55 else 0) ∧
      t.raw 116 = true ∧ t.latch 116 = true ∧ t.flag Fld.SYS_STATUS_FAULT_NEW = true ∧
      (devConfig ≤ s.dev → s.dev ≤ devRun → t.dev = devSafe) ∧ s.faultFrame t [0x4008, 0x400C, 0x400F])) ∧
  (∀ (s : State) (crc : Word), s.dsgRun = false → s.locked = true →
    (crc ≠ s.rd .QNC_CRC → s.qnc.crcBad = false → gives (.routeCrcCheck crc) s fun t =>
      t.qnc.crcBad = true ∧ t.raw 116 = true ∧ t.latch 116 = true ∧ t.qnc.integ = 0xFFFF#16 ∧
      t.flag Fld.SYS_STATUS_FAULT_NEW = true ∧ (devConfig ≤ s.dev → s.dev ≤ devRun → t.dev = devSafe) ∧
      s.faultFrame t [0x4008, 0x400C, 0x400F]) ∧
    (crc = s.rd .QNC_CRC → exec (.routeCrcCheck crc) s = .next s))

/-- AUX_START where R288 allows it enters LISTEN with FAILS 0 and every pair floating; AUX_STOP enters OFF, or BRAKE with STOP_MODE 1;
AUX_CLEAR takes an untripped FAULT to OFF; each is otherwise ignored with WR_IGN and no other effect. LISTEN and COAST end 50 ms after
entry: three crossings in forward sequence at CATCH_F or more wait for the next, slower or reverse ones go to BRAKE, others to ALIGN; a wait
that runs out goes to ALIGN. BRAKE alternates slices and listening; a slow rotor ends it in ALIGN, or OFF after STOP; its timeout counts a
failure. ALIGN ends in RAMP in sector ALN_SEC + 1; each RAMP sector lasts 10^8 / f_j and the twelfth at R_F1 is a failure. A failure
increments FAILS, sets FAIL and returns to LISTEN; the third goes to FAULT. RUN_OK clears FAILS, unless the timeout of a lost crossing falls
no later (R300). Other channels are unchanged. That a channel already in BRAKE keeps its slice at STOP is the model's reading (log entry
28). (R281, R288, R289, R290, R291, R292, R293, R299, R300, log entry 4, log entry 28). -/
def Obligations.AuxiliaryCommandsAndStartSequence : Prop :=
  ∀ (s : State) (n : Fin 8), s.dsgRun = false →
    let g := auxGroup n
    let a := s.aux[n]
    let st := s.auxSt n
    let fails := s.f (Fld.AUX_CH_STATUS_FAILS n)
    let rest (t : State) : Prop := (∀ m : Fin 8, m ≠ n → t.aux[m] = s.aux[m]) ∧ (∀ h, h ≠ g → t.grp h = s.grp h) ∧ s.faultFrame t [0x400C]
    let floats (t : State) : Prop := s.gRun g = true → ∀ c : Fin 9, c.val < 3 → (t.cell g c).hi = false ∧ (t.cell g c).lo = false
    let ignored (i : Instr) : Prop := writes i s fun s t => t.f (Fld.AUX_CH_STATUS_WR_IGN n) = 1 ∧ s.onlyRegs t [.AUX_CH_STATUS n]
    let aligned (t : State) : Prop := t.auxSt n = auxAlign ∧ t.f (Fld.AUX_CH_STATUS_SECTOR n) = s.f (Fld.AUX_CH_CTL_ALN_SEC n) ∧
      t.aux[n].pulseEnd = t.now + 48 * s.f (Fld.PWM_G_BOOT_T_REF g) + 2 * s.f (Fld.PWM_G_DT_DT_LH g)
    let failed (t : State) : Prop := t.f (Fld.AUX_CH_STATUS_FAIL n) = 1 ∧ t.flag Fld.SYS_STATUS_FAULT_NEW = true ∧
      t.f (Fld.AUX_CH_STATUS_FAILS n) = min 3 (fails + 1) ∧ t.auxSt n = (if 2 ≤ fails then auxFault else auxListen)
    let decided (t : State) : Prop :=
      let d := lastThree a.xs
      let fast := atLeastHz (auxTs s n) (s.f (Fld.AUX_CH_SPD_CATCH_F n)) = true
      t.time = max s.time (a.since + 30000000) ∧ rest t ∧
      (d = 1 ∧ fast → t.auxSt n = st ∧ t.regs = s.regs ∧
        t.aux[n] = { a with staying := true, inSeq := true, stayEnd := ((a.xs.map (·.stamp / 16)).headD 0) + 3 * auxTs s n / 2 }) ∧
      ((d = 1 ∧ ¬ fast) ∨ d = -1 → t.auxSt n = auxBrake ∧ t.aux[n].fromStop = false ∧ t.aux[n].listening = false) ∧
      (d = 0 → aligned t)
    let startOk := st = auxOff ∧ s.dev ≠ devBoot ∧ s.dev ≠ devFault ∧ s.gMode g = 5 ∧ s.gRun g = true ∧
      s.rd (.PWM_G_OUT_EN g) = 0x3F#32 ∧ s.flag (Fld.QNC_G_STATE_TRIPPED g) = false
    (startOk → writes (.auxStart n) s fun s t => t.auxSt n = auxListen ∧ t.f (Fld.AUX_CH_STATUS_FAILS n) = 0 ∧
      wGet (t.rd .SYS_AUX_STATE) (4 * n.val) 3 = auxListen ∧ t.aux[n].since = s.time ∧ t.aux[n].xs = [] ∧ floats t ∧ rest t) ∧
    (¬ startOk → ignored (.auxStart n)) ∧
    (st ≠ auxOff → st ≠ auxFault → writes (.auxStop n) s fun s t => rest t ∧
      (s.flag (Fld.AUX_CH_CTL_STOP_MODE n) = false → t.auxSt n = auxOff ∧ floats t) ∧
      (s.flag (Fld.AUX_CH_CTL_STOP_MODE n) = true → t.auxSt n = auxBrake ∧ t.aux[n].fromStop = true)) ∧
    (st = auxOff ∨ st = auxFault → ignored (.auxStop n)) ∧
    (st = auxFault → s.flag (Fld.QNC_G_STATE_TRIPPED g) = false → writes (.auxClear n) s fun s t => t.auxSt n = auxOff ∧ floats t ∧ rest t) ∧
    (st ≠ auxFault ∨ s.flag (Fld.QNC_G_STATE_TRIPPED g) = true → ignored (.auxClear n)) ∧
    (st = auxListen → a.sync = false → a.staying = false → gives (.listenEnd n) s decided) ∧
    (st = auxCoast → a.sync = false → a.staying = false → gives (.coastEnd n) s decided) ∧
    (a.staying = true → a.sync = false → gives (.listenSyncTimeout n) s fun t =>
      t.time = max s.time a.stayEnd ∧ aligned t ∧ rest t) ∧
    (st = auxBrake → a.listening = false → gives (.brakeSliceEnd n) s fun t =>
      t.time = max s.time (a.secCyc + s.f (Fld.AUX_CH_START_BRK_ON n) * 600000) ∧ t.auxSt n = auxBrake ∧
      t.aux[n].listening = true ∧ t.aux[n].xs = [] ∧ t.aux[n].pair = false ∧ floats t ∧ s.keeps t [] ∧ rest t) ∧
    (st = auxBrake → a.listening = true → gives (.listenIntervalEnd n) s fun t =>
      let moving := a.pair = true ∧ atLeastHz (auxTs s n) (s.f (Fld.AUX_CH_SPD_STOP_F n)) = true
      t.time = max s.time (a.secCyc + s.f (Fld.AUX_CH_START_BRK_LSN n) * 600000) ∧ t.aux[n].listening = false ∧ rest t ∧
      (moving → t.auxSt n = auxBrake ∧ t.regs = s.regs) ∧ (¬ moving → a.fromStop = true → t.auxSt n = auxOff ∧ floats t) ∧
      (¬ moving → a.fromStop = false → aligned t)) ∧
    (st = auxBrake → gives (.brakeTimeout n) s fun t =>
      t.time = max s.time (a.brakeCyc + s.f (Fld.AUX_CH_RAMP_BRK_TMAX n) * 600000000) ∧ rest t ∧
      (a.fromStop = true → t.auxSt n = auxOff ∧ t.f (Fld.AUX_CH_STATUS_FAILS n) = fails) ∧ (a.fromStop = false → failed t)) ∧
    (st = auxAlign → gives (.alignEnd n) s fun t =>
      t.time = max s.time ((a.pulseEnd + 15) / 16 + s.f (Fld.AUX_CH_START_ALN_T n) * 6000000) ∧ t.auxSt n = auxRamp ∧
      t.f (Fld.AUX_CH_STATUS_SECTOR n) = (s.f (Fld.AUX_CH_CTL_ALN_SEC n) + 1) % 6 ∧ t.aux[n].okSec = 0 ∧
      t.aux[n].secLen = 100000000 / min (s.f (Fld.AUX_CH_RAMP_R_F0 n)) (s.f (Fld.AUX_CH_RAMP_R_F1 n)) ∧ rest t) ∧
    (st = auxRamp → gives (.rampSectorEnd n) s fun t =>
      let f1 := a.f1Sec + (if a.atF1 then 1 else 0)
      t.time = max s.time (a.secCyc + a.secLen) ∧ rest t ∧
      (f1 < 12 → t.auxSt n = auxRamp ∧ t.f (Fld.AUX_CH_STATUS_SECTOR n) = (s.f (Fld.AUX_CH_STATUS_SECTOR n) + 1) % 6 ∧
        t.aux[n].okSec = (if a.took then a.okSec + 1 else 0) ∧ t.aux[n].f1Sec = f1 ∧ t.aux[n].secCyc = t.time ∧
        t.aux[n].secLen = 60000000000000000 / min (s.f (Fld.AUX_CH_RAMP_R_F0 n) * 600000000 +
          s.f (Fld.AUX_CH_RAMP_R_ACC n) * (t.time - a.since)) (s.f (Fld.AUX_CH_RAMP_R_F1 n) * 600000000)) ∧
      (12 ≤ f1 → failed t)) ∧
    (st = auxRun → a.tz / 16 + 3 * auxTs s n / 2 ≤ a.runCyc + s.f (Fld.AUX_CH_SPD_RUN_OK n) * 60000000 →
      exec (.runOkExpiry n) s = .next s) ∧
    (st = auxRun → a.runCyc + s.f (Fld.AUX_CH_SPD_RUN_OK n) * 60000000 < a.tz / 16 + 3 * auxTs s n / 2 → gives (.runOkExpiry n) s fun t =>
      t.time = max s.time (a.runCyc + s.f (Fld.AUX_CH_SPD_RUN_OK n) * 60000000) ∧ t.f (Fld.AUX_CH_STATUS_FAILS n) = 0 ∧
      s.keeps t [.AUX_CH_STATUS n] ∧ s.keepsMem t ∧ t.aux = s.aux ∧ t.pwm = s.pwm)

/-- ZERO_CROSSING stores its stamp in ZC_T. In RUN one of the floating phase with the forward polarity, after the blank and not already
taken, sets T_s to the interval since the last and schedules the commutation floor(T_s (120 - ADV) / 240) core cycles after its stamp, or in
the next cycle with LATE_COM where that has passed; one within the blank changes nothing more, and one of the other polarity lets the next
be taken. A commutation due no later is made first. In RAMP the sixth in a row enters RUN. In LISTEN and COAST one that continues the last
sets T_s and REV; the third forward one at CATCH_F or more in COAST, and the next in sequence in a stay, synchronises: RESYNC, its sector,
the pulses and the commutation. DEMAG_BLANK_END requires a floating comparator already past its crossing to return. COMMUTATION takes the
next sector, starts the blank, and enters RUN where it ends a synchronisation. ZC_TIMEOUT enters COAST 1.5 T_s after the last crossing with
ZC_LOST, or FAULT at the third failure. AUX_PEAK_EVENT judges the voltage by TH and HYS, or takes the window comparator's report; a rise
beyond PK_BLANK holds the high-role commands off. Other channels are unchanged. The cycle in which the filter takes a crossing is the
model's reading (log entry 28). (R279, R280, R281, R282, R283, R284, R285, R286, R287, R292, R293, log entry 28). -/
def Obligations.AuxiliaryCrossingsCommutationsAndPeaks : Prop :=
  ∀ (s : State) (n : Fin 8), s.dsgRun = false →
    let g := auxGroup n
    let a := s.aux[n]
    let st := s.auxSt n
    let sec := s.f (Fld.AUX_CH_STATUS_SECTOR n)
    let rest (t : State) : Prop := (∀ m : Fin 8, m ≠ n → t.aux[m] = s.aux[m]) ∧ (∀ h, h ≠ g → t.grp h = s.grp h) ∧ s.faultFrame t [0x400C]
    (∀ (ph : Fin 3) (level : Bool) (tap k : Nat), a.level.getLsbD ph.val ≠ level → a.tk = some k → k ≤ zcTaken s n tap → st = auxRun →
      gives (.zeroCrossing n ph level tap) s fun t => t.time = max s.time (zcTaken s n tap) ∧ t.rd (.AUX_CH_ZC_T n) = stampWord tap ∧
        t.f (Fld.AUX_CH_STATUS_SECTOR n) = (sec + 1) % 6 ∧ t.auxSt n = auxRun ∧ rest t) ∧
    (∀ (ph : Fin 3) (level : Bool) (tap : Nat), a.level.getLsbD ph.val ≠ level → a.sync = false →
      (∀ k, a.tk = some k → zcTaken s n tap < k) →
      let cyc := zcTaken s n tap
      let p := auxPhase s n ph.val
      let fwd (x : Crossing) : Prop := x.phase.val = p ∧ x.rising = level ∧ x.stamp = tap
      let told (t : State) : Prop := ∀ m : Fin 8, s.flag (Fld.MAN_AG_CTL_EN m) = true → s.gSrc m = 4 → s.f (Fld.MAN_AG_CTL_SRC_CH m) = n.val →
        (t.gen m).inbox.length = (s.gen m).inbox.length + 1
      let stored (t : State) : Prop := t.time = max s.time cyc ∧ t.rd (.AUX_CH_ZC_T n) = stampWord tap ∧ t.aux[n].level.getLsbD ph.val = level ∧ rest t
      let scheduled (ts : Nat) (t : State) : Prop :=
        let k := tap / 16 + ts * (120 - auxAdv t n) / 240
        t.aux[n].tk = some (if k ≤ cyc then cyc + 1 else k) ∧ (k ≤ cyc → t.f (Fld.AUX_CH_STATUS_LATE_COM n) = 1)
      let open_ := a.blankEnd ≤ cyc ∧ a.blankFrom < cyc ∧ a.blankEnd ≤ tap / 16 ∧ a.needReturn = false ∧ a.took = false
      (∀ x : Crossing, fwd x → p = (sectorPhases sec).2.2 → forwardSector x ≠ sec → st = auxRun ∨ st = auxRamp →
        gives (.zeroCrossing n ph level tap) s fun t =>
          stored t ∧ t.aux[n] = { a with level := t.aux[n].level, needReturn := false } ∧ s.keeps t [.AUX_CH_ZC_T n] ∧ s.keepsMem t) ∧
      (∀ x : Crossing, fwd x → p = (sectorPhases sec).2.2 → forwardSector x = sec →
        (st = auxRun → open_ → a.tz ≤ tap → (tap - a.tz) / 16 < 2 ^ 32 →
          gives (.zeroCrossing n ph level tap) s fun t =>
            let ts := (tap - a.tz) / 16
            stored t ∧ t.auxSt n = auxRun ∧ auxTs t n = ts ∧ t.aux[n].tz = tap ∧ t.aux[n].took = true ∧ scheduled ts t ∧ told t ∧
            (0 < ts → t.f (Fld.AUX_CH_FREQ_IDX n) = min 15 (100000000 / (ts * s.f (Fld.AUX_CH_SPD_F_STEP n))))) ∧
        (st = auxRamp → open_ → gives (.zeroCrossing n ph level tap) s fun t =>
          stored t ∧ t.aux[n].took = true ∧ t.auxSt n = (if a.okSec = 5 then auxRun else auxRamp) ∧
          (a.okSec = 5 → scheduled (auxTs s n) t)) ∧
        (st = auxRun ∨ st = auxRamp → ¬ open_ → gives (.zeroCrossing n ph level tap) s fun t =>
          stored t ∧ t.aux[n] = { a with level := t.aux[n].level } ∧ s.keeps t [.AUX_CH_ZC_T n] ∧ s.keepsMem t)) ∧
      (∀ (x y : Crossing) (xs : List Crossing), fwd x → a.xs = y :: xs →
        st = auxListen ∨ st = auxCoast ∨ (st = auxBrake ∧ a.listening = true) →
        y.stamp ≤ tap → (tap - y.stamp) / 16 < 2 ^ 32 → gives (.zeroCrossing n ph level tap) s fun t =>
          let ts := (tap - y.stamp) / 16
          let sync := st ≠ auxBrake ∧ ((a.staying = true ∧ a.inSeq = true ∧ continues y x = 1) ∨
            (st = auxCoast ∧ lastThree (x :: a.xs) = 1 ∧ atLeastHz ts (s.f (Fld.AUX_CH_SPD_CATCH_F n)) = true))
          stored t ∧ t.aux[n].xs = (x :: a.xs).take 3 ∧ t.auxSt n = st ∧ t.aux[n].inSeq = (a.inSeq && decide (continues y x = 1)) ∧
          t.aux[n].pair = (a.pair || decide (continues y x ≠ 0)) ∧
          (continues y x ≠ 0 → auxTs t n = ts ∧ t.f (Fld.AUX_CH_STATUS_REV n) = (if continues y x = -1 then 1 else 0) ∧ (st ≠ auxBrake → told t)) ∧
          (continues y x = 0 → s.keeps t [.AUX_CH_ZC_T n] ∧ t.man = s.man) ∧
          (sync → t.f (Fld.AUX_CH_STATUS_RESYNC n) = 1 ∧ t.f (Fld.AUX_CH_STATUS_SECTOR n) = forwardSector x ∧ t.aux[n].sync = true ∧
            t.aux[n].tz = tap ∧ t.aux[n].tk.isSome = true) ∧
          (¬ sync → t.aux[n].sync = false))) ∧
    (st = auxRamp ∨ st = auxRun → gives (.demagBlankEnd n) s fun t =>
      let fl := (sectorPhases sec).2.2
      t.time = max s.time a.blankEnd ∧ t.regs = s.regs ∧ s.keepsMem t ∧ rest t ∧
      (sec < 6 → (t.aux[n].needReturn = true ↔ a.level.getLsbD (auxPhase s n fl) = decide (sec % 2 = 1)))) ∧
    (∀ k, a.tk = some k → gives (.commutation n) s fun t =>
      t.time = max s.time k ∧ t.f (Fld.AUX_CH_STATUS_SECTOR n) = (sec + 1) % 6 ∧ t.aux[n].tk = none ∧ t.aux[n].sync = false ∧
      t.aux[n].blankEnd = k + auxTs s n * s.f (Fld.AUX_CH_ZC_DEMAG n) / 64 ∧ t.aux[n].took = false ∧
      t.auxSt n = (if a.sync then auxRun else st) ∧
      (s.gRun g = true → ∀ c : Fin 9, c.val < 3 → auxRole t n c.val t.now = 0 → (t.cell g c).hi = false ∧ (t.cell g c).lo = false) ∧ rest t) ∧
    (st = auxRun → gives (.zcTimeout n) s fun t =>
      let fails := s.f (Fld.AUX_CH_STATUS_FAILS n)
      t.time = max s.time (a.tz / 16 + 3 * auxTs s n / 2) ∧ t.f (Fld.AUX_CH_STATUS_ZC_LOST n) = 1 ∧ t.f (Fld.AUX_CH_STATUS_FAIL n) = 1 ∧
      t.f (Fld.AUX_CH_STATUS_FAILS n) = min 3 (fails + 1) ∧ t.auxSt n = (if 2 ≤ fails then auxFault else auxCoast) ∧
      t.flag Fld.SYS_STATUS_FAULT_NEW = true ∧
      (s.gRun g = true → ∀ c : Fin 9, c.val < 3 → (t.cell g c).hi = false ∧ (t.cell g c).lo = false) ∧ rest t) ∧
    (let hys := match s.f (Fld.AUX_CH_IPK_HYS n) with | 0 => 0 | 1 => 10000 | 2 => 20000 | _ => 40000
    let th := s.f (Fld.AUX_CH_IPK_TH n) * 3200
    let lvl (uv : Nat) : Bool := decide (th < uv ∨ (a.own = true ∧ th ≤ uv + hys))
    let rises (tap : Nat) (t : State) : Prop :=
      let te := (tap / 16 + 3) * 16
      let late := (s.grp g).lastEdge + 16 * s.f (Fld.AUX_CH_IPK_PK_BLANK n) ≤ tap
      t.time = max s.time (tap / 16 + 3) ∧ t.aux[n].peak = true ∧ t.regs = s.regs ∧ rest t ∧
        (late → st = auxAlign ∨ st = auxRamp ∨ st = auxRun → t.aux[n].hold = true ∧
          ∀ c : Fin 9, c.val < 3 → auxRole s n c.val te = 2 → (t.cell g c).cmd = false) ∧
        (late → st = auxBrake → t.aux[n].hold = true ∧ ∀ c, (t.cell g c).lo = false) ∧
        (¬ late → t.aux[n].hold = a.hold ∧ t.grp g = s.grp g)
    (∀ uv tap, s.flag (Fld.AUX_CH_CTL_PK_SRC n) = false →
      (lvl uv = true → a.peak = false → gives (.auxPeakEvent n (some (uv, tap))) s fun t => rises tap t ∧ t.aux[n].own = true ∧ t.aux[n].ipk = uv) ∧
      (lvl uv = false → a.peak = true → gives (.auxPeakEvent n (some (uv, tap))) s fun t => t.time = max s.time (tap / 16 + 3) ∧
        t.aux[n] = { a with peak := false, own := false, ipk := uv } ∧ t.regs = s.regs ∧ t.pwm = s.pwm ∧ s.keepsMem t ∧ rest t) ∧
      (lvl uv = a.peak → gives (.auxPeakEvent n (some (uv, tap))) s fun t => t.time = max s.time (tap / 16) ∧
        t.aux[n] = { a with own := lvl uv, ipk := uv } ∧ t.regs = s.regs ∧ t.pwm = s.pwm ∧ s.keepsMem t ∧ rest t)) ∧
    (∀ tap rst, s.flag (Fld.AUX_CH_CTL_PK_SRC n) = true → a.pkEv = (true, tap) :: rst → a.peak = false →
      gives (.auxPeakEvent n none) s fun t => rises tap t ∧ t.aux[n].pkEv = rst))

/-- A CLOSE with its key in STANDBY or ARMED, PCH_STATE OPEN and the discharge IDLE or DONE drives the precharge and, with NEG_EN, the
negative contactor closed, enters PRECHARGING and returns DONE to IDLE; any other only sets WR_IGN. An OPEN with its key outside RUN opens
every contactor and enters OPEN; otherwise it sets WR_IGN. At T_RISE a link voltage unknown or below V_MIN1 aborts with SHORT, at T_MAX
PRECHARGING aborts with TMO, after T_OVL the precharge contactor opens, and 20 ms later voltages within DV_CLOSE with a closed contact enter
CLOSED with DONE and anything else aborts with CLOSE_ERR. A contact open for 3 ms in CLOSED aborts with DROP and takes the device to SAFE.
An abort opens every contactor, sets its bit, records its code and enters ABORTED. VOLTAGE_STALE makes a voltage unknown 10 ms after its
result. Nothing else changes. That T_RISE is also checked in CLOSING is the model's reading (log entry 27). (R302, R303, R304, R305, R309,
R313, R314, log entry 4, log entry 27). -/
def Obligations.PrechargeSequencer : Prop :=
  ∀ (s : State) (key : BitVec 16),
    let d := s.dcl
    let out (t : State) (p m n : Bool) : Prop := t.dcl.pre = p ∧ t.dcl.main = m ∧ t.dcl.neg = n
    let ignored (i : Instr) : Prop := writes i s fun s t => t.f Fld.PWM_DSC_PCH_STAT_WR_IGN = 1 ∧ s.onlyRegs t [.PWM_DSC_PCH_STAT]
    let closeOk := key = 0x5AC3#16 ∧ (s.dev = devStandby ∨ s.dev = devArmed) ∧ s.pch = pchOpen ∧ (s.dsg = 0 ∨ s.dsg = 4)
    let openOk := key = 0x5AC3#16 ∧ s.dev ≠ devRun
    let aborts (i : Instr) (F : RF) (due : Nat) : Prop := s.dsgRun = false → gives i s fun t =>
      t.time = max s.time due ∧ t.pch = pchAborted ∧ out t false false false ∧ t.f F = 1 ∧ t.flag Fld.SYS_STATUS_FAULT_NEW = true ∧
      (t.dev = s.dev ∨ F.lo = 4) ∧ s.faultFrame t (if F.lo = 4 then [0x4004, 0x4008, 0x400C, 0x400F] else [0x4004])
    let waits (i : Instr) (due : Nat) : Prop := exec i s = .next (s.advance due)
    (closeOk → writes (.prechargeClose key) s fun s t =>
      t.pch = pchPrecharging ∧ out t true false (s.flag Fld.PWM_DSC_PCH_CFG_NEG_EN) ∧ t.dcl.pchT0 = s.time ∧ t.dsg = 0 ∧
      s.faultFrame t [0x4004] ∧ t.pwm = s.pwm) ∧
    (¬ closeOk → ignored (.prechargeClose key)) ∧
    (openOk → writes (.prechargeOpen key) s fun s t =>
      t.pch = pchOpen ∧ out t false false false ∧ t.dsg = s.dsg ∧ s.faultFrame t [0x4004] ∧ t.pwm = s.pwm) ∧
    (¬ openOk → ignored (.prechargeOpen key)) ∧
    (s.pch = pchPrecharging ∨ s.pch = pchClosing →
      let due := d.pchT0 + s.f Fld.PWM_DSC_PCH_TIME_T_RISE * 6000000
      let low := ∀ v, (s.advance due).linkV = some v → v < s.f Fld.PWM_DSC_PCH_V_V_MIN1 * 2 ^ 22
      (low → aborts .prechargeRiseCheck Fld.PWM_DSC_PCH_STAT_SHORT due) ∧ (¬ low → waits .prechargeRiseCheck due)) ∧
    (s.pch = pchPrecharging →
      aborts .prechargeTimeout Fld.PWM_DSC_PCH_STAT_TMO (d.pchT0 + s.f Fld.PWM_DSC_PCH_TIME_T_MAX * 60000000)) ∧
    (s.pch = pchClosing → d.pre = true → gives .prechargeOverlapEnd s fun t =>
      t.time = max s.time (d.pchT1 + s.f Fld.PWM_DSC_PCH_TIME_T_OVL * 600000) ∧ out t false d.main d.neg ∧ t.pch = pchClosing ∧
      t.regs = s.regs ∧ s.keepsMem t) ∧
    (s.pch = pchClosing →
      let due := d.pchT1 + (s.f Fld.PWM_DSC_PCH_TIME_T_OVL + 20) * 600000
      let dv := s.f Fld.PWM_DSC_PCH_V_DV_CLOSE * 2 ^ 22
      let good := (∃ l b, (s.advance due).linkV = some l ∧ (s.advance due).busV = some b ∧ b ≤ l + dv ∧ l ≤ b + dv) ∧
        (s.flag Fld.PWM_DSC_PCH_CFG_FB_EN = true → contactClosed s = true)
      (good → gives .prechargeCloseCheck s fun t =>
        t.time = max s.time due ∧ t.pch = pchClosed ∧ t.f Fld.PWM_DSC_PCH_STAT_DONE = 1 ∧ t.dcl = s.dcl ∧ s.faultFrame t [0x4004]) ∧
      (¬ good → aborts .prechargeCloseCheck Fld.PWM_DSC_PCH_STAT_CLOSE_ERR due)) ∧
    (∀ t0, d.openAt = some t0 → s.pch = pchClosed → s.flag Fld.PWM_DSC_PCH_CFG_FB_EN = true →
      aborts .contactorDrop Fld.PWM_DSC_PCH_STAT_DROP (t0 + 1800000) ∧
      (s.dsgRun = false → devConfig ≤ s.dev → s.dev ≤ devRun → gives .contactorDrop s fun t => t.dev = devSafe)) ∧
    (∀ c t0, d.link = some (c, t0) →
      exec (.voltageStale true) s = .next { s with time := max s.time (t0 + 6000001), dcl := { d with link := none } }) ∧
    (∀ c t0, d.bus = some (c, t0) →
      exec (.voltageStale false) s = .next { s with time := max s.time (t0 + 6000001), dcl := { d with bus := none } })

/-- DISCHARGE_REQUEST with its key in ARMED, RUN, SAFE or FAULT, with no run under way, opens every contactor, ends a precharge as ABORTED,
sets SRC 0 and ELAPSED 0 and enters OPENING; one that meets a start of its own peripheral cycle joins that run; any other only sets WR_IGN.
ELAPSED counts while a run goes on. T_OPEN later the method of FIRST starts with e_0 if it is available (RESISTOR: a mask; WINDINGS:
enabled, device and axis in RUN), WINDINGS writing its request word to DSG_SHM; an unavailable one counts as failed. DECAY_CHECK passes when
e x 256 is at most RATIO times the last e, and then only notes it; otherwise, or with a voltage unknown, the method fails: the first failure
sets ESC and starts the other method if it is available, else the run fails. DISCHARGE_TIMEOUT with the link not at or below V_T fails the
run: FAILED, FAIL, ELAPSED, 0 in DSG_SHM where a method ran, and SAFE. A result at or below V_T due in the cycle of a check or of TMAX comes
first. Memory outside the request word and the Hallmark is unchanged. An unavailable first method escalating at once is the model's reading
(log entry 27). (R23, R302, R309, R310, R311, R312, R313, R314, log entry 27). -/
def Obligations.DischargeSequencer : Prop :=
  ∀ (s : State) (key : BitVec 16),
    let d := s.dcl
    let wax : Fin 4 := ⟨s.f Fld.PWM_DSC_DSG_CFG_WAX % 4, by omega⟩
    let addr := 4 * s.f Fld.PWM_DSC_DSG_SHM_ADDR
    let inShared := 0x10000000 ≤ addr ∧ addr < 0x103F0000
    let avail (m : Nat) : Prop := if m = 0 then s.f Fld.PWM_DSC_DSG_CFG_DSC_MASK ≠ 0
      else s.flag Fld.PWM_DSC_DSG_CFG_WIND_EN = true ∧ s.dev = devRun ∧ s.axis wax = axRun
    let goesOn (m : Nat) : Prop := avail m ∧ s.dev ≠ devConfig ∧ s.dev ≠ devStandby ∧
      (m = 1 → s.flag (Fld.QNC_G_STATE_TRIPPED (axGroup wax)) = false)
    let word : Word := BitVec.ofNat 32 (1 + 16 * s.f Fld.PWM_DSC_DSG_CFG_WAX + 65536 * (d.shm + 1))
    let rest (t : State) : Prop :=
      s.keepsOutside t [0x4000, 0x4001, 0x4010, 0x4004, 0x4008, 0x400C, 0x400F] ∧ t.chk = s.chk ∧
      ∀ x, x < hlmLive ∨ hlmSnap + hlmLen ≤ x → x < addr ∨ addr + 4 ≤ x → memGet t.mem x = memGet s.mem x
    let started (due m : Nat) (t : State) : Prop :=
      t.dsg = 2 + m ∧ t.dcl.methT0 = max s.time due ∧
      t.dcl.ePrev = ((s.advance due).linkV.map fun v => (v : Int) - s.f Fld.PWM_DSC_DSG_TGT_V_T * 2 ^ 22) ∧
      (m = 1 → inShared → t.memW addr = word) ∧ t.dev = s.dev
    let ended (due : Nat) (t : State) : Prop :=
      t.dsg = 5 ∧ t.f Fld.PWM_DSC_DSG_STAT_FAIL = 1 ∧ t.flag Fld.SYS_STATUS_FAULT_NEW = true ∧
      t.f Fld.PWM_DSC_DSG_STAT_ELAPSED = min ((max s.time due - d.dsgT0) / 6000000) 65535 ∧
      (devConfig ≤ s.dev → s.dev ≤ devRun → t.dev = devSafe) ∧ (s.dev = devSafe ∨ s.dev = devFault → t.dev = s.dev) ∧
      (s.dsg = 2 ∨ s.dsg = 3 → inShared → t.memW addr = 0#32)
    let failed (due m : Nat) (t : State) : Prop :=
      t.time = max s.time due ∧ rest t ∧
      (d.second = true → ended due t) ∧
      (d.second = false → t.f Fld.PWM_DSC_DSG_STAT_ESC = 1 ∧ t.dcl.second = true ∧
        (goesOn (1 - m) → started due (1 - m) t ∧ (m = 1 → s.dsg = 3 → inShared → t.memW addr = 0#32)) ∧
        (¬ goesOn (1 - m) → ended due t))
    let reqOk := key = 0xA55A#16 ∧ s.dsgRun = false ∧ (s.dev = devArmed ∨ s.dev = devRun ∨ s.dev = devSafe ∨ s.dev = devFault)
    let joins := key = 0xA55A#16 ∧ s.dsgRun = true ∧ d.dsgT0 / 4 = s.perCycle
    (reqOk → writes (.dischargeRequest key) s fun s t =>
      t.dsg = 1 ∧ t.f Fld.PWM_DSC_DSG_STAT_SRC = 0 ∧ t.f Fld.PWM_DSC_DSG_STAT_ELAPSED = 0 ∧ t.dcl.dsgT0 = s.time ∧
      t.dcl.second = false ∧ t.dcl.pre = false ∧ t.dcl.main = false ∧ t.dcl.neg = false ∧
      t.pch = (if s.pch = pchOpen then pchOpen else pchAborted) ∧ t.pwm = s.pwm ∧ s.faultFrame t [0x4004]) ∧
    (joins → writes (.dischargeRequest key) s fun s t => { t with regs := s.regs, sys := s.sys } = s ∧ t.dsg = s.dsg ∧
      s.keeps t [.PWM_DSC_DSG_STAT] ∧ t.f Fld.PWM_DSC_DSG_STAT_WR_IGN = s.f Fld.PWM_DSC_DSG_STAT_WR_IGN) ∧
    (¬ reqOk → ¬ joins → writes (.dischargeRequest key) s fun s t =>
      t.f Fld.PWM_DSC_DSG_STAT_WR_IGN = 1 ∧ s.onlyRegs t [.PWM_DSC_DSG_STAT]) ∧
    (s.dsgRun = true → wGet (shownReg .PWM_DSC_DSG_STAT s) 16 16 = min ((s.time - d.dsgT0) / 6000000) 65535) ∧
    (s.dsg = 1 →
      let due := d.dsgT0 + s.f Fld.PWM_DSC_DSG_CFG_T_OPEN * 600000
      let m := s.f Fld.PWM_DSC_DSG_CFG_FIRST
      (avail m → gives .dischargeOpenEnd s fun t => t.time = max s.time due ∧ started due m t ∧ rest t) ∧
      (¬ avail m → gives .dischargeOpenEnd s (failed due m))) ∧
    (s.dsg = 2 ∨ s.dsg = 3 →
      let due := d.methT0 + s.f Fld.PWM_DSC_DSG_CFG_T_CHK * 6000000
      let e := (s.advance due).linkV.map fun v => (v : Int) - s.f Fld.PWM_DSC_DSG_TGT_V_T * 2 ^ 22
      let ok := ∃ x p, e = some x ∧ d.ePrev = some p ∧ x * 256 ≤ s.f Fld.PWM_DSC_DSG_CFG_RATIO * p
      (linkDone (s.advance due) (max s.time due) = true → exec .decayCheck s = .next (s.advance due)) ∧
      (linkDone (s.advance due) (max s.time due) = false →
        (∀ x, ok → e = some x → exec .decayCheck s =
          .next { s with time := max s.time due, dcl := { d with methT0 := max s.time due, ePrev := some x } }) ∧
        (¬ ok → gives .decayCheck s (failed due (s.dsg - 2))))) ∧
    (s.dsgRun = true →
      let due := d.dsgT0 + s.f Fld.PWM_DSC_DSG_TGT_TMAX * 6000000
      let done := linkDone (s.advance due) (max s.time due) = true ∨
        ∃ v, (s.advance due).linkV = some v ∧ v ≤ s.f Fld.PWM_DSC_DSG_TGT_V_T * 2 ^ 22
      (¬ done → gives .dischargeTimeout s fun t => t.time = max s.time due ∧ ended due t ∧ rest t) ∧
      (done → exec .dischargeTimeout s = .next (s.advance due)))

/-- The device has entered FAULT with the Anvil in SV_LATCHED and a reaction of device scope (R321). -/
def latchedFault (t : State) : Prop :=
  t.sv = svLatched ∧ t.dev = devFault ∧ t.flag Fld.SYS_STATUS_FAULT_NEW = true ∧ ∃ e ∈ t.anv.react, e.axis = none ∧ e.code = 4

/-- A frame on the safety port that the Anvil does not discard before its command (R339). -/
def sspiGood (s : State) (cmd seq : BitVec 8) (data : Word) (crc : BitVec 16) (clocks : Nat) : Prop :=
  s.anv.failed = false ∧ clocks = 64 ∧ crc = sspiCrc cmd seq data ∧ (∀ q, s.anv.seq = some q → seq = q + 1#8)

/-- The answer of an accepted frame, and its count (R339, R351). -/
def sspiAnswered (s t : State) (status seq : BitVec 8) (data : Word) : Prop :=
  t.anv.resp = status ++ seq ++ data ++ sspiCrc status seq data ∧ t.anv.seq = some seq ∧
    t.f Fld.ANV_SSPI_GOOD = (s.f Fld.ANV_SSPI_GOOD + 1) % 65536 ∧ t.f Fld.ANV_SSPI_BAD = s.f Fld.ANV_SSPI_BAD

/-- STO_INPUT_CHANGE passes a low level once it has lasted T_STOF, at once without the Anvil's oscillator, and shows both filtered levels
and the cut; a new cut takes SV_ENABLED to SV_ARMED, records a fault, takes the device to SAFE and sends the AUX channels it cuts in BRAKE
to RUN to FAULT. STO_DISCREPANCY after T_DISC sets DISC, enters SV_LATCHED and FAULT. A frame of other than 64 clocks, a wrong CRC, a SEQ
out of turn or no command is discarded with statuses 5, 1, 2 and 3, counted in BAD, with SSPI_ERR; SEQ stays. A good frame counts in GOOD
and keeps its SEQ: READ answers the value named, DEMAND outside SV_INIT with its reserved bits 0 stores its word and feeds the watchdog,
CONFIRM after DONE without RANGE_ERR compares the CRC and enters SV_ARMED from SV_INIT, ACK withdraws the reactions whose cause is gone, an
SS1 only after its stop has completed; what is refused answers status 4. LOCK_CHECK_DONE sets DONE and PCRC, and RANGE_ERR with BAD_ADDR at
the first word that breaks R344. PARAMETER_CRC_CHECK that differs enters SV_LATCHED. DATA of a discarded frame's response is free; the order
of R344's words is the model's (log entry 26). (R321, R323, R324, R325, R329, R339, R340, R341, R343, R345, R346, log entry 26). -/
def Obligations.AnvilStoSafetyPortAndLockCheck : Prop :=
  ∀ (s : State), s.dsgRun = false →
    let frame (t : State) : Prop := s.faultFrame t [0x4008, 0x400C, 0x400F]
    (∀ (a b : Bool) (tc : Nat),
      let filt := if 2 ≤ s.sys.svBad then 0 else s.f Fld.ANV_CFG_T_STOF * 6000
      let now := max s.time tc
      let pa := a && decide ((s.anv.stoLow[0]).getD tc + filt ≤ now)
      let pb := b && decide ((s.anv.stoLow[1]).getD tc + filt ≤ now)
      let onWay := ∃ i : Fin 2, ((s.anv.stoLow[i]).any fun u => decide (s.time < u + filt ∧ u + filt ≤ tc)) = true
      gives (.stoInputChange (a, b) tc) s fun t =>
      t.time = now ∧ t.flag Fld.ANV_STATUS_STO_A = pa ∧ t.flag Fld.ANV_STATUS_STO_B = pb ∧ t.flag Fld.ANV_STATUS_CUT = (pa || pb) ∧
      (¬ onWay → t.anv.disc = (if pa = pb then none
        else if s.flag Fld.ANV_STATUS_STO_A ≠ s.flag Fld.ANV_STATUS_STO_B then s.anv.disc else some now)) ∧
      (pa = true ∨ pb = true ∨ onWay → s.flag Fld.ANV_STATUS_CUT = false →
        t.sv = (if s.sv = svEnabled then svArmed else s.sv) ∧ t.flag Fld.SYS_STATUS_FAULT_NEW = true ∧
        (devConfig ≤ s.dev → s.dev ≤ devRun → t.dev = devSafe) ∧
        ∀ n : Fin 8, (s.f Fld.ANV_CFG_STO_AUX).testBit n.val = true → auxBrake ≤ s.auxSt n → s.auxSt n ≤ auxRun →
          t.auxSt n = auxFault ∧ t.f (Fld.AUX_CH_STATUS_TRIPPED n) = 1) ∧
      (¬ onWay → (pa = false ∧ pb = false) ∨ s.flag Fld.ANV_STATUS_CUT = true → s.keeps t [.ANV_STATUS] ∧ s.keepsMem t) ∧ frame t) ∧
    (∀ t0, s.anv.disc = some t0 → s.flag Fld.ANV_STATUS_DISC = false → gives .stoDiscrepancy s fun t =>
      t.time = max s.time (t0 + s.f Fld.ANV_CFG_T_DISC * 60000 + 1) ∧ t.flag Fld.ANV_STATUS_DISC = true ∧ latchedFault t ∧ frame t) ∧
    (∀ (seq : BitVec 8) (data : Word) (crc : BitVec 16) (clocks : Nat),
      let send (cmd : BitVec 8) : Instr :=
        if cmd = 0x10#8 then .demand seq data crc clocks else if cmd = 0x20#8 then .confirm seq data crc clocks
        else if cmd = 0x30#8 then .ack seq data crc clocks else .sspiRead cmd seq data crc clocks
      let discarded (status : BitVec 8) (t : State) : Prop :=
        t.anv.resp.extractLsb' 56 8 = status ∧ t.anv.resp.extractLsb' 48 8 = seq ∧ t.anv.seq = s.anv.seq ∧ t.anv.react = s.anv.react ∧
        t.f Fld.ANV_SSPI_BAD = min 255 (s.f Fld.ANV_SSPI_BAD + 1) ∧ t.flag Fld.ANV_STATUS_SSPI_ERR = true ∧
        t.rd .ANV_DEMAND = s.rd .ANV_DEMAND ∧ s.faultFrame t [0x400F]
      (∀ cmd : BitVec 8, s.anv.failed = false →
        (clocks ≠ 64 → gives (send cmd) s (discarded 5#8)) ∧
        (clocks = 64 → crc ≠ sspiCrc cmd seq data → gives (send cmd) s (discarded 1#8)) ∧
        (∀ q, s.anv.seq = some q → clocks = 64 → crc = sspiCrc cmd seq data → seq ≠ q + 1#8 → gives (send cmd) s (discarded 2#8)) ∧
        (sspiGood s cmd seq data crc clocks → cmd ≠ 0x01#8 → cmd ≠ 0x10#8 → cmd ≠ 0x20#8 → cmd ≠ 0x30#8 →
          gives (send cmd) s (discarded 3#8))) ∧
      (sspiGood s 0x01#8 seq data crc clocks → gives (.sspiRead 0x01#8 seq data crc clocks) s fun t =>
        let k := wGet data 0 8
        (k = 0 → sspiAnswered s t 0#8 seq (s.rd .ANV_STATUS)) ∧ (k = 1 → sspiAnswered s t 0#8 seq (s.rd .ANV_PCRC)) ∧
        (k = 2 → sspiAnswered s t 0#8 seq (s.rd .ANV_CAUSE)) ∧
        (∀ n : Fin 4, (k = 3 + n.val → sspiAnswered s t 0#8 seq (s.rd (.ANV_AX_STAT n))) ∧
          (k = 7 + n.val → sspiAnswered s t 0#8 seq (s.rd (.ANV_AX_SPEED n)))) ∧
        (10 < k → t.anv.resp.extractLsb' 56 8 = 4#8) ∧ s.keeps t [.ANV_SSPI] ∧ s.keepsMem t) ∧
      (sspiGood s 0x10#8 seq data crc clocks → gives (.demand seq data crc clocks) s fun t =>
        let ok := s.sv ≠ svInit ∧ wGet data 26 6 = 0
        sspiAnswered s t (if ok then 0#8 else 4#8) seq (s.rd .ANV_STATUS) ∧
        t.rd .ANV_DEMAND = (if ok then data else s.rd .ANV_DEMAND) ∧ t.anv.demandCyc = (if ok then s.time else s.anv.demandCyc) ∧
        (ok → t.anv.wdOut = false) ∧ s.keeps t [.ANV_SSPI, .ANV_DEMAND] ∧ s.keepsMem t) ∧
      (sspiGood s 0x20#8 seq data crc clocks → gives (.confirm seq data crc clocks) s fun t =>
        let ready := s.flag Fld.ANV_PSTAT_DONE = true ∧ s.flag Fld.ANV_PSTAT_RANGE_ERR = false
        sspiAnswered s t (if ready ∧ data = s.rd .ANV_PCRC then 0#8 else 4#8) seq (t.rd .ANV_PSTAT) ∧
        (ready → data = s.rd .ANV_PCRC → t.flag Fld.ANV_PSTAT_CONFIRMED = true ∧ t.sv = (if s.sv = svInit then svArmed else s.sv)) ∧
        (ready → data ≠ s.rd .ANV_PCRC → t.flag Fld.ANV_PSTAT_CONF_FAIL = true ∧ t.flag Fld.SYS_STATUS_FAULT_NEW = true ∧ t.sv = s.sv) ∧
        (¬ ready → s.keeps t [.ANV_SSPI] ∧ s.keepsMem t) ∧ s.faultFrame t [0x400F]) ∧
      (sspiGood s 0x30#8 seq data crc clocks → data = 0x5AA5#32 → gives (.ack seq data crc clocks) s fun t =>
        sspiAnswered s t 0#8 seq (t.rd .ANV_STATUS) ∧
        (∀ e, e ∈ t.anv.react ↔ e ∈ s.anv.react ∧ (e.latched = true ∨ anvPresent s e = true ∨ (e.code = 5 ∧ ∃ n : Fin 4, (e.axis = none ∨ e.axis = some n) ∧ s.anv.ax[n].off = false))) ∧
        (∀ n : Fin 4, t.f (Fld.ANV_AX_STAT_HIT n) = s.f (Fld.ANV_AX_STAT_HIT n) &&& s.anv.ax[n].viol.toNat) ∧
        (s.anv.wdOut = false → t.flag Fld.ANV_STATUS_WD_EXP = false) ∧
        t.sv = (if s.sv = svReact ∧ anvDevice t = false then svArmed else s.sv) ∧ frame t) ∧
      (sspiGood s 0x30#8 seq data crc clocks → data ≠ 0x5AA5#32 → gives (.ack seq data crc clocks) s fun t =>
        sspiAnswered s t 4#8 seq (s.rd .ANV_STATUS) ∧ t.anv.react = s.anv.react ∧ s.keeps t [.ANV_SSPI] ∧ s.keepsMem t)) ∧
    (s.locked = true → s.flag Fld.ANV_PSTAT_DONE = false → s.anv.failed = false → gives .lockCheckDone s fun t =>
      t.flag Fld.ANV_PSTAT_DONE = true ∧ t.rd .ANV_PCRC = crc32 ((anvImage s).map (·.2)) ∧ t.sv = s.sv ∧
      ((∀ p ∈ anvImage s, imageWordOk s p.1 p.2 = true) → t.f Fld.ANV_PSTAT_RANGE_ERR = s.f Fld.ANV_PSTAT_RANGE_ERR) ∧
      (∀ p, (anvImage s).find? (fun p => !imageWordOk s p.1 p.2) = some p →
        t.flag Fld.ANV_PSTAT_RANGE_ERR = true ∧ t.f Fld.ANV_PSTAT_BAD_ADDR = p.1 % 65536 ∧ t.flag Fld.SYS_STATUS_FAULT_NEW = true) ∧
      s.faultFrame t [0x400F]) ∧
    (∀ crc : Word, s.flag Fld.ANV_PSTAT_DONE = true → s.anv.failed = false → s.flag Fld.ANV_PSTAT_COPY_ERR = false →
      (crc ≠ s.rd .ANV_PCRC → gives (.parameterCrcCheck crc) s fun t =>
        t.flag Fld.ANV_PSTAT_COPY_ERR = true ∧ latchedFault t ∧ frame t) ∧
      (crc = s.rd .ANV_PCRC → exec (.parameterCrcCheck crc) s = .next s))

/-- MONITORING_CYCLE of a working Anvil notes its heartbeat; with checked parameters each monitored axis samples its position, keeps 17
samples, has the speed of R319 once they stand, shows SLS_ACT and SDI_ACT as demanded, and violates N_MAX exactly beyond NMAX and feedback
exactly while its channel has failed; a violated N_MAX whose reaction is not NONE sets HIT and is in force with its scope and code; V_DC
above VDC_MAX is a violation from SV_ARMED on; allowed brakes are released; from SV_ARMED on the selection is ASC from R_ON, PULSE_OFF up to
R_OFF and otherwise kept; SV_ARMED with nothing against it becomes SV_ENABLED. WATCHDOG_EXPIRY sets WD_EXP and a device reaction takes
SV_ARMED or SV_ENABLED to SV_REACT and the device to SAFE. HEARTBEAT_MISSING and ANVIL_DOMAIN_FAIL fail the domain, with SV_LATCHED, and
take the device to FAULT. BRAKE_FEEDBACK_MISMATCH of an enabled feedback that has disagreed for T_FB sets MISM, SV_LATCHED and FAULT; one
that agrees only ends that time. Speed 0 before 17 samples is the model's choice (log entry 26). (R317, R318, R319, R320, R321, R326, R330,
R332, R334, R337, R342, log entry 26). -/
def Obligations.AnvilMonitoringCycleAndFailures : Prop :=
  ∀ (s : State), s.dsgRun = false →
    let frame (t : State) : Prop := s.faultFrame t [0x4004, 0x4008, 0x400C, 0x400F]
    (s.anv.failed = false → gives .monitoringCycle s fun t =>
      t.time = s.time ∧ t.anv.beat = s.time ∧ t.anv.cycles = s.anv.cycles + 1 ∧ frame t ∧
      (s.anvLive = false → t.regs = s.regs ∧ s.keepsMem t) ∧
      (s.anvLive = true → t.anv.applied = s.rd .ANV_DEMAND ∧ (∀ k : Fin 2, sbcOut t k = sbcAllowed t k) ∧
        (∀ v, anvV s = some v → t.anv.vdcBad = (decide (s.sv ≠ svInit) && decide (s.f Fld.ANV_VDC_LIM_VDC_MAX * 2 ^ 22 < v))) ∧ (∀ n : Fin 4, s.anvOn n = true →
        let pos := anvPos s n
        let cpr := s.f (Fld.ANV_AX_CPR_CPR n)
        let speed := (t.rd (.ANV_AX_SPEED n)).toInt
        let field := anvField s n 1
        let k := fVal (s.rd (.ANV_AX_KE n))
        let lhs := Frac.mul k ⟨speed.natAbs * 10 * 2 ^ 22 * 64, 1⟩
        t.f (Fld.ANV_AX_POS_POS n) = pos.1 % 2 ^ 24 ∧ t.anv.ax[n].counts = ((pos.1 : Int) :: s.anv.ax[n].counts).take 17 ∧
        (∀ c, 0 < cpr → s.anv.ax[n].counts[15]? = some c →
          let d := ((pos.1 : Int) - c + (cpr / 2 : Nat)) % (cpr : Int) - (cpr / 2 : Nat)
          t.rd (.ANV_AX_SPEED n) = wordOfInt (Int.tdiv (d * 300000) cpr)) ∧
        t.flag (Fld.ANV_AX_STAT_SLS_ACT n) = (s.rd .ANV_DEMAND).getLsbD n.val ∧
        t.flag (Fld.ANV_AX_STAT_SDI_ACT n) = (s.rd .ANV_DEMAND).getLsbD (12 + n.val) ∧
        t.anv.ax[n].viol.getLsbD 1 = decide (s.f (Fld.ANV_AX_NMAX_NMAX n) < speed.natAbs) ∧
        t.anv.ax[n].viol.getLsbD 5 = pos.2 ∧
        (s.f (Fld.ANV_AX_NMAX_NMAX n) < speed.natAbs → field % 8 ≠ 0 →
          (t.f (Fld.ANV_AX_STAT_HIT n)).testBit 1 = true ∧
          ∃ e ∈ t.anv.react, e.mon = 0x11 ∧ e.axis = (if field < 8 then some n else none) ∧ e.code = field % 8) ∧
        (∀ v, anvV s = some v → 0 < v → s.sv ≠ svInit → pos.2 = false →
          let on := (Frac.ofInt (s.f (Fld.ANV_AX_SELTH_R_ON n) * v : Nat)).le lhs = true
          let off := lhs.le (Frac.ofInt (s.f (Fld.ANV_AX_SELTH_R_OFF n) * v : Nat)) = true
          t.f (Fld.ANV_AX_STAT_SEL n) = (if on then 1 + s.f (Fld.ANV_AX_CFG_ASC_SIDE n) else if off then 0
            else s.f (Fld.ANV_AX_STAT_SEL n)))) ∧
        (s.sv = svArmed → t.anv.react = [] → devStandby ≤ t.dev → t.dev ≤ devRun → s.flag Fld.ANV_STATUS_CUT = false →
          s.f Fld.ANV_WD_T_WD = 0 → t.sv = svEnabled))) ∧
    (s.anvLive = true → s.sv ≠ svInit → s.f Fld.ANV_WD_T_WD ≠ 0 → s.anv.wdOut = false → gives .watchdogExpiry s fun t =>
      let field := s.f Fld.ANV_WD_WD_REACT
      t.time = max s.time (max s.anv.demandCyc s.anv.armedCyc + s.f Fld.ANV_WD_T_WD * 600000 + 1) ∧ t.anv.wdOut = true ∧
      t.flag Fld.ANV_STATUS_WD_EXP = true ∧ frame t ∧
      (8 < field → (∀ e ∈ s.anv.react, e.mon ≠ 0x19) →
        t.sv = (if s.sv = svArmed ∨ s.sv = svEnabled then svReact else s.sv) ∧ t.flag Fld.SYS_STATUS_FAULT_NEW = true ∧
        t.flag Fld.ANV_STATUS_DEV_REACT = true ∧ (devConfig ≤ s.dev → s.dev ≤ devRun → t.dev = devSafe) ∧
        ∃ e ∈ t.anv.react, e.mon = 0x19 ∧ e.axis = none ∧ e.code = field % 8)) ∧
    (s.anv.failed = false →
      let gone (t : State) : Prop := t.anv.failed = true ∧ latchedFault t ∧ s.faultFrame t [0x4008, 0x400C, 0x400F]
      gives .heartbeatMissing s (fun t => t.time = max s.time (s.anv.beat + 120000) ∧ gone t) ∧ gives .anvilDomainFail s gone) ∧
    (∀ k : Fin 2, s.anvLive = true → (sbcFb s k).2 = true → (s.f Fld.ANV_SBC_STAT_MISM).testBit k.val = false →
      ((sbcFb s k).1 ≠ sbcOut s k → gives (.brakeFeedbackMismatch k) s fun t =>
        t.time = max s.time ((s.anv.fbSince[k]).getD s.time + s.f Fld.ANV_SBC_T_FB * 600000 + 1) ∧
        (t.f Fld.ANV_SBC_STAT_MISM).testBit k.val = true ∧ latchedFault t ∧ s.faultFrame t [0x4008, 0x400C, 0x400F]) ∧
      ((sbcFb s k).1 = sbcOut s k → gives (.brakeFeedbackMismatch k) s fun t =>
        { t with anv := s.anv } = s ∧ t.anv.fbSince[k] = none ∧ { t.anv with fbSince := s.anv.fbSince } = s.anv))

/-- LOCKSTEP_MISMATCH of a compared pair, with the lead's event in core cycle c: at c + 3 MISMATCH is set, CNT advances (saturating), and
MIS_LAST, ADDR, LEAD, CHK and T = c + 2 are captured, unless a lower pair's mismatch of the same cycle stands; a loop pair is RETIRED,
Kenow's takes the device to FAULT; where QSRC's bit is set source 113 is active for 16 peripheral cycles. A pair that is not compared
changes nothing. ASSAY_SOURCE_END makes source 113 inactive when they have passed. ASYNC_PORT_READ of Kenow's aligned word load from a port,
with n < 4 re-captures, gives both copies the value read after 4 (n + 1) core cycles and sets RUN to 0; with the samples still different
after 16 cycles both copies take the lead's last sample, UNSTABLE and PORT are set, RUN and CNT advance, a fault is recorded, and RUN
reaching a UNST_LIM other than 0 sets UNST_LIMIT and takes the device to SAFE. (R355, R358, R359, R360, R361, R362, R375, R377). -/
def Obligations.LockstepMismatchesAndPortReads : Prop :=
  ∀ (s : State),
    (∀ (p : Fin 25) (lane : Fin 3) (addr lead chk : Word) (cyc : Nat),
      let i : Instr := .lockstepMismatch p lane addr lead chk cyc
      (s.compared p = false → exec i s = .next s) ∧
      (s.compared p = true → gives i s fun t =>
        let lower := s.asy.misCyc = some t.time ∧ s.f Fld.ASY_MIS_LAST_PAIR < p.val
        let bit := if p = 24 then 0 else 1
        t.time = max s.time (cyc + 3) ∧ t.flag Fld.ASY_STATUS_MISMATCH = true ∧ t.flag Fld.SYS_STATUS_FAULT_NEW = true ∧
        t.f Fld.ASY_MIS_LAST_CNT = min 255 (s.f Fld.ASY_MIS_LAST_CNT + 1) ∧
        (¬ lower → t.f Fld.ASY_MIS_LAST_PAIR = p.val ∧ t.f Fld.ASY_MIS_LAST_LANE = lane.val ∧ t.rd .ASY_MIS_ADDR = addr ∧
          t.rd .ASY_MIS_LEAD = lead ∧ t.rd .ASY_MIS_CHK = chk ∧ t.rd .ASY_MIS_T = BitVec.ofNat 32 (cyc + 2)) ∧
        (lower → t.f Fld.ASY_MIS_LAST_PAIR = s.f Fld.ASY_MIS_LAST_PAIR ∧ t.f Fld.ASY_MIS_LAST_LANE = s.f Fld.ASY_MIS_LAST_LANE ∧
          ∀ r, r = .ASY_MIS_ADDR ∨ r = .ASY_MIS_LEAD ∨ r = .ASY_MIS_CHK ∨ r = .ASY_MIS_T → t.rd r = s.rd r) ∧
        (∀ q : Fin 24, p = q.castSucc → t.pairSt q = pairRetired ∧ (∀ q', q' ≠ q → t.pairSt q' = s.pairSt q') ∧ t.ken = s.ken ∧
          (s.dsgRun = false → s.f Fld.ASY_CFG_QSRC / 2 % 2 = 0 → t.dev = s.dev)) ∧
        (p = 24 → t.dev = devFault ∧ t.raw 117 = (decide (s.dev ≠ devFault) || s.raw 117)) ∧
        (s.f Fld.ASY_CFG_QSRC / 2 ^ bit % 2 = 1 → t.raw 113 = true ∧ t.flag Fld.ASY_STATUS_QSRC_ACT = true ∧
          t.asy.srcTill = some (t.time / 4 + 16)) ∧
        (s.dsgRun = false → s.faultFrame t [0x4008, 0x400C, 0x400D, 0x400E, 0x400F]))) ∧
    (∀ c, s.asy.srcTill = some c → gives .assaySourceEnd s fun t =>
      t.time = max s.time (4 * c) ∧ t.raw 113 = false ∧ t.flag Fld.ASY_STATUS_QSRC_ACT = false ∧ t.asy.srcTill = none ∧
      (∀ k, k ≠ 113 → t.raw k = s.raw k) ∧ s.keeps t [.QNC_RAW 3, .ASY_STATUS] ∧ s.keepsMem t) ∧
    (∀ (d a : BitVec 5) (v : BitVec 16) (tries : Fin 5) (sample : Word) (port : Nat) (flt : Bool), s.ready 24 = true →
      nextOp s 24 = some (if flt then .flw d a v else .load .lw d a v) →
      let ea := ((s.copyOf 24 false).rx a + v.signExtend 32).toNat
      ea % 4 = 0 → asyncPort ea = some port →
      let takes (t : State) (w : Word) : Prop :=
        ∀ chk, t.copyOf 24 chk = { (if flt then (s.copyOf 24 chk).wf d w else (s.copyOf 24 chk).wx d w) with pc := (s.copyOf 24 chk).pc + 4#32 }
      (tries.val < 4 → gives (.asyncPortRead tries sample) s fun t =>
        t.time = s.time + 4 * (tries.val + 1) ∧ takes t (busRead ea 4 { s with time := t.time }).1 ∧
        t.f Fld.ASY_UNST_RUN = 0 ∧ s.keeps t [.ASY_UNST] ∧ s.keepsMem t) ∧
      (tries = 4 → gives (.asyncPortRead tries sample) s fun t =>
        let run := s.f Fld.ASY_UNST_RUN + 1
        let lim := s.f Fld.ASY_CFG_UNST_LIM
        t.time = s.time + 16 ∧ takes t sample ∧ t.flag Fld.ASY_STATUS_UNSTABLE = true ∧ t.f Fld.ASY_UNST_PORT = port ∧
        t.f Fld.ASY_UNST_RUN = min 15 run ∧ t.f Fld.ASY_UNST_CNT = min 65535 (s.f Fld.ASY_UNST_CNT + 1) ∧
        t.flag Fld.SYS_STATUS_FAULT_NEW = true ∧
        (lim ≠ 0 → run = lim → t.flag Fld.ASY_STATUS_UNST_LIMIT = true ∧ (devConfig ≤ s.dev → s.dev ≤ devRun → t.dev = devSafe)) ∧
        (lim = 0 ∨ run ≠ lim → t.f Fld.ASY_STATUS_UNST_LIMIT = s.f Fld.ASY_STATUS_UNST_LIMIT ∧ (s.dsgRun = false → t.dev = s.dev)) ∧
        (s.dsgRun = false → s.faultFrame t [0x4008, 0x400C, 0x400E, 0x400F])))

/-- With ST_DBG high, DEBUG_HALT of a pair that is neither OFF, RETIRED nor halted, outside BOOT, stops it, sets LOCKSTEP_BROKEN and
BROKEN_EV, counts it and takes ARMED and RUN to DEBUG; BREAKPOINT_MATCH halts so a pair that stands at an armed address. In BOOT, or with
the pair OFF or RETIRED, it sets REFUSED. RESUME of a halted pair starts the copy of 2,048 core cycles, of another sets REFUSED;
RESUME_COPY_DONE gives the checker the lead's state and ends the halt. STEP executes the halted pair's next instruction.
DEBUG_REGISTER_WRITE writes the halted lead's register; with CORE 1 it sets REFUSED. With ST_DBG low none of these changes anything. The
TAP's instructions select their register: IDCODE reads 0x109600F3; EXTEST drives and HIGHZ releases pads only while RST_N is low; DBG_ADDR,
DEBUG_READ and DEBUG_WRITE act only with ST_DBG high, one access at a time, and DEBUG_ACCESS_DONE makes it and moves DBG_ADDR by 4. What a
TAP instruction selects is held as the model holds it (log entry 62). (R364, R365, R367, R368, R369, R370, R371, R372, R376, R377, log entry
62). -/
def Obligations.DebugHaltsAndTheJtagPort : Prop :=
  (∀ (s : State) (p : Fin 25), s.dsgRun = false → s.flag Fld.SYS_STRAP_DBG = true →
    let one : BitVec 25 := BitVec.ofNat 25 (2 ^ p.val)
    let met (s : State) : Prop := s.asy.misCyc = some s.time ∧ s.f Fld.ASY_MIS_LAST_PAIR = p.val
    let others (s t : State) : Prop := (∀ q : Fin 24, q.castSucc ≠ p → t.lp q = s.lp q) ∧ (p ≠ 24 → t.ken = s.ken)
    let refused (i : Instr) : Prop := writes i s fun s t => t.flag Fld.DBG_STATUS_REFUSED = true ∧ s.onlyRegs t [.DBG_STATUS]
    let halts (s t : State) : Prop :=
      t.isHalted p = true ∧ (∀ chk, t.copyOf p chk = s.copyOf p chk) ∧ t.flag Fld.SYS_STATE_LOCKSTEP_BROKEN = true ∧
      t.flag Fld.ASY_STATUS_LOCKSTEP_BROKEN = true ∧ t.flag Fld.ASY_STATUS_BROKEN_EV = true ∧
      t.f Fld.ASY_BROKEN_HALTS = min 255 (s.f Fld.ASY_BROKEN_HALTS + 1) ∧
      t.f Fld.ASY_BROKEN_FIRST = (if s.f Fld.ASY_BROKEN_HALTS = 0 then p.val else s.f Fld.ASY_BROKEN_FIRST) ∧
      t.dev = (if s.dev = devArmed ∨ s.dev = devRun then devDebug else s.dev) ∧ others s t ∧ s.faultFrame t [0x400E]
    (s.pairUp p = true → s.isHalted p = false → s.dev ≠ devBoot →
      (¬ met s.atWrite → writes (.debugHalt one) s halts) ∧
      (¬ met s → s.executing p = true → breakHit s p = true → gives (.breakpointMatch p) s (halts s))) ∧
    (s.pairUp p = false ∨ s.dev = devBoot ∨ met s.atWrite → refused (.debugHalt one)) ∧
    (s.isHalted p = true → s.copyTill p = none → writes (.resume one) s fun s t =>
      t.copyTill p = some (s.time + 2048) ∧ t.isHalted p = true ∧ (∀ chk, t.copyOf p chk = s.copyOf p chk) ∧ others s t ∧
      t.regs = s.regs ∧ s.keepsMem t) ∧
    (s.isHalted p = false ∨ s.copyTill p ≠ none → refused (.resume one)) ∧
    (∀ c, s.copyTill p = some c → gives (.resumeCopyDone p) s fun t =>
      t.time = max s.time c ∧ t.isHalted p = false ∧ t.copyTill p = none ∧ (∀ chk, t.copyOf p chk = s.copyOf p false) ∧ others s t ∧
      t.regs = s.regs ∧ s.keepsMem t) ∧
    (s.f Fld.DBG_SEL_PAIR = p.val →
      (∀ o, s.isHalted p = true → s.copyTill p = none → canStep s p = true → nextOp s p = some o →
        writes .step s fun s t => t = runOp p o 0 .ok (issueNow p s)) ∧
      (s.isHalted p = true → s.copyTill p = none → canStep s p = true → nextOp s p = none →
        writes .step s fun s t => t = illegalOp p .ok (issueNow p s)) ∧
      (s.isHalted p = true → s.copyTill p = none → canStep s p = false → writes .step s fun s t => t = s) ∧
      (s.isHalted p = false ∨ s.copyTill p ≠ none → refused .step) ∧
      (∀ (v : Word) (r : BitVec 5), s.isHalted p = true → s.flag Fld.DBG_SEL_CORE = false →
        let sets (f : Core → Core) : Prop := writes (.debugRegisterWrite v) s fun s t =>
          t.copyOf p false = f (s.copyOf p false) ∧ t.copyOf p true = s.copyOf p true ∧ others s t ∧ t.regs = s.regs ∧ s.keepsMem t
        (s.f Fld.DBG_REG_REG = r.toNat → sets fun c => c.wx r v) ∧ (s.f Fld.DBG_REG_REG = 32 + r.toNat → sets fun c => c.wf r v)) ∧
      (∀ v : Word, s.isHalted p = false ∨ s.flag Fld.DBG_SEL_CORE = true → refused (.debugRegisterWrite v)))) ∧
  (∀ (s : State), s.flag Fld.SYS_STRAP_DBG = false → ∀ (m : BitVec 25) (p : Fin 25) (v : Word),
    exec (.debugHalt m) s = .next s ∧ exec (.breakpointMatch p) s = .next s ∧ exec (.resume m) s = .next s ∧ exec .step s = .next s ∧
    exec (.debugRegisterWrite v) s = .next s) ∧
  (∀ (s : State) (cells : List Bool) (code : BitVec 6) (v : Word),
    let picks (i : Instr) (ir : BitVec 6) : Prop := exec i s = .next { s with tap := { s.tap with ir := ir } }
    let pad (ir : BitVec 6) (k : Nat) (own : Option Bool) : Option Bool := tapPad { s with tap := { s.tap with ir := ir } } k own
    picks .tapReset 0x02#6 ∧ picks .extest 0x00#6 ∧ picks .highz 0x04#6 ∧
    (code ∉ [0x00#6, 0x01#6, 0x02#6, 0x04#6, 0x10#6, 0x11#6] → picks (.bypass code) code) ∧
    (∀ k own, pad 0x00#6 k own = (if s.boot.rstLow then s.tap.cells[k]? else own) ∧ pad 0x04#6 k own = (if s.boot.rstLow then none else own) ∧
      ∀ ir, ir ≠ 0x00#6 → ir ≠ 0x04#6 → pad ir k own = own) ∧
    gives (.samplePreload cells) s (fun t => t.tap.ir = 0x01#6 ∧ t.tap.cells = cells ∧ { t with tap := s.tap } = s) ∧
    gives .idcode s (fun t => t.tap.ir = 0x02#6 ∧ t.rdata = 0x109600F3#32 ∧ { t with tap := s.tap, rdata := s.rdata } = s) ∧
    gives (.dbgAddr v) s (fun t => t.tap.ir = 0x10#6 ∧ t.tap.addr = (if s.flag Fld.SYS_STRAP_DBG then v else s.tap.addr) ∧
      t.tap.busy = s.tap.busy ∧ { t with tap := s.tap } = s) ∧
    (∀ wr : Bool,
      let i : Instr := if wr then .debugWrite v else .debugRead
      let a := s.tap.addr.toNat
      gives i s (fun t => t.tap.ir = 0x11#6 ∧ t.tap.addr = s.tap.addr ∧ { t with tap := s.tap } = s) ∧
      (s.flag Fld.SYS_STRAP_DBG = false ∨ s.tap.busy ≠ none → picks i 0x11#6) ∧
      (s.flag Fld.SYS_STRAP_DBG = true → s.tap.busy = none →
        let barred := wr = true ∧ ((0x400F0000 ≤ a ∧ a < 0x40100000 ∧ s.locked = true) ∨ (0x103F0000 ≤ a ∧ a < 0x10400000))
        (barred → gives i s fun t => t.tap.status = 2#2 ∧ t.tap.busy = none) ∧
        (¬ barred → gives i s fun t => t.tap.status = 1#2 ∧ t.tap.busy = some (wr, if wr then v else 0#32)))) ∧
    (∀ (cyc : Nat) (wr : Bool) (w : Word), s.tap.busy = some (wr, w) → s.flag Fld.SYS_STRAP_DBG = true →
      let a := s.tap.addr.toNat
      gives (.debugAccessDone cyc) s (fun t => t.tap.busy = none ∧ t.tap.status = 0#2 ∧ t.tap.addr = s.tap.addr + 4#32 ∧
        (0x10000000 ≤ a → a < 0x103F0000 → a % 4 = 0 → t.time = max s.time cyc ∧ t.regs = s.regs ∧ t.pair = s.pair ∧
          (wr = false → t.tap.data = s.memW a ∧ t.rdata = s.memW a ∧ s.keepsMem t) ∧
          (wr = true → t.memW a = w ∧ t.chk = s.chk ∧ ∀ x, x < a ∨ a + 4 ≤ x → memGet t.mem x = memGet s.mem x)))))

/-- A regular window of the metering converter: its entry and channel, from a core cycle on, to its end where TIM is FIXED (R384, R387). -/
def regularWindow (s : State) (c : Fin 4) (i : Fin 32) (start : Nat) (w : Option McvWin) : Prop :=
  ∃ x, w = some x ∧ x.inj = false ∧ x.entry = i.val ∧ x.ch = s.f (Fld.MCV_C_SEQ_CH c i) ∧ x.read = none ∧ x.start = start ∧
    x.due = (if s.flag (Fld.MCV_C_CTL_TIM c) then none else some (start + s.f (Fld.MCV_C_TINT_TINT c) * 6000))

/-- An injected window of KIND 0, from a core cycle on (R389). -/
def injectedWindow (s : State) (c : Fin 4) (i : Fin 8) (start : Nat) (w : Option McvWin) : Prop :=
  w = some { inj := true, entry := i.val, ch := s.f (Fld.MCV_C_INJ_CH c i), read := none, start := start,
             due := some (start + 1200 + s.f (Fld.MCV_C_TINT_INJ_TINT c) * 6000), hold := false }

/-- CONVERSION_START of an enabled idle converter sets RUN and begins the window of entry 0 at its start instant (FIXED), or waits for a
boundary (MAINS) or for the injected sequence; while RUN it is dropped with TRG_LOST; while EN = 0 it does nothing. INJECTED_TRIGGER and
INJECTED_PERIODIC_TRIGGER of an enabled converter begin injected entry 0 in the next peripheral cycle for T_SET + INJ_TINT; a window
integrating is aborted with ABORT and ABORTS, one within T_SET abandoned, one ending in the cycle delivered first; during the injected
sequence the trigger is dropped with INJ_LOST. CONVERSION_STOP ends both sequences at entry 0. MCV_WINDOW_END, MAINS_BOUNDARY and
MAINS_WINDOW_TIMEOUT queue the window's result, clamped, with over-range, settling and mains flags, and begin the next entry in the same
core cycle, or end the pass; after the last injected window the regular sequence resumes with its entry. Nothing else changes. The mean of a
window is an operand (log entry 30). (R381, R382, R384, R386, R387, R388, R389, R393, R400, log entry 30). -/
def Obligations.MeteringSequencesAndWindows : Prop :=
  ∀ (s : State) (c : Fin 4), s.dsgRun = false →
    let m := s.mc c
    let on := s.flag (Fld.MCV_C_CTL_EN c) = true
    let running := s.flag (Fld.MCV_C_STATUS_RUN c) = true
    let injRunning := s.flag (Fld.MCV_C_STATUS_INJ_RUN c) = true
    let mains := s.flag (Fld.MCV_C_CTL_TIM c) = true
    let seqFrame (t : State) : Prop := (∀ c', c' ≠ c → t.mc c' = s.mc c') ∧ s.keeps t [.MCV_C_STATUS c] ∧ s.keepsMem t
    let lost (t : State) (f : RF) : Prop := t.flag f = true ∧ t.mc c = m ∧ s.faultFrame t [0x400B]
    let started (t : State) (ts : Nat) : Prop :=
      (¬ on → t.mcv = s.mcv ∧ t.regs = s.regs ∧ s.keepsMem t) ∧ (on → running → lost t (Fld.MCV_C_STATUS_TRG_LOST c)) ∧
      (on → ¬ running → t.flag (Fld.MCV_C_STATUS_RUN c) = true ∧ t.f (Fld.MCV_C_STATUS_IDX c) = 0 ∧ seqFrame t ∧
        (¬ injRunning → ¬ mains → regularWindow s c 0 ts (t.mc c).win) ∧
        (¬ injRunning → mains → (t.mc c).win = none ∧ (t.mc c).wait = some ts) ∧
        (injRunning → (t.mc c).win = m.win ∧ (t.mc c).wait = some ts))
    let triggered (t : State) (at_ : Nat) : Prop :=
      let begins := t.flag (Fld.MCV_C_STATUS_INJ_RUN c) = true ∧ t.f (Fld.MCV_C_STATUS_INJ_IDX c) = 0 ∧
        injectedWindow s c 0 (4 * (at_ / 4 + 1)) (t.mc c).win
      (¬ on ∨ m.stopCyc = some (at_ / 4) → t.regs = s.regs ∧ (t.mc c).win = m.win ∧ (t.mc c).injFrom = m.injFrom ∧ s.keepsMem t) ∧
      (on → m.stopCyc ≠ some (at_ / 4) →
        (injRunning ∨ m.injFrom ≠ none → t.flag (Fld.MCV_C_STATUS_INJ_LOST c) = true ∧ (t.mc c).win = m.win ∧
          t.flag Fld.SYS_STATUS_FAULT_NEW = true ∧ s.faultFrame t [0x400B]) ∧
        (¬ injRunning → m.injFrom = none → s.f (Fld.MCV_C_INJ_KIND c 0) ≠ 1 →
          (m.win = none → begins ∧ (t.mc c).wait = m.wait ∧ seqFrame t) ∧
          (∀ w, m.win = some w →
            (∀ due, w.due = some due → due / 4 = at_ / 4 → (t.mc c).win = m.win ∧ (t.mc c).injFrom ≠ none ∧ t.regs = s.regs ∧ s.keepsMem t) ∧
            ((∀ due, w.due = some due → due / 4 ≠ at_ / 4) →
              (at_ < w.start + 1200 → begins ∧ (t.mc c).wait ≠ none ∧
                t.f (Fld.MCV_C_STATUS_ABORT c) = s.f (Fld.MCV_C_STATUS_ABORT c) ∧ seqFrame t) ∧
              (w.start + 1200 ≤ at_ → begins ∧ (t.mc c).wait ≠ none ∧ t.flag (Fld.MCV_C_STATUS_ABORT c) = true ∧
                t.f (Fld.MCV_C_CNT_ABORTS c) = min 65535 (s.f (Fld.MCV_C_CNT_ABORTS c) + 1) ∧ s.faultFrame t [0x400B])))))
    (s.f (Fld.MCV_C_CTL_TRG c) = 0 → writes (.conversionStart c true) s fun s' t => started t (s'.time + s.f (Fld.MCV_C_DLY_DLY c))) ∧
    (∀ ts rest, takeEv c.val s.post.conv = (some ts, rest) → gives (.conversionStart c false) s fun t => started t ts) ∧
    (s.f (Fld.MCV_C_SEQ_CFG_INJ_TRG c) = 0 → writes (.injectedTrigger c true) s fun s' t => triggered t s'.time) ∧
    (∀ at_ rest, takeEv c.val s.post.inj = (some at_, rest) → gives (.injectedTrigger c false) s fun t => triggered t (max s.time at_)) ∧
    (on → s.f (Fld.MCV_C_SEQ_CFG_INJ_TRG c) = 3 → gives (.injectedPeriodicTrigger c) s fun t => triggered t (max s.time m.injNext)) ∧
    writes (.conversionStop c) s (fun _ t =>
      t.flag (Fld.MCV_C_STATUS_RUN c) = false ∧ t.flag (Fld.MCV_C_STATUS_INJ_RUN c) = false ∧ t.f (Fld.MCV_C_STATUS_IDX c) = 0 ∧
      t.f (Fld.MCV_C_STATUS_INJ_IDX c) = 0 ∧ (t.mc c).win = none ∧ (t.mc c).wait = none ∧ (t.mc c).injFrom = none ∧
      (t.mc c).out = m.out ∧ seqFrame t) ∧
    (∀ (w : McvWin) (mean : Int) (peak : Bool), m.win = some w → w.read = none →
      let result (t : State) (t0 : Nat) (bad : Bool) : Prop := ∃ o, (t.mc c).out = m.out ++ [o] ∧ o.ch = w.ch ∧ o.inj = w.inj ∧ o.t0 = t0 ∧
        o.read = none ∧ o.mains = bad ∧ (o.ovr = true ↔ mcvPriv s w.ch = true ∧ (peak = true ∨ 2 ^ 22 ≤ mean)) ∧
        o.code = (if o.ovr then 2 ^ 22 - 1 else min mean.toNat (2 ^ 22 - 1)) ∧
        (o.unset = true ↔ s.flag Fld.MCV_REF_READY = false ∨ w.start < s.mcv.refUp ∨ t0 / 4 = s.mcv.refUp / 4)
      let regular (i : Instr) (t0 : Nat) (bad : Bool) : Prop := ∀ e : Fin 32, w.inj = false → w.entry = e.val → m.injFrom = none →
        gives i s fun t => t.time = max s.time t0 ∧ result t t0 bad ∧ seqFrame t ∧
          (∀ n : Fin 32, (e.val < s.f (Fld.MCV_C_SEQ_CFG_LEN c) ∧ n.val = e.val + 1) ∨
            (s.f (Fld.MCV_C_SEQ_CFG_LEN c) ≤ e.val ∧ s.flag (Fld.MCV_C_CTL_CONT c) = true ∧ n = 0) →
            t.f (Fld.MCV_C_STATUS_IDX c) = n.val ∧ regularWindow s c n t0 (t.mc c).win) ∧
          (s.f (Fld.MCV_C_SEQ_CFG_LEN c) ≤ e.val → s.flag (Fld.MCV_C_CTL_CONT c) = false →
            t.flag (Fld.MCV_C_STATUS_RUN c) = false ∧ t.f (Fld.MCV_C_STATUS_IDX c) = 0 ∧ (t.mc c).win = none)
      (∀ t0, w.due = some t0 → regular (.mcvWindowEnd c mean peak) t0 false ∧
        (∀ e : Fin 8, w.inj = true → w.entry = e.val → gives (.mcvWindowEnd c mean peak) s fun t =>
          result t t0 false ∧
          (∀ n : Fin 8, n.val = e.val + 1 → n.val ≤ s.f (Fld.MCV_C_SEQ_CFG_INJ_LEN c) → s.f (Fld.MCV_C_INJ_KIND c n) ≠ 1 →
            injectedWindow s c n t0 (t.mc c).win ∧ (t.mc c).wait = m.wait ∧ seqFrame t) ∧
          (s.f (Fld.MCV_C_SEQ_CFG_INJ_LEN c) ≤ e.val → t.flag (Fld.MCV_C_STATUS_INJ_RUN c) = false ∧ seqFrame t ∧
            (m.wait = none → (t.mc c).win = none) ∧
            (∀ u (n : Fin 32), m.wait = some u → s.f (Fld.MCV_C_STATUS_IDX c) = n.val →
              (¬ mains → regularWindow s c n (max u (t0 + 1)) (t.mc c).win) ∧ (mains → (t.mc c).win = none ∧ (t.mc c).wait ≠ none))))) ∧
      (∀ cyc, on → mains → s.time ≤ cyc → mcvBoundary s c cyc = true → w.start < cyc → cyc ≤ w.start + 18000000 →
        regular (.mainsBoundary c cyc mean peak) cyc (mcvHeld s c w)) ∧
      (w.due = none → regular (.mainsWindowTimeout c mean peak) (w.start + 18000000) true)) ∧
    (∀ (cyc u : Nat) (mean : Int) (peak : Bool) (n : Fin 32), on → mains → s.time ≤ cyc → mcvBoundary s c cyc = true → m.win = none →
      m.wait = some u → u < cyc → s.f (Fld.MCV_C_STATUS_IDX c) = n.val → gives (.mainsBoundary c cyc mean peak) s fun t =>
        regularWindow s c n cyc (t.mc c).win ∧ (t.mc c).wait = none ∧ (t.mc c).out = m.out ∧ seqFrame t)

/-- CONVERSION_DELIVERY of a conversion whose window ended in t0 writes, five peripheral cycles later, its channel's result word in the
format of R383, sets DONE or with the last of an injected sequence INJ_DONE, sets OVR, UNSET and MAINS_INV for its flags, each with a fault,
advances CONV, releases the tasks of kind 4, and unless unsettled gives the voltage to the DC link and the Anvil; its 8-byte entry goes to
the buffer at WIDX, which advances, and RIDX with it and OVF where the buffer is full. Every other byte and register outside its own block
and the readers is as before. A readback writes no result word: it gives Touchstone its DAC steps, which match within DAC_TOL or set
RB_FAIL. REF_WRITE of 1 starts the 5 ms of settling, REF_READY ends them; of 0 it turns the reference off, or sets WR_IGN while a converter
is enabled. When the window's mean is known is the sender's (log entry 30). (R383, R390, R391, R392, R393, R398, log entry 30). -/
def Obligations.MeteringDeliveryAndReference : Prop :=
  ∀ (s : State), s.dsgRun = false →
    (∀ (c : Fin 4) (o : McvOut) rest, (s.mc c).out = o :: rest →
      let base := s.f (Fld.MCV_C_BUF_BASE c) * 128
      let n := 2 ^ (s.f (Fld.MCV_C_BUF_SIZE c) + 4)
      let w := s.f (Fld.MCV_C_IDX_WIDX c)
      let r := s.f (Fld.MCV_C_IDX_RIDX c)
      (∀ k : Fin 64, o.read = none → o.ch = k.val → o.code < 2 ^ 22 → 0x10000000 ≤ base → base + 8 * n ≤ 0x103F0000 → n ≤ 4096 → w < n → r < n →
        gives (.conversionDelivery c) s fun t =>
          let word : Word := BitVec.ofNat 6 o.ch ++ BitVec.ofBool o.mains ++ BitVec.ofBool o.inj ++ BitVec.ofBool o.unset ++
            BitVec.ofBool o.ovr ++ BitVec.ofNat 22 o.code
          t.time = max s.time (4 * (o.t0 / 4 + 5)) ∧ (t.mc c).out = rest ∧ (∀ c', c' ≠ c → t.mc c' = s.mc c') ∧
          t.rd (.MCV_CH_RES k) = word ∧ (∀ k', k' ≠ k → t.rd (.MCV_CH_RES k') = s.rd (.MCV_CH_RES k')) ∧
          t.flag (Fld.MCV_C_STATUS_DONE c) = (s.flag (Fld.MCV_C_STATUS_DONE c) || !o.inj) ∧
          t.flag (Fld.MCV_C_STATUS_INJ_DONE c) = (s.flag (Fld.MCV_C_STATUS_INJ_DONE c) || o.last) ∧
          t.flag (Fld.MCV_C_STATUS_OVR c) = (s.flag (Fld.MCV_C_STATUS_OVR c) || o.ovr) ∧
          t.flag (Fld.MCV_C_STATUS_UNSET c) = (s.flag (Fld.MCV_C_STATUS_UNSET c) || o.unset) ∧
          t.flag (Fld.MCV_C_STATUS_MAINS_INV c) = (s.flag (Fld.MCV_C_STATUS_MAINS_INV c) || o.mains) ∧
          (o.ovr = true ∨ o.unset = true ∨ o.mains = true → t.flag Fld.SYS_STATUS_FAULT_NEW = true) ∧
          t.f (Fld.MCV_C_CNT_CONV c) = (s.f (Fld.MCV_C_CNT_CONV c) + 1) % 65536 ∧
          t.post.rel = s.post.rel ++ ((List.finRange 512).filter (relSel s 4 c.val)).map (fun d => (d.val, t.time)) ∧
          (o.unset = true → t.dcl = s.dcl ∧ t.anv = s.anv) ∧
          (o.unset = false → o.ch = s.f Fld.PWM_DSC_VCH_LINK_CH → t.dcl.link = some (if o.ovr then 2 ^ 22 else o.code, t.time)) ∧
          (o.unset = false → o.ch = s.f Fld.ANV_VDC_CH → t.anv.vdc = some (if o.ovr then 2 ^ 22 else o.code, t.time)) ∧
          t.memW (base + 8 * w) = word ∧ t.memW (base + 8 * w + 4) = BitVec.ofNat 32 o.t0 ∧
          t.f (Fld.MCV_C_IDX_WIDX c) = (w + 1) % n ∧
          ((w + 1) % n ≠ r → t.f (Fld.MCV_C_IDX_RIDX c) = r ∧ t.f (Fld.MCV_C_STATUS_OVF c) = s.f (Fld.MCV_C_STATUS_OVF c)) ∧
          ((w + 1) % n = r → t.f (Fld.MCV_C_IDX_RIDX c) = (r + 1) % n ∧ t.flag (Fld.MCV_C_STATUS_OVF c) = true) ∧
          (∀ a, a < base + 8 * w ∨ (base + 8 * w + 8 ≤ a ∧ a < hlmLive) ∨ hlmSnap + hlmLen ≤ a → memGet t.mem a = memGet s.mem a) ∧
          t.chk = s.chk ∧ s.keepsOutside t [0x4000, 0x4001, 0x4007, 0x400B, 0x4010]) ∧
      (∀ (k : Fin 64) (upper : Bool), o.read = some (k, upper) → o.unset = false → o.ovr = false → o.mains = false → o.code < 2 ^ 22 →
        gives (.conversionDelivery c) s fun t =>
          let rb := if upper then Fld.CMP_WC_RB_RB_HI k else Fld.CMP_WC_RB_RB_LO k
          let th := if upper then s.f (Fld.CMP_WC_TH_TH_HI k) else s.f (Fld.CMP_WC_TH_TH_LO k)
          let steps := (2 * o.code * 33000 + 2 ^ 22 * 32) / (2 * (2 ^ 22 * 32))
          let near := th ≤ steps + s.f Fld.CMP_TS_CTL_DAC_TOL ∧ steps ≤ th + s.f Fld.CMP_TS_CTL_DAC_TOL
          t.f rb = min 1023 steps ∧ t.f (Fld.MCV_C_CNT_CONV c) = s.f (Fld.MCV_C_CNT_CONV c) ∧ (∀ k', t.rd (.MCV_CH_RES k') = s.rd (.MCV_CH_RES k')) ∧
          (near → t.f (Fld.CMP_WC_STAT_RB_RUN k) = 0 ∧ t.f (Fld.CMP_WC_STAT_RB_FAIL k) = s.f (Fld.CMP_WC_STAT_RB_FAIL k) ∧
            s.keeps t [.CMP_WC_RB k, .CMP_WC_STAT k, .MCV_C_STATUS c] ∧ s.keepsMem t) ∧
          (¬ near → t.f (Fld.CMP_WC_STAT_RB_RUN k) = min 15 (s.f (Fld.CMP_WC_STAT_RB_RUN k) + 1) ∧
            t.flag (Fld.CMP_WC_STAT_RB_FAIL k) = true ∧
            (s.f (Fld.CMP_WC_STAT_RB_RUN k) + 1 ≠ s.f Fld.CMP_TS_CTL_TS_LIM → s.faultFrame t [0x4009, 0x400B])))) ∧
    (∀ u, s.mcv.refAt = some u → gives .refReady s fun t =>
      t.time = max s.time u ∧ t.flag Fld.MCV_REF_READY = true ∧ t.mcv.refUp = u ∧ t.mcv.refAt = none ∧ t.mcv.ch = s.mcv.ch ∧
      s.keeps t [.MCV_REF] ∧ s.keepsMem t) ∧
    (∀ v : Word, v.getLsbD 16 = false →
      (v.getLsbD 0 = true → s.flag Fld.MCV_REF_EN = false → writes (.refWrite v) s fun s t =>
        t.flag Fld.MCV_REF_EN = true ∧ t.mcv.refAt = some (s.time + 3000000) ∧ t.f Fld.MCV_REF_READY = s.f Fld.MCV_REF_READY ∧
        s.keeps t [.MCV_REF] ∧ s.keepsMem t) ∧
      (v.getLsbD 0 = true → s.flag Fld.MCV_REF_EN = true → writes (.refWrite v) s fun s t => t.regs = s.regs ∧ t.mcv = s.mcv ∧ s.keepsMem t) ∧
      (v.getLsbD 0 = false → s.flag Fld.MCV_REF_EN = true → (∀ c, s.flag (Fld.MCV_C_CTL_EN c) = false) → writes (.refWrite v) s fun s t =>
        t.rd .MCV_REF = s.rd .MCV_REF &&& 0xFFFFFEFE#32 ∧ t.mcv.refAt = none ∧ s.keeps t [.MCV_REF] ∧ s.keepsMem t) ∧
      (∀ c, v.getLsbD 0 = false → s.flag Fld.MCV_REF_EN = true → s.flag (Fld.MCV_C_CTL_EN c) = true → writes (.refWrite v) s fun s t =>
        t.flag Fld.MCV_REF_WR_IGN = true ∧ t.flag Fld.MCV_REF_EN = true ∧ t.mcv = s.mcv ∧ s.keeps t [.MCV_REF] ∧ s.keepsMem t))

/-- OPSEC_TICK advances OPSEC, saturating, and starts the PERIODIC flush every PERIOD seconds. FLUSH, PFAIL with PF_PIN, VDD_MONITOR_FIRE, a
held FAULT at FAULT_HOLD_END and SNAP, after the restore and while idle: BUSY is set, live with its header is copied to the snapshot, and
for a flush the cause's counter and the flushes of the header advance. While a flush runs a POWER cause joins it and any other waits; before
the restore there is none. SNAPSHOT_COPY_DONE ends the copy, applies what waited and for a flush clears the trailer of the slot named.
FLUSH_COMPLETE writes image and trailer with SEQ plus 1, causes and CRC, so that the slot is valid, sets FLUSHED, LAST and LAST_CAUSE and
toggles NEXT_SLOT; a read of the ferroelectric memory waits for it. RESTORE_DONE restores the newer valid slot to live and snapshot, with
OPSEC, PWRCYC plus 1 and NEXT_SLOT the other; with one valid TORN, with none EMPTY and a cleared record. Every other byte reads as before.
The header word that counts flushes advances at the start (log entry 31). (R402, R403, R408, R411, R412, R414, R415, R416, R419, R420, log
entry 31). -/
def Obligations.HallmarkFlushesAndRestore : Prop :=
  ∀ (s : State), s.dsgRun = false →
    let idle := s.flag Fld.HLM_STATUS_RESTORED = true ∧ s.hlm.phase = .idle
    let busy := s.flag Fld.HLM_STATUS_RESTORED = true ∧ (s.hlm.phase = .copyFlush ∨ s.hlm.phase = .writing)
    let copied (t : State) (skip : Nat → Prop) : Prop :=
      t.flag Fld.HLM_STATUS_BUSY = true ∧ t.hlm.start = t.time ∧ t.chk = s.chk ∧ s.keeps t [.HLM_STATUS, .HLM_OPSEC] ∧
      (∀ x, x < hlmLen → memGet t.mem (hlmSnap + x) = memGet t.mem (hlmLive + x)) ∧
      t.memW hlmLive = 0x484C0001#32 ∧ t.memW (hlmLive + 4) = t.rd .HLM_OPSEC ∧ t.memW (hlmLive + 8) = s.rd .HLM_PWRCYC ∧
      t.memW (hlmLive + 0x10) = BitVec.ofNat 32 t.time ∧
      (∀ x, 0x14 ≤ x → x < hlmLen → ¬ skip x → memGet t.mem (hlmLive + x) = memGet s.mem (hlmLive + x)) ∧
      ∀ a, a < hlmLive ∨ (hlmLive + hlmLen ≤ a ∧ a < hlmSnap) ∨ hlmSnap + hlmLen ≤ a → memGet t.mem a = memGet s.mem a
    let flushes (t : State) (k : Fin 5) : Prop := t.hlm.phase = .copyFlush ∧ t.hlm.causes = 1#5 <<< k.val ∧
      t.memW (hlmLive + 0x440 + 4 * k.val) = satAdd32 (s.memW (hlmLive + 0x440 + 4 * k.val)) 1 ∧
      t.memW (hlmLive + 0xC) = s.memW (hlmLive + 0xC) + 1#32 ∧ copied t (fun x => 0x440 + 4 * k.val ≤ x ∧ x < 0x444 + 4 * k.val)
    let caused (t : State) (k : Fin 5) : Prop :=
      (idle → t.rd .HLM_OPSEC = s.rd .HLM_OPSEC ∧ flushes t k) ∧
      (busy → t.hlm.causes = s.hlm.causes ||| (1#5 <<< k.val) ∧ t.hlm.phase = s.hlm.phase ∧ t.regs = s.regs ∧ s.keepsMem t ∧
        t.hlm.waiting = (if k = 1 then 0#5 else s.hlm.waiting ||| (1#5 <<< k.val))) ∧
      (s.flag Fld.HLM_STATUS_RESTORED = false → t.hlm.phase = s.hlm.phase ∧ t.regs = s.regs ∧ s.keepsMem t)
    let causes (i : Instr) (k : Fin 5) : Prop := gives i s fun t => caused t k
    writes .flush s (fun _ t => caused t 2) ∧ causes .vddMonitorFire 1 ∧ (s.flag Fld.HLM_CFG_PF_PIN = true → causes .pfail 1) ∧
    (s.flag Fld.HLM_CFG_PF_PIN = false → exec .pfail s = .next s) ∧
    (∀ u, s.hlm.holdTill = some u → (s.hlm.held = true → causes .faultHoldEnd 0) ∧
      (s.hlm.held = false → gives .faultHoldEnd s fun t => t.time = max s.time u ∧ t.hlm.holdTill = none ∧ t.regs = s.regs ∧ s.keepsMem t)) ∧
    (s.running = true → gives .opsecTick s fun t =>
      let ops := if s.rd .HLM_OPSEC = 0xFFFFFFFF#32 then s.rd .HLM_OPSEC else s.rd .HLM_OPSEC + 1#32
      let due := s.rd .HLM_OPSEC ≠ 0xFFFFFFFF#32 ∧ s.f Fld.HLM_CFG_PERIOD ≠ 0 ∧ ops.toNat % s.f Fld.HLM_CFG_PERIOD = 0
      t.time = max s.time (s.hlm.secOrg + 600000000) ∧ t.hlm.secOrg = s.hlm.secOrg + 600000000 ∧ t.rd .HLM_OPSEC = ops ∧
      (due → idle → flushes t 3) ∧
      (¬ due → s.keeps t [.HLM_OPSEC] ∧ t.hlm.phase = s.hlm.phase ∧ t.chk = s.chk ∧
        ∀ a, a < hlmLive + 4 ∨ hlmLive + 8 ≤ a → memGet t.mem a = memGet s.mem a)) ∧
    (s.flag Fld.HLM_STATUS_BUSY = false → writes .snap s fun s t =>
      t.hlm.phase = .copySnap ∧ t.memW (hlmLive + 0xC) = s.memW (hlmLive + 0xC) ∧ copied t (fun _ => False)) ∧
    (s.flag Fld.HLM_STATUS_BUSY = true → writes .snap s fun s t => t.flag Fld.HLM_STATUS_WR_IGN = true ∧ s.onlyRegs t [.HLM_STATUS]) ∧
    (s.hlm.queue = [] → (s.hlm.phase = .copySnap → gives .snapshotCopyDone s fun t =>
        t.time = max s.time (s.hlm.start + 1704) ∧ t.hlm.phase = .idle ∧ t.flag Fld.HLM_STATUS_BUSY = false ∧ s.keeps t [.HLM_STATUS] ∧ s.keepsMem t) ∧
      (s.hlm.phase = .copyFlush → gives .snapshotCopyDone s fun t =>
        t.time = max s.time (s.hlm.start + 1704) ∧ t.hlm.phase = .writing ∧ t.regs = s.regs ∧ t.chk = s.chk ∧
        let at_ := (if s.flag Fld.HLM_STATUS_NEXT_SLOT then 0x20704000 else 0x20700000) + 0x3540
        ∀ a, memGet t.mem a = if at_ ≤ a ∧ a < at_ + 64 then 0#8 else memGet s.mem a)) ∧
    (∀ (i : Fin 64) (n : Nat), s.hlm.queue = [.count i n] → s.hlm.phase = .copyFlush → gives .snapshotCopyDone s fun t =>
      t.hlm.queue = [] ∧ t.memW (hlmLive + 0x440 + 4 * i.val) = satAdd32 (s.memW (hlmLive + 0x440 + 4 * i.val)) n ∧ t.regs = s.regs) ∧
    (s.hlm.phase = .writing → gives .flushComplete s fun t =>
      let b := s.flag Fld.HLM_STATUS_NEXT_SLOT
      let slot := slotAddr b
      t.flag Fld.HLM_STATUS_FLUSHED = true ∧ t.rd .HLM_LAST = s.hlm.seq + 1#32 ∧ t.hlm.seq = s.hlm.seq + 1#32 ∧
      t.f Fld.HLM_LAST_CAUSE_CAUSE = s.hlm.causes.toNat ∧ t.flag Fld.HLM_LAST_CAUSE_SLOT = b ∧ t.flag Fld.HLM_STATUS_NEXT_SLOT = !b ∧
      (∀ x, x < hlmLen → memGet t.mem (slot + x) = memGet s.mem (hlmSnap + x)) ∧
      t.memW (slot + 0x3540) = s.hlm.seq + 1#32 ∧ t.memW (slot + 0x3544) = 0#27 ++ s.hlm.causes ∧
      (∀ k : Fin 12, t.memW (slot + 0x3550 + 4 * k.val) = 0#32) ∧ (s.memW hlmSnap = 0x484C0001#32 → slotValid t b = true) ∧
      (s.hlm.waiting = 0#5 → s.mbx.evq.length < 64 → t.time = max s.time (s.hlm.start + 130704) ∧ t.hlm.phase = .idle ∧
        t.flag Fld.HLM_STATUS_BUSY = false ∧ s.keeps t [.HLM_STATUS, .HLM_LAST, .HLM_LAST_CAUSE] ∧
        ∀ a, a < slot ∨ slot + 0x3580 ≤ a → memGet t.mem a = memGet s.mem a) ∧
      (s.hlm.waiting ≠ 0#5 → s.flag Fld.HLM_STATUS_RESTORED = true → t.hlm.phase = .copyFlush ∧ t.hlm.causes = s.hlm.waiting ∧
        t.flag Fld.HLM_STATUS_BUSY = true)) ∧
    (∀ u, exec .flushComplete s = .next u → ∀ a, regionOf a = .ferro → busRead a 4 s = busRead a 4 u) ∧
    (s.dev = devBoot → s.flag Fld.HLM_STATUS_RESTORED = false → s.hlm.early = [] → 1 < s.f Fld.HLM_CFG_FLUSH_CLASS →
      s.hlm.phase = .idle → gives .restoreDone s fun t =>
        let va := slotValid s false
        let vb := slotValid s true
        let rest := ∀ a, a < hlmLive ∨ (hlmLive + hlmLen ≤ a ∧ a < hlmSnap) ∨ hlmSnap + hlmLen ≤ a → memGet t.mem a = memGet s.mem a
        let same (x : Nat) : Prop := (0xC ≤ x ∧ x < 0x454) ∨ (0x458 ≤ x ∧ x < 0x45C) ∨ (0x460 ≤ x ∧ x < 0x540) ∨ (0xD40 ≤ x ∧ x < hlmLen)
        t.flag Fld.HLM_STATUS_RESTORED = true ∧ rest ∧ s.keeps t [.HLM_STATUS, .HLM_OPSEC, .HLM_PWRCYC, .HLM_LAST, .SYS_FAULT, .SYS_STATUS] ∧
        (∀ b : Bool, slotValid s b = true → (slotValid s (!b) = true → (0 < (slotSeq s true - slotSeq s false).toInt ↔ b = true)) →
          t.rd .HLM_OPSEC = s.memW (slotAddr b + 4) ∧ t.rd .HLM_PWRCYC = s.memW (slotAddr b + 8) + 1#32 ∧ t.memW (hlmLive + 8) = t.rd .HLM_PWRCYC ∧
          t.hlm.seq = slotSeq s b ∧ t.rd .HLM_LAST = slotSeq s b ∧ t.flag Fld.HLM_STATUS_NEXT_SLOT = !b ∧
          (∀ x, x < hlmLen → memGet t.mem (hlmSnap + x) = memGet s.mem (slotAddr b + x)) ∧
          (∀ x, same x → memGet t.mem (hlmLive + x) = memGet s.mem (slotAddr b + x)) ∧
          (slotValid s (!b) = false → t.flag Fld.HLM_STATUS_TORN = true ∧ t.flag Fld.SYS_STATUS_FAULT_NEW = true ∧
            t.memW (hlmLive + 0x454) = satAdd32 (s.memW (slotAddr b + 0x454)) 1) ∧
          (slotValid s (!b) = true → t.f Fld.HLM_STATUS_TORN = s.f Fld.HLM_STATUS_TORN ∧ t.rd .SYS_STATUS = s.rd .SYS_STATUS)) ∧
        (va = false → vb = false → t.flag Fld.HLM_STATUS_EMPTY = true ∧ t.rd .HLM_OPSEC = 0#32 ∧ t.rd .HLM_PWRCYC = 1#32 ∧ t.hlm.seq = 0#32 ∧
          t.flag Fld.HLM_STATUS_NEXT_SLOT = false ∧ t.flag Fld.SYS_STATUS_FAULT_NEW = true ∧
          ∀ x, same x → memGet t.mem (hlmLive + x) = 0#8))

/-- CLEAR_HISTOGRAMS, CLEAR_EXTREMES, CLEAR_COUNTERS and CLEAR_TALLY with the key 0x6B1D write zeros over their part of the live image and
over nothing else; with another key they set WR_IGN. COUNTER_INCREMENT adds N to counter 16 to 63, saturating; a lower counter sets WR_IGN;
while live is being copied the update waits, and one that finds 128 waiting is lost, with counter 6, LOST and a fault. HISTOGRAM_ENABLE of a
disabled histogram or extreme whose registers equal its descriptor changes CTL alone; if they differ its counts or record are cleared, the
descriptor is written and RECONF set; while EN is 1 other fields stay, and a change of them sets WR_IGN. A histogram's sample falls in bin 0
below LO, else in bin 1 + (x - LO) / W, at most 63. A code with a tally entry counts there, saturating, with the time of its last
occurrence; one without takes the first free entry. (R406, R408, R409, R410, R414, R419). -/
def Obligations.HallmarkClearsCountersAndDescriptors : Prop :=
  (∀ (lo x : Int) (w : Nat), 0 < w → (x < lo → histBin lo w x = 0) ∧
    (lo ≤ x → ∀ b : Nat, 1 ≤ b → b ≤ 63 → (histBin lo w x = b ↔ lo + (b - 1 : Nat) * w ≤ x ∧ (b = 63 ∨ x < lo + b * w)))) ∧
  (∀ (s : State) (code : BitVec 16) (i : Nat), i < 128 → code ≠ 0#16 →
    let at_ (j : Nat) := hlmLive + 0x540 + 16 * j
    let t := tallyIn code s
    let frame : Prop := (∀ a, a < at_ i ∨ at_ i + 16 ≤ a → memGet t.mem a = memGet s.mem a) ∧ { t with mem := s.mem } = s
    (∀ j, j < i → (s.memW (at_ j)).extractLsb' 0 16 ≠ code ∧ s.memW (at_ j) ≠ 0#32) →
    (s.memW (at_ i) ≠ 0#32 → (s.memW (at_ i)).extractLsb' 0 16 = code → frame ∧
      (t.memW (at_ i)).extractLsb' 0 16 = code ∧
      ((t.memW (at_ i)).extractLsb' 16 16).toNat = min 65535 (((s.memW (at_ i)).extractLsb' 16 16).toNat + 1) ∧
      t.memW (at_ i + 4) = s.memW (at_ i + 4) ∧ t.memW (at_ i + 8) = s.memW (at_ i + 8) ∧ t.memW (at_ i + 12) = s.rd .HLM_OPSEC) ∧
    (s.memW (at_ i) = 0#32 → frame ∧ t.memW (at_ i) = 1#16 ++ code ∧ t.memW (at_ i + 4) = s.rd .HLM_OPSEC ∧
      t.memW (at_ i + 8) = s.rd .HLM_PWRCYC ∧ t.memW (at_ i + 12) = s.rd .HLM_OPSEC)) ∧
  (∀ (s : State), s.dsgRun = false →
    (∀ key : BitVec 16,
      let clears (i : Instr) (ofs len : Nat) : Prop :=
        (key = 0x6B1D#16 → writes i s fun s t => { t with mem := s.mem } = s ∧
          ∀ a, memGet t.mem a = if hlmLive + ofs ≤ a ∧ a < hlmLive + ofs + len then 0#8 else memGet s.mem a) ∧
        (key ≠ 0x6B1D#16 → writes i s fun s t => t.flag Fld.HLM_STATUS_WR_IGN = true ∧ s.onlyRegs t [.HLM_STATUS])
      clears (.clearHistograms key) 0x1540 0x2000 ∧ clears (.clearExtremes key) 0xD40 0x800 ∧ clears (.clearCounters key) 0x480 0xC0 ∧
      clears (.clearTally key) 0x540 0x800) ∧
    (∀ v : Word,
      let k := wGet v 0 6
      let n := wGet v 8 8
      let at_ := hlmLive + 0x440 + 4 * k
      let copying := s.hlm.phase = .copyFlush ∨ s.hlm.phase = .copySnap
      (k < 16 → writes (.counterIncrement v) s fun s t => t.flag Fld.HLM_STATUS_WR_IGN = true ∧ s.onlyRegs t [.HLM_STATUS]) ∧
      (16 ≤ k → ¬ copying → writes (.counterIncrement v) s fun s t =>
        (t.memW at_).toNat = min (2 ^ 32 - 1) ((s.memW at_).toNat + n) ∧ { t with mem := s.mem } = s ∧
        ∀ a, a < at_ ∨ at_ + 4 ≤ a → memGet t.mem a = memGet s.mem a) ∧
      (∀ i : Fin 64, i.val = k → 16 ≤ k → copying → s.hlm.queue.length < 128 → writes (.counterIncrement v) s fun s t =>
        t.hlm.queue = s.hlm.queue ++ [.count i n] ∧ t.regs = s.regs ∧ s.keepsMem t) ∧
      (16 ≤ k → copying → 128 ≤ s.hlm.queue.length → writes (.counterIncrement v) s fun s t =>
        t.hlm.queue = s.hlm.queue ∧ t.flag Fld.HLM_STATUS_LOST = true ∧ t.flag Fld.SYS_STATUS_FAULT_NEW = true ∧ s.faultFrame t [])) ∧
    (∀ (h : Fin 32) (j : Fin 96) (v : Word), j.val = h.val → wGet v 1 3 < 6 →
      let d := hlmLive + 0x40 + 16 * h.val
      let bins := hlmLive + 0x1540 + 0x100 * h.val
      let new := v &&& 0x7FFFF#32
      let equal := s.memW d = new ∧ s.memW (d + 4) = s.rd (.HLM_H_LO h) ∧ s.memW (d + 8) = s.rd (.HLM_H_W h) ∧ s.memW (d + 12) = s.rd (.HLM_H_ADDR h)
      (s.flag (Fld.HLM_H_CTL_EN h) = false →
        (v.getLsbD 0 = false ∨ equal → writes (.histogramEnable j v) s fun s t => t.rd (.HLM_H_CTL h) = new ∧ s.onlyRegs t [.HLM_H_CTL h]) ∧
        (v.getLsbD 0 = true → ¬ equal → writes (.histogramEnable j v) s fun s t =>
          t.rd (.HLM_H_CTL h) = new ∧ t.flag Fld.HLM_STATUS_RECONF = true ∧ t.memW d = new ∧ t.memW (d + 4) = s.rd (.HLM_H_LO h) ∧
          t.memW (d + 8) = s.rd (.HLM_H_W h) ∧ t.memW (d + 12) = s.rd (.HLM_H_ADDR h) ∧
          (∀ a, a < d ∨ d + 16 ≤ a → memGet t.mem a = if bins ≤ a ∧ a < bins + 256 then 0#8 else memGet s.mem a) ∧
          t.chk = s.chk ∧ s.keeps t [.HLM_H_CTL h, .HLM_STATUS])) ∧
      (s.flag (Fld.HLM_H_CTL_EN h) = true → v.getLsbD 0 = false → writes (.histogramEnable j v) s fun s t =>
        t.flag (Fld.HLM_H_CTL_EN h) = false ∧ wGet (t.rd (.HLM_H_CTL h)) 1 18 = wGet (s.rd (.HLM_H_CTL h)) 1 18 ∧
        (wGet v 1 18 ≠ wGet (s.rd (.HLM_H_CTL h)) 1 18 → t.flag Fld.HLM_STATUS_WR_IGN = true) ∧ s.onlyRegs t [.HLM_H_CTL h, .HLM_STATUS])) ∧
    (∀ (e : Fin 64) (j : Fin 96) (v : Word), j.val = 32 + e.val → wGet v 1 3 < 6 → s.flag (Fld.HLM_X_CTL_EN e) = false →
      let d := hlmLive + 0x240 + 8 * e.val
      let r := hlmLive + 0xD40 + 32 * e.val
      let new := v &&& 0x7FFFF#32
      let equal := s.memW d = new ∧ s.memW (d + 4) = s.rd (.HLM_X_ADDR e)
      (v.getLsbD 0 = false ∨ equal → writes (.histogramEnable j v) s fun s t => t.rd (.HLM_X_CTL e) = new ∧ s.onlyRegs t [.HLM_X_CTL e]) ∧
      (v.getLsbD 0 = true → ¬ equal → writes (.histogramEnable j v) s fun s t =>
        t.rd (.HLM_X_CTL e) = new ∧ t.flag Fld.HLM_STATUS_RECONF = true ∧ t.memW d = new ∧ t.memW (d + 4) = s.rd (.HLM_X_ADDR e) ∧
        (∀ a, a < d ∨ d + 8 ≤ a → memGet t.mem a = if r ≤ a ∧ a < r + 32 then 0#8 else memGet s.mem a) ∧
        t.chk = s.chk ∧ s.keeps t [.HLM_X_CTL e, .HLM_STATUS])))

/-- What a line-bus command leaves: the other controllers, and what a fault leaves. -/
def lbFrame (s t : State) (c : Fin 4) : Prop := (∀ c', c' ≠ c → t.lbc c' = s.lbc c') ∧ s.keepsOutside t [0x4000, 0x4001, 0x4010, 0x4011] ∧ t.chk = s.chk

/-- An entry of a received frame at an address, and no other byte changed (R430). -/
def lbStored (s t : State) (c : Fin 4) (a k st : Nat) (f : LbFrame) : Prop :=
  t.memW a = BitVec.ofBool f.brs ++ BitVec.ofBool f.fdf ++ BitVec.ofBool f.xtd ++ f.id ∧
    t.memW (a + 4) = 0#27 ++ BitVec.ofBool f.esi ++ f.dlc ∧ t.memW (a + 8) = BitVec.ofNat 32 st ∧
    wGet (t.memW (a + 12)) 0 6 = k ∧ wGet (t.memW (a + 12)) 16 6 = s.f (Fld.LB_SYNC_STAT_CYCLE c) ∧
    (wGet (t.memW (a + 12)) 24 1 = 1 ↔ s.f (Fld.LB_SYNC_STAT_SYNC c) = 2) ∧
    (∀ i (h : i < f.data.length), memGet t.mem (a + 16 + i) = f.data[i]) ∧
    ∀ x, x < a ∨ a + 16 + f.data.length ≤ x → memGet t.mem x = memGet s.mem x

/-- CONTROLLER_ENABLE with EN = 1 sets EN, in TT mode exactly if no rule of R439 fails, else CFG_ERR with the rule; SYNC becomes LISTEN in
TT mode; EN = 0 turns it off. TRANSMIT_REQUEST makes its buffers pending, in COMPAT mode at the queue's tail or, full, with WR_IGN.
FRAME_RECEIVED of a frame that is no reference stores its 80-byte entry through the lowest matching filter in its buffer with RXB or in the
FIFO, discards it with RXF_OVF where the FIFO is full, and stores none without a match; REC falls. FRAME_TRANSMITTED of an offered buffer
sets its DONE bit, ends its request and lowers TEC. TRANSMISSION_FAILED is stored with its cause for a one-shot buffer or an exclusive
window, where it also is a schedule violation; a bit error where the node sent recessive is an identifier collision; errors raise TEC by 8,
to passive beyond 127 and bus-off beyond 255. RECEIVE_ERROR raises REC, BUS_OFF_RECOVERY makes the node active, a loss of VBUS_LB ends LB0
and LB1. Nothing else changes. What passes on the wire is told by commands (log entry 32). (R423, R426, R427, R430, R431, R432, R439, R440,
R450, R454, R510, log entry 32). -/
def Obligations.LineBusFramesAndErrors : Prop :=
  (∀ (s : State) (c : Fin 4) (n : Nat),
    let kind (w : Nat) := (lbWin s c w).2.2
    n ≤ 64 → (∀ w, w < n → kind w ≠ 0) → (n = 64 ∨ kind n = 0) →
    (lbCheck s c = 0 ↔ s.flag (Fld.LB_CTL_FD c) = true ∧ kind 0 = 1 ∧ (lbWin s c 0).1 = 0 ∧
      (∀ w, w < n → (lbWin s c w).1 ≤ (lbWin s c w).2.1 ∧
        (lbWin s c w).2.1 < (if w + 1 < n then (lbWin s c (w + 1)).1 else s.f (Fld.LB_CYC_CYC_LEN c))) ∧
      s.f (Fld.LB_SYNC_CFG_MX c) ≤ 6 ∧ 400 ≤ s.f (Fld.LB_CYC_CYC_LEN c))) ∧
  ∀ (s : State) (c : Fin 4), s.dsgRun = false →
    let estate := s.f (Fld.LB_ERR_ESTATE c)
    let quiet (t : State) : Prop := lbFrame s t c ∧ s.keepsMemButHlm t
    (∀ v : Word, wGet v 1 2 ≠ 3 → wGet v 5 2 ≠ 3 → estate ≠ 2 →
      (s.flag (Fld.LB_CTL_EN c) = false → v.getLsbD 0 = true → writes (.controllerEnable c v) s fun s t =>
        wGet (t.rd (.LB_CTL c)) 1 7 = wGet v 1 7 ∧ quiet t ∧
        (wGet v 1 2 ≠ 0 → t.flag (Fld.LB_CTL_EN c) = true ∧ t.f (Fld.LB_SYNC_STAT_SYNC c) = 0 ∧ t.f (Fld.LB_SYNC_STAT_ROLE c) = 0) ∧
        (wGet v 1 2 = 0 →
          t.f (Fld.LB_STATUS_CFG_RULE c) = lbCheck t c ∧ (t.flag (Fld.LB_CTL_EN c) = true ↔ lbCheck t c = 0) ∧
          (lbCheck t c ≠ 0 → t.flag (Fld.LB_STATUS_CFG_ERR c) = true) ∧
          (lbCheck t c = 0 → t.f (Fld.LB_SYNC_STAT_SYNC c) = 1 ∧
            t.f (Fld.LB_SYNC_STAT_ROLE c) = (if s.flag (Fld.LB_SYNC_CFG_MST_EN c) then 1 else 0)))) ∧
      (s.flag (Fld.LB_CTL_EN c) = true → v.getLsbD 0 = false → writes (.controllerEnable c v) s fun s t =>
        t.flag (Fld.LB_CTL_EN c) = false ∧ wGet (t.rd (.LB_CTL c)) 1 9 = wGet (s.rd (.LB_CTL c)) 1 9 ∧
        t.f (Fld.LB_SYNC_STAT_SYNC c) = 0 ∧ t.f (Fld.LB_SYNC_STAT_ROLE c) = 0 ∧ quiet t)) ∧
    (∀ (h : Fin 2) (mask : Word),
      (s.f (Fld.LB_CTL_MODE c) ≠ 2 → writes (.transmitRequest c h mask) s fun s t =>
        t.rd (.LB_TXREQ c h) = s.rd (.LB_TXREQ c h) ||| mask ∧ (t.lbc c).queue = (s.lbc c).queue ∧ s.keeps t [.LB_TXREQ c h] ∧ s.keepsMem t) ∧
      (s.f (Fld.LB_CTL_MODE c) = 2 →
        let new := (List.finRange 64).filter fun b => b.val / 32 = h.val && mask.getLsbD (b.val % 32)
        ((s.lbc c).queue.length + new.length ≤ 32 → writes (.transmitRequest c h mask) s fun s t =>
          (t.lbc c).queue = (s.lbc c).queue ++ new ∧ t.rd (.LB_TXREQ c h) = s.rd (.LB_TXREQ c h) ||| mask ∧
          s.keeps t [.LB_TXREQ c h] ∧ s.keepsMem t) ∧
        (32 ≤ (s.lbc c).queue.length → mask ≠ 0#32 → writes (.transmitRequest c h mask) s fun s t =>
          t.flag (Fld.LB_STATUS_WR_IGN c) = true ∧ (t.lbc c).queue = (s.lbc c).queue ∧ s.keeps t [.LB_STATUS c] ∧ s.keepsMem t))) ∧
    (∀ (f : LbFrame) (st cyc : Nat), f.wf = true → lbLive s c st = true → estate ≠ 2 → s.flag (Fld.LB_ERR_RP c) = false →
      (s.flag (Fld.LB_CTL_FD c) = true ∨ f.fdf = false) → f.remote = false → ¬ (s.lbTt c = true ∧ lbIsRef s c f = true) →
      let got (also : State → Prop) : Prop := gives (.frameReceived c f st cyc) s fun t =>
        t.time = max s.time cyc ∧ t.f (Fld.LB_ERR_REC c) = s.f (Fld.LB_ERR_REC c) - 1 ∧ lbFrame s t c ∧ also t
      let ram := 0x50000000 + c.val * 0x10000
      ((∀ k : Fin 64, lbMatch s c f k.val = false) → got s.keepsMem) ∧
      (∀ k : Fin 64, lbMatch s c f k.val = true → (∀ j : Fin 64, j.val < k.val → lbMatch s c f j.val = false) →
        ((s.memW (ram + 0x2200 + 8 * k.val)).getLsbD 30 = true → got fun t =>
          t.flag (Fld.LB_STATUS_RXB c) = true ∧ t.rd (.LB_FIFO_IDX c) = s.rd (.LB_FIFO_IDX c) ∧ lbStored s t c (ram + 0x3800 + 0x50 * k.val) k.val st f) ∧
        ((s.memW (ram + 0x2200 + 8 * k.val)).getLsbD 30 = false → 0 < s.f (Fld.LB_FIFO_FIFO_LEN c) →
          let w := s.f (Fld.LB_FIFO_IDX_WIDX c)
          let n := (w + 1) % s.f (Fld.LB_FIFO_FIFO_LEN c)
          (n ≠ s.f (Fld.LB_FIFO_IDX_RIDX c) → got fun t => t.f (Fld.LB_FIFO_IDX_WIDX c) = n ∧ lbStored s t c (ram + 0x4C00 + 0x50 * w) k.val st f) ∧
          (n = s.f (Fld.LB_FIFO_IDX_RIDX c) → got fun t => t.flag (Fld.LB_STATUS_RXF_OVF c) = true ∧
            t.flag Fld.SYS_STATUS_FAULT_NEW = true ∧ t.f (Fld.LB_FIFO_IDX_WIDX c) = w ∧ s.keepsMemButHlm t)))) ∧
    (∀ (b : Fin 64) (st cyc : Nat), lbLive s c st = true → lbMaySend s c = true → lbOffered s c b = true → s.f (Fld.LB_CTL_LOOP c) = 0 →
      gives (.frameTransmitted c b st cyc) s fun t =>
        t.bitOf (lbDoneReg c b) (b.val % 32) = true ∧ t.f (Fld.LB_ERR_TEC c) = s.f (Fld.LB_ERR_TEC c) - 1 ∧ t.time = max s.time cyc ∧
        (s.f (Fld.LB_CTL_MODE c) ≠ 2 → t.lbPend c b = false) ∧ (s.f (Fld.LB_CTL_MODE c) = 2 → (t.lbc c).queue = (s.lbc c).queue.tail) ∧
        (∀ b', b' ≠ b → t.lbPend c b' = s.lbPend c b') ∧
        s.keeps t [lbDoneReg c b, lbReqReg c b, .LB_ERR c] ∧ s.keepsMem t ∧ ∀ c', c' ≠ c → t.lbc c' = s.lbc c') ∧
    (∀ (b : Fin 64) (e : LbFail) (cyc : Nat), s.flag (Fld.LB_CTL_EN c) = true → lbOffered s c b = true → estate < 2 →
      let excl := s.f (Fld.LB_CTL_MODE c) = 0 ∧ (s.lbc c).excl = true
      let once := s.lbOneShot c b = true ∨ excl
      let counted := e = .formErr ∨ e = .stuffErr ∨ (e = .ackErr ∧ estate ≠ 1) ∨ ∃ r i, e = .bitErr r i
      let tec := s.f (Fld.LB_ERR_TEC c) + 8
      gives (.transmissionFailed c (some b) e cyc) s fun t =>
        t.time = max s.time cyc ∧ t.rd (lbDoneReg c b) = s.rd (lbDoneReg c b) ∧ quiet t ∧
        (once → t.flag (Fld.LB_STATUS_TXFAIL c) = true ∧ t.f (Fld.LB_TXFAIL_BUF c) = b.val ∧ t.f (Fld.LB_TXFAIL_CAUSE c) = lbCause e) ∧
        (¬ once → t.rd (.LB_TXFAIL c) = s.rd (.LB_TXFAIL c) ∧ ((∃ r, e = .arbLost r) → t.lb = s.lb ∧ t.regs = s.regs ∧ s.keepsMem t)) ∧
        (excl → t.flag (Fld.LB_STATUS_SCHED_VIOL c) = true) ∧
        (e ≠ .bitErr true true → t.f (Fld.LB_CNT_IDCOL c) = s.f (Fld.LB_CNT_IDCOL c) ∧ t.rd (.LB_IDCOL c) = s.rd (.LB_IDCOL c)) ∧
        (e = .bitErr true true → t.f (Fld.LB_CNT_IDCOL c) = min 65535 (s.f (Fld.LB_CNT_IDCOL c) + 1) ∧ t.flag (Fld.LB_STATUS_IDCOL c) = true ∧ t.flag Fld.SYS_STATUS_FAULT_NEW = true ∧
          t.f (Fld.LB_IDCOL_ID c) = wGet (s.lbW0 c b) 0 29) ∧
        (counted → tec ≤ 255 → t.f (Fld.LB_ERR_TEC c) = tec ∧ t.f (Fld.LB_ERR_ESTATE c) = (if 127 < tec then 1 else estate)) ∧
        (counted → 255 < tec → t.f (Fld.LB_ERR_ESTATE c) = 2 ∧ t.flag (Fld.LB_STATUS_BUS_OFF c) = true ∧
          t.flag Fld.SYS_STATUS_FAULT_NEW = true) ∧
        (¬ counted → e ≠ .ackErr → t.rd (.LB_ERR c) = s.rd (.LB_ERR c))) ∧
    (∀ (e : LbRxErr) (eight : Bool), lbLive s c s.now = true → estate < 2 → s.flag (Fld.LB_ERR_RP c) = false →
      let n := s.f (Fld.LB_ERR_REC c) + (if eight then 8 else 1)
      gives (.receiveError c e eight) s fun t =>
        t.f (Fld.LB_ERR_LAST c) = lbRxCode e ∧ t.f (Fld.LB_ERR_REC c) = min 127 n ∧ t.flag (Fld.LB_ERR_RP c) = decide (127 < n) ∧
        (127 < n → t.f (Fld.LB_ERR_ESTATE c) = 1) ∧ (n ≤ 127 → t.f (Fld.LB_ERR_ESTATE c) = estate ∧ s.keeps t [.LB_ERR c] ∧ s.keepsMem t) ∧
        t.f (Fld.LB_ERR_TEC c) = s.f (Fld.LB_ERR_TEC c) ∧ t.lb = s.lb ∧ quiet t) ∧
    (estate = 2 → ((s.lbc c).recov = true ∨ s.flag (Fld.LB_CTL_AUTO_REC c) = true) → gives (.busOffRecovery c) s fun t =>
      t.f (Fld.LB_ERR_ESTATE c) = 0 ∧ t.f (Fld.LB_ERR_TEC c) = 0 ∧ t.f (Fld.LB_ERR_REC c) = 0 ∧ t.flag (Fld.LB_ERR_RP c) = false ∧
      s.keeps t [.LB_ERR c] ∧ s.keepsMem t) ∧
    (estate = 2 → (s.lbc c).recov = false → s.flag (Fld.LB_CTL_AUTO_REC c) = false → exec (.busOffRecovery c) s = .next s) ∧
    gives .vbusLbLoss s (fun t => (∀ st, lbLive t 0 st = false ∧ lbLive t 1 st = false ∧ lbLive t 2 st = lbLive s 2 st ∧ lbLive t 3 st = lbLive s 3 st) ∧
      { t with lb := s.lb } = s ∧ t.lb.ch = s.lb.ch) ∧
    gives .vbusLbReturn s (fun t => (∀ st, s.flag (Fld.LB_CTL_EN c) = true → lbLive t c st = true) ∧ { t with lb := s.lb } = s ∧ t.lb.ch = s.lb.ch)

/-- REFERENCE_MESSAGE of another node, VERSION 1, to a node that is no master of that priority or better: at its instant, the stamp less
RX_DLY and PROP, global time takes GT, GT_ERR its error, REF_T, CYCLE, CUR_PRIO and MNODE follow, the generators on this controller take
position and instant, the cycle's windows begin anew, DISC is shown, DRIFT follows the rate from the same priority within its limit, and
SYNC becomes LOCKED on the second good one in a row; a master becomes BACKUP. One's own reference makes the node MASTER, with TAKEOVER where
it was none, and leaves global time and DRIFT. SCHEDULE_WINDOW_START releases the tasks of an EVT cell; with TX it latches and offers the
buffer of an exclusive window, or the pending arbitrating ones, and a busy bus is a violation. CYCLE_END makes the master request its
reference and a node in HOLDOVER predict the next cycle. BACKUP_SLOT requests the backup's reference, REFERENCE_MISSING enters HOLDOVER,
HOLDOVER_LIMIT LISTEN. The frame of one's own reference is filled when it becomes valid (log entry 32). (R433, R436, R437, R438, R442, R443,
R444, R445, R446, R447, R448, log entry 32). -/
def Obligations.LineBusScheduleAndReferences : Prop :=
  ∀ (s : State) (c : Fin 4), s.dsgRun = false → s.flag (Fld.LB_CTL_EN c) = true → s.f (Fld.LB_CTL_MODE c) = 0 →
    let sync := s.f (Fld.LB_SYNC_STAT_SYNC c)
    let role := s.f (Fld.LB_SYNC_STAT_ROLE c)
    let prio := s.f (Fld.LB_SYNC_CFG_MST_PRIO c)
    let len := s.f (Fld.LB_CYC_CYC_LEN c)
    let gap := s.f (Fld.LB_CYC_MST_GAP c)
    let line (t : State) : Prop := lbFrame s t c ∧ s.keepsMemButHlm t
    let same (t : State) : Prop := s.keeps t [] ∧ s.keepsMem t ∧ ∀ c', c' ≠ c → t.lbc c' = s.lbc c'
    let taken (t : State) (pos : Word) (at_ cyc : Nat) : Prop :=
      t.rd (.LB_REF_T c) = BitVec.ofNat 32 at_ ∧ (t.lbc c).cycOn = true ∧ (t.lbc c).nextWin = 0 ∧ (t.lbc c).refReq = false ∧
      ∀ n : Fin 8, (t.gen n).inbox = (s.gen n).inbox ++
        (if s.flag (Fld.MAN_AG_CTL_EN n) = true ∧ s.gSrc n = 5 ∧ s.f (Fld.MAN_AG_CTL_SRC_CH n) = c.val then [(.sampled pos at_, cyc)] else [])
    (∀ (f : LbFrame) (p : Fin 8) (st cyc : Nat), lbLive s c st = true → s.f (Fld.LB_ERR_ESTATE c) ≠ 2 → s.flag (Fld.LB_CTL_FD c) = true →
      lbIsRef s c f = true → f.id.extractLsb' 18 3 = BitVec.ofNat 3 p.val → lbField f 0 4 / 4096 % 16 = 1 →
      (role = 2 → p.val < prio) → (∀ k : Fin 64, lbMatch s c f k.val = false) → s.flag (Fld.LB_ERR_RP c) = false →
      let at_ := st - s.f (Fld.LB_RXDLY_RX_DLY c) - s.f (Fld.LB_PROP_PROP c p)
      let gt := lbField f 4 8
      let err := lbGt s c at_ - gt
      gives (.referenceMessage c (some f) st cyc) s fun t =>
        taken t (BitVec.ofNat 32 (lbField f 12 4)) at_ t.time ∧ lbGt t c at_ = gt ∧
        (t.rd (.LB_GT_ERR c)).toInt = max (-(2 ^ 31)) (min err (2 ^ 31 - 1)) ∧ t.f (Fld.LB_SYNC_STAT_CYCLE c) = lbField f 0 4 % 64 ∧
        t.f (Fld.LB_SYNC_STAT_CUR_PRIO c) = p.val ∧ t.f (Fld.LB_SYNC_STAT_MNODE c) = lbField f 0 4 / 65536 % 64 ∧
        t.f (Fld.LB_SYNC_STAT_ROLE c) = (if role = 2 then 1 else role) ∧
        t.flag (Fld.LB_STATUS_DISC c) = (s.flag (Fld.LB_STATUS_DISC c) || decide (lbField f 0 4 / 128 % 2 = 1)) ∧
        (err.natAbs ≤ s.f (Fld.LB_TOL_SYNC_TOL c) → (t.lbc c).good = (s.lbc c).good + 1 ∧
          t.f (Fld.LB_SYNC_STAT_SYNC c) = (if 1 ≤ (s.lbc c).good then 2 else sync)) ∧
        (s.f (Fld.LB_TOL_SYNC_TOL c) < err.natAbs → (t.lbc c).good = 0 ∧ t.flag (Fld.LB_STATUS_GT_ERR c) = true ∧
          t.f (Fld.LB_SYNC_STAT_SYNC c) = (if sync = 2 ∧ 1 ≤ (s.lbc c).bad then 1 else sync)) ∧
        (∀ g0 t0, (s.lbc c).last = some (p.val, g0, t0) → t0 < at_ →
          let dt : Int := (at_ : Int) - t0
          let d := (2 * (((gt : Int) - g0) * 16 - dt) * 2 ^ 32 + dt) / (2 * dt)
          (d.natAbs * 1000 ≤ s.f (Fld.LB_TOL_DRIFT_LIM c) * 4294967 → t.rd (.LB_DRIFT c) = BitVec.ofInt 32 d) ∧
          (s.f (Fld.LB_TOL_DRIFT_LIM c) * 4294967 < d.natAbs * 1000 →
            t.rd (.LB_DRIFT c) = s.rd (.LB_DRIFT c) ∧ t.flag (Fld.LB_STATUS_RATE_ERR c) = true)) ∧
        (∀ p0 g0 t0, (s.lbc c).last = some (p0, g0, t0) → p0 ≠ p.val → t.rd (.LB_DRIFT c) = s.rd (.LB_DRIFT c)) ∧ line t) ∧
    (∀ (st cyc : Nat), lbLive s c st = true → s.f (Fld.LB_ERR_ESTATE c) ≠ 2 → (s.lbc c).refReq = true → s.flag (Fld.LB_CTL_MON c) = false →
      s.f (Fld.LB_CTL_LOOP c) = 0 → (s.lbc c).agOld = none →
      let at_ := st - s.f (Fld.LB_RXDLY_RX_DLY c)
      gives (.referenceMessage c none st cyc) s fun t =>
        taken t (lbPos { s with time := t.time } ⟨s.f (Fld.LB_SYNC_CFG_MST_AG c) % 8, Nat.mod_lt _ (by decide)⟩ at_) at_ t.time ∧
        t.f (Fld.LB_SYNC_STAT_ROLE c) = 2 ∧ (∀ x, lbGt t c x = lbGt s c x) ∧ t.rd (.LB_DRIFT c) = s.rd (.LB_DRIFT c) ∧
        ((s.lbc c).heard = true → t.f (Fld.LB_SYNC_STAT_CYCLE c) = (s.f (Fld.LB_SYNC_STAT_CYCLE c) + 1) % 64) ∧
        t.f (Fld.LB_SYNC_STAT_CUR_PRIO c) = prio ∧ t.f (Fld.LB_SYNC_STAT_MNODE c) = s.f (Fld.LB_SYNC_CFG_NODE c) ∧
        (role ≠ 2 → t.flag (Fld.LB_STATUS_TAKEOVER c) = true ∧ t.flag Fld.SYS_STATUS_FAULT_NEW = true) ∧
        (role = 2 → t.f (Fld.LB_STATUS_TAKEOVER c) = s.f (Fld.LB_STATUS_TAKEOVER c)) ∧ line t) ∧
    (∀ (w : Fin 64) (busy : Bool) (start ends kind : Nat), (s.lbc c).nextWin = w.val → lbWin s c w.val = (start, ends, kind) → kind ≠ 0 →
      (s.lbc c).cycOn = true → sync ≠ 1 →
      let cell := lbCellWord s c w.val
      let b : Fin 64 := ⟨cell % 64, Nat.mod_lt _ (by decide)⟩
      let sends := cell / 32768 = 1 ∧ lbMaySend s c = true
      gives (.scheduleWindowStart c busy) s fun t =>
        t.time = max s.time (lbCtCycle s c start) ∧ (t.lbc c).nextWin = w.val + 1 ∧ lbFrame s t c ∧
        (cell / 16384 % 2 = 1 → t.post.rel = s.post.rel ++ ((List.finRange 512).filter (relSel s 5 c.val)).map (fun d => (d.val, t.time))) ∧
        (cell / 16384 % 2 = 0 → t.post = s.post) ∧
        (¬ sends ∨ kind = 1 ∨ kind = 4 → (t.lbc c).offer = 0#64 ∧ s.keeps t [] ∧ s.keepsMem t) ∧
        (sends → kind = 2 → (s.lbMarkEn c b = false ∨ ((s.lbc c).marked.getLsbD b.val = true ∧ (s.lbc c).newCyc ≠ t.time / 4)) →
          (t.lbc c).offer = 1#64 <<< b.val ∧ (t.lbc c).excl = true ∧
          let src := (s.memW (lbTxBuf c b.val + 8)).toNat / 4 * 4
          let n := lbBytes ((s.lbW0 c b).getLsbD 30) (wGet (s.lbW1 c b) 0 4)
          (busy = false → (src = 0 → s.keepsMem t) ∧ (0x10000000 ≤ src → src + n ≤ 0x103F0000 →
            (∀ i, i < n → memGet t.mem (lbTxBuf c b.val + 16 + i) = memGet s.mem (src + i)) ∧
            ∀ x, x < lbTxBuf c b.val + 16 ∨ lbTxBuf c b.val + 16 + n ≤ x → memGet t.mem x = memGet s.mem x))) ∧
        (sends → kind = 3 → (s.lbc c).newCyc ≠ t.time / 4 → ∀ b' : Fin 64,
          ((t.lbc c).offer.getLsbD b'.val = true ↔ s.lbPend c b' = true ∧ s.lbArb c b' = true)) ∧
        (sends → kind = 2 ∨ kind = 3 →
          (busy = true → t.flag (Fld.LB_STATUS_SCHED_VIOL c) = true ∧ t.flag Fld.SYS_STATUS_FAULT_NEW = true ∧
            t.f (Fld.LB_CNT_VIOL c) = min 65535 (s.f (Fld.LB_CNT_VIOL c) + 1)) ∧
          (busy = false → s.keeps t []))) ∧
    ((s.lbc c).cycOn = true →
      (role = 2 → gives (.cycleEnd c) s fun t => t.time = max s.time (lbCtCycle s c len) ∧ (t.lbc c).refReq = true ∧ same t) ∧
      (role ≠ 2 → sync = 3 → gives (.cycleEnd c) s fun t => t.time = max s.time (lbCtCycle s c len) ∧
        t.f (Fld.LB_SYNC_STAT_CYCLE c) = (s.f (Fld.LB_SYNC_STAT_CYCLE c) + 1) % 64 ∧ (t.lbc c).gtRef = (s.lbc c).gtRef + 150 * len ∧
        (t.lbc c).nextWin = 0 ∧ (t.lbc c).holdN = (s.lbc c).holdN + 1 ∧ s.keeps t [.LB_SYNC_STAT c] ∧ s.keepsMem t)) ∧
    (role = 1 → s.flag (Fld.LB_CTL_MON c) = false → sync ≠ 3 → (s.lbc c).refReq = false → gives (.backupSlot c) s fun t =>
      (t.lbc c).refReq = true ∧ ((s.lbc c).heard = true → t.time = max s.time (lbCtCycle s c (len + (prio + 1) * gap))) ∧ same t) ∧
    (sync = 2 → gives (.referenceMissing c) s fun t =>
      t.time = max s.time (lbCtCycle s c (len + 9 * gap)) ∧ t.f (Fld.LB_SYNC_STAT_SYNC c) = 3 ∧ t.f (Fld.LB_SYNC_STAT_ROLE c) = role ∧
      t.f (Fld.LB_SYNC_STAT_CYCLE c) = (s.f (Fld.LB_SYNC_STAT_CYCLE c) + 1) % 64 ∧ t.flag (Fld.LB_STATUS_REF_MISS c) = true ∧
      t.flag Fld.SYS_STATUS_FAULT_NEW = true ∧ lbMaySend t c = false ∧ (∀ x, lbGt t c x = lbGt s c x) ∧ line t) ∧
    (sync = 3 → s.f (Fld.LB_CYC_REF_LIM c) ≤ (s.lbc c).holdN → gives (.holdoverLimit c) s fun t =>
      t.f (Fld.LB_SYNC_STAT_SYNC c) = 1 ∧ t.f (Fld.LB_SYNC_STAT_ROLE c) = role ∧ t.flag Fld.SYS_STATUS_FAULT_NEW = true ∧
      (t.lbc c).cycOn = false ∧ line t)

/-- What the refusal of a host access leaves, where there was one (`err`): bit `b` of HST_ERR, STATUS.HOST_ERR, and for the first such bit the
fault 0x9101; registers other than those listed, and memory, are as before but for what a fault leaves. -/
def hostRefusal (s t : State) (err : Prop) (b : Nat) (rs : List Reg) : Prop :=
  (err → (t.rd .HST_ERR).getLsbD b = true ∧ t.flag Fld.MBX_STATUS_HOST_ERR = true) ∧
  (∀ k, k ≠ b → (t.rd .HST_ERR).getLsbD k = (s.rd .HST_ERR).getLsbD k) ∧
  (err → s.rd .HST_ERR = 0#32 → t.flag Fld.SYS_STATUS_FAULT_NEW = true ∧ s.faultFrame t [0x10000] ∧
    (s.sys.faultCyc ≠ some s.perCycle → s.f Fld.SYS_FAULT_FIRST = 0 → t.f Fld.SYS_FAULT_FIRST = 0x9101)) ∧
  (¬ err ∨ s.rd .HST_ERR ≠ 0#32 → s.keeps t (.MBX_STATUS :: .HST_ERR :: rs) ∧ s.keepsMem t) ∧
  (¬ err → t.rd .HST_ERR = s.rd .HST_ERR)

/-- The slots of a mask that stood in the right state go to a state (0 SUBMITTED, 1 GRANTED, 2 DONE, 3 IDLE), and no other slot changes. -/
def slotsMoved (s t : State) (ok : Fin 8 → Bool) (st : Nat) : Prop :=
  ∀ j : Fin 8,
    isSubmitted (t.rd .MBX_SLOTS) j = (if ok j then decide (st = 0) else isSubmitted (s.rd .MBX_SLOTS) j) ∧
    isGranted (t.rd .MBX_SLOTS) j = (if ok j then decide (st = 1) else isGranted (s.rd .MBX_SLOTS) j) ∧
    isDone (t.rd .MBX_SLOTS) j = (if ok j then decide (st = 2) else isDone (s.rd .MBX_SLOTS) j)

/-- The event slots of a mask that stood in the right state become PENDING or FREE, and no other event slot changes. -/
def eventsMoved (s t : State) (ok : Fin 8 → Bool) (pending : Bool) : Prop :=
  ∀ e : Fin 8,
    (t.rd .MBX_EVT).getLsbD e.val = (if ok e then pending else (s.rd .MBX_EVT).getLsbD e.val) ∧
    (t.rd .MBX_EVT).getLsbD (8 + e.val) = (if ok e then !pending else (s.rd .MBX_EVT).getLsbD (8 + e.val))

/-- SUBMIT, RSP_ACK and EVT_ACK move exactly the named slots that are GRANTED, DONE or PENDING to SUBMITTED, IDLE or FREE, the submitted
ones joining the order in ascending slot order, and set DB, RSP_ACK or EVT_ACK; a named slot in another state keeps its state and sets
HST_ERR.DB, ACK or EVT_WR. A WRITE of a word into a GRANTED command slot changes that word alone; into another it changes nothing and sets
SLOT_WR; into an event slot, EVT_WR. The first HST_ERR bit since the last clear records 0x9101. POST_RSP, POST_GRANT and POST_EVT move
exactly the named slots that are SUBMITTED, IDLE or FREE to DONE, GRANTED or PENDING; a named slot in another state keeps its state and sets
WR_IGN. Slots are judged as they stood before the peripheral cycle. Line 8 + j is bit j of MBX_STATUS with its enable, for j up to 5; lines
14 and 15 are low. The premise on the host's steps is that its port is not in reset. (R463, R474). -/
def Obligations.SlotsRefuseEveryStepOutOfTurn : Prop :=
  (∀ (s : State) (l : Fin 128), 8 ≤ l.val → l.val < 16 →
    s.line l = ((s.rd .MBX_STATUS).getLsbD (l.val - 8) && (s.rd .MBX_IRQ_EN).getLsbD (l.val - 8) && decide (l.val ≤ 13))) ∧
  ∀ (s : State) (mask : BitVec 8), s.dsgRun = false →
    let named (p : Fin 8 → Bool) (j : Fin 8) : Bool := mask.getLsbD j.val && p j
    let granted := isGranted (slotsBefore s)
    let done := isDone (slotsBefore s)
    let pending (e : Fin 8) : Bool := (evtBefore s).getLsbD e.val
    let wrong (p : Fin 8 → Bool) : Prop := ∃ j : Fin 8, mask.getLsbD j.val = true ∧ p j = false
    let right (p : Fin 8 → Bool) : Prop := ∃ j, named p j = true
    (portReset s = false →
      (gives (.submit mask) s fun t =>
        slotsMoved s t (named granted) 0 ∧ t.mbx.order = s.mbx.order ++ (List.finRange 8).filter (named granted) ∧
        (right granted → t.flag Fld.MBX_STATUS_DB = true) ∧ hostRefusal s t (wrong granted) 1 [.MBX_SLOTS] ∧ t.rd .MBX_EVT = s.rd .MBX_EVT) ∧
      (gives (.rspAck mask) s fun t =>
        slotsMoved s t (named done) 3 ∧ t.mbx.order = s.mbx.order ∧ (right done → t.flag Fld.MBX_STATUS_RSP_ACK = true) ∧
        hostRefusal s t (wrong done) 2 [.MBX_SLOTS] ∧ t.rd .MBX_EVT = s.rd .MBX_EVT) ∧
      (gives (.evtAck mask) s fun t =>
        eventsMoved s t (named pending) false ∧ t.mbx.order = s.mbx.order ∧ (right pending → t.flag Fld.MBX_STATUS_EVT_ACK = true) ∧
        hostRefusal s t (wrong pending) 4 [.MBX_EVT] ∧ t.rd .MBX_SLOTS = s.rd .MBX_SLOTS) ∧
      (∀ (a : BitVec 16) (b0 b1 b2 b3 : Byte), a.toNat % 4 = 0 →
        (∀ j : Fin 8, 0x800 + 0x100 * j.val ≤ a.toNat → a.toNat < 0x900 + 0x100 * j.val →
          (granted j = true → gives (.write a [b0, b1, b2, b3]) s fun t =>
            t.memW (0x40010000 + a.toNat) = b3 ++ b2 ++ b1 ++ b0 ∧ { t with mem := s.mem } = s ∧
            ∀ x, x < 0x40010000 + a.toNat ∨ 0x40010004 + a.toNat ≤ x → memGet t.mem x = memGet s.mem x) ∧
          (granted j = false → gives (.write a [b0, b1, b2, b3]) s fun t =>
            hostRefusal s t True 0 [] ∧ t.rd .MBX_SLOTS = s.rd .MBX_SLOTS ∧ t.rd .MBX_EVT = s.rd .MBX_EVT ∧ t.mbx.order = s.mbx.order)) ∧
        (0x1000 ≤ a.toNat → a.toNat < 0x1800 → gives (.write a [b0, b1, b2, b3]) s fun t =>
          hostRefusal s t True 4 [] ∧ t.rd .MBX_SLOTS = s.rd .MBX_SLOTS ∧ t.rd .MBX_EVT = s.rd .MBX_EVT ∧ t.mbx.order = s.mbx.order))) ∧
    (let submitted := isSubmitted (slotsBefore s)
     let idle := isIdle (slotsBefore s)
     let free (e : Fin 8) : Bool := !pending e
     let ignored (t : State) (p : Fin 8 → Bool) : Prop :=
       (wrong p → t.flag Fld.MBX_STATUS_WR_IGN = true) ∧ (¬ wrong p → t.rd .MBX_STATUS = s.rd .MBX_STATUS) ∧
         wGet (t.rd .MBX_STATUS) 0 5 = wGet (s.rd .MBX_STATUS) 0 5
     (writes (.postRsp mask) s fun s t =>
        slotsMoved s t (named submitted) 2 ∧ t.mbx.order = s.mbx.order.filter (fun j => !named submitted j) ∧ ignored t submitted ∧
        { t with regs := s.regs, sys := s.sys, mbx := s.mbx } = s ∧ s.keeps t [.MBX_SLOTS, .MBX_STATUS]) ∧
     (writes (.postGrant mask) s fun s t =>
        slotsMoved s t (named idle) 1 ∧ t.mbx.order = s.mbx.order ∧ ignored t idle ∧
        { t with regs := s.regs, sys := s.sys, mbx := s.mbx } = s ∧ s.keeps t [.MBX_SLOTS, .MBX_STATUS]) ∧
     (writes (.postEvt mask) s fun s t =>
        eventsMoved s t (named free) true ∧ t.mbx.order = s.mbx.order ∧ ignored t free ∧
        { t with regs := s.regs, sys := s.sys, mbx := s.mbx } = s ∧ s.keeps t [.MBX_EVT, .MBX_STATUS]))

/-- A WRITE at an aligned address writes its first word and goes on at the address plus 4; one that ends inside a word leaves the words
before it and sets HST_ERR.FRAME. HST_DB acts as SUBMIT, RSP_ACK and EVT_ACK in turn; HST_ERR clears the ones written; HST_IRQ_EN takes its
bits; outside the areas nothing changes. READ gives its last word; STATUS gives HST_STATUS with the slots, device state, UP and ERR. A
misaligned READ or WRITE and an unknown instruction set FRAME. While HRST_N is low host commands change nothing. HOST_RESET makes every
command slot IDLE, clears HST_ERR, sets HRST and HRST_LVL, records 0x9103, drops the response of a waiting command and keeps the event
slots; a session is closed in BOOT. HOST_RESET_RELEASE clears HRST_LVL and in BOOT grants the IDLE slots. EVENT_POST puts the oldest event
in the lowest FREE slot, with the sequence number and LOST. HIRQ_N is low exactly while an enabled condition holds with AGENT_UP 1 outside
reset. That the model keeps a READ's last word only, and drops accesses in reset, are its choices (log entry 33). (R459, R460, R461, R465,
R470, R471, R472, R475, R497, log entry 5, log entry 33). -/
def Obligations.HostTransactionsResetAndEvents : Prop :=
  (∀ s : State, hirqN s = false ↔ s.boot.hold = 0#3 ∧ s.flag Fld.MBX_CTL_UP = true ∧
    ((s.flag Fld.HST_IRQ_EN_RSP = true ∧ ∃ j, isDone (s.rd .MBX_SLOTS) j = true) ∨
      (s.flag Fld.HST_IRQ_EN_EVT = true ∧ ∃ e : Fin 8, (s.rd .MBX_EVT).getLsbD e.val = true) ∨
      (s.flag Fld.HST_IRQ_EN_ERR = true ∧ s.rd .HST_ERR ≠ 0#32))) ∧
  ∀ s : State, s.dsgRun = false →
    let frameErr (t : State) : Prop := hostRefusal s t True 3 [] ∧ t.mbx.order = s.mbx.order
    let shown (t : State) : Prop :=
      (∀ j : Fin 8, t.rdata.getLsbD j.val = isGranted (slotsBefore s) j ∧ t.rdata.getLsbD (8 + j.val) = isDone (slotsBefore s) j ∧
        t.rdata.getLsbD (16 + j.val) = (evtBefore s).getLsbD j.val) ∧
      wGet t.rdata 24 3 = s.dev ∧ t.rdata.getLsbD 27 = s.flag Fld.MBX_CTL_UP ∧ t.rdata.getLsbD 28 = (s.rd .HST_ERR != 0#32) ∧
      wGet t.rdata 29 3 = 0 ∧ { t with rdata := s.rdata } = s
    (portReset s = true →
      (∀ a d, exec (.write a d) s = .next s) ∧ (∀ a n, exec (.read a n) s = .next s) ∧ exec .status s = .next s ∧
      (∀ x, exec (.unknownInstruction x) s = .next s) ∧ (∀ m, exec (.submit m) s = .next s ∧ exec (.rspAck m) s = .next s ∧ exec (.evtAck m) s = .next s)) ∧
    (portReset s = false →
      gives .status s shown ∧
      (∀ x, x ≠ 0x02#8 → x ≠ 0x0B#8 → x ≠ 0x05#8 → gives (.unknownInstruction x) s frameErr) ∧
      (∀ a : BitVec 16, a.toNat % 4 ≠ 0 → (∀ d, gives (.write a d) s frameErr) ∧ ∀ n, n ≠ 0 → gives (.read a n) s frameErr) ∧
      (∀ a : BitVec 16, a.toNat % 4 = 0 →
        (∀ (b0 b1 b2 b3 : Byte) (d : List Byte), ∃ u, exec (.write a [b0, b1, b2, b3]) s = .next u ∧
          exec (.write a (b0 :: b1 :: b2 :: b3 :: d)) s = exec (.write (a + 4) d) u) ∧
        exec (.write a []) s = .next s ∧ (∀ d, 1 ≤ d.length → d.length ≤ 3 → gives (.write a d) s frameErr) ∧
        (∀ b0 b1 b2 b3 : Byte, a.toNat < 0x08 ∨ a.toNat = 0x14 ∨ (0x18 ≤ a.toNat ∧ a.toNat < 0x800) ∨ 0x1800 ≤ a.toNat →
          exec (.write a [b0, b1, b2, b3]) s = .next s) ∧
        (∀ n, 0 < n → n < 2 ^ 16 →
          let last := (a.toNat + 4 * (n - 1)) % 65536
          (last = 0x04 → gives (.read a n) s shown) ∧
          (∀ v, (last = 0x00 ∧ v = s.rd .HST_ID) ∨ (last = 0x0C ∧ v = s.rd .HST_ERR) ∨ (last = 0x10 ∧ v = s.rd .HST_IRQ_EN) ∨
              (last = 0x14 ∧ v = s.rd .MBX_EVT_LOST) ∨ (0x800 ≤ last ∧ last < 0x1800 ∧ v = s.memW (0x40010000 + last)) ∨
              ((last = 0x08 ∨ (0x18 ≤ last ∧ last < 0x800) ∨ 0x1800 ≤ last) ∧ v = 0#32) →
            exec (.read a n) s = .next { s with rdata := v }))) ∧
      (∀ b0 b1 b2 b3 : Byte,
        (∃ u v, exec (.submit b0) s = .next u ∧ exec (.rspAck b1) u = .next v ∧ exec (.write 0x0008#16 [b0, b1, b2, b3]) s = exec (.evtAck b2) v) ∧
        (gives (.write 0x000C#16 [b0, b1, b2, b3]) s fun t =>
          t.rd .HST_ERR = s.rd .HST_ERR &&& ~~~(b0.setWidth 32 &&& 0x1F#32 &&& ~~~ s.hotBits .HST_ERR) ∧ s.onlyRegs t [.HST_ERR]) ∧
        (gives (.write 0x0010#16 [b0, b1, b2, b3]) s fun t =>
          wGet (t.rd .HST_IRQ_EN) 0 3 = b0.toNat % 8 ∧ s.onlyRegs t [.HST_IRQ_EN]))) ∧
    (gives .hostReset s fun t =>
      t.rd .MBX_SLOTS = 0#32 ∧ t.rd .HST_ERR = 0#32 ∧ t.rd .HST_IRQ_EN = 7#32 ∧ t.flag Fld.MBX_STATUS_HRST = true ∧ portReset t = true ∧
      t.rd .MBX_EVT = s.rd .MBX_EVT ∧ t.flag Fld.SYS_STATUS_FAULT_NEW = true ∧
      (s.sys.faultCyc ≠ some s.perCycle → s.f Fld.SYS_FAULT_FIRST = 0 → t.f Fld.SYS_FAULT_FIRST = 0x9103) ∧
      t.mbx.order = [] ∧ (∀ r, s.mbx.run = some r → t.mbx.run = some { r with drop := true }) ∧ (s.mbx.run = none → t.mbx.run = none) ∧
      t.mbx.fw = (if s.dev = devBoot then none else s.mbx.fw) ∧ t.dev = s.dev ∧ s.faultFrame t [0x10000]) ∧
    (portReset s = true → gives .hostResetRelease s fun t =>
      portReset t = false ∧ s.keeps t [.MBX_STATUS, .MBX_SLOTS] ∧ s.keepsMem t ∧ t.mbx.order = s.mbx.order ∧
      (s.dev ≠ devBoot ∨ s.flag Fld.MBX_CTL_UP = false → t.rd .MBX_SLOTS = s.rd .MBX_SLOTS) ∧
      (s.dev = devBoot → s.flag Fld.MBX_CTL_UP = true → slotsMoved s t (isIdle (slotsBefore s)) 1)) ∧
    (∀ e rest (i : Fin 8), s.mbx.evq = e :: rest → (evtBefore s).getLsbD i.val = false → (∀ j : Fin 8, j < i → (evtBefore s).getLsbD j.val = true) →
      e.data.length ≤ 240 → gives .eventPost s fun t =>
        let a := 0x40011000 + 0x100 * i.val
        let frame := leBytes e.code 2 ++ leBytes s.mbx.seq 2 ++ leBytes e.data.length 2 ++
          [0#8, 0#8, BitVec.ofNat 8 e.dev, 0xFF#8, if s.mbx.lost then 6#8 else 2#8, 0#8] ++ leBytes (e.at_ % 2 ^ 32) 4 ++ e.data
        (∀ x, memGet t.mem x = if a ≤ x ∧ x < a + frame.length then frame.getD (x - a) 0#8 else memGet s.mem x) ∧
        eventsMoved s t (fun j => decide (j = i)) true ∧ t.mbx.evq = rest ∧ t.mbx.seq = (s.mbx.seq + 1) % 65536 ∧ t.mbx.lost = false ∧
        { t with regs := s.regs, mem := s.mem, mbx := s.mbx } = s ∧ s.keeps t [.MBX_EVT])

/-- Every slot has one state, and the order of submission is that of the submitted slots (R462, R464). -/
def slotsOk (s : State) : Prop :=
  (∀ j, ¬ (isSubmitted (s.rd .MBX_SLOTS) j = true ∧ isGranted (s.rd .MBX_SLOTS) j = true) ∧
    ¬ (isSubmitted (s.rd .MBX_SLOTS) j = true ∧ isDone (s.rd .MBX_SLOTS) j = true) ∧
    ¬ (isGranted (s.rd .MBX_SLOTS) j = true ∧ isDone (s.rd .MBX_SLOTS) j = true)) ∧
  (∀ e : Fin 8, (s.rd .MBX_EVT).getLsbD e.val = !(s.rd .MBX_EVT).getLsbD (8 + e.val)) ∧
  s.mbx.order.Nodup ∧ ∀ j, j ∈ s.mbx.order ↔ isSubmitted (s.rd .MBX_SLOTS) j = true

/-- A command of the host port or of the agent's side of the mailbox. -/
def slotCommand (c : Instr) : Prop :=
  (∃ a d, c = .write a d ∧ d.length ≤ 256) ∨ (∃ a n, c = .read a n) ∨ c = .status ∨ (∃ x, c = .unknownInstruction x) ∨
  (∃ m, c = .submit m ∨ c = .rspAck m ∨ c = .evtAck m ∨ c = .postRsp m ∨ c = .postGrant m ∨ c = .postEvt m) ∨
  c = .hostReset ∨ c = .hostResetRelease ∨ c = .eventPost

/-- In a state where each command slot is at most one of SUBMITTED, GRANTED and DONE, each event slot is exactly one of PENDING and FREE,
and the order of submission lists the submitted slots, each once, a step that takes a WRITE of at most 256 bytes, a READ, STATUS,
UNKNOWN_INSTRUCTION, SUBMIT, RSP_ACK, EVT_ACK, POST_RSP, POST_GRANT, POST_EVT, HOST_RESET, HOST_RESET_RELEASE or EVENT_POST gives a state
where this holds again, whatever the masks and data, if no slot has changed in the present peripheral cycle; and it holds right after reset.
So a slot never has two owners, and no submission is lost or executed twice. (R462, R463, R464, R476, R490). -/
def Obligations.MailboxSlotsKeepOneOwner : Prop :=
  slotsOk State.reset ∧
  ∀ (s t : State) (c : Instr) (rest : List Instr), s.pending = c :: rest → slotCommand c → s.mbx.oldCyc ≠ some s.perCycle → slotsOk s →
    step s = .next t → slotsOk t

/-- Each command of the table with its opcode (R468); `sig` is what a command tells of a signature. -/
def felOp (i : Fin 8) (c : Instr) (op : Nat) (sig : Bool) : Prop :=
  (c = .getInfo i ∧ op = 0x0100) ∨ (c = .getState i ∧ op = 0x0101) ∨ (c = .setState i ∧ op = 0x0102) ∨ (c = .lockConfig i ∧ op = 0x0103) ∨
  (c = .regRead i ∧ op = 0x0104) ∨ (c = .regWrite i ∧ op = 0x0105) ∨ (c = .faultRead i ∧ op = 0x0106) ∨ (c = .reset i ∧ op = 0x0107) ∨
  (c = .axSetState i ∧ op = 0x0200) ∨ (c = .axSetpoint i ∧ op = 0x0201) ∨ (c = .axStatus i ∧ op = 0x0202) ∨
  ((∃ g, c = .axDraw i g) ∧ op = 0x0203) ∨ (c = .axPattern i ∧ op = 0x0204) ∨ (c = .auxCmd i ∧ op = 0x0300) ∨ (c = .auxDuty i ∧ op = 0x0301) ∨
  (c = .auxStatus i ∧ op = 0x0302) ∨ (c = .dcPrecharge i ∧ op = 0x0400) ∨ (c = .dcConv i ∧ op = 0x0401) ∨ (c = .dcDischarge i ∧ op = 0x0402) ∨
  (c = .dcStatus i ∧ op = 0x0403) ∨ (c = .measRead i ∧ op = 0x0500) ∨ (c = .sdmRead i ∧ op = 0x0501) ∨ (c = .recFlush i ∧ op = 0x0600) ∨
  (c = .recSnap i ∧ op = 0x0601) ∨ (c = .recRead i ∧ op = 0x0602) ∨ (c = .recClear i ∧ op = 0x0603) ∨ (c = .lbStatus i ∧ op = 0x0700) ∨
  (c = .lbSend i ∧ op = 0x0701) ∨ ((∃ b, c = .fwInfo i b) ∧ op = 0x0800) ∨ (c = .fwBegin i ∧ op = 0x0801) ∨ (c = .fwData i ∧ op = 0x0802) ∨
  (c = .fwEnd i sig ∧ op = 0x0803) ∨ (c = .fwSelect i sig ∧ op = 0x0804) ∨ (c = .safeParamWrite i ∧ op = 0x0900) ∨
  (c = .safeParamRead i ∧ op = 0x0901) ∨ (c = .safeStatus i ∧ op = 0x0902) ∨ (c = .dbgEnter i ∧ op = 0x0A00) ∨ (c = .dbgPool i ∧ op = 0x0A01)

/-- A row of the command table (R468) for a frame: whether its LEN is the row's, its fields that are out of range or reserved with their
offsets, the states that it is legal in, and the object byte of a refusal. -/
def felRules (s : State) (f : Frame) (sig : Bool) (op : Nat) : Bool × List (Bool × Nat) × List Nat × Nat :=
  let all := [devConfig, devStandby, devArmed, devRun, devSafe, devFault, devDebug]
  let image (x : Nat) : Bool := x % 4 = 0 && ((0x00C ≤ x && x < 0x020) || (0x100 ≤ x && x < 0x200) || (0x4000 ≤ x && x < 0x6200))
  let barred (a : Nat) : Bool := a % 4 != 0 || [0x4000, 0x4001, 0x4012, 0x4013, 0x400F, 0x4006, 0x4007].contains (a / 0x10000) ||
    (0x30000000 ≤ a && a < 0x30180000)
  match op with
  | 0x0100 => (f.len = 0, [], devBoot :: all, 0xFF)
  | 0x0101 => (f.len = 0, [], all, 0xFF)
  | 0x0102 => (f.len = 4, [(7 < f.b 0, 0), f.zero 1 3], [devConfig, devStandby, devArmed, devRun, devSafe], 0xFF)
  | 0x0103 => (f.len = 0, [], [devConfig], 0xFF)
  | 0x0104 => (f.len = 8, [((f.w 0).toNat % 4 != 0, 0), (f.b 4 = 0 || 60 < f.b 4, 4), f.zero 5 3], all, 0xFF)
  | 0x0105 => (f.len % 12 = 0 && f.len != 0, (List.range (f.len / 12)).map fun k => (barred (f.w (12 * k)).toNat, 12 * k),
      [devConfig, devStandby, devArmed, devRun, devSafe, devDebug], 0xFF)
  | 0x0106 => (f.len = 4, [(1 < f.b 0, 0), f.zero 1 3], all, 0xFF)
  | 0x0107 => (f.len = 4, [(f.h 0 != 0x7E57, 0), f.zero 2 2], [devConfig, devStandby, devSafe, devFault, devDebug], 0xFF)
  | 0x0200 => (f.len = 4, [(3 < f.b 0, 0), (5 < f.b 1, 1), f.zero 2 2], [devRun, devDebug], s.axis f.axis)
  | 0x0201 => (f.len = 16, [(3 < f.b 0, 0), (2 < f.b 1, 1), f.zero 2 2, f.zero 12 4], [devArmed, devRun, devDebug], s.axis f.axis)
  | 0x0202 => (f.len = 4, [(3 < f.b 0, 0), f.zero 1 3], all, 0xFF)
  | 0x0203 => (f.len = 8, [(3 < f.b 0, 0), f.zero 1 3, (f.w 4 = 0#32, 4)], [devStandby, devArmed, devRun, devDebug], s.axis f.axis)
  | 0x0204 => (f.len = 16 + 4 * f.b 1,
      [(f.b 0 = 0 || 63 < f.b 0, 0), (f.b 1 = 0 || 56 < f.b 1, 1), (f.b 2 &&& 0xEC != 0, 2), f.zero 3 1, (2 ^ 15 ≤ f.h 12, 12), f.zero 14 2],
      [devConfig, devStandby, devArmed, devRun, devDebug], 0xFF)
  | 0x0300 => (f.len = 4, [(7 < f.b 0, 0), (f.b 1 = 0 || 3 < f.b 1, 1), f.zero 2 2],
      [devConfig, devStandby, devArmed, devRun, devSafe, devDebug], s.auxSt f.chan)
  | 0x0301 => (f.len = 4, [(7 < f.b 0, 0), f.zero 1 1], [devConfig, devStandby, devArmed, devRun, devSafe, devDebug], s.auxSt f.chan)
  | 0x0302 => (f.len = 4, [(7 < f.b 0, 0), f.zero 1 3], all, 0xFF)
  | 0x0400 => (f.len = 4, [(f.b 0 != 1 && f.b 0 != 2, 0), f.zero 1 3],
      if f.b 0 = 1 then [devStandby, devArmed] else [devConfig, devStandby, devArmed, devSafe, devFault], s.pch)
  | 0x0401 => (f.len = 8, [(1 < f.b 0, 0), (2 < f.b 1, 1), f.zero 2 2], if f.b 1 = 0 then all else [devArmed, devRun, devDebug], s.pch)
  | 0x0402 => (f.len = 4, [(f.h 0 != 0xA55A, 0), f.zero 2 2], [devArmed, devRun, devSafe, devFault], s.dsg)
  | 0x0403 => (f.len = 0, [], all, 0xFF)
  | 0x0500 => (f.len = 4 + 4 * ((f.b 0 + 3) / 4),
      [(f.b 0 = 0 || 60 < f.b 0, 0), f.zero 1 3] ++ (List.range (f.b 0)).map (fun k => (decide (60 < f.b (4 + k)), 4 + k)), all, 0xFF)
  | 0x0501 => (f.len = 4 + 4 * ((f.b 0 + 3) / 4),
      [(f.b 0 = 0 || 60 < f.b 0, 0), f.zero 1 3] ++ (List.range (f.b 0)).map (fun k => (decide (31 < f.b (4 + k)), 4 + k)), all, 0xFF)
  | 0x0600 => (f.len = 0, [], all, 0xFF)
  | 0x0601 => (f.len = 0, [], all, 0xFF)
  | 0x0602 => (f.len = 4, [(2 < f.b 0, 0), (f.b 1 < 4 || 240 < f.b 1 || f.b 1 % 4 != 0, 1), (f.h 2 % 4 != 0 || 0x3580 < f.h 2 + f.b 1, 2)], all, 0xFF)
  | 0x0603 => (f.len = 4, [(15 < f.b 0, 0), f.zero 1 3], [devConfig, devStandby], 0xFF)
  | 0x0700 => (f.len = 4, [(3 < f.b 0, 0), f.zero 1 3], all, 0xFF)
  | 0x0701 => (f.len = 12 + lbSendBytes f,
      [(3 < f.b 0 || (s.f (Fld.LB_CTL_MODE f.axis) != 1 && s.f (Fld.LB_CTL_MODE f.axis) != 2), 0), (63 < f.b 1, 1), f.zero 2 2],
      [devStandby, devArmed, devRun, devSafe, devDebug], s.lbSync f.axis)
  | 0x0800 => (f.len = 0, [], devBoot :: all, 0xFF)
  | 0x0801 => (f.len = 8, [(1 < f.b 0 || f.slot = activeSlot s, 0), f.zero 1 3,
      ((f.w 4).toNat % 4 != 0 || (f.w 4).toNat = 0 || 0x2FFFC0 < (f.w 4).toNat, 4)], [devBoot, devConfig, devStandby], 0xFF)
  | 0x0802 => (f.len % 4 = 0 && 8 ≤ f.len,
      (match s.mbx.fw with
        | some x => [((f.w 0).toNat != x.next || x.size < (f.w 0).toNat + (f.len - 4), 0)]
        | none => []),
      [devBoot, devConfig, devStandby], 0xFF)
  | 0x0803 => (f.len = 64, [], [devBoot, devConfig, devStandby], 0xFF)
  | 0x0804 => (f.len = 4, [(1 < f.b 0 || !imgOk s f.slot sig, 0), f.zero 1 3], [devConfig, devStandby], 0xFF)
  | 0x0900 => (f.len % 4 = 0 && 8 ≤ f.len, [((List.range (f.len / 4 - 1)).any (fun k => !image (f.h 0 + 4 * k)), 0), f.zero 2 2], [devConfig], 0xFF)
  | 0x0901 => (f.len = 4, [(f.h 0 % 4 != 0 || 0x10000 < f.h 0 + 4 * f.b 2, 0), (f.b 2 = 0 || 60 < f.b 2, 2), f.zero 3 1], all, 0xFF)
  | 0x0902 => (f.len = 0, [], all, 0xFF)
  | 0x0A00 => (f.len = 4, [(f.h 0 != 0xDB60, 0), f.zero 2 2], [devStandby, devArmed, devRun], 0xFF)
  | 0x0A01 => (f.len = 0, [], all, 0xFF)
  | _ => (false, [], [], 0xFF)

/-- The offset of the first field of a list that is bad (R466). -/
def firstOff (l : List (Bool × Nat)) : Option Nat := (l.find? (·.1)).map (·.2)

/-- Slot `i` is the next that Felyene executes, and no slot has changed in this peripheral cycle (R462, R464). -/
def felNext (s : State) (i : Fin 8) : Prop :=
  s.mbx.run = none ∧ s.mbx.order.head? = some i ∧ felServes s = true ∧ s.mbx.oldCyc ≠ some s.perCycle ∧
    isSubmitted (s.rd .MBX_SLOTS) i = true ∧ ∀ c, s.mbx.oldCyc = some c → c < s.perCycle

/-- Slot `i` is next and its command, of an opcode, passes the judgement up to its state (R466). -/
def felAccepted (s : State) (i : Fin 8) (op : Nat) (sig : Bool) : Prop :=
  let f := frameOf s i
  let r := felRules s f sig op
  felNext s i ∧ f.op = op ∧ f.len ≤ 240 ∧ r.1 = true ∧ firstOff r.2.1 = none ∧ s.dev ∈ r.2.2.1

/-- A response posted after a state `u` (R462, R465): its frame in slot `i`, the slot DONE and out of the order, and nothing else changed. -/
def felPosted (u t : State) (i : Fin 8) (op tag dev at_ st obj : Nat) (data : List Byte) : Prop :=
  let a := 0x40010800 + 0x100 * i.val
  let rsp := leBytes op 2 ++ leBytes tag 2 ++ leBytes data.length 2 ++ leBytes st 2 ++ [BitVec.ofNat 8 dev, BitVec.ofNat 8 obj, 1#8, 0#8] ++
    leBytes (at_ % 2 ^ 32) 4 ++ data
  (∀ x, memGet t.mem x = if a ≤ x ∧ x < a + rsp.length then rsp.getD (x - a) 0#8 else memGet u.mem x) ∧
  slotsMoved u t (fun j => decide (j = i)) 2 ∧ t.mbx.order = u.mbx.order.filter (fun j => decide (j ≠ i)) ∧ u.keeps t [.MBX_SLOTS] ∧
  { t with regs := u.regs, mem := u.mem, mbx := u.mbx } = u ∧
  { t.mbx with order := u.mbx.order, oldCyc := u.mbx.oldCyc, oldSlots := u.mbx.oldSlots, oldEvt := u.mbx.oldEvt } = u.mbx

/-- For each of the 38 commands, with its opcode, length, parameter checks, legal states and object as the command table gives them: the
slot that is first in the order of submission, with Felyene serving and nothing waiting, is answered BAD_OPCODE if no row has its opcode;
BAD_LENGTH if LEN exceeds 240 or differs from the row's; else BAD_PARAM with the offset of the first bad field and detail 0; else, in a
device state that the row does not list, REFUSED_STATE with the device state and the object's state. The response frame has the command's
opcode and tag, the length of its payload, the status, the device state, the object byte, RSP and device time; the slot becomes DONE and
leaves the order; nothing else changes. A slot that is not first, or that holds another row's opcode, is left. The offsets at which fields
count as first bad, and that fields said to be 0 are checked, are the model's reading (log entry 34). (R464, R465, R466, R467, R468, R476,
log entry 34). -/
def Obligations.FelyeneJudgesACommand : Prop :=
  ∀ (s : State) (i : Fin 8) (c : Instr) (op : Nat) (sig : Bool), felOp i c op sig →
    let f := frameOf s i
    let r := felRules s f sig op
    let answered (st obj : Nat) (data : List Byte) : Prop :=
      gives c s fun t => felPosted (s.turned s.atWrite) t i f.op f.tag s.dev s.atWrite.time st obj data
    (felNext s i → (∀ c' op' sig', felOp i c' op' sig' → op' ≠ f.op) → answered 1 0xFF []) ∧
    (felNext s i → f.op = op →
      (240 < f.len ∨ r.1 = false → answered 2 0xFF []) ∧
      (f.len ≤ 240 → r.1 = true →
        (∀ off, firstOff r.2.1 = some off → answered 3 0xFF (leBytes off 2 ++ [0#8, 0#8])) ∧
        (firstOff r.2.1 = none → s.dev ∉ r.2.2.1 → answered 5 r.2.2.2 []))) ∧
    (s.mbx.run = none → s.mbx.order.head? ≠ some i ∨ felServes s = false → exec c s = .next s) ∧
    (felNext s i → f.op ≠ op → (∃ c' sig', felOp i c' f.op sig') → exec c s = .next s) ∧
    (∀ w, s.mbx.run = some w → w.slot ≠ i ∨ w.op ≠ op → exec c s = .next s)

/-- An accepted GET_INFO, GET_STATE, AX_STATUS, AUX_STATUS, DC_STATUS, MEAS_READ, SDM_READ, REC_READ, LB_STATUS, FW_INFO, SAFE_STATUS and
DBG_POOL is answered OK with the payload of its row, and changes nothing but the slot: LB_STATUS also captures GT_HI as its read of GT_LO
does, and ferroelectric memory is read once a flush that writes it has ended (R416). REG_READ and SAFE_PARAM_READ answer the words that
agent reads one after the other give, each with its effects. The five figures of AX_STATUS that the firmware forms are free values (log
entry 5); FW_INFO's judgement of a signature is told by the command. (R468, R33, R34, R454, R487, log entry 5, log entry 34). -/
def Obligations.FelyeneStatusCommands : Prop :=
  ∀ (z : State) (i : Fin 8),
    let s := z.atWrite
    let f := frameOf s i
    let b (n : Nat) : Byte := BitVec.ofNat 8 n
    let words (l : List Word) : List Byte := l.flatMap fun w => leBytes w.toNat 4
    let answers (c : Instr) (op : Nat) (u : State) (data : List Byte) : Prop :=
      felAccepted z i op false → gives c z fun t => felPosted (z.turned u) t i op f.tag s.dev s.time 0 0xFF data
    let straps := s.f Fld.SYS_STRAP_BOOT + 4 * s.f Fld.SYS_STRAP_HOSTQ + 8 * s.f Fld.SYS_STRAP_SAFE + 16 * s.f Fld.SYS_STRAP_DBG +
      32 * s.f Fld.SYS_STRAP_LBT + 128 * s.f Fld.SYS_STRAP_GPOL
    answers (.getInfo i) 0x0100 s ([0x60#8, 0x09#8, Config.siliconRev] ++ leBytes Config.felVersion.toNat 2 ++ [b (activeSlot s).val] ++
      leBytes straps 2 ++ [b (s.f Fld.SYS_STRAP_NODE), b (s.f Fld.SYS_STATE_LOCKSTEP_BROKEN), 0#8, 0#8] ++
      words [s.rd .HLM_OPSEC, s.rd .HLM_PWRCYC, 0#32, 0#32, 0#32]) ∧
    answers (.getState i) 0x0101 s ([b s.dev, b s.sv, b (s.axis 0), b (s.axis 1), b (s.axis 2), b (s.axis 3)] ++
      (List.finRange 8).map (fun n => b (s.auxSt n)) ++ [b s.pch, b s.dsg]) ∧
    (let n := f.axis
     let g := axGroup n
     ∃ w : Fin 5 → Word, answers (.axStatus i) 0x0202 { s with free := s.free + 5 }
      ([b (s.axis n), b (s.f (Fld.PWM_G_PSEL_ACT_PSEL n)), b (s.f (Fld.ANV_AX_STAT_SEL n)),
          b (s.f (Fld.QNC_G_STATE_TRIPPED g) + 2 * s.f (Fld.QNC_G_STATE_HOLD g))] ++
        words [w 0, s.rd (.ANV_AX_TQ n), w 1, w 2, w 3] ++ [b (s.f (Fld.QNC_G_STATE_FIRST_SRC g)), (w 4).setWidth 8] ++ List.replicate 6 0#8)) ∧
    answers (.auxStatus i) 0x0302 s
      (words [s.rd (.AUX_CH_STATUS f.chan), s.rd (.AUX_CH_FREQ f.chan), s.rd (.AUX_CH_TSEC f.chan), 0#32]) ∧
    answers (.dcStatus i) 0x0403 s (words [vlinkWord s, s.rd .PWM_DSC_PCH_STAT, dsgStatWord s, 0#32]) ∧
    (∀ ch : Nat → Fin 61, (∀ k, k < f.b 0 → (ch k).val = f.b (4 + k)) → answers (.measRead i) 0x0500 s
      (words ((List.range (f.b 0)).map fun k => s.rd (.MCV_CH_RES ⟨(ch k).val, by omega⟩)))) ∧
    (∀ ch : Nat → Fin 32, (∀ k, k < f.b 0 → (ch k).val = f.b (4 + k)) → answers (.sdmRead i) 0x0501 s
      (words ((List.range (f.b 0)).map fun k => s.rd (.SDM_CH_DATA (ch k))))) ∧
    (let u := if f.b 0 = 0 then s else flushEnd s
     answers (.recRead i) 0x0602 u ((List.range (f.b 1)).map fun k =>
      memGet u.mem ((if f.b 0 = 0 then 0x103F4000 else if f.b 0 = 1 then 0x20700000 else 0x20704000) + f.h 2 + k))) ∧
    (let c := f.axis
     ∀ st, st = wPut (s.rd (.LB_STATUS c)) 14 1 (bit (lbWatermark s c)) →
      answers (.lbStatus i) 0x0700 (lbGtRead c s).2
        (words [s.rd (.LB_SYNC_STAT c), st, s.rd (.LB_ERR c), (lbGtRead c s).1, (lbGtRead c s).2.rd (.LB_GT_HI c), s.rd (.LB_CNT c)])) ∧
    (∀ sig : BitVec 2,
      let s := flushEnd s
      let row (k : Fin 2) : List Byte := words [s.memW (imgBase k + 8), s.memW (imgBase k + 12)] ++
        [b (bit (imgOk s k (sig.getLsbD k.val))), b (bit (activeSlot s = k))] ++ List.replicate 6 0#8
      answers (.fwInfo i sig) 0x0800 s (row 0 ++ row 1)) ∧
    answers (.safeStatus i) 0x0902 s (words ([s.rd .ANV_STATUS, s.rd .ANV_CAUSE, s.rd .ANV_PSTAT, s.rd .ANV_PCRC, s.rd .ANV_DEMAND] ++
      (List.finRange 4).map fun n => s.rd (.ANV_AX_STAT n))) ∧
    answers (.dbgPool i) 0x0A01 s (words [loopStatus s] ++ (List.finRange 24).map (fun p => (pairState p s).setWidth 8) ++
      words [s.rd .ASY_MIS_LAST]) ∧
    (∃ u : Nat → State, u 0 = s ∧ (∀ k, u (k + 1) = (agentRead ((f.w 0).toNat + 4 * k) (u k)).2) ∧
      answers (.regRead i) 0x0104 (u (f.b 4)) (words ((List.range (f.b 4)).map fun k => (agentRead ((f.w 0).toNat + 4 * k) (u k)).1))) ∧
    (∃ u : Nat → State, u 0 = s ∧ (∀ k, u (k + 1) = (agentRead (0x400F0000 + f.h 0 + 4 * k) (u k)).2) ∧
      answers (.safeParamRead i) 0x0901 (u (f.b 2)) (words ((List.range (f.b 2)).map fun k => (agentRead (0x400F0000 + f.h 0 + 4 * k) (u k)).1)))

/-- Commands executed one after the other. -/
def runs : List Instr → State → State → Prop
  | [], s, u => u = s
  | c :: cs, s, u => ∃ m, exec c s = .next m ∧ runs cs m u

/-- A command of an opcode waits in slot `i` for its action to end, and its response is wanted (R464). -/
def felWaits (s : State) (i : Fin 8) (op : Nat) (r : FelRun) : Prop :=
  s.mbx.run = some r ∧ r.slot = i ∧ r.op = op ∧ r.drop = false ∧ isSubmitted (s.rd .MBX_SLOTS) i = true ∧ s.mbx.oldCyc ≠ some s.perCycle

/-- An accepted SET_STATE, AX_SET_STATE, AUX_CMD, DC_PRECHARGE, DC_DISCHARGE or DBG_ENTER leaves what the agent's own command leaves (log
entry 34 for the choices) and answers OK with the new state, or REFUSED_STATE, REFUSED_LOCK or REFUSED_SAFETY where the hardware refuses.
REG_WRITE and SAFE_PARAM_WRITE are agent writes one after the other, REG_WRITE with each word read back. FAULT_READ, AX_DRAW, AUX_DUTY,
DC_CONV, REC_CLEAR and LB_SEND run their register writes; AX_SETPOINT keeps the set-point; RESET is due 1 ms later. LOCK_CONFIG, AX_PATTERN,
REC_FLUSH and REC_SNAP start their action and wait: with the action ended the response is posted, with BAD_PARAM where the lock or pattern
check failed or TIMEOUT for a flush after 2 ms; until then nothing changes, and a busy resource answers BUSY. FW_BEGIN clears MAGIC and
opens a session, FW_DATA writes its bytes but MAGIC, FW_END writes signature and MAGIC if the image verifies, else answers AUTH_FAIL with
MAGIC 0; in BOOT it boots the slot, or records 0xA107; FW_SELECT writes the boot record, each with no flush writing. (R467, R468, R343,
R223, R306, R414, R476, R487, R490, R492, R493, log entry 34). -/
def Obligations.FelyeneControlCommands : Prop :=
  ∀ (s : State) (i : Fin 8),
    let f := frameOf s i
    let b (n : Nat) : Byte := BitVec.ofNat 8 n
    let word1 (n : Nat) : List Byte := [b n, 0#8, 0#8, 0#8]
    let words (l : List Word) : List Byte := l.flatMap fun w => leBytes w.toNat 4
    let ans (c : Instr) (u : State) (st obj : Nat) (data : List Byte) : Prop :=
      gives c s fun t => felPosted u t i f.op f.tag s.dev s.atWrite.time st obj data
    let z := s.turned s.atWrite
    let after (cs : List Instr) (u : State) : Prop := if cs = [] then u = z else runs cs s u
    let acts (c : Instr) (cs : List Instr) (st obj : Nat) (data : State → List Byte) : Prop := ∃ u, after cs u ∧ ans c u st obj (data u)
    let waits (c : Instr) (u : State) (arg : Nat) : Prop := exec c s = .next { u with mbx := { u.mbx with
      run := some { slot := i, op := f.op, tag := f.tag, dev := s.dev, at_ := s.atWrite.time, arg := arg } } }
    let ends (c : Instr) (r : FelRun) (st : Nat) (data : List Byte) : Prop :=
      gives c s fun t => felPosted { z with mbx := { s.mbx with run := none } } t i r.op r.tag r.dev r.at_ st 0xFF data
    let once (n : Fin 16) : BitVec 16 := 1#16 <<< n.val
    let none_ (_ : State) : List Byte := []
    -- device state
    (felAccepted s i 0x0102 false → s.sys.causeCyc ≠ some s.perCycle →
      let d := f.b 0
      let st := if d = devStandby ∧ s.dev = devConfig ∧ s.locked = false then 6
        else if (d = devStandby ∧ (s.dev = devConfig ∨ s.dev = devSafe)) ∨ (d = devArmed ∧ s.dev = devStandby) ∨ (d = devRun ∧ s.dev = devArmed) then 7 else 5
      (∀ direct, isRequest direct 0xC3A5#16 d →
        (agentChange s d → acts (.setState i) [direct] 0 0xFF fun u => word1 u.dev) ∧ (¬ agentChange s d → acts (.setState i) [direct] st 0xFF none_)) ∧
      (d = devBoot ∨ d = devFault → ∃ u, z.onlyRegs u [.SYS_STATUS, .SYS_REFUSE] ∧ u.flag Fld.SYS_STATUS_REQ_REFUSED = true ∧ ans (.setState i) u 5 0xFF [])) ∧
    (felAccepted s i 0x0A00 false → s.sys.causeCyc ≠ some s.perCycle →
      (s.flag Fld.SYS_STRAP_DBG = true → acts (.dbgEnter i) [.requestDebug 0xC3A5#16] 0 0xFF none_) ∧
      (s.flag Fld.SYS_STRAP_DBG = false → ans (.dbgEnter i) z 7 0xFF [])) ∧
    (felAccepted s i 0x0107 false → ans (.reset i) { z with boot := { s.boot with rstAt := some (s.atWrite.time + 600000) } } 0 0xFF []) ∧
    (felAccepted s i 0x0106 false → acts (.faultRead i) (if f.b 0 = 1 then [.faultCodeClear] else []) 0 0xFF fun _ => words [s.rd .SYS_FAULT, s.rd .SYS_STATUS]) ∧
    (felAccepted s i 0x0103 false → (s.locked = true → ans (.lockConfig i) z 6 0xFF []) ∧
      (s.locked = false → ∃ u, runs [.configurationLock 0x4C4B#16] s u ∧ waits (.lockConfig i) u 0)) ∧
    (∀ r, felWaits s i 0x0103 r →
      (s.flag Fld.ANV_PSTAT_DONE = false → exec (.lockConfig i) s = .next z) ∧
      (s.flag Fld.ANV_PSTAT_DONE = true → s.flag Fld.ANV_PSTAT_RANGE_ERR = true → ends (.lockConfig i) r 3 [0#8, 0#8, 1#8, 0#8]) ∧
      (s.flag Fld.ANV_PSTAT_DONE = true → s.flag Fld.ANV_PSTAT_RANGE_ERR = false → ends (.lockConfig i) r 0 (words [s.rd .ANV_PCRC, s.rd .QNC_CRC]))) ∧
    -- agent writes
    (felAccepted s i 0x0105 false → ∃ (u v w : Nat → State) (old back : Nat → Word), u 0 = s.atWrite ∧
      (∀ k, k < f.len / 12 →
        let a := f.w (12 * k)
        let mask := f.w (12 * k + 4)
        agentRead a.toNat (u k) = (old k, v k) ∧
        exec (.registerWrite a ((old k &&& ~~~mask) ||| (f.w (12 * k + 8) &&& mask)) 4 false) (v k) = .next (w k) ∧
        agentRead a.toNat (w k) = (back k, u (k + 1))) ∧
      (isSubmitted ((u (f.len / 12)).rd .MBX_SLOTS) i = true →
        ans (.regWrite i) (s.turned (u (f.len / 12))) 0 0xFF (words ((List.range (f.len / 12)).map back)))) ∧
    (felAccepted s i 0x0900 false → (s.locked = true → ans (.safeParamWrite i) z 6 0xFF []) ∧
      (s.locked = false → ∃ u : Nat → State, u 0 = s.atWrite ∧
        (∀ k, k < f.len / 4 - 1 →
          exec (.registerWrite (BitVec.ofNat 32 (0x400F0000 + f.h 0 + 4 * k)) (f.w (4 + 4 * k)) 4 false) (u k) = .next (u (k + 1))) ∧
        ans (.safeParamWrite i) (s.turned (u (f.len / 4 - 1))) 0 0xFF [])) ∧
    -- axes
    (felAccepted s i 0x0200 false →
      let n := f.axis
      let before := axisBefore s
      let write : Instr := .axStateWrite (wPut before (4 * n.val) 3 (f.b 1))
      let ok := f.b 1 = wGet before (4 * n.val) 3 ∨ axisOk s n (wGet before (4 * n.val) 3) (f.b 1) = true
      (ok → acts (.axSetState i) [write] 0 0xFF fun u => word1 (u.axis n)) ∧ (¬ ok → acts (.axSetState i) [write] 5 (s.axis n) none_)) ∧
    (felAccepted s i 0x0201 false →
      (s.axis f.axis = axHold → ans (.axSetpoint i) z 5 axHold []) ∧
      (s.axis f.axis ≠ axHold → ans (.axSetpoint i)
        { z with mbx := { s.mbx with sp := vset s.mbx.sp f.axis (some (f.b 1, f.w 4, f.w 8)) } } 0 0xFF [])) ∧
    (∀ g, felAccepted s i 0x0203 false → acts (.axDraw i g) [.gearNumWrite g (f.w 4)] 0 0xFF none_) ∧
    (felAccepted s i 0x0204 false →
      let k := f.b 0
      let used := s.pwm.chk.isSome = true ∨ ∃ g, patNamed s g k = true
      let at_ (j : Nat) : Word := BitVec.ofNat 32 (0x40060000 + j)
      let w0 : Word := BitVec.ofNat 32 (f.h 12 + 2 ^ 16 * f.b 1 + 2 ^ 24 * (f.b 2 % 4) + 2 ^ 28 * (f.b 2 / 16 % 2))
      (used → ans (.axPattern i) z 4 0xFF []) ∧
      (¬ used → f.h 12 + f.b 1 ≤ 32512 → ∃ u,
        runs ([.registerWrite (at_ (16 * k)) w0 4 false, .registerWrite (at_ (16 * k + 4)) (f.w 8) 4 false, .registerWrite (at_ (16 * k + 8)) (f.w 4) 4 false] ++
          (List.range (f.b 1)).map (fun j => .registerWrite (at_ (0x400 + 4 * (f.h 12 + j))) (f.w (16 + 4 * j)) 4 false) ++
          [.registerWrite (at_ (16 * k)) (w0 ||| 0x80000000#32) 4 false]) s u ∧ waits (.axPattern i) u 0)) ∧
    (∀ r, felWaits s i 0x0204 r →
      (s.pwm.chk.isSome = true → exec (.axPattern i) s = .next z) ∧
      (s.pwm.chk = none → s.flag Fld.PWM_PAT_CHK_OK = true → ends (.axPattern i) r 0 []) ∧
      (s.pwm.chk = none → s.flag Fld.PWM_PAT_CHK_OK = false → ends (.axPattern i) r 3 [0#8, 0#8, b (s.f Fld.PWM_PAT_CHK_RULE), 0#8])) ∧
    -- auxiliaries and DC link
    (felAccepted s i 0x0300 false →
      let n := f.chan
      let direct : Instr := if f.b 1 = 1 then .auxStart n else if f.b 1 = 2 then .auxStop n else .auxClear n
      let bad := if f.b 1 = 1 then auxStartBad n s else if f.b 1 = 2 then auxStopBad n s else auxClearBad n s
      (bad = false → acts (.auxCmd i) [direct] 0 0xFF fun u => word1 (u.auxSt n)) ∧ (bad = true → acts (.auxCmd i) [direct] 5 (s.auxSt n) none_)) ∧
    (felAccepted s i 0x0301 false →
      let g := auxGroup f.chan
      let duty := f.h 2 * 16 * s.f (Fld.PWM_G_PER_PER g)
      ∃ v u, v * 65536 < duty + 65536 ∧ duty < (v + 1) * 65536 ∧
        runs [.shadowWrite g (.cmp 0) (BitVec.ofNat 32 v), .loadallArm g none] { s with free := s.free + 1 } u ∧ ans (.auxDuty i) u 0 0xFF []) ∧
    (felAccepted s i 0x0400 false →
      (f.b 0 = 1 → s.pch = 0 ∧ (s.dsg = 0 ∨ s.dsg = 4) → acts (.dcPrecharge i) [.prechargeClose 0x5AC3#16] 0 0xFF fun u => word1 u.pch) ∧
      (f.b 0 = 1 → ¬ (s.pch = 0 ∧ (s.dsg = 0 ∨ s.dsg = 4)) → acts (.dcPrecharge i) [.prechargeClose 0x5AC3#16] 5 s.pch none_) ∧
      (f.b 0 = 2 → acts (.dcPrecharge i) [.prechargeOpen 0x5AC3#16] 0 0xFF fun u => word1 u.pch)) ∧
    (felAccepted s i 0x0401 false → ∀ c : Fin 2, c.val = f.b 0 →
      let g : Fin 16 := if c = 0 then 4 else 5
      let stop : List Instr := if s.gRun g = true then [.groupStop (once g)] else []
      let now (u : State) (m : Nat) (w : Word) : State := { u with mbx := { u.mbx with conv := vset u.mbx.conv c (m, w) } }
      (f.b 1 = 0 → ∃ u, after stop u ∧ ans (.dcConv i) (now u 0 0#32) 0 0xFF (word1 0)) ∧
      (f.b 1 ≠ 0 → s.pch ≠ pchClosed → ans (.dcConv i) z 5 s.pch []) ∧
      (f.b 1 ≠ 0 → s.pch = pchClosed → s.gRun g = true → (s.mbx.conv[c]).1 = f.b 1 →
        ans (.dcConv i) (now z (f.b 1) (f.w 4)) 0 0xFF (word1 1)) ∧
      (f.b 1 ≠ 0 → s.pch = pchClosed → s.gRun g = false ∨ (s.mbx.conv[c]).1 ≠ f.b 1 → ∃ m u, runs stop s m ∧
        runs ((List.finRange 4).map (fun k => .registerWrite (BitVec.ofNat 32 (Reg.PWM_G_SNS g k).addr)
            (wPut (m.rd (.PWM_G_SNS g k)) 16 1 (bit (f.b 1 = 1))) 4 false) ++ [.loadallArm g none, .groupStart (once g)]) m u ∧
        ans (.dcConv i) (now u (f.b 1) (f.w 4)) 0 0xFF (word1 (bit (u.gRun g))))) ∧
    (felAccepted s i 0x0402 false →
      (s.dsgRun = false → acts (.dcDischarge i) [.dischargeRequest 0xA55A#16] 0 0xFF fun u => word1 u.dsg) ∧
      (s.dsgRun = true → s.dcl.dsgT0 / 4 = s.perCycle → acts (.dcDischarge i) [.dischargeRequest 0xA55A#16] 0 0xFF fun u => word1 u.dsg) ∧
      (s.dsgRun = true → s.dcl.dsgT0 / 4 ≠ s.perCycle → acts (.dcDischarge i) [.dischargeRequest 0xA55A#16] 5 s.dsg none_)) ∧
    -- recorder and line bus
    (felAccepted s i 0x0600 false → ∃ u, runs [.flush] s u ∧
      waits (.recFlush i) u (if s.hlm.phase = .copyFlush ∨ s.hlm.phase = .writing then s.hlm.seq + 2#32 else s.hlm.seq + 1#32).toNat) ∧
    (∀ r, felWaits s i 0x0600 r →
      let reached := 0 ≤ (s.hlm.seq - BitVec.ofNat 32 r.arg).toInt
      (reached → ends (.recFlush i) r 0 (words [s.hlm.seq])) ∧
      (¬ reached → r.at_ + 1200000 ≤ s.atWrite.time → ends (.recFlush i) r 9 []) ∧
      (¬ reached → s.atWrite.time < r.at_ + 1200000 → exec (.recFlush i) s = .next z)) ∧
    (felAccepted s i 0x0601 false → (s.flag Fld.HLM_STATUS_BUSY = true → ans (.recSnap i) z 4 0xFF []) ∧
      (s.flag Fld.HLM_STATUS_BUSY = false → ∃ u, runs [.snap] s u ∧ waits (.recSnap i) u 0)) ∧
    (∀ r, felWaits s i 0x0601 r → (s.hlm.phase = .copySnap → exec (.recSnap i) s = .next z) ∧ (s.hlm.phase ≠ .copySnap → ends (.recSnap i) r 0 [])) ∧
    (felAccepted s i 0x0603 false → ∃ u,
      after ((if (f.b 0).testBit 0 then [.clearHistograms 0x6B1D#16] else []) ++ (if (f.b 0).testBit 1 then [.clearExtremes 0x6B1D#16] else []) ++
        (if (f.b 0).testBit 2 then [.clearCounters 0x6B1D#16] else []) ++ (if (f.b 0).testBit 3 then [.clearTally 0x6B1D#16] else [])) u ∧
      ans (.recClear i) { u with time := z.time } 0 0xFF []) ∧
    (felAccepted s i 0x0701 false → ∀ (c : Fin 4) (half : Fin 2), c.val = f.b 0 → half.val = f.b 1 / 32 →
      let a := 0x50000000 + 0x10000 * c.val + 0x2400 + 0x50 * f.b 1
      let put (x : Nat) (v : Word) (w : Nat) : Instr := .registerWrite (BitVec.ofNat 32 x) v w false
      acts (.lbSend i) ([put a (f.w 4) 4, put (a + 4) (f.w 8) 4, put (a + 8) 0#32 4, put (a + 12) 0#32 4] ++
        (List.range (lbSendBytes f)).map (fun k => put (a + 16 + k) (BitVec.ofNat 32 (f.b (12 + k))) 1) ++
        [.transmitRequest c half (1#32 <<< (f.b 1 % 32))]) 0 0xFF none_) ∧
    -- firmware
    (let base (x : Fin 2) : Nat := 0x20000000 + 0x300000 * x.val
     let session (u : State) (x : Option FwSess) : Prop := u.mbx = { s.mbx with fw := x } ∧ { u with mem := s.mem, mbx := s.mbx } = z
     s.hlm.phase ≠ .writing →
     (felAccepted s i 0x0801 false → (s.mbx.fw ≠ none → ans (.fwBegin i) z 4 0xFF []) ∧
       (s.mbx.fw = none → ∃ u, session u (some { slot := f.slot, size := (f.w 4).toNat }) ∧ u.memW (base f.slot) = 0#32 ∧
         (∀ a, a < base f.slot ∨ base f.slot + 4 ≤ a → memGet u.mem a = memGet s.mem a) ∧ ans (.fwBegin i) u 0 0xFF [])) ∧
     (felAccepted s i 0x0802 false → (s.mbx.fw = none → ans (.fwData i) z 5 0xFF []) ∧
       ∀ x, s.mbx.fw = some x → ∃ u,
         let off := (f.w 0).toNat
         let k := f.len - 4
         let a0 := base x.slot + off
         session u (some { x with next := off + k, magic := if off = 0 then f.w 4 else x.magic }) ∧
         (∀ a, memGet u.mem a = if a0 ≤ a ∧ a < a0 + k then (if off = 0 ∧ a < a0 + 4 then 0#8 else f.pay.getD (4 + (a - a0)) 0#8) else memGet s.mem a) ∧
         ans (.fwData i) u 0 0xFF []) ∧
     (∀ sig, felAccepted s i 0x0803 sig → (s.mbx.fw = none → ans (.fwEnd i sig) z 5 0xFF []) ∧
       ∀ x, s.mbx.fw = some x →
         let full := s.setMemW (base x.slot) x.magic
         let sigAt := base x.slot + (full.memW (base x.slot + 8)).toNat
         (imgOk full x.slot sig = true →
           (s.dev ≠ devBoot → ∃ u, session u none ∧ u.memW (base x.slot) = x.magic ∧
             (∀ a, a < base x.slot ∨ base x.slot + 4 ≤ a →
               memGet u.mem a = if sigAt ≤ a ∧ a < sigAt + 64 then f.pay.getD (a - sigAt) 0#8 else memGet s.mem a) ∧
             ans (.fwEnd i sig) u 0 0xFF (word1 1)) ∧
           (s.dev = devBoot → gives (.fwEnd i sig) s fun t => t.boot.image = true ∧ t.mbx.fw = none ∧ t.f Fld.SYS_BOOT_SLOT = x.slot.val ∧
             t.f Fld.SYS_BOOT_SRC = 2 ∧ t.memW 0x20600000 = BitVec.ofNat 32 x.slot.val ∧ t.memW 0x20600004 = ~~~BitVec.ofNat 32 x.slot.val ∧
             t.memW (base x.slot) = x.magic ∧ t.dev = devBoot ∧ isDone (t.rd .MBX_SLOTS) i = true ∧ s.keeps t [.MBX_SLOTS, .SYS_BOOT, .SYS_BOOT_VER])) ∧
         (imgOk full x.slot sig = false →
           (s.dev ≠ devBoot → ans (.fwEnd i sig) { z with mbx := { s.mbx with fw := none } } 8 0xFF []) ∧
           (s.dev = devBoot → s.dsgRun = false → gives (.fwEnd i sig) s fun t => t.mbx.fw = none ∧ t.flag Fld.SYS_STATUS_FAULT_NEW = true ∧
             t.dev = devBoot ∧ isDone (t.rd .MBX_SLOTS) i = true ∧ t.memW (base x.slot) = s.memW (base x.slot) ∧
             memGet t.mem (0x40010806 + 0x100 * i.val) = 8#8))) ∧
     (∀ sig, felAccepted s i 0x0804 sig → ∃ u, { u with mem := s.mem } = z ∧ u.memW 0x20600000 = BitVec.ofNat 32 f.slot.val ∧
       u.memW 0x20600004 = ~~~BitVec.ofNat 32 f.slot.val ∧ (∀ a, a < 0x20600000 ∨ 0x20600008 ≤ a → memGet u.mem a = memGet s.mem a) ∧
       ans (.fwSelect i sig) u 0 0xFF []))

/-- What a reset leaves (R478), from a state whose fuses were not under operation and whose Hallmark was not writing a slot. -/
def resetLeft (s t : State) : Prop :=
  (∀ r, r ≠ .SYS_RST_CAUSE → r ≠ .QNC_RAW 2 → t.rd r = r.reset) ∧ t.rd (.QNC_RAW 2) = s.qnc.tripLow.setWidth 32 ∧ t.rd .SYS_RST_CAUSE = s.rd .SYS_RST_CAUSE ∧
  (s.fuse.op = none → t.fuse = s.fuse) ∧
  (∀ a, a < 0x20000000 ∨ 0x20800000 ≤ a → memGet t.mem a = 0#8) ∧
  (s.fuse.op = none → s.hlm.phase = .idle → ∀ a, 0x20000000 ≤ a → a < 0x20800000 → memGet t.mem a = memGet s.mem a) ∧
  t.chk = [] ∧ t.time = 0 ∧ t.running = false ∧ t.pending = s.pending ∧ (∀ p, padLevel t p = none) ∧ faultN t = false ∧ safeOutN t = false ∧ hirqN t = true

/-- POWER_ON_RESET and a low RST_N hold reset from any state; SOFTWARE_RESET with its key in CONFIG, STANDBY, SAFE, FAULT and DEBUG, else it
sets REQ_REFUSED. In reset every register but SYS_RST_CAUSE and the RAW bits of the trip pins has its Reset value, memory outside the
ferroelectric range reads 0 and inside it is kept, fuses are kept, device time is 0 and stands, and every gate pad is Hi-Z; the TAP is kept
except at power-on. A software reset ends a flush that writes, so its slot is valid. The end of RST_N leaves the release to RESET_RELEASE,
which captures the causes and the straps, sets the straps' defaults and the fuse registers and makes source 115 active. PLL_LOCK starts the
clocks, ends the lane self-test 427 ns later with its failures, starts pad check and takes the boot source. The pull phase ends 20 us after
its start, the drive phase 1 us later: with no failing pad PADCHK_DONE and PAD.DRIVE are set and source 115 ends; else the failing pads
show, the pads stay Hi-Z and the device is in FAULT. The choices are in log entry 35. (R370, R412, R477, R478, R479, R480, R482, R483, R484,
R493, R496, log entry 35). -/
def Obligations.ResetStrapsAndPadCheck : Prop :=
  ∀ s : State,
    (gives .powerOnReset s fun t => resetLeft s t ∧ t.boot.hold.getLsbD 0 = true ∧ t.tap = {} ∧ t.boot.rstLow = s.boot.rstLow) ∧
    (gives (.rstN true) s fun t => resetLeft s t ∧ t.boot.hold.getLsbD 1 = true ∧ t.tap = s.tap ∧ t.boot.rstLow = true ∧
      (s.boot.hold = 0#3 → t.boot.hold = 2#3 ∧ t.boot.wasFault = decide (s.dev = devFault))) ∧
    (gives (.rstN false) s fun t => t.boot.rstLow = false ∧ { t with boot := s.boot } = s ∧ { t.boot with rstLow := s.boot.rstLow } = s.boot) ∧
    (∀ key : BitVec 16,
      let allowed := key = 0x7E57#16 ∧ (s.dev = devConfig ∨ s.dev = devStandby ∨ s.dev = devSafe ∨ s.dev = devFault ∨ s.dev = devDebug)
      (allowed → s.hlm.phase = .idle → writes (.softwareReset key) s fun s t =>
        resetLeft s t ∧ t.boot.hold = 4#3 ∧ t.tap = s.tap ∧ t.boot.wasFault = decide (s.dev = devFault)) ∧
      (allowed → s.hlm.phase = .writing → s.hlm.waiting = 0#5 → s.memW hlmSnap = 0x484C0001#32 → s.fuse.op = none → writes (.softwareReset key) s fun s t =>
        t.boot.hold = 4#3 ∧ slotValid t (s.flag Fld.HLM_STATUS_NEXT_SLOT) = true) ∧
      (¬ allowed → writes (.softwareReset key) s fun s t => t.flag Fld.SYS_STATUS_REQ_REFUSED = true ∧ s.onlyRegs t [.SYS_STATUS])) ∧
    (∀ straps : BitVec 17,
      let st (lo n : Nat) : Nat := wGet (straps.setWidth 32) lo n
      (s.boot.hold = 0#3 ∨ s.boot.rstLow = true → exec (.resetRelease straps) s = .next s) ∧
      (s.boot.hold ≠ 0#3 → s.boot.rstLow = false → s.dsgRun = false → gives (.resetRelease straps) s fun t =>
        t.boot.hold = 0#3 ∧ t.f Fld.SYS_RST_CAUSE_POR = wGet (s.boot.hold.setWidth 32) 0 1 ∧ t.f Fld.SYS_RST_CAUSE_PIN = wGet (s.boot.hold.setWidth 32) 1 1 ∧
        t.f Fld.SYS_RST_CAUSE_SW = wGet (s.boot.hold.setWidth 32) 2 1 ∧ t.flag Fld.SYS_RST_CAUSE_WAS_FAULT = s.boot.wasFault ∧
        t.f Fld.SYS_STRAP_BOOT = st 0 2 ∧ t.f Fld.SYS_STRAP_HOSTQ = st 2 1 ∧ t.f Fld.SYS_STRAP_NODE = st 3 6 ∧ t.f Fld.SYS_STRAP_GPOL = st 9 4 ∧
        t.f Fld.SYS_STRAP_SAFE = st 13 1 ∧ t.f Fld.SYS_STRAP_DBG = st 14 1 ∧ t.f Fld.SYS_STRAP_LBT = st 15 2 ∧
        t.f Fld.PWM_POL_GPOL = st 9 4 ∧ (∀ c, t.f (Fld.LB_SYNC_CFG_NODE c) = st 3 6) ∧ t.f (Fld.LB_CTL_TERM 0) = st 15 1 ∧ t.f (Fld.LB_CTL_TERM 1) = st 16 1 ∧
        t.f Fld.QNC_SAFESEL_SEL + t.f Fld.QNC_SAFESEL_SEL_C = 255 ∧ (∀ n, t.f (Fld.ANV_AX_STAT_SEL n) = st 13 1) ∧ t.flag Fld.SYS_FUSE_CUST_EN = s.fuse.cust ∧
        t.flag Fld.SYS_FUSE_PORTIEL_DIS = s.fuse.portiel ∧ t.flag Fld.SYS_FUSE_FLOCK = s.fuse.flock ∧ (∀ i : Fin 8, t.rd (.SYS_FUSE_HASH i) = s.fuse.hash[i]) ∧
        t.raw 115 = true ∧ t.fuse = s.fuse ∧ t.time = s.time ∧ t.pending = s.pending)) ∧
    (∀ failed : BitVec 25,
      (s.boot.hold ≠ 0#3 ∨ s.boot.pll = true → exec (.pllLock failed) s = .next s) ∧
      (s.boot.hold = 0#3 → s.boot.pll = false → s.dsgRun = false → gives (.pllLock failed) s fun t =>
        t.running = true ∧ t.boot.pll = true ∧ t.boot.pads = .pull (s.time + 256) ∧ t.time = s.time + 256 ∧
        s.faultFrame t [0x4004, 0x4005, 0x4008, 0x400C, 0x400E] ∧
        (failed ≠ 0#25 → t.f Fld.ASY_BIST_FAILED = failed.toNat ∧ t.flag Fld.ASY_STATUS_BIST_FAIL = true ∧ t.flag Fld.SYS_STATUS_FAULT_NEW = true) ∧
        (failed.getLsbD 24 = true → t.dev = devFault) ∧
        (s.f Fld.SYS_STRAP_BOOT = 1 → t.flag Fld.MBX_CTL_UP = true ∧ t.f Fld.MBX_SLOTS_GRANTED = 255) ∧
        (s.f Fld.SYS_STRAP_BOOT = 3 → t.flag Fld.SYS_STATUS_FAULT_NEW = true) ∧
        (failed = 0#25 → s.f Fld.SYS_STRAP_BOOT = 0 ∨ s.f Fld.SYS_STRAP_BOOT = 2 → t.regs = s.regs ∧ s.keepsMem t))) ∧
    (∀ fails : BitVec 140,
      (∀ c, s.boot.pads = .pull c → gives (.padCheckPullEnd fails) s fun t =>
        t.time = max s.time (c + 12000) ∧ t.boot = { s.boot with pads := .drive t.time, pull := fails } ∧ { t with time := s.time, boot := s.boot } = s) ∧
      ((∀ c, s.boot.pads ≠ .pull c) → exec (.padCheckPullEnd fails) s = .next s) ∧
      ((∀ c, s.boot.pads ≠ .drive c) → exec (.padCheckDone fails) s = .next s) ∧
      (∀ c, s.boot.pads = .drive c → s.dsgRun = false →
        let all := fails ||| s.boot.pull
        (all = 0#140 → gives (.padCheckDone fails) s fun t =>
          t.time = max s.time (c + 600) ∧ t.boot.pads = .passed ∧ t.f Fld.PWM_PAD_DRIVE = 0xFFFF ∧ t.flag Fld.SYS_BOOT_PADCHK_DONE = true ∧
          t.raw 115 = false ∧ t.latch 115 = false ∧ t.dev = s.dev ∧ s.keepsMem t) ∧
        (all ≠ 0#140 → gives (.padCheckDone fails) s fun t =>
          t.time = max s.time (c + 600) ∧ t.boot.pads = .failed ∧ (∀ k : Fin 5, t.rd (.SYS_PADFAIL k) = all.extractLsb' (32 * k.val) 32) ∧
          t.flag Fld.SYS_BOOT_PAD_PULL = true ∧ (s.boot.pull = 0#140 → t.flag Fld.SYS_BOOT_PAD_DRV = true) ∧
          (s.boot.pull ≠ 0#140 → t.f Fld.SYS_BOOT_PAD_DRV = s.f Fld.SYS_BOOT_PAD_DRV) ∧ t.dev = devFault ∧ t.flag Fld.SYS_STATUS_FAULT_NEW = true ∧
          (∀ p, padLevel t p = none) ∧ s.faultFrame t [0x4004, 0x4005, 0x4008, 0x400C])))

/-- A slot is valid exactly as R487 and R488 say, its key's hash and signature told by the command. IMAGE_VERIFIED boots the slot that the
boot record names, or slot 0 with 0xA10A where the record is corrupt; else the other slot with 0xA101 and SRC 1; else it serves the host
port with 0xA103, or records 0xA404, sets SRC 3 and enters FAULT. A booted slot's agent section stands in both copies of Kenow's memory.
AGENT_START, with pad check and the Hallmark's restore passed and an image, starts Kenow at the entry point, with a VBASE that is a multiple
of 256, and enters CONFIG. CONFIGURATION_LOCK with its key in CONFIG sets CFG_LOCKED and stores the Quench's CRC, else it sets REQ_REFUSED.
A fuse operation with its key starts in CONFIG, unlocked, with FLOCK 0 and no operation running, the hash with CUST_EN 0 and PORTIEL_DIS
with CUST_EN 1, else it sets REQ_REFUSED; without the key nothing happens. At its end BUSY clears and the fuses are as asked, blown bits
staying blown; a mismatch sets PROG_ERR and records 0xA108. (R23, R482, R485, R486, R487, R488, R489, R490, R492, R494, R496, log entry 35). -/
def Obligations.BootConfigurationLockAndFuses : Prop :=
  (∀ (s : State) (k : Fin 2) (sig : Bool),
    let w (o : Nat) : Nat := (s.memW (0x20000000 + 0x300000 * k.val + o)).toNat
    imgOk s k sig = true ↔ w 0 = 0x4E4D4449 ∧ w 4 = 1 ∧ w 8 % 4 = 0 ∧ w 8 ≤ 0x2FFFC0 ∧ w 0x10 + w 0x14 ≤ w 8 ∧ w 0x14 ≤ 524288 ∧
      w 0x1C + w 0x20 ≤ w 8 ∧ w 0x20 ≤ 65536 ∧ w 0x24 + w 0x28 ≤ w 8 ∧ w 0x30 ≤ Config.siliconRev.toNat ∧
      ((w 0x2C = 0 ∧ s.fuse.portiel = false) ∨ (w 0x2C = 1 ∧ s.fuse.cust = true)) ∧ sig = true) ∧
  ∀ s : State, s.dsgRun = false →
    (∀ sig : BitVec 2, s.dev = devBoot → s.boot.pll = true → s.boot.image = false → s.f Fld.SYS_STRAP_BOOT ≠ 1 → s.flag Fld.MBX_CTL_UP = false →
      let sound := s.memW 0x20600004 = ~~~ s.memW 0x20600000
      let ok (k : Fin 2) := imgOk s k (sig.getLsbD k.val) = true
      let blocks := s.faultFrame
      ∀ a : Fin 2, (a = 1 ↔ sound ∧ (s.memW 0x20600000).getLsbD 0 = true) →
        let booted (t : State) (k : Fin 2) (src : Nat) : Prop :=
          let base := 0x20000000 + 0x300000 * k.val
          let from_ := base + (s.memW (base + 0x10)).toNat
          let n := (s.memW (base + 0x14)).toNat
          t.boot.image = true ∧ t.f Fld.SYS_BOOT_SLOT = k.val ∧ t.f Fld.SYS_BOOT_SRC = src ∧ t.f Fld.SYS_BOOT_KEY_ID = (s.memW (base + 0x2C)).toNat ∧
          t.rd .SYS_BOOT_VER = s.memW (base + 0xC) ∧ t.dev = devBoot ∧
          (∀ x, x < n → memGet t.mem (0x08000000 + x) = memGet s.mem (from_ + x) ∧ memGet t.chk (0x08000000 + x) = memGet s.mem (from_ + x)) ∧
          ∀ x, x < 0x08000000 ∨ 0x08000000 + n ≤ x → (x < hlmLive ∨ hlmSnap + hlmLen ≤ x → memGet t.mem x = memGet s.mem x) ∧ memGet t.chk x = memGet s.chk x
        (ok a → gives (.imageVerified sig) s fun t => booted t a 0 ∧
          (sound → s.keeps t [.SYS_BOOT, .SYS_BOOT_VER]) ∧ (¬ sound → t.flag Fld.SYS_STATUS_FAULT_NEW = true)) ∧
        (¬ ok a → ok (1 - a) → gives (.imageVerified sig) s fun t => booted t (1 - a) 1 ∧ t.flag Fld.SYS_STATUS_FAULT_NEW = true) ∧
        (¬ ok a → ¬ ok (1 - a) → s.f Fld.SYS_STRAP_BOOT = 2 → gives (.imageVerified sig) s fun t =>
          t.flag Fld.MBX_CTL_UP = true ∧ t.f Fld.MBX_SLOTS_GRANTED = 255 ∧ t.dev = devBoot ∧ t.flag Fld.SYS_STATUS_FAULT_NEW = true ∧ blocks t []) ∧
        (¬ ok a → ¬ ok (1 - a) → s.f Fld.SYS_STRAP_BOOT ≠ 2 → gives (.imageVerified sig) s fun t =>
          t.f Fld.SYS_BOOT_SRC = 3 ∧ t.dev = devFault ∧ t.flag Fld.SYS_STATUS_FAULT_NEW = true ∧ blocks t [0x4004, 0x4005, 0x4008, 0x400C])) ∧
    (let ready := s.dev = devBoot ∧ s.boot.pads = .passed ∧ s.flag Fld.HLM_STATUS_RESTORED = true ∧ s.boot.image = true
     (ready → ∀ k : Fin 2, k.val = s.f Fld.SYS_BOOT_SLOT → gives .agentStart s fun t =>
       let entry := s.memW (0x20000000 + 0x300000 * k.val + 0x18)
       t.dev = devConfig ∧ t.flag Fld.SYS_STATUS_STATE_CHG = true ∧ t.ken.lead = { s.ken.lead with pc := entry } ∧ t.ken.chk = { s.ken.chk with pc := entry } ∧ wGet t.ken.vbase 0 8 = 0 ∧
       faultN t = decide (s.boot.hold = 0#3) ∧ (s.mbx.evq.length < 64 → s.keeps t [.SYS_STATE, .SYS_STATUS] ∧ s.keepsMem t)) ∧
     (¬ ready → exec .agentStart s = .next s)) ∧
    (∀ key : BitVec 16,
      let ok := key = 0x4C4B#16 ∧ s.dev = devConfig ∧ s.locked = false
      (ok → writes (.configurationLock key) s fun s t =>
        t.locked = true ∧ { t with regs := s.regs, free := s.free } = s ∧ s.keeps t [.SYS_STATE, .QNC_CRC] ∧ t.dev = s.dev) ∧
      (¬ ok → writes (.configurationLock key) s fun s t => t.flag Fld.SYS_STATUS_REQ_REFUSED = true ∧ s.onlyRegs t [.SYS_STATUS])) ∧
    (∀ (key : BitVec 16) (c : Instr) (op : Nat), (c = .blowCustomerHash key ∧ op = 1) ∨ (c = .blowPortielDis key ∧ op = 2) ∨ (c = .blowFlock key ∧ op = 3) →
      let allowed := s.dev = devConfig ∧ s.locked = false ∧ s.fuse.flock = false ∧ s.fuse.op = none ∧ (op = 1 → s.fuse.cust = false) ∧ (op = 2 → s.fuse.cust = true)
      (key ≠ 0xF05E#16 → exec c s = .next (s.turned s.atWrite)) ∧
      (key = 0xF05E#16 → allowed → writes c s fun s t =>
        t.flag Fld.SYS_FUSE_BUSY = true ∧ t.fuse.op = some (op, s.time) ∧ (∀ i : Fin 8, t.fuse.want[i] = s.rd (.SYS_FUSE_HASH i)) ∧
        t.fuse.hash = s.fuse.hash ∧ { t with regs := s.regs, fuse := s.fuse } = s ∧ s.keeps t [.SYS_FUSE]) ∧
      (key = 0xF05E#16 → ¬ allowed → writes c s fun s t => t.flag Fld.SYS_STATUS_REQ_REFUSED = true ∧ s.onlyRegs t [.SYS_STATUS])) ∧
    (∀ ok : Bool, (s.fuse.op = none → exec (.fuseOperationDone ok) s = .next s) ∧
      ∀ op t0, s.fuse.op = some (op, t0) → 1 ≤ op → op ≤ 3 → gives (.fuseOperationDone ok) s fun t =>
        let good := ok = true ∧ (op = 1 → ∀ i : Fin 8, s.fuse.hash[i] ||| s.fuse.want[i] = s.fuse.want[i])
        t.fuse.op = none ∧ t.flag Fld.SYS_FUSE_BUSY = false ∧ t.flag Fld.SYS_FUSE_CUST_EN = t.fuse.cust ∧ t.flag Fld.SYS_FUSE_PORTIEL_DIS = t.fuse.portiel ∧
        t.flag Fld.SYS_FUSE_FLOCK = t.fuse.flock ∧
        (∀ i : Fin 8, s.fuse.hash[i] &&& ~~~ t.fuse.hash[i] = 0#32 ∧ t.fuse.hash[i] &&& ~~~(s.fuse.hash[i] ||| s.fuse.want[i]) = 0#32) ∧
        (ok = true → (op = 1 → t.fuse.cust = true ∧ ∀ i : Fin 8, t.fuse.hash[i] = s.fuse.hash[i] ||| s.fuse.want[i]) ∧
          (op = 2 → t.fuse = { s.fuse with op := none, portiel := true }) ∧ (op = 3 → t.fuse = { s.fuse with op := none, flock := true })) ∧
        (t.fuse.cust = true → ∀ i : Fin 8, t.rd (.SYS_FUSE_HASH i) = t.fuse.hash[i]) ∧ t.dev = s.dev ∧
        (good → s.keeps t (.SYS_FUSE :: (List.finRange 8).map .SYS_FUSE_HASH) ∧ s.keepsMem t) ∧
        (¬ good → t.flag Fld.SYS_FUSE_PROG_ERR = true ∧ t.flag Fld.SYS_STATUS_FAULT_NEW = true ∧ s.faultFrame t []))
end

