-- ==== Sys2Proof/Laws/Tab.lean ====
section
/-! SUPPORT. Laws of tables and of the fields of a word. -/

namespace Sys2Proof.Machine

open Sys2Proof

section Tables

variable {κ α : Type} [DecidableEq κ]

@[simp] theorem tabGet_nil (d : α) (k : κ) : tabGet d k [] = d := rfl

theorem tabGet_erase_same (d : α) (k : κ) (l : List (κ × α)) : tabGet d k (tabErase k l) = d := by
  induction l with
  | nil => rfl
  | cons e l ih => obtain ⟨k', v⟩ := e; by_cases h : k' = k <;> simp [tabErase, tabGet, h, ih]

theorem tabGet_erase_ne (d : α) (k j : κ) (h : j ≠ k) (l : List (κ × α)) : tabGet d j (tabErase k l) = tabGet d j l := by
  induction l with
  | nil => rfl
  | cons e l ih =>
    obtain ⟨k', v⟩ := e
    by_cases h1 : k' = k
    · subst h1; simp [tabErase, tabGet, ih, Ne.symm h]
    · by_cases h2 : k' = j
      · subst h2; simp [tabErase, tabGet, h1]
      · simp [tabErase, tabGet, h1, h2, ih]

theorem tabGet_insert_same (ord : κ → Nat) (d : α) (k : κ) (v : α) (l : List (κ × α)) (h : ∀ e ∈ l, e.1 ≠ k) :
    tabGet d k (tabInsert ord k v l) = v := by
  induction l with
  | nil => simp [tabInsert, tabGet]
  | cons e l ih =>
    obtain ⟨k', w⟩ := e
    have h1 : k' ≠ k := h (k', w) (by simp)
    by_cases h2 : ord k < ord k'
    · simp [tabInsert, tabGet, h2]
    · simp [tabInsert, tabGet, h2, h1, ih fun e he => h e (by simp [he])]

theorem tabGet_insert_ne (ord : κ → Nat) (d : α) (k j : κ) (v : α) (h : j ≠ k) (l : List (κ × α)) :
    tabGet d j (tabInsert ord k v l) = tabGet d j l := by
  induction l with
  | nil => simp [tabInsert, tabGet, Ne.symm h]
  | cons e l ih =>
    obtain ⟨k', w⟩ := e
    by_cases h2 : ord k < ord k'
    · simp [tabInsert, tabGet, h2, Ne.symm h]
    · simp [tabInsert, tabGet, h2, ih]

theorem tabErase_ne (k : κ) (l : List (κ × α)) : ∀ e ∈ tabErase k l, e.1 ≠ k := by
  induction l with
  | nil => simp [tabErase]
  | cons e l ih =>
    obtain ⟨k', v⟩ := e
    by_cases h : k' = k
    · simpa [tabErase, h] using ih
    · intro e he
      simp only [tabErase, h, if_false, List.mem_cons] at he
      rcases he with rfl | he
      · exact h
      · exact ih e he

/-- A key set reads as what was set. -/
theorem tabGet_set_same [DecidableEq α] (ord : κ → Nat) (d : α) (k : κ) (v : α) (l : List (κ × α)) :
    tabGet d k (tabSet ord d k v l) = v := by
  by_cases h : v = d
  · simp [tabSet, h, tabGet_erase_same]
  · simp [tabSet, h, tabGet_insert_same ord d k v _ (tabErase_ne k l)]

/-- A key set leaves the others. -/
theorem tabGet_set_ne [DecidableEq α] (ord : κ → Nat) (d d' : α) (k j : κ) (v : α) (h : j ≠ k) (l : List (κ × α)) :
    tabGet d' j (tabSet ord d k v l) = tabGet d' j l := by
  by_cases h1 : v = d
  · simp [tabSet, h1, tabGet_erase_ne d' k j h]
  · simp [tabSet, h1, tabGet_insert_ne ord d' k j v h, tabGet_erase_ne d' k j h]

/-! ## The canonical form -/

variable [DecidableEq α]

omit [DecidableEq κ] in
/-- The canonical form, said of a head and a tail: every later number is greater. -/
theorem tabWf_cons (ord : κ → Nat) (d : κ → α) (e : κ × α) (l : List (κ × α)) :
    tabWf ord d (e :: l) = true ↔ e.2 ≠ d e.1 ∧ (∀ x ∈ l, ord e.1 < ord x.1) ∧ tabWf ord d l = true := by
  induction l generalizing e with
  | nil => obtain ⟨k, v⟩ := e; simp [tabWf]
  | cons e' l ih =>
    obtain ⟨k, v⟩ := e
    obtain ⟨k', v'⟩ := e'
    have h := ih (k', v')
    simp only [tabWf, Bool.and_eq_true, decide_eq_true_eq]
    constructor
    · rintro ⟨⟨h1, h2⟩, h3⟩
      refine ⟨h1, ?_, h3⟩
      intro x hx
      rcases List.mem_cons.mp hx with rfl | hx
      · exact h2
      · exact Nat.lt_trans h2 ((h.mp h3).2.1 x hx)
    · rintro ⟨h1, h2, h3⟩
      exact ⟨⟨h1, h2 (k', v') (by simp)⟩, h3⟩

omit [DecidableEq α] in
theorem tabErase_mem (k : κ) (l : List (κ × α)) : ∀ e ∈ tabErase k l, e ∈ l := by
  induction l with
  | nil => simp [tabErase]
  | cons e l ih =>
    obtain ⟨k', v⟩ := e
    intro x hx
    by_cases h : k' = k
    · simp only [tabErase, h, if_true] at hx; exact List.mem_cons_of_mem _ (ih x hx)
    · simp only [tabErase, h, if_false, List.mem_cons] at hx
      rcases hx with rfl | hx
      · simp
      · exact List.mem_cons_of_mem _ (ih x hx)

theorem tabErase_wf (ord : κ → Nat) (d : κ → α) (k : κ) (l : List (κ × α)) (h : tabWf ord d l = true) :
    tabWf ord d (tabErase k l) = true := by
  induction l with
  | nil => rfl
  | cons e l ih =>
    obtain ⟨k', v⟩ := e
    obtain ⟨h1, h2, h3⟩ := (tabWf_cons ord d _ _).mp h
    by_cases hk : k' = k
    · simpa [tabErase, hk] using ih h3
    · simp only [tabErase, hk, if_false]
      exact (tabWf_cons ord d _ _).mpr ⟨h1, fun x hx => h2 x (tabErase_mem k l x hx), ih h3⟩

omit [DecidableEq κ] [DecidableEq α] in
theorem tabInsert_mem (ord : κ → Nat) (k : κ) (v : α) (l : List (κ × α)) : ∀ e ∈ tabInsert ord k v l, e = (k, v) ∨ e ∈ l := by
  induction l with
  | nil => simp [tabInsert]
  | cons e l ih =>
    obtain ⟨k', w⟩ := e
    intro x hx
    by_cases h : ord k < ord k'
    · simp only [tabInsert, h, if_true, List.mem_cons] at hx ⊢; tauto
    · simp only [tabInsert, h, if_false, List.mem_cons] at hx ⊢
      rcases hx with rfl | hx
      · simp
      · rcases ih x hx with h | h
        · exact .inl h
        · exact .inr (.inr h)

omit [DecidableEq κ] in
theorem tabInsert_wf (ord : κ → Nat) (d : κ → α) (k : κ) (v : α) (l : List (κ × α)) (h : tabWf ord d l = true) (hv : v ≠ d k)
    (hl : ∀ e ∈ l, ord e.1 ≠ ord k) : tabWf ord d (tabInsert ord k v l) = true := by
  induction l with
  | nil => simpa [tabInsert, tabWf] using hv
  | cons e l ih =>
    obtain ⟨k', w⟩ := e
    obtain ⟨h1, h2, h3⟩ := (tabWf_cons ord d _ _).mp h
    by_cases hk : ord k < ord k'
    · simp only [tabInsert, hk, if_true]
      refine (tabWf_cons ord d _ _).mpr ⟨hv, ?_, h⟩
      intro x hx
      rcases List.mem_cons.mp hx with rfl | hx
      · exact hk
      · exact Nat.lt_trans hk (h2 x hx)
    · simp only [tabInsert, hk, if_false]
      refine (tabWf_cons ord d _ _).mpr ⟨h1, ?_, ih h3 fun e he => hl e (by simp [he])⟩
      intro x hx
      rcases tabInsert_mem ord k v l x hx with rfl | hx
      · have := hl (k', w) (by simp); dsimp only at this ⊢; omega
      · exact h2 x hx

/-- Setting a key keeps the canonical form, if no other key has its number. -/
theorem tabSet_wf (ord : κ → Nat) (d : κ → α) (k : κ) (v : α) (l : List (κ × α)) (h : tabWf ord d l = true)
    (hk : ∀ j, ord j = ord k → j = k) : tabWf ord d (tabSet ord (d k) k v l) = true := by
  by_cases hv : v = d k
  · simpa [tabSet, hv] using tabErase_wf ord d k l h
  · simp only [tabSet, hv, if_false]
    exact tabInsert_wf ord d k v _ (tabErase_wf ord d k l h) hv fun e he ho => tabErase_ne k l e he (hk _ ho)

omit [DecidableEq κ] in
/-- A part of a canonical table is canonical. -/
theorem tabFilter_wf (ord : κ → Nat) (d : κ → α) (p : κ × α → Bool) (l : List (κ × α)) (h : tabWf ord d l = true) :
    tabWf ord d (l.filter p) = true := by
  induction l with
  | nil => rfl
  | cons e l ih =>
    obtain ⟨h1, h2, h3⟩ := (tabWf_cons ord d _ _).mp h
    by_cases hp : p e = true
    · rw [List.filter_cons_of_pos hp]
      exact (tabWf_cons ord d _ _).mpr ⟨h1, fun x hx => h2 x (List.mem_filter.mp hx).1, ih h3⟩
    · rw [List.filter_cons_of_neg hp]; exact ih h3

end Tables

/-! ## Fields of a word -/

theorem getLsbD_wMask (lo width i : Nat) (h : i < 32) : (wMask lo width).getLsbD i = (decide (lo ≤ i) && decide (i < lo + width)) := by
  simp only [wMask, BitVec.getLsbD_ofNat, h, decide_true, Bool.true_and, Nat.testBit_shiftLeft, Nat.testBit_two_pow_sub_one, ge_iff_le]
  by_cases h1 : lo ≤ i
  · simp [h1]; omega
  · simp [h1]

/-- A bit of a word with a field put in. -/
theorem getLsbD_wPut (w : Word) (lo width v i : Nat) (h : i < 32) :
    (wPut w lo width v).getLsbD i = if lo ≤ i ∧ i < lo + width then v.testBit (i - lo) else w.getLsbD i := by
  simp only [wPut, BitVec.getLsbD_or, BitVec.getLsbD_and, BitVec.getLsbD_not, h, decide_true, Bool.true_and, getLsbD_wMask lo width i h,
    BitVec.getLsbD_ofNat, Nat.testBit_shiftLeft, ge_iff_le]
  by_cases h1 : lo ≤ i <;> by_cases h2 : i < lo + width <;> simp [h1, h2]

theorem testBit_wGet (w : Word) (lo width i : Nat) : (wGet w lo width).testBit i = (decide (i < width) && w.getLsbD (lo + i)) := by
  simp [wGet, Nat.testBit_mod_two_pow, Nat.testBit_shiftRight, BitVec.getLsbD]

/-- A field put reads as its low bits. -/
theorem wGet_wPut_same (w : Word) (lo width v : Nat) (h : lo + width ≤ 32) : wGet (wPut w lo width v) lo width = v % 2 ^ width := by
  apply Nat.eq_of_testBit_eq
  intro i
  rw [testBit_wGet, Nat.testBit_mod_two_pow]
  by_cases hi : i < width
  · rw [getLsbD_wPut w lo width v _ (by omega), if_pos (by omega)]; simp [hi]
  · simp [hi]

/-- A field put leaves the fields beside it. -/
theorem wGet_wPut_ne (w : Word) (lo width v lo' width' : Nat) (h : lo' + width' ≤ 32) (hd : lo' + width' ≤ lo ∨ lo + width ≤ lo') :
    wGet (wPut w lo width v) lo' width' = wGet w lo' width' := by
  apply Nat.eq_of_testBit_eq
  intro i
  rw [testBit_wGet, testBit_wGet]
  by_cases hi : i < width'
  · rw [getLsbD_wPut w lo width v _ (by omega), if_neg (by omega)]
  · simp [hi]

theorem wGet_lt (w : Word) (lo width : Nat) : wGet w lo width < 2 ^ width := Nat.mod_lt _ (Nat.two_pow_pos width)

end Sys2Proof.Machine
end

