-- ==== Sys2Proof/Laws/State.lean ====
section
/-! SUPPORT. What the named updates of a state change and leave: one lemma per field and update, and the laws of registers, fields and memory
that the meanings are built from. -/

namespace Sys2Proof.Machine

open Sys2Proof

/-! ## wr -/

@[simp] theorem wr_pending (s : State) (r : Reg) (w : Word) : (s.wr r w).pending = s.pending := rfl
@[simp] theorem wr_mem (s : State) (r : Reg) (w : Word) : (s.wr r w).mem = s.mem := rfl
@[simp] theorem wr_chk (s : State) (r : Reg) (w : Word) : (s.wr r w).chk = s.chk := rfl
@[simp] theorem wr_time (s : State) (r : Reg) (w : Word) : (s.wr r w).time = s.time := rfl
@[simp] theorem wr_running (s : State) (r : Reg) (w : Word) : (s.wr r w).running = s.running := rfl
@[simp] theorem wr_rdata (s : State) (r : Reg) (w : Word) : (s.wr r w).rdata = s.rdata := rfl
@[simp] theorem wr_free (s : State) (r : Reg) (w : Word) : (s.wr r w).free = s.free := rfl
@[simp] theorem wr_sys (s : State) (r : Reg) (w : Word) : (s.wr r w).sys = s.sys := rfl
@[simp] theorem wr_dma (s : State) (r : Reg) (w : Word) : (s.wr r w).dma = s.dma := rfl
@[simp] theorem wr_man (s : State) (r : Reg) (w : Word) : (s.wr r w).man = s.man := rfl
@[simp] theorem wr_pwm (s : State) (r : Reg) (w : Word) : (s.wr r w).pwm = s.pwm := rfl
@[simp] theorem wr_qnc (s : State) (r : Reg) (w : Word) : (s.wr r w).qnc = s.qnc := rfl
@[simp] theorem wr_cmp (s : State) (r : Reg) (w : Word) : (s.wr r w).cmp = s.cmp := rfl
@[simp] theorem wr_hlm (s : State) (r : Reg) (w : Word) : (s.wr r w).hlm = s.hlm := rfl
@[simp] theorem wr_aux (s : State) (r : Reg) (w : Word) : (s.wr r w).aux = s.aux := rfl
@[simp] theorem wr_dcl (s : State) (r : Reg) (w : Word) : (s.wr r w).dcl = s.dcl := rfl
@[simp] theorem wr_anv (s : State) (r : Reg) (w : Word) : (s.wr r w).anv = s.anv := rfl
@[simp] theorem wr_fbk (s : State) (r : Reg) (w : Word) : (s.wr r w).fbk = s.fbk := rfl
@[simp] theorem wr_sdm (s : State) (r : Reg) (w : Word) : (s.wr r w).sdm = s.sdm := rfl
@[simp] theorem wr_loop (s : State) (r : Reg) (w : Word) : (s.wr r w).loop = s.loop := rfl
@[simp] theorem wr_pair (s : State) (r : Reg) (w : Word) : (s.wr r w).pair = s.pair := rfl
@[simp] theorem wr_ken (s : State) (r : Reg) (w : Word) : (s.wr r w).ken = s.ken := rfl
@[simp] theorem wr_asy (s : State) (r : Reg) (w : Word) : (s.wr r w).asy = s.asy := rfl
@[simp] theorem wr_tap (s : State) (r : Reg) (w : Word) : (s.wr r w).tap = s.tap := rfl
@[simp] theorem wr_mcv (s : State) (r : Reg) (w : Word) : (s.wr r w).mcv = s.mcv := rfl
@[simp] theorem wr_lb (s : State) (r : Reg) (w : Word) : (s.wr r w).lb = s.lb := rfl
@[simp] theorem wr_mbx (s : State) (r : Reg) (w : Word) : (s.wr r w).mbx = s.mbx := rfl
@[simp] theorem wr_boot (s : State) (r : Reg) (w : Word) : (s.wr r w).boot = s.boot := rfl
@[simp] theorem wr_fuse (s : State) (r : Reg) (w : Word) : (s.wr r w).fuse = s.fuse := rfl
@[simp] theorem wr_post (s : State) (r : Reg) (w : Word) : (s.wr r w).post = s.post := rfl

/-! ## setF -/

@[simp] theorem setF_pending (s : State) (F : RF) (v : Nat) : (s.setF F v).pending = s.pending := rfl
@[simp] theorem setF_mem (s : State) (F : RF) (v : Nat) : (s.setF F v).mem = s.mem := rfl
@[simp] theorem setF_chk (s : State) (F : RF) (v : Nat) : (s.setF F v).chk = s.chk := rfl
@[simp] theorem setF_time (s : State) (F : RF) (v : Nat) : (s.setF F v).time = s.time := rfl
@[simp] theorem setF_running (s : State) (F : RF) (v : Nat) : (s.setF F v).running = s.running := rfl
@[simp] theorem setF_rdata (s : State) (F : RF) (v : Nat) : (s.setF F v).rdata = s.rdata := rfl
@[simp] theorem setF_free (s : State) (F : RF) (v : Nat) : (s.setF F v).free = s.free := rfl
@[simp] theorem setF_sys (s : State) (F : RF) (v : Nat) : (s.setF F v).sys = s.sys := rfl
@[simp] theorem setF_dma (s : State) (F : RF) (v : Nat) : (s.setF F v).dma = s.dma := rfl
@[simp] theorem setF_man (s : State) (F : RF) (v : Nat) : (s.setF F v).man = s.man := rfl
@[simp] theorem setF_pwm (s : State) (F : RF) (v : Nat) : (s.setF F v).pwm = s.pwm := rfl
@[simp] theorem setF_qnc (s : State) (F : RF) (v : Nat) : (s.setF F v).qnc = s.qnc := rfl
@[simp] theorem setF_cmp (s : State) (F : RF) (v : Nat) : (s.setF F v).cmp = s.cmp := rfl
@[simp] theorem setF_hlm (s : State) (F : RF) (v : Nat) : (s.setF F v).hlm = s.hlm := rfl
@[simp] theorem setF_aux (s : State) (F : RF) (v : Nat) : (s.setF F v).aux = s.aux := rfl
@[simp] theorem setF_dcl (s : State) (F : RF) (v : Nat) : (s.setF F v).dcl = s.dcl := rfl
@[simp] theorem setF_anv (s : State) (F : RF) (v : Nat) : (s.setF F v).anv = s.anv := rfl
@[simp] theorem setF_fbk (s : State) (F : RF) (v : Nat) : (s.setF F v).fbk = s.fbk := rfl
@[simp] theorem setF_sdm (s : State) (F : RF) (v : Nat) : (s.setF F v).sdm = s.sdm := rfl
@[simp] theorem setF_loop (s : State) (F : RF) (v : Nat) : (s.setF F v).loop = s.loop := rfl
@[simp] theorem setF_pair (s : State) (F : RF) (v : Nat) : (s.setF F v).pair = s.pair := rfl
@[simp] theorem setF_ken (s : State) (F : RF) (v : Nat) : (s.setF F v).ken = s.ken := rfl
@[simp] theorem setF_asy (s : State) (F : RF) (v : Nat) : (s.setF F v).asy = s.asy := rfl
@[simp] theorem setF_tap (s : State) (F : RF) (v : Nat) : (s.setF F v).tap = s.tap := rfl
@[simp] theorem setF_mcv (s : State) (F : RF) (v : Nat) : (s.setF F v).mcv = s.mcv := rfl
@[simp] theorem setF_lb (s : State) (F : RF) (v : Nat) : (s.setF F v).lb = s.lb := rfl
@[simp] theorem setF_mbx (s : State) (F : RF) (v : Nat) : (s.setF F v).mbx = s.mbx := rfl
@[simp] theorem setF_boot (s : State) (F : RF) (v : Nat) : (s.setF F v).boot = s.boot := rfl
@[simp] theorem setF_fuse (s : State) (F : RF) (v : Nat) : (s.setF F v).fuse = s.fuse := rfl
@[simp] theorem setF_post (s : State) (F : RF) (v : Nat) : (s.setF F v).post = s.post := rfl

/-! ## lower -/

@[simp] theorem lower_pending (s : State) (F : RF) : (s.lower F).pending = s.pending := rfl
@[simp] theorem lower_mem (s : State) (F : RF) : (s.lower F).mem = s.mem := rfl
@[simp] theorem lower_chk (s : State) (F : RF) : (s.lower F).chk = s.chk := rfl
@[simp] theorem lower_time (s : State) (F : RF) : (s.lower F).time = s.time := rfl
@[simp] theorem lower_running (s : State) (F : RF) : (s.lower F).running = s.running := rfl
@[simp] theorem lower_rdata (s : State) (F : RF) : (s.lower F).rdata = s.rdata := rfl
@[simp] theorem lower_free (s : State) (F : RF) : (s.lower F).free = s.free := rfl
@[simp] theorem lower_sys (s : State) (F : RF) : (s.lower F).sys = s.sys := rfl
@[simp] theorem lower_dma (s : State) (F : RF) : (s.lower F).dma = s.dma := rfl
@[simp] theorem lower_man (s : State) (F : RF) : (s.lower F).man = s.man := rfl
@[simp] theorem lower_pwm (s : State) (F : RF) : (s.lower F).pwm = s.pwm := rfl
@[simp] theorem lower_qnc (s : State) (F : RF) : (s.lower F).qnc = s.qnc := rfl
@[simp] theorem lower_cmp (s : State) (F : RF) : (s.lower F).cmp = s.cmp := rfl
@[simp] theorem lower_hlm (s : State) (F : RF) : (s.lower F).hlm = s.hlm := rfl
@[simp] theorem lower_aux (s : State) (F : RF) : (s.lower F).aux = s.aux := rfl
@[simp] theorem lower_dcl (s : State) (F : RF) : (s.lower F).dcl = s.dcl := rfl
@[simp] theorem lower_anv (s : State) (F : RF) : (s.lower F).anv = s.anv := rfl
@[simp] theorem lower_fbk (s : State) (F : RF) : (s.lower F).fbk = s.fbk := rfl
@[simp] theorem lower_sdm (s : State) (F : RF) : (s.lower F).sdm = s.sdm := rfl
@[simp] theorem lower_loop (s : State) (F : RF) : (s.lower F).loop = s.loop := rfl
@[simp] theorem lower_pair (s : State) (F : RF) : (s.lower F).pair = s.pair := rfl
@[simp] theorem lower_ken (s : State) (F : RF) : (s.lower F).ken = s.ken := rfl
@[simp] theorem lower_asy (s : State) (F : RF) : (s.lower F).asy = s.asy := rfl
@[simp] theorem lower_tap (s : State) (F : RF) : (s.lower F).tap = s.tap := rfl
@[simp] theorem lower_mcv (s : State) (F : RF) : (s.lower F).mcv = s.mcv := rfl
@[simp] theorem lower_lb (s : State) (F : RF) : (s.lower F).lb = s.lb := rfl
@[simp] theorem lower_mbx (s : State) (F : RF) : (s.lower F).mbx = s.mbx := rfl
@[simp] theorem lower_boot (s : State) (F : RF) : (s.lower F).boot = s.boot := rfl
@[simp] theorem lower_fuse (s : State) (F : RF) : (s.lower F).fuse = s.fuse := rfl
@[simp] theorem lower_post (s : State) (F : RF) : (s.lower F).post = s.post := rfl

/-! ## putBit -/

@[simp] theorem putBit_pending (s : State) (r : Reg) (i : Nat) (b : Bool) : (s.putBit r i b).pending = s.pending := rfl
@[simp] theorem putBit_mem (s : State) (r : Reg) (i : Nat) (b : Bool) : (s.putBit r i b).mem = s.mem := rfl
@[simp] theorem putBit_chk (s : State) (r : Reg) (i : Nat) (b : Bool) : (s.putBit r i b).chk = s.chk := rfl
@[simp] theorem putBit_time (s : State) (r : Reg) (i : Nat) (b : Bool) : (s.putBit r i b).time = s.time := rfl
@[simp] theorem putBit_running (s : State) (r : Reg) (i : Nat) (b : Bool) : (s.putBit r i b).running = s.running := rfl
@[simp] theorem putBit_rdata (s : State) (r : Reg) (i : Nat) (b : Bool) : (s.putBit r i b).rdata = s.rdata := rfl
@[simp] theorem putBit_free (s : State) (r : Reg) (i : Nat) (b : Bool) : (s.putBit r i b).free = s.free := rfl
@[simp] theorem putBit_sys (s : State) (r : Reg) (i : Nat) (b : Bool) : (s.putBit r i b).sys = s.sys := rfl
@[simp] theorem putBit_dma (s : State) (r : Reg) (i : Nat) (b : Bool) : (s.putBit r i b).dma = s.dma := rfl
@[simp] theorem putBit_man (s : State) (r : Reg) (i : Nat) (b : Bool) : (s.putBit r i b).man = s.man := rfl
@[simp] theorem putBit_pwm (s : State) (r : Reg) (i : Nat) (b : Bool) : (s.putBit r i b).pwm = s.pwm := rfl
@[simp] theorem putBit_qnc (s : State) (r : Reg) (i : Nat) (b : Bool) : (s.putBit r i b).qnc = s.qnc := rfl
@[simp] theorem putBit_cmp (s : State) (r : Reg) (i : Nat) (b : Bool) : (s.putBit r i b).cmp = s.cmp := rfl
@[simp] theorem putBit_hlm (s : State) (r : Reg) (i : Nat) (b : Bool) : (s.putBit r i b).hlm = s.hlm := rfl
@[simp] theorem putBit_aux (s : State) (r : Reg) (i : Nat) (b : Bool) : (s.putBit r i b).aux = s.aux := rfl
@[simp] theorem putBit_dcl (s : State) (r : Reg) (i : Nat) (b : Bool) : (s.putBit r i b).dcl = s.dcl := rfl
@[simp] theorem putBit_anv (s : State) (r : Reg) (i : Nat) (b : Bool) : (s.putBit r i b).anv = s.anv := rfl
@[simp] theorem putBit_fbk (s : State) (r : Reg) (i : Nat) (b : Bool) : (s.putBit r i b).fbk = s.fbk := rfl
@[simp] theorem putBit_sdm (s : State) (r : Reg) (i : Nat) (b : Bool) : (s.putBit r i b).sdm = s.sdm := rfl
@[simp] theorem putBit_loop (s : State) (r : Reg) (i : Nat) (b : Bool) : (s.putBit r i b).loop = s.loop := rfl
@[simp] theorem putBit_pair (s : State) (r : Reg) (i : Nat) (b : Bool) : (s.putBit r i b).pair = s.pair := rfl
@[simp] theorem putBit_ken (s : State) (r : Reg) (i : Nat) (b : Bool) : (s.putBit r i b).ken = s.ken := rfl
@[simp] theorem putBit_asy (s : State) (r : Reg) (i : Nat) (b : Bool) : (s.putBit r i b).asy = s.asy := rfl
@[simp] theorem putBit_tap (s : State) (r : Reg) (i : Nat) (b : Bool) : (s.putBit r i b).tap = s.tap := rfl
@[simp] theorem putBit_mcv (s : State) (r : Reg) (i : Nat) (b : Bool) : (s.putBit r i b).mcv = s.mcv := rfl
@[simp] theorem putBit_lb (s : State) (r : Reg) (i : Nat) (b : Bool) : (s.putBit r i b).lb = s.lb := rfl
@[simp] theorem putBit_mbx (s : State) (r : Reg) (i : Nat) (b : Bool) : (s.putBit r i b).mbx = s.mbx := rfl
@[simp] theorem putBit_boot (s : State) (r : Reg) (i : Nat) (b : Bool) : (s.putBit r i b).boot = s.boot := rfl
@[simp] theorem putBit_fuse (s : State) (r : Reg) (i : Nat) (b : Bool) : (s.putBit r i b).fuse = s.fuse := rfl
@[simp] theorem putBit_post (s : State) (r : Reg) (i : Nat) (b : Bool) : (s.putBit r i b).post = s.post := rfl

/-! ## raise -/

@[simp] theorem raise_pending (s : State) (F : RF) : (s.raise F).pending = s.pending := rfl
@[simp] theorem raise_mem (s : State) (F : RF) : (s.raise F).mem = s.mem := rfl
@[simp] theorem raise_chk (s : State) (F : RF) : (s.raise F).chk = s.chk := rfl
@[simp] theorem raise_time (s : State) (F : RF) : (s.raise F).time = s.time := rfl
@[simp] theorem raise_running (s : State) (F : RF) : (s.raise F).running = s.running := rfl
@[simp] theorem raise_rdata (s : State) (F : RF) : (s.raise F).rdata = s.rdata := rfl
@[simp] theorem raise_free (s : State) (F : RF) : (s.raise F).free = s.free := rfl
@[simp] theorem raise_dma (s : State) (F : RF) : (s.raise F).dma = s.dma := rfl
@[simp] theorem raise_man (s : State) (F : RF) : (s.raise F).man = s.man := rfl
@[simp] theorem raise_pwm (s : State) (F : RF) : (s.raise F).pwm = s.pwm := rfl
@[simp] theorem raise_qnc (s : State) (F : RF) : (s.raise F).qnc = s.qnc := rfl
@[simp] theorem raise_cmp (s : State) (F : RF) : (s.raise F).cmp = s.cmp := rfl
@[simp] theorem raise_hlm (s : State) (F : RF) : (s.raise F).hlm = s.hlm := rfl
@[simp] theorem raise_aux (s : State) (F : RF) : (s.raise F).aux = s.aux := rfl
@[simp] theorem raise_dcl (s : State) (F : RF) : (s.raise F).dcl = s.dcl := rfl
@[simp] theorem raise_anv (s : State) (F : RF) : (s.raise F).anv = s.anv := rfl
@[simp] theorem raise_fbk (s : State) (F : RF) : (s.raise F).fbk = s.fbk := rfl
@[simp] theorem raise_sdm (s : State) (F : RF) : (s.raise F).sdm = s.sdm := rfl
@[simp] theorem raise_loop (s : State) (F : RF) : (s.raise F).loop = s.loop := rfl
@[simp] theorem raise_pair (s : State) (F : RF) : (s.raise F).pair = s.pair := rfl
@[simp] theorem raise_ken (s : State) (F : RF) : (s.raise F).ken = s.ken := rfl
@[simp] theorem raise_asy (s : State) (F : RF) : (s.raise F).asy = s.asy := rfl
@[simp] theorem raise_tap (s : State) (F : RF) : (s.raise F).tap = s.tap := rfl
@[simp] theorem raise_mcv (s : State) (F : RF) : (s.raise F).mcv = s.mcv := rfl
@[simp] theorem raise_lb (s : State) (F : RF) : (s.raise F).lb = s.lb := rfl
@[simp] theorem raise_mbx (s : State) (F : RF) : (s.raise F).mbx = s.mbx := rfl
@[simp] theorem raise_boot (s : State) (F : RF) : (s.raise F).boot = s.boot := rfl
@[simp] theorem raise_fuse (s : State) (F : RF) : (s.raise F).fuse = s.fuse := rfl
@[simp] theorem raise_post (s : State) (F : RF) : (s.raise F).post = s.post := rfl

/-! ## raiseBit -/

@[simp] theorem raiseBit_pending (s : State) (r : Reg) (i : Nat) : (s.raiseBit r i).pending = s.pending := rfl
@[simp] theorem raiseBit_mem (s : State) (r : Reg) (i : Nat) : (s.raiseBit r i).mem = s.mem := rfl
@[simp] theorem raiseBit_chk (s : State) (r : Reg) (i : Nat) : (s.raiseBit r i).chk = s.chk := rfl
@[simp] theorem raiseBit_time (s : State) (r : Reg) (i : Nat) : (s.raiseBit r i).time = s.time := rfl
@[simp] theorem raiseBit_running (s : State) (r : Reg) (i : Nat) : (s.raiseBit r i).running = s.running := rfl
@[simp] theorem raiseBit_rdata (s : State) (r : Reg) (i : Nat) : (s.raiseBit r i).rdata = s.rdata := rfl
@[simp] theorem raiseBit_free (s : State) (r : Reg) (i : Nat) : (s.raiseBit r i).free = s.free := rfl
@[simp] theorem raiseBit_dma (s : State) (r : Reg) (i : Nat) : (s.raiseBit r i).dma = s.dma := rfl
@[simp] theorem raiseBit_man (s : State) (r : Reg) (i : Nat) : (s.raiseBit r i).man = s.man := rfl
@[simp] theorem raiseBit_pwm (s : State) (r : Reg) (i : Nat) : (s.raiseBit r i).pwm = s.pwm := rfl
@[simp] theorem raiseBit_qnc (s : State) (r : Reg) (i : Nat) : (s.raiseBit r i).qnc = s.qnc := rfl
@[simp] theorem raiseBit_cmp (s : State) (r : Reg) (i : Nat) : (s.raiseBit r i).cmp = s.cmp := rfl
@[simp] theorem raiseBit_hlm (s : State) (r : Reg) (i : Nat) : (s.raiseBit r i).hlm = s.hlm := rfl
@[simp] theorem raiseBit_aux (s : State) (r : Reg) (i : Nat) : (s.raiseBit r i).aux = s.aux := rfl
@[simp] theorem raiseBit_dcl (s : State) (r : Reg) (i : Nat) : (s.raiseBit r i).dcl = s.dcl := rfl
@[simp] theorem raiseBit_anv (s : State) (r : Reg) (i : Nat) : (s.raiseBit r i).anv = s.anv := rfl
@[simp] theorem raiseBit_fbk (s : State) (r : Reg) (i : Nat) : (s.raiseBit r i).fbk = s.fbk := rfl
@[simp] theorem raiseBit_sdm (s : State) (r : Reg) (i : Nat) : (s.raiseBit r i).sdm = s.sdm := rfl
@[simp] theorem raiseBit_loop (s : State) (r : Reg) (i : Nat) : (s.raiseBit r i).loop = s.loop := rfl
@[simp] theorem raiseBit_pair (s : State) (r : Reg) (i : Nat) : (s.raiseBit r i).pair = s.pair := rfl
@[simp] theorem raiseBit_ken (s : State) (r : Reg) (i : Nat) : (s.raiseBit r i).ken = s.ken := rfl
@[simp] theorem raiseBit_asy (s : State) (r : Reg) (i : Nat) : (s.raiseBit r i).asy = s.asy := rfl
@[simp] theorem raiseBit_tap (s : State) (r : Reg) (i : Nat) : (s.raiseBit r i).tap = s.tap := rfl
@[simp] theorem raiseBit_mcv (s : State) (r : Reg) (i : Nat) : (s.raiseBit r i).mcv = s.mcv := rfl
@[simp] theorem raiseBit_lb (s : State) (r : Reg) (i : Nat) : (s.raiseBit r i).lb = s.lb := rfl
@[simp] theorem raiseBit_mbx (s : State) (r : Reg) (i : Nat) : (s.raiseBit r i).mbx = s.mbx := rfl
@[simp] theorem raiseBit_boot (s : State) (r : Reg) (i : Nat) : (s.raiseBit r i).boot = s.boot := rfl
@[simp] theorem raiseBit_fuse (s : State) (r : Reg) (i : Nat) : (s.raiseBit r i).fuse = s.fuse := rfl
@[simp] theorem raiseBit_post (s : State) (r : Reg) (i : Nat) : (s.raiseBit r i).post = s.post := rfl

/-! ## noteHot -/

@[simp] theorem noteHot_pending (s : State) (r : Reg) (m : Word) : (s.noteHot r m).pending = s.pending := rfl
@[simp] theorem noteHot_regs (s : State) (r : Reg) (m : Word) : (s.noteHot r m).regs = s.regs := rfl
@[simp] theorem noteHot_mem (s : State) (r : Reg) (m : Word) : (s.noteHot r m).mem = s.mem := rfl
@[simp] theorem noteHot_chk (s : State) (r : Reg) (m : Word) : (s.noteHot r m).chk = s.chk := rfl
@[simp] theorem noteHot_time (s : State) (r : Reg) (m : Word) : (s.noteHot r m).time = s.time := rfl
@[simp] theorem noteHot_running (s : State) (r : Reg) (m : Word) : (s.noteHot r m).running = s.running := rfl
@[simp] theorem noteHot_rdata (s : State) (r : Reg) (m : Word) : (s.noteHot r m).rdata = s.rdata := rfl
@[simp] theorem noteHot_free (s : State) (r : Reg) (m : Word) : (s.noteHot r m).free = s.free := rfl
@[simp] theorem noteHot_dma (s : State) (r : Reg) (m : Word) : (s.noteHot r m).dma = s.dma := rfl
@[simp] theorem noteHot_man (s : State) (r : Reg) (m : Word) : (s.noteHot r m).man = s.man := rfl
@[simp] theorem noteHot_pwm (s : State) (r : Reg) (m : Word) : (s.noteHot r m).pwm = s.pwm := rfl
@[simp] theorem noteHot_qnc (s : State) (r : Reg) (m : Word) : (s.noteHot r m).qnc = s.qnc := rfl
@[simp] theorem noteHot_cmp (s : State) (r : Reg) (m : Word) : (s.noteHot r m).cmp = s.cmp := rfl
@[simp] theorem noteHot_hlm (s : State) (r : Reg) (m : Word) : (s.noteHot r m).hlm = s.hlm := rfl
@[simp] theorem noteHot_aux (s : State) (r : Reg) (m : Word) : (s.noteHot r m).aux = s.aux := rfl
@[simp] theorem noteHot_dcl (s : State) (r : Reg) (m : Word) : (s.noteHot r m).dcl = s.dcl := rfl
@[simp] theorem noteHot_anv (s : State) (r : Reg) (m : Word) : (s.noteHot r m).anv = s.anv := rfl
@[simp] theorem noteHot_fbk (s : State) (r : Reg) (m : Word) : (s.noteHot r m).fbk = s.fbk := rfl
@[simp] theorem noteHot_sdm (s : State) (r : Reg) (m : Word) : (s.noteHot r m).sdm = s.sdm := rfl
@[simp] theorem noteHot_loop (s : State) (r : Reg) (m : Word) : (s.noteHot r m).loop = s.loop := rfl
@[simp] theorem noteHot_pair (s : State) (r : Reg) (m : Word) : (s.noteHot r m).pair = s.pair := rfl
@[simp] theorem noteHot_ken (s : State) (r : Reg) (m : Word) : (s.noteHot r m).ken = s.ken := rfl
@[simp] theorem noteHot_asy (s : State) (r : Reg) (m : Word) : (s.noteHot r m).asy = s.asy := rfl
@[simp] theorem noteHot_tap (s : State) (r : Reg) (m : Word) : (s.noteHot r m).tap = s.tap := rfl
@[simp] theorem noteHot_mcv (s : State) (r : Reg) (m : Word) : (s.noteHot r m).mcv = s.mcv := rfl
@[simp] theorem noteHot_lb (s : State) (r : Reg) (m : Word) : (s.noteHot r m).lb = s.lb := rfl
@[simp] theorem noteHot_mbx (s : State) (r : Reg) (m : Word) : (s.noteHot r m).mbx = s.mbx := rfl
@[simp] theorem noteHot_boot (s : State) (r : Reg) (m : Word) : (s.noteHot r m).boot = s.boot := rfl
@[simp] theorem noteHot_fuse (s : State) (r : Reg) (m : Word) : (s.noteHot r m).fuse = s.fuse := rfl
@[simp] theorem noteHot_post (s : State) (r : Reg) (m : Word) : (s.noteHot r m).post = s.post := rfl

/-! ## setMemW -/

@[simp] theorem setMemW_pending (s : State) (a : Nat) (w : Word) : (s.setMemW a w).pending = s.pending := rfl
@[simp] theorem setMemW_regs (s : State) (a : Nat) (w : Word) : (s.setMemW a w).regs = s.regs := rfl
@[simp] theorem setMemW_chk (s : State) (a : Nat) (w : Word) : (s.setMemW a w).chk = s.chk := rfl
@[simp] theorem setMemW_time (s : State) (a : Nat) (w : Word) : (s.setMemW a w).time = s.time := rfl
@[simp] theorem setMemW_running (s : State) (a : Nat) (w : Word) : (s.setMemW a w).running = s.running := rfl
@[simp] theorem setMemW_rdata (s : State) (a : Nat) (w : Word) : (s.setMemW a w).rdata = s.rdata := rfl
@[simp] theorem setMemW_free (s : State) (a : Nat) (w : Word) : (s.setMemW a w).free = s.free := rfl
@[simp] theorem setMemW_sys (s : State) (a : Nat) (w : Word) : (s.setMemW a w).sys = s.sys := rfl
@[simp] theorem setMemW_dma (s : State) (a : Nat) (w : Word) : (s.setMemW a w).dma = s.dma := rfl
@[simp] theorem setMemW_man (s : State) (a : Nat) (w : Word) : (s.setMemW a w).man = s.man := rfl
@[simp] theorem setMemW_pwm (s : State) (a : Nat) (w : Word) : (s.setMemW a w).pwm = s.pwm := rfl
@[simp] theorem setMemW_qnc (s : State) (a : Nat) (w : Word) : (s.setMemW a w).qnc = s.qnc := rfl
@[simp] theorem setMemW_cmp (s : State) (a : Nat) (w : Word) : (s.setMemW a w).cmp = s.cmp := rfl
@[simp] theorem setMemW_hlm (s : State) (a : Nat) (w : Word) : (s.setMemW a w).hlm = s.hlm := rfl
@[simp] theorem setMemW_aux (s : State) (a : Nat) (w : Word) : (s.setMemW a w).aux = s.aux := rfl
@[simp] theorem setMemW_dcl (s : State) (a : Nat) (w : Word) : (s.setMemW a w).dcl = s.dcl := rfl
@[simp] theorem setMemW_anv (s : State) (a : Nat) (w : Word) : (s.setMemW a w).anv = s.anv := rfl
@[simp] theorem setMemW_fbk (s : State) (a : Nat) (w : Word) : (s.setMemW a w).fbk = s.fbk := rfl
@[simp] theorem setMemW_sdm (s : State) (a : Nat) (w : Word) : (s.setMemW a w).sdm = s.sdm := rfl
@[simp] theorem setMemW_loop (s : State) (a : Nat) (w : Word) : (s.setMemW a w).loop = s.loop := rfl
@[simp] theorem setMemW_pair (s : State) (a : Nat) (w : Word) : (s.setMemW a w).pair = s.pair := rfl
@[simp] theorem setMemW_ken (s : State) (a : Nat) (w : Word) : (s.setMemW a w).ken = s.ken := rfl
@[simp] theorem setMemW_asy (s : State) (a : Nat) (w : Word) : (s.setMemW a w).asy = s.asy := rfl
@[simp] theorem setMemW_tap (s : State) (a : Nat) (w : Word) : (s.setMemW a w).tap = s.tap := rfl
@[simp] theorem setMemW_mcv (s : State) (a : Nat) (w : Word) : (s.setMemW a w).mcv = s.mcv := rfl
@[simp] theorem setMemW_lb (s : State) (a : Nat) (w : Word) : (s.setMemW a w).lb = s.lb := rfl
@[simp] theorem setMemW_mbx (s : State) (a : Nat) (w : Word) : (s.setMemW a w).mbx = s.mbx := rfl
@[simp] theorem setMemW_boot (s : State) (a : Nat) (w : Word) : (s.setMemW a w).boot = s.boot := rfl
@[simp] theorem setMemW_fuse (s : State) (a : Nat) (w : Word) : (s.setMemW a w).fuse = s.fuse := rfl
@[simp] theorem setMemW_post (s : State) (a : Nat) (w : Word) : (s.setMemW a w).post = s.post := rfl

/-! ## advance -/

@[simp] theorem advance_pending (s : State) (t : Nat) : (s.advance t).pending = s.pending := rfl
@[simp] theorem advance_regs (s : State) (t : Nat) : (s.advance t).regs = s.regs := rfl
@[simp] theorem advance_mem (s : State) (t : Nat) : (s.advance t).mem = s.mem := rfl
@[simp] theorem advance_chk (s : State) (t : Nat) : (s.advance t).chk = s.chk := rfl
@[simp] theorem advance_running (s : State) (t : Nat) : (s.advance t).running = s.running := rfl
@[simp] theorem advance_rdata (s : State) (t : Nat) : (s.advance t).rdata = s.rdata := rfl
@[simp] theorem advance_free (s : State) (t : Nat) : (s.advance t).free = s.free := rfl
@[simp] theorem advance_sys (s : State) (t : Nat) : (s.advance t).sys = s.sys := rfl
@[simp] theorem advance_dma (s : State) (t : Nat) : (s.advance t).dma = s.dma := rfl
@[simp] theorem advance_man (s : State) (t : Nat) : (s.advance t).man = s.man := rfl
@[simp] theorem advance_pwm (s : State) (t : Nat) : (s.advance t).pwm = s.pwm := rfl
@[simp] theorem advance_qnc (s : State) (t : Nat) : (s.advance t).qnc = s.qnc := rfl
@[simp] theorem advance_cmp (s : State) (t : Nat) : (s.advance t).cmp = s.cmp := rfl
@[simp] theorem advance_hlm (s : State) (t : Nat) : (s.advance t).hlm = s.hlm := rfl
@[simp] theorem advance_aux (s : State) (t : Nat) : (s.advance t).aux = s.aux := rfl
@[simp] theorem advance_dcl (s : State) (t : Nat) : (s.advance t).dcl = s.dcl := rfl
@[simp] theorem advance_anv (s : State) (t : Nat) : (s.advance t).anv = s.anv := rfl
@[simp] theorem advance_fbk (s : State) (t : Nat) : (s.advance t).fbk = s.fbk := rfl
@[simp] theorem advance_sdm (s : State) (t : Nat) : (s.advance t).sdm = s.sdm := rfl
@[simp] theorem advance_loop (s : State) (t : Nat) : (s.advance t).loop = s.loop := rfl
@[simp] theorem advance_pair (s : State) (t : Nat) : (s.advance t).pair = s.pair := rfl
@[simp] theorem advance_ken (s : State) (t : Nat) : (s.advance t).ken = s.ken := rfl
@[simp] theorem advance_asy (s : State) (t : Nat) : (s.advance t).asy = s.asy := rfl
@[simp] theorem advance_tap (s : State) (t : Nat) : (s.advance t).tap = s.tap := rfl
@[simp] theorem advance_mcv (s : State) (t : Nat) : (s.advance t).mcv = s.mcv := rfl
@[simp] theorem advance_lb (s : State) (t : Nat) : (s.advance t).lb = s.lb := rfl
@[simp] theorem advance_mbx (s : State) (t : Nat) : (s.advance t).mbx = s.mbx := rfl
@[simp] theorem advance_boot (s : State) (t : Nat) : (s.advance t).boot = s.boot := rfl
@[simp] theorem advance_fuse (s : State) (t : Nat) : (s.advance t).fuse = s.fuse := rfl
@[simp] theorem advance_post (s : State) (t : Nat) : (s.advance t).post = s.post := rfl

/-! ## modPost -/

@[simp] theorem modPost_pending (s : State) (f : PostSt → PostSt) : (s.modPost f).pending = s.pending := rfl
@[simp] theorem modPost_regs (s : State) (f : PostSt → PostSt) : (s.modPost f).regs = s.regs := rfl
@[simp] theorem modPost_mem (s : State) (f : PostSt → PostSt) : (s.modPost f).mem = s.mem := rfl
@[simp] theorem modPost_chk (s : State) (f : PostSt → PostSt) : (s.modPost f).chk = s.chk := rfl
@[simp] theorem modPost_time (s : State) (f : PostSt → PostSt) : (s.modPost f).time = s.time := rfl
@[simp] theorem modPost_running (s : State) (f : PostSt → PostSt) : (s.modPost f).running = s.running := rfl
@[simp] theorem modPost_rdata (s : State) (f : PostSt → PostSt) : (s.modPost f).rdata = s.rdata := rfl
@[simp] theorem modPost_free (s : State) (f : PostSt → PostSt) : (s.modPost f).free = s.free := rfl
@[simp] theorem modPost_sys (s : State) (f : PostSt → PostSt) : (s.modPost f).sys = s.sys := rfl
@[simp] theorem modPost_dma (s : State) (f : PostSt → PostSt) : (s.modPost f).dma = s.dma := rfl
@[simp] theorem modPost_man (s : State) (f : PostSt → PostSt) : (s.modPost f).man = s.man := rfl
@[simp] theorem modPost_pwm (s : State) (f : PostSt → PostSt) : (s.modPost f).pwm = s.pwm := rfl
@[simp] theorem modPost_qnc (s : State) (f : PostSt → PostSt) : (s.modPost f).qnc = s.qnc := rfl
@[simp] theorem modPost_cmp (s : State) (f : PostSt → PostSt) : (s.modPost f).cmp = s.cmp := rfl
@[simp] theorem modPost_hlm (s : State) (f : PostSt → PostSt) : (s.modPost f).hlm = s.hlm := rfl
@[simp] theorem modPost_aux (s : State) (f : PostSt → PostSt) : (s.modPost f).aux = s.aux := rfl
@[simp] theorem modPost_dcl (s : State) (f : PostSt → PostSt) : (s.modPost f).dcl = s.dcl := rfl
@[simp] theorem modPost_anv (s : State) (f : PostSt → PostSt) : (s.modPost f).anv = s.anv := rfl
@[simp] theorem modPost_fbk (s : State) (f : PostSt → PostSt) : (s.modPost f).fbk = s.fbk := rfl
@[simp] theorem modPost_sdm (s : State) (f : PostSt → PostSt) : (s.modPost f).sdm = s.sdm := rfl
@[simp] theorem modPost_loop (s : State) (f : PostSt → PostSt) : (s.modPost f).loop = s.loop := rfl
@[simp] theorem modPost_pair (s : State) (f : PostSt → PostSt) : (s.modPost f).pair = s.pair := rfl
@[simp] theorem modPost_ken (s : State) (f : PostSt → PostSt) : (s.modPost f).ken = s.ken := rfl
@[simp] theorem modPost_asy (s : State) (f : PostSt → PostSt) : (s.modPost f).asy = s.asy := rfl
@[simp] theorem modPost_tap (s : State) (f : PostSt → PostSt) : (s.modPost f).tap = s.tap := rfl
@[simp] theorem modPost_mcv (s : State) (f : PostSt → PostSt) : (s.modPost f).mcv = s.mcv := rfl
@[simp] theorem modPost_lb (s : State) (f : PostSt → PostSt) : (s.modPost f).lb = s.lb := rfl
@[simp] theorem modPost_mbx (s : State) (f : PostSt → PostSt) : (s.modPost f).mbx = s.mbx := rfl
@[simp] theorem modPost_boot (s : State) (f : PostSt → PostSt) : (s.modPost f).boot = s.boot := rfl
@[simp] theorem modPost_fuse (s : State) (f : PostSt → PostSt) : (s.modPost f).fuse = s.fuse := rfl

/-! ## modLoop -/

@[simp] theorem modLoop_pending (s : State) (f : LoopSt → LoopSt) : (s.modLoop f).pending = s.pending := rfl
@[simp] theorem modLoop_regs (s : State) (f : LoopSt → LoopSt) : (s.modLoop f).regs = s.regs := rfl
@[simp] theorem modLoop_mem (s : State) (f : LoopSt → LoopSt) : (s.modLoop f).mem = s.mem := rfl
@[simp] theorem modLoop_chk (s : State) (f : LoopSt → LoopSt) : (s.modLoop f).chk = s.chk := rfl
@[simp] theorem modLoop_time (s : State) (f : LoopSt → LoopSt) : (s.modLoop f).time = s.time := rfl
@[simp] theorem modLoop_running (s : State) (f : LoopSt → LoopSt) : (s.modLoop f).running = s.running := rfl
@[simp] theorem modLoop_rdata (s : State) (f : LoopSt → LoopSt) : (s.modLoop f).rdata = s.rdata := rfl
@[simp] theorem modLoop_free (s : State) (f : LoopSt → LoopSt) : (s.modLoop f).free = s.free := rfl
@[simp] theorem modLoop_sys (s : State) (f : LoopSt → LoopSt) : (s.modLoop f).sys = s.sys := rfl
@[simp] theorem modLoop_dma (s : State) (f : LoopSt → LoopSt) : (s.modLoop f).dma = s.dma := rfl
@[simp] theorem modLoop_man (s : State) (f : LoopSt → LoopSt) : (s.modLoop f).man = s.man := rfl
@[simp] theorem modLoop_pwm (s : State) (f : LoopSt → LoopSt) : (s.modLoop f).pwm = s.pwm := rfl
@[simp] theorem modLoop_qnc (s : State) (f : LoopSt → LoopSt) : (s.modLoop f).qnc = s.qnc := rfl
@[simp] theorem modLoop_cmp (s : State) (f : LoopSt → LoopSt) : (s.modLoop f).cmp = s.cmp := rfl
@[simp] theorem modLoop_hlm (s : State) (f : LoopSt → LoopSt) : (s.modLoop f).hlm = s.hlm := rfl
@[simp] theorem modLoop_aux (s : State) (f : LoopSt → LoopSt) : (s.modLoop f).aux = s.aux := rfl
@[simp] theorem modLoop_dcl (s : State) (f : LoopSt → LoopSt) : (s.modLoop f).dcl = s.dcl := rfl
@[simp] theorem modLoop_anv (s : State) (f : LoopSt → LoopSt) : (s.modLoop f).anv = s.anv := rfl
@[simp] theorem modLoop_fbk (s : State) (f : LoopSt → LoopSt) : (s.modLoop f).fbk = s.fbk := rfl
@[simp] theorem modLoop_sdm (s : State) (f : LoopSt → LoopSt) : (s.modLoop f).sdm = s.sdm := rfl
@[simp] theorem modLoop_pair (s : State) (f : LoopSt → LoopSt) : (s.modLoop f).pair = s.pair := rfl
@[simp] theorem modLoop_ken (s : State) (f : LoopSt → LoopSt) : (s.modLoop f).ken = s.ken := rfl
@[simp] theorem modLoop_asy (s : State) (f : LoopSt → LoopSt) : (s.modLoop f).asy = s.asy := rfl
@[simp] theorem modLoop_tap (s : State) (f : LoopSt → LoopSt) : (s.modLoop f).tap = s.tap := rfl
@[simp] theorem modLoop_mcv (s : State) (f : LoopSt → LoopSt) : (s.modLoop f).mcv = s.mcv := rfl
@[simp] theorem modLoop_lb (s : State) (f : LoopSt → LoopSt) : (s.modLoop f).lb = s.lb := rfl
@[simp] theorem modLoop_mbx (s : State) (f : LoopSt → LoopSt) : (s.modLoop f).mbx = s.mbx := rfl
@[simp] theorem modLoop_boot (s : State) (f : LoopSt → LoopSt) : (s.modLoop f).boot = s.boot := rfl
@[simp] theorem modLoop_fuse (s : State) (f : LoopSt → LoopSt) : (s.modLoop f).fuse = s.fuse := rfl
@[simp] theorem modLoop_post (s : State) (f : LoopSt → LoopSt) : (s.modLoop f).post = s.post := rfl

/-! ## modLp -/

@[simp] theorem modLp_pending (s : State) (p : Fin 24) (f : LoopPair → LoopPair) : (s.modLp p f).pending = s.pending := rfl
@[simp] theorem modLp_regs (s : State) (p : Fin 24) (f : LoopPair → LoopPair) : (s.modLp p f).regs = s.regs := rfl
@[simp] theorem modLp_mem (s : State) (p : Fin 24) (f : LoopPair → LoopPair) : (s.modLp p f).mem = s.mem := rfl
@[simp] theorem modLp_chk (s : State) (p : Fin 24) (f : LoopPair → LoopPair) : (s.modLp p f).chk = s.chk := rfl
@[simp] theorem modLp_time (s : State) (p : Fin 24) (f : LoopPair → LoopPair) : (s.modLp p f).time = s.time := rfl
@[simp] theorem modLp_running (s : State) (p : Fin 24) (f : LoopPair → LoopPair) : (s.modLp p f).running = s.running := rfl
@[simp] theorem modLp_rdata (s : State) (p : Fin 24) (f : LoopPair → LoopPair) : (s.modLp p f).rdata = s.rdata := rfl
@[simp] theorem modLp_free (s : State) (p : Fin 24) (f : LoopPair → LoopPair) : (s.modLp p f).free = s.free := rfl
@[simp] theorem modLp_sys (s : State) (p : Fin 24) (f : LoopPair → LoopPair) : (s.modLp p f).sys = s.sys := rfl
@[simp] theorem modLp_dma (s : State) (p : Fin 24) (f : LoopPair → LoopPair) : (s.modLp p f).dma = s.dma := rfl
@[simp] theorem modLp_man (s : State) (p : Fin 24) (f : LoopPair → LoopPair) : (s.modLp p f).man = s.man := rfl
@[simp] theorem modLp_pwm (s : State) (p : Fin 24) (f : LoopPair → LoopPair) : (s.modLp p f).pwm = s.pwm := rfl
@[simp] theorem modLp_qnc (s : State) (p : Fin 24) (f : LoopPair → LoopPair) : (s.modLp p f).qnc = s.qnc := rfl
@[simp] theorem modLp_cmp (s : State) (p : Fin 24) (f : LoopPair → LoopPair) : (s.modLp p f).cmp = s.cmp := rfl
@[simp] theorem modLp_hlm (s : State) (p : Fin 24) (f : LoopPair → LoopPair) : (s.modLp p f).hlm = s.hlm := rfl
@[simp] theorem modLp_aux (s : State) (p : Fin 24) (f : LoopPair → LoopPair) : (s.modLp p f).aux = s.aux := rfl
@[simp] theorem modLp_dcl (s : State) (p : Fin 24) (f : LoopPair → LoopPair) : (s.modLp p f).dcl = s.dcl := rfl
@[simp] theorem modLp_anv (s : State) (p : Fin 24) (f : LoopPair → LoopPair) : (s.modLp p f).anv = s.anv := rfl
@[simp] theorem modLp_fbk (s : State) (p : Fin 24) (f : LoopPair → LoopPair) : (s.modLp p f).fbk = s.fbk := rfl
@[simp] theorem modLp_sdm (s : State) (p : Fin 24) (f : LoopPair → LoopPair) : (s.modLp p f).sdm = s.sdm := rfl
@[simp] theorem modLp_loop (s : State) (p : Fin 24) (f : LoopPair → LoopPair) : (s.modLp p f).loop = s.loop := rfl
@[simp] theorem modLp_ken (s : State) (p : Fin 24) (f : LoopPair → LoopPair) : (s.modLp p f).ken = s.ken := rfl
@[simp] theorem modLp_asy (s : State) (p : Fin 24) (f : LoopPair → LoopPair) : (s.modLp p f).asy = s.asy := rfl
@[simp] theorem modLp_tap (s : State) (p : Fin 24) (f : LoopPair → LoopPair) : (s.modLp p f).tap = s.tap := rfl
@[simp] theorem modLp_mcv (s : State) (p : Fin 24) (f : LoopPair → LoopPair) : (s.modLp p f).mcv = s.mcv := rfl
@[simp] theorem modLp_lb (s : State) (p : Fin 24) (f : LoopPair → LoopPair) : (s.modLp p f).lb = s.lb := rfl
@[simp] theorem modLp_mbx (s : State) (p : Fin 24) (f : LoopPair → LoopPair) : (s.modLp p f).mbx = s.mbx := rfl
@[simp] theorem modLp_boot (s : State) (p : Fin 24) (f : LoopPair → LoopPair) : (s.modLp p f).boot = s.boot := rfl
@[simp] theorem modLp_fuse (s : State) (p : Fin 24) (f : LoopPair → LoopPair) : (s.modLp p f).fuse = s.fuse := rfl
@[simp] theorem modLp_post (s : State) (p : Fin 24) (f : LoopPair → LoopPair) : (s.modLp p f).post = s.post := rfl

@[simp] theorem advance_time (s : State) (t : Nat) : (s.advance t).time = max s.time t := rfl
@[simp] theorem setMemW_mem (s : State) (a : Nat) (w : Word) : (s.setMemW a w).mem = memSetWord s.mem a w := rfl
@[simp] theorem takeWord_word (s : State) : s.takeWord.1 = Config.freeWord s.free := rfl
@[simp] theorem takeWord_state (s : State) : s.takeWord.2 = { s with free := s.free + 1 } := rfl
@[simp] theorem takeBit_bit (s : State) : s.takeBit.1 = Config.freeBit s.free := rfl
@[simp] theorem takeBit_state (s : State) : s.takeBit.2 = { s with free := s.free + 1 } := rfl

/-! ## Registers -/

/-- A register written reads as written. -/
@[simp] theorem rd_wr (s : State) (r : Reg) (w : Word) : (s.wr r w).rd r = w := tabGet_set_same _ _ _ _ _

/-- A register written leaves the others. -/
theorem rd_wr_ne (s : State) (r q : Reg) (w : Word) (h : q ≠ r) : (s.wr r w).rd q = s.rd q := tabGet_set_ne _ _ _ _ _ _ h _

@[simp] theorem rd_noteHot (s : State) (r q : Reg) (m : Word) : (s.noteHot r m).rd q = s.rd q := rfl
@[simp] theorem rd_advance (s : State) (t : Nat) (q : Reg) : (s.advance t).rd q = s.rd q := rfl
@[simp] theorem rd_setMemW (s : State) (a : Nat) (w : Word) (q : Reg) : (s.setMemW a w).rd q = s.rd q := rfl
@[simp] theorem rd_modLp (s : State) (p : Fin 24) (f : LoopPair → LoopPair) (q : Reg) : (s.modLp p f).rd q = s.rd q := rfl
@[simp] theorem rd_modLoop (s : State) (f : LoopSt → LoopSt) (q : Reg) : (s.modLoop f).rd q = s.rd q := rfl
@[simp] theorem rd_modPost (s : State) (f : PostSt → PostSt) (q : Reg) : (s.modPost f).rd q = s.rd q := rfl

/-- The register of a field that is set. -/
@[simp] theorem rd_setF (s : State) (F : RF) (v : Nat) : (s.setF F v).rd F.reg = wPut (s.rd F.reg) F.lo F.width v := rd_wr _ _ _

theorem rd_setF_ne (s : State) (F : RF) (v : Nat) (q : Reg) (h : q ≠ F.reg) : (s.setF F v).rd q = s.rd q := rd_wr_ne _ _ _ _ h

theorem rd_raise_ne (s : State) (F : RF) (q : Reg) (h : q ≠ F.reg) : (s.raise F).rd q = s.rd q := rd_wr_ne _ _ _ _ h

/-- A field set reads as the low bits of what was set. -/
theorem f_setF (s : State) (F : RF) (v : Nat) (h : F.lo + F.width ≤ 32) : (s.setF F v).f F = v % 2 ^ F.width := by
  simp only [State.f, rd_setF, wGet_wPut_same _ _ _ _ h]

/-- A field set leaves the fields of other registers. -/
theorem f_setF_reg (s : State) (F G : RF) (v : Nat) (h : G.reg ≠ F.reg) : (s.setF F v).f G = s.f G := by
  simp only [State.f, rd_setF_ne s F v G.reg h]

/-- A field set leaves the fields beside it in its register. -/
theorem f_setF_beside (s : State) (F G : RF) (v : Nat) (hr : G.reg = F.reg) (hg : G.lo + G.width ≤ 32)
    (hd : G.lo + G.width ≤ F.lo ∨ F.lo + F.width ≤ G.lo) : (s.setF F v).f G = s.f G := by
  simp only [State.f, hr, rd_setF, wGet_wPut_ne _ _ _ _ _ _ hg hd]

theorem f_raise (s : State) (F : RF) (h : F.lo + F.width ≤ 32) : (s.raise F).f F = 1 % 2 ^ F.width := f_setF s F 1 h

theorem f_raise_reg (s : State) (F G : RF) (h : G.reg ≠ F.reg) : (s.raise F).f G = s.f G := f_setF_reg s F G 1 h

theorem f_raise_beside (s : State) (F G : RF) (hr : G.reg = F.reg) (hg : G.lo + G.width ≤ 32)
    (hd : G.lo + G.width ≤ F.lo ∨ F.lo + F.width ≤ G.lo) : (s.raise F).f G = s.f G := f_setF_beside s F G 1 hr hg hd

/-! ## Memory -/

/-- A byte set reads as set. -/
@[simp] theorem memGet_memSet_same (m : List Host.Cell) (a : Nat) (b : Byte) : memGet (memSet m a b) a = b := tabGet_set_same _ _ _ _ _

/-- A byte set leaves the others. -/
theorem memGet_memSet_ne (m : List Host.Cell) (a c : Nat) (b : Byte) (h : c ≠ a) : memGet (memSet m a b) c = memGet m c :=
  tabGet_set_ne _ _ _ _ _ _ h _

/-- A word set leaves the bytes outside it. -/
theorem memGet_memSetWord_ne (m : List Host.Cell) (a c : Nat) (w : Word) (h : c < a ∨ a + 4 ≤ c) :
    memGet (memSetWord m a w) c = memGet m c := by
  simp only [memSetWord]
  rw [memGet_memSet_ne _ _ _ _ (by omega), memGet_memSet_ne _ _ _ _ (by omega), memGet_memSet_ne _ _ _ _ (by omega),
    memGet_memSet_ne _ _ _ _ (by omega)]

/-- A word set reads as set. -/
@[simp] theorem memWord_memSetWord (m : List Host.Cell) (a : Nat) (w : Word) : memWord (memSetWord m a w) a = w := by
  simp only [memWord, memSetWord]
  rw [memGet_memSet_same, memGet_memSet_ne _ _ (a + 2) _ (by omega), memGet_memSet_same,
    memGet_memSet_ne _ _ (a + 1) _ (by omega), memGet_memSet_ne _ _ (a + 1) _ (by omega), memGet_memSet_same,
    memGet_memSet_ne _ _ a _ (by omega), memGet_memSet_ne _ _ a _ (by omega), memGet_memSet_ne _ _ a _ (by omega), memGet_memSet_same]
  apply BitVec.eq_of_getLsbD_eq
  intro i hi
  simp only [BitVec.getLsbD_append, BitVec.getLsbD_extractLsb']
  by_cases h1 : i < 8
  · simp [h1]
  · by_cases h2 : i - 8 < 8
    · simp [h1, h2, show 8 + (i - 8) = i by omega]
    · by_cases h3 : i - 8 - 8 < 8
      · simp [h1, h2, h3, show 16 + (i - 8 - 8) = i by omega]
      · simp [h1, h2, h3, show 24 + (i - 8 - 8 - 8) = i by omega, show i - 8 - 8 - 8 < 8 by omega]

/-- A word set elsewhere leaves a word. -/
theorem memWord_memSetWord_ne (m : List Host.Cell) (a c : Nat) (w : Word) (h : c + 4 ≤ a ∨ a + 4 ≤ c) :
    memWord (memSetWord m a w) c = memWord m c := by
  simp only [memWord]
  rw [memGet_memSetWord_ne _ _ _ _ (by omega), memGet_memSetWord_ne _ _ _ _ (by omega), memGet_memSetWord_ne _ _ _ _ (by omega),
    memGet_memSetWord_ne _ _ _ _ (by omega)]

@[simp] theorem memW_setMemW (s : State) (a : Nat) (w : Word) : (s.setMemW a w).memW a = w := memWord_memSetWord _ _ _

/-! ## The canonical form of memory -/

theorem memSet_wf (m : List Host.Cell) (a : Nat) (b : Byte) (h : tabWf id (fun _ => 0#8) m = true) :
    tabWf id (fun _ => 0#8) (memSet m a b) = true :=
  tabSet_wf id (fun _ => 0#8) a b m h fun _ hj => hj

theorem memSetWord_wf (m : List Host.Cell) (a : Nat) (w : Word) (h : tabWf id (fun _ => 0#8) m = true) :
    tabWf id (fun _ => 0#8) (memSetWord m a w) = true :=
  memSet_wf _ _ _ (memSet_wf _ _ _ (memSet_wf _ _ _ (memSet_wf _ _ _ h)))

theorem memClear_wf (m : List Host.Cell) (a n : Nat) (h : tabWf id (fun _ => 0#8) m = true) :
    tabWf id (fun _ => 0#8) (memClear m a n) = true := tabFilter_wf _ _ _ _ h

end Sys2Proof.Machine
end

