-- ==== Sys2Proof/Laws/Mem.lean ====
section
/-! SUPPORT. Every operation on memory keeps its canonical form, and what it changes. -/

namespace Sys2Proof.Machine

open Sys2Proof

/-- The canonical form of memory, said of a head and a tail. -/
theorem memWf_cons (c : Host.Cell) (m : List Host.Cell) :
    Memory.wf (c :: m) = true ↔ c.2 ≠ 0#8 ∧ (∀ x ∈ m, c.1 < x.1) ∧ Memory.wf m = true :=
  tabWf_cons id (fun _ => 0#8) c m

theorem memWf_set (m : List Host.Cell) (a : Nat) (b : Byte) (h : Memory.wf m = true) : Memory.wf (memSet m a b) = true :=
  memSet_wf m a b h

theorem memWf_setWord (m : List Host.Cell) (a : Nat) (w : Word) (h : Memory.wf m = true) : Memory.wf (memSetWord m a w) = true :=
  memSetWord_wf m a w h

theorem memWf_filter (m : List Host.Cell) (p : Host.Cell → Bool) (h : Memory.wf m = true) : Memory.wf (m.filter p) = true :=
  tabFilter_wf _ _ p m h

theorem memWf_clear (m : List Host.Cell) (a n : Nat) (h : Memory.wf m = true) : Memory.wf (memClear m a n) = true :=
  memWf_filter m _ h

/-- Two canonical pieces, one below a bound and one from it on. -/
theorem memWf_append (l r : List Host.Cell) (b : Nat) (hl : Memory.wf l = true) (hr : Memory.wf r = true) (h1 : ∀ c ∈ l, c.1 < b)
    (h2 : ∀ c ∈ r, b ≤ c.1) : Memory.wf (l ++ r) = true := by
  induction l with
  | nil => exact hr
  | cons e l ih =>
    obtain ⟨h3, h4, h5⟩ := (memWf_cons e l).mp hl
    refine (memWf_cons e (l ++ r)).mpr ⟨h3, ?_, ih h5 fun c hc => h1 c (by simp [hc])⟩
    intro x hx
    rcases List.mem_append.mp hx with hx | hx
    · exact h4 x hx
    · exact Nat.lt_of_lt_of_le (h1 e (by simp)) (h2 x hx)

/-- A piece moved to another place stays canonical. -/
theorem memWf_shift (m : List Host.Cell) (src dst : Nat) (h : Memory.wf m = true) (hs : ∀ c ∈ m, src ≤ c.1) :
    Memory.wf (m.map fun c => (c.1 - src + dst, c.2)) = true := by
  induction m with
  | nil => rfl
  | cons e m ih =>
    obtain ⟨h3, h4, h5⟩ := (memWf_cons e m).mp h
    have he : src ≤ e.1 := hs e (by simp)
    rw [List.map_cons]
    refine (memWf_cons _ _).mpr ⟨h3, ?_, ih h5 fun c hc => hs c (by simp [hc])⟩
    intro x hx
    obtain ⟨c, hc, rfl⟩ := List.mem_map.mp hx
    have := h4 c hc
    dsimp only
    omega

/-- A piece cut out and moved. -/
theorem memWf_slice (m : List Host.Cell) (src n dst : Nat) (h : Memory.wf m = true) : Memory.wf (memSlice m src n dst) = true :=
  memWf_shift _ src dst (memWf_filter _ _ h) fun c hc => by
    have := (List.mem_filter.mp hc).2
    simp only [Bool.and_eq_true, decide_eq_true_eq] at this
    exact this.1

theorem memSlice_range (m : List Host.Cell) (src n dst : Nat) : ∀ c ∈ memSlice m src n dst, dst ≤ c.1 ∧ c.1 < dst + n := by
  intro c hc
  obtain ⟨x, hx, rfl⟩ := List.mem_map.mp hc
  have := (List.mem_filter.mp hx).2
  simp only [Bool.and_eq_true, decide_eq_true_eq] at this
  dsimp only
  omega

/-- A piece put in place of a range. -/
theorem memWf_paste (m seg : List Host.Cell) (dst n : Nat) (h : Memory.wf m = true) (hs : Memory.wf seg = true)
    (hr : ∀ c ∈ seg, dst ≤ c.1 ∧ c.1 < dst + n) : Memory.wf (memPaste m dst n seg) = true := by
  unfold memPaste
  refine memWf_append _ _ (dst + n) (memWf_append _ _ dst (memWf_filter _ _ h) hs ?_ fun c hc => (hr c hc).1) (memWf_filter _ _ h) ?_ ?_
  · intro c hc; simpa using (List.mem_filter.mp hc).2
  · intro c hc
    rcases List.mem_append.mp hc with hc | hc
    · have : c.1 < dst := by simpa using (List.mem_filter.mp hc).2
      omega
    · exact (hr c hc).2
  · intro c hc; simpa using (List.mem_filter.mp hc).2

/-- A range copied to another place. -/
theorem memWf_copy (m : List Host.Cell) (src dst n : Nat) (h : Memory.wf m = true) : Memory.wf (memCopy m src dst n) = true :=
  memWf_paste m (memSlice m src n dst) dst n h (memWf_slice m src n dst h) (memSlice_range m src n dst)

/-- A range of one memory copied into another. -/
theorem memWf_into (src m : List Host.Cell) (a dst n : Nat) (hs : Memory.wf src = true) (h : Memory.wf m = true) :
    Memory.wf (memInto src a dst n m) = true :=
  memWf_paste m (memSlice src a n dst) dst n h (memWf_slice src a n dst hs) (memSlice_range src a n dst)

/-- The low bytes of a word. -/
theorem memWf_put (a width : Nat) (v : Word) (m : List Host.Cell) (h : Memory.wf m = true) : Memory.wf (memPut a width v m) = true := by
  unfold memPut
  generalize List.range width = l
  induction l generalizing m with
  | nil => exact h
  | cons i l ih => exact ih _ (memWf_set m _ _ h)

theorem memGet_memPut_ne (a width : Nat) (v : Word) (m : List Host.Cell) (c : Nat) (h : c < a ∨ a + width ≤ c) :
    memGet (memPut a width v m) c = memGet m c := by
  unfold memPut
  have hl : ∀ i ∈ List.range width, i < width := fun i hi => List.mem_range.mp hi
  revert hl
  generalize List.range width = l
  induction l generalizing m with
  | nil => intro _; rfl
  | cons i l ih =>
    intro hl
    have hi := hl i (by simp)
    rw [List.foldl_cons, ih _ fun j hj => hl j (by simp [hj]), memGet_memSet_ne _ _ _ _ (by omega)]

/-- Bytes written from an address up. -/
theorem memWf_putBytes (a : Nat) (l : List Byte) (m : List Host.Cell) (h : Memory.wf m = true) : Memory.wf (putBytes a l m) = true := by
  unfold putBytes
  induction l generalizing m a with
  | nil => exact h
  | cons b l ih => exact ih (a + 1) (memSet m a b) (memWf_set m a b h)

/-- Bytes written below or beyond an address leave it. -/
theorem memGet_putBytes_ne (a : Nat) (l : List Byte) (m : List Host.Cell) (c : Nat) (h : c < a ∨ a + l.length ≤ c) :
    memGet (putBytes a l m) c = memGet m c := by
  unfold putBytes
  induction l generalizing m a with
  | nil => rfl
  | cons b l ih =>
    simp only [List.length_cons] at h
    exact (ih (a + 1) (memSet m a b) (by omega)).trans (memGet_memSet_ne m a c b (by omega))

end Sys2Proof.Machine
end

