-- ==== Sys2Proof/Laws/Blocks.lean ====
section
/-! SUPPORT. What the updates of the blocks' records change and leave, one lemma per field and update, and what an agent's write does to
device time. -/

namespace Sys2Proof.Machine

open Sys2Proof

/-! ## modGen -/

@[simp] theorem modGen_pending (s : State) (n : Fin 8) (f : Gen → Gen) : (s.modGen n f).pending = s.pending := rfl
@[simp] theorem modGen_regs (s : State) (n : Fin 8) (f : Gen → Gen) : (s.modGen n f).regs = s.regs := rfl
@[simp] theorem modGen_mem (s : State) (n : Fin 8) (f : Gen → Gen) : (s.modGen n f).mem = s.mem := rfl
@[simp] theorem modGen_chk (s : State) (n : Fin 8) (f : Gen → Gen) : (s.modGen n f).chk = s.chk := rfl
@[simp] theorem modGen_time (s : State) (n : Fin 8) (f : Gen → Gen) : (s.modGen n f).time = s.time := rfl
@[simp] theorem modGen_running (s : State) (n : Fin 8) (f : Gen → Gen) : (s.modGen n f).running = s.running := rfl
@[simp] theorem modGen_rdata (s : State) (n : Fin 8) (f : Gen → Gen) : (s.modGen n f).rdata = s.rdata := rfl
@[simp] theorem modGen_free (s : State) (n : Fin 8) (f : Gen → Gen) : (s.modGen n f).free = s.free := rfl
@[simp] theorem modGen_sys (s : State) (n : Fin 8) (f : Gen → Gen) : (s.modGen n f).sys = s.sys := rfl
@[simp] theorem modGen_dma (s : State) (n : Fin 8) (f : Gen → Gen) : (s.modGen n f).dma = s.dma := rfl
@[simp] theorem modGen_pwm (s : State) (n : Fin 8) (f : Gen → Gen) : (s.modGen n f).pwm = s.pwm := rfl
@[simp] theorem modGen_qnc (s : State) (n : Fin 8) (f : Gen → Gen) : (s.modGen n f).qnc = s.qnc := rfl
@[simp] theorem modGen_cmp (s : State) (n : Fin 8) (f : Gen → Gen) : (s.modGen n f).cmp = s.cmp := rfl
@[simp] theorem modGen_hlm (s : State) (n : Fin 8) (f : Gen → Gen) : (s.modGen n f).hlm = s.hlm := rfl
@[simp] theorem modGen_aux (s : State) (n : Fin 8) (f : Gen → Gen) : (s.modGen n f).aux = s.aux := rfl
@[simp] theorem modGen_dcl (s : State) (n : Fin 8) (f : Gen → Gen) : (s.modGen n f).dcl = s.dcl := rfl
@[simp] theorem modGen_anv (s : State) (n : Fin 8) (f : Gen → Gen) : (s.modGen n f).anv = s.anv := rfl
@[simp] theorem modGen_fbk (s : State) (n : Fin 8) (f : Gen → Gen) : (s.modGen n f).fbk = s.fbk := rfl
@[simp] theorem modGen_sdm (s : State) (n : Fin 8) (f : Gen → Gen) : (s.modGen n f).sdm = s.sdm := rfl
@[simp] theorem modGen_loop (s : State) (n : Fin 8) (f : Gen → Gen) : (s.modGen n f).loop = s.loop := rfl
@[simp] theorem modGen_pair (s : State) (n : Fin 8) (f : Gen → Gen) : (s.modGen n f).pair = s.pair := rfl
@[simp] theorem modGen_ken (s : State) (n : Fin 8) (f : Gen → Gen) : (s.modGen n f).ken = s.ken := rfl
@[simp] theorem modGen_asy (s : State) (n : Fin 8) (f : Gen → Gen) : (s.modGen n f).asy = s.asy := rfl
@[simp] theorem modGen_tap (s : State) (n : Fin 8) (f : Gen → Gen) : (s.modGen n f).tap = s.tap := rfl
@[simp] theorem modGen_mcv (s : State) (n : Fin 8) (f : Gen → Gen) : (s.modGen n f).mcv = s.mcv := rfl
@[simp] theorem modGen_lb (s : State) (n : Fin 8) (f : Gen → Gen) : (s.modGen n f).lb = s.lb := rfl
@[simp] theorem modGen_mbx (s : State) (n : Fin 8) (f : Gen → Gen) : (s.modGen n f).mbx = s.mbx := rfl
@[simp] theorem modGen_boot (s : State) (n : Fin 8) (f : Gen → Gen) : (s.modGen n f).boot = s.boot := rfl
@[simp] theorem modGen_fuse (s : State) (n : Fin 8) (f : Gen → Gen) : (s.modGen n f).fuse = s.fuse := rfl
@[simp] theorem modGen_post (s : State) (n : Fin 8) (f : Gen → Gen) : (s.modGen n f).post = s.post := rfl
@[simp] theorem rd_modGen (s : State) (n : Fin 8) (f : Gen → Gen) (q : Reg) : (s.modGen n f).rd q = s.rd q := rfl
@[simp] theorem f_modGen (s : State) (n : Fin 8) (f : Gen → Gen) (F : RF) : (s.modGen n f).f F = s.f F := rfl
@[simp] theorem flag_modGen (s : State) (n : Fin 8) (f : Gen → Gen) (F : RF) : (s.modGen n f).flag F = s.flag F := rfl
@[simp] theorem memW_modGen (s : State) (n : Fin 8) (f : Gen → Gen) (a : Nat) : (s.modGen n f).memW a = s.memW a := rfl

/-! ## modGrp -/

@[simp] theorem modGrp_pending (s : State) (g : Fin 16) (f : Group → Group) : (s.modGrp g f).pending = s.pending := rfl
@[simp] theorem modGrp_regs (s : State) (g : Fin 16) (f : Group → Group) : (s.modGrp g f).regs = s.regs := rfl
@[simp] theorem modGrp_mem (s : State) (g : Fin 16) (f : Group → Group) : (s.modGrp g f).mem = s.mem := rfl
@[simp] theorem modGrp_chk (s : State) (g : Fin 16) (f : Group → Group) : (s.modGrp g f).chk = s.chk := rfl
@[simp] theorem modGrp_time (s : State) (g : Fin 16) (f : Group → Group) : (s.modGrp g f).time = s.time := rfl
@[simp] theorem modGrp_running (s : State) (g : Fin 16) (f : Group → Group) : (s.modGrp g f).running = s.running := rfl
@[simp] theorem modGrp_rdata (s : State) (g : Fin 16) (f : Group → Group) : (s.modGrp g f).rdata = s.rdata := rfl
@[simp] theorem modGrp_free (s : State) (g : Fin 16) (f : Group → Group) : (s.modGrp g f).free = s.free := rfl
@[simp] theorem modGrp_sys (s : State) (g : Fin 16) (f : Group → Group) : (s.modGrp g f).sys = s.sys := rfl
@[simp] theorem modGrp_dma (s : State) (g : Fin 16) (f : Group → Group) : (s.modGrp g f).dma = s.dma := rfl
@[simp] theorem modGrp_man (s : State) (g : Fin 16) (f : Group → Group) : (s.modGrp g f).man = s.man := rfl
@[simp] theorem modGrp_qnc (s : State) (g : Fin 16) (f : Group → Group) : (s.modGrp g f).qnc = s.qnc := rfl
@[simp] theorem modGrp_cmp (s : State) (g : Fin 16) (f : Group → Group) : (s.modGrp g f).cmp = s.cmp := rfl
@[simp] theorem modGrp_hlm (s : State) (g : Fin 16) (f : Group → Group) : (s.modGrp g f).hlm = s.hlm := rfl
@[simp] theorem modGrp_aux (s : State) (g : Fin 16) (f : Group → Group) : (s.modGrp g f).aux = s.aux := rfl
@[simp] theorem modGrp_dcl (s : State) (g : Fin 16) (f : Group → Group) : (s.modGrp g f).dcl = s.dcl := rfl
@[simp] theorem modGrp_anv (s : State) (g : Fin 16) (f : Group → Group) : (s.modGrp g f).anv = s.anv := rfl
@[simp] theorem modGrp_fbk (s : State) (g : Fin 16) (f : Group → Group) : (s.modGrp g f).fbk = s.fbk := rfl
@[simp] theorem modGrp_sdm (s : State) (g : Fin 16) (f : Group → Group) : (s.modGrp g f).sdm = s.sdm := rfl
@[simp] theorem modGrp_loop (s : State) (g : Fin 16) (f : Group → Group) : (s.modGrp g f).loop = s.loop := rfl
@[simp] theorem modGrp_pair (s : State) (g : Fin 16) (f : Group → Group) : (s.modGrp g f).pair = s.pair := rfl
@[simp] theorem modGrp_ken (s : State) (g : Fin 16) (f : Group → Group) : (s.modGrp g f).ken = s.ken := rfl
@[simp] theorem modGrp_asy (s : State) (g : Fin 16) (f : Group → Group) : (s.modGrp g f).asy = s.asy := rfl
@[simp] theorem modGrp_tap (s : State) (g : Fin 16) (f : Group → Group) : (s.modGrp g f).tap = s.tap := rfl
@[simp] theorem modGrp_mcv (s : State) (g : Fin 16) (f : Group → Group) : (s.modGrp g f).mcv = s.mcv := rfl
@[simp] theorem modGrp_lb (s : State) (g : Fin 16) (f : Group → Group) : (s.modGrp g f).lb = s.lb := rfl
@[simp] theorem modGrp_mbx (s : State) (g : Fin 16) (f : Group → Group) : (s.modGrp g f).mbx = s.mbx := rfl
@[simp] theorem modGrp_boot (s : State) (g : Fin 16) (f : Group → Group) : (s.modGrp g f).boot = s.boot := rfl
@[simp] theorem modGrp_fuse (s : State) (g : Fin 16) (f : Group → Group) : (s.modGrp g f).fuse = s.fuse := rfl
@[simp] theorem modGrp_post (s : State) (g : Fin 16) (f : Group → Group) : (s.modGrp g f).post = s.post := rfl
@[simp] theorem rd_modGrp (s : State) (g : Fin 16) (f : Group → Group) (q : Reg) : (s.modGrp g f).rd q = s.rd q := rfl
@[simp] theorem f_modGrp (s : State) (g : Fin 16) (f : Group → Group) (F : RF) : (s.modGrp g f).f F = s.f F := rfl
@[simp] theorem flag_modGrp (s : State) (g : Fin 16) (f : Group → Group) (F : RF) : (s.modGrp g f).flag F = s.flag F := rfl
@[simp] theorem memW_modGrp (s : State) (g : Fin 16) (f : Group → Group) (a : Nat) : (s.modGrp g f).memW a = s.memW a := rfl

/-! ## modCell -/

@[simp] theorem modCell_pending (s : State) (g : Fin 16) (c : Fin 9) (f : GCell → GCell) : (s.modCell g c f).pending = s.pending := rfl
@[simp] theorem modCell_regs (s : State) (g : Fin 16) (c : Fin 9) (f : GCell → GCell) : (s.modCell g c f).regs = s.regs := rfl
@[simp] theorem modCell_mem (s : State) (g : Fin 16) (c : Fin 9) (f : GCell → GCell) : (s.modCell g c f).mem = s.mem := rfl
@[simp] theorem modCell_chk (s : State) (g : Fin 16) (c : Fin 9) (f : GCell → GCell) : (s.modCell g c f).chk = s.chk := rfl
@[simp] theorem modCell_time (s : State) (g : Fin 16) (c : Fin 9) (f : GCell → GCell) : (s.modCell g c f).time = s.time := rfl
@[simp] theorem modCell_running (s : State) (g : Fin 16) (c : Fin 9) (f : GCell → GCell) : (s.modCell g c f).running = s.running := rfl
@[simp] theorem modCell_rdata (s : State) (g : Fin 16) (c : Fin 9) (f : GCell → GCell) : (s.modCell g c f).rdata = s.rdata := rfl
@[simp] theorem modCell_free (s : State) (g : Fin 16) (c : Fin 9) (f : GCell → GCell) : (s.modCell g c f).free = s.free := rfl
@[simp] theorem modCell_sys (s : State) (g : Fin 16) (c : Fin 9) (f : GCell → GCell) : (s.modCell g c f).sys = s.sys := rfl
@[simp] theorem modCell_dma (s : State) (g : Fin 16) (c : Fin 9) (f : GCell → GCell) : (s.modCell g c f).dma = s.dma := rfl
@[simp] theorem modCell_man (s : State) (g : Fin 16) (c : Fin 9) (f : GCell → GCell) : (s.modCell g c f).man = s.man := rfl
@[simp] theorem modCell_qnc (s : State) (g : Fin 16) (c : Fin 9) (f : GCell → GCell) : (s.modCell g c f).qnc = s.qnc := rfl
@[simp] theorem modCell_cmp (s : State) (g : Fin 16) (c : Fin 9) (f : GCell → GCell) : (s.modCell g c f).cmp = s.cmp := rfl
@[simp] theorem modCell_hlm (s : State) (g : Fin 16) (c : Fin 9) (f : GCell → GCell) : (s.modCell g c f).hlm = s.hlm := rfl
@[simp] theorem modCell_aux (s : State) (g : Fin 16) (c : Fin 9) (f : GCell → GCell) : (s.modCell g c f).aux = s.aux := rfl
@[simp] theorem modCell_dcl (s : State) (g : Fin 16) (c : Fin 9) (f : GCell → GCell) : (s.modCell g c f).dcl = s.dcl := rfl
@[simp] theorem modCell_anv (s : State) (g : Fin 16) (c : Fin 9) (f : GCell → GCell) : (s.modCell g c f).anv = s.anv := rfl
@[simp] theorem modCell_fbk (s : State) (g : Fin 16) (c : Fin 9) (f : GCell → GCell) : (s.modCell g c f).fbk = s.fbk := rfl
@[simp] theorem modCell_sdm (s : State) (g : Fin 16) (c : Fin 9) (f : GCell → GCell) : (s.modCell g c f).sdm = s.sdm := rfl
@[simp] theorem modCell_loop (s : State) (g : Fin 16) (c : Fin 9) (f : GCell → GCell) : (s.modCell g c f).loop = s.loop := rfl
@[simp] theorem modCell_pair (s : State) (g : Fin 16) (c : Fin 9) (f : GCell → GCell) : (s.modCell g c f).pair = s.pair := rfl
@[simp] theorem modCell_ken (s : State) (g : Fin 16) (c : Fin 9) (f : GCell → GCell) : (s.modCell g c f).ken = s.ken := rfl
@[simp] theorem modCell_asy (s : State) (g : Fin 16) (c : Fin 9) (f : GCell → GCell) : (s.modCell g c f).asy = s.asy := rfl
@[simp] theorem modCell_tap (s : State) (g : Fin 16) (c : Fin 9) (f : GCell → GCell) : (s.modCell g c f).tap = s.tap := rfl
@[simp] theorem modCell_mcv (s : State) (g : Fin 16) (c : Fin 9) (f : GCell → GCell) : (s.modCell g c f).mcv = s.mcv := rfl
@[simp] theorem modCell_lb (s : State) (g : Fin 16) (c : Fin 9) (f : GCell → GCell) : (s.modCell g c f).lb = s.lb := rfl
@[simp] theorem modCell_mbx (s : State) (g : Fin 16) (c : Fin 9) (f : GCell → GCell) : (s.modCell g c f).mbx = s.mbx := rfl
@[simp] theorem modCell_boot (s : State) (g : Fin 16) (c : Fin 9) (f : GCell → GCell) : (s.modCell g c f).boot = s.boot := rfl
@[simp] theorem modCell_fuse (s : State) (g : Fin 16) (c : Fin 9) (f : GCell → GCell) : (s.modCell g c f).fuse = s.fuse := rfl
@[simp] theorem modCell_post (s : State) (g : Fin 16) (c : Fin 9) (f : GCell → GCell) : (s.modCell g c f).post = s.post := rfl
@[simp] theorem rd_modCell (s : State) (g : Fin 16) (c : Fin 9) (f : GCell → GCell) (q : Reg) : (s.modCell g c f).rd q = s.rd q := rfl
@[simp] theorem f_modCell (s : State) (g : Fin 16) (c : Fin 9) (f : GCell → GCell) (F : RF) : (s.modCell g c f).f F = s.f F := rfl
@[simp] theorem flag_modCell (s : State) (g : Fin 16) (c : Fin 9) (f : GCell → GCell) (F : RF) : (s.modCell g c f).flag F = s.flag F := rfl
@[simp] theorem memW_modCell (s : State) (g : Fin 16) (c : Fin 9) (f : GCell → GCell) (a : Nat) : (s.modCell g c f).memW a = s.memW a := rfl

/-! ## modCells -/

@[simp] theorem modCells_pending (s : State) (g : Fin 16) (f : GCell → GCell) : (s.modCells g f).pending = s.pending := rfl
@[simp] theorem modCells_regs (s : State) (g : Fin 16) (f : GCell → GCell) : (s.modCells g f).regs = s.regs := rfl
@[simp] theorem modCells_mem (s : State) (g : Fin 16) (f : GCell → GCell) : (s.modCells g f).mem = s.mem := rfl
@[simp] theorem modCells_chk (s : State) (g : Fin 16) (f : GCell → GCell) : (s.modCells g f).chk = s.chk := rfl
@[simp] theorem modCells_time (s : State) (g : Fin 16) (f : GCell → GCell) : (s.modCells g f).time = s.time := rfl
@[simp] theorem modCells_running (s : State) (g : Fin 16) (f : GCell → GCell) : (s.modCells g f).running = s.running := rfl
@[simp] theorem modCells_rdata (s : State) (g : Fin 16) (f : GCell → GCell) : (s.modCells g f).rdata = s.rdata := rfl
@[simp] theorem modCells_free (s : State) (g : Fin 16) (f : GCell → GCell) : (s.modCells g f).free = s.free := rfl
@[simp] theorem modCells_sys (s : State) (g : Fin 16) (f : GCell → GCell) : (s.modCells g f).sys = s.sys := rfl
@[simp] theorem modCells_dma (s : State) (g : Fin 16) (f : GCell → GCell) : (s.modCells g f).dma = s.dma := rfl
@[simp] theorem modCells_man (s : State) (g : Fin 16) (f : GCell → GCell) : (s.modCells g f).man = s.man := rfl
@[simp] theorem modCells_qnc (s : State) (g : Fin 16) (f : GCell → GCell) : (s.modCells g f).qnc = s.qnc := rfl
@[simp] theorem modCells_cmp (s : State) (g : Fin 16) (f : GCell → GCell) : (s.modCells g f).cmp = s.cmp := rfl
@[simp] theorem modCells_hlm (s : State) (g : Fin 16) (f : GCell → GCell) : (s.modCells g f).hlm = s.hlm := rfl
@[simp] theorem modCells_aux (s : State) (g : Fin 16) (f : GCell → GCell) : (s.modCells g f).aux = s.aux := rfl
@[simp] theorem modCells_dcl (s : State) (g : Fin 16) (f : GCell → GCell) : (s.modCells g f).dcl = s.dcl := rfl
@[simp] theorem modCells_anv (s : State) (g : Fin 16) (f : GCell → GCell) : (s.modCells g f).anv = s.anv := rfl
@[simp] theorem modCells_fbk (s : State) (g : Fin 16) (f : GCell → GCell) : (s.modCells g f).fbk = s.fbk := rfl
@[simp] theorem modCells_sdm (s : State) (g : Fin 16) (f : GCell → GCell) : (s.modCells g f).sdm = s.sdm := rfl
@[simp] theorem modCells_loop (s : State) (g : Fin 16) (f : GCell → GCell) : (s.modCells g f).loop = s.loop := rfl
@[simp] theorem modCells_pair (s : State) (g : Fin 16) (f : GCell → GCell) : (s.modCells g f).pair = s.pair := rfl
@[simp] theorem modCells_ken (s : State) (g : Fin 16) (f : GCell → GCell) : (s.modCells g f).ken = s.ken := rfl
@[simp] theorem modCells_asy (s : State) (g : Fin 16) (f : GCell → GCell) : (s.modCells g f).asy = s.asy := rfl
@[simp] theorem modCells_tap (s : State) (g : Fin 16) (f : GCell → GCell) : (s.modCells g f).tap = s.tap := rfl
@[simp] theorem modCells_mcv (s : State) (g : Fin 16) (f : GCell → GCell) : (s.modCells g f).mcv = s.mcv := rfl
@[simp] theorem modCells_lb (s : State) (g : Fin 16) (f : GCell → GCell) : (s.modCells g f).lb = s.lb := rfl
@[simp] theorem modCells_mbx (s : State) (g : Fin 16) (f : GCell → GCell) : (s.modCells g f).mbx = s.mbx := rfl
@[simp] theorem modCells_boot (s : State) (g : Fin 16) (f : GCell → GCell) : (s.modCells g f).boot = s.boot := rfl
@[simp] theorem modCells_fuse (s : State) (g : Fin 16) (f : GCell → GCell) : (s.modCells g f).fuse = s.fuse := rfl
@[simp] theorem modCells_post (s : State) (g : Fin 16) (f : GCell → GCell) : (s.modCells g f).post = s.post := rfl
@[simp] theorem rd_modCells (s : State) (g : Fin 16) (f : GCell → GCell) (q : Reg) : (s.modCells g f).rd q = s.rd q := rfl
@[simp] theorem f_modCells (s : State) (g : Fin 16) (f : GCell → GCell) (F : RF) : (s.modCells g f).f F = s.f F := rfl
@[simp] theorem flag_modCells (s : State) (g : Fin 16) (f : GCell → GCell) (F : RF) : (s.modCells g f).flag F = s.flag F := rfl
@[simp] theorem memW_modCells (s : State) (g : Fin 16) (f : GCell → GCell) (a : Nat) : (s.modCells g f).memW a = s.memW a := rfl

/-! ## modQnc -/

@[simp] theorem modQnc_pending (s : State) (f : QncSt → QncSt) : (s.modQnc f).pending = s.pending := rfl
@[simp] theorem modQnc_regs (s : State) (f : QncSt → QncSt) : (s.modQnc f).regs = s.regs := rfl
@[simp] theorem modQnc_mem (s : State) (f : QncSt → QncSt) : (s.modQnc f).mem = s.mem := rfl
@[simp] theorem modQnc_chk (s : State) (f : QncSt → QncSt) : (s.modQnc f).chk = s.chk := rfl
@[simp] theorem modQnc_time (s : State) (f : QncSt → QncSt) : (s.modQnc f).time = s.time := rfl
@[simp] theorem modQnc_running (s : State) (f : QncSt → QncSt) : (s.modQnc f).running = s.running := rfl
@[simp] theorem modQnc_rdata (s : State) (f : QncSt → QncSt) : (s.modQnc f).rdata = s.rdata := rfl
@[simp] theorem modQnc_free (s : State) (f : QncSt → QncSt) : (s.modQnc f).free = s.free := rfl
@[simp] theorem modQnc_sys (s : State) (f : QncSt → QncSt) : (s.modQnc f).sys = s.sys := rfl
@[simp] theorem modQnc_dma (s : State) (f : QncSt → QncSt) : (s.modQnc f).dma = s.dma := rfl
@[simp] theorem modQnc_man (s : State) (f : QncSt → QncSt) : (s.modQnc f).man = s.man := rfl
@[simp] theorem modQnc_pwm (s : State) (f : QncSt → QncSt) : (s.modQnc f).pwm = s.pwm := rfl
@[simp] theorem modQnc_cmp (s : State) (f : QncSt → QncSt) : (s.modQnc f).cmp = s.cmp := rfl
@[simp] theorem modQnc_hlm (s : State) (f : QncSt → QncSt) : (s.modQnc f).hlm = s.hlm := rfl
@[simp] theorem modQnc_aux (s : State) (f : QncSt → QncSt) : (s.modQnc f).aux = s.aux := rfl
@[simp] theorem modQnc_dcl (s : State) (f : QncSt → QncSt) : (s.modQnc f).dcl = s.dcl := rfl
@[simp] theorem modQnc_anv (s : State) (f : QncSt → QncSt) : (s.modQnc f).anv = s.anv := rfl
@[simp] theorem modQnc_fbk (s : State) (f : QncSt → QncSt) : (s.modQnc f).fbk = s.fbk := rfl
@[simp] theorem modQnc_sdm (s : State) (f : QncSt → QncSt) : (s.modQnc f).sdm = s.sdm := rfl
@[simp] theorem modQnc_loop (s : State) (f : QncSt → QncSt) : (s.modQnc f).loop = s.loop := rfl
@[simp] theorem modQnc_pair (s : State) (f : QncSt → QncSt) : (s.modQnc f).pair = s.pair := rfl
@[simp] theorem modQnc_ken (s : State) (f : QncSt → QncSt) : (s.modQnc f).ken = s.ken := rfl
@[simp] theorem modQnc_asy (s : State) (f : QncSt → QncSt) : (s.modQnc f).asy = s.asy := rfl
@[simp] theorem modQnc_tap (s : State) (f : QncSt → QncSt) : (s.modQnc f).tap = s.tap := rfl
@[simp] theorem modQnc_mcv (s : State) (f : QncSt → QncSt) : (s.modQnc f).mcv = s.mcv := rfl
@[simp] theorem modQnc_lb (s : State) (f : QncSt → QncSt) : (s.modQnc f).lb = s.lb := rfl
@[simp] theorem modQnc_mbx (s : State) (f : QncSt → QncSt) : (s.modQnc f).mbx = s.mbx := rfl
@[simp] theorem modQnc_boot (s : State) (f : QncSt → QncSt) : (s.modQnc f).boot = s.boot := rfl
@[simp] theorem modQnc_fuse (s : State) (f : QncSt → QncSt) : (s.modQnc f).fuse = s.fuse := rfl
@[simp] theorem modQnc_post (s : State) (f : QncSt → QncSt) : (s.modQnc f).post = s.post := rfl
@[simp] theorem rd_modQnc (s : State) (f : QncSt → QncSt) (q : Reg) : (s.modQnc f).rd q = s.rd q := rfl
@[simp] theorem f_modQnc (s : State) (f : QncSt → QncSt) (F : RF) : (s.modQnc f).f F = s.f F := rfl
@[simp] theorem flag_modQnc (s : State) (f : QncSt → QncSt) (F : RF) : (s.modQnc f).flag F = s.flag F := rfl
@[simp] theorem memW_modQnc (s : State) (f : QncSt → QncSt) (a : Nat) : (s.modQnc f).memW a = s.memW a := rfl

/-! ## modHlm -/

@[simp] theorem modHlm_pending (s : State) (f : HlmSt → HlmSt) : (s.modHlm f).pending = s.pending := rfl
@[simp] theorem modHlm_regs (s : State) (f : HlmSt → HlmSt) : (s.modHlm f).regs = s.regs := rfl
@[simp] theorem modHlm_mem (s : State) (f : HlmSt → HlmSt) : (s.modHlm f).mem = s.mem := rfl
@[simp] theorem modHlm_chk (s : State) (f : HlmSt → HlmSt) : (s.modHlm f).chk = s.chk := rfl
@[simp] theorem modHlm_time (s : State) (f : HlmSt → HlmSt) : (s.modHlm f).time = s.time := rfl
@[simp] theorem modHlm_running (s : State) (f : HlmSt → HlmSt) : (s.modHlm f).running = s.running := rfl
@[simp] theorem modHlm_rdata (s : State) (f : HlmSt → HlmSt) : (s.modHlm f).rdata = s.rdata := rfl
@[simp] theorem modHlm_free (s : State) (f : HlmSt → HlmSt) : (s.modHlm f).free = s.free := rfl
@[simp] theorem modHlm_sys (s : State) (f : HlmSt → HlmSt) : (s.modHlm f).sys = s.sys := rfl
@[simp] theorem modHlm_dma (s : State) (f : HlmSt → HlmSt) : (s.modHlm f).dma = s.dma := rfl
@[simp] theorem modHlm_man (s : State) (f : HlmSt → HlmSt) : (s.modHlm f).man = s.man := rfl
@[simp] theorem modHlm_pwm (s : State) (f : HlmSt → HlmSt) : (s.modHlm f).pwm = s.pwm := rfl
@[simp] theorem modHlm_qnc (s : State) (f : HlmSt → HlmSt) : (s.modHlm f).qnc = s.qnc := rfl
@[simp] theorem modHlm_cmp (s : State) (f : HlmSt → HlmSt) : (s.modHlm f).cmp = s.cmp := rfl
@[simp] theorem modHlm_aux (s : State) (f : HlmSt → HlmSt) : (s.modHlm f).aux = s.aux := rfl
@[simp] theorem modHlm_dcl (s : State) (f : HlmSt → HlmSt) : (s.modHlm f).dcl = s.dcl := rfl
@[simp] theorem modHlm_anv (s : State) (f : HlmSt → HlmSt) : (s.modHlm f).anv = s.anv := rfl
@[simp] theorem modHlm_fbk (s : State) (f : HlmSt → HlmSt) : (s.modHlm f).fbk = s.fbk := rfl
@[simp] theorem modHlm_sdm (s : State) (f : HlmSt → HlmSt) : (s.modHlm f).sdm = s.sdm := rfl
@[simp] theorem modHlm_loop (s : State) (f : HlmSt → HlmSt) : (s.modHlm f).loop = s.loop := rfl
@[simp] theorem modHlm_pair (s : State) (f : HlmSt → HlmSt) : (s.modHlm f).pair = s.pair := rfl
@[simp] theorem modHlm_ken (s : State) (f : HlmSt → HlmSt) : (s.modHlm f).ken = s.ken := rfl
@[simp] theorem modHlm_asy (s : State) (f : HlmSt → HlmSt) : (s.modHlm f).asy = s.asy := rfl
@[simp] theorem modHlm_tap (s : State) (f : HlmSt → HlmSt) : (s.modHlm f).tap = s.tap := rfl
@[simp] theorem modHlm_mcv (s : State) (f : HlmSt → HlmSt) : (s.modHlm f).mcv = s.mcv := rfl
@[simp] theorem modHlm_lb (s : State) (f : HlmSt → HlmSt) : (s.modHlm f).lb = s.lb := rfl
@[simp] theorem modHlm_mbx (s : State) (f : HlmSt → HlmSt) : (s.modHlm f).mbx = s.mbx := rfl
@[simp] theorem modHlm_boot (s : State) (f : HlmSt → HlmSt) : (s.modHlm f).boot = s.boot := rfl
@[simp] theorem modHlm_fuse (s : State) (f : HlmSt → HlmSt) : (s.modHlm f).fuse = s.fuse := rfl
@[simp] theorem modHlm_post (s : State) (f : HlmSt → HlmSt) : (s.modHlm f).post = s.post := rfl
@[simp] theorem rd_modHlm (s : State) (f : HlmSt → HlmSt) (q : Reg) : (s.modHlm f).rd q = s.rd q := rfl
@[simp] theorem f_modHlm (s : State) (f : HlmSt → HlmSt) (F : RF) : (s.modHlm f).f F = s.f F := rfl
@[simp] theorem flag_modHlm (s : State) (f : HlmSt → HlmSt) (F : RF) : (s.modHlm f).flag F = s.flag F := rfl
@[simp] theorem memW_modHlm (s : State) (f : HlmSt → HlmSt) (a : Nat) : (s.modHlm f).memW a = s.memW a := rfl

/-! ## modAux -/

@[simp] theorem modAux_pending (s : State) (n : Fin 8) (f : AuxCh → AuxCh) : (s.modAux n f).pending = s.pending := rfl
@[simp] theorem modAux_regs (s : State) (n : Fin 8) (f : AuxCh → AuxCh) : (s.modAux n f).regs = s.regs := rfl
@[simp] theorem modAux_mem (s : State) (n : Fin 8) (f : AuxCh → AuxCh) : (s.modAux n f).mem = s.mem := rfl
@[simp] theorem modAux_chk (s : State) (n : Fin 8) (f : AuxCh → AuxCh) : (s.modAux n f).chk = s.chk := rfl
@[simp] theorem modAux_time (s : State) (n : Fin 8) (f : AuxCh → AuxCh) : (s.modAux n f).time = s.time := rfl
@[simp] theorem modAux_running (s : State) (n : Fin 8) (f : AuxCh → AuxCh) : (s.modAux n f).running = s.running := rfl
@[simp] theorem modAux_rdata (s : State) (n : Fin 8) (f : AuxCh → AuxCh) : (s.modAux n f).rdata = s.rdata := rfl
@[simp] theorem modAux_free (s : State) (n : Fin 8) (f : AuxCh → AuxCh) : (s.modAux n f).free = s.free := rfl
@[simp] theorem modAux_sys (s : State) (n : Fin 8) (f : AuxCh → AuxCh) : (s.modAux n f).sys = s.sys := rfl
@[simp] theorem modAux_dma (s : State) (n : Fin 8) (f : AuxCh → AuxCh) : (s.modAux n f).dma = s.dma := rfl
@[simp] theorem modAux_man (s : State) (n : Fin 8) (f : AuxCh → AuxCh) : (s.modAux n f).man = s.man := rfl
@[simp] theorem modAux_pwm (s : State) (n : Fin 8) (f : AuxCh → AuxCh) : (s.modAux n f).pwm = s.pwm := rfl
@[simp] theorem modAux_qnc (s : State) (n : Fin 8) (f : AuxCh → AuxCh) : (s.modAux n f).qnc = s.qnc := rfl
@[simp] theorem modAux_cmp (s : State) (n : Fin 8) (f : AuxCh → AuxCh) : (s.modAux n f).cmp = s.cmp := rfl
@[simp] theorem modAux_hlm (s : State) (n : Fin 8) (f : AuxCh → AuxCh) : (s.modAux n f).hlm = s.hlm := rfl
@[simp] theorem modAux_dcl (s : State) (n : Fin 8) (f : AuxCh → AuxCh) : (s.modAux n f).dcl = s.dcl := rfl
@[simp] theorem modAux_anv (s : State) (n : Fin 8) (f : AuxCh → AuxCh) : (s.modAux n f).anv = s.anv := rfl
@[simp] theorem modAux_fbk (s : State) (n : Fin 8) (f : AuxCh → AuxCh) : (s.modAux n f).fbk = s.fbk := rfl
@[simp] theorem modAux_sdm (s : State) (n : Fin 8) (f : AuxCh → AuxCh) : (s.modAux n f).sdm = s.sdm := rfl
@[simp] theorem modAux_loop (s : State) (n : Fin 8) (f : AuxCh → AuxCh) : (s.modAux n f).loop = s.loop := rfl
@[simp] theorem modAux_pair (s : State) (n : Fin 8) (f : AuxCh → AuxCh) : (s.modAux n f).pair = s.pair := rfl
@[simp] theorem modAux_ken (s : State) (n : Fin 8) (f : AuxCh → AuxCh) : (s.modAux n f).ken = s.ken := rfl
@[simp] theorem modAux_asy (s : State) (n : Fin 8) (f : AuxCh → AuxCh) : (s.modAux n f).asy = s.asy := rfl
@[simp] theorem modAux_tap (s : State) (n : Fin 8) (f : AuxCh → AuxCh) : (s.modAux n f).tap = s.tap := rfl
@[simp] theorem modAux_mcv (s : State) (n : Fin 8) (f : AuxCh → AuxCh) : (s.modAux n f).mcv = s.mcv := rfl
@[simp] theorem modAux_lb (s : State) (n : Fin 8) (f : AuxCh → AuxCh) : (s.modAux n f).lb = s.lb := rfl
@[simp] theorem modAux_mbx (s : State) (n : Fin 8) (f : AuxCh → AuxCh) : (s.modAux n f).mbx = s.mbx := rfl
@[simp] theorem modAux_boot (s : State) (n : Fin 8) (f : AuxCh → AuxCh) : (s.modAux n f).boot = s.boot := rfl
@[simp] theorem modAux_fuse (s : State) (n : Fin 8) (f : AuxCh → AuxCh) : (s.modAux n f).fuse = s.fuse := rfl
@[simp] theorem modAux_post (s : State) (n : Fin 8) (f : AuxCh → AuxCh) : (s.modAux n f).post = s.post := rfl
@[simp] theorem rd_modAux (s : State) (n : Fin 8) (f : AuxCh → AuxCh) (q : Reg) : (s.modAux n f).rd q = s.rd q := rfl
@[simp] theorem f_modAux (s : State) (n : Fin 8) (f : AuxCh → AuxCh) (F : RF) : (s.modAux n f).f F = s.f F := rfl
@[simp] theorem flag_modAux (s : State) (n : Fin 8) (f : AuxCh → AuxCh) (F : RF) : (s.modAux n f).flag F = s.flag F := rfl
@[simp] theorem memW_modAux (s : State) (n : Fin 8) (f : AuxCh → AuxCh) (a : Nat) : (s.modAux n f).memW a = s.memW a := rfl

/-! ## modDcl -/

@[simp] theorem modDcl_pending (s : State) (f : DclSt → DclSt) : (s.modDcl f).pending = s.pending := rfl
@[simp] theorem modDcl_regs (s : State) (f : DclSt → DclSt) : (s.modDcl f).regs = s.regs := rfl
@[simp] theorem modDcl_mem (s : State) (f : DclSt → DclSt) : (s.modDcl f).mem = s.mem := rfl
@[simp] theorem modDcl_chk (s : State) (f : DclSt → DclSt) : (s.modDcl f).chk = s.chk := rfl
@[simp] theorem modDcl_time (s : State) (f : DclSt → DclSt) : (s.modDcl f).time = s.time := rfl
@[simp] theorem modDcl_running (s : State) (f : DclSt → DclSt) : (s.modDcl f).running = s.running := rfl
@[simp] theorem modDcl_rdata (s : State) (f : DclSt → DclSt) : (s.modDcl f).rdata = s.rdata := rfl
@[simp] theorem modDcl_free (s : State) (f : DclSt → DclSt) : (s.modDcl f).free = s.free := rfl
@[simp] theorem modDcl_sys (s : State) (f : DclSt → DclSt) : (s.modDcl f).sys = s.sys := rfl
@[simp] theorem modDcl_dma (s : State) (f : DclSt → DclSt) : (s.modDcl f).dma = s.dma := rfl
@[simp] theorem modDcl_man (s : State) (f : DclSt → DclSt) : (s.modDcl f).man = s.man := rfl
@[simp] theorem modDcl_pwm (s : State) (f : DclSt → DclSt) : (s.modDcl f).pwm = s.pwm := rfl
@[simp] theorem modDcl_qnc (s : State) (f : DclSt → DclSt) : (s.modDcl f).qnc = s.qnc := rfl
@[simp] theorem modDcl_cmp (s : State) (f : DclSt → DclSt) : (s.modDcl f).cmp = s.cmp := rfl
@[simp] theorem modDcl_hlm (s : State) (f : DclSt → DclSt) : (s.modDcl f).hlm = s.hlm := rfl
@[simp] theorem modDcl_aux (s : State) (f : DclSt → DclSt) : (s.modDcl f).aux = s.aux := rfl
@[simp] theorem modDcl_anv (s : State) (f : DclSt → DclSt) : (s.modDcl f).anv = s.anv := rfl
@[simp] theorem modDcl_fbk (s : State) (f : DclSt → DclSt) : (s.modDcl f).fbk = s.fbk := rfl
@[simp] theorem modDcl_sdm (s : State) (f : DclSt → DclSt) : (s.modDcl f).sdm = s.sdm := rfl
@[simp] theorem modDcl_loop (s : State) (f : DclSt → DclSt) : (s.modDcl f).loop = s.loop := rfl
@[simp] theorem modDcl_pair (s : State) (f : DclSt → DclSt) : (s.modDcl f).pair = s.pair := rfl
@[simp] theorem modDcl_ken (s : State) (f : DclSt → DclSt) : (s.modDcl f).ken = s.ken := rfl
@[simp] theorem modDcl_asy (s : State) (f : DclSt → DclSt) : (s.modDcl f).asy = s.asy := rfl
@[simp] theorem modDcl_tap (s : State) (f : DclSt → DclSt) : (s.modDcl f).tap = s.tap := rfl
@[simp] theorem modDcl_mcv (s : State) (f : DclSt → DclSt) : (s.modDcl f).mcv = s.mcv := rfl
@[simp] theorem modDcl_lb (s : State) (f : DclSt → DclSt) : (s.modDcl f).lb = s.lb := rfl
@[simp] theorem modDcl_mbx (s : State) (f : DclSt → DclSt) : (s.modDcl f).mbx = s.mbx := rfl
@[simp] theorem modDcl_boot (s : State) (f : DclSt → DclSt) : (s.modDcl f).boot = s.boot := rfl
@[simp] theorem modDcl_fuse (s : State) (f : DclSt → DclSt) : (s.modDcl f).fuse = s.fuse := rfl
@[simp] theorem modDcl_post (s : State) (f : DclSt → DclSt) : (s.modDcl f).post = s.post := rfl
@[simp] theorem rd_modDcl (s : State) (f : DclSt → DclSt) (q : Reg) : (s.modDcl f).rd q = s.rd q := rfl
@[simp] theorem f_modDcl (s : State) (f : DclSt → DclSt) (F : RF) : (s.modDcl f).f F = s.f F := rfl
@[simp] theorem flag_modDcl (s : State) (f : DclSt → DclSt) (F : RF) : (s.modDcl f).flag F = s.flag F := rfl
@[simp] theorem memW_modDcl (s : State) (f : DclSt → DclSt) (a : Nat) : (s.modDcl f).memW a = s.memW a := rfl

/-! ## modAnv -/

@[simp] theorem modAnv_pending (s : State) (f : AnvSt → AnvSt) : (s.modAnv f).pending = s.pending := rfl
@[simp] theorem modAnv_regs (s : State) (f : AnvSt → AnvSt) : (s.modAnv f).regs = s.regs := rfl
@[simp] theorem modAnv_mem (s : State) (f : AnvSt → AnvSt) : (s.modAnv f).mem = s.mem := rfl
@[simp] theorem modAnv_chk (s : State) (f : AnvSt → AnvSt) : (s.modAnv f).chk = s.chk := rfl
@[simp] theorem modAnv_time (s : State) (f : AnvSt → AnvSt) : (s.modAnv f).time = s.time := rfl
@[simp] theorem modAnv_running (s : State) (f : AnvSt → AnvSt) : (s.modAnv f).running = s.running := rfl
@[simp] theorem modAnv_rdata (s : State) (f : AnvSt → AnvSt) : (s.modAnv f).rdata = s.rdata := rfl
@[simp] theorem modAnv_free (s : State) (f : AnvSt → AnvSt) : (s.modAnv f).free = s.free := rfl
@[simp] theorem modAnv_sys (s : State) (f : AnvSt → AnvSt) : (s.modAnv f).sys = s.sys := rfl
@[simp] theorem modAnv_dma (s : State) (f : AnvSt → AnvSt) : (s.modAnv f).dma = s.dma := rfl
@[simp] theorem modAnv_man (s : State) (f : AnvSt → AnvSt) : (s.modAnv f).man = s.man := rfl
@[simp] theorem modAnv_pwm (s : State) (f : AnvSt → AnvSt) : (s.modAnv f).pwm = s.pwm := rfl
@[simp] theorem modAnv_qnc (s : State) (f : AnvSt → AnvSt) : (s.modAnv f).qnc = s.qnc := rfl
@[simp] theorem modAnv_cmp (s : State) (f : AnvSt → AnvSt) : (s.modAnv f).cmp = s.cmp := rfl
@[simp] theorem modAnv_hlm (s : State) (f : AnvSt → AnvSt) : (s.modAnv f).hlm = s.hlm := rfl
@[simp] theorem modAnv_aux (s : State) (f : AnvSt → AnvSt) : (s.modAnv f).aux = s.aux := rfl
@[simp] theorem modAnv_dcl (s : State) (f : AnvSt → AnvSt) : (s.modAnv f).dcl = s.dcl := rfl
@[simp] theorem modAnv_fbk (s : State) (f : AnvSt → AnvSt) : (s.modAnv f).fbk = s.fbk := rfl
@[simp] theorem modAnv_sdm (s : State) (f : AnvSt → AnvSt) : (s.modAnv f).sdm = s.sdm := rfl
@[simp] theorem modAnv_loop (s : State) (f : AnvSt → AnvSt) : (s.modAnv f).loop = s.loop := rfl
@[simp] theorem modAnv_pair (s : State) (f : AnvSt → AnvSt) : (s.modAnv f).pair = s.pair := rfl
@[simp] theorem modAnv_ken (s : State) (f : AnvSt → AnvSt) : (s.modAnv f).ken = s.ken := rfl
@[simp] theorem modAnv_asy (s : State) (f : AnvSt → AnvSt) : (s.modAnv f).asy = s.asy := rfl
@[simp] theorem modAnv_tap (s : State) (f : AnvSt → AnvSt) : (s.modAnv f).tap = s.tap := rfl
@[simp] theorem modAnv_mcv (s : State) (f : AnvSt → AnvSt) : (s.modAnv f).mcv = s.mcv := rfl
@[simp] theorem modAnv_lb (s : State) (f : AnvSt → AnvSt) : (s.modAnv f).lb = s.lb := rfl
@[simp] theorem modAnv_mbx (s : State) (f : AnvSt → AnvSt) : (s.modAnv f).mbx = s.mbx := rfl
@[simp] theorem modAnv_boot (s : State) (f : AnvSt → AnvSt) : (s.modAnv f).boot = s.boot := rfl
@[simp] theorem modAnv_fuse (s : State) (f : AnvSt → AnvSt) : (s.modAnv f).fuse = s.fuse := rfl
@[simp] theorem modAnv_post (s : State) (f : AnvSt → AnvSt) : (s.modAnv f).post = s.post := rfl
@[simp] theorem rd_modAnv (s : State) (f : AnvSt → AnvSt) (q : Reg) : (s.modAnv f).rd q = s.rd q := rfl
@[simp] theorem f_modAnv (s : State) (f : AnvSt → AnvSt) (F : RF) : (s.modAnv f).f F = s.f F := rfl
@[simp] theorem flag_modAnv (s : State) (f : AnvSt → AnvSt) (F : RF) : (s.modAnv f).flag F = s.flag F := rfl
@[simp] theorem memW_modAnv (s : State) (f : AnvSt → AnvSt) (a : Nat) : (s.modAnv f).memW a = s.memW a := rfl

/-! ## modQe -/

@[simp] theorem modQe_pending (s : State) (n : Fin 8) (f : QeCh → QeCh) : (s.modQe n f).pending = s.pending := rfl
@[simp] theorem modQe_regs (s : State) (n : Fin 8) (f : QeCh → QeCh) : (s.modQe n f).regs = s.regs := rfl
@[simp] theorem modQe_mem (s : State) (n : Fin 8) (f : QeCh → QeCh) : (s.modQe n f).mem = s.mem := rfl
@[simp] theorem modQe_chk (s : State) (n : Fin 8) (f : QeCh → QeCh) : (s.modQe n f).chk = s.chk := rfl
@[simp] theorem modQe_time (s : State) (n : Fin 8) (f : QeCh → QeCh) : (s.modQe n f).time = s.time := rfl
@[simp] theorem modQe_running (s : State) (n : Fin 8) (f : QeCh → QeCh) : (s.modQe n f).running = s.running := rfl
@[simp] theorem modQe_rdata (s : State) (n : Fin 8) (f : QeCh → QeCh) : (s.modQe n f).rdata = s.rdata := rfl
@[simp] theorem modQe_free (s : State) (n : Fin 8) (f : QeCh → QeCh) : (s.modQe n f).free = s.free := rfl
@[simp] theorem modQe_sys (s : State) (n : Fin 8) (f : QeCh → QeCh) : (s.modQe n f).sys = s.sys := rfl
@[simp] theorem modQe_dma (s : State) (n : Fin 8) (f : QeCh → QeCh) : (s.modQe n f).dma = s.dma := rfl
@[simp] theorem modQe_man (s : State) (n : Fin 8) (f : QeCh → QeCh) : (s.modQe n f).man = s.man := rfl
@[simp] theorem modQe_pwm (s : State) (n : Fin 8) (f : QeCh → QeCh) : (s.modQe n f).pwm = s.pwm := rfl
@[simp] theorem modQe_qnc (s : State) (n : Fin 8) (f : QeCh → QeCh) : (s.modQe n f).qnc = s.qnc := rfl
@[simp] theorem modQe_cmp (s : State) (n : Fin 8) (f : QeCh → QeCh) : (s.modQe n f).cmp = s.cmp := rfl
@[simp] theorem modQe_hlm (s : State) (n : Fin 8) (f : QeCh → QeCh) : (s.modQe n f).hlm = s.hlm := rfl
@[simp] theorem modQe_aux (s : State) (n : Fin 8) (f : QeCh → QeCh) : (s.modQe n f).aux = s.aux := rfl
@[simp] theorem modQe_dcl (s : State) (n : Fin 8) (f : QeCh → QeCh) : (s.modQe n f).dcl = s.dcl := rfl
@[simp] theorem modQe_anv (s : State) (n : Fin 8) (f : QeCh → QeCh) : (s.modQe n f).anv = s.anv := rfl
@[simp] theorem modQe_sdm (s : State) (n : Fin 8) (f : QeCh → QeCh) : (s.modQe n f).sdm = s.sdm := rfl
@[simp] theorem modQe_loop (s : State) (n : Fin 8) (f : QeCh → QeCh) : (s.modQe n f).loop = s.loop := rfl
@[simp] theorem modQe_pair (s : State) (n : Fin 8) (f : QeCh → QeCh) : (s.modQe n f).pair = s.pair := rfl
@[simp] theorem modQe_ken (s : State) (n : Fin 8) (f : QeCh → QeCh) : (s.modQe n f).ken = s.ken := rfl
@[simp] theorem modQe_asy (s : State) (n : Fin 8) (f : QeCh → QeCh) : (s.modQe n f).asy = s.asy := rfl
@[simp] theorem modQe_tap (s : State) (n : Fin 8) (f : QeCh → QeCh) : (s.modQe n f).tap = s.tap := rfl
@[simp] theorem modQe_mcv (s : State) (n : Fin 8) (f : QeCh → QeCh) : (s.modQe n f).mcv = s.mcv := rfl
@[simp] theorem modQe_lb (s : State) (n : Fin 8) (f : QeCh → QeCh) : (s.modQe n f).lb = s.lb := rfl
@[simp] theorem modQe_mbx (s : State) (n : Fin 8) (f : QeCh → QeCh) : (s.modQe n f).mbx = s.mbx := rfl
@[simp] theorem modQe_boot (s : State) (n : Fin 8) (f : QeCh → QeCh) : (s.modQe n f).boot = s.boot := rfl
@[simp] theorem modQe_fuse (s : State) (n : Fin 8) (f : QeCh → QeCh) : (s.modQe n f).fuse = s.fuse := rfl
@[simp] theorem modQe_post (s : State) (n : Fin 8) (f : QeCh → QeCh) : (s.modQe n f).post = s.post := rfl
@[simp] theorem rd_modQe (s : State) (n : Fin 8) (f : QeCh → QeCh) (q : Reg) : (s.modQe n f).rd q = s.rd q := rfl
@[simp] theorem f_modQe (s : State) (n : Fin 8) (f : QeCh → QeCh) (F : RF) : (s.modQe n f).f F = s.f F := rfl
@[simp] theorem flag_modQe (s : State) (n : Fin 8) (f : QeCh → QeCh) (F : RF) : (s.modQe n f).flag F = s.flag F := rfl
@[simp] theorem memW_modQe (s : State) (n : Fin 8) (f : QeCh → QeCh) (a : Nat) : (s.modQe n f).memW a = s.memW a := rfl

/-! ## modSsi -/

@[simp] theorem modSsi_pending (s : State) (n : Fin 4) (f : SsiCh → SsiCh) : (s.modSsi n f).pending = s.pending := rfl
@[simp] theorem modSsi_regs (s : State) (n : Fin 4) (f : SsiCh → SsiCh) : (s.modSsi n f).regs = s.regs := rfl
@[simp] theorem modSsi_mem (s : State) (n : Fin 4) (f : SsiCh → SsiCh) : (s.modSsi n f).mem = s.mem := rfl
@[simp] theorem modSsi_chk (s : State) (n : Fin 4) (f : SsiCh → SsiCh) : (s.modSsi n f).chk = s.chk := rfl
@[simp] theorem modSsi_time (s : State) (n : Fin 4) (f : SsiCh → SsiCh) : (s.modSsi n f).time = s.time := rfl
@[simp] theorem modSsi_running (s : State) (n : Fin 4) (f : SsiCh → SsiCh) : (s.modSsi n f).running = s.running := rfl
@[simp] theorem modSsi_rdata (s : State) (n : Fin 4) (f : SsiCh → SsiCh) : (s.modSsi n f).rdata = s.rdata := rfl
@[simp] theorem modSsi_free (s : State) (n : Fin 4) (f : SsiCh → SsiCh) : (s.modSsi n f).free = s.free := rfl
@[simp] theorem modSsi_sys (s : State) (n : Fin 4) (f : SsiCh → SsiCh) : (s.modSsi n f).sys = s.sys := rfl
@[simp] theorem modSsi_dma (s : State) (n : Fin 4) (f : SsiCh → SsiCh) : (s.modSsi n f).dma = s.dma := rfl
@[simp] theorem modSsi_man (s : State) (n : Fin 4) (f : SsiCh → SsiCh) : (s.modSsi n f).man = s.man := rfl
@[simp] theorem modSsi_pwm (s : State) (n : Fin 4) (f : SsiCh → SsiCh) : (s.modSsi n f).pwm = s.pwm := rfl
@[simp] theorem modSsi_qnc (s : State) (n : Fin 4) (f : SsiCh → SsiCh) : (s.modSsi n f).qnc = s.qnc := rfl
@[simp] theorem modSsi_cmp (s : State) (n : Fin 4) (f : SsiCh → SsiCh) : (s.modSsi n f).cmp = s.cmp := rfl
@[simp] theorem modSsi_hlm (s : State) (n : Fin 4) (f : SsiCh → SsiCh) : (s.modSsi n f).hlm = s.hlm := rfl
@[simp] theorem modSsi_aux (s : State) (n : Fin 4) (f : SsiCh → SsiCh) : (s.modSsi n f).aux = s.aux := rfl
@[simp] theorem modSsi_dcl (s : State) (n : Fin 4) (f : SsiCh → SsiCh) : (s.modSsi n f).dcl = s.dcl := rfl
@[simp] theorem modSsi_anv (s : State) (n : Fin 4) (f : SsiCh → SsiCh) : (s.modSsi n f).anv = s.anv := rfl
@[simp] theorem modSsi_sdm (s : State) (n : Fin 4) (f : SsiCh → SsiCh) : (s.modSsi n f).sdm = s.sdm := rfl
@[simp] theorem modSsi_loop (s : State) (n : Fin 4) (f : SsiCh → SsiCh) : (s.modSsi n f).loop = s.loop := rfl
@[simp] theorem modSsi_pair (s : State) (n : Fin 4) (f : SsiCh → SsiCh) : (s.modSsi n f).pair = s.pair := rfl
@[simp] theorem modSsi_ken (s : State) (n : Fin 4) (f : SsiCh → SsiCh) : (s.modSsi n f).ken = s.ken := rfl
@[simp] theorem modSsi_asy (s : State) (n : Fin 4) (f : SsiCh → SsiCh) : (s.modSsi n f).asy = s.asy := rfl
@[simp] theorem modSsi_tap (s : State) (n : Fin 4) (f : SsiCh → SsiCh) : (s.modSsi n f).tap = s.tap := rfl
@[simp] theorem modSsi_mcv (s : State) (n : Fin 4) (f : SsiCh → SsiCh) : (s.modSsi n f).mcv = s.mcv := rfl
@[simp] theorem modSsi_lb (s : State) (n : Fin 4) (f : SsiCh → SsiCh) : (s.modSsi n f).lb = s.lb := rfl
@[simp] theorem modSsi_mbx (s : State) (n : Fin 4) (f : SsiCh → SsiCh) : (s.modSsi n f).mbx = s.mbx := rfl
@[simp] theorem modSsi_boot (s : State) (n : Fin 4) (f : SsiCh → SsiCh) : (s.modSsi n f).boot = s.boot := rfl
@[simp] theorem modSsi_fuse (s : State) (n : Fin 4) (f : SsiCh → SsiCh) : (s.modSsi n f).fuse = s.fuse := rfl
@[simp] theorem modSsi_post (s : State) (n : Fin 4) (f : SsiCh → SsiCh) : (s.modSsi n f).post = s.post := rfl
@[simp] theorem rd_modSsi (s : State) (n : Fin 4) (f : SsiCh → SsiCh) (q : Reg) : (s.modSsi n f).rd q = s.rd q := rfl
@[simp] theorem f_modSsi (s : State) (n : Fin 4) (f : SsiCh → SsiCh) (F : RF) : (s.modSsi n f).f F = s.f F := rfl
@[simp] theorem flag_modSsi (s : State) (n : Fin 4) (f : SsiCh → SsiCh) (F : RF) : (s.modSsi n f).flag F = s.flag F := rfl
@[simp] theorem memW_modSsi (s : State) (n : Fin 4) (f : SsiCh → SsiCh) (a : Nat) : (s.modSsi n f).memW a = s.memW a := rfl

/-! ## modSdm -/

@[simp] theorem modSdm_pending (s : State) (k : Fin 32) (f : SdmCh → SdmCh) : (s.modSdm k f).pending = s.pending := rfl
@[simp] theorem modSdm_regs (s : State) (k : Fin 32) (f : SdmCh → SdmCh) : (s.modSdm k f).regs = s.regs := rfl
@[simp] theorem modSdm_mem (s : State) (k : Fin 32) (f : SdmCh → SdmCh) : (s.modSdm k f).mem = s.mem := rfl
@[simp] theorem modSdm_chk (s : State) (k : Fin 32) (f : SdmCh → SdmCh) : (s.modSdm k f).chk = s.chk := rfl
@[simp] theorem modSdm_time (s : State) (k : Fin 32) (f : SdmCh → SdmCh) : (s.modSdm k f).time = s.time := rfl
@[simp] theorem modSdm_running (s : State) (k : Fin 32) (f : SdmCh → SdmCh) : (s.modSdm k f).running = s.running := rfl
@[simp] theorem modSdm_rdata (s : State) (k : Fin 32) (f : SdmCh → SdmCh) : (s.modSdm k f).rdata = s.rdata := rfl
@[simp] theorem modSdm_free (s : State) (k : Fin 32) (f : SdmCh → SdmCh) : (s.modSdm k f).free = s.free := rfl
@[simp] theorem modSdm_sys (s : State) (k : Fin 32) (f : SdmCh → SdmCh) : (s.modSdm k f).sys = s.sys := rfl
@[simp] theorem modSdm_dma (s : State) (k : Fin 32) (f : SdmCh → SdmCh) : (s.modSdm k f).dma = s.dma := rfl
@[simp] theorem modSdm_man (s : State) (k : Fin 32) (f : SdmCh → SdmCh) : (s.modSdm k f).man = s.man := rfl
@[simp] theorem modSdm_pwm (s : State) (k : Fin 32) (f : SdmCh → SdmCh) : (s.modSdm k f).pwm = s.pwm := rfl
@[simp] theorem modSdm_qnc (s : State) (k : Fin 32) (f : SdmCh → SdmCh) : (s.modSdm k f).qnc = s.qnc := rfl
@[simp] theorem modSdm_cmp (s : State) (k : Fin 32) (f : SdmCh → SdmCh) : (s.modSdm k f).cmp = s.cmp := rfl
@[simp] theorem modSdm_hlm (s : State) (k : Fin 32) (f : SdmCh → SdmCh) : (s.modSdm k f).hlm = s.hlm := rfl
@[simp] theorem modSdm_aux (s : State) (k : Fin 32) (f : SdmCh → SdmCh) : (s.modSdm k f).aux = s.aux := rfl
@[simp] theorem modSdm_dcl (s : State) (k : Fin 32) (f : SdmCh → SdmCh) : (s.modSdm k f).dcl = s.dcl := rfl
@[simp] theorem modSdm_anv (s : State) (k : Fin 32) (f : SdmCh → SdmCh) : (s.modSdm k f).anv = s.anv := rfl
@[simp] theorem modSdm_fbk (s : State) (k : Fin 32) (f : SdmCh → SdmCh) : (s.modSdm k f).fbk = s.fbk := rfl
@[simp] theorem modSdm_loop (s : State) (k : Fin 32) (f : SdmCh → SdmCh) : (s.modSdm k f).loop = s.loop := rfl
@[simp] theorem modSdm_pair (s : State) (k : Fin 32) (f : SdmCh → SdmCh) : (s.modSdm k f).pair = s.pair := rfl
@[simp] theorem modSdm_ken (s : State) (k : Fin 32) (f : SdmCh → SdmCh) : (s.modSdm k f).ken = s.ken := rfl
@[simp] theorem modSdm_asy (s : State) (k : Fin 32) (f : SdmCh → SdmCh) : (s.modSdm k f).asy = s.asy := rfl
@[simp] theorem modSdm_tap (s : State) (k : Fin 32) (f : SdmCh → SdmCh) : (s.modSdm k f).tap = s.tap := rfl
@[simp] theorem modSdm_mcv (s : State) (k : Fin 32) (f : SdmCh → SdmCh) : (s.modSdm k f).mcv = s.mcv := rfl
@[simp] theorem modSdm_lb (s : State) (k : Fin 32) (f : SdmCh → SdmCh) : (s.modSdm k f).lb = s.lb := rfl
@[simp] theorem modSdm_mbx (s : State) (k : Fin 32) (f : SdmCh → SdmCh) : (s.modSdm k f).mbx = s.mbx := rfl
@[simp] theorem modSdm_boot (s : State) (k : Fin 32) (f : SdmCh → SdmCh) : (s.modSdm k f).boot = s.boot := rfl
@[simp] theorem modSdm_fuse (s : State) (k : Fin 32) (f : SdmCh → SdmCh) : (s.modSdm k f).fuse = s.fuse := rfl
@[simp] theorem modSdm_post (s : State) (k : Fin 32) (f : SdmCh → SdmCh) : (s.modSdm k f).post = s.post := rfl
@[simp] theorem rd_modSdm (s : State) (k : Fin 32) (f : SdmCh → SdmCh) (q : Reg) : (s.modSdm k f).rd q = s.rd q := rfl
@[simp] theorem f_modSdm (s : State) (k : Fin 32) (f : SdmCh → SdmCh) (F : RF) : (s.modSdm k f).f F = s.f F := rfl
@[simp] theorem flag_modSdm (s : State) (k : Fin 32) (f : SdmCh → SdmCh) (F : RF) : (s.modSdm k f).flag F = s.flag F := rfl
@[simp] theorem memW_modSdm (s : State) (k : Fin 32) (f : SdmCh → SdmCh) (a : Nat) : (s.modSdm k f).memW a = s.memW a := rfl

/-! ## modMc -/

@[simp] theorem modMc_pending (s : State) (c : Fin 4) (f : McvCh → McvCh) : (s.modMc c f).pending = s.pending := rfl
@[simp] theorem modMc_regs (s : State) (c : Fin 4) (f : McvCh → McvCh) : (s.modMc c f).regs = s.regs := rfl
@[simp] theorem modMc_mem (s : State) (c : Fin 4) (f : McvCh → McvCh) : (s.modMc c f).mem = s.mem := rfl
@[simp] theorem modMc_chk (s : State) (c : Fin 4) (f : McvCh → McvCh) : (s.modMc c f).chk = s.chk := rfl
@[simp] theorem modMc_time (s : State) (c : Fin 4) (f : McvCh → McvCh) : (s.modMc c f).time = s.time := rfl
@[simp] theorem modMc_running (s : State) (c : Fin 4) (f : McvCh → McvCh) : (s.modMc c f).running = s.running := rfl
@[simp] theorem modMc_rdata (s : State) (c : Fin 4) (f : McvCh → McvCh) : (s.modMc c f).rdata = s.rdata := rfl
@[simp] theorem modMc_free (s : State) (c : Fin 4) (f : McvCh → McvCh) : (s.modMc c f).free = s.free := rfl
@[simp] theorem modMc_sys (s : State) (c : Fin 4) (f : McvCh → McvCh) : (s.modMc c f).sys = s.sys := rfl
@[simp] theorem modMc_dma (s : State) (c : Fin 4) (f : McvCh → McvCh) : (s.modMc c f).dma = s.dma := rfl
@[simp] theorem modMc_man (s : State) (c : Fin 4) (f : McvCh → McvCh) : (s.modMc c f).man = s.man := rfl
@[simp] theorem modMc_pwm (s : State) (c : Fin 4) (f : McvCh → McvCh) : (s.modMc c f).pwm = s.pwm := rfl
@[simp] theorem modMc_qnc (s : State) (c : Fin 4) (f : McvCh → McvCh) : (s.modMc c f).qnc = s.qnc := rfl
@[simp] theorem modMc_cmp (s : State) (c : Fin 4) (f : McvCh → McvCh) : (s.modMc c f).cmp = s.cmp := rfl
@[simp] theorem modMc_hlm (s : State) (c : Fin 4) (f : McvCh → McvCh) : (s.modMc c f).hlm = s.hlm := rfl
@[simp] theorem modMc_aux (s : State) (c : Fin 4) (f : McvCh → McvCh) : (s.modMc c f).aux = s.aux := rfl
@[simp] theorem modMc_dcl (s : State) (c : Fin 4) (f : McvCh → McvCh) : (s.modMc c f).dcl = s.dcl := rfl
@[simp] theorem modMc_anv (s : State) (c : Fin 4) (f : McvCh → McvCh) : (s.modMc c f).anv = s.anv := rfl
@[simp] theorem modMc_fbk (s : State) (c : Fin 4) (f : McvCh → McvCh) : (s.modMc c f).fbk = s.fbk := rfl
@[simp] theorem modMc_sdm (s : State) (c : Fin 4) (f : McvCh → McvCh) : (s.modMc c f).sdm = s.sdm := rfl
@[simp] theorem modMc_loop (s : State) (c : Fin 4) (f : McvCh → McvCh) : (s.modMc c f).loop = s.loop := rfl
@[simp] theorem modMc_pair (s : State) (c : Fin 4) (f : McvCh → McvCh) : (s.modMc c f).pair = s.pair := rfl
@[simp] theorem modMc_ken (s : State) (c : Fin 4) (f : McvCh → McvCh) : (s.modMc c f).ken = s.ken := rfl
@[simp] theorem modMc_asy (s : State) (c : Fin 4) (f : McvCh → McvCh) : (s.modMc c f).asy = s.asy := rfl
@[simp] theorem modMc_tap (s : State) (c : Fin 4) (f : McvCh → McvCh) : (s.modMc c f).tap = s.tap := rfl
@[simp] theorem modMc_lb (s : State) (c : Fin 4) (f : McvCh → McvCh) : (s.modMc c f).lb = s.lb := rfl
@[simp] theorem modMc_mbx (s : State) (c : Fin 4) (f : McvCh → McvCh) : (s.modMc c f).mbx = s.mbx := rfl
@[simp] theorem modMc_boot (s : State) (c : Fin 4) (f : McvCh → McvCh) : (s.modMc c f).boot = s.boot := rfl
@[simp] theorem modMc_fuse (s : State) (c : Fin 4) (f : McvCh → McvCh) : (s.modMc c f).fuse = s.fuse := rfl
@[simp] theorem modMc_post (s : State) (c : Fin 4) (f : McvCh → McvCh) : (s.modMc c f).post = s.post := rfl
@[simp] theorem rd_modMc (s : State) (c : Fin 4) (f : McvCh → McvCh) (q : Reg) : (s.modMc c f).rd q = s.rd q := rfl
@[simp] theorem f_modMc (s : State) (c : Fin 4) (f : McvCh → McvCh) (F : RF) : (s.modMc c f).f F = s.f F := rfl
@[simp] theorem flag_modMc (s : State) (c : Fin 4) (f : McvCh → McvCh) (F : RF) : (s.modMc c f).flag F = s.flag F := rfl
@[simp] theorem memW_modMc (s : State) (c : Fin 4) (f : McvCh → McvCh) (a : Nat) : (s.modMc c f).memW a = s.memW a := rfl

/-! ## modLb -/

@[simp] theorem modLb_pending (s : State) (c : Fin 4) (f : LbCh → LbCh) : (s.modLb c f).pending = s.pending := rfl
@[simp] theorem modLb_regs (s : State) (c : Fin 4) (f : LbCh → LbCh) : (s.modLb c f).regs = s.regs := rfl
@[simp] theorem modLb_mem (s : State) (c : Fin 4) (f : LbCh → LbCh) : (s.modLb c f).mem = s.mem := rfl
@[simp] theorem modLb_chk (s : State) (c : Fin 4) (f : LbCh → LbCh) : (s.modLb c f).chk = s.chk := rfl
@[simp] theorem modLb_time (s : State) (c : Fin 4) (f : LbCh → LbCh) : (s.modLb c f).time = s.time := rfl
@[simp] theorem modLb_running (s : State) (c : Fin 4) (f : LbCh → LbCh) : (s.modLb c f).running = s.running := rfl
@[simp] theorem modLb_rdata (s : State) (c : Fin 4) (f : LbCh → LbCh) : (s.modLb c f).rdata = s.rdata := rfl
@[simp] theorem modLb_free (s : State) (c : Fin 4) (f : LbCh → LbCh) : (s.modLb c f).free = s.free := rfl
@[simp] theorem modLb_sys (s : State) (c : Fin 4) (f : LbCh → LbCh) : (s.modLb c f).sys = s.sys := rfl
@[simp] theorem modLb_dma (s : State) (c : Fin 4) (f : LbCh → LbCh) : (s.modLb c f).dma = s.dma := rfl
@[simp] theorem modLb_man (s : State) (c : Fin 4) (f : LbCh → LbCh) : (s.modLb c f).man = s.man := rfl
@[simp] theorem modLb_pwm (s : State) (c : Fin 4) (f : LbCh → LbCh) : (s.modLb c f).pwm = s.pwm := rfl
@[simp] theorem modLb_qnc (s : State) (c : Fin 4) (f : LbCh → LbCh) : (s.modLb c f).qnc = s.qnc := rfl
@[simp] theorem modLb_cmp (s : State) (c : Fin 4) (f : LbCh → LbCh) : (s.modLb c f).cmp = s.cmp := rfl
@[simp] theorem modLb_hlm (s : State) (c : Fin 4) (f : LbCh → LbCh) : (s.modLb c f).hlm = s.hlm := rfl
@[simp] theorem modLb_aux (s : State) (c : Fin 4) (f : LbCh → LbCh) : (s.modLb c f).aux = s.aux := rfl
@[simp] theorem modLb_dcl (s : State) (c : Fin 4) (f : LbCh → LbCh) : (s.modLb c f).dcl = s.dcl := rfl
@[simp] theorem modLb_anv (s : State) (c : Fin 4) (f : LbCh → LbCh) : (s.modLb c f).anv = s.anv := rfl
@[simp] theorem modLb_fbk (s : State) (c : Fin 4) (f : LbCh → LbCh) : (s.modLb c f).fbk = s.fbk := rfl
@[simp] theorem modLb_sdm (s : State) (c : Fin 4) (f : LbCh → LbCh) : (s.modLb c f).sdm = s.sdm := rfl
@[simp] theorem modLb_loop (s : State) (c : Fin 4) (f : LbCh → LbCh) : (s.modLb c f).loop = s.loop := rfl
@[simp] theorem modLb_pair (s : State) (c : Fin 4) (f : LbCh → LbCh) : (s.modLb c f).pair = s.pair := rfl
@[simp] theorem modLb_ken (s : State) (c : Fin 4) (f : LbCh → LbCh) : (s.modLb c f).ken = s.ken := rfl
@[simp] theorem modLb_asy (s : State) (c : Fin 4) (f : LbCh → LbCh) : (s.modLb c f).asy = s.asy := rfl
@[simp] theorem modLb_tap (s : State) (c : Fin 4) (f : LbCh → LbCh) : (s.modLb c f).tap = s.tap := rfl
@[simp] theorem modLb_mcv (s : State) (c : Fin 4) (f : LbCh → LbCh) : (s.modLb c f).mcv = s.mcv := rfl
@[simp] theorem modLb_mbx (s : State) (c : Fin 4) (f : LbCh → LbCh) : (s.modLb c f).mbx = s.mbx := rfl
@[simp] theorem modLb_boot (s : State) (c : Fin 4) (f : LbCh → LbCh) : (s.modLb c f).boot = s.boot := rfl
@[simp] theorem modLb_fuse (s : State) (c : Fin 4) (f : LbCh → LbCh) : (s.modLb c f).fuse = s.fuse := rfl
@[simp] theorem modLb_post (s : State) (c : Fin 4) (f : LbCh → LbCh) : (s.modLb c f).post = s.post := rfl
@[simp] theorem rd_modLb (s : State) (c : Fin 4) (f : LbCh → LbCh) (q : Reg) : (s.modLb c f).rd q = s.rd q := rfl
@[simp] theorem f_modLb (s : State) (c : Fin 4) (f : LbCh → LbCh) (F : RF) : (s.modLb c f).f F = s.f F := rfl
@[simp] theorem flag_modLb (s : State) (c : Fin 4) (f : LbCh → LbCh) (F : RF) : (s.modLb c f).flag F = s.flag F := rfl
@[simp] theorem memW_modLb (s : State) (c : Fin 4) (f : LbCh → LbCh) (a : Nat) : (s.modLb c f).memW a = s.memW a := rfl

/-! ## The element that an update names, and the others -/

/-- A changed element reads as changed. -/
@[simp] theorem vmod_same {α : Type} {n : Nat} (v : Vector α n) (i : Fin n) (f : α → α) : (vmod v i f)[i] = f v[i] := by
  simp [vmod, vset]

/-- Every other element reads as before. -/
theorem vmod_ne {α : Type} {n : Nat} (v : Vector α n) (i j : Fin n) (f : α → α) (h : j ≠ i) : (vmod v i f)[j] = v[j] := by
  have : i.val ≠ j.val := fun e => h (Fin.ext e.symm)
  simp [vmod, vset, this]

@[simp] theorem modGen_gen_same (s : State) (n : Fin 8) (f : Gen → Gen) : (s.modGen n f).gen n = f (s.gen n) := vmod_same _ _ _
theorem modGen_gen_ne (s : State) (n m : Fin 8) (f : Gen → Gen) (h : m ≠ n) : (s.modGen n f).gen m = s.gen m := vmod_ne _ _ _ _ h
@[simp] theorem modGrp_grp_same (s : State) (n : Fin 16) (f : Group → Group) : (s.modGrp n f).grp n = f (s.grp n) := vmod_same _ _ _
theorem modGrp_grp_ne (s : State) (n m : Fin 16) (f : Group → Group) (h : m ≠ n) : (s.modGrp n f).grp m = s.grp m := vmod_ne _ _ _ _ h
@[simp] theorem modQe_qe_same (s : State) (n : Fin 8) (f : QeCh → QeCh) : (s.modQe n f).fbk.qe[n] = f s.fbk.qe[n] := vmod_same _ _ _
theorem modQe_qe_ne (s : State) (n m : Fin 8) (f : QeCh → QeCh) (h : m ≠ n) : (s.modQe n f).fbk.qe[m] = s.fbk.qe[m] := vmod_ne _ _ _ _ h
@[simp] theorem modSsi_ssi_same (s : State) (n : Fin 4) (f : SsiCh → SsiCh) : (s.modSsi n f).fbk.ssi[n] = f s.fbk.ssi[n] := vmod_same _ _ _
theorem modSsi_ssi_ne (s : State) (n m : Fin 4) (f : SsiCh → SsiCh) (h : m ≠ n) : (s.modSsi n f).fbk.ssi[m] = s.fbk.ssi[m] :=
  vmod_ne _ _ _ _ h
@[simp] theorem modSdm_same (s : State) (k : Fin 32) (f : SdmCh → SdmCh) : (s.modSdm k f).sdm[k] = f s.sdm[k] := vmod_same _ _ _
theorem modSdm_ne (s : State) (k m : Fin 32) (f : SdmCh → SdmCh) (h : m ≠ k) : (s.modSdm k f).sdm[m] = s.sdm[m] := vmod_ne _ _ _ _ h
@[simp] theorem modLp_lp_same (s : State) (p : Fin 24) (f : LoopPair → LoopPair) : (s.modLp p f).pair[p] = f s.pair[p] := vmod_same _ _ _
theorem modLp_lp_ne (s : State) (p q : Fin 24) (f : LoopPair → LoopPair) (h : q ≠ p) : (s.modLp p f).pair[q] = s.pair[q] := vmod_ne _ _ _ _ h

/-! ## The turn of an agent's write (R207, R530) -/

@[simp] theorem atWrite_pending (s : State) : s.atWrite.pending = s.pending := by unfold State.atWrite; split <;> rfl
@[simp] theorem atWrite_regs (s : State) : s.atWrite.regs = s.regs := by unfold State.atWrite; split <;> rfl
@[simp] theorem atWrite_mem (s : State) : s.atWrite.mem = s.mem := by unfold State.atWrite; split <;> rfl
@[simp] theorem atWrite_chk (s : State) : s.atWrite.chk = s.chk := by unfold State.atWrite; split <;> rfl
@[simp] theorem atWrite_running (s : State) : s.atWrite.running = s.running := by unfold State.atWrite; split <;> rfl
@[simp] theorem atWrite_rdata (s : State) : s.atWrite.rdata = s.rdata := by unfold State.atWrite; split <;> rfl
@[simp] theorem atWrite_free (s : State) : s.atWrite.free = s.free := by unfold State.atWrite; split <;> rfl
@[simp] theorem atWrite_sys (s : State) : s.atWrite.sys = s.sys := by unfold State.atWrite; split <;> rfl
@[simp] theorem atWrite_dma (s : State) : s.atWrite.dma = s.dma := by unfold State.atWrite; split <;> rfl
@[simp] theorem atWrite_man (s : State) : s.atWrite.man = s.man := by unfold State.atWrite; split <;> rfl
@[simp] theorem atWrite_pwm (s : State) : s.atWrite.pwm = s.pwm := by unfold State.atWrite; split <;> rfl
@[simp] theorem atWrite_qnc (s : State) : s.atWrite.qnc = s.qnc := by unfold State.atWrite; split <;> rfl
@[simp] theorem atWrite_cmp (s : State) : s.atWrite.cmp = s.cmp := by unfold State.atWrite; split <;> rfl
@[simp] theorem atWrite_hlm (s : State) : s.atWrite.hlm = s.hlm := by unfold State.atWrite; split <;> rfl
@[simp] theorem atWrite_aux (s : State) : s.atWrite.aux = s.aux := by unfold State.atWrite; split <;> rfl
@[simp] theorem atWrite_dcl (s : State) : s.atWrite.dcl = s.dcl := by unfold State.atWrite; split <;> rfl
@[simp] theorem atWrite_anv (s : State) : s.atWrite.anv = s.anv := by unfold State.atWrite; split <;> rfl
@[simp] theorem atWrite_fbk (s : State) : s.atWrite.fbk = s.fbk := by unfold State.atWrite; split <;> rfl
@[simp] theorem atWrite_sdm (s : State) : s.atWrite.sdm = s.sdm := by unfold State.atWrite; split <;> rfl
@[simp] theorem atWrite_loop (s : State) : s.atWrite.loop = s.loop := by unfold State.atWrite; split <;> rfl
@[simp] theorem atWrite_pair (s : State) : s.atWrite.pair = s.pair := by unfold State.atWrite; split <;> rfl
@[simp] theorem atWrite_ken (s : State) : s.atWrite.ken = s.ken := by unfold State.atWrite; split <;> rfl
@[simp] theorem atWrite_asy (s : State) : s.atWrite.asy = s.asy := by unfold State.atWrite; split <;> rfl
@[simp] theorem atWrite_tap (s : State) : s.atWrite.tap = s.tap := by unfold State.atWrite; split <;> rfl
@[simp] theorem atWrite_mcv (s : State) : s.atWrite.mcv = s.mcv := by unfold State.atWrite; split <;> rfl
@[simp] theorem atWrite_lb (s : State) : s.atWrite.lb = s.lb := by unfold State.atWrite; split <;> rfl
@[simp] theorem atWrite_mbx (s : State) : s.atWrite.mbx = s.mbx := by unfold State.atWrite; split <;> rfl
@[simp] theorem atWrite_boot (s : State) : s.atWrite.boot = s.boot := by unfold State.atWrite; split <;> rfl
@[simp] theorem atWrite_fuse (s : State) : s.atWrite.fuse = s.fuse := by unfold State.atWrite; split <;> rfl
@[simp] theorem atWrite_post (s : State) : s.atWrite.post = s.post := by unfold State.atWrite; split <;> rfl
@[simp] theorem rd_atWrite (s : State) (q : Reg) : s.atWrite.rd q = s.rd q := by simp [State.rd]

@[simp] theorem turned_pending (s t : State) : (s.turned t).pending = t.pending := by unfold State.turned; split <;> rfl
@[simp] theorem turned_regs (s t : State) : (s.turned t).regs = t.regs := by unfold State.turned; split <;> rfl
@[simp] theorem turned_mem (s t : State) : (s.turned t).mem = t.mem := by unfold State.turned; split <;> rfl
@[simp] theorem turned_chk (s t : State) : (s.turned t).chk = t.chk := by unfold State.turned; split <;> rfl
@[simp] theorem turned_running (s t : State) : (s.turned t).running = t.running := by unfold State.turned; split <;> rfl
@[simp] theorem turned_rdata (s t : State) : (s.turned t).rdata = t.rdata := by unfold State.turned; split <;> rfl
@[simp] theorem turned_free (s t : State) : (s.turned t).free = t.free := by unfold State.turned; split <;> rfl
@[simp] theorem turned_sys (s t : State) : (s.turned t).sys = t.sys := by unfold State.turned; split <;> rfl
@[simp] theorem turned_dma (s t : State) : (s.turned t).dma = t.dma := by unfold State.turned; split <;> rfl
@[simp] theorem turned_man (s t : State) : (s.turned t).man = t.man := by unfold State.turned; split <;> rfl
@[simp] theorem turned_pwm (s t : State) : (s.turned t).pwm = t.pwm := by unfold State.turned; split <;> rfl
@[simp] theorem turned_qnc (s t : State) : (s.turned t).qnc = t.qnc := by unfold State.turned; split <;> rfl
@[simp] theorem turned_cmp (s t : State) : (s.turned t).cmp = t.cmp := by unfold State.turned; split <;> rfl
@[simp] theorem turned_hlm (s t : State) : (s.turned t).hlm = t.hlm := by unfold State.turned; split <;> rfl
@[simp] theorem turned_aux (s t : State) : (s.turned t).aux = t.aux := by unfold State.turned; split <;> rfl
@[simp] theorem turned_dcl (s t : State) : (s.turned t).dcl = t.dcl := by unfold State.turned; split <;> rfl
@[simp] theorem turned_anv (s t : State) : (s.turned t).anv = t.anv := by unfold State.turned; split <;> rfl
@[simp] theorem turned_fbk (s t : State) : (s.turned t).fbk = t.fbk := by unfold State.turned; split <;> rfl
@[simp] theorem turned_sdm (s t : State) : (s.turned t).sdm = t.sdm := by unfold State.turned; split <;> rfl
@[simp] theorem turned_loop (s t : State) : (s.turned t).loop = t.loop := by unfold State.turned; split <;> rfl
@[simp] theorem turned_pair (s t : State) : (s.turned t).pair = t.pair := by unfold State.turned; split <;> rfl
@[simp] theorem turned_ken (s t : State) : (s.turned t).ken = t.ken := by unfold State.turned; split <;> rfl
@[simp] theorem turned_asy (s t : State) : (s.turned t).asy = t.asy := by unfold State.turned; split <;> rfl
@[simp] theorem turned_tap (s t : State) : (s.turned t).tap = t.tap := by unfold State.turned; split <;> rfl
@[simp] theorem turned_mcv (s t : State) : (s.turned t).mcv = t.mcv := by unfold State.turned; split <;> rfl
@[simp] theorem turned_lb (s t : State) : (s.turned t).lb = t.lb := by unfold State.turned; split <;> rfl
@[simp] theorem turned_mbx (s t : State) : (s.turned t).mbx = t.mbx := by unfold State.turned; split <;> rfl
@[simp] theorem turned_boot (s t : State) : (s.turned t).boot = t.boot := by unfold State.turned; split <;> rfl
@[simp] theorem turned_fuse (s t : State) : (s.turned t).fuse = t.fuse := by unfold State.turned; split <;> rfl
@[simp] theorem turned_post (s t : State) : (s.turned t).post = t.post := by unfold State.turned; split <;> rfl
@[simp] theorem rd_turned (s t : State) (q : Reg) : (s.turned t).rd q = t.rd q := by simp [State.rd]

/-- A write takes effect in the last core cycle of its peripheral cycle, while device time counts. -/
theorem atWrite_time (s : State) (h : s.running = true) : s.atWrite.time = 4 * s.perCycle + 3 := by
  simp only [State.atWrite, h, ↓reduceIte, State.advance, State.perCycle]
  omega

/-- It falls in the peripheral cycle that it was issued in. -/
theorem atWrite_perCycle (s : State) : s.atWrite.perCycle = s.perCycle := by
  by_cases h : s.running = true
  · have := atWrite_time s h
    simp only [State.perCycle] at *
    omega
  · simp [State.atWrite, h]

/-- Nothing after a write falls in its peripheral cycle any more, while device time counts. -/
theorem turned_time (s t : State) (h : s.running = true) (ht : t.running = true) :
    (s.turned t).time = max t.time (4 * (s.perCycle + 1)) := by
  simp [State.turned, h, ht, State.advance]

theorem turned_perCycle_gt (s t : State) (h : s.running = true) (ht : t.running = true) : s.perCycle < (s.turned t).perCycle := by
  have := turned_time s t h ht
  simp only [State.perCycle] at *
  omega

/-- While device time does not count, a write is its effect alone. -/
theorem agentTurn_stopped (f : State → State) (s : State) (h : s.running = false) : agentTurn f s = f s := by
  simp [agentTurn, State.turned, State.atWrite, h]

/-! ## What comes due -/

/-- A fold whose steps change nothing changes nothing. -/
theorem foldl_fix {α β : Type} (g : β → α → β) (s : β) (l : List α) (h : ∀ x ∈ l, g s x = s) : l.foldl g s = s := by
  induction l with
  | nil => rfl
  | cons x l ih => rw [List.foldl_cons, h x (by simp), ih fun y hy => h y (by simp [hy])]

/-- A generator whose events on their way all reach the outputs later is left (R59). -/
theorem genSettle_later (n : Fin 8) (cyc : Nat) (s : State) (h : ∀ k, genDue (s.gen n) = some k → cyc < k) : genSettle n cyc s = s := by
  apply foldl_fix
  intro _ _
  split
  · next k hk => have := h k hk; simp [Nat.not_le.mpr this]
  · rfl

/-- A flush that is not writing has no end to wait for (R416). -/
theorem flushEnd_idle (s : State) (h : s.hlm.phase ≠ .writing) : flushEnd s = s := by simp [flushEnd, h]

/-- Words put into local memory change only the memory of the copy. -/
@[simp] theorem putLocal_regs (q : Fin 24) (c : Bool) (l : List (Nat × Word)) (s : State) : (putLocal q c l s).regs = s.regs := by
  unfold putLocal State.modOwn; split <;> rfl
@[simp] theorem putLocal_time (q : Fin 24) (c : Bool) (l : List (Nat × Word)) (s : State) : (putLocal q c l s).time = s.time := by
  unfold putLocal State.modOwn; split <;> rfl
@[simp] theorem putLocal_pair (q : Fin 24) (c : Bool) (l : List (Nat × Word)) (s : State) : (putLocal q c l s).pair = s.pair := by
  unfold putLocal State.modOwn; split <;> rfl
@[simp] theorem putLocal_pending (q : Fin 24) (c : Bool) (l : List (Nat × Word)) (s : State) : (putLocal q c l s).pending = s.pending := by
  unfold putLocal State.modOwn; split <;> rfl
@[simp] theorem putLocal_lead_chk (q : Fin 24) (l : List (Nat × Word)) (s : State) : (putLocal q false l s).chk = s.chk := rfl
@[simp] theorem putLocal_chk_mem (q : Fin 24) (l : List (Nat × Word)) (s : State) : (putLocal q true l s).mem = s.mem := rfl

theorem foldl_localWords_wf (b : Nat) (l : List (Nat × Word)) (m : List Host.Cell) (h : Memory.wf m = true) :
    Memory.wf (l.foldl (fun m e => if localOk e.1 then memSetWord m (b + e.1) e.2 else m) m) = true := by
  induction l generalizing m with
  | nil => exact h
  | cons e l ih =>
    apply ih
    dsimp only
    split
    · exact memWf_setWord _ _ _ h
    · exact h

/-- Words put into local memory keep the canonical form of both memories. -/
theorem putLocal_wf (q : Fin 24) (c : Bool) (l : List (Nat × Word)) (s : State) (h : Memory.wf s.mem = true) (hc : Memory.wf s.chk = true) :
    Memory.wf (putLocal q c l s).mem = true ∧ Memory.wf (putLocal q c l s).chk = true := by
  unfold putLocal State.modOwn
  split
  · exact ⟨h, foldl_localWords_wf _ _ _ hc⟩
  · exact ⟨foldl_localWords_wf _ _ _ h, hc⟩

/-- A PILUT whose words are not due yet, or none, leaves the state (R184 step 10). -/
theorem unitFlush_later (q : Fin 24) (cyc : Nat) (s : State) (h : ∀ u, (s.lp q).gain = some u → cyc < u.at_) : unitFlush q cyc s = s := by
  unfold unitFlush
  split
  · next u hu => simp [Nat.not_le.mpr (h u hu)]
  · rfl

/-- The stores of a PILUT change memory and the unit's record alone, and keep the canonical form. -/
@[simp] theorem unitFlush_regs (q : Fin 24) (cyc : Nat) (s : State) : (unitFlush q cyc s).regs = s.regs := by
  unfold unitFlush; split <;> [split <;> simp; rfl]
@[simp] theorem unitFlush_time (q : Fin 24) (cyc : Nat) (s : State) : (unitFlush q cyc s).time = s.time := by
  unfold unitFlush; split <;> [split <;> simp; rfl]
theorem unitFlush_wf (q : Fin 24) (cyc : Nat) (s : State) (h : Memory.wf s.mem = true) (hc : Memory.wf s.chk = true) :
    Memory.wf (unitFlush q cyc s).mem = true ∧ Memory.wf (unitFlush q cyc s).chk = true := by
  unfold unitFlush
  split
  · next u _ =>
    split
    · have := putLocal_wf q false u.lead (s.modLp q fun l => { l with gain := none }) h hc
      exact putLocal_wf q true u.chk _ this.1 this.2
    · exact ⟨h, hc⟩
  · exact ⟨h, hc⟩

/-- Corrected ECC errors change CE alone (R134); without errors nothing changes. -/
theorem eccCount_none (q : Fin 24) (ecc : Ecc) (s : State) (h : eccErrors ecc = 0) : eccCount q ecc s = s := by simp [eccCount, h]
@[simp] theorem eccCount_mem (q : Fin 24) (ecc : Ecc) (s : State) : (eccCount q ecc s).mem = s.mem := by
  unfold eccCount; split <;> rfl
@[simp] theorem eccCount_pair (q : Fin 24) (ecc : Ecc) (s : State) : (eccCount q ecc s).pair = s.pair := by
  unfold eccCount; split <;> rfl
theorem rd_eccCount_ne (q : Fin 24) (ecc : Ecc) (s : State) (r : Reg) (h : r ≠ (Fld.LOOP_P_ECC_CE q).reg) :
    (eccCount q ecc s).rd r = s.rd r := by
  unfold eccCount
  split
  · rfl
  · exact rd_setF_ne _ _ _ _ h

end Sys2Proof.Machine
end

