-- ==== Sys2Proof/Tests/Slice0.lean ====
section
/-! SUPPORT. Tests of the model against the spec's own words and worked examples, and witnesses of the statements' hypotheses: for each
statement with hypotheses a theorem of its name, with a concrete state and operands for each of its clauses. -/

namespace Sys2Proof.Machine

open Sys2Proof

set_option maxRecDepth 20000
set_option Elab.async false

/-! ## States -/

/-- Angle generator 0 enabled on a source, with a record. -/
def genWith (g : Gen) (src : Nat) : State :=
  ((({ man := { gen := vset (Vector.replicate 8 {}) 0 g } } : State).setF (Fld.MAN_AG_CTL_EN 0) 1).setF (Fld.MAN_AG_CTL_SRC 0) src).setF
    (Fld.MAN_AG_CPR_CPR 0) 4096

/-- A turning angle generator 0 with mark 0 enabled. -/
def turning : State := (genWith { wn := 400, dir := 1 } 1).setF (Fld.MAN_AM_CTL_EN 0) 1

/-- An instance queued at pair 1. -/
def queuedTask : Inst := { d := 0, tr := 0, c := 1000, count := 0, snap := Vector.replicate 22 0#32, from_ := 0, place := .queued 1 }

/-- Words put into a memory. -/
def wordsAt (l : List (Nat × Word)) : List Host.Cell := l.foldl (fun m e => memSetWord m e.1 e.2) []

/-- Pair 0 at a PILUT whose loop record at 0 names a set at 0x400 with header m = 1.0. -/
def gainRecord : State :=
  let m := wordsAt [(0x30000004, 0x400#32), (0x3000002C, 0x3F800000#32), (0x30000400, 0x3F800000#32), (0x3000040C, 1#32),
    (0x30002000, (CoreOp.pilut 0 0 1 2 3).encode)]
  let c : Core := { pc := 0x2000#32 }
  ({ mem := m, chk := m, pair := vset (Vector.replicate 24 {}) 0 { lead := c, chk := c, live := true, run := some { queuedTask with place := .ended 0 } } } :
    State).setF (Fld.LOOP_D_CTX_CTX_LEN 0) 8

/-! ## Well-formed commands: an ill-formed term for each check -/

theorem test_wf_width : (Instr.registerWrite 0 0 3 false).wf = false := by decide
theorem test_wf_engine_offset : (Instr.engineMemoryWrite 0 2#16 0).wf = false := by decide
theorem test_wf_dmac_d : (Instr.dmac 0 1 2 4).wf = false := by decide
theorem test_wf_dmac_a : (Instr.dmac 0 2 3 4).wf = false := by decide
theorem test_wf_dmac_b : (Instr.dmac 0 2 4 31).wf = false := by decide
theorem test_wf_psel : (Instr.shadowWrite 4 .psel 0).wf = false := by decide
theorem test_wf_comparator : (Instr.comparatorChange 0 3300 1 0).wf = false := by decide
theorem test_wf_bypass : (Instr.bypass 0x11#6).wf = false := by decide
theorem test_wf_read_words : (Instr.read 0 0).wf = false := by decide
theorem test_wf_unknown_code : (Instr.unknownInstruction 0x0B#8).wf = false := by decide

/-- A classic frame of two bytes. -/
def twoBytes : LbFrame := { id := 0x40000#29, xtd := false, fdf := false, brs := false, esi := false, remote := false, dlc := 2#4, data := [1#8, 2#8] }

theorem test_wf_frame : (Instr.frameReceived 0 twoBytes 0 0).wf = true := by decide
theorem test_wf_frame_base_id : (Instr.frameReceived 0 { twoBytes with id := 1#29 } 0 0).wf = false := by decide
theorem test_wf_frame_brs : (Instr.frameReceived 0 { twoBytes with brs := true } 0 0).wf = false := by decide
theorem test_wf_frame_remote_fd : (Instr.frameReceived 0 { twoBytes with fdf := true, remote := true, data := [] } 0 0).wf = false := by decide
theorem test_wf_frame_length : (Instr.referenceMessage 0 (some { twoBytes with data := [1#8] }) 0 0).wf = false := by decide

/-! ## Words of the worked example of chapter 05, and of the formats of R137 -/

theorem test_decode_addi : decodeWord 0x00640141#32 = some (.imm .addi 5 0 100) := by decide
theorem test_decode_pilut : decodeWord 0x10626238#32 = some (.pilut 8 12 2 3 4) := by decide
theorem test_decode_lui : decodeWord 0x00010249#32 = some (.lui 9 1) := by decide
theorem test_decode_sw : decodeWord 0x01404815#32 = some (.store .sw 0 9 0x140) := by decide
theorem test_decode_bne : decodeWord 0xFFFC2821#32 = some (.branch .bne 0 5 0xFFFC) := by decide
-- F 1, B 3, A 2, D 1, OP 0x00
theorem test_decode_sub : decodeWord 0b00000000001_00011_00010_00001_000000#32 = some (.alu .sub 1 2 3) := by decide
-- F 12 with OP 0x30 is FLT
theorem test_decode_flt : decodeWord 0b00000001100_00011_00010_00001_110000#32 = some (.fcmp .flt 1 2 3) := by decide
-- OFS −1, OP 0x27
theorem test_decode_jal : decodeWord 0b11111111111111111111111111_100111#32 = some (.jal 0x3FFFFFF#26) := by decide
-- FABS with B 1 has a non-zero unused field
theorem test_decode_unused_field : decodeWord 0b00000001001_00001_00010_00001_110000#32 = none := by decide
-- DMAC with D odd
theorem test_decode_dmac_odd : decodeWord 0b00000000100_00010_00100_00001_110000#32 = none := by decide

/-! ## Commands on small states -/

/-- A check of the next state of a command. -/
def after (c : Instr) (s : State) (p : State → Bool) : Bool :=
  match exec c s with
  | .next t => p t
  | _ => false

/-- Worked example of chapter 09, step 5: the pin of source 67 is still low. -/
theorem test_clear_refused :
    after (.latchClear 2 0x8#32) (({} : State).wr (.QNC_LATCH 2) 0x8#32 |>.wr (.QNC_RAW 2) 0x8#32) (fun t =>
      t.rd (.QNC_REFUSED 2) = 0x8#32 && t.latch 67 && t.flag Fld.QNC_STATUS_CLR_REFUSED && t.f Fld.SYS_FAULT_FIRST = 0x1102) = true := by
  decide +kernel

/-- Step 8: released, the latch clears. -/
theorem test_clear_done :
    after (.latchClear 2 0x8#32) (({} : State).wr (.QNC_LATCH 2) 0x8#32) (fun t => t.rd (.QNC_REFUSED 2) = 0#32 && !t.latch 67) = true := by
  decide +kernel

/-- R250 and R277: a write of ones with no fixed latch set refuses nothing; the latch of 115 stays. -/
theorem test_clear_fixed :
    after (.latchClear 3 0xFFFFFFFF#32) {} (fun t => t.rd (.QNC_REFUSED 3) = 0#32) &&
      after (.latchClear 3 0xFFFFFFFF#32) (({} : State).wr (.QNC_LATCH 3) 0x80000#32) (fun t =>
        t.rd (.QNC_REFUSED 3) = 0x80000#32 && t.latch 115) = true := by
  decide +kernel

/-- A request with a wrong key is refused (R24). -/
theorem test_request_key :
    after (.requestConfig 0xC3A4#16) (({} : State).setF Fld.SYS_STATE_DEV_STATE devStandby) (fun t =>
      t.dev = devStandby && t.flag Fld.SYS_STATUS_REQ_REFUSED) = true := by
  decide +kernel

/-- The first word of the worked example of chapter 05 on pair 0: x5 = 100 in both copies. -/
theorem test_addi :
    after (.addi 0 5 0 100) { mem := wordsAt [(0x30000000, 0x00640141#32)], chk := wordsAt [(0x30000000, 0x00640141#32)], pair := vset (Vector.replicate 24 {}) 0 { live := true, run := some { queuedTask with place := .ended 0 } } } (fun t =>
      (t.copyOf 0 false).rx 5 = 100#32 && (t.copyOf 0 true).rx 5 = 100#32 && (t.copyOf 0 false).pc = 4#32) = true := by
  decide +kernel

/-- R358: a store to shared SRAM on whose data lead and checker differ is discarded. -/
theorem test_store_compared :
    after (.sw ⟨0, .ok⟩ 1 2 0) { mem := wordsAt [(0x30000000, (CoreOp.store .sw 1 2 0).encode)], chk := wordsAt [(0x30000000, (CoreOp.store .sw 1 2 0).encode)], pair := vset (Vector.replicate 24 {}) 0 { live := true, run := some { queuedTask with place := .ended 0 }, lead := (({} : Core).setX 1 7#32).setX 2 0x10000000#32, chk := (({} : Core).setX 1 8#32).setX 2 0x10000000#32 } } (fun t =>
      t.memW 0x10000000 = 0#32 && (t.copyOf 0 false).pc = 4#32) = true := by
  decide +kernel

/-- 1 + 1 = 2, 1 / 3 rounded to nearest, and FMAC rounded once. -/
theorem test_fadd : (fAdd 0x3F800000#32 0x3F800000#32).1 = 0x40000000#32 := by decide +kernel
theorem test_fdiv : (fDiv 0x3F800000#32 0x40400000#32).1 = 0x3EAAAAAB#32 := by decide +kernel

/-- A command on an empty queue, and in front of one. -/
theorem test_step_front :
    (match step { pending := [.gpioSet 1#32, .gpioClr 1#32] } with
      | .next t => decide (t.pending = [.gpioClr 1#32]) && t.rd .SYS_GPIO_OUT = 1#32
      | _ => false) = true := by
  decide +kernel

/-- A write of one to a W1C bit clears it, and a reserved encoding leaves its field (R7, R10). -/
theorem test_w1c :
    after (.registerWrite 0x40000010#32 0x2#32 4 false) (({} : State).wr .SYS_STATUS 0x3#32) (fun t => t.rd .SYS_STATUS = 0x1#32) = true := by
  decide +kernel

/-- R114: 16^3 is the largest output of the sinc3 filter with OSR 16, reached where every bit is 1. -/
theorem test_sinc3_full : sinc3 16 (2 ^ 48 - 1) = 4096 := by decide +kernel

/-- R83: a transition at tap 160 is counted L + 2 core cycles after it without prescaling; a pulse shorter than L samples is not. -/
theorem test_input_filter : (lineRun 4 1 0 20 0 { raw := true, at_ := 160, rise := 160 }).2 = [⟨16, 0, true, 160⟩] := by decide
theorem test_input_filter_short : (lineRun 4 1 0 13 0 { raw := true, at_ := 160, rise := 160 }).2 = [] := by decide

/-! ## Witnesses -/

theorem witness_StepRunsTheFrontCommand :
    (∃ (c : Instr) (rest : List Instr) (s : State), s.pending = c :: rest) ∧
    (∃ (s : State), s.pending = [] ∧ s.running = true ∧ (∀ (t : Nat), s.boot.rstAt = some t → s.time + 1 < t)) :=
  ⟨⟨.dmaRequest, [.dmaRequest], {pending := [.dmaRequest, .dmaRequest]}, by decide +kernel⟩,
    ⟨{running := true}, by decide +kernel⟩⟩

theorem witness_StateRequestsFollowTheTable :
    (∃ (s : State), s.sys.causeCyc ≠ some s.perCycle ∧ agentChange s devConfig ∧ s.dsgRun = false ∧ (s.latch 117 = false ∨ devConfig ≠
      devSafe)) ∧
    (∃ (key : BitVec 16) (s : State), (key ≠ 50085#16 ∨ s.sys.causeCyc = some s.perCycle ∨ ¬agentChange s devConfig)) ∧
    (∃ (s : State), s.sys.causeCyc ≠ some s.perCycle ∧ agentChange s devStandby ∧ s.dsgRun = false ∧ (s.latch 117 = false ∨ devStandby ≠
      devSafe)) ∧
    (∃ (key : BitVec 16) (s : State), (key ≠ 50085#16 ∨ s.sys.causeCyc = some s.perCycle ∨ ¬agentChange s devStandby)) ∧
    (∃ (s : State), s.sys.causeCyc ≠ some s.perCycle ∧ agentChange s devArmed ∧ s.dsgRun = false ∧ (s.latch 117 = false ∨ devArmed ≠
      devSafe)) ∧
    (∃ (key : BitVec 16) (s : State), (key ≠ 50085#16 ∨ s.sys.causeCyc = some s.perCycle ∨ ¬agentChange s devArmed)) ∧
    (∃ (s : State), s.sys.causeCyc ≠ some s.perCycle ∧ agentChange s devRun ∧ s.dsgRun = false ∧ (s.latch 117 = false ∨ devRun ≠ devSafe)) ∧
    (∃ (key : BitVec 16) (s : State), (key ≠ 50085#16 ∨ s.sys.causeCyc = some s.perCycle ∨ ¬agentChange s devRun)) ∧
    (∃ (s : State), s.sys.causeCyc ≠ some s.perCycle ∧ agentChange s devSafe ∧ s.dsgRun = false ∧ (s.latch 117 = false ∨ devSafe ≠ devSafe)) ∧
    (∃ (key : BitVec 16) (s : State), (key ≠ 50085#16 ∨ s.sys.causeCyc = some s.perCycle ∨ ¬agentChange s devSafe)) ∧
    (∃ (s : State), s.sys.causeCyc ≠ some s.perCycle ∧ agentChange s devDebug ∧ s.dsgRun = false ∧ (s.latch 117 = false ∨ devDebug ≠
      devSafe)) ∧
    (∃ (key : BitVec 16) (s : State), (key ≠ 50085#16 ∨ s.sys.causeCyc = some s.perCycle ∨ ¬agentChange s devDebug)) :=
  ⟨⟨{regs := [(.SYS_STATE, 2#32)]}, by unfold agentChange; decide +kernel⟩,
    ⟨0x800#16, {}, by unfold agentChange; decide +kernel⟩,
    ⟨{regs := [(.SYS_STATE, 3#32)]}, by unfold agentChange; decide +kernel⟩,
    ⟨0xc3a5#16, {}, by unfold agentChange; decide +kernel⟩,
    ⟨{regs := [(.SYS_STATE, 2#32), (.ANV_STATUS, 2#32)]}, by unfold agentChange; decide +kernel⟩,
    ⟨0xffff#16, {}, by unfold agentChange; decide +kernel⟩,
    ⟨{regs := [(.SYS_STATE, 3#32)]}, by unfold agentChange; decide +kernel⟩,
    ⟨0xffff#16, {}, by unfold agentChange; decide +kernel⟩,
    ⟨{regs := [(.SYS_STATE, 2#32)]}, by unfold agentChange; decide +kernel⟩,
    ⟨0x9486#16, {}, by unfold agentChange; decide +kernel⟩,
    ⟨{regs := [(.SYS_STATE, 2#32), (.SYS_STRAP, 0x10#32)]}, by unfold agentChange; decide +kernel⟩,
    ⟨0xffff#16, {}, by unfold agentChange; decide +kernel⟩⟩

theorem witness_AxisWritesAreJudgedFieldByField :
    (∃ (s : State) (value : Word) (n : Fin 4), wGet value (4 * n.val) 3 ≠ s.axis n ∧ (∀ (m : Fin 4), m ≠ n → wGet value (4 * m.val) 3 =
      s.axis m) ∧ s.sys.axCyc ≠ some s.perCycle ∧ s.dsgRun = false ∧ ((wGet value (4 * n.val) 3 = 1 ∨ wGet value (4 * n.val) 3 = 2 ∨ wGet
      value (4 * n.val) 3 = 3 ∨ wGet value (4 * n.val) 3 = 4) ∧ (s.dev = devRun ∨ s.dev = devDebug) ∧ s.axis n ≠ axHold ∨ wGet value (4 *
      n.val) 3 = axOff ∧ ¬∃ k, s.srcCounts k = true ∧ srcAction s k (axGroup n) ≠ 0)) ∧
    (∃ (s : State) (value : Word) (n : Fin 4), wGet value (4 * n.val) 3 ≠ s.axis n ∧ (∀ (m : Fin 4), m ≠ n → wGet value (4 * m.val) 3 =
      s.axis m) ∧ s.sys.axCyc ≠ some s.perCycle ∧ s.dsgRun = false ∧ ((wGet value (4 * n.val) 3 = 1 ∨ wGet value (4 * n.val) 3 = 2 ∨ wGet
      value (4 * n.val) 3 = 3 ∨ wGet value (4 * n.val) 3 = 4) ∨ wGet value (4 * n.val) 3 = axOff) ∧ (¬((wGet value (4 * n.val) 3 = 1 ∨ wGet
      value (4 * n.val) 3 = 2 ∨ wGet value (4 * n.val) 3 = 3 ∨ wGet value (4 * n.val) 3 = 4) ∧ (s.dev = devRun ∨ s.dev = devDebug) ∧ s.axis n
      ≠ axHold ∨ wGet value (4 * n.val) 3 = axOff ∧ ¬∃ k, s.srcCounts k = true ∧ srcAction s k (axGroup n) ≠ 0))) :=
  ⟨⟨{regs := [(.SYS_AX_STATE, 7#32)]}, 0x200000#32, 0, by decide +kernel⟩,
    ⟨{}, 0x2000#32, 3, by decide +kernel⟩⟩

theorem witness_SystemRegisterCommands :
    (∃ (r : Reg) (a : Word) (w : Nat), a.toNat = r.addr ∧ w ≠ 4) ∧
    (∃ (a : Word), (¬mapped (a.toNat))) ∧
    (∃ (s : State) (p : Fin 24) (offset : BitVec 16), offset.toNat % 4 = 0 ∧ (s.lp p).run = none ∧ (∀ (u : UnitPut), (s.lp p).gain = some u
      → s.time < u.at_)) ∧
    (∃ (s : State) (p : Fin 24) (offset : BitVec 16), offset.toNat % 4 = 0 ∧ (s.lp p).run ≠ none) :=
  ⟨⟨.SYS_STATE, 0x40000000#32, 525630723, by decide +kernel⟩,
    ⟨0xa95054e#32, by unfold mapped; decide +kernel⟩,
    ⟨{}, 7, 4#16, by decide +kernel⟩,
    ⟨{pair := (vset (Vector.replicate 24 {}) 1 {run := some { d := 143, tr := 3, c := 272589909, count := 45, snap := (Vector.replicate 22 0#32), from_ := 77580, place := .queued 10, written := 1#16, ended := 6, region := [0x1e#32, 0x924bfdbc#32, 0x20#32], done := some 16777215 }})},
      1, 0x10#16, by decide +kernel⟩⟩

theorem witness_SystemEvents :
    (∃ (s : State) (pin : Fin 32) (level : Bool), BitVec.getLsbD s.sys.sync pin.val ≠ level ∧ (∀ (b : Bool), gpioDrive s pin = some b → b =
      level)) ∧
    (∃ (s : State) (n : Nat), 1425 ≤ n ∧ n ≤ 1575 ∧ s.raw 114 = false) ∧
    (∃ (s : State) (n : Nat) (locked : Bool), (¬(1425 ≤ n ∧ n ≤ 1575 ∧ locked = true)) ∧ s.sys.mainBad = 0 ∧ s.raw 114 = false) ∧
    (∃ (s : State) (n : Nat) (locked : Bool), (¬(1425 ≤ n ∧ n ≤ 1575 ∧ locked = true)) ∧ s.sys.mainBad = 1) ∧
    (∃ (s : State) (n : Nat), 950 ≤ n ∧ n ≤ 1050 ∧ s.raw 114 = false) ∧
    (∃ (s : State) (n : Nat), (¬(950 ≤ n ∧ n ≤ 1050)) ∧ s.sys.svBad = 1) :=
  ⟨⟨{sys := {sync := 0x800000#32}}, 23, false, by decide +kernel⟩,
    ⟨{}, 1505, by decide +kernel⟩,
    ⟨{}, 28, false, by decide +kernel⟩,
    ⟨{sys := {mainBad := 1}}, 5, true, by decide +kernel⟩,
    ⟨{}, 950, by decide +kernel⟩,
    ⟨{sys := {svBad := 1}}, 28, by decide +kernel⟩⟩

theorem witness_DmaChannels :
    (∃ (s : State) (q : DmaReq) (rest : List DmaReq), s.dma.inbox = q :: rest) ∧
    (∃ (s : State) (c : Fin 16), s.flag (Fld.DMA_CH_CTL_EN c) = true ∧ s.f (Fld.DMA_CH_CTL_REQ c) = 63) ∧
    (∃ (s : State) (c : Fin 16) (v : Word), s.flag (Fld.DMA_CH_CTL_EN c) = false ∧ BitVec.getLsbD v 0 = true ∧ (wGet v 1 6 < 56 ∨ wGet v 1 6
      = 63) ∧ 268435456 ≤ s.f (Fld.DMA_CH_DST_ADDR c) * 4 ∧ s.f (Fld.DMA_CH_DST_ADDR c) * 4 + 4 * s.f (Fld.DMA_CH_LEN_LEN c) ≤ 272564224) ∧
    (∃ (s : State) (c : Fin 16) (v : Word), s.flag (Fld.DMA_CH_CTL_EN c) = false ∧ BitVec.getLsbD v 0 = true ∧ (¬((wGet v 1 6 < 56 ∨ wGet v
      1 6 = 63) ∧ 268435456 ≤ s.f (Fld.DMA_CH_DST_ADDR c) * 4 ∧ s.f (Fld.DMA_CH_DST_ADDR c) * 4 + 4 * s.f (Fld.DMA_CH_LEN_LEN c) ≤
      272564224))) ∧
    (∃ (s : State) (c : Fin 16), (∀ (d : Fin 16), s.f (Fld.DMA_CH_STAT_BUSY d) = 0) ∧ s.f (Fld.DMA_CH_STAT_PEND c) = 1 ∧ (∀ d < c, s.f
      (Fld.DMA_CH_STAT_PEND d) = 0)) ∧
    (∃ (s : State) (c : Fin 16), s.f (Fld.DMA_CH_STAT_BUSY c) = 1 ∧ (∀ (d : Fin 16), d ≠ c → s.f (Fld.DMA_CH_STAT_BUSY d) = 0) ∧ s.f
      (Fld.DMA_CH_CTL_BURST c) = 0 ∧ s.dma.offAtEnd.getLsbD c.val = false ∧ 268435456 ≤ s.f (Fld.DMA_CH_SRC_ADDR c) * 4 ∧ s.f
      (Fld.DMA_CH_SRC_ADDR c) * 4 < 272564224) :=
  ⟨⟨{dma := {inbox := [{ req := 35, ch := some 2, at_ := 46 }, { req := 3, ch := none, at_ := 45756 }]}},
      { req := 35, ch := some 2, at_ := 46 }, [{ req := 3, ch := none, at_ := 45756 }], by decide +kernel⟩,
    ⟨{regs := [(.DMA_CH_CTL 10, 0x7f#32)]}, 10, by decide +kernel⟩,
    ⟨{regs := [(.DMA_CH_DST 1, 0x103de410#32)]}, 1, 0xf#32, by decide +kernel⟩,
    ⟨{}, 0, 0x55#32, by decide +kernel⟩,
    ⟨{regs := [(.DMA_CH_STAT 13, 0x10000#32)]}, 13, by decide +kernel⟩,
    ⟨{regs := [(.DMA_CH_SRC 10, 0x103ec86c#32), (.DMA_CH_STAT 10, 0x20000#32)]}, 10, by decide +kernel⟩⟩

theorem witness_GeneratorEventsAndTimeouts :
    (∃ (s : State) (n : Fin 8) (delta : Int) (st : Nat) (a : Nat) (rest : List (GenEv × Nat)), s.flag (Fld.MAN_AG_CTL_EN n) = true ∧ 0 < s.f
      (Fld.MAN_AG_CPR_CPR n) ∧ s.f (Fld.MAN_AG_CPR_CPR n) ≤ 2 ^ 24 ∧ s.dsgRun = false ∧ (s.gen n).inbox = (GenEv.counts delta st, a) :: rest ∧
      delta ≠ 0) ∧
    (∃ (s : State) (n : Fin 8), s.flag (Fld.MAN_AG_CTL_EN n) = true ∧ 0 < s.f (Fld.MAN_AG_CPR_CPR n) ∧ s.f (Fld.MAN_AG_CPR_CPR n) ≤ 2 ^ 24 ∧
      s.dsgRun = false ∧ s.gSrc n = 7 ∧ (s.gen n).inbox = [] ∧ (s.gen n).wn = 0) ∧
    (∃ (s : State) (n : Fin 8) (T : Nat) (h : Nat), s.flag (Fld.MAN_AG_CTL_EN n) = true ∧ 0 < s.f (Fld.MAN_AG_CPR_CPR n) ∧ s.f
      (Fld.MAN_AG_CPR_CPR n) ≤ 2 ^ 24 ∧ s.dsgRun = false ∧ s.gSrc n = 7 ∧ (s.gen n).inbox = [] ∧ halfPeriod (s.gen n) = some h ∧ 0 < (s.gen
      n).events ∧ 2 * (T - (s.gen n).stamp) < h) ∧
    (∃ (s : State) (n : Fin 8), s.flag (Fld.MAN_AG_CTL_EN n) = true ∧ 0 < s.f (Fld.MAN_AG_CPR_CPR n) ∧ s.f (Fld.MAN_AG_CPR_CPR n) ≤ 2 ^ 24 ∧
      s.dsgRun = false ∧ (s.gSrc n = 1 ∨ s.gSrc n = 3 ∨ s.gSrc n = 4) ∧ s.f (Fld.MAN_AG_TMO_STILL_TMO n) ≠ 0 ∧ 0 < (s.gen n).events ∧ (s.gen
      n).held = none ∧ Option.any (fun e => decide (max (e.2 + 3) ((s.gen n).evAt + 1) ≤ (s.gen n).stamp / 16 + s.f (Fld.MAN_AG_TMO_STILL_TMO
      n) * 6000 + 1)) (s.gen n).inbox.head? = true) ∧
    (∃ (s : State) (n : Fin 8), s.flag (Fld.MAN_AG_CTL_EN n) = true ∧ 0 < s.f (Fld.MAN_AG_CPR_CPR n) ∧ s.f (Fld.MAN_AG_CPR_CPR n) ≤ 2 ^ 24 ∧
      s.dsgRun = false ∧ (s.gSrc n = 1 ∨ s.gSrc n = 3 ∨ s.gSrc n = 4) ∧ s.f (Fld.MAN_AG_TMO_STILL_TMO n) ≠ 0 ∧ 0 < (s.gen n).events ∧ (s.gen
      n).held = none ∧ (¬Option.any (fun e => decide (max (e.2 + 3) ((s.gen n).evAt + 1) ≤ (s.gen n).stamp / 16 + s.f
      (Fld.MAN_AG_TMO_STILL_TMO n) * 6000 + 1)) (s.gen n).inbox.head? = true)) ∧
    (∃ (s : State) (n : Fin 8), s.flag (Fld.MAN_AG_CTL_EN n) = true ∧ 0 < s.f (Fld.MAN_AG_CPR_CPR n) ∧ s.f (Fld.MAN_AG_CPR_CPR n) ≤ 2 ^ 24 ∧
      s.dsgRun = false ∧ (s.gSrc n = 2 ∨ s.gSrc n = 5) ∧ s.f (Fld.MAN_AG_TMO_HOLD_TMO n) ≠ 0 ∧ 0 < (s.gen n).events ∧ s.f
      (Fld.MAN_AG_STATUS_IN_HOLD n) = 0 ∧ Option.any (fun e => decide (max (e.2 + 3) ((s.gen n).evAt + 1) ≤ (s.gen n).stamp / 16 + s.f
      (Fld.MAN_AG_TMO_HOLD_TMO n) * 6000 + 1)) (s.gen n).inbox.head? = true) ∧
    (∃ (s : State) (n : Fin 8), s.flag (Fld.MAN_AG_CTL_EN n) = true ∧ 0 < s.f (Fld.MAN_AG_CPR_CPR n) ∧ s.f (Fld.MAN_AG_CPR_CPR n) ≤ 2 ^ 24 ∧
      s.dsgRun = false ∧ (s.gSrc n = 2 ∨ s.gSrc n = 5) ∧ s.f (Fld.MAN_AG_TMO_HOLD_TMO n) ≠ 0 ∧ 0 < (s.gen n).events ∧ s.f
      (Fld.MAN_AG_STATUS_IN_HOLD n) = 0 ∧ (¬Option.any (fun e => decide (max (e.2 + 3) ((s.gen n).evAt + 1) ≤ (s.gen n).stamp / 16 + s.f
      (Fld.MAN_AG_TMO_HOLD_TMO n) * 6000 + 1)) (s.gen n).inbox.head? = true)) ∧
    (∃ (s : State) (n : Fin 8) (h : Nat), s.flag (Fld.MAN_AG_CTL_EN n) = true ∧ 0 < s.f (Fld.MAN_AG_CPR_CPR n) ∧ s.f (Fld.MAN_AG_CPR_CPR n)
      ≤ 2 ^ 24 ∧ s.dsgRun = false ∧ s.gSrc n = 7 ∧ halfPeriod (s.gen n) = some h ∧ s.f (Fld.MAN_AG_STATUS_IN_HOLD n) = 0 ∧ Option.any (fun e
      => decide (max (e.2 + 3) ((s.gen n).evAt + 1) ≤ ((s.gen n).stamp + 3 * h / 2) / 16 + 1)) (s.gen n).inbox.head? = true) ∧
    (∃ (s : State) (n : Fin 8) (h : Nat), s.flag (Fld.MAN_AG_CTL_EN n) = true ∧ 0 < s.f (Fld.MAN_AG_CPR_CPR n) ∧ s.f (Fld.MAN_AG_CPR_CPR n)
      ≤ 2 ^ 24 ∧ s.dsgRun = false ∧ s.gSrc n = 7 ∧ halfPeriod (s.gen n) = some h ∧ s.f (Fld.MAN_AG_STATUS_IN_HOLD n) = 0 ∧ (¬Option.any (fun e
      => decide (max (e.2 + 3) ((s.gen n).evAt + 1) ≤ ((s.gen n).stamp + 3 * h / 2) / 16 + 1)) (s.gen n).inbox.head? = true)) ∧
    (∃ (s : State) (n : Fin 8), s.flag (Fld.MAN_AG_CTL_EN n) = true ∧ 0 < s.f (Fld.MAN_AG_CPR_CPR n) ∧ s.f (Fld.MAN_AG_CPR_CPR n) ≤ 2 ^ 24 ∧
      s.dsgRun = false ∧ s.gSrc n = 6) ∧
    (∃ (s : State) (n : Fin 8), s.flag (Fld.MAN_AG_CTL_EN n) = true ∧ 0 < s.f (Fld.MAN_AG_CPR_CPR n) ∧ s.f (Fld.MAN_AG_CPR_CPR n) ≤ 2 ^ 24 ∧
      s.dsgRun = false ∧ (s.gSrc n = 1 ∨ s.gSrc n = 3 ∨ s.gSrc n = 4) ∧ (s.gen n).held = none ∧ 0 < (s.gen n).wn ∧ 0 < (s.gen n).wd ∧ (s.gen
      n).dir = 1 ∧ Option.any (fun e => decide (max (e.2 + 3) ((s.gen n).evAt + 1) ≤ ((s.gen n).stamp + (2 ^ 32 / s.f (Fld.MAN_AG_CPR_CPR n) *
      (s.gen n).wd + (s.gen n).wn.natAbs - 1) / (s.gen n).wn.natAbs + 15) / 16)) (s.gen n).inbox.head? = true) ∧
    (∃ (s : State) (n : Fin 8), s.flag (Fld.MAN_AG_CTL_EN n) = true ∧ 0 < s.f (Fld.MAN_AG_CPR_CPR n) ∧ s.f (Fld.MAN_AG_CPR_CPR n) ≤ 2 ^ 24 ∧
      s.dsgRun = false ∧ (s.gSrc n = 1 ∨ s.gSrc n = 3 ∨ s.gSrc n = 4) ∧ (s.gen n).held = none ∧ 0 < (s.gen n).wn ∧ 0 < (s.gen n).wd ∧ (s.gen
      n).dir = 1 ∧ (¬Option.any (fun e => decide (max (e.2 + 3) ((s.gen n).evAt + 1) ≤ ((s.gen n).stamp + (2 ^ 32 / s.f (Fld.MAN_AG_CPR_CPR n)
      * (s.gen n).wd + (s.gen n).wn.natAbs - 1) / (s.gen n).wn.natAbs + 15) / 16)) (s.gen n).inbox.head? = true)) :=
  ⟨⟨{regs := [(.MAN_AG_CTL 5, 1#32)], man := {gen := (vset (Vector.replicate 8 {}) 5 {inbox := [(.counts (-22) 3629, 1468517914), (.index (-45756) 5, 51)]})}},
      5, -22, 3629, 1468517914, [(.index (-45756) 5, 51)], by decide +kernel⟩,
    ⟨{regs := [(.MAN_AG_CTL 0, 0xf#32)]}, 0, by decide +kernel⟩,
    ⟨genWith { wn := 2 ^ 31, wd := 1600, events := 1 } 7, 0, 0, 1600, by decide +kernel⟩,
    ⟨(genWith { events := 1, inbox := [(.counts 1 0, 0)] } 1).setF (Fld.MAN_AG_TMO_STILL_TMO 0) 1, 0, by decide +kernel⟩,
    ⟨{regs := [(.MAN_AG_CTL 2, 7#32), (.MAN_AG_TMO 2, 1#32)], man := {gen := (vset (Vector.replicate 8 {}) 2 {toGenRec := {events := 2}})}},
      2, by decide +kernel⟩,
    ⟨(genWith { events := 1, inbox := [(.sampled 1#32 0, 0)] } 2).setF (Fld.MAN_AG_TMO_HOLD_TMO 0) 1, 0, by decide +kernel⟩,
    ⟨{regs := [(.MAN_AG_CTL 2, 5#32), (.MAN_AG_TMO 2, 0x20000#32)], man := {gen := (vset (Vector.replicate 8 {}) 2 {toGenRec := {events := 1}})}},
      2, by decide +kernel⟩,
    ⟨genWith { wn := 2 ^ 31, wd := 1600, inbox := [(.mains true 0, 0)] } 7, 0, 1600, by decide +kernel⟩,
    ⟨genWith { wn := 2 ^ 31, wd := 1600 } 7, 0, 1600, by decide +kernel⟩,
    ⟨{regs := [(.MAN_AG_CTL 4, 0xd#32)]}, 4, by decide +kernel⟩,
    ⟨genWith { wn := 400, dir := 1, inbox := [(.counts 1 0, 0)] } 1, 0, by decide +kernel⟩,
    ⟨genWith { wn := 400, dir := 1 } 1, 0, by decide +kernel⟩⟩

theorem witness_GeneratorWritesAndSnapshots :
    (∃ (s : State) (n : Fin 8), 0 < s.f (Fld.MAN_AG_GEAR_DEN_DEN n) ∧ 0 < s.f (Fld.MAN_AG_CPR_CPR n) ∧ (s.gen n).inbox = [] ∧ (∀ (w :
      GenWas), (s.gen n).undo = some w → w.cyc ≠ s.time)) ∧
    (∃ (s : State) (n : Fin 8) (w : GenWas), 0 < s.f (Fld.MAN_AG_GEAR_DEN_DEN n) ∧ 0 < s.f (Fld.MAN_AG_CPR_CPR n) ∧ (s.gen n).inbox = [] ∧
      (s.gen n).undo = some w ∧ w.cyc = s.time) ∧
    (∃ (s : State) (n : Fin 8) (v : Word), 0 < s.f (Fld.MAN_AG_GEAR_DEN_DEN n) ∧ 0 < s.f (Fld.MAN_AG_CPR_CPR n) ∧ s.flag (Fld.MAN_AG_CTL_EN
      n) = false ∧ BitVec.getLsbD v 0 = true) ∧
    (∃ (s : State) (n : Fin 8) (v : Word), 0 < s.f (Fld.MAN_AG_GEAR_DEN_DEN n) ∧ 0 < s.f (Fld.MAN_AG_CPR_CPR n) ∧ s.flag (Fld.MAN_AG_CTL_EN
      n) = true ∧ BitVec.getLsbD v 0 = false) ∧
    (∃ (s : State) (n : Fin 8) (v : Word), 0 < s.f (Fld.MAN_AG_GEAR_DEN_DEN n) ∧ 0 < s.f (Fld.MAN_AG_CPR_CPR n) ∧ v ≠ 0#32) ∧
    (∃ (s : State) (n : Fin 8) (v : Word), 0 < s.f (Fld.MAN_AG_GEAR_DEN_DEN n) ∧ 0 < s.f (Fld.MAN_AG_CPR_CPR n) ∧ v ≠ s.rd (Reg.MAN_AG_EOFS
      n) ∧ s.dsgRun = false) :=
  ⟨⟨{}, 0, by decide +kernel⟩,
    ⟨{man := {gen := (vset (Vector.replicate 8 {}) 2 {undo := some { cyc := 0, was := {count := -51, pos := 150844444, stamp := 7, wn := 39065, wd := 28, dir := -7, events := 18, rampAcc := -2, rampV := -5, rampCyc := 58, rampEn := 16322, g0 := 4186205762, p0 := -1444360090, num := 18, turns0 := 5, latchT := 5, chg := 91, mechB := -6, elecB := -80696, wB := (6, 5), jumpE := true, holdAt := 98}, status := 0x8001e#32, latch := 0xaeca063b#32, jump := 2#32 }})}},
      2,
      { cyc := 0, was := {count := -51, pos := 150844444, stamp := 7, wn := 39065, wd := 28, dir := -7, events := 18, rampAcc := -2, rampV := -5, rampCyc := 58, rampEn := 16322, g0 := 4186205762, p0 := -1444360090, num := 18, turns0 := 5, latchT := 5, chg := 91, mechB := -6, elecB := -80696, wB := (6, 5), jumpE := true, holdAt := 98}, status := 0x8001e#32, latch := 0xaeca063b#32, jump := 2#32 },
      by decide +kernel⟩,
    ⟨{}, 7, 0xffffffff#32, by decide +kernel⟩,
    ⟨{regs := [(.MAN_AG_CTL 0, 1#32)]}, 0, 0x636233e8#32, by decide +kernel⟩,
    ⟨{}, 3, 3#32, by decide +kernel⟩,
    ⟨{}, 2, 0xffffffff#32, by decide +kernel⟩⟩

theorem witness_AngleMarks :
    (∃ (s : State) (m : Fin 64), (s.gen (markAg s m)).inbox = [] ∧ markCross s m s.time = 0) ∧
    (∃ (s : State) (m : Fin 64) (cyc : Nat) (b : Nat), s.flag (Fld.MAN_AM_CTL_EN m) = true ∧ s.time ≤ cyc + 1 ∧ ((genSettle (markAg s m) cyc
      s).gen (markAg s m)).chg ≤ cyc ∧ (markCross (genSettle (markAg s m) cyc s) m cyc = 1 ∧ b = 1 ∨ markCross (genSettle (markAg s m) cyc s)
      m cyc = -1 ∧ b = 2) ∧ s.f (Fld.MAN_AM_CTL_ARM m) / b % 2 = 1) ∧
    (∃ (s : State) (m : Fin 64) (cyc : Nat) (b : Nat), s.flag (Fld.MAN_AM_CTL_EN m) = true ∧ s.time ≤ cyc + 1 ∧ ((genSettle (markAg s m) cyc
      s).gen (markAg s m)).chg ≤ cyc ∧ (markCross (genSettle (markAg s m) cyc s) m cyc = 1 ∧ b = 1 ∨ markCross (genSettle (markAg s m) cyc s)
      m cyc = -1 ∧ b = 2) ∧ s.f (Fld.MAN_AM_CTL_ARM m) / b % 2 = 0) ∧
    (∃ (s : State) (m : Fin 64) (cyc : Nat), s.flag (Fld.MAN_AM_CTL_EN m) = true ∧ s.genOn (markAg s m) = true ∧ s.time ≤ cyc + 1 ∧
      ((genSettle (markAg s m) cyc s).gen (markAg s m)).chg ≤ cyc) ∧
    (∃ (v : Word), wGet v 5 2 ≠ 3) :=
  ⟨⟨{}, 37, by decide +kernel⟩,
    ⟨(turning.setF (Fld.MAN_AM_ANGLE_ANGLE 0) 900).setF (Fld.MAN_AM_CTL_ARM 0) 1, 0, 1, 1, by decide +kernel⟩,
    ⟨turning.setF (Fld.MAN_AM_ANGLE_ANGLE 0) 900, 0, 1, 1, by decide +kernel⟩,
    ⟨{regs := [(.MAN_AG_CTL 0, 1#32), (.MAN_AM_CTL 34, 1#32)]}, 34, 3, by decide +kernel⟩,
    ⟨0x22#32, by decide +kernel⟩⟩

theorem witness_IncrementalChannels :
    (∃ (s : State) (n : Fin 8), s.flag (Fld.FBK_QE_CTL_EN n) = true ∧ s.f (Fld.FBK_QE_CNT_CNT n) < s.f (Fld.FBK_QE_MOD_MOD n) ∧ s.dsgRun =
      false ∧ s.f (Fld.FBK_QE_FILT_AB_PRE n) = 0) ∧
    (∃ (s : State) (n : Fin 8), s.flag (Fld.FBK_QE_CTL_EN n) = true ∧ s.f (Fld.FBK_QE_CNT_CNT n) < s.f (Fld.FBK_QE_MOD_MOD n) ∧ s.dsgRun =
      false ∧ s.f (Fld.FBK_QE_FILT_Z_PRE n) = 0) ∧
    (∃ (s : State) (n : Fin 8) (b : Bool) (v : Bool) (T : Nat) (cyc : Nat), s.flag (Fld.FBK_QE_CTL_EN n) = true ∧ s.f (Fld.FBK_QE_CNT_CNT n)
      < s.f (Fld.FBK_QE_MOD_MOD n) ∧ s.dsgRun = false ∧ s.f (Fld.FBK_QE_CTL_MODE n) = 0 ∧ s.fbk.qe[n].acc = [] ∧ (∀ (l : Fin 3),
      s.fbk.qe[n].line[l].seen = s.fbk.qe[n].line[l].raw ∧ s.fbk.qe[n].line[l].out = s.fbk.qe[n].line[l].raw ∧ s.fbk.qe[n].line[l].raw = (s.f
      (Fld.FBK_QE_STATUS_IN n)).testBit l.val) ∧ (s.f (Fld.FBK_QE_STATUS_IN n)).testBit (↑(if b = true then 1 else 0) : Nat) = !v ∧ cyc <
      nextSample (qeFilter s n (if b = true then 1 else 0)).2 (Config.filterPhase (2 * n.val + (↑(if b = true then 1 else 0) : Nat) / 2)) (T /
      16 + 1) + ((qeFilter s n (if b = true then 1 else 0)).1 - 1) * (qeFilter s n (if b = true then 1 else 0)).2 + 2) ∧
    (∃ (s : State) (n : Fin 8) (b : Bool) (v : Bool) (T : Nat) (T' : Nat), s.flag (Fld.FBK_QE_CTL_EN n) = true ∧ s.f (Fld.FBK_QE_CNT_CNT n)
      < s.f (Fld.FBK_QE_MOD_MOD n) ∧ s.dsgRun = false ∧ s.f (Fld.FBK_QE_CTL_MODE n) = 0 ∧ s.fbk.qe[n].acc = [] ∧ (∀ (l : Fin 3),
      s.fbk.qe[n].line[l].seen = s.fbk.qe[n].line[l].raw ∧ s.fbk.qe[n].line[l].out = s.fbk.qe[n].line[l].raw ∧ s.fbk.qe[n].line[l].raw = (s.f
      (Fld.FBK_QE_STATUS_IN n)).testBit l.val) ∧ (s.f (Fld.FBK_QE_STATUS_IN n)).testBit (↑(if b = true then 1 else 0) : Nat) = !v ∧ T ≤ T' ∧
      T' / 16 < T / 16 + (qeFilter s n (if b = true then 1 else 0)).1 ∧ (qeFilter s n (if b = true then 1 else 0)).2 = 1) ∧
    (∃ (s : State) (n : Fin 8) (b : Bool) (v : Bool) (T : Nat) (cyc : Nat), s.flag (Fld.FBK_QE_CTL_EN n) = true ∧ s.f (Fld.FBK_QE_CNT_CNT n)
      < s.f (Fld.FBK_QE_MOD_MOD n) ∧ s.dsgRun = false ∧ s.f (Fld.FBK_QE_CTL_MODE n) = 0 ∧ s.fbk.qe[n].acc = [] ∧ (∀ (l : Fin 3),
      s.fbk.qe[n].line[l].seen = s.fbk.qe[n].line[l].raw ∧ s.fbk.qe[n].line[l].out = s.fbk.qe[n].line[l].raw ∧ s.fbk.qe[n].line[l].raw = (s.f
      (Fld.FBK_QE_STATUS_IN n)).testBit l.val) ∧ (s.f (Fld.FBK_QE_STATUS_IN n)).testBit (↑(if b = true then 1 else 0) : Nat) = !v ∧ nextSample
      (qeFilter s n (if b = true then 1 else 0)).2 (Config.filterPhase (2 * n.val + (↑(if b = true then 1 else 0) : Nat) / 2)) (T / 16 + 1) +
      ((qeFilter s n (if b = true then 1 else 0)).1 - 1) * (qeFilter s n (if b = true then 1 else 0)).2 + 2 ≤ cyc ∧ s.flag
      (Fld.FBK_QE_IDX_CTL_ZGATE n) = false) ∧
    (∃ (s : State) (n : Fin 8) (T : Nat) (T' : Nat) (cyc : Nat), s.flag (Fld.FBK_QE_CTL_EN n) = true ∧ s.f (Fld.FBK_QE_CNT_CNT n) < s.f
      (Fld.FBK_QE_MOD_MOD n) ∧ s.dsgRun = false ∧ s.f (Fld.FBK_QE_CTL_MODE n) = 0 ∧ s.fbk.qe[n].acc = [] ∧ (∀ (l : Fin 3),
      s.fbk.qe[n].line[l].seen = s.fbk.qe[n].line[l].raw ∧ s.fbk.qe[n].line[l].out = s.fbk.qe[n].line[l].raw ∧ s.fbk.qe[n].line[l].raw = (s.f
      (Fld.FBK_QE_STATUS_IN n)).testBit l.val) ∧ s.flag (Fld.FBK_QE_IDX_CTL_ZGATE n) = false ∧ T / 16 = T' / 16 ∧ nextSample (qeFilter s n
      0).2 (Config.filterPhase (2 * n.val + (0 : Fin 3).val / 2)) (T / 16 + 1) + ((qeFilter s n 0).1 - 1) * (qeFilter s n 0).2 + 2 ≤ cyc) ∧
    (∃ (s : State) (n : Fin 8) (T : Nat) (cyc : Nat), s.flag (Fld.FBK_QE_CTL_EN n) = true ∧ s.f (Fld.FBK_QE_CNT_CNT n) < s.f
      (Fld.FBK_QE_MOD_MOD n) ∧ s.dsgRun = false ∧ s.f (Fld.FBK_QE_CTL_MODE n) = 0 ∧ s.fbk.qe[n].acc = [] ∧ (∀ (l : Fin 3),
      s.fbk.qe[n].line[l].seen = s.fbk.qe[n].line[l].raw ∧ s.fbk.qe[n].line[l].out = s.fbk.qe[n].line[l].raw ∧ s.fbk.qe[n].line[l].raw = (s.f
      (Fld.FBK_QE_STATUS_IN n)).testBit l.val) ∧ s.flag (Fld.FBK_QE_IDX_CTL_ZGATE n) = false ∧ (s.f (Fld.FBK_QE_STATUS_IN n)).testBit 2 =
      false ∧ cyc < nextSample (qeFilter s n 2).2 (Config.filterPhase (2 * n.val + (2 : Fin 3).val / 2)) (T / 16 + 1) + ((qeFilter s n 2).1 -
      1) * (qeFilter s n 2).2 + 2) ∧
    (∃ (s : State) (n : Fin 8) (T : Nat) (cyc : Nat), s.flag (Fld.FBK_QE_CTL_EN n) = true ∧ s.f (Fld.FBK_QE_CNT_CNT n) < s.f
      (Fld.FBK_QE_MOD_MOD n) ∧ s.dsgRun = false ∧ s.f (Fld.FBK_QE_CTL_MODE n) = 0 ∧ s.fbk.qe[n].acc = [] ∧ (∀ (l : Fin 3),
      s.fbk.qe[n].line[l].seen = s.fbk.qe[n].line[l].raw ∧ s.fbk.qe[n].line[l].out = s.fbk.qe[n].line[l].raw ∧ s.fbk.qe[n].line[l].raw = (s.f
      (Fld.FBK_QE_STATUS_IN n)).testBit l.val) ∧ s.flag (Fld.FBK_QE_IDX_CTL_ZGATE n) = false ∧ (s.f (Fld.FBK_QE_STATUS_IN n)).testBit 2 =
      false ∧ nextSample (qeFilter s n 2).2 (Config.filterPhase (2 * n.val + (2 : Fin 3).val / 2)) (T / 16 + 1) + ((qeFilter s n 2).1 - 1) *
      (qeFilter s n 2).2 + 2 ≤ cyc) ∧
    (∃ (s : State) (n : Fin 8) (w : BitVec 3) (edges : List (Fin 3 × Bool × Nat)) (x : Nat) (st : Nat) (cyc : Nat), s.flag
      (Fld.FBK_QE_CTL_EN n) = true ∧ s.f (Fld.FBK_QE_CNT_CNT n) < s.f (Fld.FBK_QE_MOD_MOD n) ∧ s.dsgRun = false ∧ s.f (Fld.FBK_QE_CTL_MODE n)
      = 1 ∧ s.f (Fld.FBK_QE_MOD_MOD n) = 6 ∧ (∀ (l : Fin 3), s.fbk.qe[n].line[l].seen = s.fbk.qe[n].line[l].raw ∧ s.fbk.qe[n].line[l].out =
      s.fbk.qe[n].line[l].raw ∧ s.fbk.qe[n].line[l].raw = (s.f (Fld.FBK_QE_STATUS_IN n)).testBit l.val) ∧ x ≤ cyc ∧ (s.fbk.qe[n].acc =
      [{ cyc := x, line := 0, level := w.getLsbD 0, stamp := st }, { cyc := x, line := 1, level := w.getLsbD 1, stamp := st },
      { cyc := x, line := 2, level := w.getLsbD 2, stamp := st }] ∧ edges = [] ∨ (s.fbk.qe[n].acc = [] ∧ ∀ (l : Fin 3),
      s.fbk.qe[n].line[l].seen = s.fbk.qe[n].line[l].raw ∧ s.fbk.qe[n].line[l].out = s.fbk.qe[n].line[l].raw ∧ s.fbk.qe[n].line[l].raw = (s.f
      (Fld.FBK_QE_STATUS_IN n)).testBit l.val) ∧ ∃ l, edges = [(l, !(s.f (Fld.FBK_QE_STATUS_IN n)).testBit l.val, st)] ∧ x = nextSample
      (qeFilter s n l).2 (Config.filterPhase (2 * n.val + l.val / 2)) (st / 16 + 1) + ((qeFilter s n l).1 - 1) * (qeFilter s n l).2 + 2 ∧
      w.toNat = s.f (Fld.FBK_QE_STATUS_IN n) ^^^ 1 <<< l.val)) ∧
    (∃ (s : State) (n : Fin 8) (line : Fin 3), s.flag (Fld.FBK_QE_CTL_EN n) = true ∧ s.f (Fld.FBK_QE_CNT_CNT n) < s.f (Fld.FBK_QE_MOD_MOD n)
      ∧ s.dsgRun = false ∧ s.f (Fld.FBK_QE_CTL_MODE n) = 0 ∧ (line ≠ 2 ∨ s.f (Fld.FBK_QE_IDX_CTL_IDX_MODE n) ≠ 0 ∨ ¬s.flag
      (Fld.FBK_QE_IDX_CTL_ZGATE n) = false)) ∧
    (∃ (s : State) (n : Fin 8) (line : Fin 3), s.flag (Fld.FBK_QE_CTL_EN n) = true ∧ s.f (Fld.FBK_QE_CNT_CNT n) < s.f (Fld.FBK_QE_MOD_MOD n)
      ∧ s.dsgRun = false ∧ s.f (Fld.FBK_QE_CTL_MODE n) = 0 ∧ (¬(line ≠ 2 ∨ s.f (Fld.FBK_QE_IDX_CTL_IDX_MODE n) ≠ 0 ∨ ¬s.flag
      (Fld.FBK_QE_IDX_CTL_ZGATE n) = false))) :=
  ⟨⟨{regs := [(.FBK_QE_CTL 5, 1#32)]}, 5, by decide +kernel⟩,
    ⟨{regs := [(.FBK_QE_CTL 0, 1#32)]}, 0, by decide +kernel⟩,
    ⟨{regs := [(.FBK_QE_CTL 6, 1#32)]}, 6, false, true, 53, 4, by decide +kernel⟩,
    ⟨{regs := [(.FBK_QE_CTL 6, 1#32)]}, 6, false, true, 7, 24, by decide +kernel⟩,
    ⟨{regs := [(.FBK_QE_CTL 1, 1#32)]}, 1, true, true, 32, 12, by decide +kernel⟩,
    ⟨{regs := [(.FBK_QE_CTL 1, 1#32)]}, 1, 5, 2, 11, by decide +kernel⟩,
    ⟨{regs := [(.FBK_QE_CTL 7, 1#32)]}, 7, 47, 9, by decide +kernel⟩,
    ⟨{regs := [(.FBK_QE_CTL 1, 1#32)]}, 1, 6, 10, by decide +kernel⟩,
    ⟨{regs := [(.FBK_QE_CTL 5, 3#32), (.FBK_QE_MOD 5, 6#32), (.FBK_QE_STATUS 5, 0x300000#32)], fbk := {qe := (vset (Vector.replicate 8 {}) 5 {line := (vset (Vector.replicate 3 {raw := true, seen := true, out := true}) 0 {}), acc := [{ cyc := 2, line := 0, level := true, stamp := 2715721450 }, { cyc := 2, line := 1, level := true, stamp := 2715721450 }, { cyc := 2, line := 2, level := false, stamp := 2715721450 }]})}},
      5, 3#3, [], 2, 2715721450, 5, by decide +kernel⟩,
    ⟨{regs := [(.FBK_QE_CTL 1, 1#32)]}, 1, 1, by decide +kernel⟩,
    ⟨{regs := [(.FBK_QE_CTL 7, 1#32)]}, 7, 2, by decide +kernel⟩⟩

theorem witness_FeedbackWritesAndCaptures :
    (∃ (s : State) (n : Fin 8), s.fbk.qe[n].acc = [] ∧ (∀ (l : Fin 3), s.fbk.qe[n].line[l].seen = s.fbk.qe[n].line[l].raw ∧
      s.fbk.qe[n].line[l].out = s.fbk.qe[n].line[l].raw)) ∧
    (∃ (s : State) (n : Fin 8) (before : List (Nat × Nat × Nat)) (at_ : Nat) (cyc : Nat) (rest : List (Nat × Nat × Nat)), s.post.cap =
      before ++ (n.val, at_, cyc) :: rest ∧ (∀ e ∈ before, e.1 ≠ n.val)) ∧
    (∃ (s : State) (n : Fin 8) (v : Word), s.flag (Fld.FBK_QE_CTL_EN n) = false ∧ BitVec.getLsbD v 0 = true) ∧
    (∃ (s : State) (n : Fin 8), s.flag (Fld.FBK_QE_CTL_EN n) = true) :=
  ⟨⟨{}, 5, by decide +kernel⟩,
    ⟨{post := {cap := [(14, 2, 74), (7, 28, 629555846), (20, 906387468, 0), (6, 0, 2)]}}, 7, [(14, 2, 74)], 28, 629555846, [(20, 906387468,
      0), (6, 0, 2)], by decide +kernel⟩,
    ⟨{}, 4, 0x20001#32, by decide +kernel⟩,
    ⟨{regs := [(.FBK_QE_CTL 0, 1#32)]}, 0, by decide +kernel⟩⟩

theorem witness_SsiChannels :
    (∃ (s : State) (n : Fin 4) (v : Word), s.dsgRun = false ∧ s.flag (Fld.FBK_SSI_CTL_EN n) = false ∧ BitVec.getLsbD v 0 = true ∧ s.locked =
      true ∧ s.f (Fld.FBK_SSI_FRAME_FLEN n) < s.f (Fld.FBK_SSI_FRAME_POS_SH n) + s.f (Fld.FBK_SSI_FRAME_MT_BITS n) + s.f
      (Fld.FBK_SSI_FRAME_ST_BITS n) + if s.f (Fld.FBK_SSI_CTL_PAR n) = 0 then 0 else 1) ∧
    (∃ (s : State) (n : Fin 4) (v : Word), s.dsgRun = false ∧ s.flag (Fld.FBK_SSI_CTL_EN n) = false ∧ BitVec.getLsbD v 0 = true ∧ s.locked =
      true ∧ (¬s.f (Fld.FBK_SSI_FRAME_FLEN n) < s.f (Fld.FBK_SSI_FRAME_POS_SH n) + s.f (Fld.FBK_SSI_FRAME_MT_BITS n) + s.f
      (Fld.FBK_SSI_FRAME_ST_BITS n) + if s.f (Fld.FBK_SSI_CTL_PAR n) = 0 then 0 else 1)) ∧
    (∃ (s : State) (n : Fin 4) (v : Word), s.dsgRun = false ∧ s.flag (Fld.FBK_SSI_CTL_EN n) = true ∧ BitVec.getLsbD v 0 = false ∧
      s.fbk.ssi[n].frames ≠ []) ∧
    (∃ (s : State) (n : Fin 4) (cyc : Nat) (before : List (Nat × Nat × Nat)) (at_ : Nat) (rest : List (Nat × Nat × Nat)), s.dsgRun = false ∧
      s.flag (Fld.FBK_SSI_CTL_EN n) = true ∧ s.f (Fld.FBK_SSI_CTL_TRG n) ≠ 5 ∧ s.post.ssi = before ++ (n.val, at_, cyc) :: rest ∧ (∀ e ∈
      before, e.1 ≠ n.val)) ∧
    (∃ (s : State) (n : Fin 4) (cyc : Nat), s.dsgRun = false ∧ s.flag (Fld.FBK_SSI_CTL_EN n) = true ∧ s.f (Fld.FBK_SSI_CTL_TRG n) = 5 ∧ 0 <
      s.f (Fld.FBK_SSI_PERIOD_PERIOD n) ∧ s.fbk.ssi[n].org ≤ s.time ∧ s.time ≤ cyc ∧ cyc < s.time + s.f (Fld.FBK_SSI_PERIOD_PERIOD n) ∧
      s.fbk.ssi[n].org < cyc ∧ (cyc - s.fbk.ssi[n].org) % s.f (Fld.FBK_SSI_PERIOD_PERIOD n) = 0) ∧
    (∃ (s : State) (n : Fin 4) (raw : BitVec 48) (b : SsiBurst) (rest : List SsiBurst), s.dsgRun = false ∧ s.fbk.ssi[n].frames = b :: rest ∧
      b.ready = true ∧ ssiParityBad s n (raw.toNat % 2 ^ s.f (Fld.FBK_SSI_FRAME_FLEN n)) = false ∧ ssiEncoderErr s n (raw.toNat % 2 ^ s.f
      (Fld.FBK_SSI_FRAME_FLEN n)) = false) ∧
    (∃ (s : State) (n : Fin 4) (raw : BitVec 48) (b : SsiBurst) (rest : List SsiBurst), s.dsgRun = false ∧ s.fbk.ssi[n].frames = b :: rest ∧
      (¬(b.ready = true ∧ ssiParityBad s n (raw.toNat % 2 ^ s.f (Fld.FBK_SSI_FRAME_FLEN n)) = false ∧ ssiEncoderErr s n (raw.toNat % 2 ^ s.f
      (Fld.FBK_SSI_FRAME_FLEN n)) = false))) ∧
    (∃ (s : State) (n : Fin 4), s.dsgRun = false ∧ s.fbk.ssi[n].pause = true) :=
  ⟨⟨{regs := [(.SYS_STATE, 0x100#32), (.FBK_SSI_FRAME 1, 0xd0c0a#32)]}, 1, 0xffffffff#32, by decide +kernel⟩,
    ⟨{regs := [(.SYS_STATE, 0x100#32)]}, 3, 1#32, by decide +kernel⟩,
    ⟨{regs := [(.FBK_SSI_CTL 3, 1#32)], fbk := {ssi := (vset (Vector.replicate 4 {}) 3 {frames := [{ t0 := 5, rise := 31, last := 1023, ready := false }, { t0 := 0, rise := 22, last := 23, ready := true }]})}},
      3, 0x929f59f0#32, by decide +kernel⟩,
    ⟨{regs := [(.FBK_SSI_CTL 2, 1#32)], post := {ssi := [(2, 91958, 7), (22401432, 22290, 1898455885)]}}, 2, 7, [], 91958, [(22401432,
      22290, 1898455885)], by decide +kernel⟩,
    ⟨{regs := [(.FBK_SSI_CTL 3, 0xb#32), (.FBK_SSI_PERIOD 3, 2#32)], time := 4}, 3, 4, by decide +kernel⟩,
    ⟨{fbk := {ssi := (vset (Vector.replicate 4 {}) 3 {frames := [{ t0 := 4, rise := 6, last := 862295695, ready := true }]})}}, 3,
      0xcd77b7b5c8a6#48, { t0 := 4, rise := 6, last := 862295695, ready := true }, [], by decide +kernel⟩,
    ⟨{fbk := {ssi := (vset (Vector.replicate 4 {}) 1 {frames := [{ t0 := 1660619802, rise := 48, last := 5, ready := false }, { t0 := 1, rise := 0, last := 57, ready := false }, { t0 := 4, rise := 18, last := 78450, ready := true }]})}},
      1, 0x20000000#48, { t0 := 1660619802, rise := 48, last := 5, ready := false }, [{ t0 := 1, rise := 0, last := 57, ready := false },
      { t0 := 4, rise := 18, last := 78450, ready := true }], by decide +kernel⟩,
    ⟨{fbk := {ssi := (vset (Vector.replicate 4 {}) 2 {pause := true})}}, 2, by decide +kernel⟩⟩

theorem witness_SensingWindowsAndSources :
    (∃ (s : State) (k : Fin 32) (before : List (Nat × Nat)) (tc : Nat) (rest : List (Nat × Nat)), s.dsgRun = false ∧ (∀ (j : Fin 32), 0 <
      sdmDiv s j) ∧ s.sdmOn k = true ∧ s.flag (Fld.SDM_CK_CTL_EN (sdmClock s k)) = true ∧ s.post.win = before ++ (k.val, tc) :: rest ∧ (∀ e ∈
      before, e.1 ≠ k.val)) ∧
    (∃ (s : State) (k : Fin 32), s.dsgRun = false ∧ (∀ (j : Fin 32), 0 < sdmDiv s j) ∧ s.sdmOn k = true ∧ s.flag (Fld.SDM_CK_CTL_EN
      (sdmClock s k)) = true ∧ s.f (Fld.SDM_CH_STATUS_STUCK_NOW k) = 0) ∧
    (∃ (s : State) (k : Fin 32), s.dsgRun = false ∧ (∀ (j : Fin 32), 0 < sdmDiv s j) ∧ s.sdmOn k = true ∧ s.flag (Fld.SDM_CK_CTL_EN
      (sdmClock s k)) = true ∧ s.flag (Fld.SDM_CH_CTL_FEN k) = true) ∧
    (∃ (s : State) (m : Fin 16) (a : Fin 32) (b : Fin 32), s.dsgRun = false ∧ (∀ (j : Fin 32), 0 < sdmDiv s j) ∧ a.val = m.val ∧ b.val =
      m.val + 16 ∧ (∀ e ∈ s.post.win, s.time < e.2 / 16 + 1)) ∧
    (∃ (s : State) (m : Fin 16) (a : Fin 32) (b : Fin 32) (v : Word), s.dsgRun = false ∧ (∀ (j : Fin 32), 0 < sdmDiv s j) ∧ a.val = m.val ∧
      b.val = m.val + 16 ∧ BitVec.getLsbD v 0 = true ∧ sdmDiv s a ≠ sdmDiv s b) ∧
    (∃ (s : State) (m : Fin 16) (a : Fin 32) (b : Fin 32) (v : Word), s.dsgRun = false ∧ (∀ (j : Fin 32), 0 < sdmDiv s j) ∧ a.val = m.val ∧
      b.val = m.val + 16 ∧ (BitVec.getLsbD v 0 = false ∨ sdmDiv s a = sdmDiv s b) ∧ (∀ (j : Fin 32), s.sdm[j].pend = none)) :=
  ⟨⟨{regs := [(.SDM_CK_CTL 0, 0x3d#32), (.SDM_CH_CTL 5, 0x21#32)], post := {win := [(54, 46), (5, 16), (272592234, 525630723)]}}, 5, [(54,
      46)], 16, [(272592234, 525630723)], by decide +kernel⟩,
    ⟨{regs := [(.SDM_CK_CTL 4, 0x3d#32), (.SDM_CH_CTL 25, 0x21#32)]}, 25, by decide +kernel⟩,
    ⟨{regs := [(.SDM_CK_CTL 0, 0x3d#32), (.SDM_CH_CTL 1, 0x400021#32)]}, 1, by decide +kernel⟩,
    ⟨{}, 0, 0, 16, by decide +kernel⟩,
    ⟨{regs := [(.SDM_CK_CTL 4, 8#32)]}, 11, 11, 27, 0x9609155d#32, by decide +kernel⟩,
    ⟨{}, 0, 0, 16, 2#32, by decide +kernel⟩⟩

theorem witness_SensingWordsAreTrimmedCheckedAndDelivered :
    (∃ (s : State) (k : Fin 32) (e : Nat) (n : Nat), s.dsgRun = false ∧ s.sdmOn k = true ∧ s.flag (Fld.SDM_CK_CTL_EN (sdmClock s k)) = true
      ∧ e ≤ 4 ∧ 0 < sdmDiv s k ∧ (∀ (g : Fin 4), s.f (Fld.SDM_SG_CTL_EN_A g) = 0 ∧ s.f (Fld.SDM_SG_CTL_EN_B g) = 0) ∧ (k.val < 16 ∨ s.anvLive
      = false) ∧ (∀ (j : Fin 32), s.sdm[j].pend = none) ∧ s.pairOn k = false ∧ sdmWin s k = 0 ∧ s.f (Fld.SDM_CH_CTL_OSR3 (winOwner s k)) = e ∧
      16 * 2 ^ e ∣ n + 1 ∧ s.sdm[k].enCyc + 3 * (16 * 2 ^ e) * sdmDiv s k ≤ (n + 1) * sdmDiv s k) ∧
    (∃ (s : State) (k : Fin 32) (e : Nat) (key : Nat) (ts : Nat), s.dsgRun = false ∧ s.sdmOn k = true ∧ s.flag (Fld.SDM_CK_CTL_EN (sdmClock
      s k)) = true ∧ e ≤ 4 ∧ 0 < sdmDiv s k ∧ (∀ (g : Fin 4), s.f (Fld.SDM_SG_CTL_EN_A g) = 0 ∧ s.f (Fld.SDM_SG_CTL_EN_B g) = 0) ∧ (k.val < 16
      ∨ s.anvLive = false) ∧ (∀ (j : Fin 32), s.sdm[j].pend = none) ∧ s.pairOn k = false ∧ s.sdm[k].win = some
      { key := key, ts := ts, osr := 16 * 2 ^ e }) ∧
    (∃ (s : State) (k : Fin 32) (e : Nat) (m : Fin 16) (a : Fin 32) (key : Nat) (ts : Nat) (x : SdmWord), s.dsgRun = false ∧ s.sdmOn k =
      true ∧ s.flag (Fld.SDM_CK_CTL_EN (sdmClock s k)) = true ∧ e ≤ 4 ∧ 0 < sdmDiv s k ∧ (∀ (g : Fin 4), s.f (Fld.SDM_SG_CTL_EN_A g) = 0 ∧ s.f
      (Fld.SDM_SG_CTL_EN_B g) = 0) ∧ (k.val < 16 ∨ s.anvLive = false) ∧ a.val = m.val ∧ k.val = m.val + 16 ∧ s.flag (Fld.SDM_CHK_CTL_EN m) =
      true ∧ s.sdm[k].win = some { key := key, ts := ts, osr := 16 * 2 ^ e } ∧ s.sdm[a].pend = some x ∧ x.key = key ∧ x.pairDone = false ∧
      x.tags = 0#4 ∧ (∀ (j : Fin 32), j ≠ a → s.sdm[j].pend = none) ∧ (¬(s.flag (Fld.SDM_CH_STATUS_STUCK_NOW k) = true ∨ s.sdm[k].halted =
      true))) :=
  ⟨⟨{regs := [(.SDM_CK_CTL 0, 0x3d#32), (.SDM_CH_CTL 13, 0x21#32)]}, 13, 2, 191, by decide +kernel⟩,
    ⟨{regs := [(.SDM_CK_CTL 0, 0x3d#32), (.SDM_CH_CTL 8, 0x21#32)], sdm := (vset (Vector.replicate 32 {}) 8 {win := some { key := 3273706454, ts := 2740375844, osr := 64 }})},
      8, 2, 3273706454, 2740375844, by decide +kernel⟩,
    ⟨{regs := [(.SDM_CK_CTL 4, 0x3d#32), (.SDM_CH_CTL 21, 0x21#32), (.SDM_CHK_CTL 5, 0xffff0001#32)], sdm := (vset (vset (Vector.replicate 32 {}) 5 {pend := some { key := 272584741, w := -36, tags := 0#4, seq := none, pairDone := false, sumDone := true }}) 21 {win := some { key := 272584741, ts := 3, osr := 128 }})},
      21, 3, 5, 5, 272584741, 3, { key := 272584741, w := -36, tags := 0#4, seq := none, pairDone := false, sumDone := true }, by
      decide +kernel⟩⟩

theorem witness_IntegerInstructions :
    (∃ (s : State) (p : Fin 25) (o : CoreOp), (∀ (q : Fin 24) (w : UnitPut), loopPair p = some q → (s.lp q).gain = some w → issueCycle (s.lp
      q) o < w.at_)) ∧
    (∃ (s : State) (p : Fin 25) (d : BitVec 5) (a : BitVec 5) (b : BitVec 5), s.ready p = true ∧ nextOp s p = some (CoreOp.alu AluOp.add d a
      b)) ∧
    (∃ (s : State) (p : Fin 25) (d : BitVec 5) (a : BitVec 5) (b : BitVec 5), s.ready p = true ∧ nextOp s p = some (CoreOp.alu AluOp.sub d a
      b)) ∧
    (∃ (s : State) (p : Fin 25) (d : BitVec 5) (a : BitVec 5) (b : BitVec 5), s.ready p = true ∧ nextOp s p = some (CoreOp.alu AluOp.and d a
      b)) ∧
    (∃ (s : State) (p : Fin 25) (d : BitVec 5) (a : BitVec 5) (b : BitVec 5), s.ready p = true ∧ nextOp s p = some (CoreOp.alu AluOp.or d a
      b)) ∧
    (∃ (s : State) (p : Fin 25) (d : BitVec 5) (a : BitVec 5) (b : BitVec 5), s.ready p = true ∧ nextOp s p = some (CoreOp.alu AluOp.xor d a
      b)) ∧
    (∃ (s : State) (p : Fin 25) (d : BitVec 5) (a : BitVec 5) (b : BitVec 5), s.ready p = true ∧ nextOp s p = some (CoreOp.alu AluOp.shl d a
      b)) ∧
    (∃ (s : State) (p : Fin 25) (d : BitVec 5) (a : BitVec 5) (b : BitVec 5), s.ready p = true ∧ nextOp s p = some (CoreOp.alu AluOp.shr d a
      b)) ∧
    (∃ (s : State) (p : Fin 25) (d : BitVec 5) (a : BitVec 5) (b : BitVec 5), s.ready p = true ∧ nextOp s p = some (CoreOp.alu AluOp.sra d a
      b)) ∧
    (∃ (s : State) (p : Fin 25) (d : BitVec 5) (a : BitVec 5) (b : BitVec 5), s.ready p = true ∧ nextOp s p = some (CoreOp.alu AluOp.slt d a
      b)) ∧
    (∃ (s : State) (p : Fin 25) (d : BitVec 5) (a : BitVec 5) (b : BitVec 5), s.ready p = true ∧ nextOp s p = some (CoreOp.alu AluOp.sltu d
      a b)) ∧
    (∃ (s : State) (p : Fin 25) (d : BitVec 5) (a : BitVec 5) (b : BitVec 5), s.ready p = true ∧ nextOp s p = some (CoreOp.alu AluOp.min d a
      b)) ∧
    (∃ (s : State) (p : Fin 25) (d : BitVec 5) (a : BitVec 5) (b : BitVec 5), s.ready p = true ∧ nextOp s p = some (CoreOp.alu AluOp.max d a
      b)) ∧
    (∃ (s : State) (p : Fin 25) (d : BitVec 5) (a : BitVec 5) (b : BitVec 5), s.ready p = true ∧ nextOp s p = some (CoreOp.alu AluOp.mul d a
      b)) ∧
    (∃ (s : State) (p : Fin 25) (d : BitVec 5) (a : BitVec 5) (v : BitVec 16), s.ready p = true ∧ nextOp s p = some (CoreOp.imm ImmOp.addi d
      a v)) ∧
    (∃ (s : State) (p : Fin 25) (d : BitVec 5) (a : BitVec 5) (v : BitVec 16), s.ready p = true ∧ nextOp s p = some (CoreOp.imm ImmOp.andi d
      a v)) ∧
    (∃ (s : State) (p : Fin 25) (d : BitVec 5) (a : BitVec 5) (v : BitVec 16), s.ready p = true ∧ nextOp s p = some (CoreOp.imm ImmOp.ori d
      a v)) ∧
    (∃ (s : State) (p : Fin 25) (d : BitVec 5) (a : BitVec 5) (v : BitVec 16), s.ready p = true ∧ nextOp s p = some (CoreOp.imm ImmOp.xori d
      a v)) ∧
    (∃ (s : State) (p : Fin 25) (d : BitVec 5) (a : BitVec 5) (v : BitVec 16), s.ready p = true ∧ nextOp s p = some (CoreOp.imm ImmOp.slti d
      a v)) ∧
    (∃ (s : State) (p : Fin 25) (d : BitVec 5) (a : BitVec 5) (b : BitVec 5), s.ready p = true ∧ nextOp s p = some (CoreOp.shift
      ShiftOp.shli d a b)) ∧
    (∃ (s : State) (p : Fin 25) (d : BitVec 5) (a : BitVec 5) (b : BitVec 5), s.ready p = true ∧ nextOp s p = some (CoreOp.shift
      ShiftOp.shri d a b)) ∧
    (∃ (s : State) (p : Fin 25) (d : BitVec 5) (a : BitVec 5) (b : BitVec 5), s.ready p = true ∧ nextOp s p = some (CoreOp.shift
      ShiftOp.srai d a b)) ∧
    (∃ (s : State) (p : Fin 25) (d : BitVec 5) (v : BitVec 16), s.ready p = true ∧ nextOp s p = some (CoreOp.lui d v)) ∧
    (∃ (s : State) (p : Fin 25), s.ready p = true ∧ nextOp s p = some CoreOp.nop) :=
  ⟨⟨{}, 24, .nop, by exact fun q w h _ => nomatch (show (none : Option (Fin 24)) = some q from h)⟩,
    ⟨{mem := [(806783173, 0xcc#8), (806783174, 3#8)], pair := (vset (Vector.replicate 24 {}) 22 {lead := {pc := 0x88c4#32}, live := true})},
      22, 0x10#5, 0x19#5, 3#5, by decide +kernel⟩,
    ⟨{mem := [(806163897, 6#8), (806163898, 0x3f#8)], pair := (vset (Vector.replicate 24 {}) 13 {lead := {pc := 0x15b8#32}, live := true})},
      13, 0x18#5, 0#5, 0x1f#5, by decide +kernel⟩,
    ⟨{mem := [(805867312, 0x40#8), (805867314, 0x42#8)], pair := (vset (Vector.replicate 24 {}) 8 {lead := {pc := 0x8f30#32}, live := true})},
      8, 1#5, 0#5, 2#5, by decide +kernel⟩,
    ⟨{mem := [(805769785, 0x1e#8), (805769786, 0x7e#8)], pair := (vset (Vector.replicate 24 {}) 7 {lead := {pc := 0x1238#32}, live := true})},
      7, 0x18#5, 3#5, 0x1e#5, by decide +kernel⟩,
    ⟨{mem := [(805765140, 0x40#8), (805765141, 0x81#8), (805765142, 0x83#8)], pair := (vset (Vector.replicate 24 {}) 7 {lead := {pc := 0x14#32}, live := true})},
      7, 5#5, 0x10#5, 3#5, by decide +kernel⟩,
    ⟨{mem := [(806315149, 8#8), (806315150, 0xa2#8)], pair := (vset (Vector.replicate 24 {}) 15 {lead := {pc := 0x648c#32}, live := true})},
      15, 0#5, 1#5, 2#5, by decide +kernel⟩,
    ⟨{mem := [(805818837, 0xa8#8), (805818838, 0xc2#8)], pair := (vset (Vector.replicate 24 {}) 7 {lead := {pc := 0xd1d4#32}, live := true})},
      7, 0#5, 0x15#5, 2#5, by decide +kernel⟩,
    ⟨{mem := [(805548228, 0x80#8), (805548229, 0xa2#8), (805548230, 0xfb#8)], pair := (vset (Vector.replicate 24 {}) 3 {lead := {pc := 0xb0c4#32}, live := true})},
      3, 0xa#5, 0x14#5, 0x1b#5, by decide +kernel⟩,
    ⟨{mem := [(806519149, 0x25#8), (806519150, 4#8), (806519151, 1#8)], pair := (vset (Vector.replicate 24 {}) 18 {lead := {pc := 0x816c#32}, live := true})},
      18, 0x14#5, 4#5, 4#5, by decide +kernel⟩,
    ⟨{mem := [(806237101, 0x23#8), (806237102, 0x20#8), (806237103, 1#8)], pair := (vset (Vector.replicate 24 {}) 14 {lead := {pc := 0x33ac#32}, live := true})},
      14, 0xc#5, 4#5, 0#5, by decide +kernel⟩,
    ⟨{mem := [(805904436, 0x80#8), (805904437, 0xf8#8), (805904438, 0x48#8), (805904439, 1#8)], pair := (vset (Vector.replicate 24 {}) 9 {lead := {pc := 0x2034#32}, live := true})},
      9, 2#5, 0x1f#5, 8#5, by decide +kernel⟩,
    ⟨{mem := [(805765125, 0xf9#8), (805765126, 0x61#8), (805765127, 1#8)], pair := (vset (Vector.replicate 24 {}) 7 {lead := {pc := 4#32}, live := true})},
      7, 4#5, 0x1f#5, 1#5, by decide +kernel⟩,
    ⟨{mem := [(806314305, 0xf9#8), (806314306, 0x83#8), (806314307, 1#8)], pair := (vset (Vector.replicate 24 {}) 15 {lead := {pc := 0x6140#32}, live := true})},
      15, 4#5, 0x1f#5, 3#5, by decide +kernel⟩,
    ⟨{mem := [(805779288, 0x81#8), (805779289, 0x85#8), (805779290, 0x4b#8), (805779291, 0x4c#8)], pair := (vset (Vector.replicate 24 {}) 7 {lead := {pc := 0x3758#32}, live := true})},
      7, 0x16#5, 0x10#5, 0x4c4b#16, by decide +kernel⟩,
    ⟨{mem := [(805484008, 2#8), (805484009, 0xc6#8), (805484010, 0x14#8), (805484011, 0x75#8)], pair := (vset (Vector.replicate 24 {}) 2 {lead := {pc := 0xb5e8#32}, live := true})},
      2, 0x18#5, 0x18#5, 0x7514#16, by decide +kernel⟩,
    ⟨{mem := [(805503224, 0x43#8), (805503225, 0xd2#8), (805503226, 0x26#8)], pair := (vset (Vector.replicate 24 {}) 3 {lead := {pc := 0xf8#32}, live := true})},
      3, 9#5, 0x1a#5, 0x26#16, by decide +kernel⟩,
    ⟨{mem := [(806876104, 0xc4#8), (806876105, 0x21#8), (806876106, 0x3e#8)], pair := (vset (Vector.replicate 24 {}) 23 {lead := {pc := 0xf3c8#32}, live := true})},
      23, 7#5, 4#5, 0x3e#16, by decide +kernel⟩,
    ⟨{mem := [(805324364, 8#8), (805324365, 0xfb#8), (805324366, 0x60#8), (805324367, 0xdb#8)], pair := (vset (Vector.replicate 24 {}) 0 {lead := {pc := 0x464c#32}, live := true})},
      0, 0xc#5, 0x1f#5, 0xdb60#16, by decide +kernel⟩,
    ⟨{mem := [(805719524, 0x45#8), (805719525, 0x75#8)], pair := (vset (Vector.replicate 24 {}) 6 {lead := {pc := 0x4de4#32}, live := true})},
      6, 0x15#5, 0xe#5, 0#5, by decide +kernel⟩,
    ⟨{mem := [(806761396, 0x86#8), (806761397, 6#8)], pair := (vset (Vector.replicate 24 {}) 22 {lead := {pc := 0x33b4#32}, live := true})},
      22, 0x1a#5, 0#5, 0#5, by decide +kernel⟩,
    ⟨{mem := [(806594516, 0x87#8), (806594518, 0x1f#8)], pair := (vset (Vector.replicate 24 {}) 19 {lead := {pc := 0xa7d4#32}, live := true})},
      19, 2#5, 0#5, 0x1f#5, by decide +kernel⟩,
    ⟨{mem := [(806581832, 0x49#8), (806581834, 0x2e#8)], pair := (vset (Vector.replicate 24 {}) 19 {lead := {pc := 0x7648#32}, live := true})},
      19, 1#5, 0x2e#16, by decide +kernel⟩,
    ⟨{mem := [(806738180, 0x3e#8)], pair := (vset (Vector.replicate 24 {}) 21 {lead := {pc := 0xd904#32}, live := true})}, 21, by
      decide +kernel⟩⟩

theorem witness_FloatingPointInstructions :
    (∃ (a : Word) (b : Word), fIsNaN (fAdd a b).1 = true) ∧
    (∃ (a : Word) (b : Word), fIsNaN (fSub a b).1 = true) ∧
    (∃ (a : Word) (b : Word), fIsNaN (fMul a b).1 = true) ∧
    (∃ (a : Word) (b : Word) (c : Word), fIsNaN (fMac c a b).1 = true) ∧
    (∃ (a : Word) (b : Word), fIsNaN (fDiv a b).1 = true) ∧
    (∃ (a : Word), fIsNaN (fSqrt a).1 = true) ∧
    (∃ (a : Word) (b : Word), fIsNaN a = true ∧ fIsNaN b = true) ∧
    (∃ (a : Word) (b : Word), fIsNaN a = true ∧ fIsNaN b = false) ∧
    (∃ (a : Word) (b : Word), fIsNaN a = false ∧ fIsNaN b = true) ∧
    (∃ (a : Word) (b : Word), (fIsNaN a = true ∨ fIsNaN b = true)) ∧
    (∃ (s : State) (p : Fin 25) (d : BitVec 5) (a : BitVec 5) (b : BitVec 5), s.ready p = true ∧ nextOp s p = some (CoreOp.fp FpOp.fadd d a
      b)) ∧
    (∃ (s : State) (p : Fin 25) (d : BitVec 5) (a : BitVec 5) (b : BitVec 5), s.ready p = true ∧ nextOp s p = some (CoreOp.fp FpOp.fsub d a
      b)) ∧
    (∃ (s : State) (p : Fin 25) (d : BitVec 5) (a : BitVec 5) (b : BitVec 5), s.ready p = true ∧ nextOp s p = some (CoreOp.fp FpOp.fmul d a
      b)) ∧
    (∃ (s : State) (p : Fin 25) (d : BitVec 5) (a : BitVec 5) (b : BitVec 5), s.ready p = true ∧ nextOp s p = some (CoreOp.fp FpOp.fmac d a
      b)) ∧
    (∃ (s : State) (p : Fin 25) (d : BitVec 5) (a : BitVec 5) (b : BitVec 5), s.ready p = true ∧ nextOp s p = some (CoreOp.fp FpOp.fdiv d a
      b)) ∧
    (∃ (s : State) (p : Fin 25) (d : BitVec 5) (a : BitVec 5) (b : BitVec 5), s.ready p = true ∧ nextOp s p = some (CoreOp.fp FpOp.fmin d a
      b)) ∧
    (∃ (s : State) (p : Fin 25) (d : BitVec 5) (a : BitVec 5) (b : BitVec 5), s.ready p = true ∧ nextOp s p = some (CoreOp.fp FpOp.fmax d a
      b)) ∧
    (∃ (s : State) (p : Fin 25) (d : BitVec 5) (a : BitVec 5), s.ready p = true ∧ nextOp s p = some (CoreOp.fun1 FpUn.fsqrt d a)) ∧
    (∃ (s : State) (p : Fin 25) (d : BitVec 5) (a : BitVec 5), s.ready p = true ∧ nextOp s p = some (CoreOp.fun1 FpUn.fabs d a)) ∧
    (∃ (s : State) (p : Fin 25) (d : BitVec 5) (a : BitVec 5), s.ready p = true ∧ nextOp s p = some (CoreOp.fun1 FpUn.fneg d a)) ∧
    (∃ (s : State) (p : Fin 25) (d : BitVec 5) (a : BitVec 5) (b : BitVec 5), s.ready p = true ∧ nextOp s p = some (CoreOp.fcmp FpCmp.feq d
      a b)) ∧
    (∃ (s : State) (p : Fin 25) (d : BitVec 5) (a : BitVec 5) (b : BitVec 5), s.ready p = true ∧ nextOp s p = some (CoreOp.fcmp FpCmp.flt d
      a b)) ∧
    (∃ (s : State) (p : Fin 25) (d : BitVec 5) (a : BitVec 5) (b : BitVec 5), s.ready p = true ∧ nextOp s p = some (CoreOp.fcmp FpCmp.fle d
      a b)) ∧
    (∃ (s : State) (p : Fin 25) (d : BitVec 5) (a : BitVec 5), s.ready p = true ∧ nextOp s p = some (CoreOp.fmove FpMove.fcvtws d a)) ∧
    (∃ (s : State) (p : Fin 25) (d : BitVec 5) (a : BitVec 5), s.ready p = true ∧ nextOp s p = some (CoreOp.fmove FpMove.fcvtsw d a)) ∧
    (∃ (s : State) (p : Fin 25) (d : BitVec 5) (a : BitVec 5), s.ready p = true ∧ nextOp s p = some (CoreOp.fmove FpMove.fmvxs d a)) ∧
    (∃ (s : State) (p : Fin 25) (d : BitVec 5) (a : BitVec 5), s.ready p = true ∧ nextOp s p = some (CoreOp.fmove FpMove.fmvsx d a)) ∧
    (∃ (s : State) (p : Fin 25) (d : BitVec 5) (a : BitVec 5) (b : BitVec 5), s.ready p = true ∧ d.getLsbD 0 = false ∧ a.getLsbD 0 = false ∧
      b.getLsbD 0 = false ∧ nextOp s p = some (CoreOp.dmac d a b)) :=
  ⟨⟨0xffffffff#32, 0#32, by decide +kernel⟩,
    ⟨0xffffffff#32, 0x411d80e0#32, by decide +kernel⟩,
    ⟨0#32, 0xffffffff#32, by decide +kernel⟩,
    ⟨0xffffffff#32, 3#32, 0x867bb671#32, by decide +kernel⟩,
    ⟨0xffffffff#32, 0#32, by decide +kernel⟩,
    ⟨0x8dc19433#32, by decide +kernel⟩,
    ⟨0x7f814e9c#32, 0xff800002#32, by decide +kernel⟩,
    ⟨0x7f800001#32, 0x87800000#32, by decide +kernel⟩,
    ⟨0xe8800000#32, 0x7f800028#32, by decide +kernel⟩,
    ⟨0x7f8f1a46#32, 0x7f800004#32, by decide +kernel⟩,
    ⟨{mem := [(806306828, 0xb0#8), (806306829, 0x51#8), (806306830, 2#8)], pair := (vset (Vector.replicate 24 {}) 15 {lead := {pc := 0x440c#32}, live := true})},
      15, 6#5, 0xa#5, 2#5, by decide +kernel⟩,
    ⟨{mem := [(805381244, 0x70#8), (805381245, 0x35#8), (805381246, 0x2d#8)], pair := (vset (Vector.replicate 24 {}) 1 {lead := {pc := 0x247c#32}, live := true})},
      1, 0x15#5, 6#5, 0xd#5, by decide +kernel⟩,
    ⟨{mem := [(806612124, 0xb0#8), (806612125, 0xf0#8), (806612126, 0x5f#8)], pair := (vset (Vector.replicate 24 {}) 19 {lead := {pc := 0xec9c#32}, live := true})},
      19, 2#5, 0x1e#5, 0x1f#5, by decide +kernel⟩,
    ⟨{mem := [(805733640, 0x30#8), (805733641, 0x16#8), (805733642, 0x61#8)], pair := (vset (Vector.replicate 24 {}) 6 {lead := {pc := 0x8508#32}, live := true})},
      6, 0x18#5, 2#5, 1#5, by decide +kernel⟩,
    ⟨{mem := [(806723088, 0x70#8), (806723089, 0x13#8), (806723090, 0xa3#8)], pair := (vset (Vector.replicate 24 {}) 21 {lead := {pc := 0x9e10#32}, live := true})},
      21, 0xd#5, 2#5, 3#5, by decide +kernel⟩,
    ⟨{mem := [(806811820, 0x70#8), (806811821, 8#8), (806811822, 0xfd#8)], pair := (vset (Vector.replicate 24 {}) 22 {lead := {pc := 0xf8ac#32}, live := true})},
      22, 1#5, 1#5, 0x1d#5, by decide +kernel⟩,
    ⟨{mem := [(806398196, 0x30#8), (806398197, 0xf9#8), (806398198, 0x1a#8), (806398199, 1#8)], pair := (vset (Vector.replicate 24 {}) 16 {lead := {pc := 0xa8f4#32}, live := true})},
      16, 4#5, 0x1f#5, 0x1a#5, by decide +kernel⟩,
    ⟨{mem := [(805437448, 0x70#8), (805437449, 0xb4#8), (805437450, 0xc0#8)], pair := (vset (Vector.replicate 24 {}) 2 {lead := {pc := 8#32}, live := true})},
      2, 0x11#5, 0x16#5, by decide +kernel⟩,
    ⟨{mem := [(805676192, 0xf0#8), (805676193, 0x7a#8), (805676194, 0x20#8), (805676195, 1#8)], pair := (vset (Vector.replicate 24 {}) 5 {lead := {pc := 0xa4a0#32}, live := true})},
      5, 0xb#5, 0xf#5, by decide +kernel⟩,
    ⟨{mem := [(805561580, 0x70#8), (805561581, 1#8), (805561582, 0x40#8), (805561583, 1#8)], pair := (vset (Vector.replicate 24 {}) 3 {lead := {pc := 0xe4ec#32}, live := true})},
      3, 5#5, 0#5, by decide +kernel⟩,
    ⟨{mem := [(806389416, 0xb0#8), (806389417, 0xf8#8), (806389418, 0x7c#8), (806389419, 1#8)], pair := (vset (Vector.replicate 24 {}) 16 {lead := {pc := 0x86a8#32}, live := true})},
      16, 2#5, 0x1f#5, 0x1c#5, by decide +kernel⟩,
    ⟨{mem := [(805701884, 0xf0#8), (805701885, 0xe7#8), (805701886, 0x88#8), (805701887, 1#8)], pair := (vset (Vector.replicate 24 {}) 6 {lead := {pc := 0x8fc#32}, live := true})},
      6, 0x1f#5, 0x1c#5, 8#5, by decide +kernel⟩,
    ⟨{mem := [(805919752, 0x30#8), (805919753, 0xd#8), (805919754, 0xa0#8), (805919755, 1#8)], pair := (vset (Vector.replicate 24 {}) 9 {lead := {pc := 0x5c08#32}, live := true})},
      9, 0x14#5, 1#5, 0#5, by decide +kernel⟩,
    ⟨{mem := [(806843304, 0x70#8), (806843305, 0xf5#8), (806843306, 0xc0#8), (806843307, 1#8)], pair := (vset (Vector.replicate 24 {}) 23 {lead := {pc := 0x73a8#32}, live := true})},
      23, 0x15#5, 0x1e#5, by decide +kernel⟩,
    ⟨{mem := [(806833260, 0x30#8), (806833261, 0xfb#8), (806833262, 0xe0#8), (806833263, 1#8)], pair := (vset (Vector.replicate 24 {}) 23 {lead := {pc := 0x4c6c#32}, live := true})},
      23, 0xc#5, 0x1f#5, by decide +kernel⟩,
    ⟨{mem := [(806174908, 0xf0#8), (806174909, 4#8), (806174911, 2#8)], pair := (vset (Vector.replicate 24 {}) 13 {lead := {pc := 0x40bc#32}, live := true})},
      13, 0x13#5, 0#5, by decide +kernel⟩,
    ⟨{mem := [(806354944, 0x30#8), (806354945, 0x4f#8), (806354946, 0x20#8), (806354947, 2#8)], pair := (vset (Vector.replicate 24 {}) 16 {live := true})},
      16, 0x1c#5, 9#5, by decide +kernel⟩,
    ⟨{mem := [(806189648, 0x30#8), (806189649, 0xf7#8), (806189650, 0x88#8)], pair := (vset (Vector.replicate 24 {}) 13 {lead := {pc := 0x7a50#32}, live := true})},
      13, 0x1c#5, 0x1e#5, 8#5, by decide +kernel⟩⟩

theorem witness_RoundingIsToTheNearest :
    (∃ (neg : Bool) (n : Nat) (d : Nat) (w' : Word), 0 < n ∧ 0 < d ∧ fFinite (fRound neg n d).1 = true ∧ fFinite w' = true) ∧
    (∃ (neg : Bool) (n : Nat) (d : Nat) (w' : Word), 0 < n ∧ 0 < d ∧ fFinite w' = true ∧ (fVal w').le (Frac.mk (if neg = true then -(↑n :
      Int) else (↑n : Int)) d) = true ∧ (Frac.mk (if neg = true then -(↑n : Int) else (↑n : Int)) d).le (fVal w') = true) :=
  ⟨⟨true, 35, 54, 0x2850028#32, by decide +kernel⟩,
    ⟨false, 1, 1, 0x3F800000#32, by decide +kernel⟩⟩

theorem witness_BranchesJumpsAndControlRegisters :
    (∃ (s : State) (p : Fin 25) (a : BitVec 5) (b : BitVec 5) (ofs : BitVec 16), s.ready p = true ∧ nextOp s p = some (CoreOp.branch
      BranchOp.beq b a ofs)) ∧
    (∃ (s : State) (p : Fin 25) (a : BitVec 5) (b : BitVec 5) (ofs : BitVec 16), s.ready p = true ∧ nextOp s p = some (CoreOp.branch
      BranchOp.bne b a ofs)) ∧
    (∃ (s : State) (p : Fin 25) (a : BitVec 5) (b : BitVec 5) (ofs : BitVec 16), s.ready p = true ∧ nextOp s p = some (CoreOp.branch
      BranchOp.blt b a ofs)) ∧
    (∃ (s : State) (p : Fin 25) (a : BitVec 5) (b : BitVec 5) (ofs : BitVec 16), s.ready p = true ∧ nextOp s p = some (CoreOp.branch
      BranchOp.bge b a ofs)) ∧
    (∃ (s : State) (p : Fin 25) (a : BitVec 5) (b : BitVec 5) (ofs : BitVec 16), s.ready p = true ∧ nextOp s p = some (CoreOp.branch
      BranchOp.bltu b a ofs)) ∧
    (∃ (s : State) (p : Fin 25) (a : BitVec 5) (b : BitVec 5) (ofs : BitVec 16), s.ready p = true ∧ nextOp s p = some (CoreOp.branch
      BranchOp.bgeu b a ofs)) ∧
    (∃ (s : State) (p : Fin 25) (far : BitVec 26), s.ready p = true ∧ nextOp s p = some (CoreOp.j far)) ∧
    (∃ (s : State) (p : Fin 25) (far : BitVec 26), s.ready p = true ∧ nextOp s p = some (CoreOp.jal far)) ∧
    (∃ (s : State) (p : Fin 25) (d : BitVec 5) (a : BitVec 5), s.ready p = true ∧ (s.copyOf p false).rx a &&& 3#32 = 0#32 ∧ nextOp s p =
      some (CoreOp.jr d a)) ∧
    (∃ (s : State) (d : BitVec 5) (a : BitVec 5) (q : Fin 24), s.ready q.castSucc = true ∧ (s.copyOf q.castSucc false).rx a &&& 3#32 ≠ 0#32
      ∧ nextOp s q.castSucc = some (CoreOp.jr d a) ∧ s.dsgRun = false) ∧
    (∃ (s : State) (d : BitVec 5) (a : BitVec 5), s.ready 24 = true ∧ (s.copyOf 24 false).rx a &&& 3#32 ≠ 0#32 ∧ nextOp s 24 = some
      (CoreOp.jr d a)) ∧
    (∃ (s : State) (p : Fin 25) (d : BitVec 5) (n : BitVec 12), s.ready p = true ∧ nextOp s p = some (CoreOp.csrr d n)) ∧
    (∃ (s : State) (p : Fin 25) (a : BitVec 5) (n : BitVec 12), s.ready p = true ∧ nextOp s p = some (CoreOp.csrw a n)) :=
  ⟨⟨{mem := [(806486168, 0xe0#8), (806486169, 0x79#8), (806486170, 0x27#8)], pair := (vset (Vector.replicate 24 {}) 18 {lead := {pc := 0x98#32}, live := true})},
      18, 0xf#5, 7#5, 0x27#16, by decide +kernel⟩,
    ⟨{mem := [(806777972, 0x21#8), (806777973, 0xf#8), (806777974, 0x30#8)], pair := (vset (Vector.replicate 24 {}) 22 {lead := {pc := 0x7474#32}, live := true})},
      22, 1#5, 0x1c#5, 0x30#16, by decide +kernel⟩,
    ⟨{mem := [(806728180, 0xe2#8), (806728181, 0xc4#8), (806728182, 0x5a#8), (806728183, 0xa5#8)], pair := (vset (Vector.replicate 24 {}) 21 {lead := {pc := 0xb1f4#32}, live := true})},
      21, 0x18#5, 0x13#5, 0xa55a#16, by decide +kernel⟩,
    ⟨{mem := [(806676628, 0x23#8), (806676630, 0x34#8)], pair := (vset (Vector.replicate 24 {}) 20 {lead := {pc := 0xe894#32}, live := true})},
      20, 0#5, 0#5, 0x34#16, by decide +kernel⟩,
    ⟨{mem := [(806205896, 0xe4#8), (806205897, 0xfd#8), (806205898, 0x5a#8), (806205899, 0xa5#8)], pair := (vset (Vector.replicate 24 {}) 13 {lead := {pc := 0xb9c8#32}, live := true})},
      13, 0x1f#5, 0x17#5, 0xa55a#16, by decide +kernel⟩,
    ⟨{mem := [(806160352, 0x25#8), (806160353, 0x1e#8), (806160354, 0x33#8), (806160355, 0x47#8)], pair := (vset (Vector.replicate 24 {}) 13 {lead := {pc := 0x7e0#32}, live := true})},
      13, 3#5, 0x18#5, 0x4733#16, by decide +kernel⟩,
    ⟨{mem := [(806441448, 0xe6#8), (806441449, 0xff#8), (806441450, 0xff#8), (806441451, 0xff#8)], pair := (vset (Vector.replicate 24 {}) 17 {lead := {pc := 0x51e8#32}, live := true})},
      17, 0x3ffffff#26, by decide +kernel⟩,
    ⟨{mem := [(806158512, 0x67#8), (806158513, 7#8)], pair := (vset (Vector.replicate 24 {}) 13 {lead := {pc := 0xb0#32}, live := true})},
      13, 0x1d#26, by decide +kernel⟩,
    ⟨{mem := [(805816488, 0xe8#8), (805816489, 0x22#8)], pair := (vset (Vector.replicate 24 {}) 7 {lead := {pc := 0xc8a8#32}, live := true})},
      7, 0xb#5, 4#5, by decide +kernel⟩,
    ⟨{mem := [(806165308, 0xa8#8), (806165309, 0x10#8)], pair := (vset (Vector.replicate 24 {}) 13 {lead := {x := (vset (Vector.replicate 32 0#32) 2 1#32), pc := 0x1b3c#32}, live := true})},
      2#5, 2#5, 13, by decide +kernel⟩,
    ⟨{mem := [(134263820, 0x68#8), (134263821, 0xff#8)], running := true, ken := {lead := {x := (vset (Vector.replicate 32 0#32) 31 0xffffffff#32), pc := 0x800b40c#32}}},
      0x1d#5, 0x1f#5, by decide +kernel⟩,
    ⟨{mem := [(806617120, 0x3c#8), (806617121, 4#8), (806617122, 0x3e#8)], pair := (vset (Vector.replicate 24 {}) 20 {lead := {pc := 0x20#32}, live := true})},
      20, 0x10#5, 0x3e#12, by decide +kernel⟩,
    ⟨{mem := [(806298580, 0x3d#8), (806298581, 0x28#8)], pair := (vset (Vector.replicate 24 {}) 15 {lead := {pc := 0x23d4#32}, live := true})},
      15, 5#5, 0#12, by decide +kernel⟩⟩

theorem witness_LoadsReadTheSpaceOfTheCore :
    (∃ (s : State) (d : BitVec 5) (a : BitVec 5) (v : BitVec 16) (q : Fin 24), s.ready q.castSucc = true ∧ (s.copyOf q.castSucc true).rx a =
      (s.copyOf q.castSucc false).rx a ∧ s.dsgRun = false ∧ nextOp s q.castSucc = some (CoreOp.load LoadOp.lw d a v) ∧ BitVec.toNat ((s.copyOf
      q.castSucc false).rx a + BitVec.signExtend 32 v) % 4 = 0 ∧ BitVec.toNat ((s.copyOf q.castSucc false).rx a + BitVec.signExtend 32 v) <
      65536) ∧
    (∃ (s : State) (d : BitVec 5) (a : BitVec 5) (v : BitVec 16) (q : Fin 24), s.ready q.castSucc = true ∧ (s.copyOf q.castSucc true).rx a =
      (s.copyOf q.castSucc false).rx a ∧ s.dsgRun = false ∧ nextOp s q.castSucc = some (CoreOp.load LoadOp.lw d a v) ∧ BitVec.toNat ((s.copyOf
      q.castSucc false).rx a + BitVec.signExtend 32 v) % 4 = 0 ∧ 65536 ≤ BitVec.toNat ((s.copyOf q.castSucc false).rx a + BitVec.signExtend 32
      v) ∧ BitVec.toNat ((s.copyOf q.castSucc false).rx a + BitVec.signExtend 32 v) < 65632) ∧
    (∃ (s : State) (d : BitVec 5) (a : BitVec 5) (v : BitVec 16) (q : Fin 24), s.ready q.castSucc = true ∧ (s.copyOf q.castSucc true).rx a =
      (s.copyOf q.castSucc false).rx a ∧ s.dsgRun = false ∧ nextOp s q.castSucc = some (CoreOp.load LoadOp.lw d a v) ∧ BitVec.toNat ((s.copyOf
      q.castSucc false).rx a + BitVec.signExtend 32 v) % 4 = 0 ∧ 268435456 ≤ BitVec.toNat ((s.copyOf q.castSucc false).rx a +
      BitVec.signExtend 32 v) ∧ BitVec.toNat ((s.copyOf q.castSucc false).rx a + BitVec.signExtend 32 v) < 272564224) ∧
    (∃ (s : State) (d : BitVec 5) (a : BitVec 5) (v : BitVec 16) (q : Fin 24), s.ready q.castSucc = true ∧ (s.copyOf q.castSucc true).rx a =
      (s.copyOf q.castSucc false).rx a ∧ s.dsgRun = false ∧ nextOp s q.castSucc = some (CoreOp.load LoadOp.lw d a v) ∧ (BitVec.toNat
      ((s.copyOf q.castSucc false).rx a + BitVec.signExtend 32 v) % 4 ≠ 0 ∨ 65632 ≤ BitVec.toNat ((s.copyOf q.castSucc false).rx a +
      BitVec.signExtend 32 v) ∧ BitVec.toNat ((s.copyOf q.castSucc false).rx a + BitVec.signExtend 32 v) < 268435456 ∨ 272564224 ≤
      BitVec.toNat ((s.copyOf q.castSucc false).rx a + BitVec.signExtend 32 v))) ∧
    (∃ (s : State) (d : BitVec 5) (a : BitVec 5) (v : BitVec 16), s.ready 24 = true ∧ (s.copyOf 24 true).rx a = (s.copyOf 24 false).rx a ∧
      s.dsgRun = false ∧ nextOp s 24 = some (CoreOp.load LoadOp.lw d a v) ∧ BitVec.toNat ((s.copyOf 24 false).rx a + BitVec.signExtend 32 v) %
      4 = 0 ∧ 134217728 ≤ BitVec.toNat ((s.copyOf 24 false).rx a + BitVec.signExtend 32 v) ∧ BitVec.toNat ((s.copyOf 24 false).rx a +
      BitVec.signExtend 32 v) < 134742016) ∧
    (∃ (s : State) (d : BitVec 5) (a : BitVec 5) (v : BitVec 16), s.ready 24 = true ∧ (s.copyOf 24 true).rx a = (s.copyOf 24 false).rx a ∧
      s.dsgRun = false ∧ nextOp s 24 = some (CoreOp.load LoadOp.lw d a v) ∧ BitVec.toNat ((s.copyOf 24 false).rx a + BitVec.signExtend 32 v) %
      4 = 0 ∧ 268435456 ≤ BitVec.toNat ((s.copyOf 24 false).rx a + BitVec.signExtend 32 v) ∧ BitVec.toNat ((s.copyOf 24 false).rx a +
      BitVec.signExtend 32 v) < 272629760) ∧
    (∃ (s : State) (d : BitVec 5) (a : BitVec 5) (v : BitVec 16), s.ready 24 = true ∧ (s.copyOf 24 true).rx a = (s.copyOf 24 false).rx a ∧
      s.dsgRun = false ∧ nextOp s 24 = some (CoreOp.load LoadOp.lw d a v) ∧ BitVec.toNat ((s.copyOf 24 false).rx a + BitVec.signExtend 32 v) %
      4 ≠ 0) ∧
    (∃ (s : State) (d : BitVec 5) (a : BitVec 5) (v : BitVec 16) (q : Fin 24), s.ready q.castSucc = true ∧ (s.copyOf q.castSucc true).rx a =
      (s.copyOf q.castSucc false).rx a ∧ s.dsgRun = false ∧ nextOp s q.castSucc = some (CoreOp.load LoadOp.lhu d a v) ∧ (BitVec.toNat
      ((s.copyOf q.castSucc false).rx a + BitVec.signExtend 32 v) % 2 ≠ 0 ∨ 65632 ≤ BitVec.toNat ((s.copyOf q.castSucc false).rx a +
      BitVec.signExtend 32 v) ∧ BitVec.toNat ((s.copyOf q.castSucc false).rx a + BitVec.signExtend 32 v) < 268435456 ∨ 272564224 ≤
      BitVec.toNat ((s.copyOf q.castSucc false).rx a + BitVec.signExtend 32 v))) ∧
    (∃ (s : State) (d : BitVec 5) (a : BitVec 5) (v : BitVec 16), s.ready 24 = true ∧ (s.copyOf 24 true).rx a = (s.copyOf 24 false).rx a ∧
      s.dsgRun = false ∧ nextOp s 24 = some (CoreOp.load LoadOp.lhu d a v) ∧ BitVec.toNat ((s.copyOf 24 false).rx a + BitVec.signExtend 32 v)
      % 2 ≠ 0) ∧
    (∃ (s : State) (d : BitVec 5) (a : BitVec 5) (v : BitVec 16) (q : Fin 24), s.ready q.castSucc = true ∧ (s.copyOf q.castSucc true).rx a =
      (s.copyOf q.castSucc false).rx a ∧ s.dsgRun = false ∧ nextOp s q.castSucc = some (CoreOp.flw d a v) ∧ (BitVec.toNat ((s.copyOf
      q.castSucc false).rx a + BitVec.signExtend 32 v) % 4 ≠ 0 ∨ 65632 ≤ BitVec.toNat ((s.copyOf q.castSucc false).rx a + BitVec.signExtend 32
      v) ∧ BitVec.toNat ((s.copyOf q.castSucc false).rx a + BitVec.signExtend 32 v) < 268435456 ∨ 272564224 ≤ BitVec.toNat ((s.copyOf
      q.castSucc false).rx a + BitVec.signExtend 32 v))) ∧
    (∃ (s : State) (d : BitVec 5) (a : BitVec 5) (v : BitVec 16), s.ready 24 = true ∧ (s.copyOf 24 true).rx a = (s.copyOf 24 false).rx a ∧
      s.dsgRun = false ∧ nextOp s 24 = some (CoreOp.flw d a v) ∧ BitVec.toNat ((s.copyOf 24 false).rx a + BitVec.signExtend 32 v) % 4 ≠ 0) :=
  ⟨⟨{mem := [(805546184, 0x50#8), (805546185, 0xfe#8), (805546186, 0x29#8)], pair := (vset (Vector.replicate 24 {}) 3 {lead := {x := (vset (vset (Vector.replicate 32 0#32) 25 2#32) 31 3#32), pc := 0xa8c8#32}, chk := {x := (vset (vset (Vector.replicate 32 0#32) 25 2#32) 31 3#32)}, live := true})},
      0x19#5, 0x1f#5, 0x29#16, 3, by decide +kernel⟩,
    ⟨{mem := [(805432380, 0x90#8), (805432381, 0xc0#8), (805432382, 2#8)], pair := (vset (Vector.replicate 24 {}) 1 {lead := {x := (vset (vset (Vector.replicate 32 0#32) 2 0x301346ba#32) 24 0x1004e#32), pc := 0xec3c#32}, chk := {x := (vset (vset (Vector.replicate 32 0#32) 2 0x301346ba#32) 24 0x1004e#32)}, live := true})},
      2#5, 0x18#5, 2#16, 1, by decide +kernel⟩,
    ⟨{mem := [(805306392, 0x10#8), (805306393, 0xbd#8), (805306394, 0x29#8)], pair := (vset (Vector.replicate 24 {}) 0 {lead := {x := (vset (vset (Vector.replicate 32 0#32) 20 0x8076067#32) 23 0x1038371b#32), pc := 0x18#32}, chk := {x := (vset (vset (Vector.replicate 32 0#32) 20 0x8076067#32) 23 0x1038371b#32)}, live := true})},
      0x14#5, 0x17#5, 0x29#16, 0, by decide +kernel⟩,
    ⟨{mem := [(806113208, 0xd0#8), (806113209, 0xd1#8), (806113210, 0xc3#8), (806113211, 0x5a#8)], pair := (vset (Vector.replicate 24 {}) 12 {lead := {pc := 0x4fb8#32}, live := true})},
      7#5, 0x1a#5, 0x5ac3#16, 12, by decide +kernel⟩,
    ⟨{mem := [(134260980, 0xd0#8), (134260981, 0x14#8), (134260982, 2#8)], running := true, ken := {lead := {x := (vset (Vector.replicate 32 0#32) 2 0x80201fe#32), pc := 0x800a8f4#32}, chk := {x := (vset (Vector.replicate 32 0#32) 2 0x80201fe#32)}}},
      0x13#5, 2#5, 2#16, by decide +kernel⟩,
    ⟨{mem := [(134246864, 0x90#8), (134246865, 0x74#8), (134246866, 0x5a#8), (134246867, 0xa5#8)], running := true, ken := {lead := {x := (vset (Vector.replicate 32 0#32) 14 0x103f65ba#32), pc := 0x80071d0#32}, chk := {x := (vset (Vector.replicate 32 0#32) 14 0x103f65ba#32)}}},
      0x12#5, 0xe#5, 0xa55a#16, by decide +kernel⟩,
    ⟨{mem := [(134230728, 0x50#8), (134230730, 0x57#8), (134230731, 0x7e#8)], running := true, ken := {lead := {pc := 0x80032c8#32}}}, 1#5,
      0#5, 0x7e57#16, by decide +kernel⟩,
    ⟨{mem := [(806505120, 0xd2#8), (806505121, 0xc6#8), (806505122, 0x60#8), (806505123, 0xdb#8)], pair := (vset (Vector.replicate 24 {}) 18 {lead := {pc := 0x4aa0#32}, live := true})},
      0x1b#5, 0x18#5, 0xdb60#16, 18, by decide +kernel⟩,
    ⟨{mem := [(134217784, 0xd2#8), (134217785, 0xc4#8), (134217786, 0x1d#8), (134217787, 0x6b#8)], running := true, ken := {lead := {pc := 0x8000038#32}}},
      0x13#5, 0x18#5, 0x6b1d#16, by decide +kernel⟩,
    ⟨{mem := [(806769512, 0xd8#8), (806769513, 0x4a#8), (806769514, 0x31#8)], pair := (vset (Vector.replicate 24 {}) 22 {lead := {pc := 0x5368#32}, live := true})},
      0xb#5, 9#5, 0x31#16, 22, by decide +kernel⟩,
    ⟨{mem := [(134224820, 0x98#8), (134224821, 0x20#8), (134224822, 0x1d#8), (134224823, 0x6b#8)], running := true, ken := {lead := {pc := 0x8001bb4#32}}},
      2#5, 4#5, 0x6b1d#16, by decide +kernel⟩⟩

theorem witness_StoresWriteTheSpaceOfTheCore :
    (∃ (s : State) (b : BitVec 5) (a : BitVec 5) (v : BitVec 16) (q : Fin 24), s.ready q.castSucc = true ∧ (s.copyOf q.castSucc true).rx a =
      (s.copyOf q.castSucc false).rx a ∧ s.dsgRun = false ∧ nextOp s q.castSucc = some (CoreOp.store StoreOp.sw b a v) ∧ BitVec.toNat
      ((s.copyOf q.castSucc false).rx a + BitVec.signExtend 32 v) % 4 = 0 ∧ BitVec.toNat ((s.copyOf q.castSucc false).rx a + BitVec.signExtend
      32 v) < 65536) ∧
    (∃ (s : State) (b : BitVec 5) (a : BitVec 5) (v : BitVec 16) (q : Fin 24), s.ready q.castSucc = true ∧ (s.copyOf q.castSucc true).rx a =
      (s.copyOf q.castSucc false).rx a ∧ s.dsgRun = false ∧ nextOp s q.castSucc = some (CoreOp.store StoreOp.sw b a v) ∧ BitVec.toNat
      ((s.copyOf q.castSucc false).rx a + BitVec.signExtend 32 v) % 4 = 0 ∧ 268435456 ≤ BitVec.toNat ((s.copyOf q.castSucc false).rx a +
      BitVec.signExtend 32 v) ∧ BitVec.toNat ((s.copyOf q.castSucc false).rx a + BitVec.signExtend 32 v) < 272564224) ∧
    (∃ (s : State) (b : BitVec 5) (a : BitVec 5) (v : BitVec 16) (q : Fin 24) (k : Fin 16) (n : Inst), s.ready q.castSucc = true ∧ (s.copyOf
      q.castSucc true).rx a = (s.copyOf q.castSucc false).rx a ∧ s.dsgRun = false ∧ nextOp s q.castSucc = some (CoreOp.store StoreOp.sw b a v)
      ∧ 4 = 4 ∧ BitVec.extractLsb' 0 (8 * 4) ((s.copyOf q.castSucc true).rx b) = BitVec.extractLsb' 0 (8 * 4) ((s.copyOf q.castSucc false).rx
      b) ∧ BitVec.toNat ((s.copyOf q.castSucc false).rx a + BitVec.signExtend 32 v) = 65792 + 4 * k.val ∧ (s.lp q).run = some n ∧ k.val < s.f
      (Fld.LOOP_D_OUT_OUT_N n.d)) ∧
    (∃ (s : State) (b : BitVec 5) (a : BitVec 5) (v : BitVec 16) (q : Fin 24) (k : Fin 16) (n : Inst), s.ready q.castSucc = true ∧ (s.copyOf
      q.castSucc true).rx a = (s.copyOf q.castSucc false).rx a ∧ s.dsgRun = false ∧ nextOp s q.castSucc = some (CoreOp.store StoreOp.sw b a v)
      ∧ 4 = 4 ∧ BitVec.extractLsb' 0 (8 * 4) ((s.copyOf q.castSucc true).rx b) = BitVec.extractLsb' 0 (8 * 4) ((s.copyOf q.castSucc false).rx
      b) ∧ BitVec.toNat ((s.copyOf q.castSucc false).rx a + BitVec.signExtend 32 v) = 65792 + 4 * k.val ∧ (s.lp q).run = some n ∧ s.f
      (Fld.LOOP_D_OUT_OUT_N n.d) ≤ k.val) ∧
    (∃ (s : State) (b : BitVec 5) (a : BitVec 5) (v : BitVec 16) (q : Fin 24) (n : Inst), s.ready q.castSucc = true ∧ (s.copyOf q.castSucc
      true).rx a = (s.copyOf q.castSucc false).rx a ∧ s.dsgRun = false ∧ nextOp s q.castSucc = some (CoreOp.store StoreOp.sw b a v) ∧ 4 = 4 ∧
      BitVec.extractLsb' 0 (8 * 4) ((s.copyOf q.castSucc true).rx b) = BitVec.extractLsb' 0 (8 * 4) ((s.copyOf q.castSucc false).rx b) ∧
      BitVec.toNat ((s.copyOf q.castSucc false).rx a + BitVec.signExtend 32 v) = 65856 ∧ (s.lp q).run = some n ∧ n.dropped = false) ∧
    (∃ (s : State) (b : BitVec 5) (a : BitVec 5) (v : BitVec 16) (q : Fin 24), s.ready q.castSucc = true ∧ (s.copyOf q.castSucc true).rx a =
      (s.copyOf q.castSucc false).rx a ∧ s.dsgRun = false ∧ nextOp s q.castSucc = some (CoreOp.store StoreOp.sw b a v) ∧ (BitVec.toNat
      ((s.copyOf q.castSucc false).rx a + BitVec.signExtend 32 v) % 4 ≠ 0 ∨ 65536 ≤ BitVec.toNat ((s.copyOf q.castSucc false).rx a +
      BitVec.signExtend 32 v) ∧ BitVec.toNat ((s.copyOf q.castSucc false).rx a + BitVec.signExtend 32 v) < 65792 ∨ 65792 ≤ BitVec.toNat
      ((s.copyOf q.castSucc false).rx a + BitVec.signExtend 32 v) ∧ BitVec.toNat ((s.copyOf q.castSucc false).rx a + BitVec.signExtend 32 v) <
      65860 ∧ 4 ≠ 4 ∨ 65860 ≤ BitVec.toNat ((s.copyOf q.castSucc false).rx a + BitVec.signExtend 32 v) ∧ BitVec.toNat ((s.copyOf q.castSucc
      false).rx a + BitVec.signExtend 32 v) < 268435456 ∨ 272564224 ≤ BitVec.toNat ((s.copyOf q.castSucc false).rx a + BitVec.signExtend 32
      v))) ∧
    (∃ (s : State) (b : BitVec 5) (a : BitVec 5) (v : BitVec 16), s.ready 24 = true ∧ (s.copyOf 24 true).rx a = (s.copyOf 24 false).rx a ∧
      s.dsgRun = false ∧ nextOp s 24 = some (CoreOp.store StoreOp.sw b a v) ∧ BitVec.toNat ((s.copyOf 24 false).rx a + BitVec.signExtend 32 v)
      % 4 = 0 ∧ 134217728 ≤ BitVec.toNat ((s.copyOf 24 false).rx a + BitVec.signExtend 32 v) ∧ BitVec.toNat ((s.copyOf 24 false).rx a +
      BitVec.signExtend 32 v) < 134742016) ∧
    (∃ (s : State) (b : BitVec 5) (a : BitVec 5) (v : BitVec 16), s.ready 24 = true ∧ (s.copyOf 24 true).rx a = (s.copyOf 24 false).rx a ∧
      s.dsgRun = false ∧ nextOp s 24 = some (CoreOp.store StoreOp.sw b a v) ∧ BitVec.toNat ((s.copyOf 24 false).rx a + BitVec.signExtend 32 v)
      % 4 = 0 ∧ 268435456 ≤ BitVec.toNat ((s.copyOf 24 false).rx a + BitVec.signExtend 32 v) ∧ BitVec.toNat ((s.copyOf 24 false).rx a +
      BitVec.signExtend 32 v) < 272564224) ∧
    (∃ (s : State) (b : BitVec 5) (a : BitVec 5) (v : BitVec 16), s.ready 24 = true ∧ (s.copyOf 24 true).rx a = (s.copyOf 24 false).rx a ∧
      s.dsgRun = false ∧ nextOp s 24 = some (CoreOp.store StoreOp.sw b a v) ∧ BitVec.toNat ((s.copyOf 24 false).rx a + BitVec.signExtend 32 v)
      % 4 ≠ 0) ∧
    (∃ (s : State) (b : BitVec 5) (a : BitVec 5) (v : BitVec 16) (q : Fin 24), s.ready q.castSucc = true ∧ (s.copyOf q.castSucc true).rx a =
      (s.copyOf q.castSucc false).rx a ∧ s.dsgRun = false ∧ nextOp s q.castSucc = some (CoreOp.store StoreOp.sh b a v) ∧ (BitVec.toNat
      ((s.copyOf q.castSucc false).rx a + BitVec.signExtend 32 v) % 2 ≠ 0 ∨ 65536 ≤ BitVec.toNat ((s.copyOf q.castSucc false).rx a +
      BitVec.signExtend 32 v) ∧ BitVec.toNat ((s.copyOf q.castSucc false).rx a + BitVec.signExtend 32 v) < 65792 ∨ 65792 ≤ BitVec.toNat
      ((s.copyOf q.castSucc false).rx a + BitVec.signExtend 32 v) ∧ BitVec.toNat ((s.copyOf q.castSucc false).rx a + BitVec.signExtend 32 v) <
      65860 ∧ 2 ≠ 4 ∨ 65860 ≤ BitVec.toNat ((s.copyOf q.castSucc false).rx a + BitVec.signExtend 32 v) ∧ BitVec.toNat ((s.copyOf q.castSucc
      false).rx a + BitVec.signExtend 32 v) < 268435456 ∨ 272564224 ≤ BitVec.toNat ((s.copyOf q.castSucc false).rx a + BitVec.signExtend 32
      v))) ∧
    (∃ (s : State) (b : BitVec 5) (a : BitVec 5) (v : BitVec 16), s.ready 24 = true ∧ (s.copyOf 24 true).rx a = (s.copyOf 24 false).rx a ∧
      s.dsgRun = false ∧ nextOp s 24 = some (CoreOp.store StoreOp.sh b a v) ∧ BitVec.toNat ((s.copyOf 24 false).rx a + BitVec.signExtend 32 v)
      % 2 ≠ 0) ∧
    (∃ (s : State) (b : BitVec 5) (a : BitVec 5) (v : BitVec 16) (q : Fin 24), s.ready q.castSucc = true ∧ (s.copyOf q.castSucc true).rx a =
      (s.copyOf q.castSucc false).rx a ∧ s.dsgRun = false ∧ nextOp s q.castSucc = some (CoreOp.fsw b a v) ∧ (BitVec.toNat ((s.copyOf
      q.castSucc false).rx a + BitVec.signExtend 32 v) % 4 ≠ 0 ∨ 65536 ≤ BitVec.toNat ((s.copyOf q.castSucc false).rx a + BitVec.signExtend 32
      v) ∧ BitVec.toNat ((s.copyOf q.castSucc false).rx a + BitVec.signExtend 32 v) < 65792 ∨ 65792 ≤ BitVec.toNat ((s.copyOf q.castSucc
      false).rx a + BitVec.signExtend 32 v) ∧ BitVec.toNat ((s.copyOf q.castSucc false).rx a + BitVec.signExtend 32 v) < 65860 ∧ 4 ≠ 4 ∨ 65860
      ≤ BitVec.toNat ((s.copyOf q.castSucc false).rx a + BitVec.signExtend 32 v) ∧ BitVec.toNat ((s.copyOf q.castSucc false).rx a +
      BitVec.signExtend 32 v) < 268435456 ∨ 272564224 ≤ BitVec.toNat ((s.copyOf q.castSucc false).rx a + BitVec.signExtend 32 v))) ∧
    (∃ (s : State) (b : BitVec 5) (a : BitVec 5) (v : BitVec 16), s.ready 24 = true ∧ (s.copyOf 24 true).rx a = (s.copyOf 24 false).rx a ∧
      s.dsgRun = false ∧ nextOp s 24 = some (CoreOp.fsw b a v) ∧ BitVec.toNat ((s.copyOf 24 false).rx a + BitVec.signExtend 32 v) % 4 ≠ 0) :=
  ⟨⟨{mem := [(805546184, 0x55#8), (805546185, 0xfe#8), (805546186, 0x29#8)], pair := (vset (Vector.replicate 24 {}) 3 {lead := {x := (vset (vset (Vector.replicate 32 0#32) 25 2#32) 31 3#32), pc := 0xa8c8#32}, chk := {x := (vset (vset (Vector.replicate 32 0#32) 25 2#32) 31 3#32)}, live := true})},
      0x19#5, 0x1f#5, 0x29#16, 3, by decide +kernel⟩,
    ⟨{mem := [(806382076, 0xd5#8), (806382077, 0x58#8)], pair := (vset (Vector.replicate 24 {}) 16 {lead := {x := (vset (vset (Vector.replicate 32 0#32) 3 0x10149918#32) 11 0x1035242c#32), pc := 0x69fc#32}, chk := {x := (vset (vset (Vector.replicate 32 0#32) 3 0x10149918#32) 11 0x1035242c#32)}, live := true})},
      3#5, 0xb#5, 0#16, 16, by decide +kernel⟩,
    ⟨{regs := [(.LOOP_D_OUT 312, 0xa0000#32)], mem := [(806796180, 0xd5#8), (806796181, 0xa3#8)], pair := (vset (Vector.replicate 24 {}) 22 {lead := {x := (vset (vset (Vector.replicate 32 0#32) 15 0x80164b8#32) 20 0x1011c#32), pc := 0xbb94#32}, chk := {x := (vset (vset (Vector.replicate 32 0#32) 15 0x80164b8#32) 20 0x1011c#32)}, run := some { d := 312, tr := 0, c := 3, count := 0, snap := (Vector.replicate 22 0#32), from_ := 272590368, place := .queued 18, written := 0xe574#16, ended := 3, region := [0x77fa5750#32, 0x17#32], done := some 84248, dropped := true }, live := true})},
      0xf#5, 0x14#5, 0#16, 22, 7,
      { d := 312, tr := 0, c := 3, count := 0, snap := (Vector.replicate 22 0#32), from_ := 272590368, place := .queued 18, written := 0xe574#16, ended := 3, region := [0x77fa5750#32, 0x17#32], done := some 84248, dropped := true },
      by decide +kernel⟩,
    ⟨{mem := [(806040392, 0x15#8), (806040393, 0x6e#8)], pair := (vset (Vector.replicate 24 {}) 11 {lead := {x := (vset (vset (Vector.replicate 32 0#32) 13 0x10110#32) 24 0x20236308#32), pc := 0x3348#32}, chk := {x := (vset (vset (Vector.replicate 32 0#32) 13 0x10110#32) 24 0x20236308#32)}, run := some { d := 34, tr := 790809779, c := 67108863, count := 0, snap := (Vector.replicate 22 0#32), from_ := 12, place := .queued 22, written := 0x4c4b#16, ended := 2147483647, region := [0xcef32a0a#32, 0#32] }, live := true})},
      0x18#5, 0xd#5, 0#16, 11, 4,
      { d := 34, tr := 790809779, c := 67108863, count := 0, snap := (Vector.replicate 22 0#32), from_ := 12, place := .queued 22, written := 0x4c4b#16, ended := 2147483647, region := [0xcef32a0a#32, 0#32] },
      by decide +kernel⟩,
    ⟨{mem := [(805735000, 0xd5#8), (805735001, 0xd3#8), (805735002, 0x80#8)], pair := (vset (Vector.replicate 24 {}) 6 {lead := {x := (vset (vset (Vector.replicate 32 0#32) 15 0x805013a#32) 26 0x100c0#32), pc := 0x8a58#32}, chk := {x := (vset (vset (Vector.replicate 32 0#32) 15 0x805013a#32) 26 0x100c0#32)}, run := some { d := 154, tr := 87789, c := 21644, count := 6, snap := (Vector.replicate 22 0#32), from_ := 1, place := .waiting 13, written := 0xffff#16, ended := 6 }, live := true})},
      0xf#5, 0x1a#5, 0x80#16, 6,
      { d := 154, tr := 87789, c := 21644, count := 6, snap := (Vector.replicate 22 0#32), from_ := 1, place := .waiting 13, written := 0xffff#16, ended := 6 },
      by decide +kernel⟩,
    ⟨{mem := [(806813708, 0x15#8), (806813709, 0x13#8), (806813710, 3#8)], pair := (vset (Vector.replicate 24 {}) 23 {lead := {pc := 0xc#32}, live := true})},
      0xc#5, 2#5, 3#16, 23, by decide +kernel⟩,
    ⟨{mem := [(134231104, 0x55#8), (134231105, 0xfb#8), (134231106, 2#8)], running := true, ken := {lead := {x := (vset (Vector.replicate 32 0#32) 31 0x8006102#32), pc := 0x8003440#32}, chk := {x := (vset (Vector.replicate 32 0#32) 31 0x8006102#32)}}},
      0xd#5, 0x1f#5, 2#16, by decide +kernel⟩,
    ⟨{mem := [(134236384, 0x15#8), (134236385, 0x84#8), (134236386, 0x18#8)], running := true, ken := {lead := {x := (vset (Vector.replicate 32 0#32) 16 0x1007ee04#32), pc := 0x80048e0#32}, chk := {x := (vset (Vector.replicate 32 0#32) 16 0x1007ee04#32)}}},
      0x10#5, 0x10#5, 0x18#16, by decide +kernel⟩,
    ⟨{mem := [(134275344, 0x95#8), (134275345, 0xc0#8), (134275346, 0x57#8), (134275347, 0x7e#8)], running := true, ken := {lead := {pc := 0x800e110#32}}},
      2#5, 0x18#5, 0x7e57#16, by decide +kernel⟩,
    ⟨{mem := [(805948416, 0x16#8), (805948417, 0x81#8), (805948418, 3#8)], pair := (vset (Vector.replicate 24 {}) 9 {lead := {pc := 0xcc00#32}, live := true})},
      4#5, 0x10#5, 3#16, 9, by decide +kernel⟩,
    ⟨{mem := [(134239208, 0x56#8), (134239209, 0x6d#8), (134239210, 0xff#8), (134239211, 0xff#8)], running := true, ken := {lead := {pc := 0x80053e8#32}}},
      0x15#5, 0xd#5, 0xffff#16, by decide +kernel⟩,
    ⟨{mem := [(805961948, 0x99#8), (805961949, 0xa7#8), (805961950, 0xc3#8), (805961951, 0x5a#8)], pair := (vset (Vector.replicate 24 {}) 10 {lead := {pc := 0xdc#32}, live := true})},
      0x1e#5, 0x14#5, 0x5ac3#16, 10, by decide +kernel⟩,
    ⟨{mem := [(134268948, 0xd9#8), (134268949, 0xfb#8), (134268950, 2#8)], running := true, ken := {lead := {pc := 0x800c814#32}}}, 0xf#5,
      0x1f#5, 2#16, by decide +kernel⟩⟩

theorem witness_InterruptsExceptionsAndWaiting :
    (∃ (s : State) (l : Fin 128), s.dsgRun = false ∧ s.executing 24 = true ∧ s.ken.ien = true ∧ s.line l = true ∧ BitVec.getLsbD
      s.ken.imask[l.val / 32]! (l.val % 32) = true ∧ (∀ (k : Fin 128), k.val < l.val → ¬(s.line k = true ∧ BitVec.getLsbD s.ken.imask[k.val /
      32]! (k.val % 32) = true))) ∧
    (∃ (s : State), s.dsgRun = false ∧ s.ready 24 = true ∧ nextOp s 24 = some CoreOp.iret ∧ BitVec.toNat s.ken.epc % 4 = 0) ∧
    (∃ (s : State), s.dsgRun = false ∧ s.ready 24 = true ∧ nextOp s 24 = some CoreOp.wfi) ∧
    (∃ (s : State) (e : Ecc), s.dsgRun = false ∧ s.ready 24 = true ∧ nextOp s 24 = none ∧ e ≠ Ecc.uncorrectable) ∧
    (∃ (s : State) (q : Fin 24), s.dsgRun = false ∧ s.ready q.castSucc = true ∧ nextOp s q.castSucc = none) ∧
    (∃ (s : State) (q : Fin 24), s.dsgRun = false ∧ s.ready q.castSucc = true) :=
  ⟨⟨{regs := [(.SYS_STATUS, 0x142ad582#32), (.SYS_IRQ_EN, 0xb2beba6c#32)], running := true, ken := {ien := true, imask := (vset (Vector.replicate 4 0#32) 0 7#32)}},
      2, by decide +kernel⟩,
    ⟨{mem := [(134270860, 0x3e#8), (134270862, 0x40#8)], running := true, ken := {lead := {pc := 0x800cf8c#32}}}, by decide +kernel⟩,
    ⟨{mem := [(134257796, 0x3e#8), (134257798, 0x20#8)], running := true, ken := {lead := {pc := 0x8009c84#32}}}, by decide +kernel⟩,
    ⟨{ mem := [(0x08000000, 0x3F#8)], chk := [(0x08000000, 0x3F#8)], running := true, ken := { lead := { pc := 0x08000000#32 }, chk := { pc := 0x08000000#32 } } },
      .ok, by decide +kernel⟩,
    ⟨{ mem := [(0x30000000, 0x3F#8)], chk := [(0x30000000, 0x3F#8)], pair := (vset (Vector.replicate 24 {}) 0 { live := true, run := some queuedTask }) },
      0, by decide +kernel⟩,
    ⟨{pair := (vset (Vector.replicate 24 {}) 6 {live := true})}, 6, by decide +kernel⟩⟩

theorem witness_DecodingAnInstructionWordGivesItBack :
    (∃ (o : CoreOp), o.wf = true) ∧
    (∃ (w : Word) (o : CoreOp), decodeWord w = some o) :=
  ⟨⟨.nop, by decide +kernel⟩,
    ⟨2#32, .imm .andi 0#5 0#5 0#16, by decide +kernel⟩⟩

theorem witness_ReleasesAndStarts :
    (∃ (s : State) (k : Fin 8), s.dsgRun = false ∧ s.f (Fld.LOOP_TICK_PER_PER k) ≠ 0) ∧
    (∃ (s : State) (d : Fin 512) (h : Fin 24) (tr : Nat) (before : List (Nat × Nat)) (rest : List (Nat × Nat)), s.dsgRun = false ∧
      s.post.rel = before ++ (d.val, tr) :: rest ∧ (∀ e ∈ before, e.1 ≠ d.val) ∧ s.flag Fld.LOOP_CTL_EN = true ∧ s.taskOn d = true ∧
      s.hasPending d = false ∧ s.taskHome d = h.val ∧ s.pairSt h = pairActive) ∧
    (∃ (s : State) (d : Fin 512) (tr : Nat) (before : List (Nat × Nat)) (rest : List (Nat × Nat)), s.dsgRun = false ∧ s.post.rel = before ++
      (d.val, tr) :: rest ∧ (∀ e ∈ before, e.1 ≠ d.val) ∧ s.flag Fld.LOOP_CTL_EN = true ∧ s.taskOn d = true ∧ s.hasPending d = true) ∧
    (∃ (s : State) (p : Fin 24) (i : Inst) (rest : List Inst), s.dsgRun = false ∧ s.canRun p = true ∧ s.deque p = i :: rest ∧ (∀ k ∈ rest,
      i.from_ ≤ k.from_) ∧ i.dropped = false) ∧
    (∃ (s : State) (p : Fin 24) (i : Inst) (e : Ecc), s.dsgRun = false ∧ (s.lp p).run = some i ∧ i.dropped = false ∧ (s.lp p).live = false ∧
      (s.lp p).halted = false ∧ (s.lp p).copyTill = none ∧ 8 * s.f (Fld.LOOP_D_CTX_CTX_LOCAL i.d) + 8 * s.taskLen i.d ≤ 65536 ∧ e ≠
      Ecc.uncorrectable) :=
  ⟨⟨{regs := [(.LOOP_TICK_PER 5, 5#32)]}, 5, by decide +kernel⟩,
    ⟨{regs := [(.LOOP_CTL, 1#32), (.LOOP_P_STATE 22, 1#32), (.LOOP_D_CTL 308, 0xb001#32)], post := {rel := [(5, 0), (308, 4), (0, 150844444)]}},
      308, 22, 4, [(5, 0)], [(0, 150844444)], by decide +kernel⟩,
    ⟨{regs := [(.LOOP_CTL, 1#32), (.LOOP_D_CTL 48, 1#32)], loop := {insts := [{ d := 48, tr := 89, c := 5, count := 145, snap := (Vector.replicate 22 0#32), from_ := 6, place := .queued 4 }]}, post := {rel := [(5654734, 2), (53, 0), (48, 6), (987555720, 6)]}},
      48, 6, [(5654734, 2), (53, 0)], [(987555720, 6)], by decide +kernel⟩,
    ⟨{regs := [(.LOOP_P_STATE 1, 2#32)], loop := {insts := [{ d := 342, tr := 48, c := 1, count := 773662693, snap := (Vector.replicate 22 0#32), from_ := 3, place := .queued 1, written := 0x5e3b#16, ended := 85368, done := some 6 }]}},
      1,
      { d := 342, tr := 48, c := 1, count := 773662693, snap := (Vector.replicate 22 0#32), from_ := 3, place := .queued 1, written := 0x5e3b#16, ended := 85368, done := some 6 },
      [], by decide +kernel⟩,
    ⟨{pair := (vset (Vector.replicate 24 {}) 2 {run := some { d := 226, tr := 272571371, c := 7, count := 6, snap := (Vector.replicate 22 0#32), from_ := 5, place := .ended 11, written := 1#16, ended := 5, region := [0xffffffff#32, 0x3f#32, 0x40000#32] }})},
      2,
      { d := 226, tr := 272571371, c := 7, count := 6, snap := (Vector.replicate 22 0#32), from_ := 5, place := .ended 11, written := 1#16, ended := 5, region := [0xffffffff#32, 0x3f#32, 0x40000#32] },
      .corrected 34 51281, by decide +kernel⟩⟩

theorem witness_CompletionStealingAndBudgets :
    (∃ (s : State) (d : Fin 512) (p : Fin 24) (i : Inst) (e : Ecc), s.dsgRun = false ∧ s.instOf d = some i ∧ i.d = d ∧ i.place =
      InstAt.ended p ∧ i.done = none ∧ i.region.length = 2 * s.taskLen d ∧ s.taskLen d ≤ 256 ∧ e ≠ Ecc.uncorrectable) ∧
    (∃ (s : State) (p : Fin 24) (i : Inst), s.dsgRun = false ∧ (s.lp p).run = some i ∧ (s.lp p).live = true ∧ (s.lp p).halted = false ∧
      (s.lp p).passed = false ∧ i.dropped = false ∧ (s.lp p).start + (s.lp p).lost + s.taskBud i.d + 1 ≤ max s.time (s.lp p).pipe.next) ∧
    (∃ (s : State) (p : Fin 24) (v : Fin 24) (i : Inst), s.dsgRun = false ∧ s.requests p (max (max s.time (s.lp p).freeAt)
      (match s.loop.stealCyc with | some c => c + 1 | none => 0)) = true ∧ (∀ (q : Fin 24), q ≠ p → ¬s.requests q (max (max s.time (s.lp
      p).freeAt) (match s.loop.stealCyc with | some c => c + 1 | none => 0)) = true) ∧ (∀ (q : Fin 24), s.pairSt q ≤ 4) ∧ ((if v ≠ p ∧
      (s.pairSt v = pairActive ∨ s.pairSt v = pairSlow ∨ s.pairSt v = pairDraining) then stealable s v p (max (max s.time (s.lp p).freeAt)
      (match s.loop.stealCyc with | some c => c + 1 | none => 0)) else none) = some i) ∧ (∀ (q : Fin 24), q ≠ v → (if q ≠ p ∧ (s.pairSt q =
      pairActive ∨ s.pairSt q = pairSlow ∨ s.pairSt q = pairDraining) then stealable s q p (max (max s.time (s.lp p).freeAt)
      (match s.loop.stealCyc with | some c => c + 1 | none => 0)) else none) ≠ none → dequeSlack s v (max (max s.time (s.lp p).freeAt)
      (match s.loop.stealCyc with | some c => c + 1 | none => 0) + 1) < dequeSlack s q (max (max s.time (s.lp p).freeAt)
      (match s.loop.stealCyc with | some c => c + 1 | none => 0) + 1) ∨ dequeSlack s v (max (max s.time (s.lp p).freeAt)
      (match s.loop.stealCyc with | some c => c + 1 | none => 0) + 1) = dequeSlack s q (max (max s.time (s.lp p).freeAt)
      (match s.loop.stealCyc with | some c => c + 1 | none => 0) + 1) ∧ v.val < q.val)) ∧
    (∃ (s : State) (p : Fin 24) (q : Fin 24) (i : Inst), s.dsgRun = false ∧ q.val < p.val ∧ s.requests p (max (max s.time (s.lp p).freeAt)
      (match s.loop.stealCyc with | some c => c + 1 | none => 0)) = true ∧ s.requests q (max (max s.time (s.lp p).freeAt)
      (match s.loop.stealCyc with | some c => c + 1 | none => 0)) = true ∧ (∀ (r : Fin 24), r ≠ p → r ≠ q → ¬s.requests r (max (max s.time
      (s.lp p).freeAt) (match s.loop.stealCyc with | some c => c + 1 | none => 0)) = true) ∧ i.dropped = false ∧ grant s p (max (max s.time
      (s.lp p).freeAt) (match s.loop.stealCyc with | some c => c + 1 | none => 0)) = some i ∧ grant s q (max (max s.time (s.lp p).freeAt)
      (match s.loop.stealCyc with | some c => c + 1 | none => 0)) = some i) ∧
    (∃ (s : State) (p : Fin 24), s.dsgRun = false ∧ (¬s.requests p (max (max s.time (s.lp p).freeAt)
      (match s.loop.stealCyc with | some c => c + 1 | none => 0)) = true)) :=
  ⟨⟨{loop := {insts := [{ d := 292, tr := 17, c := 52, count := 65536, snap := (Vector.replicate 22 0#32), from_ := 4, place := .ended 15, written := 0x26#16, ended := 4 }]}},
      292, 15,
      { d := 292, tr := 17, c := 52, count := 65536, snap := (Vector.replicate 22 0#32), from_ := 4, place := .ended 15, written := 0x26#16, ended := 4 },
      .ok, by decide +kernel⟩,
    ⟨{time := 47587748, pair := (vset (Vector.replicate 24 {}) 11 {run := some { d := 441, tr := 7, c := 6, count := 61, snap := (Vector.replicate 22 0#32), from_ := 78719, place := .queued 18, written := 2#16, ended := 30, region := [0x2f#32] }, live := true})},
      11,
      { d := 441, tr := 7, c := 6, count := 61, snap := (Vector.replicate 22 0#32), from_ := 78719, place := .queued 18, written := 2#16, ended := 30, region := [0x2f#32] },
      by decide +kernel⟩,
    ⟨(({ loop := { insts := [queuedTask] } } : State).setF (Fld.LOOP_P_STATE_STATE 0) 1).setF (Fld.LOOP_P_STATE_STATE 1) 1, 0, 1,
      queuedTask, by decide +kernel⟩,
    ⟨((({ loop := { insts := [queuedTask] } } : State).setF (Fld.LOOP_P_STATE_STATE 0) 1).setF (Fld.LOOP_P_STATE_STATE 1) 1).setF
      (Fld.LOOP_P_STATE_STATE 2) 1, 2, 0, queuedTask, by decide +kernel⟩,
    ⟨{}, 3, by decide +kernel⟩⟩

theorem witness_CommitsAndMisses :
    (∃ (s : State) (d : Fin 512) (p : Fin 24) (i : Inst) (done : Nat), s.dsgRun = false ∧ s.instOf d = some i ∧ i.place = InstAt.ended p ∧
      i.done = some done ∧ done < i.c ∧ i.dropped = false ∧ s.loop.commitCyc ≠ max s.time i.c ∧ (∀ (e : Fin 512), e ≠ d → s.dueAt e ≠ some
      i.c) ∧ (∀ (e : Fin 16), i.written.getLsbD e.val = true → BitVec.toNat (s.rd (Reg.LOOP_TGT ⟨(s.f (Fld.LOOP_D_OUT_OUT_FIRST d) + e.val) %
      1024, by omega⟩)) % 4 = 0 ∧ 268435456 ≤ BitVec.toNat (s.rd (Reg.LOOP_TGT ⟨(s.f (Fld.LOOP_D_OUT_OUT_FIRST d) + e.val) % 1024, by omega⟩))
      ∧ BitVec.toNat (s.rd (Reg.LOOP_TGT ⟨(s.f (Fld.LOOP_D_OUT_OUT_FIRST d) + e.val) % 1024, by omega⟩)) < 272564224) ∧ (∀ (e f : Fin 16), e ≠
      f → i.written.getLsbD e.val = true → i.written.getLsbD f.val = true → BitVec.toNat (s.rd (Reg.LOOP_TGT ⟨(s.f (Fld.LOOP_D_OUT_OUT_FIRST
      d) + e.val) % 1024, by omega⟩)) ≠ BitVec.toNat (s.rd (Reg.LOOP_TGT ⟨(s.f (Fld.LOOP_D_OUT_OUT_FIRST d) + f.val) % 1024, by omega⟩)))) ∧
    (∃ (s : State) (d : Fin 512) (e : Fin 512) (p : Fin 24) (q : Fin 24) (i : Inst) (j : Inst) (x : Nat) (y : Nat) (m : Fin 16) (k : Fin 16)
      (c : Fin 512), s.dsgRun = false ∧ d.val < e.val ∧ s.instOf d = some i ∧ s.instOf e = some j ∧ i.place = InstAt.ended p ∧ j.place =
      InstAt.ended q ∧ i.done = some x ∧ j.done = some y ∧ x < i.c ∧ y < i.c ∧ j.c = i.c ∧ i.dropped = false ∧ j.dropped = false ∧ s.taskPin d
      = false ∧ s.taskPin e = false ∧ (∀ (r : Fin 512), r ≠ d → r ≠ e → s.dueAt r ≠ some i.c) ∧ i.written = 1#16 <<< m.val ∧ j.written = 1#16
      <<< k.val ∧ BitVec.toNat (s.rd (Reg.LOOP_TGT ⟨(s.f (Fld.LOOP_D_OUT_OUT_FIRST d) + m.val) % 1024, by omega⟩)) = BitVec.toNat (s.rd
      (Reg.LOOP_TGT ⟨(s.f (Fld.LOOP_D_OUT_OUT_FIRST e) + k.val) % 1024, by omega⟩)) ∧ BitVec.toNat (s.rd (Reg.LOOP_TGT ⟨(s.f
      (Fld.LOOP_D_OUT_OUT_FIRST e) + k.val) % 1024, by omega⟩)) % 4 = 0 ∧ 268435456 ≤ BitVec.toNat (s.rd (Reg.LOOP_TGT ⟨(s.f
      (Fld.LOOP_D_OUT_OUT_FIRST e) + k.val) % 1024, by omega⟩)) ∧ BitVec.toNat (s.rd (Reg.LOOP_TGT ⟨(s.f (Fld.LOOP_D_OUT_OUT_FIRST e) + k.val)
      % 1024, by omega⟩)) < 272564224 ∧ c ∈ [d, e]) ∧
    (∃ (s : State) (d : Fin 512) (p : Fin 24) (c : Nat), s.dsgRun = false ∧ (∀ (e : Fin 512), e ≠ d → s.dueAt e ≠ some c) ∧ ((∃ i, s.instOf
      d = some i ∧ i.place = InstAt.queued p ∧ i.c = c) ∨ s.instOf d = none ∧ s.coreOf d = some p ∧ (∃ i, (s.lp p).run = some i ∧ i.c = c) ∧
      (s.lp p).halted = false) ∧ s.taskPin d = false ∧ s.f (Fld.LOOP_P_MARGIN_TH p) = 0 ∧ s.f (Fld.LOOP_D_CTL_MISS_LIM d) ≠ s.f
      (Fld.LOOP_D_STAT_MISS_RUN d) + 1) :=
  ⟨⟨{loop := {insts := [{ d := 56, tr := 31, c := 2, count := 6, snap := (Vector.replicate 22 0#32), from_ := 57320, place := .ended 1, ended := 7, region := [0xffffffff#32, 0x52d7597e#32], done := some 0 }]}},
      56, 1,
      { d := 56, tr := 31, c := 2, count := 6, snap := (Vector.replicate 22 0#32), from_ := 57320, place := .ended 1, ended := 7, region := [0xffffffff#32, 0x52d7597e#32], done := some 0 },
      0, by decide +kernel⟩,
    ⟨({ loop := { insts := [{ queuedTask with place := .ended 0, done := some 10, written := 1#16 }, { queuedTask with d := 1, place := .ended 1, done := some 10, written := 1#16 }] } }
      : State).wr (.LOOP_TGT 0) 0x10000000#32, 0, 1, 0, 1, { queuedTask with place := .ended 0, done := some 10, written := 1#16 },
      { queuedTask with d := 1, place := .ended 1, done := some 10, written := 1#16 }, 10, 10, 0, 0, 0, by decide +kernel⟩,
    ⟨{pair := (vset (Vector.replicate 24 {}) 9 {run := some { d := 307, tr := 6, c := 9, count := 111, snap := (Vector.replicate 22 0#32), from_ := 746603060, place := .queued 3 }})},
      307, 9, 9, by decide +kernel⟩⟩

theorem witness_PairCommandsAndRetirement :
    (∃ (s : State) (pair : Fin 32) (key : BitVec 16), s.dsgRun = false ∧ (key ≠ 38565#16 ∨ 24 ≤ pair.val)) ∧
    (∃ (s : State) (pair : Fin 32) (p : Fin 24), s.dsgRun = false ∧ pair.val = p.val ∧ s.pairSt p = pairOff ∧ s.bitOf Reg.ASY_BIST p.val =
      false) ∧
    (∃ (s : State) (pair : Fin 32) (p : Fin 24), s.dsgRun = false ∧ pair.val = p.val ∧ (s.pairSt p ≠ pairOff ∨ s.bitOf Reg.ASY_BIST p.val =
      true)) ∧
    (∃ (s : State) (pair : Fin 32) (p : Fin 24), s.dsgRun = false ∧ pair.val = p.val ∧ s.pairSt p = pairSlow) ∧
    (∃ (s : State) (pair : Fin 32) (p : Fin 24), s.dsgRun = false ∧ pair.val = p.val ∧ (s.pairSt p = pairActive ∨ s.pairSt p = pairSlow ∨
      s.pairSt p = pairDraining)) ∧
    (∃ (s : State) (pair : Fin 32) (p : Fin 24), s.dsgRun = false ∧ pair.val = p.val ∧ (s.pairSt p = pairOff ∨ s.pairSt p = pairRetired)) ∧
    (∃ (s : State) (pair : Fin 32) (p : Fin 24) (q : Fin 24), s.dsgRun = false ∧ pair.val = p.val ∧ (s.pairSt p = pairActive ∨ s.pairSt p =
      pairSlow) ∧ spareTarget s p = some q) ∧
    (∃ (s : State) (pair : Fin 32) (p : Fin 24), s.dsgRun = false ∧ pair.val = p.val ∧ s.pairSt p ≠ pairActive ∧ s.pairSt p ≠ pairSlow) ∧
    (∃ (s : State) (p : Fin 24) (q : Fin 24) (t0 : Nat) (cause : Nat), s.dsgRun = false ∧ (s.lp p).ret = some (t0, cause) ∧ cause < 4 ∧
      s.pairSt p = pairRetired ∧ spareTarget s p = some q ∧ (s.anv.failed = true ∨ min 31 (s.f Fld.ANV_RET_CNT + 1) ≤ s.f Fld.ANV_WD_RET_MAX)) ∧
    (∃ (s : State) (p : Fin 24), s.dsgRun = false ∧ s.pairSt p = pairDraining ∧ (s.lp p).run = none ∧ s.deque p = [] ∧ (∀ (d : Fin 512),
      ¬(s.taskOn d = true ∧ s.taskHome d = p.val))) ∧
    (∃ (s : State) (d : Fin 512) (v : Word) (h : Fin 24), s.dsgRun = false ∧ s.taskOn d = true ∧ s.taskHome d = h.val ∧ BitVec.getLsbD v 0 =
      true ∧ (s.f (Fld.LOOP_D_CPH_CPH d) < s.f (Fld.LOOP_D_BUD_BUD d) + 12 ∨ s.pairSt h ≠ pairActive ∨ s.taskPin d = true ∧ s.isSpare h = true
      ∨ s.f (Fld.LOOP_D_CTXS_CTXS d) * 4096 < 268435456 ∨ 272564224 ≤ s.f (Fld.LOOP_D_CTXS_CTXS d) * 4096 ∨ 1024 < s.f
      (Fld.LOOP_D_OUT_OUT_FIRST d) + s.f (Fld.LOOP_D_OUT_OUT_N d))) ∧
    (∃ (s : State) (d : Fin 512) (v : Word) (h : Fin 24), s.dsgRun = false ∧ s.taskOn d = true ∧ s.taskHome d = h.val ∧ (BitVec.getLsbD v 0
      = false ∨ ¬(s.f (Fld.LOOP_D_CPH_CPH d) < s.f (Fld.LOOP_D_BUD_BUD d) + 12 ∨ s.pairSt h ≠ pairActive ∨ s.taskPin d = true ∧ s.isSpare h =
      true ∨ s.f (Fld.LOOP_D_CTXS_CTXS d) * 4096 < 268435456 ∨ 272564224 ≤ s.f (Fld.LOOP_D_CTXS_CTXS d) * 4096 ∨ 1024 < s.f
      (Fld.LOOP_D_OUT_OUT_FIRST d) + s.f (Fld.LOOP_D_OUT_OUT_N d)))) ∧
    (∃ (s : State) (d : Fin 512) (v : Word) (h : Fin 24), s.dsgRun = false ∧ s.taskOn d = false ∧ BitVec.getLsbD v 0 = true ∧ wGet v 2 3 ≠ 7
      ∧ wGet v 20 3 ≠ 7 ∧ wGet v 11 5 = h.val ∧ (s.f (Fld.LOOP_D_CPH_CPH d) < s.f (Fld.LOOP_D_BUD_BUD d) + 12 ∨ s.pairSt h ≠ pairActive ∨
      BitVec.getLsbD v 1 = true ∧ s.isSpare h = true ∨ s.f (Fld.LOOP_D_CTXS_CTXS d) * 4096 < 268435456 ∨ 272564224 ≤ s.f (Fld.LOOP_D_CTXS_CTXS
      d) * 4096 ∨ 1024 < s.f (Fld.LOOP_D_OUT_OUT_FIRST d) + s.f (Fld.LOOP_D_OUT_OUT_N d))) ∧
    (∃ (s : State) (d : Fin 512) (v : Word) (h : Fin 24), s.dsgRun = false ∧ s.taskOn d = false ∧ BitVec.getLsbD v 0 = true ∧ wGet v 2 3 ≠ 7
      ∧ wGet v 20 3 ≠ 7 ∧ wGet v 11 5 = h.val ∧ (¬(s.f (Fld.LOOP_D_CPH_CPH d) < s.f (Fld.LOOP_D_BUD_BUD d) + 12 ∨ s.pairSt h ≠ pairActive ∨
      BitVec.getLsbD v 1 = true ∧ s.isSpare h = true ∨ s.f (Fld.LOOP_D_CTXS_CTXS d) * 4096 < 268435456 ∨ 272564224 ≤ s.f (Fld.LOOP_D_CTXS_CTXS
      d) * 4096 ∨ 1024 < s.f (Fld.LOOP_D_OUT_OUT_FIRST d) + s.f (Fld.LOOP_D_OUT_OUT_N d)))) :=
  ⟨⟨{}, 26, 0x5ac3#16, by decide +kernel⟩,
    ⟨{}, 3, 3, by decide +kernel⟩,
    ⟨{regs := [(.LOOP_P_STATE 17, 1#32)]}, 17, 17, by decide +kernel⟩,
    ⟨{regs := [(.LOOP_P_STATE 0, 2#32)]}, 0, 0, by decide +kernel⟩,
    ⟨{regs := [(.LOOP_P_STATE 8, 3#32)]}, 8, 8, by decide +kernel⟩,
    ⟨{}, 20, 20, by decide +kernel⟩,
    ⟨{regs := [(.LOOP_SPARE, 0xc80000#32), (.LOOP_P_STATE 9, 1#32), (.LOOP_P_STATE 19, 1#32)]}, 9, 9, 19, by decide +kernel⟩,
    ⟨{}, 1, 1, by decide +kernel⟩,
    ⟨{regs := [(.LOOP_SPARE, 0xc00008#32), (.LOOP_P_STATE 3, 1#32), (.LOOP_P_STATE 20, 4#32)], pair := (vset (Vector.replicate 24 {}) 20 {ret := some (0, 3)})},
      20, 3, 0, 3, by decide +kernel⟩,
    ⟨{regs := [(.LOOP_P_STATE 0, 3#32)]}, 0, by decide +kernel⟩,
    ⟨{regs := [(.LOOP_D_CTL 346, 0x3801#32)]}, 346, 0x401dd189#32, 7, by decide +kernel⟩,
    ⟨{regs := [(.LOOP_D_CTL 144, 0x4801#32)]}, 144, 0x70038#32, 9, by decide +kernel⟩,
    ⟨{}, 220, 0x65ed074f#32, 0, by decide +kernel⟩,
    ⟨(((({} : State).setF (Fld.LOOP_P_STATE_STATE 0) 1).setF (Fld.LOOP_D_CPH_CPH 0) 12).setF (Fld.LOOP_D_CTXS_CTXS 0) 0x10000), 0, 1#32, 0,
      by decide +kernel⟩⟩

theorem witness_GainTableStep :
    (∃ (s : State) (q : Fin 24) (d : BitVec 5) (a : BitVec 5) (b : BitVec 5) (c : BitVec 5) (e : BitVec 5) (n : Inst), s.dsgRun = false ∧
      s.ready q.castSucc = true ∧ nextOp s q.castSucc = some (CoreOp.pilut d a b c e) ∧ s.copyOf q.castSucc true = s.copyOf q.castSucc false ∧
      (∀ (x : Nat), localWord (flushed s q.castSucc (CoreOp.pilut d a b c e)) q true x = localWord (flushed s q.castSucc (CoreOp.pilut d a b c
      e)) q false x) ∧ (s.lp q).run = some n ∧ (¬(BitVec.toNat ((s.copyOf q.castSucc false).rx a) % 8 = 0 ∧ 8 * s.f (Fld.LOOP_D_CTX_CTX_LOCAL
      n.d) ≤ BitVec.toNat ((s.copyOf q.castSucc false).rx a) ∧ BitVec.toNat ((s.copyOf q.castSucc false).rx a) + 64 ≤ 8 * s.f
      (Fld.LOOP_D_CTX_CTX_LOCAL n.d) + 8 * s.f (Fld.LOOP_D_CTX_CTX_LEN n.d) ∧ BitVec.toNat ((s.copyOf q.castSucc false).rx a) + 64 ≤ 65536))) ∧
    (∃ (s : State) (q : Fin 24) (d : BitVec 5) (a : BitVec 5) (b : BitVec 5) (c : BitVec 5) (e : BitVec 5) (n : Inst) (x : Ecc), s.dsgRun =
      false ∧ s.ready q.castSucc = true ∧ nextOp s q.castSucc = some (CoreOp.pilut d a b c e) ∧ s.copyOf q.castSucc true = s.copyOf q.castSucc
      false ∧ (∀ (x : Nat), localWord (flushed s q.castSucc (CoreOp.pilut d a b c e)) q true x = localWord (flushed s q.castSucc (CoreOp.pilut
      d a b c e)) q false x) ∧ (s.lp q).run = some n ∧ BitVec.toNat ((s.copyOf q.castSucc false).rx a) % 8 = 0 ∧ 8 * s.f
      (Fld.LOOP_D_CTX_CTX_LOCAL n.d) ≤ BitVec.toNat ((s.copyOf q.castSucc false).rx a) ∧ BitVec.toNat ((s.copyOf q.castSucc false).rx a) + 64
      ≤ 8 * s.f (Fld.LOOP_D_CTX_CTX_LOCAL n.d) + 8 * s.f (Fld.LOOP_D_CTX_CTX_LEN n.d) ∧ BitVec.toNat ((s.copyOf q.castSucc false).rx a) + 64 ≤
      65536 ∧ (¬recordBad (localWord (flushed s q.castSucc (CoreOp.pilut d a b c e)) q false (BitVec.toNat ((s.copyOf q.castSucc false).rx
      a))) (localWord (flushed s q.castSucc (CoreOp.pilut d a b c e)) q false (BitVec.toNat ((s.copyOf q.castSucc false).rx a) + 56))
      (localWord (flushed s q.castSucc (CoreOp.pilut d a b c e)) q false (BitVec.toNat ((s.copyOf q.castSucc false).rx a) + 8)) = true) ∧
      (fFinite ((s.copyOf q.castSucc false).rf b) = false ∨ fFinite ((s.copyOf q.castSucc false).rf c) = false ∨ fFinite ((s.copyOf q.castSucc
      false).rf e) = false ∨ fGe (localWord (flushed s q.castSucc (CoreOp.pilut d a b c e)) q false (BitVec.toNat ((s.copyOf q.castSucc
      false).rx a) + 40)) (localWord (flushed s q.castSucc (CoreOp.pilut d a b c e)) q false (BitVec.toNat ((s.copyOf q.castSucc false).rx a)
      + 44)) = true) ∧ x ≠ Ecc.uncorrectable) ∧
    (∃ (s : State) (q : Fin 24) (d : BitVec 5) (a : BitVec 5) (b : BitVec 5) (c : BitVec 5) (e : BitVec 5) (n : Inst) (x : Ecc) (kpA : Word)
      (kiA : Word) (kpP : Word) (kiP : Word), s.dsgRun = false ∧ s.ready q.castSucc = true ∧ nextOp s q.castSucc = some (CoreOp.pilut d a b c
      e) ∧ s.copyOf q.castSucc true = s.copyOf q.castSucc false ∧ (∀ (x : Nat), localWord (flushed s q.castSucc (CoreOp.pilut d a b c e)) q
      true x = localWord (flushed s q.castSucc (CoreOp.pilut d a b c e)) q false x) ∧ (s.lp q).run = some n ∧ x ≠ Ecc.uncorrectable ∧
      BitVec.toNat ((s.copyOf q.castSucc false).rx a) % 8 = 0 ∧ 8 * s.f (Fld.LOOP_D_CTX_CTX_LOCAL n.d) ≤ BitVec.toNat ((s.copyOf q.castSucc
      false).rx a) ∧ BitVec.toNat ((s.copyOf q.castSucc false).rx a) + 64 ≤ 8 * s.f (Fld.LOOP_D_CTX_CTX_LOCAL n.d) + 8 * s.f
      (Fld.LOOP_D_CTX_CTX_LEN n.d) ∧ BitVec.toNat ((s.copyOf q.castSucc false).rx a) + 64 ≤ 65536 ∧ (¬recordBad (localWord (flushed s
      q.castSucc (CoreOp.pilut d a b c e)) q false (BitVec.toNat ((s.copyOf q.castSucc false).rx a))) (localWord (flushed s q.castSucc
      (CoreOp.pilut d a b c e)) q false (BitVec.toNat ((s.copyOf q.castSucc false).rx a) + 56)) (localWord (flushed s q.castSucc (CoreOp.pilut
      d a b c e)) q false (BitVec.toNat ((s.copyOf q.castSucc false).rx a) + 8)) = true) ∧ (¬(fFinite ((s.copyOf q.castSucc false).rf b) =
      false ∨ fFinite ((s.copyOf q.castSucc false).rf c) = false ∨ fFinite ((s.copyOf q.castSucc false).rf e) = false ∨ fGe (localWord
      (flushed s q.castSucc (CoreOp.pilut d a b c e)) q false (BitVec.toNat ((s.copyOf q.castSucc false).rx a) + 40)) (localWord (flushed s
      q.castSucc (CoreOp.pilut d a b c e)) q false (BitVec.toNat ((s.copyOf q.castSucc false).rx a) + 44)) = true)) ∧ wGet (localWord (flushed
      s q.castSucc (CoreOp.pilut d a b c e)) q false (BitVec.toNat ((s.copyOf q.castSucc false).rx a) + 60)) 0 9 = n.count % 256 ∧ setOk
      (localWord (flushed s q.castSucc (CoreOp.pilut d a b c e)) q false) (wGet (localWord (flushed s q.castSucc (CoreOp.pilut d a b c e)) q
      false (BitVec.toNat ((s.copyOf q.castSucc false).rx a) + 4)) 4 12 * 16 + wGet (localWord (flushed s q.castSucc (CoreOp.pilut d a b c e))
      q false (BitVec.toNat ((s.copyOf q.castSucc false).rx a) + 56)) 0 3 * 1040) = true ∧ setOk (localWord (flushed s q.castSucc
      (CoreOp.pilut d a b c e)) q false) (wGet (localWord (flushed s q.castSucc (CoreOp.pilut d a b c e)) q false (BitVec.toNat ((s.copyOf
      q.castSucc false).rx a) + 4)) 4 12 * 16 + wGet (localWord (flushed s q.castSucc (CoreOp.pilut d a b c e)) q false (BitVec.toNat
      ((s.copyOf q.castSucc false).rx a) + 56)) 8 3 * 1040) = true ∧ setGains (localWord (flushed s q.castSucc (CoreOp.pilut d a b c e)) q
      false) (wGet (localWord (flushed s q.castSucc (CoreOp.pilut d a b c e)) q false (BitVec.toNat ((s.copyOf q.castSucc false).rx a) + 4)) 4
      12 * 16 + wGet (localWord (flushed s q.castSucc (CoreOp.pilut d a b c e)) q false (BitVec.toNat ((s.copyOf q.castSucc false).rx a) +
      56)) 0 3 * 1040) ((s.copyOf q.castSucc false).rf b) (Config.freeWord s.free) = some (kpA, kiA) ∧ setGains (localWord (flushed s
      q.castSucc (CoreOp.pilut d a b c e)) q false) (wGet (localWord (flushed s q.castSucc (CoreOp.pilut d a b c e)) q false (BitVec.toNat
      ((s.copyOf q.castSucc false).rx a) + 4)) 4 12 * 16 + wGet (localWord (flushed s q.castSucc (CoreOp.pilut d a b c e)) q false
      (BitVec.toNat ((s.copyOf q.castSucc false).rx a) + 56)) 8 3 * 1040) ((s.copyOf q.castSucc false).rf b) (Config.freeWord s.free) = some
      (kpP, kiP)) :=
  ⟨⟨{mem := [(806030000, 0x38#8), (806030001, 0x23#8), (806030002, 0x8e#8), (806030003, 9#8)], chk := [(806030000, 0x38#8), (806030001, 0x23#8), (806030002, 0x8e#8), (806030003, 9#8)], pair := (vset (Vector.replicate 24 {}) 11 {lead := {pc := 0xab0#32}, chk := {pc := 0xab0#32}, run := some { d := 62, tr := 2, c := 2, count := 3, snap := (Vector.replicate 22 0#32), from_ := 7, place := .queued 9, written := 0x570a#16, ended := 8191, region := [1#32, 1#32, 0x65994894#32], done := some 99 }, live := true})},
      11, 0xc#5, 4#5, 0xe#5, 0xc#5, 2#5,
      { d := 62, tr := 2, c := 2, count := 3, snap := (Vector.replicate 22 0#32), from_ := 7, place := .queued 9, written := 0x570a#16, ended := 8191, region := [1#32, 1#32, 0x65994894#32], done := some 99 },
      by refine ⟨?_, ?_, ?_, ?_, ?_, ?_, ?_⟩ <;> first | exact fun _ => rfl | decide +kernel⟩,
    ⟨{regs := [(.LOOP_D_CTX 261, 0x1d50000#32)], mem := [(806258436, 0xb8#8), (806258438, 0x81#8), (806258439, 0x4a#8)], chk := [(806258436, 0xb8#8), (806258438, 0x81#8), (806258439, 0x4a#8)], pair := (vset (Vector.replicate 24 {}) 14 {lead := {pc := 0x8704#32}, chk := {pc := 0x8704#32}, run := some { d := 261, tr := 764113412, c := 1, count := 28, snap := (Vector.replicate 22 0#32), from_ := 2, place := .waiting 9, written := 0xffff#16, ended := 3, dropped := true }, live := true})},
      14, 2#5, 0#5, 1#5, 0x14#5, 0x12#5,
      { d := 261, tr := 764113412, c := 1, count := 28, snap := (Vector.replicate 22 0#32), from_ := 2, place := .waiting 9, written := 0xffff#16, ended := 3, dropped := true },
      .ok, by refine ⟨?_, ?_, ?_, ?_, ?_, ?_, ?_, ?_, ?_, ?_, ?_, ?_, ?_⟩ <;> first | exact fun _ => rfl | decide +kernel⟩,
    ⟨gainRecord, 0, 0, 0, 1, 2, 3, { queuedTask with place := .ended 0 }, .ok, 0, 0, 0, 0, by refine ⟨?_, ?_, ?_, ?_, ?_, ?_, ?_, ?_, ?_,
      ?_, ?_, ?_, ?_, ?_, ?_, ?_, ?_, ?_⟩ <;> first | exact fun _ => rfl | decide +kernel⟩⟩

theorem witness_GainTableInitialisationAndTables :
    (∃ (s : State) (q : Fin 24) (a : BitVec 5) (b : BitVec 5) (e : Ecc), s.ready q.castSucc = true ∧ s.copyOf q.castSucc true = s.copyOf
      q.castSucc false ∧ e ≠ Ecc.uncorrectable ∧ BitVec.toNat ((s.copyOf q.castSucc false).rx a) % 4 = 0 ∧ BitVec.toNat ((s.copyOf q.castSucc
      false).rx a) + 64 ≤ 65536 ∧ nextOp s q.castSucc = some (CoreOp.pilinit a b) ∧ (∀ (x : Nat), localWord (flushed s q.castSucc
      (CoreOp.pilinit a b)) q true x = localWord (flushed s q.castSucc (CoreOp.pilinit a b)) q false x)) ∧
    (∃ (s : State) (q : Fin 24) (d : BitVec 5) (a : BitVec 5) (b : BitVec 5) (e : Ecc), s.ready q.castSucc = true ∧ s.copyOf q.castSucc true
      = s.copyOf q.castSucc false ∧ fIsNaN ((s.copyOf q.castSucc false).rf b) = false ∧ (fCompare false (localWord (flushed s q.castSucc
      (CoreOp.tlu d a b)) q false (BitVec.toNat ((s.copyOf q.castSucc false).rx a))) (localWord (flushed s q.castSucc (CoreOp.tlu d a b)) q
      false (BitVec.toNat ((s.copyOf q.castSucc false).rx a) + 4))).1 = true ∧ fFinite (fDiv (fMul (fSub (fClamp ((s.copyOf q.castSucc
      false).rf b) (localWord (flushed s q.castSucc (CoreOp.tlu d a b)) q false (BitVec.toNat ((s.copyOf q.castSucc false).rx a))) (localWord
      (flushed s q.castSucc (CoreOp.tlu d a b)) q false (BitVec.toNat ((s.copyOf q.castSucc false).rx a) + 4))) (localWord (flushed s
      q.castSucc (CoreOp.tlu d a b)) q false (BitVec.toNat ((s.copyOf q.castSucc false).rx a)))).1 (fNat 255)).1 (fSub (localWord (flushed s
      q.castSucc (CoreOp.tlu d a b)) q false (BitVec.toNat ((s.copyOf q.castSucc false).rx a) + 4)) (localWord (flushed s q.castSucc
      (CoreOp.tlu d a b)) q false (BitVec.toNat ((s.copyOf q.castSucc false).rx a)))).1).1 = true ∧ fNegative (fDiv (fMul (fSub (fClamp
      ((s.copyOf q.castSucc false).rf b) (localWord (flushed s q.castSucc (CoreOp.tlu d a b)) q false (BitVec.toNat ((s.copyOf q.castSucc
      false).rx a))) (localWord (flushed s q.castSucc (CoreOp.tlu d a b)) q false (BitVec.toNat ((s.copyOf q.castSucc false).rx a) + 4)))
      (localWord (flushed s q.castSucc (CoreOp.tlu d a b)) q false (BitVec.toNat ((s.copyOf q.castSucc false).rx a)))).1 (fNat 255)).1 (fSub
      (localWord (flushed s q.castSucc (CoreOp.tlu d a b)) q false (BitVec.toNat ((s.copyOf q.castSucc false).rx a) + 4)) (localWord (flushed
      s q.castSucc (CoreOp.tlu d a b)) q false (BitVec.toNat ((s.copyOf q.castSucc false).rx a)))).1).1 = false ∧ BitVec.toNat ((s.copyOf
      q.castSucc false).rx a) % 4 = 0 ∧ BitVec.toNat ((s.copyOf q.castSucc false).rx a) + 1032 ≤ 65536 ∧ e ≠ Ecc.uncorrectable ∧ nextOp s
      q.castSucc = some (CoreOp.tlu d a b) ∧ (∀ (x : Nat), localWord (flushed s q.castSucc (CoreOp.tlu d a b)) q true x = localWord (flushed s
      q.castSucc (CoreOp.tlu d a b)) q false x)) ∧
    (∃ (s : State) (q : Fin 24) (d : BitVec 5) (a : BitVec 5) (c : BitVec 5), s.ready q.castSucc = true ∧ s.copyOf q.castSucc true =
      s.copyOf q.castSucc false ∧ d ≠ c ∧ nextOp s q.castSucc = some (CoreOp.sincos d a c) ∧ (∀ (x : Nat), localWord (flushed s q.castSucc
      (CoreOp.sincos d a c)) q true x = localWord (flushed s q.castSucc (CoreOp.sincos d a c)) q false x)) :=
  ⟨⟨{mem := [(805467360, 0x39#8), (805467361, 0x40#8), (805467362, 0xe#8)], chk := [(805467360, 0x39#8), (805467361, 0x40#8), (805467362, 0xe#8)], pair := (vset (Vector.replicate 24 {}) 2 {lead := {pc := 0x74e0#32}, chk := {pc := 0x74e0#32}, live := true})},
      2, 8#5, 0xe#5, .corrected 0 536870911, by refine ⟨?_, ?_, ?_, ?_, ?_, ?_, ?_⟩ <;> first | exact fun _ => rfl | decide +kernel⟩,
    ⟨{mem := [(806682629, 0x5b#8), (806682630, 0xa#8), (806697304, 0x7a#8), (806697305, 0x5b#8), (806697306, 0xa#8)], chk := [(806682629, 0x5b#8), (806682630, 0xa#8), (806697304, 0x7a#8), (806697305, 0x5b#8), (806697306, 0xa#8)], pair := (vset (Vector.replicate 24 {}) 21 {lead := {pc := 0x3958#32}, chk := {pc := 0x3958#32}, live := true})},
      21, 0xd#5, 0xb#5, 0xa#5, .corrected 1 33905, by refine ⟨?_, ?_, ?_, ?_, ?_, ?_, ?_, ?_, ?_, ?_, ?_⟩ <;> first | exact fun _ => rfl |
      decide +kernel⟩,
    ⟨{mem := [(806604416, 0xfb#8), (806604417, 0x17#8)], chk := [(806604416, 0xfb#8), (806604417, 0x17#8)], pair := (vset (Vector.replicate 24 {}) 19 {lead := {pc := 0xce80#32}, chk := {pc := 0xce80#32}, live := true})},
      19, 0x1f#5, 2#5, 0#5, by refine ⟨?_, ?_, ?_, ?_, ?_⟩ <;> first | exact fun _ => rfl | decide +kernel⟩⟩

theorem witness_GatePeriodsAndCommandEdges :
    (∃ (s : State) (g : Fin 16), s.dsgRun = false ∧ s.gRun g = true ∧ (s.grp g).sync = none) ∧
    (∃ (s : State) (g : Fin 16) (k : Nat) (c : Nat) (ph : Int), s.dsgRun = false ∧ s.gRun g = true ∧ (s.grp g).sync = some (c, (↑c : Int) -
      ph) ∧ (s.grp g).org + (↑k : Int) < (↑c : Int)) ∧
    (∃ (s : State) (g : Fin 16) (k : Nat) (c : Nat), s.dsgRun = false ∧ s.gRun g = true ∧ (s.grp g).sync = some (c, (↑c : Int)) ∧ (↑c : Int)
      ≤ (s.grp g).org + (↑k : Int)) ∧
    (∃ (s : State) (g : Fin 16) (k : Nat) (c : Nat) (ph : Nat), s.dsgRun = false ∧ s.gRun g = true ∧ ph ≠ 0 ∧ (s.grp g).sync = some (c, (↑c
      : Int) - (↑ph : Int)) ∧ (↑c : Int) ≤ (s.grp g).org + (↑k : Int)) ∧
    (∃ (s : State) (g : Fin 16), s.dsgRun = false ∧ s.gRun g = true ∧ s.variable g = false) ∧
    (∃ (s : State) (g : Fin 16) (c : Fin 9) (tap : Nat), s.dsgRun = false ∧ s.gRun g = true ∧ g.val ≠ 15 ∧ carries s g c tap = true) :=
  ⟨⟨{regs := [(.PWM_G_STATUS 5, 0x10000#32)]}, 5, by decide +kernel⟩,
    ⟨{regs := [(.PWM_G_STATUS 7, 0x10000#32)], pwm := {g := (vset (Vector.replicate 16 {}) 7 {sync := some (14, 20)})}}, 7, 5, 14, -6, by
      decide +kernel⟩,
    ⟨{regs := [(.PWM_G_STATUS 4, 0x10000#32)], pwm := {g := (vset (Vector.replicate 16 {}) 4 {sync := some (5, 5)})}}, 4, 30, 5, by
      decide +kernel⟩,
    ⟨{regs := [(.PWM_G_STATUS 10, 0x10000#32)], pwm := {g := (vset (Vector.replicate 16 {}) 10 {sync := some (0, -2097152)})}}, 10, 7, 0,
      2097152, by decide +kernel⟩,
    ⟨{regs := [(.PWM_G_STATUS 7, 0x10000#32)]}, 7, by decide +kernel⟩,
    ⟨{regs := [(.PWM_G_CFG 7, 0x8c#32), (.PWM_G_STATUS 7, 0x10000#32)]}, 7, 1, 84386, by decide +kernel⟩⟩

theorem witness_VariablePeriods :
    (∃ (s : State) (g : Fin 16) (c : Fin 4) (t0 : Nat), s.dsgRun = false ∧ s.gRun g = true ∧ (g.val = 4 ∨ g.val = 5 ∨ g.val = 14) ∧ (s.gMode
      g = 2 ∨ s.gMode g = 3) ∧ (s.grp g).arm = none ∧ s.flag (Fld.QNC_G_STATE_HOLD g) = false ∧ (s.cell g ⟨c.val, by omega⟩).next = some t0 ∧
      s.cmpAct g ⟨c.val, by omega⟩ ≠ 0) ∧
    (∃ (s : State) (g : Fin 16) (c : Fin 4), s.dsgRun = false ∧ s.gRun g = true ∧ (g.val = 4 ∨ g.val = 5 ∨ g.val = 14) ∧ (s.gMode g = 2 ∨
      s.gMode g = 3) ∧ (s.grp g).arm = none ∧ s.flag (Fld.QNC_G_STATE_HOLD g) = false ∧ s.gMode g = 2 ∧ (s.cell g ⟨c.val, by omega⟩).on =
      true) ∧
    (∃ (s : State) (g : Fin 16) (c : Fin 4), s.dsgRun = false ∧ s.gRun g = true ∧ (g.val = 4 ∨ g.val = 5 ∨ g.val = 14) ∧ (s.gMode g = 2 ∨
      s.gMode g = 3) ∧ (s.grp g).arm = none ∧ s.flag (Fld.QNC_G_STATE_HOLD g) = false ∧ s.gMode g = 3 ∧ (s.cell g ⟨c.val, by omega⟩).on =
      false ∧ (s.cell g ⟨c.val, by omega⟩).next = none ∧ s.cmpAct g ⟨c.val, by omega⟩ ≠ 0 ∧ s.flag (Fld.PWM_G_CFG_INTLV g) = false) ∧
    (∃ (s : State) (g : Fin 16) (c : Fin 4), s.dsgRun = false ∧ s.gRun g = true ∧ (g.val = 4 ∨ g.val = 5 ∨ g.val = 14) ∧ (s.gMode g = 2 ∨
      s.gMode g = 3) ∧ (s.grp g).arm = none ∧ s.flag (Fld.QNC_G_STATE_HOLD g) = false ∧ s.gMode g = 2 ∧ (s.cell g ⟨c.val, by omega⟩).on =
      false ∧ (s.cell g ⟨c.val, by omega⟩).next = none ∧ s.cmpAct g ⟨c.val, by omega⟩ ≠ 0 ∧ (¬∀ e ∈ s.pwm.vpEv, e.g = g → e.c = c → e.peak =
      false → (s.cell g ⟨c.val, by omega⟩).edge + 16 * s.f (Fld.PWM_G_VP_BLANK g) ≤ e.at_ → (s.cell g ⟨c.val, by omega⟩).edge + 16 * s.f
      (Fld.PWM_G_VPT_TMAX g) < (e.at_ / 16 + 3) * 16)) ∧
    (∃ (s : State) (g : Fin 16) (c : Fin 4), s.dsgRun = false ∧ s.gRun g = true ∧ (g.val = 4 ∨ g.val = 5 ∨ g.val = 14) ∧ (s.gMode g = 2 ∨
      s.gMode g = 3) ∧ (s.grp g).arm = none ∧ s.flag (Fld.QNC_G_STATE_HOLD g) = false ∧ s.gMode g = 3 ∧ (s.cell g ⟨c.val, by omega⟩).on = true
      ∧ (¬∀ e ∈ s.pwm.vpEv, e.g = g → e.c = c → e.peak = true → (s.cell g ⟨c.val, by omega⟩).start + 16 * s.f (Fld.PWM_G_VP_BLANK g) ≤ e.at_ →
      (s.cell g ⟨c.val, by omega⟩).start + 16 * s.f (Fld.PWM_G_VPT_TMAX g) < (e.at_ / 16 + 3) * 16)) ∧
    (∃ (s : State) (g : Fin 16) (c : Fin 4), s.dsgRun = false ∧ s.gRun g = true ∧ (g.val = 4 ∨ g.val = 5 ∨ g.val = 14) ∧ (s.gMode g = 2 ∨
      s.gMode g = 3) ∧ (s.grp g).arm = none ∧ s.flag (Fld.QNC_G_STATE_HOLD g) = false ∧ s.gMode g = 2 ∧ (s.cell g ⟨c.val, by omega⟩).on =
      false ∧ (s.cell g ⟨c.val, by omega⟩).next = none ∧ s.cmpAct g ⟨c.val, by omega⟩ ≠ 0 ∧ s.flag (Fld.PWM_G_CFG_INTLV g) = false ∧ (∀ e ∈
      s.pwm.vpEv, e.g = g → e.c = c → e.peak = false → (s.cell g ⟨c.val, by omega⟩).edge + 16 * s.f (Fld.PWM_G_VP_BLANK g) ≤ e.at_ → (s.cell g
      ⟨c.val, by omega⟩).edge + 16 * s.f (Fld.PWM_G_VPT_TMAX g) < (e.at_ / 16 + 3) * 16)) ∧
    (∃ (s : State) (g : Fin 16) (c : Fin 4), s.dsgRun = false ∧ s.gRun g = true ∧ (g.val = 4 ∨ g.val = 5 ∨ g.val = 14) ∧ (s.gMode g = 2 ∨
      s.gMode g = 3) ∧ (s.grp g).arm = none ∧ s.flag (Fld.QNC_G_STATE_HOLD g) = false ∧ s.gMode g = 3 ∧ (s.cell g ⟨c.val, by omega⟩).on = true
      ∧ (∀ e ∈ s.pwm.vpEv, e.g = g → e.c = c → e.peak = true → (s.cell g ⟨c.val, by omega⟩).start + 16 * s.f (Fld.PWM_G_VP_BLANK g) ≤ e.at_ →
      (s.cell g ⟨c.val, by omega⟩).start + 16 * s.f (Fld.PWM_G_VPT_TMAX g) < (e.at_ / 16 + 3) * 16)) ∧
    (∃ (s : State) (g : Fin 16) (c : Fin 4) (tap : Nat) (l : List VpEv), s.dsgRun = false ∧ s.gRun g = true ∧ (g.val = 4 ∨ g.val = 5 ∨ g.val
      = 14) ∧ (s.gMode g = 2 ∨ s.gMode g = 3) ∧ (s.grp g).arm = none ∧ s.flag (Fld.QNC_G_STATE_HOLD g) = false ∧ takeVp g c false s.pwm.vpEv =
      (some tap, l) ∧ s.gMode g = 2 ∧ (s.cell g ⟨c.val, by omega⟩).on = false ∧ (s.cell g ⟨c.val, by omega⟩).next = none ∧ s.cmpAct g ⟨c.val,
      by omega⟩ ≠ 0 ∧ (s.cell g ⟨c.val, by omega⟩).edge + 16 * s.f (Fld.PWM_G_VP_BLANK g) ≤ tap ∧ (tap / 16 + 3) * 16 ≤ (s.cell g ⟨c.val, by
      omega⟩).edge + 16 * s.f (Fld.PWM_G_VPT_TMAX g)) ∧
    (∃ (s : State) (g : Fin 16) (c : Fin 4) (tap : Nat) (l : List VpEv), s.dsgRun = false ∧ s.gRun g = true ∧ (g.val = 4 ∨ g.val = 5 ∨ g.val
      = 14) ∧ (s.gMode g = 2 ∨ s.gMode g = 3) ∧ (s.grp g).arm = none ∧ s.flag (Fld.QNC_G_STATE_HOLD g) = false ∧ takeVp g c false s.pwm.vpEv =
      (some tap, l) ∧ s.gMode g = 2 ∧ (s.cell g ⟨c.val, by omega⟩).on = false ∧ (s.cell g ⟨c.val, by omega⟩).next = none ∧ s.cmpAct g ⟨c.val,
      by omega⟩ ≠ 0 ∧ tap < (s.cell g ⟨c.val, by omega⟩).edge + 16 * s.f (Fld.PWM_G_VP_BLANK g)) ∧
    (∃ (s : State) (g : Fin 16) (c : Fin 4) (tap : Nat) (l : List VpEv), s.dsgRun = false ∧ s.gRun g = true ∧ (g.val = 4 ∨ g.val = 5 ∨ g.val
      = 14) ∧ (s.gMode g = 2 ∨ s.gMode g = 3) ∧ (s.grp g).arm = none ∧ s.flag (Fld.QNC_G_STATE_HOLD g) = false ∧ takeVp g c true s.pwm.vpEv =
      (some tap, l) ∧ (s.cell g ⟨c.val, by omega⟩).on = true ∧ (s.cell g ⟨c.val, by omega⟩).start + 16 * s.f (Fld.PWM_G_VP_BLANK g) ≤ tap ∧
      s.gMode g = 2 ∧ s.flag (Fld.PWM_G_SNS_PEN g c) = true ∧ (tap / 16 + 3) * 16 / 16 < ((s.cell g ⟨c.val, by omega⟩).start + s.cmpAct g
      ⟨c.val, by omega⟩) / 16) ∧
    (∃ (s : State) (g : Fin 16) (c : Fin 4) (tap : Nat) (l : List VpEv), s.dsgRun = false ∧ s.gRun g = true ∧ (g.val = 4 ∨ g.val = 5 ∨ g.val
      = 14) ∧ (s.gMode g = 2 ∨ s.gMode g = 3) ∧ (s.grp g).arm = none ∧ s.flag (Fld.QNC_G_STATE_HOLD g) = false ∧ takeVp g c true s.pwm.vpEv =
      (some tap, l) ∧ (s.cell g ⟨c.val, by omega⟩).on = true ∧ (s.cell g ⟨c.val, by omega⟩).start + 16 * s.f (Fld.PWM_G_VP_BLANK g) ≤ tap ∧
      s.gMode g = 3 ∧ (tap / 16 + 3) * 16 ≤ (s.cell g ⟨c.val, by omega⟩).start + 16 * s.f (Fld.PWM_G_VPT_TMAX g)) ∧
    (∃ (s : State) (g : Fin 16) (c : Fin 4) (tap : Nat) (l : List VpEv), s.dsgRun = false ∧ s.gRun g = true ∧ (g.val = 4 ∨ g.val = 5 ∨ g.val
      = 14) ∧ (s.gMode g = 2 ∨ s.gMode g = 3) ∧ (s.grp g).arm = none ∧ s.flag (Fld.QNC_G_STATE_HOLD g) = false ∧ takeVp g c true s.pwm.vpEv =
      (some tap, l) ∧ (s.cell g ⟨c.val, by omega⟩).on = true ∧ (tap < (s.cell g ⟨c.val, by omega⟩).start + 16 * s.f (Fld.PWM_G_VP_BLANK g) ∨
      s.gMode g = 2 ∧ ((s.cell g ⟨c.val, by omega⟩).start + s.cmpAct g ⟨c.val, by omega⟩) / 16 ≤ (tap / 16 + 3) * 16 / 16)) :=
  ⟨⟨{regs := [(.PWM_G_CFG 5, 3#32), (.PWM_G_STATUS 5, 0x10000#32), (.PWM_G_CMP_ACT 5 1, 0xc#32)], pwm := {g := (vset (Vector.replicate 16 {}) 5 {cell := (vset (Vector.replicate 9 {}) 1 {next := some 43952})})}},
      5, 1, 43952, by decide +kernel⟩,
    ⟨{regs := [(.PWM_G_CFG 14, 2#32), (.PWM_G_STATUS 14, 0x10000#32)], pwm := {g := (vset (Vector.replicate 16 {}) 14 {cell := (vset (Vector.replicate 9 {}) 3 {on := true})})}},
      14, 3, by decide +kernel⟩,
    ⟨{regs := [(.PWM_G_CFG 4, 3#32), (.PWM_G_STATUS 4, 0x10000#32), (.PWM_G_CMP_ACT 4 3, 1#32)]}, 4, 3, by decide +kernel⟩,
    ⟨((((({ pwm := { vpEv := [{ g := 4, c := 0, peak := false, at_ := 0 }] } } : State).setF (Fld.PWM_G_STATUS_RUN 4) 1).setF
      (Fld.PWM_G_CFG_MODE 4) 2).setF (Fld.PWM_G_VPT_TMAX 4) 10).wr (.PWM_G_CMP_ACT 4 0) 100#32), 4, 0, by decide +kernel⟩,
    ⟨((((({ pwm := { vpEv := [{ g := 4, c := 0, peak := true, at_ := 0 }] } } : State).setF (Fld.PWM_G_STATUS_RUN 4) 1).setF
      (Fld.PWM_G_CFG_MODE 4) 3).setF (Fld.PWM_G_VPT_TMAX 4) 10).modCell 4 0 fun c => { c with on := true }), 4, 0, by decide +kernel⟩,
    ⟨{regs := [(.PWM_G_CFG 14, 2#32), (.PWM_G_STATUS 14, 0x10000#32), (.PWM_G_CMP_ACT 14 0, 6#32)]}, 14, 0, by decide +kernel⟩,
    ⟨{regs := [(.PWM_G_CFG 4, 3#32), (.PWM_G_STATUS 4, 0x10000#32)], pwm := {g := (vset (Vector.replicate 16 {}) 4 {cell := (vset (Vector.replicate 9 {}) 2 {on := true})})}},
      4, 2, by decide +kernel⟩,
    ⟨{regs := [(.PWM_G_CFG 14, 2#32), (.PWM_G_STATUS 14, 0x10000#32), (.PWM_G_CMP_ACT 14 0, 0xb#32)], pwm := {vpEv := [{ g := 14, c := 0, peak := false, at_ := 6 }, { g := 14, c := 0, peak := false, at_ := 6 }]}},
      14, 0, 6, [{ g := 14, c := 0, peak := false, at_ := 6 }], by decide +kernel⟩,
    ⟨{regs := [(.PWM_G_CFG 5, 2#32), (.PWM_G_STATUS 5, 0x10000#32), (.PWM_G_CMP_ACT 5 1, 0xb#32)], pwm := {g := (vset (Vector.replicate 16 {}) 5 {cell := (vset (Vector.replicate 9 {}) 1 {edge := 16777219})}), vpEv := [{ g := 5, c := 1, peak := false, at_ := 16777216 }, { g := 5, c := 1, peak := false, at_ := 16777216 }]}},
      5, 1, 16777216, [{ g := 5, c := 1, peak := false, at_ := 16777216 }], by decide +kernel⟩,
    ⟨((((({ pwm := { vpEv := [{ g := 4, c := 0, peak := true, at_ := 0 }] } } : State).setF (Fld.PWM_G_STATUS_RUN 4) 1).setF
      (Fld.PWM_G_CFG_MODE 4) 2).setF (Fld.PWM_G_SNS_PEN 4 0) 1).wr (.PWM_G_CMP_ACT 4 0) 100#32).modCell 4 0 fun c => { c with on := true }, 4,
      0, 0, [], by decide +kernel⟩,
    ⟨{regs := [(.PWM_G_CFG 14, 3#32), (.PWM_G_STATUS 14, 0x10000#32)], pwm := {g := (vset (Vector.replicate 16 {}) 14 {cell := (vset (Vector.replicate 9 {}) 3 {on := true})}), vpEv := [{ g := 14, c := 3, peak := true, at_ := 76 }, { g := 14, c := 3, peak := true, at_ := 76 }]}},
      14, 3, 76, [{ g := 14, c := 3, peak := true, at_ := 76 }], by decide +kernel⟩,
    ⟨{regs := [(.PWM_G_CFG 5, 2#32), (.PWM_G_STATUS 5, 0x10000#32)], pwm := {g := (vset (Vector.replicate 16 {}) 5 {cell := (vset (Vector.replicate 9 {}) 1 {on := true, start := 2763993506})}), vpEv := [{ g := 5, c := 1, peak := true, at_ := 2763993505 }, { g := 5, c := 1, peak := true, at_ := 2763993505 }]}},
      5, 1, 2763993505, [{ g := 5, c := 1, peak := true, at_ := 2763993505 }], by decide +kernel⟩⟩

theorem witness_DeadTimeRefreshAndDelayPairs :
    (∃ (s : State) (g : Fin 16) (c : Fin 9) (due : Nat), (s.cell g c).pend = some (Pend.lowOn, due)) ∧
    (∃ (s : State) (g : Fin 16) (c : Fin 9) (due : Nat), (s.cell g c).pend = some (Pend.highOn, due) ∧ s.refreshes g = true ∧ bootDue s g c
      ≤ due ∧ driveStays s g c due = true) ∧
    (∃ (s : State) (g : Fin 16) (c : Fin 9) (due : Nat), (s.cell g c).pend = some (Pend.highOn, due) ∧ (¬(s.refreshes g = true ∧ bootDue s g
      c ≤ due ∧ driveStays s g c due = true))) ∧
    (∃ (s : State) (g : Fin 16) (c : Fin 9), (s.cell g c).pend = none ∧ s.gRun g = true ∧ s.refreshes g = true ∧ (s.cell g c).hi = true ∧
      driveStays s g c (bootDue s g c / 16 * 16) = true) ∧
    (∃ (s : State) (g : Fin 16) (c : Fin 9), (s.cell g c).pend = none ∧ s.gRun g = true ∧ s.refreshes g = true ∧ (s.cell g c).hi = true ∧
      driveStays s g c (bootDue s g c / 16 * 16) = false) ∧
    (∃ (s : State) (g : Fin 16) (c : Fin 9) (due : Nat), (s.cell g c).pend = some (Pend.refLowOn, due)) ∧
    (∃ (s : State) (g : Fin 16) (c : Fin 9) (due : Nat), (s.cell g c).pend = some (Pend.refLowOff, due)) ∧
    (∃ (s : State) (g : Fin 16) (c : Fin 9) (due : Nat), (s.cell g c).pend = some (Pend.refHighOn, due)) ∧
    (∃ (s : State) (g : Fin 16) (c : Fin 9) (due : Nat), (s.cell g c).pend = some (Pend.pulseOn, due)) ∧
    (∃ (s : State) (g : Fin 16) (c : Fin 9) (due : Nat), (s.cell g c).pend = some (Pend.pulseOff, due) ∧ (∀ (n : Fin 8), auxOf g = some n →
      due < s.aux[n].pulseEnd)) ∧
    (∃ (s : State) (g : Fin 16), s.dsgRun = false ∧ (s.dev = devConfig ∨ s.dev = devSafe) ∧ s.gRun g = false) ∧
    (∃ (s : State) (g : Fin 16) (v : Word), s.dsgRun = false ∧ (s.dev = devConfig ∨ s.dev = devSafe) ∧ s.gRun g = true ∧ v ≠ s.rd
      (Reg.PWM_G_DT g)) ∧
    (∃ (s : State) (g : Fin 16), s.dsgRun = false ∧ (¬(s.dev = devConfig ∨ s.dev = devSafe)) ∧ s.gRun g = false) ∧
    (∃ (s : State), s.dsgRun = false ∧ s.locked = false) :=
  ⟨⟨{pwm := {g := (vset (Vector.replicate 16 {}) 5 {cell := (vset (Vector.replicate 9 {}) 6 {pend := some (.lowOn, 43952)})})}}, 5, 6,
      43952, by decide +kernel⟩,
    ⟨{pwm := {g := (vset (Vector.replicate 16 {}) 7 {cell := (vset (Vector.replicate 9 {}) 8 {pend := some (.highOn, 1003330986), refT := 744616086})})}},
      7, 8, 1003330986, by decide +kernel⟩,
    ⟨{pwm := {g := (vset (Vector.replicate 16 {}) 5 {cell := (vset (Vector.replicate 9 {}) 1 {pend := some (.highOn, 7)})})}}, 5, 1, 7, by
      decide +kernel⟩,
    ⟨{regs := [(.PWM_G_STATUS 7, 0x10000#32)], pwm := {g := (vset (Vector.replicate 16 {}) 7 {cell := (vset (Vector.replicate 9 {}) 1 {hi := true})})}},
      7, 1, by decide +kernel⟩,
    ⟨((({} : State).setF (Fld.PWM_G_STATUS_RUN 0) 1).setF (Fld.PWM_G_CFG_MODE 0) 1).setF (Fld.PWM_G_CFG_BOOT 0) 1 |>.modCell 0 0 fun c =>
      { c with hi := true }, 0, 0, by decide +kernel⟩,
    ⟨{pwm := {g := (vset (Vector.replicate 16 {}) 12 {cell := (vset (Vector.replicate 9 {}) 5 {pend := some (.refLowOn, 2047)})})}}, 12, 5,
      2047, by decide +kernel⟩,
    ⟨{pwm := {g := (vset (Vector.replicate 16 {}) 1 {cell := (vset (Vector.replicate 9 {}) 6 {pend := some (.refLowOff, 6)})})}}, 1, 6, 6,
      by decide +kernel⟩,
    ⟨{pwm := {g := (vset (Vector.replicate 16 {}) 8 {cell := (vset (Vector.replicate 9 {}) 8 {pend := some (.refHighOn, 1546262069)})})}},
      8, 8, 1546262069, by decide +kernel⟩,
    ⟨{pwm := {g := (vset (Vector.replicate 16 {}) 1 {cell := (vset (Vector.replicate 9 {}) 3 {pend := some (.pulseOn, 7)})})}}, 1, 3, 7, by
      decide +kernel⟩,
    ⟨{pwm := {g := (vset (Vector.replicate 16 {}) 2 {cell := (vset (Vector.replicate 9 {}) 1 {pend := some (.pulseOff, 272569275)})})}}, 2,
      1, 272569275, by decide +kernel⟩,
    ⟨{regs := [(.SYS_STATE, 1#32)]}, 0, by decide +kernel⟩,
    ⟨{regs := [(.SYS_STATE, 1#32), (.PWM_G_STATUS 12, 0x10000#32)]}, 12, 0xffffffff#32, by decide +kernel⟩,
    ⟨{}, 8, by decide +kernel⟩,
    ⟨{}, by decide +kernel⟩⟩

theorem witness_ShadowsArmsStartsAndStops :
    (∃ (s : State) (g : Fin 16) (a : Fin 4), s.dsgRun = false ∧ (s.grp g).arm = none ∧ axGroup a = g) ∧
    (∃ (s : State) (g : Fin 16) (r : ShadowReg), s.dsgRun = false ∧ (s.grp g).arm.isSome = true ∧ (g.val < 4 ∨ r ≠ ShadowReg.psel)) :=
  ⟨⟨{}, 0, 0, by decide +kernel⟩,
    ⟨{pwm := {g := (vset (Vector.replicate 16 {}) 1 {arm := some (false, 9)})}}, 1, .per, by decide +kernel⟩⟩

theorem witness_PulsePatterns :
    (∃ (s : State) (k : Fin 64), k ≠ 0 ∧ s.dsgRun = false ∧ s.pwm.chk = none ∧ (¬∃ g, s.gMode (axGroup g) = 4 ∧ (s.f (Fld.PWM_G_PSEL_PSEL g)
      = k.val ∨ s.f (Fld.PWM_G_PSEL_ACT_PSEL g) = k.val))) ∧
    (∃ (s : State) (k : Fin 64), k ≠ 0 ∧ s.dsgRun = false ∧ s.pwm.chk.isSome = true ∧ (¬∃ g, s.gMode (axGroup g) = 4 ∧ (s.f
      (Fld.PWM_G_PSEL_PSEL g) = k.val ∨ s.f (Fld.PWM_G_PSEL_ACT_PSEL g) = k.val))) ∧
    (∃ (s : State) (k : Fin 64) (v : Word) (due : Nat), k ≠ 0 ∧ s.dsgRun = false ∧ s.pwm.chk = some (k.val, v &&& 327122943#32, due)) ∧
    (∃ (s : State) (i : Fin 32768), 256 ≤ i.val ∧ (∀ (g : Fin 4) (k : Nat), 0 < k ∧ k < 64 ∧ patHas s k (i.val - 256) = true → ¬(s.gMode
      (axGroup g) = 4 ∧ (s.f (Fld.PWM_G_PSEL_PSEL g) = k ∨ s.f (Fld.PWM_G_PSEL_ACT_PSEL g) = k)))) ∧
    (∃ (s : State) (i : Fin 32768) (g : Fin 4) (k : Nat), 256 ≤ i.val ∧ 0 < k ∧ k < 64 ∧ patHas s k (i.val - 256) = true ∧ s.gMode (axGroup
      g) = 4 ∧ (s.f (Fld.PWM_G_PSEL_PSEL g) = k ∨ s.f (Fld.PWM_G_PSEL_ACT_PSEL g) = k)) ∧
    (∃ (s : State) (g : Fin 4) (ph : Fin 3) (lvl : Nat) (cmds : List (Nat × Bool)), s.gRun (axGroup g) = true ∧ s.gMode (axGroup g) = 4 ∧
      s.f (Fld.PWM_G_PSEL_ACT_PSEL g) ≠ 0 ∧ (s.grp (axGroup g)).patPh.getLsbD ph.val = false ∧ (s.grp (axGroup g)).hovLv[ph.val]? = some (lvl,
      cmds) ∧ lvl < 3) ∧
    (∃ (s : State) (g : Fin 4) (ph : Fin 3), s.gRun (axGroup g) = true ∧ s.gMode (axGroup g) = 4 ∧ s.f (Fld.PWM_G_PSEL_ACT_PSEL g) ≠ 0 ∧
      (s.grp (axGroup g)).patPh.getLsbD ph.val = true ∧ s.dsgRun = false) :=
  ⟨⟨{}, 13, by decide +kernel⟩,
    ⟨{pwm := {chk := some (0, 0x18#32, 0)}}, 44, by decide +kernel⟩,
    ⟨{pwm := {chk := some (24, 2#32, 7)}}, 24, 2#32, 7, by decide +kernel⟩,
    ⟨{}, 256, by exact ⟨by decide, fun g k _ h => absurd h.1 ((by decide +kernel : ∀ g : Fin 4, ({} : State).gMode (axGroup g) ≠ 4) g)⟩⟩,
    ⟨{regs := [(.PWM_G_CFG 0, 4#32), (.PWM_G_PSEL_ACT 0, 8#32)], mem := [(1074135170, 3#8)]}, 258, 0, 8, by decide +kernel⟩,
    ⟨(((({} : State).setF (Fld.PWM_G_STATUS_RUN 0) 1).setF (Fld.PWM_G_CFG_MODE 0) 4).setF (Fld.PWM_G_PSEL_ACT_PSEL 0) 1).modGrp 0 fun r =>
      { r with hovLv := [(1, [(0, true)])] }, 0, 0, 1, [(0, true)], by decide +kernel⟩,
    ⟨{regs := [(.PWM_G_CFG 1, 4#32), (.PWM_G_STATUS 1, 0x10000#32), (.PWM_G_PSEL_ACT 1, 7#32)], pwm := {g := (vset (Vector.replicate 16 {}) 1 {patPh := 4#3})}},
      1, 2, by decide +kernel⟩⟩

theorem witness_ComparatorsAndTouchstone :
    (∃ (s : State) (w : Fin 64), s.dsgRun = false ∧ s.flag (Fld.CMP_WC_STAT_TEST w) = false ∧ s.flag (Fld.CMP_WC_CTL_EN w) = true ∧
      s.cmp.lost = false) ∧
    (∃ (s : State) (w : Fin 64), s.dsgRun = false ∧ s.flag (Fld.CMP_WC_STAT_TEST w) = false ∧ s.flag (Fld.CMP_WC_CTL_EN w) = false) ∧
    (∃ (s : State) (w : Fin 64), s.dsgRun = false ∧ s.flag (Fld.CMP_WC_STAT_TEST w) = true) ∧
    (∃ (s : State) (w : Fin 64), s.dsgRun = false ∧ (¬(s.locked = true ∧ s.flag (Fld.QNC_ROUTE_EN ⟨w.val, by omega⟩) = true))) ∧
    (∃ (s : State) (w : Fin 64), s.dsgRun = false ∧ s.locked = true ∧ s.flag (Fld.QNC_ROUTE_EN ⟨w.val, by omega⟩) = true) ∧
    (∃ (s : State) (w : Fin 64) (due : Nat), s.dsgRun = false ∧ s.cmp.tsDue = some due ∧ s.cmp.sweep = none ∧ s.flag (Fld.CMP_WC_CTL_TS_EN
      w) = true ∧ ((s.cmp.next ≤ w.val ∧ ∀ (m : Fin 64), s.flag (Fld.CMP_WC_CTL_TS_EN m) = true → s.cmp.next ≤ m.val → w ≤ m) ∨ ∀ (m : Fin
      64), s.flag (Fld.CMP_WC_CTL_TS_EN m) = true → m.val < s.cmp.next ∧ w ≤ m)) ∧
    (∃ (s : State) (w : Fin 64) (t0 : Nat), s.dsgRun = false ∧ s.cmp.sweep = some (w, t0)) :=
  ⟨⟨{regs := [(.CMP_WC_CTL 37, 1#32)]}, 37, by decide +kernel⟩,
    ⟨{}, 26, by decide +kernel⟩,
    ⟨{regs := [(.CMP_WC_STAT 32, 0x40000#32)]}, 32, by decide +kernel⟩,
    ⟨{}, 18, by decide +kernel⟩,
    ⟨{regs := [(.SYS_STATE, 0x100#32), (.QNC_ROUTE 63, 0x1000000#32)]}, 63, by decide +kernel⟩,
    ⟨{regs := [(.CMP_WC_CTL 0, 0x2000#32)], cmp := {tsDue := some 29}}, 0, 29, by decide +kernel⟩,
    ⟨{cmp := {sweep := some (44, 1)}}, 44, 1, by decide +kernel⟩⟩

theorem witness_QuenchTripsMasksAndClears :
    (∃ (s : State) (k : Fin 128), s.dsgRun = false ∧ k.val < 112 ∧ (¬(64 ≤ k.val ∧ k.val < 80 ∨ k.val < 64 ∧ s.flag (Fld.CMP_WC_STAT_TEST
      ⟨k.val % 64, by omega⟩) = false ∧ (s.f (Fld.CMP_WC_CTL_QSEL ⟨k.val % 64, by omega⟩) ≠ 1 ∧ s.flag (Fld.CMP_WC_STAT_HI ⟨k.val % 64, by
      omega⟩) = true ∨ s.f (Fld.CMP_WC_CTL_QSEL ⟨k.val % 64, by omega⟩) ≠ 0 ∧ s.flag (Fld.CMP_WC_STAT_LO ⟨k.val % 64, by omega⟩) = true) ∨ 80
      ≤ k.val ∧ s.raw k = true))) ∧
    (∃ (s : State) (k : Fin 128), s.dsgRun = false ∧ k.val < 112 ∧ 64 ≤ k.val ∧ k.val < 80) ∧
    (∃ (s : State) (k : Fin 128), s.dsgRun = false ∧ k.val < 112 ∧ (64 ≤ k.val ∧ k.val < 80 ∨ k.val < 64 ∧ s.flag (Fld.CMP_WC_STAT_TEST
      ⟨k.val % 64, by omega⟩) = false ∧ (s.f (Fld.CMP_WC_CTL_QSEL ⟨k.val % 64, by omega⟩) ≠ 1 ∧ s.flag (Fld.CMP_WC_STAT_HI ⟨k.val % 64, by
      omega⟩) = true ∨ s.f (Fld.CMP_WC_CTL_QSEL ⟨k.val % 64, by omega⟩) ≠ 0 ∧ s.flag (Fld.CMP_WC_STAT_LO ⟨k.val % 64, by omega⟩) = true) ∨ 80
      ≤ k.val ∧ s.raw k = true) ∧ s.flag (Fld.QNC_ROUTE_EN k) = true ∧ s.latch k = false) ∧
    (∃ (s : State) (k : Fin 128), s.dsgRun = false ∧ k.val < 112 ∧ (64 ≤ k.val ∧ k.val < 80 ∨ k.val < 64 ∧ s.flag (Fld.CMP_WC_STAT_TEST
      ⟨k.val % 64, by omega⟩) = false ∧ (s.f (Fld.CMP_WC_CTL_QSEL ⟨k.val % 64, by omega⟩) ≠ 1 ∧ s.flag (Fld.CMP_WC_STAT_HI ⟨k.val % 64, by
      omega⟩) = true ∨ s.f (Fld.CMP_WC_CTL_QSEL ⟨k.val % 64, by omega⟩) ≠ 0 ∧ s.flag (Fld.CMP_WC_STAT_LO ⟨k.val % 64, by omega⟩) = true) ∨ 80
      ≤ k.val ∧ s.raw k = true) ∧ s.flag (Fld.QNC_ROUTE_EN k) = false) ∧
    (∃ (s : State) (g : Fin 16) (due : Nat), s.qnc.due[g] = some due) ∧
    (∃ (s : State) (sel : BitVec 8), s.dsgRun = false ∧ s.flag Fld.QNC_STATUS_SEL_FALLBACK = false ∧ (∀ (n : Fin 4), wGet (BitVec.setWidth
      32 sel) (2 * n.val) 2 ≠ 3)) ∧
    (∃ (s : State) (sel : BitVec 8) (selC : BitVec 8), s.dsgRun = false ∧ s.flag Fld.QNC_STATUS_SEL_FALLBACK = false ∧ (¬(selC = ~~~sel ∧ ∀
      (n : Fin 4), wGet (BitVec.setWidth 32 sel) (2 * n.val) 2 ≠ 3))) ∧
    (∃ (s : State) (crc : Word), s.dsgRun = false ∧ s.locked = true ∧ crc ≠ s.rd Reg.QNC_CRC ∧ s.qnc.crcBad = false) :=
  ⟨⟨{}, 92, by decide +kernel⟩,
    ⟨{}, 65, by decide +kernel⟩,
    ⟨{regs := [(.QNC_RAW 2, 0x40000#32), (.QNC_ROUTE 82, 0x1000000#32)]}, 82, by decide +kernel⟩,
    ⟨{}, 67, by decide +kernel⟩,
    ⟨{qnc := {due := (vset (Vector.replicate 16 none) 3 (some 8388607))}}, 3, 8388607, by decide +kernel⟩,
    ⟨{}, 9#8, by decide +kernel⟩,
    ⟨{}, 3#8, 0x10#8, by decide +kernel⟩,
    ⟨{regs := [(.SYS_STATE, 0x100#32)]}, 3#32, by decide +kernel⟩⟩

theorem witness_AuxiliaryCommandsAndStartSequence :
    (∃ (s : State) (n : Fin 8), s.dsgRun = false ∧ s.auxSt n = auxOff ∧ s.dev ≠ devBoot ∧ s.dev ≠ devFault ∧ s.gMode (auxGroup n) = 5 ∧
      s.gRun (auxGroup n) = true ∧ s.rd (Reg.PWM_G_OUT_EN (auxGroup n)) = 63#32 ∧ s.flag (Fld.QNC_G_STATE_TRIPPED (auxGroup n)) = false) ∧
    (∃ (s : State) (n : Fin 8), s.dsgRun = false ∧ (¬(s.auxSt n = auxOff ∧ s.dev ≠ devBoot ∧ s.dev ≠ devFault ∧ s.gMode (auxGroup n) = 5 ∧
      s.gRun (auxGroup n) = true ∧ s.rd (Reg.PWM_G_OUT_EN (auxGroup n)) = 63#32 ∧ s.flag (Fld.QNC_G_STATE_TRIPPED (auxGroup n)) = false))) ∧
    (∃ (s : State) (n : Fin 8), s.dsgRun = false ∧ s.auxSt n ≠ auxOff ∧ s.auxSt n ≠ auxFault) ∧
    (∃ (s : State) (n : Fin 8), s.dsgRun = false ∧ (s.auxSt n = auxOff ∨ s.auxSt n = auxFault)) ∧
    (∃ (s : State) (n : Fin 8), s.dsgRun = false ∧ s.auxSt n = auxFault ∧ s.flag (Fld.QNC_G_STATE_TRIPPED (auxGroup n)) = false) ∧
    (∃ (s : State) (n : Fin 8), s.dsgRun = false ∧ (s.auxSt n ≠ auxFault ∨ s.flag (Fld.QNC_G_STATE_TRIPPED (auxGroup n)) = true)) ∧
    (∃ (s : State) (n : Fin 8), s.dsgRun = false ∧ s.auxSt n = auxListen ∧ s.aux[n].sync = false ∧ s.aux[n].staying = false) ∧
    (∃ (s : State) (n : Fin 8), s.dsgRun = false ∧ s.auxSt n = auxCoast ∧ s.aux[n].sync = false ∧ s.aux[n].staying = false) ∧
    (∃ (s : State) (n : Fin 8), s.dsgRun = false ∧ s.aux[n].staying = true ∧ s.aux[n].sync = false) ∧
    (∃ (s : State) (n : Fin 8), s.dsgRun = false ∧ s.auxSt n = auxBrake ∧ s.aux[n].listening = false) ∧
    (∃ (s : State) (n : Fin 8), s.dsgRun = false ∧ s.auxSt n = auxBrake ∧ s.aux[n].listening = true) ∧
    (∃ (s : State) (n : Fin 8), s.dsgRun = false ∧ s.auxSt n = auxAlign) ∧
    (∃ (s : State) (n : Fin 8), s.dsgRun = false ∧ s.auxSt n = auxRamp) ∧
    (∃ (s : State) (n : Fin 8), s.dsgRun = false ∧ s.auxSt n = auxRun ∧ s.aux[n].tz / 16 + 3 * auxTs s n / 2 ≤ s.aux[n].runCyc + s.f
      (Fld.AUX_CH_SPD_RUN_OK n) * 60000000) ∧
    (∃ (s : State) (n : Fin 8), s.dsgRun = false ∧ s.auxSt n = auxRun ∧ s.aux[n].runCyc + s.f (Fld.AUX_CH_SPD_RUN_OK n) * 60000000 <
      s.aux[n].tz / 16 + 3 * auxTs s n / 2) :=
  ⟨⟨{regs := [(.SYS_STATE, 2#32), (.PWM_G_CFG 11, 0x85#32), (.PWM_G_STATUS 11, 0x10000#32), (.PWM_G_OUT_EN 11, 0x3f#32)]}, 5, by
      decide +kernel⟩,
    ⟨{}, 0, by decide +kernel⟩,
    ⟨{regs := [(.AUX_CH_STATUS 0, 0x10000#32)]}, 0, by decide +kernel⟩,
    ⟨{}, 0, by decide +kernel⟩,
    ⟨{regs := [(.AUX_CH_STATUS 2, 0x70000#32)]}, 2, by decide +kernel⟩,
    ⟨{}, 4, by decide +kernel⟩,
    ⟨{regs := [(.AUX_CH_STATUS 1, 0x10000#32)]}, 1, by decide +kernel⟩,
    ⟨{regs := [(.AUX_CH_STATUS 7, 0x60000#32)]}, 7, by decide +kernel⟩,
    ⟨{aux := (vset (Vector.replicate 8 {}) 0 {staying := true})}, 0, by decide +kernel⟩,
    ⟨{regs := [(.AUX_CH_STATUS 4, 0x20000#32)]}, 4, by decide +kernel⟩,
    ⟨{regs := [(.AUX_CH_STATUS 1, 0x20000#32)], aux := (vset (Vector.replicate 8 {}) 1 {listening := true})}, 1, by decide +kernel⟩,
    ⟨{regs := [(.AUX_CH_STATUS 4, 0x30000#32)]}, 4, by decide +kernel⟩,
    ⟨{regs := [(.AUX_CH_STATUS 4, 0x40000#32)]}, 4, by decide +kernel⟩,
    ⟨{regs := [(.AUX_CH_STATUS 2, 0x50000#32)]}, 2, by decide +kernel⟩,
    ⟨((({} : State).modAux 0 fun a => { a with tz := 16000000000 }).setF (Fld.AUX_CH_STATUS_STATE 0) auxRun).setF (Fld.AUX_CH_SPD_RUN_OK 0)
      1, 0, by decide +kernel⟩⟩

theorem witness_AuxiliaryCrossingsCommutationsAndPeaks :
    (∃ (s : State) (n : Fin 8) (ph : Fin 3) (level : Bool) (tap : Nat) (k : Nat), s.dsgRun = false ∧ s.aux[n].level.getLsbD ph.val ≠ level ∧
      s.aux[n].tk = some k ∧ k ≤ zcTaken s n tap ∧ s.auxSt n = auxRun) ∧
    (∃ (s : State) (n : Fin 8) (ph : Fin 3) (level : Bool) (tap : Nat) (x : Crossing), s.dsgRun = false ∧ s.aux[n].level.getLsbD ph.val ≠
      level ∧ s.aux[n].sync = false ∧ (∀ (k : Nat), s.aux[n].tk = some k → zcTaken s n tap < k) ∧ (↑x.phase : Nat) = auxPhase s n ph.val ∧
      x.rising = level ∧ x.stamp = tap ∧ auxPhase s n ph.val = (sectorPhases (s.f (Fld.AUX_CH_STATUS_SECTOR n))).2.2 ∧ forwardSector x ≠ s.f
      (Fld.AUX_CH_STATUS_SECTOR n) ∧ (s.auxSt n = auxRun ∨ s.auxSt n = auxRamp)) ∧
    (∃ (s : State) (n : Fin 8) (ph : Fin 3) (level : Bool) (tap : Nat) (x : Crossing), s.dsgRun = false ∧ s.aux[n].level.getLsbD ph.val ≠
      level ∧ s.aux[n].sync = false ∧ (∀ (k : Nat), s.aux[n].tk = some k → zcTaken s n tap < k) ∧ (↑x.phase : Nat) = auxPhase s n ph.val ∧
      x.rising = level ∧ x.stamp = tap ∧ auxPhase s n ph.val = (sectorPhases (s.f (Fld.AUX_CH_STATUS_SECTOR n))).2.2 ∧ forwardSector x = s.f
      (Fld.AUX_CH_STATUS_SECTOR n) ∧ s.auxSt n = auxRun ∧ s.aux[n].blankEnd ≤ zcTaken s n tap ∧ s.aux[n].blankFrom < zcTaken s n tap ∧
      s.aux[n].blankEnd ≤ tap / 16 ∧ s.aux[n].needReturn = false ∧ s.aux[n].took = false ∧ s.aux[n].tz ≤ tap ∧ (tap - s.aux[n].tz) / 16 < 2 ^
      32) ∧
    (∃ (s : State) (n : Fin 8) (ph : Fin 3) (level : Bool) (tap : Nat) (x : Crossing), s.dsgRun = false ∧ s.aux[n].level.getLsbD ph.val ≠
      level ∧ s.aux[n].sync = false ∧ (∀ (k : Nat), s.aux[n].tk = some k → zcTaken s n tap < k) ∧ (↑x.phase : Nat) = auxPhase s n ph.val ∧
      x.rising = level ∧ x.stamp = tap ∧ auxPhase s n ph.val = (sectorPhases (s.f (Fld.AUX_CH_STATUS_SECTOR n))).2.2 ∧ forwardSector x = s.f
      (Fld.AUX_CH_STATUS_SECTOR n) ∧ s.auxSt n = auxRamp ∧ s.aux[n].blankEnd ≤ zcTaken s n tap ∧ s.aux[n].blankFrom < zcTaken s n tap ∧
      s.aux[n].blankEnd ≤ tap / 16 ∧ s.aux[n].needReturn = false ∧ s.aux[n].took = false) ∧
    (∃ (s : State) (n : Fin 8) (ph : Fin 3) (level : Bool) (tap : Nat) (x : Crossing), s.dsgRun = false ∧ s.aux[n].level.getLsbD ph.val ≠
      level ∧ s.aux[n].sync = false ∧ (∀ (k : Nat), s.aux[n].tk = some k → zcTaken s n tap < k) ∧ (↑x.phase : Nat) = auxPhase s n ph.val ∧
      x.rising = level ∧ x.stamp = tap ∧ auxPhase s n ph.val = (sectorPhases (s.f (Fld.AUX_CH_STATUS_SECTOR n))).2.2 ∧ forwardSector x = s.f
      (Fld.AUX_CH_STATUS_SECTOR n) ∧ (s.auxSt n = auxRun ∨ s.auxSt n = auxRamp) ∧ (¬(s.aux[n].blankEnd ≤ zcTaken s n tap ∧ s.aux[n].blankFrom
      < zcTaken s n tap ∧ s.aux[n].blankEnd ≤ tap / 16 ∧ s.aux[n].needReturn = false ∧ s.aux[n].took = false))) ∧
    (∃ (s : State) (n : Fin 8) (ph : Fin 3) (level : Bool) (tap : Nat) (x : Crossing) (y : Crossing) (xs : List Crossing), s.dsgRun = false
      ∧ s.aux[n].level.getLsbD ph.val ≠ level ∧ s.aux[n].sync = false ∧ (∀ (k : Nat), s.aux[n].tk = some k → zcTaken s n tap < k) ∧ (↑x.phase
      : Nat) = auxPhase s n ph.val ∧ x.rising = level ∧ x.stamp = tap ∧ s.aux[n].xs = y :: xs ∧ (s.auxSt n = auxListen ∨ s.auxSt n = auxCoast
      ∨ s.auxSt n = auxBrake ∧ s.aux[n].listening = true) ∧ y.stamp ≤ tap ∧ (tap - y.stamp) / 16 < 2 ^ 32) ∧
    (∃ (s : State) (n : Fin 8), s.dsgRun = false ∧ (s.auxSt n = auxRamp ∨ s.auxSt n = auxRun)) ∧
    (∃ (s : State) (n : Fin 8) (uv : Nat), s.dsgRun = false ∧ s.flag (Fld.AUX_CH_CTL_PK_SRC n) = false ∧ (decide (s.f (Fld.AUX_CH_IPK_TH n)
      * 3200 < uv ∨ s.aux[n].own = true ∧ s.f (Fld.AUX_CH_IPK_TH n) * 3200 ≤ uv +
      match s.f (Fld.AUX_CH_IPK_HYS n) with | 0 => 0 | 1 => 10000 | 2 => 20000 | x => 40000) = true) ∧ s.aux[n].peak = false) ∧
    (∃ (s : State) (n : Fin 8) (uv : Nat), s.dsgRun = false ∧ s.flag (Fld.AUX_CH_CTL_PK_SRC n) = false ∧ (decide (s.f (Fld.AUX_CH_IPK_TH n)
      * 3200 < uv ∨ s.aux[n].own = true ∧ s.f (Fld.AUX_CH_IPK_TH n) * 3200 ≤ uv +
      match s.f (Fld.AUX_CH_IPK_HYS n) with | 0 => 0 | 1 => 10000 | 2 => 20000 | x => 40000) = false) ∧ s.aux[n].peak = true) ∧
    (∃ (s : State) (n : Fin 8) (uv : Nat), s.dsgRun = false ∧ s.flag (Fld.AUX_CH_CTL_PK_SRC n) = false ∧ (decide (s.f (Fld.AUX_CH_IPK_TH n)
      * 3200 < uv ∨ s.aux[n].own = true ∧ s.f (Fld.AUX_CH_IPK_TH n) * 3200 ≤ uv +
      match s.f (Fld.AUX_CH_IPK_HYS n) with | 0 => 0 | 1 => 10000 | 2 => 20000 | x => 40000) = s.aux[n].peak)) ∧
    (∃ (s : State) (n : Fin 8) (tap : Nat) (rst : List (Bool × Nat)), s.dsgRun = false ∧ s.flag (Fld.AUX_CH_CTL_PK_SRC n) = true ∧
      s.aux[n].pkEv = (true, tap) :: rst ∧ s.aux[n].peak = false) :=
  ⟨⟨{regs := [(.AUX_CH_STATUS 0, 0x50000#32)], aux := (vset (Vector.replicate 8 {}) 0 {tk := some 6})}, 0, 2, true, 1, 6, by
      decide +kernel⟩,
    ⟨{regs := [(.AUX_CH_STATUS 2, 0x3c0000#32)]}, 2, 0, true, 20, { phase := 0, rising := true, stamp := 20 }, by decide +kernel⟩,
    ⟨{regs := [(.AUX_CH_STATUS 7, 0xd0000#32)]}, 7, 1, true, 2, { phase := 1, rising := true, stamp := 2 }, by decide +kernel⟩,
    ⟨{regs := [(.AUX_CH_STATUS 1, 0x40000#32)], aux := (vset (Vector.replicate 8 {}) 1 {level := 4#3})}, 1, 2, false, 7,
      { phase := 2, rising := false, stamp := 7 }, by decide +kernel⟩,
    ⟨{regs := [(.AUX_CH_STATUS 3, 0xd0000#32)], aux := (vset (Vector.replicate 8 {}) 3 {needReturn := true})}, 3, 1, true, 520337282,
      { phase := 1, rising := true, stamp := 520337282 }, by decide +kernel⟩,
    ⟨{regs := [(.AUX_CH_STATUS 7, 0x20000#32)], aux := (vset (Vector.replicate 8 {}) 7 {xs := [{ phase := 1, rising := false, stamp := 27 }, { phase := 1, rising := false, stamp := 1 }, { phase := 0, rising := false, stamp := 5 }, { phase := 1, rising := false, stamp := 5 }], listening := true})},
      7, 0, true, 68, { phase := 0, rising := true, stamp := 68 }, { phase := 1, rising := false, stamp := 27 },
      [{ phase := 1, rising := false, stamp := 1 }, { phase := 0, rising := false, stamp := 5 }, { phase := 1, rising := false, stamp := 5 }],
      by decide +kernel⟩,
    ⟨{regs := [(.AUX_CH_STATUS 6, 0x50000#32)]}, 6, by decide +kernel⟩,
    ⟨{regs := [(.AUX_CH_IPK 6, 0x780001#32)]}, 6, 4523, by decide +kernel⟩,
    ⟨{aux := (vset (Vector.replicate 8 {}) 6 {peak := true})}, 6, 5, by decide +kernel⟩,
    ⟨{aux := (vset (Vector.replicate 8 {}) 0 {peak := true})}, 0, 272567322, by decide +kernel⟩,
    ⟨{regs := [(.AUX_CH_CTL 1, 8#32)], aux := (vset (Vector.replicate 8 {}) 1 {pkEv := [(true, 3), (true, 78), (false, 1)]})}, 1, 3, [(true,
      78), (false, 1)], by decide +kernel⟩⟩

theorem witness_PrechargeSequencer :
    (∃ (s : State), (s.dev = devStandby ∨ s.dev = devArmed) ∧ s.pch = pchOpen ∧ (s.dsg = 0 ∨ s.dsg = 4)) ∧
    (∃ (s : State) (key : BitVec 16), (¬(key = 23235#16 ∧ (s.dev = devStandby ∨ s.dev = devArmed) ∧ s.pch = pchOpen ∧ (s.dsg = 0 ∨ s.dsg =
      4)))) ∧
    (∃ (s : State), s.dev ≠ devRun) ∧
    (∃ (s : State) (key : BitVec 16), (¬(key = 23235#16 ∧ s.dev ≠ devRun))) ∧
    (∃ (s : State), (s.pch = pchPrecharging ∨ s.pch = pchClosing) ∧ (∀ (v : Nat), (s.advance (s.dcl.pchT0 + s.f Fld.PWM_DSC_PCH_TIME_T_RISE
      * 6000000)).linkV = some v → v < s.f Fld.PWM_DSC_PCH_V_V_MIN1 * 2 ^ 22) ∧ s.dsgRun = false) ∧
    (∃ (s : State), (s.pch = pchPrecharging ∨ s.pch = pchClosing) ∧ (¬∀ (v : Nat), (s.advance (s.dcl.pchT0 + s.f Fld.PWM_DSC_PCH_TIME_T_RISE
      * 6000000)).linkV = some v → v < s.f Fld.PWM_DSC_PCH_V_V_MIN1 * 2 ^ 22)) ∧
    (∃ (s : State), s.pch = pchPrecharging ∧ s.dsgRun = false) ∧
    (∃ (s : State), s.pch = pchClosing ∧ s.dcl.pre = true) ∧
    (∃ (s : State), s.pch = pchClosing ∧ (∃ l b, (s.advance (s.dcl.pchT1 + (s.f Fld.PWM_DSC_PCH_TIME_T_OVL + 20) * 600000)).linkV = some l ∧
      (s.advance (s.dcl.pchT1 + (s.f Fld.PWM_DSC_PCH_TIME_T_OVL + 20) * 600000)).busV = some b ∧ b ≤ l + s.f Fld.PWM_DSC_PCH_V_DV_CLOSE * 2 ^
      22 ∧ l ≤ b + s.f Fld.PWM_DSC_PCH_V_DV_CLOSE * 2 ^ 22) ∧ (s.flag Fld.PWM_DSC_PCH_CFG_FB_EN = true → contactClosed s = true)) ∧
    (∃ (s : State), s.pch = pchClosing ∧ (¬((∃ l b, (s.advance (s.dcl.pchT1 + (s.f Fld.PWM_DSC_PCH_TIME_T_OVL + 20) * 600000)).linkV = some
      l ∧ (s.advance (s.dcl.pchT1 + (s.f Fld.PWM_DSC_PCH_TIME_T_OVL + 20) * 600000)).busV = some b ∧ b ≤ l + s.f Fld.PWM_DSC_PCH_V_DV_CLOSE *
      2 ^ 22 ∧ l ≤ b + s.f Fld.PWM_DSC_PCH_V_DV_CLOSE * 2 ^ 22) ∧ (s.flag Fld.PWM_DSC_PCH_CFG_FB_EN = true → contactClosed s = true))) ∧
      s.dsgRun = false) ∧
    (∃ (s : State) (t0 : Nat), s.dcl.openAt = some t0 ∧ s.pch = pchClosed ∧ s.flag Fld.PWM_DSC_PCH_CFG_FB_EN = true ∧ s.dsgRun = false ∧
      devConfig ≤ s.dev ∧ s.dev ≤ devRun) ∧
    (∃ (s : State) (c : Nat) (t0 : Nat), s.dcl.link = some (c, t0)) ∧
    (∃ (s : State) (c : Nat) (t0 : Nat), s.dcl.bus = some (c, t0)) :=
  ⟨⟨{regs := [(.SYS_STATE, 3#32)]}, by decide +kernel⟩,
    ⟨{}, 2#16, by decide +kernel⟩,
    ⟨{}, by decide +kernel⟩,
    ⟨{}, 0xc3a5#16, by decide +kernel⟩,
    ⟨{regs := [(.PWM_DSC_PCH_STAT, 0x200#32)]}, by decide +kernel⟩,
    ⟨{regs := [(.PWM_DSC_PCH_TIME, 0x323200#32), (.PWM_DSC_PCH_STAT, 0x100#32)], dcl := {link := some (785294, 32754024)}}, by
      decide +kernel⟩,
    ⟨{regs := [(.PWM_DSC_PCH_STAT, 0x100#32)]}, by decide +kernel⟩,
    ⟨{regs := [(.PWM_DSC_PCH_STAT, 0x200#32)], dcl := {pre := true}}, by decide +kernel⟩,
    ⟨({ dcl := { link := some (0, 1000000000), bus := some (0, 1000000000) } } : State).setF Fld.PWM_DSC_PCH_STAT_PCH_STATE pchClosing, by
      exact ⟨by decide +kernel, ⟨0, 0, by decide +kernel⟩, by decide +kernel⟩⟩,
    ⟨({} : State).setF Fld.PWM_DSC_PCH_STAT_PCH_STATE pchClosing, by exact ⟨by decide +kernel, fun h => h.1.elim fun l h => h.elim fun b h
      => (nomatch (show (none : Option Nat) = some l from h.1)), by decide +kernel⟩⟩,
    ⟨{regs := [(.SYS_STATE, 3#32), (.PWM_DSC_PCH_CFG, 0x3022100#32), (.PWM_DSC_PCH_STAT, 0x300#32)], dcl := {openAt := some 2}}, 2, by
      decide +kernel⟩,
    ⟨{dcl := {link := some (66604, 18)}}, 66604, 18, by decide +kernel⟩,
    ⟨{dcl := {bus := some (6, 34)}}, 6, 34, by decide +kernel⟩⟩

theorem witness_DischargeSequencer :
    (∃ (s : State), s.dsgRun = false ∧ (s.dev = devArmed ∨ s.dev = devRun ∨ s.dev = devSafe ∨ s.dev = devFault)) ∧
    (∃ (s : State), s.dsgRun = true ∧ s.dcl.dsgT0 / 4 = s.perCycle) ∧
    (∃ (s : State) (key : BitVec 16), (¬(key = 42330#16 ∧ s.dsgRun = false ∧ (s.dev = devArmed ∨ s.dev = devRun ∨ s.dev = devSafe ∨ s.dev =
      devFault))) ∧ (¬(key = 42330#16 ∧ s.dsgRun = true ∧ s.dcl.dsgT0 / 4 = s.perCycle))) ∧
    (∃ (s : State), s.dsg = 1 ∧ if s.f Fld.PWM_DSC_DSG_CFG_FIRST = 0 then s.f Fld.PWM_DSC_DSG_CFG_DSC_MASK ≠ 0 else s.flag
      Fld.PWM_DSC_DSG_CFG_WIND_EN = true ∧ s.dev = devRun ∧ s.axis ⟨s.f Fld.PWM_DSC_DSG_CFG_WAX % 4, by omega⟩ = axRun) ∧
    (∃ (s : State), s.dsg = 1 ∧ (¬if s.f Fld.PWM_DSC_DSG_CFG_FIRST = 0 then s.f Fld.PWM_DSC_DSG_CFG_DSC_MASK ≠ 0 else s.flag
      Fld.PWM_DSC_DSG_CFG_WIND_EN = true ∧ s.dev = devRun ∧ s.axis ⟨s.f Fld.PWM_DSC_DSG_CFG_WAX % 4, by omega⟩ = axRun)) ∧
    (∃ (s : State), (s.dsg = 2 ∨ s.dsg = 3) ∧ linkDone (s.advance (s.dcl.methT0 + s.f Fld.PWM_DSC_DSG_CFG_T_CHK * 6000000)) (max s.time
      (s.dcl.methT0 + s.f Fld.PWM_DSC_DSG_CFG_T_CHK * 6000000)) = true) ∧
    (∃ (s : State) (x : Int), (s.dsg = 2 ∨ s.dsg = 3) ∧ linkDone (s.advance (s.dcl.methT0 + s.f Fld.PWM_DSC_DSG_CFG_T_CHK * 6000000)) (max
      s.time (s.dcl.methT0 + s.f Fld.PWM_DSC_DSG_CFG_T_CHK * 6000000)) = false ∧ (∃ x p, (Option.map (fun v => v - (↑(s.f
      Fld.PWM_DSC_DSG_TGT_V_T) : Int) * 2 ^ 22) ((s.advance (s.dcl.methT0 + s.f Fld.PWM_DSC_DSG_CFG_T_CHK * 6000000)).linkV >>= fun a => pure
      (a : Int))) = some x ∧ s.dcl.ePrev = some p ∧ x * 256 ≤ (↑(s.f Fld.PWM_DSC_DSG_CFG_RATIO) : Int) * p) ∧ (Option.map (fun v => v - (↑(s.f
      Fld.PWM_DSC_DSG_TGT_V_T) : Int) * 2 ^ 22) ((s.advance (s.dcl.methT0 + s.f Fld.PWM_DSC_DSG_CFG_T_CHK * 6000000)).linkV >>= fun a => pure
      (a : Int))) = some x) ∧
    (∃ (s : State), (s.dsg = 2 ∨ s.dsg = 3) ∧ linkDone (s.advance (s.dcl.methT0 + s.f Fld.PWM_DSC_DSG_CFG_T_CHK * 6000000)) (max s.time
      (s.dcl.methT0 + s.f Fld.PWM_DSC_DSG_CFG_T_CHK * 6000000)) = false ∧ (¬∃ x p, (Option.map (fun v => v - (↑(s.f Fld.PWM_DSC_DSG_TGT_V_T) :
      Int) * 2 ^ 22) ((s.advance (s.dcl.methT0 + s.f Fld.PWM_DSC_DSG_CFG_T_CHK * 6000000)).linkV >>= fun a => pure (a : Int))) = some x ∧
      s.dcl.ePrev = some p ∧ x * 256 ≤ (↑(s.f Fld.PWM_DSC_DSG_CFG_RATIO) : Int) * p)) ∧
    (∃ (s : State), s.dsgRun = true ∧ (¬(linkDone (s.advance (s.dcl.dsgT0 + s.f Fld.PWM_DSC_DSG_TGT_TMAX * 6000000)) (max s.time
      (s.dcl.dsgT0 + s.f Fld.PWM_DSC_DSG_TGT_TMAX * 6000000)) = true ∨ ∃ v, (s.advance (s.dcl.dsgT0 + s.f Fld.PWM_DSC_DSG_TGT_TMAX *
      6000000)).linkV = some v ∧ v ≤ s.f Fld.PWM_DSC_DSG_TGT_V_T * 2 ^ 22))) ∧
    (∃ (s : State), s.dsgRun = true ∧ (linkDone (s.advance (s.dcl.dsgT0 + s.f Fld.PWM_DSC_DSG_TGT_TMAX * 6000000)) (max s.time (s.dcl.dsgT0
      + s.f Fld.PWM_DSC_DSG_TGT_TMAX * 6000000)) = true ∨ ∃ v, (s.advance (s.dcl.dsgT0 + s.f Fld.PWM_DSC_DSG_TGT_TMAX * 6000000)).linkV = some
      v ∧ v ≤ s.f Fld.PWM_DSC_DSG_TGT_V_T * 2 ^ 22)) :=
  ⟨⟨{regs := [(.SYS_STATE, 3#32)]}, by decide +kernel⟩,
    ⟨{regs := [(.PWM_DSC_DSG_STAT, 0x100#32)]}, by decide +kernel⟩,
    ⟨{}, 0#16, by decide +kernel⟩,
    ⟨{regs := [(.PWM_DSC_DSG_STAT, 0x100#32)]}, by decide +kernel⟩,
    ⟨{regs := [(.PWM_DSC_DSG_CFG, 0x1e0acd00#32), (.PWM_DSC_DSG_STAT, 0x100#32)]}, by decide +kernel⟩,
    ⟨((({ dcl := { methT0 := 20 }, mcv := { ch := vset (Vector.replicate 4 {}) 0 { out := [{ ch := 0, code := 0, ovr := false, unset := false, inj := false, mains := false, last := false, read := none, t0 := 0 }] } } }
      : State).setF Fld.PWM_DSC_DSG_CFG_T_CHK 0).setF Fld.PWM_DSC_DSG_STAT_DSG_STATE 2), by decide +kernel⟩,
    ⟨((({ dcl := { link := some (0, 1000000000), ePrev := some 0 } } : State).setF Fld.PWM_DSC_DSG_STAT_DSG_STATE 2).setF
      Fld.PWM_DSC_DSG_TGT_V_T 0), 0, by exact ⟨by decide +kernel, by decide +kernel, ⟨0, 0, by decide +kernel⟩, by decide +kernel⟩⟩,
    ⟨({} : State).setF Fld.PWM_DSC_DSG_STAT_DSG_STATE 2, by exact ⟨by decide +kernel, by decide +kernel, fun h => h.elim fun _ h => h.elim
      fun p h => nomatch (show (none : Option Int) = some p from h.2.1)⟩⟩,
    ⟨{regs := [(.PWM_DSC_DSG_STAT, 0x200#32)]}, by decide +kernel⟩,
    ⟨{regs := [(.PWM_DSC_DSG_TGT, 0x5ffff#32), (.PWM_DSC_DSG_STAT, 0x200#32)], dcl := {link := some (2460367, 69123994)}}, by
      decide +kernel⟩⟩

theorem witness_AnvilStoSafetyPortAndLockCheck :
    (∃ (s : State) (t0 : Nat), s.dsgRun = false ∧ s.anv.disc = some t0 ∧ s.flag Fld.ANV_STATUS_DISC = false) ∧
    (∃ (s : State) (clocks : Nat), s.dsgRun = false ∧ s.anv.failed = false ∧ clocks ≠ 64) ∧
    (∃ (s : State) (seq : BitVec 8) (data : Word) (crc : BitVec 16) (cmd : BitVec 8), s.dsgRun = false ∧ s.anv.failed = false ∧ crc ≠
      sspiCrc cmd seq data) ∧
    (∃ (s : State) (seq : BitVec 8) (q : BitVec 8), s.dsgRun = false ∧ s.anv.failed = false ∧ s.anv.seq = some q ∧ seq ≠ q + 1#8) ∧
    (∃ (s : State) (seq : BitVec 8) (data : Word) (crc : BitVec 16) (clocks : Nat) (cmd : BitVec 8), s.dsgRun = false ∧ s.anv.failed = false
      ∧ sspiGood s cmd seq data crc clocks ∧ cmd ≠ 1#8 ∧ cmd ≠ 16#8 ∧ cmd ≠ 32#8 ∧ cmd ≠ 48#8) ∧
    (∃ (s : State) (seq : BitVec 8) (data : Word) (crc : BitVec 16) (clocks : Nat), s.dsgRun = false ∧ sspiGood s (1#8) seq data crc clocks) ∧
    (∃ (s : State) (seq : BitVec 8) (data : Word) (crc : BitVec 16) (clocks : Nat), s.dsgRun = false ∧ sspiGood s (16#8) seq data crc
      clocks) ∧
    (∃ (s : State) (seq : BitVec 8) (data : Word) (crc : BitVec 16) (clocks : Nat), s.dsgRun = false ∧ sspiGood s (32#8) seq data crc
      clocks) ∧
    (∃ (s : State) (seq : BitVec 8) (crc : BitVec 16) (clocks : Nat), s.dsgRun = false ∧ sspiGood s (48#8) seq (23205#32) crc clocks) ∧
    (∃ (s : State) (seq : BitVec 8) (data : Word) (crc : BitVec 16) (clocks : Nat), s.dsgRun = false ∧ sspiGood s (48#8) seq data crc clocks
      ∧ data ≠ 23205#32) ∧
    (∃ (s : State), s.dsgRun = false ∧ s.locked = true ∧ s.flag Fld.ANV_PSTAT_DONE = false ∧ s.anv.failed = false) ∧
    (∃ (s : State) (crc : Word), s.dsgRun = false ∧ s.flag Fld.ANV_PSTAT_DONE = true ∧ s.anv.failed = false ∧ s.flag Fld.ANV_PSTAT_COPY_ERR
      = false ∧ crc ≠ s.rd Reg.ANV_PCRC) :=
  ⟨⟨{anv := {disc := some 525630723}}, 525630723, by decide +kernel⟩,
    ⟨{}, 0, by decide +kernel⟩,
    ⟨{}, 3#8, 0x7000c#32, 0x67e8#16, 0xff#8, by decide +kernel⟩,
    ⟨{anv := {seq := some 1#8}}, 0xff#8, 1#8, by decide +kernel⟩,
    ⟨{}, 1#8, 0xffffffff#32, 0x6931#16, 64, 0xff#8, by unfold sspiGood; decide +kernel⟩,
    ⟨{}, 3#8, 0x30#32, 0x9331#16, 64, by unfold sspiGood; decide +kernel⟩,
    ⟨{}, 0xcd#8, 2#32, 0x2614#16, 64, by unfold sspiGood; decide +kernel⟩,
    ⟨{}, 3#8, 0x1f#32, 0x3614#16, 64, by unfold sspiGood; decide +kernel⟩,
    ⟨{}, 2#8, 0x6124#16, 64, by unfold sspiGood; decide +kernel⟩,
    ⟨{}, 2#8, 0x4000000#32, 0xafee#16, 64, by unfold sspiGood; decide +kernel⟩,
    ⟨{regs := [(.SYS_STATE, 0x100#32)]}, by decide +kernel⟩,
    ⟨{regs := [(.ANV_PSTAT, 1#32)]}, 0xde31996b#32, by decide +kernel⟩⟩

theorem witness_AnvilMonitoringCycleAndFailures :
    (∃ (s : State), s.dsgRun = false ∧ s.anv.failed = false) ∧
    (∃ (s : State), s.dsgRun = false ∧ s.anvLive = true ∧ s.sv ≠ svInit ∧ s.f Fld.ANV_WD_T_WD ≠ 0 ∧ s.anv.wdOut = false) ∧
    (∃ (s : State) (k : Fin 2), s.dsgRun = false ∧ s.anvLive = true ∧ (sbcFb s k).2 = true ∧ (s.f Fld.ANV_SBC_STAT_MISM).testBit k.val =
      false ∧ (sbcFb s k).1 ≠ sbcOut s k) ∧
    (∃ (s : State) (k : Fin 2), s.dsgRun = false ∧ s.anvLive = true ∧ (sbcFb s k).2 = true ∧ (s.f Fld.ANV_SBC_STAT_MISM).testBit k.val =
      false ∧ (sbcFb s k).1 = sbcOut s k) :=
  ⟨⟨{}, by decide +kernel⟩,
    ⟨{regs := [(.ANV_STATUS, 4#32), (.ANV_WD, 0xd020d02#32), (.ANV_PSTAT, 1#32)]}, by decide +kernel⟩,
    ⟨(({ sys := { sync := 1#32 } } : State).setF Fld.ANV_PSTAT_DONE 1).setF Fld.ANV_SBC_FB_EN0 1, 0, by decide +kernel⟩,
    ⟨{regs := [(.ANV_SBC, 0x32000110#32), (.ANV_PSTAT, 1#32)]}, 0, by decide +kernel⟩⟩

theorem witness_LockstepMismatchesAndPortReads :
    (∃ (s : State) (p : Fin 25), s.compared p = false) ∧
    (∃ (s : State) (p : Fin 25), s.compared p = true) ∧
    (∃ (s : State) (c : Nat), s.asy.srcTill = some c) ∧
    (∃ (s : State) (d : BitVec 5) (a : BitVec 5) (v : BitVec 16) (tries : Fin 5) (port : Nat) (flt : Bool), s.ready 24 = true ∧ nextOp s 24
      = some (if flt = true then CoreOp.flw d a v else CoreOp.load LoadOp.lw d a v) ∧ BitVec.toNat ((s.copyOf 24 false).rx a +
      BitVec.signExtend 32 v) % 4 = 0 ∧ asyncPort (BitVec.toNat ((s.copyOf 24 false).rx a + BitVec.signExtend 32 v)) = some port ∧ tries.val <
      4) ∧
    (∃ (s : State) (d : BitVec 5) (a : BitVec 5) (v : BitVec 16) (port : Nat) (flt : Bool), s.ready 24 = true ∧ nextOp s 24 = some (if flt =
      true then CoreOp.flw d a v else CoreOp.load LoadOp.lw d a v) ∧ BitVec.toNat ((s.copyOf 24 false).rx a + BitVec.signExtend 32 v) % 4 = 0
      ∧ asyncPort (BitVec.toNat ((s.copyOf 24 false).rx a + BitVec.signExtend 32 v)) = some port) :=
  ⟨⟨{}, 9, by decide +kernel⟩,
    ⟨{}, 24, by decide +kernel⟩,
    ⟨{asy := {srcTill := some 40}}, 40, by decide +kernel⟩,
    ⟨{mem := [(134217812, 0x18#8), (134217813, 0x85#8), (134217814, 0x1c#8), (134217815, 9#8)], running := true, ken := {lead := {x := (vset (Vector.replicate 32 0#32) 16 0x400f0544#32), pc := 0x8000054#32}}},
      0x14#5, 0x10#5, 0x91c#16, 2, 1, true, by decide +kernel⟩,
    ⟨{mem := [(134217928, 0x18#8), (134217929, 0x55#8), (134217930, 0x24#8)], running := true, ken := {lead := {x := (vset (Vector.replicate 32 0#32) 10 0x400f0990#32), pc := 0x80000c8#32}}},
      0x14#5, 0xa#5, 0x24#16, 1, true, by decide +kernel⟩⟩

theorem witness_DebugHaltsAndTheJtagPort :
    (∃ (s : State) (p : Fin 25), s.dsgRun = false ∧ s.flag Fld.SYS_STRAP_DBG = true ∧ s.pairUp p = true ∧ s.isHalted p = false ∧ s.dev ≠
      devBoot ∧ (¬(s.atWrite.asy.misCyc = some s.atWrite.time ∧ s.atWrite.f Fld.ASY_MIS_LAST_PAIR = p.val))) ∧
    (∃ (s : State) (p : Fin 25), s.dsgRun = false ∧ s.flag Fld.SYS_STRAP_DBG = true ∧ s.pairUp p = true ∧ s.isHalted p = false ∧ s.dev ≠
      devBoot ∧ (¬(s.asy.misCyc = some s.time ∧ s.f Fld.ASY_MIS_LAST_PAIR = p.val)) ∧ s.executing p = true ∧ breakHit s p = true) ∧
    (∃ (s : State) (p : Fin 25), s.dsgRun = false ∧ s.flag Fld.SYS_STRAP_DBG = true ∧ (s.pairUp p = false ∨ s.dev = devBoot ∨
      s.atWrite.asy.misCyc = some s.atWrite.time ∧ s.atWrite.f Fld.ASY_MIS_LAST_PAIR = p.val)) ∧
    (∃ (s : State) (p : Fin 25), s.dsgRun = false ∧ s.flag Fld.SYS_STRAP_DBG = true ∧ s.isHalted p = true ∧ s.copyTill p = none) ∧
    (∃ (s : State) (p : Fin 25) (c : Nat), s.dsgRun = false ∧ s.flag Fld.SYS_STRAP_DBG = true ∧ s.copyTill p = some c) ∧
    (∃ (s : State) (p : Fin 25) (o : CoreOp), s.dsgRun = false ∧ s.flag Fld.SYS_STRAP_DBG = true ∧ s.f Fld.DBG_SEL_PAIR = p.val ∧ s.isHalted
      p = true ∧ s.copyTill p = none ∧ canStep s p = true ∧ nextOp s p = some o) ∧
    (∃ (s : State) (p : Fin 25), s.dsgRun = false ∧ s.flag Fld.SYS_STRAP_DBG = true ∧ s.f Fld.DBG_SEL_PAIR = p.val ∧ s.isHalted p = true ∧
      s.copyTill p = none ∧ canStep s p = true ∧ nextOp s p = none) ∧
    (∃ (s : State) (p : Fin 25), s.dsgRun = false ∧ s.flag Fld.SYS_STRAP_DBG = true ∧ s.f Fld.DBG_SEL_PAIR = p.val ∧ s.isHalted p = true ∧
      s.copyTill p = none ∧ canStep s p = false) ∧
    (∃ (s : State) (p : Fin 25), s.dsgRun = false ∧ s.flag Fld.SYS_STRAP_DBG = true ∧ s.f Fld.DBG_SEL_PAIR = p.val ∧ (s.isHalted p = false ∨
      s.copyTill p ≠ none)) ∧
    (∃ (s : State) (p : Fin 25) (r : BitVec 5), s.dsgRun = false ∧ s.flag Fld.SYS_STRAP_DBG = true ∧ s.f Fld.DBG_SEL_PAIR = p.val ∧
      s.isHalted p = true ∧ s.flag Fld.DBG_SEL_CORE = false ∧ s.f Fld.DBG_REG_REG = r.toNat) ∧
    (∃ (s : State) (p : Fin 25) (r : BitVec 5), s.dsgRun = false ∧ s.flag Fld.SYS_STRAP_DBG = true ∧ s.f Fld.DBG_SEL_PAIR = p.val ∧
      s.isHalted p = true ∧ s.flag Fld.DBG_SEL_CORE = false ∧ s.f Fld.DBG_REG_REG = 32 + r.toNat) ∧
    (∃ (s : State) (p : Fin 25), s.dsgRun = false ∧ s.flag Fld.SYS_STRAP_DBG = true ∧ s.f Fld.DBG_SEL_PAIR = p.val ∧ (s.isHalted p = false ∨
      s.flag Fld.DBG_SEL_CORE = true)) ∧
    (∃ (s : State), s.flag Fld.SYS_STRAP_DBG = false) ∧
    (∃ (code : BitVec 6), code ∉ [0#6, 1#6, 2#6, 4#6, 16#6, 17#6]) ∧
    (∃ (ir : BitVec 6), ir ≠ 0#6 ∧ ir ≠ 4#6) ∧
    (∃ (s : State), (s.flag Fld.SYS_STRAP_DBG = false ∨ s.tap.busy ≠ none)) ∧
    (∃ (s : State), s.flag Fld.SYS_STRAP_DBG = true ∧ s.tap.busy = none ∧ (1074724864 ≤ BitVec.toNat s.tap.addr ∧ BitVec.toNat s.tap.addr <
      1074790400 ∧ s.locked = true ∨ 272564224 ≤ BitVec.toNat s.tap.addr ∧ BitVec.toNat s.tap.addr < 272629760)) ∧
    (∃ (s : State) (wr : Bool), s.flag Fld.SYS_STRAP_DBG = true ∧ s.tap.busy = none ∧ (¬(wr = true ∧ (1074724864 ≤ BitVec.toNat s.tap.addr ∧
      BitVec.toNat s.tap.addr < 1074790400 ∧ s.locked = true ∨ 272564224 ≤ BitVec.toNat s.tap.addr ∧ BitVec.toNat s.tap.addr < 272629760)))) ∧
    (∃ (s : State) (wr : Bool) (w : Word), s.tap.busy = some (wr, w) ∧ s.flag Fld.SYS_STRAP_DBG = true) :=
  ⟨⟨{regs := [(.SYS_STATE, 5#32), (.SYS_STRAP, 0x10#32)]}, 24, by decide +kernel⟩,
    ⟨{regs := [(.SYS_STATE, 2#32), (.SYS_STRAP, 0x10#32), (.DBG_BRK_CTL 2, 0x81000000#32)], running := true}, 24, by decide +kernel⟩,
    ⟨{regs := [(.SYS_STRAP, 0x10#32)]}, 0, by decide +kernel⟩,
    ⟨{regs := [(.SYS_STRAP, 0x10#32)], pair := (vset (Vector.replicate 24 {}) 1 {halted := true})}, 1, by decide +kernel⟩,
    ⟨{regs := [(.SYS_STRAP, 0x10#32)], pair := (vset (Vector.replicate 24 {}) 7 {copyTill := some 78})}, 7, 78, by decide +kernel⟩,
    ⟨(({ pair := (vset (Vector.replicate 24 {}) 0 { live := true, halted := true }) } : State).setF Fld.SYS_STRAP_DBG 1), 0, .alu .add 0 0
      0, by decide +kernel⟩,
    ⟨(({ mem := [(0x30000000, 0x3F#8)], chk := [(0x30000000, 0x3F#8)], pair := (vset (Vector.replicate 24 {}) 0 { live := true, halted := true }) }
      : State).setF Fld.SYS_STRAP_DBG 1), 0, by decide +kernel⟩,
    ⟨(({ pair := (vset (Vector.replicate 24 {}) 0 { halted := true }) } : State).setF Fld.SYS_STRAP_DBG 1), 0, by decide +kernel⟩,
    ⟨{regs := [(.SYS_STRAP, 0x10#32), (.DBG_SEL, 0xe#32)]}, 14, by decide +kernel⟩,
    ⟨{regs := [(.SYS_STRAP, 0x10#32), (.DBG_SEL, 0x11#32)], pair := (vset (Vector.replicate 24 {}) 17 {halted := true})}, 17, 0#5, by
      decide +kernel⟩,
    ⟨{regs := [(.SYS_STRAP, 0x10#32), (.DBG_SEL, 0xe#32), (.DBG_REG, 0x23#32)], pair := (vset (Vector.replicate 24 {}) 14 {halted := true})},
      14, 3#5, by decide +kernel⟩,
    ⟨{regs := [(.SYS_STRAP, 0x10#32), (.DBG_SEL, 0x15#32)]}, 21, by decide +kernel⟩,
    ⟨{}, by decide +kernel⟩,
    ⟨0x17#6, by decide +kernel⟩,
    ⟨0x3c#6, by decide +kernel⟩,
    ⟨{}, by decide +kernel⟩,
    ⟨{regs := [(.SYS_STRAP, 0x10#32)], tap := {addr := 0x103fb390#32}}, by decide +kernel⟩,
    ⟨{regs := [(.SYS_STRAP, 0x10#32)]}, false, by decide +kernel⟩,
    ⟨{regs := [(.SYS_STRAP, 0x10#32)], tap := {busy := some (false, 0xffffffff#32)}}, false, 0xffffffff#32, by decide +kernel⟩⟩

theorem witness_MeteringSequencesAndWindows :
    (∃ (s : State) (c : Fin 4), s.dsgRun = false ∧ s.f (Fld.MCV_C_CTL_TRG c) = 0) ∧
    (∃ (s : State) (c : Fin 4) (ts : Nat) (rest : List (Nat × Nat)), s.dsgRun = false ∧ takeEv c.val s.post.conv = (some ts, rest)) ∧
    (∃ (s : State) (c : Fin 4), s.dsgRun = false ∧ s.f (Fld.MCV_C_SEQ_CFG_INJ_TRG c) = 0) ∧
    (∃ (s : State) (c : Fin 4) (at_ : Nat) (rest : List (Nat × Nat)), s.dsgRun = false ∧ takeEv c.val s.post.inj = (some at_, rest)) ∧
    (∃ (s : State) (c : Fin 4), s.dsgRun = false ∧ s.flag (Fld.MCV_C_CTL_EN c) = true ∧ s.f (Fld.MCV_C_SEQ_CFG_INJ_TRG c) = 3) ∧
    (∃ (s : State) (c : Fin 4) (w : McvWin) (t0 : Nat) (e : Fin 32), s.dsgRun = false ∧ (s.mc c).win = some w ∧ w.read = none ∧ w.due = some
      t0 ∧ w.inj = false ∧ w.entry = e.val ∧ (s.mc c).injFrom = none) ∧
    (∃ (s : State) (c : Fin 4) (w : McvWin) (t0 : Nat) (e : Fin 8), s.dsgRun = false ∧ (s.mc c).win = some w ∧ w.read = none ∧ w.due = some
      t0 ∧ w.inj = true ∧ w.entry = e.val) ∧
    (∃ (s : State) (c : Fin 4) (w : McvWin) (cyc : Nat) (e : Fin 32), s.dsgRun = false ∧ (s.mc c).win = some w ∧ w.read = none ∧ s.flag
      (Fld.MCV_C_CTL_EN c) = true ∧ s.flag (Fld.MCV_C_CTL_TIM c) = true ∧ s.time ≤ cyc ∧ mcvBoundary s c cyc = true ∧ w.start < cyc ∧ cyc ≤
      w.start + 18000000 ∧ w.inj = false ∧ w.entry = e.val ∧ (s.mc c).injFrom = none) ∧
    (∃ (s : State) (c : Fin 4) (w : McvWin) (e : Fin 32), s.dsgRun = false ∧ (s.mc c).win = some w ∧ w.read = none ∧ w.due = none ∧ w.inj =
      false ∧ w.entry = e.val ∧ (s.mc c).injFrom = none) ∧
    (∃ (s : State) (c : Fin 4) (cyc : Nat) (u : Nat) (n : Fin 32), s.dsgRun = false ∧ s.flag (Fld.MCV_C_CTL_EN c) = true ∧ s.flag
      (Fld.MCV_C_CTL_TIM c) = true ∧ s.time ≤ cyc ∧ mcvBoundary s c cyc = true ∧ (s.mc c).win = none ∧ (s.mc c).wait = some u ∧ u < cyc ∧ s.f
      (Fld.MCV_C_STATUS_IDX c) = n.val) :=
  ⟨⟨{}, 1, by decide +kernel⟩,
    ⟨{ post := { conv := [(0, 5)] } }, 0, 5, [], by decide +kernel⟩,
    ⟨{}, 1, by decide +kernel⟩,
    ⟨{ post := { inj := [(0, 5)] } }, 0, 5, [], by decide +kernel⟩,
    ⟨{regs := [(.MCV_C_CTL 0, 1#32), (.MCV_C_SEQ_CFG 0, 0x64003000#32)]}, 0, by decide +kernel⟩,
    ⟨{mcv := {ch := (vset (Vector.replicate 4 {}) 2 {win := some { inj := false, entry := 31, ch := 69, read := none, start := 67, due := some 7, hold := true }})}},
      2, { inj := false, entry := 31, ch := 69, read := none, start := 67, due := some 7, hold := true }, 7, 31, by decide +kernel⟩,
    ⟨{mcv := {ch := (vset (Vector.replicate 4 {}) 2 {win := some { inj := true, entry := 3, ch := 39, read := none, start := 85, due := some 61, hold := false }})}},
      2, { inj := true, entry := 3, ch := 39, read := none, start := 85, due := some 61, hold := false }, 61, 3, by decide +kernel⟩,
    ⟨{regs := [(.MAN_AG_CTL 0, 0xf#32), (.MCV_C_CTL 3, 3#32), (.MCV_C_PH 3, 0x706679b2#32)], man := {gen := (vset (Vector.replicate 8 {}) 0 {toGenRec := {stamp := 17945869, wn := 358, dir := 1}})}, mcv := {ch := (vset (Vector.replicate 4 {}) 3 {win := some { inj := false, entry := 18, ch := 17, read := none, start := 0, due := none, hold := true }})}},
      3, { inj := false, entry := 18, ch := 17, read := none, start := 0, due := none, hold := true }, 17946869, 18, by decide +kernel⟩,
    ⟨{mcv := {ch := (vset (Vector.replicate 4 {}) 2 {win := some { inj := false, entry := 30, ch := 29, read := none, start := 2, due := none, hold := false }})}},
      2, { inj := false, entry := 30, ch := 29, read := none, start := 2, due := none, hold := false }, 30, by decide +kernel⟩,
    ⟨{regs := [(.MAN_AG_CTL 0, 0xf#32), (.MCV_C_CTL 0, 3#32), (.MCV_C_PH 0, 0x17c60#32), (.MCV_C_STATUS 0, 0x40000#32)], man := {gen := (vset (Vector.replicate 8 {}) 0 {toGenRec := {wn := 358, dir := 1}})}, mcv := {ch := (vset (Vector.replicate 4 {}) 0 {wait := some 1})}},
      0, 17, 1, 1, by decide +kernel⟩⟩

theorem witness_MeteringDeliveryAndReference :
    (∃ (s : State) (c : Fin 4) (o : McvOut) (rest : List McvOut) (k : Fin 64), s.dsgRun = false ∧ (s.mc c).out = o :: rest ∧ o.read = none ∧
      o.ch = k.val ∧ o.code < 2 ^ 22 ∧ 268435456 ≤ s.f (Fld.MCV_C_BUF_BASE c) * 128 ∧ s.f (Fld.MCV_C_BUF_BASE c) * 128 + 8 * 2 ^ (s.f
      (Fld.MCV_C_BUF_SIZE c) + 4) ≤ 272564224 ∧ 2 ^ (s.f (Fld.MCV_C_BUF_SIZE c) + 4) ≤ 4096 ∧ s.f (Fld.MCV_C_IDX_WIDX c) < 2 ^ (s.f
      (Fld.MCV_C_BUF_SIZE c) + 4) ∧ s.f (Fld.MCV_C_IDX_RIDX c) < 2 ^ (s.f (Fld.MCV_C_BUF_SIZE c) + 4)) ∧
    (∃ (s : State) (c : Fin 4) (o : McvOut) (rest : List McvOut) (k : Fin 64) (upper : Bool), s.dsgRun = false ∧ (s.mc c).out = o :: rest ∧
      o.read = some (k, upper) ∧ o.unset = false ∧ o.ovr = false ∧ o.mains = false ∧ o.code < 2 ^ 22) ∧
    (∃ (s : State) (u : Nat), s.dsgRun = false ∧ s.mcv.refAt = some u) ∧
    (∃ (s : State) (v : Word), s.dsgRun = false ∧ BitVec.getLsbD v 16 = false ∧ BitVec.getLsbD v 0 = true ∧ s.flag Fld.MCV_REF_EN = false) ∧
    (∃ (s : State) (v : Word), s.dsgRun = false ∧ BitVec.getLsbD v 16 = false ∧ BitVec.getLsbD v 0 = true ∧ s.flag Fld.MCV_REF_EN = true) ∧
    (∃ (s : State) (v : Word), s.dsgRun = false ∧ BitVec.getLsbD v 16 = false ∧ BitVec.getLsbD v 0 = false ∧ s.flag Fld.MCV_REF_EN = true ∧
      (∀ (c : Fin 4), s.flag (Fld.MCV_C_CTL_EN c) = false)) ∧
    (∃ (s : State) (v : Word) (c : Fin 4), s.dsgRun = false ∧ BitVec.getLsbD v 16 = false ∧ BitVec.getLsbD v 0 = false ∧ s.flag
      Fld.MCV_REF_EN = true ∧ s.flag (Fld.MCV_C_CTL_EN c) = true) :=
  ⟨⟨{regs := [(.MCV_C_BUF 1, 0x103da200#32)], mcv := {ch := (vset (Vector.replicate 4 {}) 1 {out := [{ ch := 40, code := 1642486, ovr := false, unset := true, inj := false, mains := true, last := true, read := none, t0 := 45756 }, { ch := 6, code := 5, ovr := false, unset := false, inj := false, mains := true, last := false, read := some (56, false), t0 := 61 }, { ch := 5, code := 14, ovr := false, unset := false, inj := false, mains := false, last := false, read := some (24, true), t0 := 22 }]})}},
      1, { ch := 40, code := 1642486, ovr := false, unset := true, inj := false, mains := true, last := true, read := none, t0 := 45756 },
      [{ ch := 6, code := 5, ovr := false, unset := false, inj := false, mains := true, last := false, read := some (56, false), t0 := 61 },
      { ch := 5, code := 14, ovr := false, unset := false, inj := false, mains := false, last := false, read := some (24, true), t0 := 22 }],
      40, by decide +kernel⟩,
    ⟨{mcv := {ch := (vset (Vector.replicate 4 {}) 3 {out := [{ ch := 78294, code := 4154309, ovr := false, unset := false, inj := false, mains := false, last := false, read := some (15, false), t0 := 342949862 }, { ch := 588446576, code := 61, ovr := false, unset := false, inj := false, mains := true, last := true, read := none, t0 := 4 }]})}},
      3,
      { ch := 78294, code := 4154309, ovr := false, unset := false, inj := false, mains := false, last := false, read := some (15, false), t0 := 342949862 },
      [{ ch := 588446576, code := 61, ovr := false, unset := false, inj := false, mains := true, last := true, read := none, t0 := 4 }], 15,
      false, by decide +kernel⟩,
    ⟨{mcv := {refAt := some 63}}, 63, by decide +kernel⟩,
    ⟨{}, 0xfaee174b#32, by decide +kernel⟩,
    ⟨{regs := [(.MCV_REF, 1#32)]}, 0x13#32, by decide +kernel⟩,
    ⟨{regs := [(.MCV_REF, 1#32)]}, 0xfe281c00#32, by decide +kernel⟩,
    ⟨{regs := [(.MCV_REF, 1#32), (.MCV_C_CTL 3, 1#32)]}, 0#32, 3, by decide +kernel⟩⟩

theorem witness_HallmarkFlushesAndRestore :
    (∃ (s : State), s.dsgRun = false ∧ s.flag Fld.HLM_CFG_PF_PIN = true) ∧
    (∃ (s : State), s.dsgRun = false ∧ s.flag Fld.HLM_CFG_PF_PIN = false) ∧
    (∃ (s : State) (u : Nat), s.dsgRun = false ∧ s.hlm.holdTill = some u ∧ s.hlm.held = true) ∧
    (∃ (s : State) (u : Nat), s.dsgRun = false ∧ s.hlm.holdTill = some u ∧ s.hlm.held = false) ∧
    (∃ (s : State), s.dsgRun = false ∧ s.running = true) ∧
    (∃ (s : State), s.dsgRun = false ∧ s.flag Fld.HLM_STATUS_BUSY = false) ∧
    (∃ (s : State), s.dsgRun = false ∧ s.flag Fld.HLM_STATUS_BUSY = true) ∧
    (∃ (s : State), s.dsgRun = false ∧ s.hlm.queue = [] ∧ s.hlm.phase = HlmPhase.copySnap) ∧
    (∃ (s : State), s.dsgRun = false ∧ s.hlm.queue = [] ∧ s.hlm.phase = HlmPhase.copyFlush) ∧
    (∃ (s : State) (i : Fin 64) (n : Nat), s.dsgRun = false ∧ s.hlm.queue = [HlmUpd.count i n] ∧ s.hlm.phase = HlmPhase.copyFlush) ∧
    (∃ (s : State), s.dsgRun = false ∧ s.hlm.phase = HlmPhase.writing) ∧
    (∃ (s : State) (u : State) (a : Nat), s.dsgRun = false ∧ exec Instr.flushComplete s = Host.Outcome.next u ∧ regionOf a = Region.ferro) ∧
    (∃ (s : State), s.dsgRun = false ∧ s.dev = devBoot ∧ s.flag Fld.HLM_STATUS_RESTORED = false ∧ s.hlm.early = [] ∧ 1 < s.f
      Fld.HLM_CFG_FLUSH_CLASS ∧ s.hlm.phase = HlmPhase.idle) :=
  ⟨⟨{}, by decide +kernel⟩,
    ⟨{regs := [(.HLM_CFG, 0x2030000#32)]}, by decide +kernel⟩,
    ⟨{hlm := {holdTill := some 4, held := true}}, 4, by decide +kernel⟩,
    ⟨{hlm := {holdTill := some 51}}, 51, by decide +kernel⟩,
    ⟨{running := true}, by decide +kernel⟩,
    ⟨{}, by decide +kernel⟩,
    ⟨{regs := [(.HLM_STATUS, 0x10000#32)]}, by decide +kernel⟩,
    ⟨{hlm := {phase := .copySnap}}, by decide +kernel⟩,
    ⟨{hlm := {phase := .copyFlush}}, by decide +kernel⟩,
    ⟨{hlm := {phase := .copyFlush, queue := [.count 30 9]}}, 30, 9, by decide +kernel⟩,
    ⟨{hlm := {phase := .writing}}, by decide +kernel⟩,
    ⟨{}, {}, 0x20000000, by exact ⟨rfl, rfl, by decide⟩⟩,
    ⟨{}, by decide +kernel⟩⟩

theorem witness_HallmarkClearsCountersAndDescriptors :
    (∃ (lo : Int) (x : Int) (w : Nat), 0 < w ∧ x < lo) ∧
    (∃ (lo : Int) (x : Int) (w : Nat) (b : Nat), 0 < w ∧ lo ≤ x ∧ 1 ≤ b ∧ b ≤ 63) ∧
    (∃ (s : State) (code : BitVec 16) (i : Nat) (a : Nat), i < 128 ∧ code ≠ 0#16 ∧ (∀ j < i, BitVec.extractLsb' 0 16 (s.memW (hlmLive + 1344
      + 16 * j)) ≠ code ∧ s.memW (hlmLive + 1344 + 16 * j) ≠ 0#32) ∧ s.memW (hlmLive + 1344 + 16 * i) ≠ 0#32 ∧ BitVec.extractLsb' 0 16 (s.memW
      (hlmLive + 1344 + 16 * i)) = code ∧ (a < hlmLive + 1344 + 16 * i ∨ hlmLive + 1344 + 16 * i + 16 ≤ a)) ∧
    (∃ (s : State) (code : BitVec 16) (i : Nat) (a : Nat), i < 128 ∧ code ≠ 0#16 ∧ (∀ j < i, BitVec.extractLsb' 0 16 (s.memW (hlmLive + 1344
      + 16 * j)) ≠ code ∧ s.memW (hlmLive + 1344 + 16 * j) ≠ 0#32) ∧ s.memW (hlmLive + 1344 + 16 * i) = 0#32 ∧ (a < hlmLive + 1344 + 16 * i ∨
      hlmLive + 1344 + 16 * i + 16 ≤ a)) ∧
    (∃ (s : State) (key : BitVec 16), s.dsgRun = false ∧ key ≠ 27421#16) ∧
    (∃ (s : State) (v : Word), s.dsgRun = false ∧ wGet v 0 6 < 16) ∧
    (∃ (s : State) (v : Word), s.dsgRun = false ∧ 16 ≤ wGet v 0 6 ∧ (¬(s.hlm.phase = HlmPhase.copyFlush ∨ s.hlm.phase = HlmPhase.copySnap))) ∧
    (∃ (s : State) (v : Word) (i : Fin 64), s.dsgRun = false ∧ i.val = wGet v 0 6 ∧ 16 ≤ wGet v 0 6 ∧ (s.hlm.phase = HlmPhase.copyFlush ∨
      s.hlm.phase = HlmPhase.copySnap) ∧ s.hlm.queue.length < 128) ∧
    (∃ (s : State) (v : Word), s.dsgRun = false ∧ 16 ≤ wGet v 0 6 ∧ (s.hlm.phase = HlmPhase.copyFlush ∨ s.hlm.phase = HlmPhase.copySnap) ∧
      128 ≤ s.hlm.queue.length) ∧
    (∃ (s : State) (h : Fin 32) (j : Fin 96) (v : Word), s.dsgRun = false ∧ j.val = h.val ∧ wGet v 1 3 < 6 ∧ s.flag (Fld.HLM_H_CTL_EN h) =
      false ∧ (BitVec.getLsbD v 0 = false ∨ s.memW (hlmLive + 64 + 16 * h.val) = v &&& 524287#32 ∧ s.memW (hlmLive + 64 + 16 * h.val + 4) =
      s.rd (Reg.HLM_H_LO h) ∧ s.memW (hlmLive + 64 + 16 * h.val + 8) = s.rd (Reg.HLM_H_W h) ∧ s.memW (hlmLive + 64 + 16 * h.val + 12) = s.rd
      (Reg.HLM_H_ADDR h))) ∧
    (∃ (s : State) (h : Fin 32) (j : Fin 96) (v : Word), s.dsgRun = false ∧ j.val = h.val ∧ wGet v 1 3 < 6 ∧ s.flag (Fld.HLM_H_CTL_EN h) =
      false ∧ BitVec.getLsbD v 0 = true ∧ (¬(s.memW (hlmLive + 64 + 16 * h.val) = v &&& 524287#32 ∧ s.memW (hlmLive + 64 + 16 * h.val + 4) =
      s.rd (Reg.HLM_H_LO h) ∧ s.memW (hlmLive + 64 + 16 * h.val + 8) = s.rd (Reg.HLM_H_W h) ∧ s.memW (hlmLive + 64 + 16 * h.val + 12) = s.rd
      (Reg.HLM_H_ADDR h)))) ∧
    (∃ (s : State) (h : Fin 32) (j : Fin 96) (v : Word), s.dsgRun = false ∧ j.val = h.val ∧ wGet v 1 3 < 6 ∧ s.flag (Fld.HLM_H_CTL_EN h) =
      true ∧ BitVec.getLsbD v 0 = false) ∧
    (∃ (s : State) (e : Fin 64) (j : Fin 96) (v : Word), s.dsgRun = false ∧ j.val = 32 + e.val ∧ wGet v 1 3 < 6 ∧ s.flag (Fld.HLM_X_CTL_EN
      e) = false ∧ (BitVec.getLsbD v 0 = false ∨ s.memW (hlmLive + 576 + 8 * e.val) = v &&& 524287#32 ∧ s.memW (hlmLive + 576 + 8 * e.val + 4)
      = s.rd (Reg.HLM_X_ADDR e))) ∧
    (∃ (s : State) (e : Fin 64) (j : Fin 96) (v : Word), s.dsgRun = false ∧ j.val = 32 + e.val ∧ wGet v 1 3 < 6 ∧ s.flag (Fld.HLM_X_CTL_EN
      e) = false ∧ BitVec.getLsbD v 0 = true ∧ (¬(s.memW (hlmLive + 576 + 8 * e.val) = v &&& 524287#32 ∧ s.memW (hlmLive + 576 + 8 * e.val +
      4) = s.rd (Reg.HLM_X_ADDR e)))) :=
  ⟨⟨-6, -74, 66, by decide +kernel⟩,
    ⟨-20, 906387468, 15, 5, by decide +kernel⟩,
    ⟨{mem := [(272565568, 0x2a#8)]}, 0x2a#16, 0, 272565587, by decide +kernel⟩,
    ⟨{}, 0xffff#16, 0, 272565937, by decide +kernel⟩,
    ⟨{}, 0x4c4b#16, by decide +kernel⟩,
    ⟨{}, 0xe#32, by decide +kernel⟩,
    ⟨{}, 0xffffffd3#32, by decide +kernel⟩,
    ⟨{hlm := {phase := .copyFlush}}, 0x410#32, 16, by decide +kernel⟩,
    ⟨{hlm := {phase := .copyFlush, queue := (List.replicate 128 (.count 59 3))}}, 0x12#32, by decide +kernel⟩,
    ⟨{}, 15, 15, 0x80#32, by decide +kernel⟩,
    ⟨{}, 3, 3, 0x24dec895#32, by decide +kernel⟩,
    ⟨{regs := [(.HLM_H_CTL 18, 1#32)]}, 18, 18, 0x7dac1d24#32, by decide +kernel⟩,
    ⟨{}, 0, 32, 0x8000006#32, by decide +kernel⟩,
    ⟨{}, 0, 32, 0x1000b#32, by decide +kernel⟩⟩

theorem witness_LineBusFramesAndErrors :
    (∃ (s : State) (c : Fin 4) (n : Nat), n ≤ 64 ∧ (∀ w < n, (lbWin s c w).2.2 ≠ 0) ∧ (n = 64 ∨ (lbWin s c n).2.2 = 0)) ∧
    (∃ (s : State) (c : Fin 4) (v : Word), s.dsgRun = false ∧ wGet v 1 2 ≠ 3 ∧ wGet v 5 2 ≠ 3 ∧ s.f (Fld.LB_ERR_ESTATE c) ≠ 2 ∧ s.flag
      (Fld.LB_CTL_EN c) = false ∧ BitVec.getLsbD v 0 = true) ∧
    (∃ (s : State) (c : Fin 4) (v : Word), s.dsgRun = false ∧ wGet v 1 2 ≠ 3 ∧ wGet v 5 2 ≠ 3 ∧ s.f (Fld.LB_ERR_ESTATE c) ≠ 2 ∧ s.flag
      (Fld.LB_CTL_EN c) = true ∧ BitVec.getLsbD v 0 = false) ∧
    (∃ (s : State) (c : Fin 4), s.dsgRun = false ∧ s.f (Fld.LB_CTL_MODE c) ≠ 2) ∧
    (∃ (s : State) (c : Fin 4) (h : Fin 2) (mask : Word), s.dsgRun = false ∧ s.f (Fld.LB_CTL_MODE c) = 2 ∧ (s.lbc c).queue.length +
      (List.filter (fun b => decide (b.val / 32 = h.val) && BitVec.getLsbD mask (b.val % 32)) (List.finRange 64)).length ≤ 32) ∧
    (∃ (s : State) (c : Fin 4) (mask : Word), s.dsgRun = false ∧ s.f (Fld.LB_CTL_MODE c) = 2 ∧ 32 ≤ (s.lbc c).queue.length ∧ mask ≠ 0#32) ∧
    (∃ (s : State) (c : Fin 4) (f : LbFrame) (st : Nat), s.dsgRun = false ∧ f.wf = true ∧ lbLive s c st = true ∧ s.f (Fld.LB_ERR_ESTATE c) ≠
      2 ∧ s.flag (Fld.LB_ERR_RP c) = false ∧ (s.flag (Fld.LB_CTL_FD c) = true ∨ f.fdf = false) ∧ f.remote = false ∧ (¬(s.lbTt c = true ∧
      lbIsRef s c f = true)) ∧ (∀ (k : Fin 64), lbMatch s c f k.val = false)) ∧
    (∃ (s : State) (c : Fin 4) (f : LbFrame) (st : Nat) (k : Fin 64), s.dsgRun = false ∧ f.wf = true ∧ lbLive s c st = true ∧ s.f
      (Fld.LB_ERR_ESTATE c) ≠ 2 ∧ s.flag (Fld.LB_ERR_RP c) = false ∧ (s.flag (Fld.LB_CTL_FD c) = true ∨ f.fdf = false) ∧ f.remote = false ∧
      (¬(s.lbTt c = true ∧ lbIsRef s c f = true)) ∧ lbMatch s c f k.val = true ∧ (∀ (j : Fin 64), j.val < k.val → lbMatch s c f j.val = false)
      ∧ BitVec.getLsbD (s.memW (1342177280 + c.val * 65536 + 8704 + 8 * k.val)) 30 = true) ∧
    (∃ (s : State) (c : Fin 4) (f : LbFrame) (st : Nat) (k : Fin 64), s.dsgRun = false ∧ f.wf = true ∧ lbLive s c st = true ∧ s.f
      (Fld.LB_ERR_ESTATE c) ≠ 2 ∧ s.flag (Fld.LB_ERR_RP c) = false ∧ (s.flag (Fld.LB_CTL_FD c) = true ∨ f.fdf = false) ∧ f.remote = false ∧
      (¬(s.lbTt c = true ∧ lbIsRef s c f = true)) ∧ lbMatch s c f k.val = true ∧ (∀ (j : Fin 64), j.val < k.val → lbMatch s c f j.val = false)
      ∧ BitVec.getLsbD (s.memW (1342177280 + c.val * 65536 + 8704 + 8 * k.val)) 30 = false ∧ 0 < s.f (Fld.LB_FIFO_FIFO_LEN c) ∧ (s.f
      (Fld.LB_FIFO_IDX_WIDX c) + 1) % s.f (Fld.LB_FIFO_FIFO_LEN c) ≠ s.f (Fld.LB_FIFO_IDX_RIDX c)) ∧
    (∃ (s : State) (c : Fin 4) (f : LbFrame) (st : Nat) (k : Fin 64), s.dsgRun = false ∧ f.wf = true ∧ lbLive s c st = true ∧ s.f
      (Fld.LB_ERR_ESTATE c) ≠ 2 ∧ s.flag (Fld.LB_ERR_RP c) = false ∧ (s.flag (Fld.LB_CTL_FD c) = true ∨ f.fdf = false) ∧ f.remote = false ∧
      (¬(s.lbTt c = true ∧ lbIsRef s c f = true)) ∧ lbMatch s c f k.val = true ∧ (∀ (j : Fin 64), j.val < k.val → lbMatch s c f j.val = false)
      ∧ BitVec.getLsbD (s.memW (1342177280 + c.val * 65536 + 8704 + 8 * k.val)) 30 = false ∧ 0 < s.f (Fld.LB_FIFO_FIFO_LEN c) ∧ (s.f
      (Fld.LB_FIFO_IDX_WIDX c) + 1) % s.f (Fld.LB_FIFO_FIFO_LEN c) = s.f (Fld.LB_FIFO_IDX_RIDX c)) ∧
    (∃ (s : State) (c : Fin 4) (b : Fin 64) (st : Nat), s.dsgRun = false ∧ lbLive s c st = true ∧ lbMaySend s c = true ∧ lbOffered s c b =
      true ∧ s.f (Fld.LB_CTL_LOOP c) = 0) ∧
    (∃ (s : State) (c : Fin 4) (b : Fin 64), s.dsgRun = false ∧ s.flag (Fld.LB_CTL_EN c) = true ∧ lbOffered s c b = true ∧ s.f
      (Fld.LB_ERR_ESTATE c) < 2) ∧
    (∃ (s : State) (c : Fin 4), s.dsgRun = false ∧ lbLive s c s.now = true ∧ s.f (Fld.LB_ERR_ESTATE c) < 2 ∧ s.flag (Fld.LB_ERR_RP c) =
      false) ∧
    (∃ (s : State) (c : Fin 4), s.dsgRun = false ∧ s.f (Fld.LB_ERR_ESTATE c) = 2 ∧ ((s.lbc c).recov = true ∨ s.flag (Fld.LB_CTL_AUTO_REC c)
      = true)) ∧
    (∃ (s : State) (c : Fin 4), s.dsgRun = false ∧ s.f (Fld.LB_ERR_ESTATE c) = 2 ∧ (s.lbc c).recov = false ∧ s.flag (Fld.LB_CTL_AUTO_REC c)
      = false) :=
  ⟨⟨{}, 2, 0, by decide +kernel⟩,
    ⟨{}, 0, 0x5b#32, by decide +kernel⟩,
    ⟨{regs := [(.LB_CTL 0, 1#32)]}, 0, 0x71c83658#32, by decide +kernel⟩,
    ⟨{}, 0, by decide +kernel⟩,
    ⟨{regs := [(.LB_CTL 2, 4#32)]}, 2, 1, 0#32, by decide +kernel⟩,
    ⟨{regs := [(.LB_CTL 0, 4#32)], lb := {ch := (vset (Vector.replicate 4 {}) 0 {queue := (List.replicate 32 25)})}}, 0, 3#32, by
      decide +kernel⟩,
    ⟨{regs := [(.LB_CTL 1, 1#32)]}, 1,
      { id := 0x1fffffff#29, xtd := true, fdf := false, brs := false, esi := true, remote := false, dlc := 0#4, data := [] }, 272574692, by
      decide +kernel⟩,
    ⟨{regs := [(.LB_CTL 3, 1#32)], mem := [(1342382952, 3#8), (1342382955, 0xe0#8)]}, 3,
      { id := 3#29, xtd := true, fdf := false, brs := false, esi := false, remote := false, dlc := 5#4, data := [1#8, 0x6d#8, 0#8, 0#8, 0#8] },
      6, 45, by decide +kernel⟩,
    ⟨{regs := [(.LB_CTL 2, 1#32)], mem := [(1342317107, 0xa0#8)]}, 2,
      { id := 0#29, xtd := true, fdf := false, brs := false, esi := false, remote := false, dlc := 1#4, data := [0x1a#8] }, 524287, 6, by
      decide +kernel⟩,
    ⟨{regs := [(.LB_CTL 2, 1#32), (.LB_FIFO 2, 0x200001#32)], mem := [(1342317496, 0x15#8), (1342317498, 0xc#8), (1342317499, 0xa0#8)]}, 2,
      { id := 0xc0015#29, xtd := true, fdf := false, brs := false, esi := true, remote := false, dlc := 2#4, data := [0x13#8, 1#8] }, 2, 55,
      by decide +kernel⟩,
    ⟨{regs := [(.LB_CTL 1, 5#32)], lb := {ch := (vset (Vector.replicate 4 {}) 1 {queue := [18, 18]})}}, 1, 18, 2, by decide +kernel⟩,
    ⟨{regs := [(.LB_CTL 3, 1#32)], lb := {ch := (vset (Vector.replicate 4 {}) 3 {offer := 0x4000000000#64, queue := [38]})}}, 3, 38, by
      decide +kernel⟩,
    ⟨{regs := [(.LB_CTL 0, 1#32)]}, 0, by decide +kernel⟩,
    ⟨{regs := [(.LB_CTL 2, 0x200#32), (.LB_ERR 2, 0x20000#32)]}, 2, by decide +kernel⟩,
    ⟨{regs := [(.LB_ERR 1, 0x20000#32)]}, 1, by decide +kernel⟩⟩

theorem witness_LineBusScheduleAndReferences :
    (∃ (s : State) (c : Fin 4) (f : LbFrame) (p : Fin 8) (st : Nat), s.dsgRun = false ∧ s.flag (Fld.LB_CTL_EN c) = true ∧ s.f
      (Fld.LB_CTL_MODE c) = 0 ∧ lbLive s c st = true ∧ s.f (Fld.LB_ERR_ESTATE c) ≠ 2 ∧ s.flag (Fld.LB_CTL_FD c) = true ∧ lbIsRef s c f = true
      ∧ BitVec.extractLsb' 18 3 f.id = BitVec.ofNat 3 p.val ∧ lbField f 0 4 / 4096 % 16 = 1 ∧ (s.f (Fld.LB_SYNC_STAT_ROLE c) = 2 → p.val < s.f
      (Fld.LB_SYNC_CFG_MST_PRIO c)) ∧ (∀ (k : Fin 64), lbMatch s c f k.val = false) ∧ s.flag (Fld.LB_ERR_RP c) = false) ∧
    (∃ (s : State) (c : Fin 4) (st : Nat), s.dsgRun = false ∧ s.flag (Fld.LB_CTL_EN c) = true ∧ s.f (Fld.LB_CTL_MODE c) = 0 ∧ lbLive s c st
      = true ∧ s.f (Fld.LB_ERR_ESTATE c) ≠ 2 ∧ (s.lbc c).refReq = true ∧ s.flag (Fld.LB_CTL_MON c) = false ∧ s.f (Fld.LB_CTL_LOOP c) = 0 ∧
      (s.lbc c).agOld = none) ∧
    (∃ (s : State) (c : Fin 4) (w : Fin 64) (start : Nat) (ends : Nat) (kind : Nat), s.dsgRun = false ∧ s.flag (Fld.LB_CTL_EN c) = true ∧
      s.f (Fld.LB_CTL_MODE c) = 0 ∧ (s.lbc c).nextWin = w.val ∧ lbWin s c w.val = (start, ends, kind) ∧ kind ≠ 0 ∧ (s.lbc c).cycOn = true ∧
      s.f (Fld.LB_SYNC_STAT_SYNC c) ≠ 1) ∧
    (∃ (s : State) (c : Fin 4), s.dsgRun = false ∧ s.flag (Fld.LB_CTL_EN c) = true ∧ s.f (Fld.LB_CTL_MODE c) = 0 ∧ (s.lbc c).cycOn = true ∧
      s.f (Fld.LB_SYNC_STAT_ROLE c) = 2) ∧
    (∃ (s : State) (c : Fin 4), s.dsgRun = false ∧ s.flag (Fld.LB_CTL_EN c) = true ∧ s.f (Fld.LB_CTL_MODE c) = 0 ∧ (s.lbc c).cycOn = true ∧
      s.f (Fld.LB_SYNC_STAT_ROLE c) ≠ 2 ∧ s.f (Fld.LB_SYNC_STAT_SYNC c) = 3) ∧
    (∃ (s : State) (c : Fin 4), s.dsgRun = false ∧ s.flag (Fld.LB_CTL_EN c) = true ∧ s.f (Fld.LB_CTL_MODE c) = 0 ∧ s.f
      (Fld.LB_SYNC_STAT_ROLE c) = 1 ∧ s.flag (Fld.LB_CTL_MON c) = false ∧ s.f (Fld.LB_SYNC_STAT_SYNC c) ≠ 3 ∧ (s.lbc c).refReq = false) ∧
    (∃ (s : State) (c : Fin 4), s.dsgRun = false ∧ s.flag (Fld.LB_CTL_EN c) = true ∧ s.f (Fld.LB_CTL_MODE c) = 0 ∧ s.f
      (Fld.LB_SYNC_STAT_SYNC c) = 2) ∧
    (∃ (s : State) (c : Fin 4), s.dsgRun = false ∧ s.flag (Fld.LB_CTL_EN c) = true ∧ s.f (Fld.LB_CTL_MODE c) = 0 ∧ s.f
      (Fld.LB_SYNC_STAT_SYNC c) = 3 ∧ s.f (Fld.LB_CYC_REF_LIM c) ≤ (s.lbc c).holdN) :=
  ⟨⟨{regs := [(.LB_CTL 1, 9#32), (.LB_SYNC_CFG 1, 0xe#32)]}, 1,
      { id := 0x16#29, xtd := false, fdf := true, brs := false, esi := true, remote := false, dlc := 0xa#4, data := ([0xc7#8, 0x18#8] ++ List.replicate 14 0#8) },
      0, 128, by decide +kernel⟩,
    ⟨{regs := [(.LB_CTL 1, 1#32)], lb := {ch := (vset (Vector.replicate 4 {}) 1 {refReq := true})}}, 1, 5, by decide +kernel⟩,
    ⟨{regs := [(.LB_CTL 0, 1#32)], mem := [(1342177400, 5#8), (1342177402, 1#8), (1342177404, 3#8)], lb := {ch := (vset (Vector.replicate 4 {}) 0 {cycOn := true, nextWin := 15})}},
      0, 15, 5, 1, 3, by decide +kernel⟩,
    ⟨{regs := [(.LB_CTL 2, 1#32), (.LB_SYNC_STAT 2, 8#32)], lb := {ch := (vset (Vector.replicate 4 {}) 2 {cycOn := true})}}, 2, by
      decide +kernel⟩,
    ⟨{regs := [(.LB_CTL 0, 1#32), (.LB_SYNC_STAT 0, 3#32)], lb := {ch := (vset (Vector.replicate 4 {}) 0 {cycOn := true})}}, 0, by
      decide +kernel⟩,
    ⟨{regs := [(.LB_CTL 3, 1#32), (.LB_SYNC_STAT 3, 4#32)]}, 3, by decide +kernel⟩,
    ⟨{regs := [(.LB_CTL 3, 1#32), (.LB_SYNC_STAT 3, 2#32)]}, 3, by decide +kernel⟩,
    ⟨{regs := [(.LB_CTL 1, 1#32), (.LB_CYC 1, 0xa00fa0#32), (.LB_SYNC_STAT 1, 3#32)]}, 1, by decide +kernel⟩⟩

theorem witness_SlotsRefuseEveryStepOutOfTurn :
    (∃ (l : Fin 128), 8 ≤ l.val ∧ l.val < 16) ∧
    (∃ (s : State) (a : BitVec 16) (j : Fin 8), s.dsgRun = false ∧ portReset s = false ∧ a.toNat % 4 = 0 ∧ 2048 + 256 * j.val ≤ a.toNat ∧
      a.toNat < 2304 + 256 * j.val ∧ isGranted (slotsBefore s) j = true) ∧
    (∃ (s : State) (a : BitVec 16) (j : Fin 8), s.dsgRun = false ∧ portReset s = false ∧ a.toNat % 4 = 0 ∧ 2048 + 256 * j.val ≤ a.toNat ∧
      a.toNat < 2304 + 256 * j.val ∧ isGranted (slotsBefore s) j = false) ∧
    (∃ (s : State) (a : BitVec 16), s.dsgRun = false ∧ portReset s = false ∧ a.toNat % 4 = 0 ∧ 4096 ≤ a.toNat ∧ a.toNat < 6144) :=
  ⟨⟨12, by decide +kernel⟩,
    ⟨{regs := [(.MBX_SLOTS, 0x100#32)]}, 0x8b4#16, 0, by decide +kernel⟩,
    ⟨{}, 0x800#16, 0, by decide +kernel⟩,
    ⟨{}, 0x140c#16, by decide +kernel⟩⟩

theorem witness_HostTransactionsResetAndEvents :
    (∃ (s : State), s.dsgRun = false ∧ portReset s = true) ∧
    (∃ (s : State) (x : BitVec 8), s.dsgRun = false ∧ portReset s = false ∧ x ≠ 2#8 ∧ x ≠ 11#8 ∧ x ≠ 5#8) ∧
    (∃ (s : State) (a : BitVec 16) (n : Nat), s.dsgRun = false ∧ portReset s = false ∧ a.toNat % 4 ≠ 0 ∧ n ≠ 0) ∧
    (∃ (s : State) (a : BitVec 16) (d : List Byte), s.dsgRun = false ∧ portReset s = false ∧ a.toNat % 4 = 0 ∧ 1 ≤ d.length ∧ d.length ≤ 3) ∧
    (∃ (s : State) (a : BitVec 16), s.dsgRun = false ∧ portReset s = false ∧ a.toNat % 4 = 0 ∧ (a.toNat < 8 ∨ a.toNat = 20 ∨ 24 ≤ a.toNat ∧
      a.toNat < 2048 ∨ 6144 ≤ a.toNat)) ∧
    (∃ (s : State) (a : BitVec 16) (n : Nat), s.dsgRun = false ∧ portReset s = false ∧ a.toNat % 4 = 0 ∧ 0 < n ∧ n < 2 ^ 16 ∧ (a.toNat + 4 *
      (n - 1)) % 65536 = 4) ∧
    (∃ (s : State) (a : BitVec 16) (n : Nat) (v : Word), s.dsgRun = false ∧ portReset s = false ∧ a.toNat % 4 = 0 ∧ 0 < n ∧ n < 2 ^ 16 ∧
      ((a.toNat + 4 * (n - 1)) % 65536 = 0 ∧ v = s.rd Reg.HST_ID ∨ (a.toNat + 4 * (n - 1)) % 65536 = 12 ∧ v = s.rd Reg.HST_ERR ∨ (a.toNat + 4
      * (n - 1)) % 65536 = 16 ∧ v = s.rd Reg.HST_IRQ_EN ∨ (a.toNat + 4 * (n - 1)) % 65536 = 20 ∧ v = s.rd Reg.MBX_EVT_LOST ∨ 2048 ≤ (a.toNat +
      4 * (n - 1)) % 65536 ∧ (a.toNat + 4 * (n - 1)) % 65536 < 6144 ∧ v = s.memW (1073807360 + (a.toNat + 4 * (n - 1)) % 65536) ∨ ((a.toNat +
      4 * (n - 1)) % 65536 = 8 ∨ 24 ≤ (a.toNat + 4 * (n - 1)) % 65536 ∧ (a.toNat + 4 * (n - 1)) % 65536 < 2048 ∨ 6144 ≤ (a.toNat + 4 * (n -
      1)) % 65536) ∧ v = 0#32)) ∧
    (∃ (s : State) (e : FelEv) (rest : List FelEv) (i : Fin 8), s.dsgRun = false ∧ s.mbx.evq = e :: rest ∧ BitVec.getLsbD (evtBefore s)
      i.val = false ∧ (∀ j < i, BitVec.getLsbD (evtBefore s) j.val = true) ∧ e.data.length ≤ 240) :=
  ⟨⟨{regs := [(.MBX_STATUS, 0x100#32)]}, by decide +kernel⟩,
    ⟨{}, 0xf6#8, by decide +kernel⟩,
    ⟨{}, 0xfd33#16, 58788, by decide +kernel⟩,
    ⟨{}, 0xa780#16, [0x32#8, 0#8], by decide +kernel⟩,
    ⟨{}, 0#16, by decide +kernel⟩,
    ⟨{}, 0x400#16, 32514, by decide +kernel⟩,
    ⟨{}, 0xf210#16, 35601, 0#32, by decide +kernel⟩,
    ⟨{mbx := {evq := [{ code := 18, data := ([0xbe#8] ++ List.replicate 133 0#8), dev := 2, at_ := 44 }, { code := 20, data := [6#8, 1#8, 1#8], dev := 3, at_ := 7 }]}},
      { code := 18, data := ([0xbe#8] ++ List.replicate 133 0#8), dev := 2, at_ := 44 },
      [{ code := 20, data := [6#8, 1#8, 1#8], dev := 3, at_ := 7 }], 0, by decide +kernel⟩⟩

theorem witness_ResetStrapsAndPadCheck :
    (∃ (s : State), (s.dev = devConfig ∨ s.dev = devStandby ∨ s.dev = devSafe ∨ s.dev = devFault ∨ s.dev = devDebug) ∧ s.hlm.phase =
      HlmPhase.idle) ∧
    (∃ (s : State), (s.dev = devConfig ∨ s.dev = devStandby ∨ s.dev = devSafe ∨ s.dev = devFault ∨ s.dev = devDebug) ∧ s.hlm.phase =
      HlmPhase.writing ∧ s.hlm.waiting = 0#5 ∧ s.memW hlmSnap = 1212940289#32 ∧ s.fuse.op = none) ∧
    (∃ (s : State) (key : BitVec 16), (¬(key = 32343#16 ∧ (s.dev = devConfig ∨ s.dev = devStandby ∨ s.dev = devSafe ∨ s.dev = devFault ∨
      s.dev = devDebug)))) ∧
    (∃ (s : State), (s.boot.hold = 0#3 ∨ s.boot.rstLow = true)) ∧
    (∃ (s : State), s.boot.hold ≠ 0#3 ∧ s.boot.rstLow = false ∧ s.dsgRun = false) ∧
    (∃ (s : State), (s.boot.hold ≠ 0#3 ∨ s.boot.pll = true)) ∧
    (∃ (s : State), s.boot.hold = 0#3 ∧ s.boot.pll = false ∧ s.dsgRun = false) ∧
    (∃ (s : State) (c : Nat), s.boot.pads = PadPhase.pull c) ∧
    (∃ (s : State), (∀ (c : Nat), s.boot.pads ≠ PadPhase.pull c)) ∧
    (∃ (s : State), (∀ (c : Nat), s.boot.pads ≠ PadPhase.drive c)) ∧
    (∃ (s : State) (fails : BitVec 140) (c : Nat), s.boot.pads = PadPhase.drive c ∧ s.dsgRun = false ∧ fails ||| s.boot.pull = 0#140) ∧
    (∃ (s : State) (fails : BitVec 140) (c : Nat), s.boot.pads = PadPhase.drive c ∧ s.dsgRun = false ∧ fails ||| s.boot.pull ≠ 0#140) :=
  ⟨⟨{regs := [(.SYS_STATE, 1#32)]}, by decide +kernel⟩,
    ⟨{regs := [(.SYS_STATE, 7#32)], mem := [(272580608, 1#8), (272580610, 0x4c#8), (272580611, 0x48#8)], hlm := {phase := .writing}}, by
      decide +kernel⟩,
    ⟨{}, 0x5ac3#16, by decide +kernel⟩,
    ⟨{boot := {rstLow := true}}, by decide +kernel⟩,
    ⟨{}, by decide +kernel⟩,
    ⟨{}, by decide +kernel⟩,
    ⟨{boot := {hold := 0#3}}, by decide +kernel⟩,
    ⟨{boot := {pads := .pull 89}}, 89, by decide +kernel⟩,
    ⟨{}, by exact fun _ => nofun⟩,
    ⟨{}, by exact fun _ => nofun⟩,
    ⟨{boot := {pads := .drive 6}}, 0#140, 6, by decide +kernel⟩,
    ⟨{boot := {pads := .drive 6}}, 0x24#140, 6, by decide +kernel⟩⟩

theorem witness_BootConfigurationLockAndFuses :
    (∃ (s : State) (sig : BitVec 2) (a : Fin 2), s.dsgRun = false ∧ s.dev = devBoot ∧ s.boot.pll = true ∧ s.boot.image = false ∧ s.f
      Fld.SYS_STRAP_BOOT ≠ 1 ∧ s.flag Fld.MBX_CTL_UP = false ∧ (a = 1 ↔ s.memW 543162372 = ~~~s.memW 543162368 ∧ BitVec.getLsbD (s.memW
      543162368) 0 = true) ∧ imgOk s a (sig.getLsbD a.val) = true) ∧
    (∃ (s : State) (sig : BitVec 2) (a : Fin 2), s.dsgRun = false ∧ s.dev = devBoot ∧ s.boot.pll = true ∧ s.boot.image = false ∧ s.f
      Fld.SYS_STRAP_BOOT ≠ 1 ∧ s.flag Fld.MBX_CTL_UP = false ∧ (a = 1 ↔ s.memW 543162372 = ~~~s.memW 543162368 ∧ BitVec.getLsbD (s.memW
      543162368) 0 = true) ∧ (¬imgOk s a (sig.getLsbD a.val) = true) ∧ imgOk s (1 - a) (sig.getLsbD (↑(1 - a) : Nat)) = true) ∧
    (∃ (s : State) (sig : BitVec 2) (a : Fin 2), s.dsgRun = false ∧ s.dev = devBoot ∧ s.boot.pll = true ∧ s.boot.image = false ∧ s.f
      Fld.SYS_STRAP_BOOT ≠ 1 ∧ s.flag Fld.MBX_CTL_UP = false ∧ (a = 1 ↔ s.memW 543162372 = ~~~s.memW 543162368 ∧ BitVec.getLsbD (s.memW
      543162368) 0 = true) ∧ (¬imgOk s a (sig.getLsbD a.val) = true) ∧ (¬imgOk s (1 - a) (sig.getLsbD (↑(1 - a) : Nat)) = true) ∧ s.f
      Fld.SYS_STRAP_BOOT = 2) ∧
    (∃ (s : State) (sig : BitVec 2) (a : Fin 2), s.dsgRun = false ∧ s.dev = devBoot ∧ s.boot.pll = true ∧ s.boot.image = false ∧ s.f
      Fld.SYS_STRAP_BOOT ≠ 1 ∧ s.flag Fld.MBX_CTL_UP = false ∧ (a = 1 ↔ s.memW 543162372 = ~~~s.memW 543162368 ∧ BitVec.getLsbD (s.memW
      543162368) 0 = true) ∧ (¬imgOk s a (sig.getLsbD a.val) = true) ∧ (¬imgOk s (1 - a) (sig.getLsbD (↑(1 - a) : Nat)) = true) ∧ s.f
      Fld.SYS_STRAP_BOOT ≠ 2) ∧
    (∃ (s : State) (k : Fin 2), s.dsgRun = false ∧ s.dev = devBoot ∧ s.boot.pads = PadPhase.passed ∧ s.flag Fld.HLM_STATUS_RESTORED = true ∧
      s.boot.image = true ∧ k.val = s.f Fld.SYS_BOOT_SLOT) ∧
    (∃ (s : State), s.dsgRun = false ∧ (¬(s.dev = devBoot ∧ s.boot.pads = PadPhase.passed ∧ s.flag Fld.HLM_STATUS_RESTORED = true ∧
      s.boot.image = true))) ∧
    (∃ (s : State) (key : BitVec 16), s.dsgRun = false ∧ (¬(key = 19531#16 ∧ s.dev = devConfig ∧ s.locked = false))) ∧
    (∃ (s : State) (key : BitVec 16), s.dsgRun = false ∧ key ≠ 61534#16) ∧
    (∃ (s : State), s.dsgRun = false ∧ s.dev = devConfig ∧ s.locked = false ∧ s.fuse.flock = false ∧ s.fuse.op = none ∧ (1 = 1 → s.fuse.cust
      = false) ∧ (1 = 2 → s.fuse.cust = true)) ∧
    (∃ (s : State), s.dsgRun = false ∧ (¬(s.dev = devConfig ∧ s.locked = false ∧ s.fuse.flock = false ∧ s.fuse.op = none ∧ (1 = 1 →
      s.fuse.cust = false) ∧ (1 = 2 → s.fuse.cust = true)))) ∧
    (∃ (s : State), s.dsgRun = false ∧ s.dev = devConfig ∧ s.locked = false ∧ s.fuse.flock = false ∧ s.fuse.op = none ∧ (2 = 1 → s.fuse.cust
      = false) ∧ (2 = 2 → s.fuse.cust = true)) ∧
    (∃ (s : State), s.dsgRun = false ∧ (¬(s.dev = devConfig ∧ s.locked = false ∧ s.fuse.flock = false ∧ s.fuse.op = none ∧ (2 = 1 →
      s.fuse.cust = false) ∧ (2 = 2 → s.fuse.cust = true)))) ∧
    (∃ (s : State), s.dsgRun = false ∧ s.dev = devConfig ∧ s.locked = false ∧ s.fuse.flock = false ∧ s.fuse.op = none ∧ (3 = 1 → s.fuse.cust
      = false) ∧ (3 = 2 → s.fuse.cust = true)) ∧
    (∃ (s : State), s.dsgRun = false ∧ (¬(s.dev = devConfig ∧ s.locked = false ∧ s.fuse.flock = false ∧ s.fuse.op = none ∧ (3 = 1 →
      s.fuse.cust = false) ∧ (3 = 2 → s.fuse.cust = true)))) ∧
    (∃ (s : State) (op : Nat) (t0 : Nat), s.dsgRun = false ∧ s.fuse.op = some (op, t0) ∧ 1 ≤ op ∧ op ≤ 3) :=
  ⟨⟨{mem := [(536870912, 0x49#8), (536870913, 0x44#8), (536870914, 0x4d#8), (536870915, 0x4e#8), (536870916, 1#8), (536870921, 0xa6#8), (536870922, 0x2f#8)], boot := {pll := true}, fuse := {cust := true}},
      3#2, 0, by decide +kernel⟩,
    ⟨{mem := [(540016640, 0x49#8), (540016641, 0x44#8), (540016642, 0x4d#8), (540016643, 0x4e#8), (540016644, 1#8), (540016649, 0xa6#8), (540016650, 0x2f#8)], boot := {pll := true}, fuse := {cust := true}},
      2#2, 0, by decide +kernel⟩,
    ⟨{regs := [(.SYS_STRAP, 2#32)], boot := {pll := true}}, 2#2, 0, by decide +kernel⟩,
    ⟨{boot := {pll := true}}, 1#2, 0, by decide +kernel⟩,
    ⟨{regs := [(.HLM_STATUS, 0x20000#32)], boot := {pads := .passed, image := true}}, 0, by decide +kernel⟩,
    ⟨{}, by decide +kernel⟩,
    ⟨{}, 0x100#16, by decide +kernel⟩,
    ⟨{}, 2#16, by decide +kernel⟩,
    ⟨{regs := [(.SYS_STATE, 1#32)]}, by decide +kernel⟩,
    ⟨{}, by decide +kernel⟩,
    ⟨{regs := [(.SYS_STATE, 1#32)], fuse := {cust := true}}, by decide +kernel⟩,
    ⟨{}, by decide +kernel⟩,
    ⟨{regs := [(.SYS_STATE, 1#32)]}, by decide +kernel⟩,
    ⟨{}, by decide +kernel⟩,
    ⟨{fuse := {op := some (1, 2)}}, 1, 2, by decide +kernel⟩⟩

/-! ## Witnesses written out -/

theorem witness_AccessCodesGovernRegisterWrites :
    (∃ (r : Reg) (row : FieldRow), row ∈ r.rows ∧ (row.acc = .ro ∨ row.acc = .wo ∨ row.acc = .w1s)) ∧
    (∃ (r : Reg) (row : FieldRow), row ∈ r.rows ∧ row.acc = .rw) ∧ (∃ (r : Reg) (row : FieldRow), row ∈ r.rows ∧ row.acc = .rwl) ∧
    (∃ (r : Reg) (row : FieldRow), row ∈ r.rows ∧ row.acc = .rwc) ∧
    (∃ (r : Reg) (row : FieldRow) (i : Nat), row ∈ r.rows ∧ row.acc = .w1c ∧ row.lo ≤ i ∧ i < row.lo + row.width) ∧
    (∃ (r : Reg) (i : Nat), ∀ row ∈ r.rows, ¬ (row.lo ≤ i ∧ i < row.lo + row.width)) :=
  ⟨⟨.SYS_STATE, _, .head _, by decide⟩, ⟨.SYS_IRQ_EN, _, .head _, by decide⟩, ⟨.QNC_ROUTE 0, _, .head _, by decide⟩,
    ⟨.PWM_G_CFG 0, _, .head _, by decide⟩, ⟨.SYS_STATUS, _, 0, .head _, by decide⟩, ⟨.SYS_STATE, 31, by decide⟩⟩

theorem witness_MailboxSlotsKeepOneOwner :
    ∃ (s : State) (c : Instr) (rest : List Instr), s.pending = c :: rest ∧ slotCommand c ∧ s.mbx.oldCyc ≠ some s.perCycle ∧ slotsOk s ∧
      s.mbx.order = [3] :=
  ⟨({ pending := [.submit 1#8], mbx := { order := [3] } } : State).wr .MBX_SLOTS 0x108#32, _, _, rfl,
    .inr (.inr (.inr (.inr (.inl ⟨_, .inl rfl⟩)))), by decide, by unfold slotsOk; decide +kernel, rfl⟩

/-- The device in a state with a command frame of an opcode and payload submitted in slot 0. -/
def felAt (dev op : Nat) (pay : List Byte) : State :=
  ((({ mem := putBytes (slotBase 0) (leBytes op 2 ++ leBytes 7 2 ++ leBytes pay.length 2 ++ List.replicate 10 0#8 ++ pay) [],
       mbx := { order := [0] } } : State).wr .MBX_SLOTS 1#32).setF Fld.MBX_CTL_UP 1).setF Fld.SYS_STATE_DEV_STATE dev

theorem felNext_of {s : State} {i : Fin 8} (h : s.mbx.oldCyc = none)
    (g : s.mbx.run = none ∧ s.mbx.order.head? = some i ∧ felServes s = true ∧ isSubmitted (s.rd .MBX_SLOTS) i = true) : felNext s i :=
  ⟨g.1, g.2.1, g.2.2.1, by simp [h], g.2.2.2, by simp [h]⟩

theorem felAccepted_of {s : State} {i : Fin 8} {op : Nat} {sig : Bool} (h : s.mbx.oldCyc = none)
    (g : s.mbx.run = none ∧ s.mbx.order.head? = some i ∧ felServes s = true ∧ isSubmitted (s.rd .MBX_SLOTS) i = true)
    (k : (frameOf s i).op = op ∧ (frameOf s i).len ≤ 240 ∧ (felRules s (frameOf s i) sig op).1 = true ∧
      firstOff (felRules s (frameOf s i) sig op).2.1 = none ∧ s.dev ∈ (felRules s (frameOf s i) sig op).2.2.1) : felAccepted s i op sig :=
  ⟨felNext_of h g, k⟩

/-- What felAccepted asks of slot 0 in a state without a slot change in its cycle, as a Bool. -/
def felOk (s : State) (op : Nat) (sig : Bool) : Bool :=
  decide (s.mbx.oldCyc = none) && decide (s.mbx.run = none ∧ s.mbx.order.head? = some 0 ∧ felServes s = true ∧
    isSubmitted (s.rd .MBX_SLOTS) 0 = true) && decide ((frameOf s 0).op = op ∧ (frameOf s 0).len ≤ 240 ∧
    (felRules s (frameOf s 0) sig op).1 = true ∧ firstOff (felRules s (frameOf s 0) sig op).2.1 = none ∧
    s.dev ∈ (felRules s (frameOf s 0) sig op).2.2.1)

theorem felAccepted_of_ok {s : State} {op : Nat} {sig : Bool} (h : felOk s op sig = true) : felAccepted s 0 op sig := by
  simp only [felOk, Bool.and_eq_true, decide_eq_true_eq] at h
  exact felAccepted_of h.1.1 h.1.2 h.2

theorem witness_FelyeneStatusCommands :
    (∀ x ∈ [(0x0100, []), (0x0101, []), (0x0202, [3#8, 0#8, 0#8, 0#8]), (0x0302, [7#8, 0#8, 0#8, 0#8]), (0x0403, []),
        (0x0602, [2#8, 4#8, 0#8, 0#8]), (0x0700, [3#8, 0#8, 0#8, 0#8]), (0x0800, []), (0x0902, []), (0x0A01, []),
        (0x0104, [0#8, 0#8, 0#8, 0x40#8, 1#8, 0#8, 0#8, 0#8]), (0x0901, [0#8, 0#8, 60#8, 0#8])],
      felAccepted (felAt devRun x.1 x.2) 0 x.1 false) ∧
    (∃ (s : State) (ch : Nat → Fin 61), (∀ k, k < (frameOf s.atWrite 0).b 0 → (ch k).val = (frameOf s.atWrite 0).b (4 + k)) ∧ felAccepted s 0 0x0500 false) ∧
    (∃ (s : State) (ch : Nat → Fin 32), (∀ k, k < (frameOf s.atWrite 0).b 0 → (ch k).val = (frameOf s.atWrite 0).b (4 + k)) ∧ felAccepted s 0 0x0501 false) := by
  refine ⟨?_, ⟨felAt devRun 0x0500 [1#8, 0#8, 0#8, 0#8, 60#8, 0#8, 0#8, 0#8], fun _ => 60, by decide +kernel, felAccepted_of_ok (by decide +kernel)⟩,
    ⟨felAt devRun 0x0501 [1#8, 0#8, 0#8, 0#8, 31#8, 0#8, 0#8, 0#8], fun _ => 31, by decide +kernel, felAccepted_of_ok (by decide +kernel)⟩⟩
  have h : ([(0x0100, []), (0x0101, []), (0x0202, [3#8, 0#8, 0#8, 0#8]), (0x0302, [7#8, 0#8, 0#8, 0#8]), (0x0403, []),
        (0x0602, [2#8, 4#8, 0#8, 0#8]), (0x0700, [3#8, 0#8, 0#8, 0#8]), (0x0800, []), (0x0902, []), (0x0A01, []),
        (0x0104, [0#8, 0#8, 0#8, 0x40#8, 1#8, 0#8, 0#8, 0#8]), (0x0901, [0#8, 0#8, 60#8, 0#8])] : List (Nat × List Byte)).all
      (fun x => felOk (felAt devRun x.1 x.2) x.1 false) = true := by decide +kernel
  exact fun x hx => felAccepted_of_ok (List.all_eq_true.mp h x hx)

/-- A state in which a command of an opcode waits in slot 0. -/
def felWaiting (op : Nat) : State :=
  { felAt devRun op [] with mbx := { order := [0], run := some { slot := 0, op := op, tag := 7, dev := devRun, at_ := 0 } } }

/-- An image in slot 0 (R486). -/
def withImage (s : State) : State := { s with mem := memSetWord (memSetWord s.mem 0x20000000 0x4E4D4449#32) 0x20000004 1#32 }

theorem witness_FelyeneControlCommands_state :
    (∃ s, felAccepted s 0 0x0102 false ∧ s.sys.causeCyc ≠ some s.perCycle ∧ isRequest (.requestArmed 0xC3A5#16) 0xC3A5#16 ((frameOf s 0).b 0) ∧
      agentChange s ((frameOf s 0).b 0)) ∧
    (∃ s, felAccepted s 0 0x0102 false ∧ s.sys.causeCyc ≠ some s.perCycle ∧ isRequest (.requestConfig 0xC3A5#16) 0xC3A5#16 ((frameOf s 0).b 0) ∧
      ¬ agentChange s ((frameOf s 0).b 0)) ∧
    (∃ s, felAccepted s 0 0x0102 false ∧ s.sys.causeCyc ≠ some s.perCycle ∧ (frameOf s 0).b 0 = devFault) ∧
    (∃ s, felAccepted s 0 0x0A00 false ∧ s.sys.causeCyc ≠ some s.perCycle ∧ s.flag Fld.SYS_STRAP_DBG = true) ∧
    (∃ s, felAccepted s 0 0x0A00 false ∧ s.sys.causeCyc ≠ some s.perCycle ∧ s.flag Fld.SYS_STRAP_DBG = false) ∧
    (∃ s, felAccepted s 0 0x0107 false) ∧ (∃ s, felAccepted s 0 0x0106 false) ∧
    (∃ s, felAccepted s 0 0x0103 false ∧ s.locked = true) ∧ (∃ s, felAccepted s 0 0x0103 false ∧ s.locked = false) ∧
    (∃ s r, felWaits s 0 0x0103 r ∧ s.flag Fld.ANV_PSTAT_DONE = false) ∧
    (∃ s r, felWaits s 0 0x0103 r ∧ s.flag Fld.ANV_PSTAT_DONE = true ∧ s.flag Fld.ANV_PSTAT_RANGE_ERR = true) ∧
    (∃ s r, felWaits s 0 0x0103 r ∧ s.flag Fld.ANV_PSTAT_DONE = true ∧ s.flag Fld.ANV_PSTAT_RANGE_ERR = false) ∧
    (∃ s, felAccepted s 0 0x0105 false ∧ isSubmitted (s.rd .MBX_SLOTS) 0 = true) ∧
    (∃ s, felAccepted s 0 0x0900 false ∧ s.locked = true) ∧ (∃ s, felAccepted s 0 0x0900 false ∧ s.locked = false) :=
  ⟨⟨(felAt devStandby 0x0102 [3#8, 0#8, 0#8, 0#8]).setF Fld.ANV_STATUS_SV_STATE svEnabled, felAccepted_of_ok (by decide +kernel), by decide +kernel,
      .inr (.inr (.inl (by decide +kernel))), by unfold agentChange; decide +kernel⟩,
    ⟨felAt devRun 0x0102 [1#8, 0#8, 0#8, 0#8], felAccepted_of_ok (by decide +kernel), by decide +kernel, .inl (by decide +kernel), by unfold agentChange; decide +kernel⟩,
    ⟨felAt devRun 0x0102 [6#8, 0#8, 0#8, 0#8], felAccepted_of_ok (by decide +kernel), by decide +kernel⟩,
    ⟨(felAt devRun 0x0A00 [0x60#8, 0xDB#8, 0#8, 0#8]).setF Fld.SYS_STRAP_DBG 1, felAccepted_of_ok (by decide +kernel), by decide +kernel⟩,
    ⟨felAt devRun 0x0A00 [0x60#8, 0xDB#8, 0#8, 0#8], felAccepted_of_ok (by decide +kernel), by decide +kernel⟩,
    ⟨felAt devConfig 0x0107 [0x57#8, 0x7E#8, 0#8, 0#8], felAccepted_of_ok (by decide +kernel)⟩,
    ⟨felAt devRun 0x0106 [1#8, 0#8, 0#8, 0#8], felAccepted_of_ok (by decide +kernel)⟩,
    ⟨(felAt devConfig 0x0103 []).setF Fld.SYS_STATE_CFG_LOCKED 1, felAccepted_of_ok (by decide +kernel), by decide +kernel⟩,
    ⟨felAt devConfig 0x0103 [], felAccepted_of_ok (by decide +kernel), by decide +kernel⟩,
    ⟨felWaiting 0x0103, _, ⟨rfl, by decide +kernel⟩, by decide +kernel⟩,
    ⟨((felWaiting 0x0103).setF Fld.ANV_PSTAT_DONE 1).setF Fld.ANV_PSTAT_RANGE_ERR 1, _, ⟨rfl, by decide +kernel⟩, by decide +kernel⟩,
    ⟨(felWaiting 0x0103).setF Fld.ANV_PSTAT_DONE 1, _, ⟨rfl, by decide +kernel⟩, by decide +kernel⟩,
    ⟨felAt devRun 0x0105 [0#8, 0#8, 2#8, 0x40#8, 0xFF#8, 0#8, 0#8, 0#8, 1#8, 0#8, 0#8, 0#8], felAccepted_of_ok (by decide +kernel), by decide +kernel⟩,
    ⟨(felAt devConfig 0x0900 [0x0C#8, 0#8, 0#8, 0#8, 0#8, 0#8, 0#8, 0#8]).setF Fld.SYS_STATE_CFG_LOCKED 1, felAccepted_of_ok (by decide +kernel),
      by decide +kernel⟩,
    ⟨felAt devConfig 0x0900 [0x0C#8, 0#8, 0#8, 0#8, 0#8, 0#8, 0#8, 0#8], felAccepted_of_ok (by decide +kernel), by decide +kernel⟩⟩

theorem witness_FelyeneControlCommands_actions :
    (∃ s, felAccepted s 0 0x0200 false ∧ ((frameOf s 0).b 1 = wGet (axisBefore s) (4 * (frameOf s 0).axis.val) 3 ∨
      axisOk s (frameOf s 0).axis (wGet (axisBefore s) (4 * (frameOf s 0).axis.val) 3) ((frameOf s 0).b 1) = true)) ∧
    (∃ s, felAccepted s 0 0x0200 false ∧ ¬ ((frameOf s 0).b 1 = wGet (axisBefore s) (4 * (frameOf s 0).axis.val) 3 ∨
      axisOk s (frameOf s 0).axis (wGet (axisBefore s) (4 * (frameOf s 0).axis.val) 3) ((frameOf s 0).b 1) = true)) ∧
    (∃ s, felAccepted s 0 0x0201 false ∧ s.axis (frameOf s 0).axis = axHold) ∧
    (∃ s, felAccepted s 0 0x0201 false ∧ s.axis (frameOf s 0).axis ≠ axHold) ∧
    (∃ s, felAccepted s 0 0x0203 false) ∧
    (∃ s, felAccepted s 0 0x0204 false ∧ s.pwm.chk.isSome = true) ∧
    (∃ s, felAccepted s 0 0x0204 false ∧ ∃ g, patNamed s g ((frameOf s 0).b 0) = true) ∧
    (∃ s, felAccepted s 0 0x0204 false ∧ ¬ (s.pwm.chk.isSome = true ∨ ∃ g, patNamed s g ((frameOf s 0).b 0) = true) ∧
      (frameOf s 0).h 12 + (frameOf s 0).b 1 ≤ 32512) ∧
    (∃ s r, felWaits s 0 0x0204 r ∧ s.pwm.chk.isSome = true) ∧
    (∃ s r, felWaits s 0 0x0204 r ∧ s.pwm.chk = none ∧ s.flag Fld.PWM_PAT_CHK_OK = true) ∧
    (∃ s r, felWaits s 0 0x0204 r ∧ s.pwm.chk = none ∧ s.flag Fld.PWM_PAT_CHK_OK = false) ∧
    (∃ s, felAccepted s 0 0x0300 false ∧ (if (frameOf s 0).b 1 = 1 then auxStartBad (frameOf s 0).chan s else if (frameOf s 0).b 1 = 2 then auxStopBad (frameOf s 0).chan s
      else auxClearBad (frameOf s 0).chan s) = true) ∧
    (∃ s, felAccepted s 0 0x0300 false ∧ (if (frameOf s 0).b 1 = 1 then auxStartBad (frameOf s 0).chan s else if (frameOf s 0).b 1 = 2 then auxStopBad (frameOf s 0).chan s
      else auxClearBad (frameOf s 0).chan s) = false) ∧
    (∃ s, felAccepted s 0 0x0301 false) ∧
    (∃ s, felAccepted s 0 0x0400 false ∧ (frameOf s 0).b 0 = 1 ∧ s.pch = 0 ∧ (s.dsg = 0 ∨ s.dsg = 4)) ∧
    (∃ s, felAccepted s 0 0x0400 false ∧ (frameOf s 0).b 0 = 1 ∧ ¬ (s.pch = 0 ∧ (s.dsg = 0 ∨ s.dsg = 4))) ∧
    (∃ s, felAccepted s 0 0x0400 false ∧ (frameOf s 0).b 0 = 2) ∧
    (∃ (s : State) (c : Fin 2), felAccepted s 0 0x0401 false ∧ c.val = (frameOf s 0).b 0 ∧ (frameOf s 0).b 1 = 0) ∧
    (∃ (s : State) (c : Fin 2), felAccepted s 0 0x0401 false ∧ c.val = (frameOf s 0).b 0 ∧ (frameOf s 0).b 1 ≠ 0 ∧ s.pch ≠ pchClosed) ∧
    (∃ (s : State) (c : Fin 2), felAccepted s 0 0x0401 false ∧ c.val = (frameOf s 0).b 0 ∧ (frameOf s 0).b 1 ≠ 0 ∧ s.pch = pchClosed ∧ s.gRun 5 = true ∧
      (s.mbx.conv[c]).1 = (frameOf s 0).b 1) ∧
    (∃ (s : State) (c : Fin 2), felAccepted s 0 0x0401 false ∧ c.val = (frameOf s 0).b 0 ∧ (frameOf s 0).b 1 ≠ 0 ∧ s.pch = pchClosed ∧ s.gRun 5 = false) ∧
    (∃ s, felAccepted s 0 0x0402 false ∧ s.dsgRun = false) ∧
    (∃ s, felAccepted s 0 0x0402 false ∧ s.dsgRun = true ∧ s.dcl.dsgT0 / 4 = s.perCycle) ∧
    (∃ s, felAccepted s 0 0x0402 false ∧ s.dsgRun = true ∧ s.dcl.dsgT0 / 4 ≠ s.perCycle) ∧
    (∃ s, felAccepted s 0 0x0600 false) ∧
    (∃ s r, felWaits s 0 0x0600 r ∧ 0 ≤ (s.hlm.seq - BitVec.ofNat 32 r.arg).toInt) ∧
    (∃ s r, felWaits s 0 0x0600 r ∧ ¬ 0 ≤ (s.hlm.seq - BitVec.ofNat 32 r.arg).toInt ∧ r.at_ + 1200000 ≤ s.atWrite.time) ∧
    (∃ s r, felWaits s 0 0x0600 r ∧ ¬ 0 ≤ (s.hlm.seq - BitVec.ofNat 32 r.arg).toInt ∧ s.atWrite.time < r.at_ + 1200000) ∧
    (∃ s, felAccepted s 0 0x0601 false ∧ s.flag Fld.HLM_STATUS_BUSY = true) ∧
    (∃ s, felAccepted s 0 0x0601 false ∧ s.flag Fld.HLM_STATUS_BUSY = false) ∧
    (∃ s r, felWaits s 0 0x0601 r ∧ s.hlm.phase = .copySnap) ∧
    (∃ s r, felWaits s 0 0x0601 r ∧ s.hlm.phase ≠ .copySnap) ∧
    (∃ s, felAccepted s 0 0x0603 false) ∧
    (∃ (s : State) (c : Fin 4) (half : Fin 2), felAccepted s 0 0x0701 false ∧ c.val = (frameOf s 0).b 0 ∧ half.val = (frameOf s 0).b 1 / 32) ∧
    (∃ s, s.hlm.phase ≠ .writing ∧ felAccepted s 0 0x0801 false ∧ s.mbx.fw ≠ none) ∧
    (∃ s, s.hlm.phase ≠ .writing ∧ felAccepted s 0 0x0801 false ∧ s.mbx.fw = none) ∧
    (∃ s, s.hlm.phase ≠ .writing ∧ felAccepted s 0 0x0802 false ∧ s.mbx.fw = none) ∧
    (∃ (s : State) (x : FwSess), s.hlm.phase ≠ .writing ∧ felAccepted s 0 0x0802 false ∧ s.mbx.fw = some x) ∧
    (∃ s, s.hlm.phase ≠ .writing ∧ felAccepted s 0 0x0803 false ∧ s.mbx.fw = none) ∧
    (∃ (s : State) (x : FwSess), s.hlm.phase ≠ .writing ∧ felAccepted s 0 0x0803 true ∧ s.mbx.fw = some x ∧ imgOk (s.setMemW (0x20000000 + 0x300000 * x.slot.val) x.magic) x.slot true = true ∧ s.dev ≠ devBoot) ∧
    (∃ (s : State) (x : FwSess), s.hlm.phase ≠ .writing ∧ felAccepted s 0 0x0803 true ∧ s.mbx.fw = some x ∧ imgOk (s.setMemW (0x20000000 + 0x300000 * x.slot.val) x.magic) x.slot true = true ∧ s.dev = devBoot) ∧
    (∃ (s : State) (x : FwSess), s.hlm.phase ≠ .writing ∧ felAccepted s 0 0x0803 false ∧ s.mbx.fw = some x ∧ imgOk (s.setMemW (0x20000000 + 0x300000 * x.slot.val) x.magic) x.slot false = false ∧ s.dev ≠ devBoot) ∧
    (∃ (s : State) (x : FwSess), s.hlm.phase ≠ .writing ∧ felAccepted s 0 0x0803 false ∧ s.mbx.fw = some x ∧ imgOk (s.setMemW (0x20000000 + 0x300000 * x.slot.val) x.magic) x.slot false = false ∧ s.dev = devBoot ∧ s.dsgRun = false) ∧
    (∃ s, s.hlm.phase ≠ .writing ∧ felAccepted s 0 0x0804 true) :=
  ⟨⟨felAt devRun 0x0200 [0#8, 3#8, 0#8, 0#8], felAccepted_of_ok (by decide +kernel), by decide +kernel⟩,
    ⟨(felAt devRun 0x0200 [0#8, 3#8, 0#8, 0#8]).setF Fld.SYS_AX_STATE_AX0 5, felAccepted_of_ok (by decide +kernel), by decide +kernel⟩,
    ⟨(felAt devRun 0x0201 [0#8, 0#8, 0#8, 0#8, 0#8, 0#8, 0#8, 0#8, 0#8, 0#8, 0#8, 0#8, 0#8, 0#8, 0#8, 0#8]).setF Fld.SYS_AX_STATE_AX0 5, felAccepted_of_ok (by decide +kernel), by decide +kernel⟩,
    ⟨felAt devRun 0x0201 [0#8, 0#8, 0#8, 0#8, 0#8, 0#8, 0#8, 0#8, 0#8, 0#8, 0#8, 0#8, 0#8, 0#8, 0#8, 0#8], felAccepted_of_ok (by decide +kernel), by decide +kernel⟩,
    ⟨felAt devRun 0x0203 [3#8, 0#8, 0#8, 0#8, 1#8, 0#8, 0#8, 0#8], felAccepted_of_ok (by decide +kernel)⟩,
    ⟨{ felAt devRun 0x0204 [0x3f#8, 1#8, 0#8, 0#8, 0#8, 0#8, 0#8, 0#8, 0#8, 0#8, 0#8, 0#8, 0#8, 0#8, 0#8, 0#8, 0#8, 0#8, 0#8, 0#8] with pwm := { chk := some (5, 0, 1) } }, felAccepted_of_ok (by decide +kernel), by decide +kernel⟩,
    ⟨((felAt devRun 0x0204 [0x3f#8, 1#8, 0#8, 0#8, 0#8, 0#8, 0#8, 0#8, 0#8, 0#8, 0#8, 0#8, 0#8, 0#8, 0#8, 0#8, 0#8, 0#8, 0#8, 0#8]).setF (Fld.PWM_G_CFG_MODE 0) 4).setF (Fld.PWM_G_PSEL_PSEL 0) 63, felAccepted_of_ok (by decide +kernel), ⟨0, by decide +kernel⟩⟩,
    ⟨felAt devRun 0x0204 [0x3f#8, 1#8, 0#8, 0#8, 0#8, 0#8, 0#8, 0#8, 0#8, 0#8, 0#8, 0#8, 0#8, 0#8, 0#8, 0#8, 0#8, 0#8, 0#8, 0#8], felAccepted_of_ok (by decide +kernel), by decide +kernel⟩,
    ⟨{ felWaiting 0x0204 with pwm := { chk := some (5, 0, 1) } }, _, ⟨rfl, by decide +kernel⟩, by decide +kernel⟩,
    ⟨(felWaiting 0x0204).setF Fld.PWM_PAT_CHK_OK 1, _, ⟨rfl, by decide +kernel⟩, by decide +kernel⟩,
    ⟨felWaiting 0x0204, _, ⟨rfl, by decide +kernel⟩, by decide +kernel⟩,
    ⟨felAt devRun 0x0300 [7#8, 2#8, 0#8, 0#8], felAccepted_of_ok (by decide +kernel), by decide +kernel⟩,
    ⟨(felAt devRun 0x0300 [7#8, 3#8, 0#8, 0#8]).setF (Fld.AUX_CH_STATUS_STATE 7) auxFault, felAccepted_of_ok (by decide +kernel), by decide +kernel⟩,
    ⟨felAt devRun 0x0301 [7#8, 0#8, 0xff#8, 0xff#8], felAccepted_of_ok (by decide +kernel)⟩,
    ⟨felAt devStandby 0x0400 [1#8, 0#8, 0#8, 0#8], felAccepted_of_ok (by decide +kernel), by decide +kernel⟩,
    ⟨(felAt devStandby 0x0400 [1#8, 0#8, 0#8, 0#8]).setF Fld.PWM_DSC_PCH_STAT_PCH_STATE 3, felAccepted_of_ok (by decide +kernel), by decide +kernel⟩,
    ⟨felAt devConfig 0x0400 [2#8, 0#8, 0#8, 0#8], felAccepted_of_ok (by decide +kernel), by decide +kernel⟩,
    ⟨felAt devRun 0x0401 [1#8, 0#8, 0#8, 0#8, 0#8, 0#8, 0#8, 0#8], 1, felAccepted_of_ok (by decide +kernel), by decide +kernel⟩,
    ⟨felAt devRun 0x0401 [1#8, 2#8, 0#8, 0#8, 0#8, 0#8, 0#8, 0#8], 1, felAccepted_of_ok (by decide +kernel), by decide +kernel⟩,
    ⟨({ felAt devRun 0x0401 [1#8, 2#8, 0#8, 0#8, 0#8, 0#8, 0#8, 0#8] with mbx := { order := [0], conv := vset (Vector.replicate 2 (0, 0#32)) 1 (2, 0#32) } }.setF
      Fld.PWM_DSC_PCH_STAT_PCH_STATE pchClosed).setF (Fld.PWM_G_STATUS_RUN 5) 1, 1, felAccepted_of_ok (by decide +kernel), by decide +kernel⟩,
    ⟨(felAt devRun 0x0401 [1#8, 2#8, 0#8, 0#8, 0#8, 0#8, 0#8, 0#8]).setF Fld.PWM_DSC_PCH_STAT_PCH_STATE pchClosed, 1, felAccepted_of_ok (by decide +kernel), by decide +kernel⟩,
    ⟨felAt devRun 0x0402 [0x5a#8, 0xa5#8, 0#8, 0#8], felAccepted_of_ok (by decide +kernel), by decide +kernel⟩,
    ⟨(felAt devRun 0x0402 [0x5a#8, 0xa5#8, 0#8, 0#8]).setF Fld.PWM_DSC_DSG_STAT_DSG_STATE 2, felAccepted_of_ok (by decide +kernel), by decide +kernel⟩,
    ⟨{ felAt devRun 0x0402 [0x5a#8, 0xa5#8, 0#8, 0#8] with time := 8 }.setF Fld.PWM_DSC_DSG_STAT_DSG_STATE 2, felAccepted_of_ok (by decide +kernel), by decide +kernel⟩,
    ⟨felAt devRun 0x0600 [], felAccepted_of_ok (by decide +kernel)⟩,
    ⟨felWaiting 0x0600, _, ⟨rfl, by decide +kernel⟩, by decide +kernel⟩,
    ⟨{ felWaiting 0x0600 with mbx := { order := [0], run := some { slot := 0, op := 0x0600, tag := 7, dev := devRun, at_ := 0, arg := 1 } }, time := 1200000 }, _, ⟨rfl, by decide +kernel⟩, by decide +kernel⟩,
    ⟨{ felWaiting 0x0600 with mbx := { order := [0], run := some { slot := 0, op := 0x0600, tag := 7, dev := devRun, at_ := 0, arg := 1 } }, time := 1199999 }, _, ⟨rfl, by decide +kernel⟩, by decide +kernel⟩,
    ⟨(felAt devRun 0x0601 []).setF Fld.HLM_STATUS_BUSY 1, felAccepted_of_ok (by decide +kernel), by decide +kernel⟩,
    ⟨felAt devRun 0x0601 [], felAccepted_of_ok (by decide +kernel), by decide +kernel⟩,
    ⟨{ felWaiting 0x0601 with hlm := { phase := .copySnap } }, _, ⟨rfl, by decide +kernel⟩, by decide +kernel⟩,
    ⟨felWaiting 0x0601, _, ⟨rfl, by decide +kernel⟩, by decide +kernel⟩,
    ⟨felAt devConfig 0x0603 [0xf#8, 0#8, 0#8, 0#8], felAccepted_of_ok (by decide +kernel)⟩,
    ⟨(felAt devRun 0x0701 [3#8, 0x3f#8, 0#8, 0#8, 0#8, 0#8, 0#8, 0#8, 0#8, 0#8, 0#8, 0#8]).setF (Fld.LB_CTL_MODE 3) 1, 3, 1, felAccepted_of_ok (by decide +kernel), by decide +kernel⟩,
    ⟨{ felAt devConfig 0x0801 [1#8, 0#8, 0#8, 0#8, 4#8, 0#8, 0#8, 0#8] with mbx := { order := [0], fw := some { slot := 0, size := 12 } } }, by decide +kernel, felAccepted_of_ok (by decide +kernel), by decide +kernel⟩,
    ⟨felAt devConfig 0x0801 [1#8, 0#8, 0#8, 0#8, 4#8, 0#8, 0#8, 0#8], by decide +kernel, felAccepted_of_ok (by decide +kernel), by decide +kernel⟩,
    ⟨felAt devConfig 0x0802 [0#8, 0#8, 0#8, 0#8, 0#8, 0#8, 0#8, 0#8], by decide +kernel, felAccepted_of_ok (by decide +kernel), by decide +kernel⟩,
    ⟨{ felAt devConfig 0x0802 [0#8, 0#8, 0#8, 0#8, 0#8, 0#8, 0#8, 0#8] with mbx := { order := [0], fw := some { slot := 0, size := 12 } } }, _, by decide +kernel, felAccepted_of_ok (by decide +kernel), rfl⟩,
    ⟨felAt devConfig 0x0803 (List.replicate 64 0#8), by decide +kernel, felAccepted_of_ok (by decide +kernel), by decide +kernel⟩,
    ⟨withImage { felAt devConfig 0x0803 (List.replicate 64 0#8) with mbx := { order := [0], fw := some { slot := 0, size := 12, magic := 0x4E4D4449#32 } } }, _, by decide +kernel, felAccepted_of_ok (by decide +kernel), rfl, by decide +kernel⟩,
    ⟨withImage { felAt devBoot 0x0803 (List.replicate 64 0#8) with mbx := { order := [0], fw := some { slot := 0, size := 12, magic := 0x4E4D4449#32 } } }, _, by decide +kernel, felAccepted_of_ok (by decide +kernel), rfl, by decide +kernel⟩,
    ⟨withImage { felAt devConfig 0x0803 (List.replicate 64 0#8) with mbx := { order := [0], fw := some { slot := 0, size := 12, magic := 0x4E4D4449#32 } } }, _, by decide +kernel, felAccepted_of_ok (by decide +kernel), rfl, by decide +kernel⟩,
    ⟨withImage { felAt devBoot 0x0803 (List.replicate 64 0#8) with mbx := { order := [0], fw := some { slot := 0, size := 12, magic := 0x4E4D4449#32 } } }, _, by decide +kernel, felAccepted_of_ok (by decide +kernel), rfl, by decide +kernel⟩,
    ⟨withImage (felAt devConfig 0x0804 [0#8, 0#8, 0#8, 0#8]), by decide +kernel, felAccepted_of_ok (by decide +kernel)⟩⟩

theorem witness_FelyeneJudgesACommand :
    (∃ s, felNext s 0 ∧ ∀ c' op' sig', felOp 0 c' op' sig' → op' ≠ (frameOf s 0).op) ∧
    (∃ s op, felOp 0 (.getInfo 0) op false ∧ felNext s 0 ∧ (frameOf s 0).op = op ∧ (felRules s (frameOf s 0) false op).1 = false) ∧
    (∃ s op, felOp 0 (.setState 0) op false ∧ felNext s 0 ∧ (frameOf s 0).op = op ∧ (frameOf s 0).len ≤ 240 ∧
      (felRules s (frameOf s 0) false op).1 = true ∧ firstOff (felRules s (frameOf s 0) false op).2.1 = some 0) ∧
    (∃ s op, felOp 0 (.lockConfig 0) op false ∧ felNext s 0 ∧ (frameOf s 0).op = op ∧ (frameOf s 0).len ≤ 240 ∧
      (felRules s (frameOf s 0) false op).1 = true ∧ firstOff (felRules s (frameOf s 0) false op).2.1 = none ∧
      s.dev ∉ (felRules s (frameOf s 0) false op).2.2.1) ∧
    (∃ s : State, s.mbx.run = none ∧ (s.mbx.order.head? ≠ some 1 ∨ felServes s = false)) ∧
    (∃ s, felNext s 0 ∧ (frameOf s 0).op ≠ 0x0100 ∧ ∃ c' sig', felOp 0 c' (frameOf s 0).op sig') ∧
    (∃ (s : State) (w : FelRun), s.mbx.run = some w ∧ (w.slot ≠ 1 ∨ w.op ≠ 0x0100)) :=
  ⟨⟨felAt devRun 0x0108 [], felNext_of rfl (by decide +kernel), fun c op sig h e => by
      rw [show (frameOf (felAt devRun 0x0108 []) 0).op = 0x0108 by decide +kernel] at e
      subst e; simp [felOp] at h⟩,
    ⟨felAt devRun 0x0100 [0#8], 0x0100, .inl ⟨rfl, rfl⟩, felNext_of rfl (by decide +kernel), by decide +kernel⟩,
    ⟨felAt devRun 0x0102 [8#8, 0#8, 0#8, 0#8], 0x0102, .inr (.inr (.inl ⟨rfl, rfl⟩)), felNext_of rfl (by decide +kernel), by decide +kernel⟩,
    ⟨felAt devRun 0x0103 [], 0x0103, .inr (.inr (.inr (.inl ⟨rfl, rfl⟩))), felNext_of rfl (by decide +kernel), by decide +kernel⟩,
    ⟨{}, by decide +kernel⟩,
    ⟨felAt devRun 0x0101 [], felNext_of rfl (by decide +kernel), by decide +kernel, .getState 0, false, .inr (.inl ⟨rfl, by decide +kernel⟩)⟩,
    ⟨felWaiting 0x0103, _, rfl, by decide +kernel⟩⟩

end Sys2Proof.Machine
end

section
/-! SUPPORT. The fields of a register's table lie inside the word and apart from each other, and what a write by access codes does to each
bit and field (R6, R7, R9, R10). -/

namespace Sys2Proof.Machine

open Sys2Proof

/-! ## Places of fields -/

/-- A bit belongs to the field of a row. -/
def FieldRow.covers (row : FieldRow) (i : Nat) : Prop := row.lo ≤ i ∧ i < row.lo + row.width

/-- Two rows share no bit. -/
abbrev FieldRow.apart (a b : FieldRow) : Prop := a.lo + a.width ≤ b.lo ∨ b.lo + b.width ≤ a.lo

/-- A table whose fields lie in a word of 32 bits, no two of them on a common bit. -/
abbrev TableOk (rows : List FieldRow) : Prop := (∀ row ∈ rows, row.lo + row.width ≤ 32) ∧ rows.Pairwise FieldRow.apart

theorem FieldRow.not_covers_of_apart {a b : FieldRow} (h : a.apart b) {i : Nat} (hi : a.covers i) : ¬ b.covers i := by
  unfold FieldRow.covers at *
  omega

/-- A row of a good table fits in a word, and the rows before and behind it are apart from it. -/
theorem TableOk.at_row {pre post : List FieldRow} {row : FieldRow} (h : TableOk (pre ++ row :: post)) :
    row.lo + row.width ≤ 32 ∧ (∀ a ∈ pre, row.apart a) ∧ ∀ a ∈ post, row.apart a := by
  obtain ⟨hfit, hapart⟩ := h
  obtain ⟨-, htail, hpre⟩ := List.pairwise_append.mp hapart
  exact ⟨hfit row (by simp), fun a ha => (hpre a ha row (by simp)).symm, fun a ha => List.rel_of_pairwise_cons htail ha⟩

/-- Every register's table is good. The registers taken one by one are those whose rows depend on their number. -/
theorem Reg.rows_ok (r : Reg) : TableOk r.rows := by
  apply of_decide_eq_true
  cases r with
  | PWM_G_CFG n => revert n; decide
  | PWM_G_OUT_EN n => revert n; decide
  | LB_CTL n => revert n; decide
  | _ => rfl

/-! ## Words field by field -/

theorem wGet_congr {w w' : Word} {lo width : Nat} (h : ∀ i, lo ≤ i → i < lo + width → w.getLsbD i = w'.getLsbD i) :
    wGet w lo width = wGet w' lo width := by
  apply Nat.eq_of_testBit_eq
  intro i
  rw [testBit_wGet, testBit_wGet]
  by_cases hi : i < width
  · rw [h _ (by omega) (by omega)]
  · simp [hi]

/-! ## One field of a write -/

/-- A write of one field leaves the bits outside the field. -/
theorem fieldWrite_outside (s : State) (r : Reg) (v w : Word) (row : FieldRow) (i : Nat) (h : ¬ row.covers i) :
    (fieldWrite s r v w row).getLsbD i = w.getLsbD i := by
  by_cases hi : i < 32
  · have hmask : (wMask row.lo row.width).getLsbD i = false := by
      rw [getLsbD_wMask _ _ _ hi]; simpa [FieldRow.covers] using h
    unfold fieldWrite
    split
    · simp [BitVec.getLsbD_and, BitVec.getLsbD_not, hmask, hi, -BitVec.getLsbD_eq_getElem]
    · split
      · rw [getLsbD_wPut _ _ _ _ _ hi]; exact if_neg h
      · rfl
  · rw [BitVec.getLsbD_of_ge _ _ (by omega), BitVec.getLsbD_of_ge _ _ (by omega)]

/-- A w1c bit is cleared by a 1 in the write, unless the hardware sets it in the same peripheral cycle (R6, R7). -/
theorem fieldWrite_w1c (s : State) (r : Reg) (v w : Word) (row : FieldRow) (i : Nat) (hacc : row.acc = .w1c) (hi : row.covers i)
    (h32 : i < 32) :
    (fieldWrite s r v w row).getLsbD i = (w.getLsbD i && !(v.getLsbD i && !(s.hotBits r).getLsbD i)) := by
  have hmask : (wMask row.lo row.width).getLsbD i = true := by
    rw [getLsbD_wMask _ _ _ h32]; simpa [FieldRow.covers] using hi
  simp [fieldWrite, hacc, hmask, h32, -BitVec.getLsbD_eq_getElem]

/-- Any other field reads as the write has it if it takes the value, and as before if not (R6, R10). -/
theorem wGet_fieldWrite (s : State) (r : Reg) (v w : Word) (row : FieldRow) (hacc : row.acc ≠ .w1c) (hfit : row.lo + row.width ≤ 32) :
    wGet (fieldWrite s r v w row) row.lo row.width =
      if fieldTakes s r v w row then wGet v row.lo row.width else wGet w row.lo row.width := by
  unfold fieldWrite
  rw [if_neg hacc]
  split
  · rw [wGet_wPut_same _ _ _ _ hfit, Nat.mod_eq_of_lt (wGet_lt _ _ _)]
  · rfl

@[simp] theorem accepts_rw (s : State) : s.accepts .rw = true := rfl
@[simp] theorem accepts_rwl (s : State) : s.accepts .rwl = !s.locked := rfl
@[simp] theorem accepts_rwc (s : State) : s.accepts .rwc = (s.dev = devConfig || s.dev = devSafe) := rfl
@[simp] theorem accepts_ro (s : State) : s.accepts .ro = false := rfl
@[simp] theorem accepts_wo (s : State) : s.accepts .wo = false := rfl
@[simp] theorem accepts_w1s (s : State) : s.accepts .w1s = false := rfl

/-- What it takes for a field to take a value: its access code accepts, and the value is not reserved (R6, R10). -/
theorem fieldTakes_iff (s : State) (r : Reg) (v w : Word) (row : FieldRow) :
    fieldTakes s r v w row = true ↔ s.accepts row.acc = true ∧
      (∀ p ∈ row.rsv, ¬ (p.1 ≤ wGet v row.lo row.width ∧ wGet v row.lo row.width ≤ p.2)) ∧
      rsvNow s r row.lo w (wGet v row.lo row.width) = false := by
  simp [fieldTakes, and_assoc]

/-- Of the written word itself, a reservation by reference looks at bits [7:0] of an AUX_CH_RAMP alone (R298). -/
theorem rsvNow_congr (s : State) (r : Reg) (lo : Nat) (w w' : Word) (x : Nat)
    (h : ∀ n, r = .AUX_CH_RAMP n → lo = 8 → wGet w 0 8 = wGet w' 0 8) : rsvNow s r lo w x = rsvNow s r lo w' x := by
  unfold rsvNow
  split
  next n =>
    by_cases hlo : lo = 8
    · rw [h n rfl hlo]
    · simp [hlo]
  all_goals rfl

/-! ## The whole register -/

/-- Fields written one after another leave a bit that none of them has. -/
theorem foldl_fieldWrite_outside (s : State) (r : Reg) (v w : Word) (rows : List FieldRow) (i : Nat) (h : ∀ row ∈ rows, ¬ row.covers i) :
    (rows.foldl (fieldWrite s r v) w).getLsbD i = w.getLsbD i := by
  induction rows generalizing w with
  | nil => rfl
  | cons row rows ih =>
    rw [List.foldl_cons, ih _ fun a ha => h a (by simp [ha]), fieldWrite_outside _ _ _ _ _ _ (h row (by simp))]

/-- A bit that no field names keeps its value. -/
theorem writeMerged_outside (s : State) (r : Reg) (v : Word) (i : Nat) (h : ∀ row ∈ r.rows, ¬ row.covers i) :
    (writeMerged s r v).getLsbD i = (s.rd r).getLsbD i := foldl_fieldWrite_outside s r v _ _ i h

/-- In the table of an AUX_CH_RAMP no row behind the one at bit 8 has a bit below 8. -/
theorem auxRamp_rows_behind (n : Fin 8) (pre post : List FieldRow) (row : FieldRow)
    (h : (Reg.AUX_CH_RAMP n).rows = pre ++ row :: post) (hlo : row.lo = 8) : ∀ a ∈ post, 8 ≤ a.lo := by
  have hsorted : (pre ++ row :: post).Pairwise fun a b => a.lo ≤ b.lo := by
    rw [← h]; simp [Reg.rows]
  obtain ⟨-, htail, -⟩ := List.pairwise_append.mp hsorted
  intro a ha
  have := List.rel_of_pairwise_cons htail ha
  omega

/-- Within a field, a register's write is the write of that field to some word that has the field as the register had it; and what is
reserved by reference is the same of that word and of the word at the end. -/
theorem writeMerged_at_row (s : State) (r : Reg) (v : Word) (row : FieldRow) (h : row ∈ r.rows) :
    row.lo + row.width ≤ 32 ∧ ∃ w, (∀ i, row.covers i → w.getLsbD i = (s.rd r).getLsbD i) ∧
      (∀ i, row.covers i → (writeMerged s r v).getLsbD i = (fieldWrite s r v w row).getLsbD i) ∧
      ∀ x, rsvNow s r row.lo w x = rsvNow s r row.lo (writeMerged s r v) x := by
  obtain ⟨pre, post, hrows⟩ := List.append_of_mem h
  obtain ⟨hfit, hpre, hpost⟩ := TableOk.at_row (hrows ▸ r.rows_ok)
  have hmerged : writeMerged s r v = post.foldl (fieldWrite s r v) (fieldWrite s r v (pre.foldl (fieldWrite s r v) (s.rd r)) row) := by
    simp only [writeMerged, hrows, List.foldl_append, List.foldl_cons]
  refine ⟨hfit, pre.foldl (fieldWrite s r v) (s.rd r), fun i hi => ?_, fun i hi => ?_, fun x => rsvNow_congr _ _ _ _ _ _ fun n hr hlo => ?_⟩
  · exact foldl_fieldWrite_outside _ _ _ _ _ _ fun a ha => FieldRow.not_covers_of_apart (hpre a ha) hi
  · rw [hmerged]
    exact foldl_fieldWrite_outside _ _ _ _ _ _ fun a ha => FieldRow.not_covers_of_apart (hpost a ha) hi
  · have hbehind := auxRamp_rows_behind n pre post row (hr ▸ hrows) hlo
    refine wGet_congr fun i _ hi => ?_
    have hrow : ¬ row.covers i := fun hc => by have := hc.1; omega
    have hpost8 : ∀ a ∈ post, ¬ a.covers i := fun a ha hc => by have := hbehind a ha; have := hc.1; omega
    rw [hmerged, foldl_fieldWrite_outside _ _ _ _ post _ hpost8, fieldWrite_outside _ _ _ _ _ _ hrow]

/-- A w1c field of a written register, bit by bit (R6, R7). -/
theorem writeMerged_w1c (s : State) (r : Reg) (v : Word) (row : FieldRow) (h : row ∈ r.rows) (hacc : row.acc = .w1c) (i : Nat)
    (hi : row.covers i) :
    (writeMerged s r v).getLsbD i = ((s.rd r).getLsbD i && !(v.getLsbD i && !(s.hotBits r).getLsbD i)) := by
  obtain ⟨hfit, w, hold, hnew, -⟩ := writeMerged_at_row s r v row h
  rw [hnew i hi, fieldWrite_w1c s r v w row i hacc hi (Nat.lt_of_lt_of_le hi.2 hfit), hold i hi]

/-- Any other field of a written register: the value of the write if the field takes it, and its own value if not (R6, R10). -/
theorem wGet_writeMerged (s : State) (r : Reg) (v : Word) (row : FieldRow) (h : row ∈ r.rows) (hacc : row.acc ≠ .w1c) :
    wGet (writeMerged s r v) row.lo row.width =
      if fieldTakes s r v (writeMerged s r v) row then wGet v row.lo row.width else wGet (s.rd r) row.lo row.width := by
  obtain ⟨hfit, w, hold, hnew, hrsv⟩ := writeMerged_at_row s r v row h
  have htakes : fieldTakes s r v w row = fieldTakes s r v (writeMerged s r v) row := by simp only [fieldTakes, hrsv]
  rw [wGet_congr fun i h1 h2 => hnew i ⟨h1, h2⟩, wGet_fieldWrite s r v w row hacc hfit, htakes,
    wGet_congr fun i h1 h2 => hold i ⟨h1, h2⟩]

@[simp] theorem rd_writePlain (r : Reg) (v : Word) (s : State) : (writePlain r v s).rd r = writeMerged s r v := rd_wr _ _ _

/-- A write by access codes changes its register alone. -/
theorem writePlain_onlyRegs (r : Reg) (v : Word) (s : State) : s.onlyRegs (writePlain r v s) [r] :=
  ⟨rfl, fun q hq => rd_wr_ne s r q _ (by simpa using hq)⟩

/-- Settles O3: a field of a write by access codes is judged on its own, because the rows of a table share no bit. -/
theorem accessCodesGovernRegisterWrites : Obligations.AccessCodesGovernRegisterWrites := by
  unfold Obligations.AccessCodesGovernRegisterWrites
  intro r v s
  refine ⟨fun row hrow => ?_, fun i hi => ?_, writePlain_onlyRegs r v s⟩
  · have htakes := fieldTakes_iff s r v (writeMerged s r v) row
    have hfield := wGet_writeMerged s r v row hrow
    simp only [rd_writePlain]
    refine ⟨?_, ?_, ?_, ?_, ?_⟩
    · rintro (h | h | h) <;> simp [hfield, htakes, h]
    · intro h; rw [hfield (by simp [h])]; exact if_congr (by simp [htakes, h]) rfl rfl
    · intro h; rw [hfield (by simp [h])]; exact if_congr (by simp [htakes, h]) rfl rfl
    · intro h; rw [hfield (by simp [h])]; exact if_congr (by simp [htakes, h]) rfl rfl
    · intro h i h1 h2; exact writeMerged_w1c s r v row hrow h i ⟨h1, h2⟩
  · rw [rd_writePlain]; exact writeMerged_outside s r v i hi

end Sys2Proof.Machine
end

section
/-! SUPPORT. The state right after reset (R11, R15, R20, R22). -/

namespace Sys2Proof.Machine

open Sys2Proof

/-- No register is listed after reset, so each reads as its table says (R11). -/
@[simp] theorem rd_reset (r : Reg) : State.reset.rd r = r.reset := rfl

/-- While the device is held in reset every gate pad floats. -/
theorem padLevel_of_hold (s : State) (p : Fin 140) (h : s.boot.hold ≠ 0#3) : padLevel s p = none := by simp [padLevel, h]

/-- A pad that floats switches nothing on. -/
theorem padQuiet_of_floating (s : State) (p : Fin 140) (h : padLevel s p = none) : padQuiet s p = true := by simp [padQuiet, h]

/-- A field of a register whose table resets to 0 reads 0 after reset. -/
theorem wGet_zero (lo width : Nat) : wGet 0#32 lo width = 0 := by simp [wGet]

/-- Settles O2: after reset no register is listed, no byte is listed, and the power-on hold is up. -/
theorem resetStateIsAsTheTablesSay : Obligations.ResetStateIsAsTheTablesSay := by
  unfold Obligations.ResetStateIsAsTheTablesSay
  have hpads : ∀ p, padLevel State.reset p = none := fun p => padLevel_of_hold _ p (by decide)
  have hax : ∀ n, State.reset.axis n = axOff := fun n => wGet_zero (4 * n.val) 3
  have haux : ∀ n, State.reset.auxSt n = auxOff := fun _ => wGet_zero 16 3
  exact ⟨rd_reset, rfl, rfl, hax, haux, rfl, rfl, fun _ => rfl, hpads, fun p => padQuiet_of_floating _ p (hpads p), rfl⟩

end Sys2Proof.Machine
end

section
/-! SUPPORT. A DMA channel enabled again in the peripheral cycle of a dropped request (R43, R44). -/

namespace Sys2Proof.Machine

open Sys2Proof

/-- Channel 0 is stopped, with a buffer in shared SRAM, and OVR set by a request dropped in the present peripheral cycle. -/
def dmaDropped : State :=
  { regs := [(.DMA_STATUS, 0x10000#32), (.DMA_CH_DST 0, 0x10000000#32)]
    dma := { ovrCyc := vset (Vector.replicate 16 none) 0 (some 0) } }

/-- Enabling the channel discards the requests of the cycle, and OVR with them (R44). -/
theorem dmaDropped_enable_status : (dmaCtlWrite 0 1#32 dmaDropped).rd .DMA_STATUS = 0#32 := by decide +kernel

theorem dmaDropped_status : dmaDropped.rd .DMA_STATUS = 0x10000#32 := by decide +kernel

/-- Refutes O8: an enabling write that is accepted also clears the channel's OVR bit of DMA_STATUS where a request was dropped in
its own peripheral cycle (R44), and the statement lets it change DMA_CHc_CTL and DMA_CHc_STAT alone. -/
theorem not_dmaChannels : ¬ Obligations.DmaChannels := by
  unfold Obligations.DmaChannels
  intro h
  obtain ⟨-, -, hctl, -, -⟩ := h dmaDropped
  obtain ⟨t, ht, -, -, hkeep, -⟩ := (hctl 0 1#32 (by decide +kernel) (by decide)).1 (by decide +kernel)
  have hexec : exec (.dmaChannelCtlWrite 0 1#32) dmaDropped = .next (dmaCtlWrite 0 1#32 dmaDropped) :=
    congrArg Host.Outcome.next (agentTurn_stopped (dmaCtlWrite 0 1#32) dmaDropped rfl)
  have hturn : dmaDropped.turned t = t := by simp [State.turned, dmaDropped]
  rw [hexec, hturn, Host.Outcome.next.injEq] at ht
  have hsame := hkeep .DMA_STATUS (by simp)
  rw [← ht, dmaDropped_enable_status, rd_atWrite, dmaDropped_status] at hsame
  exact absurd hsame (by decide)

end Sys2Proof.Machine
end

section
/-! SUPPORT. What the recording of fault codes and of Felyene's events changes and leaves (R32, R47, R409, R411, R470): a relation between the
states before and after, one lemma per operation. -/

namespace Sys2Proof.Machine

open Sys2Proof

/-! ## Bits of SYS_STATUS and fields of registers -/

theorem flag_eq_testBit (s : State) (r : Reg) (i : Nat) : s.flag ⟨r, i, 1⟩ = (s.rd r).getLsbD i := by
  have h := testBit_wGet (s.rd r) i 1 0
  have hlt := wGet_lt (s.rd r) i 1
  simp only [Nat.lt_one_iff, decide_true, Bool.true_and, Nat.add_zero] at h
  rw [← h]
  simp only [State.flag, State.f]
  generalize wGet (s.rd r) i 1 = x at *
  interval_cases x <;> rfl

theorem f_congr {s t : State} (F : RF) (h : t.rd F.reg = s.rd F.reg) : t.f F = s.f F := by simp only [State.f, h]

theorem flag_congr {s t : State} (F : RF) (h : t.rd F.reg = s.rd F.reg) : t.flag F = s.flag F := by simp only [State.flag, f_congr F h]

theorem bitOf_congr {s t : State} (r : Reg) (i : Nat) (h : t.rd r = s.rd r) : t.bitOf r i = s.bitOf r i := by simp only [State.bitOf, h]

/-! ## Pieces of memory put elsewhere -/

theorem memGet_filter (p : Nat → Bool) (m : List Host.Cell) (a : Nat) :
    memGet (m.filter fun c => p c.1) a = if p a then memGet m a else 0#8 := by
  induction m with
  | nil => simp [memGet]
  | cons c m ih =>
    obtain ⟨b, v⟩ := c
    simp only [memGet] at ih ⊢
    by_cases hb : p b = true <;> by_cases h : b = a <;> simp_all [tabGet]

/-- Memory in two pieces, of which the first lists nothing at an address. -/
theorem memGet_append_left (l r : List Host.Cell) (a : Nat) (h : ∀ c ∈ l, c.1 ≠ a) : memGet (l ++ r) a = memGet r a := by
  induction l with
  | nil => rfl
  | cons c l ih =>
    obtain ⟨b, v⟩ := c
    have hb : b ≠ a := h (b, v) (by simp)
    have := ih fun x hx => h x (by simp [hx])
    simpa [memGet, tabGet, hb] using this

/-- Memory in two pieces, of which the second lists nothing at an address. -/
theorem memGet_append_right (l r : List Host.Cell) (a : Nat) (h : ∀ c ∈ r, c.1 ≠ a) : memGet (l ++ r) a = memGet l a := by
  induction l with
  | nil => exact (memGet_append_left r [] a h).symm.trans (by simp)|>.symm
  | cons c l ih =>
    obtain ⟨b, v⟩ := c
    simp only [memGet, List.cons_append, tabGet] at ih ⊢
    split
    · rfl
    · exact ih

/-- A byte of a piece cut out, at its new place. -/
theorem memGet_memSlice (m : List Host.Cell) (src n dst k : Nat) (h : k < n) : memGet (memSlice m src n dst) (dst + k) = memGet m (src + k) := by
  unfold memSlice
  induction m with
  | nil => rfl
  | cons c m ih =>
    obtain ⟨b, v⟩ := c
    simp only [memGet] at ih ⊢
    by_cases hb : src ≤ b ∧ b < src + n
    · rw [List.filter_cons_of_pos (by simpa using hb)]
      simp only [List.map_cons, tabGet, show (b - src + dst = dst + k) = (b = src + k) by simp only [eq_iff_iff]; omega, ih]
    · rw [List.filter_cons_of_neg (by simpa using hb), ih]
      simp only [tabGet, show b ≠ src + k by omega, ↓reduceIte]

/-- A byte outside a piece put in keeps its value. -/
theorem memGet_memPaste_out (m seg : List Host.Cell) (dst n a : Nat) (hs : ∀ c ∈ seg, dst ≤ c.1 ∧ c.1 < dst + n)
    (h : a < dst ∨ dst + n ≤ a) : memGet (memPaste m dst n seg) a = memGet m a := by
  unfold memPaste
  have hseg : ∀ c ∈ seg, c.1 ≠ a := fun c hc => by have := hs c hc; omega
  have hlo := memGet_filter (fun b => decide (b < dst)) m a
  have hhi := memGet_filter (fun b => decide (dst + n ≤ b)) m a
  by_cases ha : a < dst
  · rw [memGet_append_right _ _ _ fun c hc => by have := (List.mem_filter.mp hc).2; simp only [decide_eq_true_eq] at this; omega,
      memGet_append_right _ _ _ hseg, hlo, if_pos (by simpa using ha)]
  · rw [List.append_assoc, memGet_append_left _ _ _ fun c hc => by
        have := (List.mem_filter.mp hc).2; simp only [decide_eq_true_eq] at this; omega,
      memGet_append_left _ _ _ hseg, hhi, if_pos (by simp only [decide_eq_true_eq]; omega)]

/-- A byte of a piece put in. -/
theorem memGet_memPaste_in (m seg : List Host.Cell) (dst n a : Nat) (h : dst ≤ a) (h' : a < dst + n) :
    memGet (memPaste m dst n seg) a = memGet seg a := by
  unfold memPaste
  rw [memGet_append_right _ _ _ fun c hc => by have := (List.mem_filter.mp hc).2; simp only [decide_eq_true_eq] at this; omega,
    memGet_append_left _ _ _ fun c hc => by have := (List.mem_filter.mp hc).2; simp only [decide_eq_true_eq] at this; omega]

/-- A copy leaves every byte outside the range that it fills. -/
theorem memGet_memCopy_out (m : List Host.Cell) (src dst n a : Nat) (h : a < dst ∨ dst + n ≤ a) : memGet (memCopy m src dst n) a = memGet m a :=
  memGet_memPaste_out m (memSlice m src n dst) dst n a (memSlice_range m src n dst) h

theorem memGet_memInto_out (src m : List Host.Cell) (b dst n a : Nat) (h : a < dst ∨ dst + n ≤ a) :
    memGet (memInto src b dst n m) a = memGet m a :=
  memGet_memPaste_out m (memSlice src b n dst) dst n a (memSlice_range src b n dst) h

/-- A byte of a range copied from another memory. -/
theorem memGet_memInto_in (src m : List Host.Cell) (b dst n k : Nat) (h : k < n) :
    memGet (memInto src b dst n m) (dst + k) = memGet src (b + k) :=
  (memGet_memPaste_in m (memSlice src b n dst) dst n (dst + k) (by omega) (by omega)).trans (memGet_memSlice src b n dst k h)

/-! ## The relation -/

/-- The registers that a record can change: SYS_FAULT, SYS_STATUS, HLM_STATUS and MBX_EVT_LOST. -/
def Reg.inRec : Reg → Bool
  | .SYS_FAULT | .SYS_STATUS | .HLM_STATUS | .MBX_EVT_LOST => true
  | _ => false

/-- An address outside the Hallmark's live image and snapshot (R403). -/
def besideHlm (a : Nat) : Prop := a < hlmLive ∨ hlmSnap + hlmLen ≤ a

/-- What a record of fault codes or events leaves: the registers but four, of SYS_STATUS every bit but FAULT_NEW, which only rises; memory
outside the Hallmark; SYS but for its notes of faults and of bits set; and every other block but the Hallmark and the mailbox. -/
structure Recorded (s t : State) : Prop where
  regs : ∀ r, r.inRec = false → t.rd r = s.rd r
  status : ∀ i, (t.rd .SYS_STATUS).getLsbD i = (s.rd .SYS_STATUS).getLsbD i ∨ (i = 5 ∧ (t.rd .SYS_STATUS).getLsbD i = true)
  mem : ∀ a, besideHlm a → memGet t.mem a = memGet s.mem a
  sys : { t.sys with faultCyc := s.sys.faultCyc, faultOpen := s.sys.faultOpen, faultLo := s.sys.faultLo, faultHi := s.sys.faultHi,
                     hotCyc := s.sys.hotCyc, hot := s.sys.hot } = s.sys
  rest : { t with regs := s.regs, mem := s.mem, sys := s.sys, hlm := s.hlm, mbx := s.mbx } = s

namespace Recorded

variable {s t u : State}

theorem refl (s : State) : Recorded s s := ⟨fun _ _ => rfl, fun _ => .inl rfl, fun _ _ => rfl, rfl, rfl⟩

theorem time (h : Recorded s t) : t.time = s.time := (congrArg State.time h.rest :)
theorem chk (h : Recorded s t) : t.chk = s.chk := (congrArg State.chk h.rest :)
theorem dcl (h : Recorded s t) : t.dcl = s.dcl := (congrArg State.dcl h.rest :)
theorem qnc (h : Recorded s t) : t.qnc = s.qnc := (congrArg State.qnc h.rest :)

theorem trans (h : Recorded s t) (k : Recorded t u) : Recorded s u where
  regs r hr := (k.regs r hr).trans (h.regs r hr)
  status i := by
    rcases k.status i with e | e
    · rw [e]; exact h.status i
    · exact .inr e
  mem a ha := (k.mem a ha).trans (h.mem a ha)
  sys := by rw [← h.sys, ← k.sys]
  rest := by rw [← h.rest, ← k.rest]

/-- A fold of operations that each record. -/
theorem foldl {ι : Type} (g : State → ι → State) (hg : ∀ s i, Recorded s (g s i)) (l : List ι) (s : State) : Recorded s (l.foldl g s) := by
  induction l generalizing s with
  | nil => exact refl s
  | cons i l ih => exact (hg s i).trans (ih (g s i))

/-- A write to one of the four registers but SYS_STATUS. -/
theorem wr (s : State) (r : Reg) (w : Word) (hr : r.inRec = true) (hs : r ≠ .SYS_STATUS) : Recorded s (s.wr r w) where
  regs q hq := rd_wr_ne s r q w (by rintro rfl; simp [hr] at hq)
  status i := .inl (by rw [rd_wr_ne s r _ w hs.symm])
  mem _ _ := rfl
  sys := rfl
  rest := rfl

theorem noteHot (s : State) (r : Reg) (m : Word) : Recorded s (s.noteHot r m) :=
  ⟨fun _ _ => rfl, fun _ => .inl rfl, fun _ _ => rfl, rfl, rfl⟩

/-- A field of one of those registers set. -/
theorem setF (s : State) (F : RF) (v : Nat) (hr : F.reg.inRec = true) (hs : F.reg ≠ .SYS_STATUS) : Recorded s (s.setF F v) :=
  wr s F.reg _ hr hs

theorem raise (s : State) (F : RF) (hr : F.reg.inRec = true) (hs : F.reg ≠ .SYS_STATUS) : Recorded s (s.raise F) :=
  (setF s F 1 hr hs).trans (noteHot _ _ _)

/-- FAULT_NEW set. -/
theorem raise_faultNew (s : State) : Recorded s (s.raise Fld.SYS_STATUS_FAULT_NEW) where
  regs q hq := rd_raise_ne s _ q (by rintro rfl; exact absurd hq (by decide))
  status i := by
    have hrd : (s.raise Fld.SYS_STATUS_FAULT_NEW).rd .SYS_STATUS = wPut (s.rd .SYS_STATUS) 5 1 1 := rd_setF s Fld.SYS_STATUS_FAULT_NEW 1
    rw [hrd]
    by_cases hi : i < 32
    · rw [getLsbD_wPut _ _ _ _ _ hi]
      split
      · next h => exact .inr ⟨by omega, by rw [show i - 5 = 0 by omega]; decide⟩
      · exact .inl rfl
    · exact .inl (by rw [BitVec.getLsbD_of_ge _ _ (by omega), BitVec.getLsbD_of_ge _ _ (by omega)])
  mem _ _ := rfl
  sys := rfl
  rest := rfl

/-- A word of the Hallmark's images set. -/
theorem setMemW (s : State) (a : Nat) (w : Word) (h : hlmLive ≤ a) (h' : a + 4 ≤ hlmSnap + hlmLen) : Recorded s (s.setMemW a w) :=
  ⟨fun _ _ => rfl, fun _ => .inl rfl, fun b hb => memGet_memSetWord_ne _ _ _ _ (by unfold besideHlm at hb; omega), rfl, rfl⟩

/-- The Hallmark's and the mailbox's own records. -/
theorem hlm (s : State) (x : HlmSt) : Recorded s { s with hlm := x } := ⟨fun _ _ => rfl, fun _ => .inl rfl, fun _ _ => rfl, rfl, rfl⟩
theorem mbx (s : State) (x : MbxSt) : Recorded s { s with mbx := x } := ⟨fun _ _ => rfl, fun _ => .inl rfl, fun _ _ => rfl, rfl, rfl⟩

end Recorded

/-! ## The Hallmark's live record -/

theorem hlmCount_recorded (i n : Nat) (s : State) (h : i < 64) : Recorded s (hlmCount i n s) :=
  .setMemW s _ _ (by omega) (by simp only [hlmLive, hlmSnap, hlmLen]; omega)

/-- An entry that the search of the tally finds lies among those searched. -/
theorem tallyFind_lt (m : List Host.Cell) (code : BitVec 16) (fuel i k : Nat) (h : tallyFind m code fuel i = some k) : k < i + fuel := by
  induction fuel generalizing i with
  | zero => simp [tallyFind] at h
  | succ fuel ih =>
    simp only [tallyFind] at h
    split at h
    · simp only [Option.some.injEq] at h; omega
    · have := ih (i + 1) h; omega

theorem tallyIn_recorded (code : BitVec 16) (s : State) : Recorded s (tallyIn code s) := by
  unfold tallyIn
  split
  · next k hk =>
    have hlt := tallyFind_lt _ _ _ _ _ hk
    have put (s : State) (j : Nat) (w : Word) (hj : j ≤ 12) : Recorded s (s.setMemW (hlmLive + 0x540 + 16 * k + j) w) :=
      .setMemW s _ _ (by omega) (by simp only [hlmLive, hlmSnap, hlmLen]; omega)
    have put0 (s : State) (w : Word) : Recorded s (s.setMemW (hlmLive + 0x540 + 16 * k) w) := put s 0 w (by omega)
    dsimp only
    split
    · exact (((put0 _ _).trans (put _ 4 _ (by omega))).trans (put _ 8 _ (by omega))).trans (put _ 12 _ (by omega))
    · exact (put0 _ _).trans (put _ 12 _ (by omega))
  · exact hlmCount_recorded 7 1 s (by omega)

/-! ## Flushes -/

theorem flushCounters_recorded (c : BitVec 5) (s : State) : Recorded s (flushCounters c s) := by
  have step : ∀ l : List Nat, (∀ i ∈ l, i < 64) → ∀ s, Recorded s (l.foldl (fun s i => if c.getLsbD i then hlmCount i 1 s else s) s) := by
    intro l
    induction l with
    | nil => exact fun _ s => .refl s
    | cons i l ih =>
      intro hl s
      refine Recorded.trans ?_ (ih (fun j hj => hl j (by simp [hj])) _)
      beta_reduce
      split
      · exact hlmCount_recorded i 1 s (hl i (by simp))
      · exact .refl s
  exact step _ (fun i hi => by have := List.mem_range.mp hi; omega) s

theorem hlmHeader_recorded (s : State) : Recorded s (hlmHeader s) := by
  have put (s : State) (a : Nat) (w : Word) (hlo : hlmLive ≤ a) (hhi : a ≤ hlmLive + 16) : Recorded s (s.setMemW a w) :=
    .setMemW s _ _ hlo (by simp only [hlmLive, hlmSnap, hlmLen] at *; omega)
  unfold hlmHeader
  extract_lets s1 s2 s3
  exact (((put s _ _ (by omega) (by omega) : Recorded s s1).trans (put s1 _ _ (by omega) (by omega) : Recorded s1 s2)).trans
    (put s2 _ _ (by omega) (by omega) : Recorded s2 s3)).trans (put s3 _ _ (by omega) (by omega))

/-- The snapshot taken (R412). -/
theorem Recorded.snapshot (s : State) (x : HlmSt) : Recorded s { s with mem := memCopy s.mem hlmLive hlmSnap hlmLen, hlm := x } :=
  ⟨fun _ _ => rfl, fun _ => .inl rfl, fun a ha => memGet_memCopy_out _ _ _ _ _ (by
    simp only [besideHlm, hlmLive, hlmSnap, hlmLen] at ha ⊢; omega), rfl, rfl⟩

theorem startFlush_recorded (c : BitVec 5) (s : State) : Recorded s (startFlush c s) := by
  unfold startFlush
  extract_lets s1 s2 s3 s4
  have h1 : Recorded s s1 := .raise s Fld.HLM_STATUS_BUSY rfl (by decide)
  have h2 : Recorded s1 s2 := flushCounters_recorded c s1
  have h3 : Recorded s2 s3 := .setMemW s2 _ _ (by omega) (by simp only [hlmLive, hlmSnap, hlmLen]; omega)
  have h4 : Recorded s3 s4 := hlmHeader_recorded s3
  exact (((h1.trans h2).trans h3).trans h4).trans (.snapshot s4 _)

theorem takeCause_recorded (c : BitVec 5) (s : State) : Recorded s (takeCause c s) := by
  unfold takeCause
  split
  · exact .refl s
  · extract_lets power src s1
    have h1 : Recorded s s1 := by
      unfold s1
      split
      · exact .hlm s _
      · exact .refl s
    split
    · exact h1.trans (.hlm s1 _)
    · exact h1.trans (startFlush_recorded c s1)

theorem faultFlush_recorded (s : State) : Recorded s (faultFlush s) := by
  unfold faultFlush
  split
  · exact .refl s
  · split
    · split
      · split
        · exact .refl s
        · exact .hlm s _
      · exact takeCause_recorded _ s
    · exact takeCause_recorded _ s

theorem codeFlush_recorded (code : Nat) (s : State) : Recorded s (codeFlush code s) := by
  unfold codeFlush
  split
  · exact faultFlush_recorded s
  · exact .refl s

/-! ## Codes and events -/

/-- SYS's own notes of faults. -/
theorem Recorded.faultNote (s : State) (c : Option Nat) (o : Bool) (lo hi : Nat) :
    Recorded s { s with sys := { s.sys with faultCyc := c, faultOpen := o, faultLo := lo, faultHi := hi } } :=
  ⟨fun _ _ => rfl, fun _ => .inl rfl, fun _ _ => rfl, rfl, rfl⟩

theorem sysFault_recorded (code : BitVec 16) (s : State) : Recorded s (sysFault code s) := by
  unfold sysFault
  split
  · exact .refl s
  · extract_lets fresh free lo hi src s1 s2
    have h1 : Recorded s s1 := .faultNote s _ _ _ _
    have h2 : Recorded s1 s2 := by
      unfold s2
      split
      · exact .setF s1 Fld.SYS_FAULT_FIRST _ rfl (by decide)
      · exact .refl s1
    exact ((h1.trans h2).trans (.setF s2 Fld.SYS_FAULT_LAST _ rfl (by decide))).trans (.raise_faultNew _)

/-- A code of a class from 1 on sets FAULT_NEW (R31). -/
theorem flag_faultNew_sysFault (code : BitVec 16) (s : State) (h : faultClass code.toNat ≠ 0) :
    (sysFault code s).flag Fld.SYS_STATUS_FAULT_NEW = true := by
  simp only [sysFault, h, ↓reduceIte]
  exact (flag_eq_testBit _ _ _).trans (by
    rw [show ∀ u : State, (u.raise Fld.SYS_STATUS_FAULT_NEW).rd .SYS_STATUS = wPut (u.rd .SYS_STATUS) 5 1 1 from fun u => rd_wr _ _ _,
      getLsbD_wPut _ _ _ _ _ (by omega)]
    simp)

theorem hlmEvent_recorded (code : Nat) (s : State) : Recorded s (hlmEvent code s) := by
  unfold hlmEvent
  dsimp only
  split
  · exact .refl s
  · split
    · exact .mbx s _
    · exact (((Recorded.wr s .MBX_EVT_LOST _ rfl (by decide)).trans (.mbx _ _)).trans (tallyIn_recorded _ _)).trans (codeFlush_recorded _ _)

theorem tallyApply_recorded (code : BitVec 16) (s : State) : Recorded s (tallyApply code s) := by
  unfold tallyApply
  dsimp only
  have hin := tallyIn_recorded code s
  split
  · exact hin.trans (((((Recorded.raise _ Fld.HLM_STATUS_TALLY_FULL rfl (by decide)).trans (sysFault_recorded _ _)).trans
      (tallyIn_recorded _ _)).trans (codeFlush_recorded _ _)).trans (hlmEvent_recorded _ _))
  · exact hin

theorem hlmUpdate_tally_recorded (code : BitVec 16) (s : State) : Recorded s (hlmUpdate (.tally code) s) := by
  unfold hlmUpdate
  split
  · split
    · exact .hlm s _
    · exact ((((hlmCount_recorded 6 1 s (by omega)).trans (.raise _ Fld.HLM_STATUS_LOST rfl (by decide))).trans (sysFault_recorded _ _)).trans
        (codeFlush_recorded _ _)).trans (hlmEvent_recorded _ _)
  · dsimp only
    split
    · exact tallyApply_recorded code s
    · exact .hlm s _

theorem recordQuiet_recorded (code : Nat) (s : State) : Recorded s (recordQuiet code s) :=
  ((sysFault_recorded _ s).trans (hlmUpdate_tally_recorded _ _)).trans (codeFlush_recorded code _)

theorem pushEvent_recorded (code : Nat) (data : List Byte) (s : State) : Recorded s (pushEvent code data s) := by
  unfold pushEvent
  dsimp only
  split
  · exact .refl s
  · split
    · exact .mbx s _
    · exact ((Recorded.wr s .MBX_EVT_LOST _ rfl (by decide)).trans (.mbx _ _)).trans (recordQuiet_recorded _ _)

theorem recordCore_recorded (code : Nat) (s : State) : Recorded s (recordCore code s) := by
  unfold recordCore
  dsimp only
  split
  · exact recordQuiet_recorded code s
  · exact (recordQuiet_recorded code s).trans (pushEvent_recorded _ _ _)

/-- Bits of SYS_STATUS stay set through a record. -/
theorem Recorded.status_stays {s t : State} (h : Recorded s t) (i : Nat) (hi : (s.rd .SYS_STATUS).getLsbD i = true) :
    (t.rd .SYS_STATUS).getLsbD i = true := by
  rcases h.status i with e | e
  · rw [e, hi]
  · exact e.2

theorem flag_faultNew_recordCore (code : Nat) (s : State) (h : faultClass (code % 2 ^ 16) ≠ 0) :
    (recordCore code s).flag Fld.SYS_STATUS_FAULT_NEW = true := by
  have hs := flag_faultNew_sysFault (BitVec.ofNat 16 code) s (by simpa using h)
  have hq : Recorded (sysFault (BitVec.ofNat 16 code) s) (recordQuiet code s) := (hlmUpdate_tally_recorded _ _).trans (codeFlush_recorded code _)
  have hr : Recorded (recordQuiet code s) (recordCore code s) := by
    unfold recordCore
    dsimp only
    split
    · exact .refl _
    · exact pushEvent_recorded _ _ _
  exact (flag_eq_testBit _ _ _).trans ((hq.trans hr).status_stays 5 ((flag_eq_testBit _ _ _).symm.trans hs))

/-! ## An event that finds room -/

/-- An event that finds room in Felyene's queue changes the mailbox's own record alone, and adds one to the queue at most (R470). -/
theorem pushEvent_room (code : Nat) (data : List Byte) (s : State) (h : s.mbx.evq.length < 64) :
    ∃ m : MbxSt, pushEvent code data s = { s with mbx := m } ∧ m.evq.length ≤ s.mbx.evq.length + 1 := by
  unfold pushEvent
  dsimp only
  split
  · exact ⟨s.mbx, rfl, by omega⟩
  · exact ⟨_, rfl, by simp⟩

end Sys2Proof.Machine
end

section
/-! SUPPORT. What the reactions that reach across blocks change and leave (R23 to R30, R47, R48, R249 to R264): a relation between the states
before and after, over the set of registers that an operation can change, and one lemma per operation. -/

namespace Sys2Proof.Machine

open Sys2Proof

/-! ## Sets of registers -/

/-- What a change of the actions of gate groups can write, with the records that it makes. -/
def Reg.inGroup : Reg → Bool
  | .SYS_AUX_STATE | .AUX_CH_STATUS _ | .QNC_G_STATE _ | .QNC_G_TRIP_T _ | .QNC_STATUS => true
  | r => r.inRec

/-- What a change of an axis state can write. -/
def Reg.inAxis : Reg → Bool
  | .SYS_AX_STATE => true
  | r => r.inRec

/-- What a source that becomes active can write. -/
def Reg.inSource : Reg → Bool
  | .SYS_AX_STATE | .QNC_RAW _ | .QNC_LATCH _ => true
  | r => r.inGroup

/-- What entering SAFE or FAULT can write. -/
def Reg.inSafe : Reg → Bool
  | .SYS_STATE | .ANV_STATUS => true
  | r => r.inSource

theorem Reg.inGroup_of_inRec (r : Reg) (h : r.inRec = true) : r.inGroup = true := by unfold Reg.inGroup; split <;> simp [h]
theorem Reg.inAxis_of_inRec (r : Reg) (h : r.inRec = true) : r.inAxis = true := by unfold Reg.inAxis; split <;> simp [h]
theorem Reg.inSource_of_inGroup (r : Reg) (h : r.inGroup = true) : r.inSource = true := by unfold Reg.inSource; split <;> simp [h]
theorem Reg.inSafe_of_inSource (r : Reg) (h : r.inSource = true) : r.inSafe = true := by unfold Reg.inSafe; split <;> simp [h]

theorem Reg.inSource_of_inAxis (r : Reg) (h : r.inAxis = true) : r.inSource = true := by
  unfold Reg.inAxis at h
  split at h
  · rfl
  · exact inSource_of_inGroup _ (inGroup_of_inRec _ h)

/-- The blocks of those registers (R33). -/
theorem Reg.block_of_inRec (r : Reg) (h : r.inRec = true) : r.addr / 0x10000 ∈ [0x4000, 0x4001, 0x4010] := by
  unfold Reg.inRec at h
  split at h
  case h_5 => cases h
  all_goals decide

theorem Reg.block_of_inGroup (r : Reg) (h : r.inGroup = true) : r.addr / 0x10000 ∈ [0x4000, 0x4001, 0x4008, 0x400C, 0x4010] := by
  unfold Reg.inGroup at h
  split at h
  · decide
  · next n => simp only [Reg.addr, List.mem_cons]; omega
  · next n => simp only [Reg.addr, List.mem_cons]; omega
  · next n => simp only [Reg.addr, List.mem_cons]; omega
  · decide
  · have := block_of_inRec _ h; simp only [List.mem_cons, List.not_mem_nil, or_false] at this ⊢; omega

theorem Reg.block_of_inSource (r : Reg) (h : r.inSource = true) : r.addr / 0x10000 ∈ [0x4000, 0x4001, 0x4008, 0x400C, 0x4010] := by
  unfold Reg.inSource at h
  split at h
  · decide
  · next n => simp only [Reg.addr, List.mem_cons]; omega
  · next n => simp only [Reg.addr, List.mem_cons]; omega
  · exact block_of_inGroup _ h

theorem Reg.block_of_inSafe (r : Reg) (h : r.inSafe = true) : r.addr / 0x10000 ∈ [0x4000, 0x4001, 0x4008, 0x400C, 0x400F, 0x4010] := by
  unfold Reg.inSafe at h
  split at h
  · decide
  · decide
  · have := block_of_inSource _ h; simp only [List.mem_cons, List.not_mem_nil, or_false] at this ⊢; omega

/-! ## The relation -/

/-- What a reaction that writes the registers of a set leaves: the other registers, every bit set of SYS_STATUS, memory outside the
Hallmark, and every block but SYS, the Hallmark, the mailbox, the gate timers, the Quench, the auxiliary commutators and the Anvil. -/
structure Reacted (L : Reg → Bool) (s t : State) : Prop where
  regs : ∀ r, L r = false → t.rd r = s.rd r
  status : ∀ i, (s.rd .SYS_STATUS).getLsbD i = true → (t.rd .SYS_STATUS).getLsbD i = true
  mem : ∀ a, besideHlm a → memGet t.mem a = memGet s.mem a
  rest : { t with regs := s.regs, mem := s.mem, sys := s.sys, hlm := s.hlm, mbx := s.mbx, qnc := s.qnc, pwm := s.pwm, aux := s.aux,
                  anv := s.anv } = s

/-- A bit of SYS_STATUS set stays set where one field of a register is set to ones. -/
theorem getLsbD_wPut_one (w : Word) (lo i : Nat) (h : w.getLsbD i = true) : (wPut w lo 1 1).getLsbD i = true := by
  have hi : i < 32 := by
    by_contra hi
    rw [BitVec.getLsbD_of_ge _ _ (by omega)] at h
    cases h
  rw [getLsbD_wPut _ _ _ _ _ hi]
  split
  · next hlo => rw [show i - lo = 0 by omega]; rfl
  · exact h

namespace Reacted

variable {L M : Reg → Bool} {s t u : State}

theorem refl (s : State) : Reacted L s s := ⟨fun _ _ => rfl, fun _ h => h, fun _ _ => rfl, rfl⟩

theorem time (h : Reacted L s t) : t.time = s.time := (congrArg State.time h.rest :)
theorem chk (h : Reacted L s t) : t.chk = s.chk := (congrArg State.chk h.rest :)
theorem dcl (h : Reacted L s t) : t.dcl = s.dcl := (congrArg State.dcl h.rest :)

theorem trans (h : Reacted L s t) (k : Reacted L t u) : Reacted L s u where
  regs r hr := (k.regs r hr).trans (h.regs r hr)
  status i hi := k.status i (h.status i hi)
  mem a ha := (k.mem a ha).trans (h.mem a ha)
  rest := by rw [← h.rest, ← k.rest]

theorem mono (h : Reacted L s t) (hL : ∀ r, L r = true → M r = true) : Reacted M s t :=
  { h with regs := fun r hr => h.regs r (by by_contra hn; rw [hL r (by simpa using hn)] at hr; cases hr) }

/-- A fold of operations that each react so. -/
theorem foldl {ι : Type} (g : State → ι → State) (l : List ι) (hg : ∀ i ∈ l, ∀ s, Reacted L s (g s i)) (s : State) :
    Reacted L s (l.foldl g s) := by
  induction l generalizing s with
  | nil => exact refl s
  | cons i l ih => exact (hg i (by simp) s).trans (ih (fun j hj => hg j (by simp [hj])) (g s i))

/-- A change that only one side of a choice makes. -/
theorem ite (c : Prop) [Decidable c] (h : Reacted L s t) : Reacted L s (if c then t else s) := by
  split
  · exact h
  · exact refl s

theorem of_recorded (h : Recorded s t) (hL : ∀ r, r.inRec = true → L r = true) : Reacted L s t where
  regs r hr := h.regs r (by by_contra hn; rw [hL r (by simpa using hn)] at hr; cases hr)
  status := h.status_stays
  mem := h.mem
  rest := by
    have := h.rest
    rw [← this]

theorem wr (s : State) (r : Reg) (w : Word) (hr : L r = true) (hs : r ≠ .SYS_STATUS) : Reacted L s (s.wr r w) where
  regs q hq := rd_wr_ne s r q w (by rintro rfl; simp [hr] at hq)
  status i h := by rwa [rd_wr_ne s r _ w hs.symm]
  mem _ _ := rfl
  rest := rfl

theorem noteHot (s : State) (r : Reg) (m : Word) : Reacted L s (s.noteHot r m) := ⟨fun _ _ => rfl, fun _ h => h, fun _ _ => rfl, rfl⟩

theorem setF (s : State) (F : RF) (v : Nat) (hr : L F.reg = true) (hs : F.reg ≠ .SYS_STATUS) : Reacted L s (s.setF F v) :=
  wr s F.reg _ hr hs

theorem lower (s : State) (F : RF) (hr : L F.reg = true) (hs : F.reg ≠ .SYS_STATUS) : Reacted L s (s.lower F) := setF s F 0 hr hs

theorem raise (s : State) (F : RF) (hr : L F.reg = true) (hs : F.reg ≠ .SYS_STATUS) : Reacted L s (s.raise F) :=
  (setF s F 1 hr hs).trans (noteHot _ _ _)

/-- A bit of SYS_STATUS set. -/
theorem raise_status (s : State) (i : Nat) (hr : L .SYS_STATUS = true) : Reacted L s (s.raise ⟨.SYS_STATUS, i, 1⟩) where
  regs q hq := rd_raise_ne s _ q (by rintro rfl; simp [hr] at hq)
  status j h := by
    rw [show (s.raise ⟨.SYS_STATUS, i, 1⟩).rd .SYS_STATUS = wPut (s.rd .SYS_STATUS) i 1 1 from rd_wr _ _ _]
    exact getLsbD_wPut_one _ _ _ h
  mem _ _ := rfl
  rest := rfl

/-- The records of SYS, the Quench, the gate timers, the auxiliary commutators and the Anvil besides their registers. -/
theorem sys (s : State) (x : SysSt) : Reacted L s { s with sys := x } := ⟨fun _ _ => rfl, fun _ h => h, fun _ _ => rfl, rfl⟩
theorem mbx (s : State) (x : MbxSt) : Reacted L s { s with mbx := x } := ⟨fun _ _ => rfl, fun _ h => h, fun _ _ => rfl, rfl⟩
theorem qnc (s : State) (f : QncSt → QncSt) : Reacted L s (s.modQnc f) := ⟨fun _ _ => rfl, fun _ h => h, fun _ _ => rfl, rfl⟩
theorem aux (s : State) (x : Vector AuxCh 8) : Reacted L s { s with aux := x } := ⟨fun _ _ => rfl, fun _ h => h, fun _ _ => rfl, rfl⟩
theorem anv (s : State) (x : AnvSt) : Reacted L s { s with anv := x } := ⟨fun _ _ => rfl, fun _ h => h, fun _ _ => rfl, rfl⟩
theorem modGrp (s : State) (g : Fin 16) (f : Group → Group) : Reacted L s (s.modGrp g f) := ⟨fun _ _ => rfl, fun _ h => h, fun _ _ => rfl, rfl⟩

/-- A bit of SYS_STATUS set stays set. -/
theorem flag_status (h : Reacted L s t) (i : Nat) (hi : s.flag ⟨.SYS_STATUS, i, 1⟩ = true) : t.flag ⟨.SYS_STATUS, i, 1⟩ = true :=
  (flag_eq_testBit _ _ _).trans (h.status i ((flag_eq_testBit _ _ _).symm.trans hi))

end Reacted

/-! ## Records in a reaction -/

theorem recordCore_inGroup (code : Nat) (s : State) : Reacted Reg.inGroup s (recordCore code s) :=
  .of_recorded (recordCore_recorded code s) Reg.inGroup_of_inRec

theorem pushEvent_inGroup (code : Nat) (d : List Byte) (s : State) : Reacted Reg.inGroup s (pushEvent code d s) :=
  .of_recorded (pushEvent_recorded code d s) Reg.inGroup_of_inRec

/-! ## Output cells and auxiliary channels -/

theorem floatGroup_reacted {L : Reg → Bool} (g : Fin 16) (t : Nat) (s : State) : Reacted L s (floatGroup g t s) :=
  (Reacted.modGrp s g _).trans (.ite _ (.modGrp _ g _))

theorem setAux_inGroup (n : Fin 8) (v : Nat) (s : State) : Reacted Reg.inGroup s (setAux n v s) := by
  unfold setAux
  split
  · exact .refl s
  · extract_lets s1 old s2 s3
    have h1 : Reacted Reg.inGroup s s1 :=
      (Reacted.setF s (Fld.AUX_CH_STATUS_STATE n) v rfl (by simp [Fld.AUX_CH_STATUS_STATE])).trans
        (.raise _ (Fld.AUX_CH_STATUS_STATE_CHG n) rfl (by simp [Fld.AUX_CH_STATUS_STATE_CHG]))
    have h2 : Reacted Reg.inGroup s1 s2 := .wr s1 .SYS_AUX_STATE _ rfl (by decide)
    have h3 : Reacted Reg.inGroup s2 s3 := pushEvent_inGroup _ _ s2
    exact ((h1.trans h2).trans h3).trans (.aux s3 _)

theorem auxToFault_inGroup (n : Fin 8) (t : Nat) (s : State) : Reacted Reg.inGroup s (auxToFault n t s) :=
  ((setAux_inGroup n auxFault s).trans (.aux _ _)).trans (floatGroup_reacted _ t _)

theorem auxTripped_inGroup (g : Fin 16) (t : Nat) (s : State) : Reacted Reg.inGroup s (auxTripped g t s) := by
  unfold auxTripped
  split
  · exact .ite _ ((auxToFault_inGroup _ t s).trans (.raise _ _ rfl (by simp [Fld.AUX_CH_STATUS_TRIPPED])))
  · exact .refl s

/-! ## Actions of the gate groups -/

theorem takeAction_inGroup (g : Fin 16) (a t : Nat) (s : State) : Reacted Reg.inGroup s (takeAction g a t s) := by
  unfold takeAction
  extract_lets s1
  have h1 : Reacted Reg.inGroup s s1 :=
    (Reacted.setF s (Fld.QNC_G_STATE_ACTION g) a rfl (by simp [Fld.QNC_G_STATE_ACTION])).trans
      (.lower _ (Fld.QNC_G_STATE_ASC_ON g) rfl (by simp [Fld.QNC_G_STATE_ASC_ON]))
  exact h1.trans (.qnc s1 _)

theorem tripRecord_inGroup (g : Fin 16) (k : Fin 128) (t : Nat) (s : State) : Reacted Reg.inGroup s (tripRecord g k t s) := by
  unfold tripRecord
  extract_lets s1 s2 s3 tref s4
  have h1 : Reacted Reg.inGroup s s1 := .raise s (Fld.QNC_G_STATE_TRIPPED g) rfl (by simp [Fld.QNC_G_STATE_TRIPPED])
  have h2 : Reacted Reg.inGroup s1 s2 :=
    (Reacted.lower s1 (Fld.QNC_G_STATE_HOLD g) rfl (by simp [Fld.QNC_G_STATE_HOLD])).trans
      (.setF _ (Fld.QNC_G_STATE_FIRST_SRC g) _ rfl (by simp [Fld.QNC_G_STATE_FIRST_SRC]))
  have h3 : Reacted Reg.inGroup s2 s3 := (Reacted.wr s2 (.QNC_G_TRIP_T g) _ rfl (by simp)).trans (.qnc _ _)
  have h4 : Reacted Reg.inGroup s3 s4 := .modGrp s3 g _
  exact ((((h1.trans h2).trans h3).trans h4).trans ((Reacted.raise s4 Fld.QNC_STATUS_TRIP rfl (by decide)).trans
    (recordCore_inGroup _ _))).trans (auxTripped_inGroup g t _)

theorem untrip_inGroup (g : Fin 16) (hold : Bool) (s : State) : Reacted Reg.inGroup s (untrip g hold s) := by
  unfold untrip
  extract_lets s1
  have h1 : Reacted Reg.inGroup s s1 :=
    (Reacted.lower s (Fld.QNC_G_STATE_TRIPPED g) rfl (by simp [Fld.QNC_G_STATE_TRIPPED])).trans (takeAction_inGroup g 0 _ _)
  split
  · exact h1
  · split
    · exact h1.trans ((Reacted.raise s1 (Fld.QNC_G_STATE_HOLD g) rfl (by simp [Fld.QNC_G_STATE_HOLD])).trans (.qnc _ _))
    · exact h1.trans (.raise s1 Fld.QNC_STATUS_RESUME rfl (by decide))

theorem refreshGroup_inGroup (k : Fin 128) (t : Nat) (hold : Bool) (s : State) (g : Fin 16) :
    Reacted Reg.inGroup s (refreshGroup k t hold s g) := by
  unfold refreshGroup
  extract_lets given a old s1 s2 s3
  have h1 : Reacted Reg.inGroup s s1 := .ite _ ((Reacted.raise s Fld.QNC_STATUS_CONFLICT rfl (by decide)).trans (recordCore_inGroup _ _))
  have h2 : Reacted Reg.inGroup s s2 := h1.trans (.qnc s1 _)
  split
  · exact h2
  · split
    · exact h2.trans (untrip_inGroup g hold s2)
    · exact (h2.trans (takeAction_inGroup g a t s2)).trans (.ite _ (tripRecord_inGroup g k t _))

theorem refreshGroups_inGroup (k : Fin 128) (t : Nat) (hold : Bool) (s : State) : Reacted Reg.inGroup s (refreshGroups k t hold s) :=
  .foldl _ _ (fun g _ u => refreshGroup_inGroup k t hold u g) s

theorem lowerFirst_inGroup (k : Fin 128) (t : Nat) (s : State) : Reacted Reg.inGroup s (lowerFirst k t s) :=
  .foldl _ _ (fun g _ u => .ite _ ((Reacted.setF u (Fld.QNC_G_STATE_FIRST_SRC g) _ rfl (by simp [Fld.QNC_G_STATE_FIRST_SRC])).trans
    (.wr _ (.QNC_G_TRIP_T g) _ rfl (by simp)))) s

/-! ## Axes -/

theorem axisEvent_recorded (n : Fin 4) (old v : Nat) (s : State) : Recorded s (axisEvent n old v s) := by
  unfold axisEvent
  extract_lets g src
  split
  · exact .refl s
  · exact pushEvent_recorded _ _ s

/-- The brakes that drop are the Anvil's own record (R334). -/
theorem brakeDrop_anv (p : Fin 2 → Bool) (s : State) : ∃ x, brakeDrop p s = { s with anv := x } := by
  unfold brakeDrop
  generalize List.finRange 2 = l
  induction l generalizing s with
  | nil => exact ⟨s.anv, rfl⟩
  | cons k l ih =>
    rw [List.foldl_cons]
    split
    · exact (ih _).imp fun x hx => hx.trans rfl
    · exact ih s

theorem brakeDrop_reacted {L : Reg → Bool} (p : Fin 2 → Bool) (s : State) : Reacted L s (brakeDrop p s) := by
  obtain ⟨x, hx⟩ := brakeDrop_anv p s
  rw [hx]
  exact .anv s x

@[simp] theorem rd_brakeDrop (p : Fin 2 → Bool) (s : State) (r : Reg) : (brakeDrop p s).rd r = s.rd r := by
  obtain ⟨x, hx⟩ := brakeDrop_anv p s
  rw [hx]; rfl

theorem setAxis_inAxis (n : Fin 4) (v : Nat) (s : State) : Reacted Reg.inAxis s (s.setAxis n v) := by
  unfold State.setAxis
  extract_lets old src s1 s2
  have h1 : Reacted Reg.inAxis s s1 := by
    unfold s1
    split
    · exact .refl s
    · exact .sys s _
  have h2 : Reacted Reg.inAxis s1 s2 := .wr s1 .SYS_AX_STATE _ rfl (by decide)
  exact ((h1.trans h2).trans (brakeDrop_reacted _ s2)).trans (.of_recorded (axisEvent_recorded _ _ _ _) Reg.inAxis_of_inRec)

theorem holdAxes_inAxis (k : Fin 128) (s : State) : Reacted Reg.inAxis s (holdAxes k s) :=
  .foldl _ _ (fun n _ u => .ite _ (setAxis_inAxis n axHold u)) s

/-! ## Sources -/

theorem putBit_reacted {L : Reg → Bool} (s : State) (r : Reg) (i : Nat) (b : Bool) (hr : L r = true) (hs : r ≠ .SYS_STATUS) :
    Reacted L s (s.putBit r i b) := .wr s r _ hr hs

theorem sourceActive0_inSource (k : Fin 128) (t : Nat) (s : State) : Reacted Reg.inSource s (sourceActive0 k t s) := by
  unfold sourceActive0
  split
  · exact .refl s
  · extract_lets s1
    have h1 : Reacted Reg.inSource s s1 := putBit_reacted s (.QNC_RAW _) _ _ rfl (by simp)
    split
    · exact h1
    · split
      · exact h1
      · exact (((h1.trans (putBit_reacted s1 (.QNC_LATCH _) _ _ rfl (by simp))).trans
          ((refreshGroups_inGroup k t _ _).mono Reg.inSource_of_inGroup)).trans
          ((lowerFirst_inGroup k t _).mono Reg.inSource_of_inGroup)).trans ((holdAxes_inAxis k _).mono Reg.inSource_of_inAxis)

theorem sourceInactive_inSource (k : Fin 128) (s : State) : Reacted Reg.inSource s (sourceInactive k s) := by
  unfold sourceInactive
  exact .ite _ ((putBit_reacted s (.QNC_RAW _) _ _ rfl (by simp)).trans (.qnc _ _))

theorem sourceDrop_inSource (k : Fin 128) (hold : Bool) (s : State) : Reacted Reg.inSource s (sourceDrop k hold s) :=
  ((sourceInactive_inSource k s).trans (putBit_reacted _ (.QNC_LATCH _) _ _ rfl (by simp))).trans
    ((refreshGroups_inGroup k _ hold _).mono Reg.inSource_of_inGroup)

/-! ## Device and Anvil states -/

theorem Reg.inSafe_of_inRec (r : Reg) (h : r.inRec = true) : r.inSafe = true :=
  inSafe_of_inSource _ (inSource_of_inGroup _ (inGroup_of_inRec _ h))

theorem setSv_inSafe (v : Nat) (s : State) : Reacted Reg.inSafe s (s.setSv v) := by
  unfold State.setSv
  extract_lets old s1 s2
  have h1 : Reacted Reg.inSafe s s1 := (Reacted.setF s Fld.ANV_STATUS_SV_STATE v rfl (by decide)).trans
    (.setF _ Fld.SYS_STATE_SV_STATE v rfl (by decide))
  have h2 : Reacted Reg.inSafe s1 s2 := brakeDrop_reacted _ s1
  split
  · exact h1.trans h2
  · exact (h1.trans h2).trans (.of_recorded (pushEvent_recorded _ _ _) Reg.inSafe_of_inRec)

theorem setDev_inSafe (d : Nat) (s : State) : Reacted Reg.inSafe s (setDev d s) := by
  unfold setDev
  split
  · exact .refl s
  · extract_lets old c s1
    have h1 : Reacted Reg.inSafe s s1 := brakeDrop_reacted _ s
    exact ((h1.trans (.setF s1 Fld.SYS_STATE_DEV_STATE d rfl (by decide))).trans (.raise_status _ 4 rfl)).trans
      (.of_recorded (pushEvent_recorded _ _ _) Reg.inSafe_of_inRec)

theorem withCause_reacted {L : Reg → Bool} (c : Nat) (f : State → State) (s : State)
    (hf : ∀ u, Reacted L u (f u)) : Reacted L s (withCause c f s) :=
  ((Reacted.mbx s _).trans (hf _)).trans (.mbx _ _)

theorem faultFlush_inSafe (s : State) : Reacted Reg.inSafe s (faultFlush s) := .of_recorded (faultFlush_recorded s) Reg.inSafe_of_inRec

theorem enterSafe0_inSafe (s : State) : Reacted Reg.inSafe s (enterSafe0 s) := by
  unfold enterSafe0
  extract_lets s1 s2 s3
  have h1 : Reacted Reg.inSafe s s1 := .sys s _
  have h2 : Reacted Reg.inSafe s1 s2 := setDev_inSafe devSafe s1
  have h3 : Reacted Reg.inSafe s2 s3 := .ite _ (setSv_inSafe svArmed s2)
  split
  · exact (((h1.trans h2).trans h3).trans ((sourceActive0_inSource 117 _ s3).mono Reg.inSafe_of_inSource)).trans (faultFlush_inSafe _)
  · split
    · exact (h1.trans (.raise s1 Fld.SYS_STATE_DBG_SAFE rfl (by decide))).trans
        ((sourceActive0_inSource 117 _ _).mono Reg.inSafe_of_inSource)
    · exact h1

theorem enterFault0_inSafe (s : State) : Reacted Reg.inSafe s (enterFault0 s) := by
  unfold enterFault0
  extract_lets s1 s2
  have h1 : Reacted Reg.inSafe s s1 := .sys s _
  split
  · exact h1
  · have h2 : Reacted Reg.inSafe s1 s2 := (setDev_inSafe devFault s1).trans ((sourceActive0_inSource 117 _ _).mono Reg.inSafe_of_inSource)
    have h3 : Reacted Reg.inSafe s2 ((List.finRange 8).foldl (fun s n => auxToFault n s.now s) s2) :=
      .foldl _ _ (fun n _ u => (auxToFault_inGroup n u.now u).mono fun r h => Reg.inSafe_of_inSource r (Reg.inSource_of_inGroup r h)) s2
    exact ((h1.trans h2).trans h3).trans (faultFlush_inSafe _)

theorem recordFault0_inSafe (code : Nat) (s : State) : Reacted Reg.inSafe s (recordFault0 code s) := by
  unfold recordFault0
  extract_lets s1
  have h1 : Reacted Reg.inSafe s s1 := .of_recorded (recordCore_recorded code s) Reg.inSafe_of_inRec
  split
  · exact h1.trans (enterSafe0_inSafe s1)
  · split
    · exact h1.trans (enterFault0_inSafe s1)
    · exact h1

end Sys2Proof.Machine
end

section
/-! SUPPORT. What the reactions bring about: device, axis and source states after them (R23 to R30, R249, R258), and a discharge that no
reaction touches. -/

namespace Sys2Proof.Machine

open Sys2Proof

/-! ## Device state -/

theorem dev_congr {s t : State} (h : t.rd .SYS_STATE = s.rd .SYS_STATE) : t.dev = s.dev := f_congr _ h

theorem axis_congr {s t : State} (h : t.rd .SYS_AX_STATE = s.rd .SYS_AX_STATE) (n : Fin 4) : t.axis n = s.axis n := by
  simp only [State.axis, h]

theorem Recorded.dev {s t : State} (h : Recorded s t) : t.dev = s.dev := dev_congr (h.regs _ rfl)

theorem dev_setF_dev (s : State) (d : Nat) (h : d < 8) : (s.setF Fld.SYS_STATE_DEV_STATE d).dev = d :=
  (f_setF s _ d (by decide)).trans (Nat.mod_eq_of_lt h)

theorem dev_setDev (d : Nat) (s : State) (h : d < 8) : (setDev d s).dev = d := by
  unfold setDev
  split
  · assumption
  · extract_lets old c s1
    exact ((pushEvent_recorded _ _ _).dev.trans (f_raise_reg _ _ _ (by decide))).trans (dev_setF_dev s1 d h)

/-- A change of device state sets STATE_CHG (R31). -/
theorem flag_stateChg_setDev (d : Nat) (s : State) (h : s.dev ≠ d) : (setDev d s).flag Fld.SYS_STATUS_STATE_CHG = true := by
  unfold setDev
  rw [if_neg h]
  extract_lets old c s1
  refine (flag_eq_testBit _ _ _).trans ((pushEvent_recorded _ _ _).status_stays 4 ?_)
  rw [show ∀ u : State, (u.raise Fld.SYS_STATUS_STATE_CHG).rd .SYS_STATUS = wPut (u.rd .SYS_STATUS) 4 1 1 from fun u => rd_wr _ _ _,
    getLsbD_wPut _ _ _ _ _ (by omega)]
  rfl

theorem rd_setDev (d : Nat) (s : State) (r : Reg) (h : r.inRec = false) (h' : r ≠ .SYS_STATE) : (setDev d s).rd r = s.rd r := by
  unfold setDev
  split
  · rfl
  · extract_lets old c s1
    rw [(pushEvent_recorded _ _ _).regs r h, rd_raise_ne _ _ _ (by rintro rfl; exact absurd h (by decide)), rd_setF_ne _ _ _ _ h', rd_brakeDrop]

theorem dev_setSv (v : Nat) (s : State) : (s.setSv v).dev = s.dev := by
  unfold State.setSv
  extract_lets old s1 s2
  have h1 : s1.dev = s.dev := by
    have hsv : s1.dev = (s.setF Fld.ANV_STATUS_SV_STATE v).dev :=
      f_setF_beside (s.setF Fld.ANV_STATUS_SV_STATE v) Fld.SYS_STATE_SV_STATE Fld.SYS_STATE_DEV_STATE v rfl (by decide) (.inl (by decide))
    exact hsv.trans (dev_congr (rd_setF_ne s Fld.ANV_STATUS_SV_STATE v .SYS_STATE (by decide)))
  have h2 : s2.dev = s1.dev := dev_congr (rd_brakeDrop _ _ _)
  split
  · exact h2.trans h1
  · exact (pushEvent_recorded _ _ _).dev.trans (h2.trans h1)

theorem rd_setSv (v : Nat) (s : State) (r : Reg) (h : r.inRec = false) (h1 : r ≠ .SYS_STATE) (h2 : r ≠ .ANV_STATUS) :
    (s.setSv v).rd r = s.rd r := by
  unfold State.setSv
  extract_lets old s1 s2
  have hs2 : s2.rd r = s.rd r := (rd_brakeDrop _ _ _).trans ((rd_setF_ne _ _ _ _ h1).trans (rd_setF_ne _ _ _ _ h2))
  split
  · exact hs2
  · exact ((pushEvent_recorded _ _ _).regs r h).trans hs2

/-! ## Axes -/

/-- A loop over numbered parts, each step of which leaves the view of every other part and gives its own part a view that depends on its
view before: the view of a part after the loop is that after its own step. -/
theorem foldl_view {σ ι α : Type} (step : σ → ι → σ) (view : ι → σ → α) (own : ι → α → α)
    (hother : ∀ s c d, d ≠ c → view d (step s c) = view d s) (hown : ∀ s c, view c (step s c) = own c (view c s)) (l : List ι) (hl : l.Nodup)
    (s : σ) (c : ι) (hc : c ∈ l) : view c (l.foldl step s) = own c (view c s) := by
  have hrest : ∀ (l : List ι) (s : σ), c ∉ l → view c (l.foldl step s) = view c s := by
    intro l
    induction l with
    | nil => intros; rfl
    | cons d l ih =>
      intro s hd
      simp only [List.mem_cons, not_or] at hd
      exact (ih _ hd.2).trans (hother s d c hd.1)
  induction l generalizing s with
  | nil => cases hc
  | cons d l ih =>
    obtain ⟨hd, hl⟩ := List.nodup_cons.mp hl
    by_cases h : c = d
    · subst h
      exact (hrest l _ hd).trans (hown s c)
    · exact (ih hl _ ((List.mem_cons.mp hc).resolve_left h)).trans (by rw [hother s d c h])

theorem axis_wr_same (s : State) (n : Fin 4) (w : Word) (v : Nat) (h : v < 8) :
    (s.wr .SYS_AX_STATE (wPut w (4 * n.val) 3 v)).axis n = v := by
  simp only [State.axis, rd_wr, wGet_wPut_same _ _ _ _ (show 4 * n.val + 3 ≤ 32 by omega)]
  exact Nat.mod_eq_of_lt h

theorem axis_wr_ne (s : State) (n m : Fin 4) (v : Nat) (h : m ≠ n) :
    (s.wr .SYS_AX_STATE (wPut (s.rd .SYS_AX_STATE) (4 * n.val) 3 v)).axis m = s.axis m := by
  have : m.val ≠ n.val := fun e => h (Fin.ext e)
  simp only [State.axis, rd_wr]
  exact wGet_wPut_ne _ _ _ _ _ _ (by omega) (by omega)

theorem axis_setAxis (s : State) (n m : Fin 4) (v : Nat) (h : v < 8) : (s.setAxis n v).axis m = if m = n then v else s.axis m := by
  unfold State.setAxis
  extract_lets old src s1 s2
  have h1 : s1.rd .SYS_AX_STATE = s.rd .SYS_AX_STATE := by unfold s1; split <;> rfl
  have h2 : ∀ m, (axisEvent n old v (brakeDrop (fun k => decide (sbcAxis s2 k = n) && (decide (v = axOff) || decide (axStopping < v))) s2)).axis m =
      s2.axis m := fun m => axis_congr (((axisEvent_recorded _ _ _ _).regs _ rfl).trans (rd_brakeDrop _ _ _)) m
  rw [h2]
  by_cases hm : m = n
  · subst hm
    exact (axis_wr_same s1 m _ v h).trans (if_pos rfl).symm
  · exact (axis_wr_ne s1 n m v hm).trans ((axis_congr h1 m).trans (if_neg hm).symm)

/-- Source 117 holds every axis (R30). -/
theorem axis_holdAxes_safe (s : State) (n : Fin 4) : (holdAxes 117 s).axis n = axHold := by
  have hact : ∀ (u : State) (m : Fin 4), srcAction u 117 (axGroup m) ≠ 0 := fun u m => by
    have : (axGroup m).val < 4 := m.isLt
    simp [srcAction, this]
  have := foldl_view (fun (u : State) m => if srcAction u 117 (axGroup m) ≠ 0 then u.setAxis m axHold else u) (fun m u => u.axis m)
    (fun _ _ => axHold) (fun u c d hd => by rw [if_pos (hact u c), axis_setAxis _ _ _ _ (by decide), if_neg hd])
    (fun u c => by rw [if_pos (hact u c), axis_setAxis _ _ _ _ (by decide), if_pos rfl]) (List.finRange 4) (List.nodup_finRange 4) s n
    (List.mem_finRange n)
  exact this

/-! ## Raw and latched sources -/

theorem raw_congr {s t : State} (h : ∀ i, t.rd (.QNC_RAW i) = s.rd (.QNC_RAW i)) (k : Fin 128) : t.raw k = s.raw k := by
  simp only [State.raw, srcBit, State.bitOf, h]

theorem latch_congr {s t : State} (h : ∀ i, t.rd (.QNC_LATCH i) = s.rd (.QNC_LATCH i)) (k : Fin 128) : t.latch k = s.latch k := by
  simp only [State.latch, srcBit, State.bitOf, h]

/-- A bit of the source masks put, and the others. -/
theorem srcBit_putSrc (r : Fin 4 → Reg) (hr : ∀ i j, r i = r j → i = j) (s : State) (k j : Fin 128) (b : Bool) :
    srcBit r (putSrc r k b s) j = if j = k then b else srcBit r s j := by
  unfold srcBit putSrc State.bitOf State.putBit
  by_cases hreg : (⟨j.val / 32, by omega⟩ : Fin 4) = ⟨k.val / 32, by omega⟩
  · rw [hreg, rd_wr, getLsbD_wPut _ _ _ _ _ (by omega)]
    simp only [Fin.mk.injEq] at hreg
    by_cases hjk : j = k
    · subst hjk
      rw [if_pos (by omega), if_pos rfl, Nat.sub_self]
      cases b <;> rfl
    · have : j.val ≠ k.val := fun e => hjk (Fin.ext e)
      rw [if_neg (by omega), if_neg hjk]
  · rw [rd_wr_ne _ _ _ _ fun e => hreg (hr _ _ e), if_neg fun e => hreg (by rw [e])]

theorem raw_putSrc (s : State) (k j : Fin 128) (b : Bool) : (putSrc .QNC_RAW k b s).raw j = if j = k then b else s.raw j :=
  srcBit_putSrc _ (fun _ _ h => Reg.QNC_RAW.inj h) s k j b

theorem latch_putSrc (s : State) (k j : Fin 128) (b : Bool) : (putSrc .QNC_LATCH k b s).latch j = if j = k then b else s.latch j :=
  srcBit_putSrc _ (fun _ _ h => Reg.QNC_LATCH.inj h) s k j b

theorem raw_putLatch (s : State) (k j : Fin 128) (b : Bool) : (putSrc .QNC_LATCH k b s).raw j = s.raw j :=
  raw_congr (fun _ => rd_wr_ne _ _ _ _ (by simp)) j

theorem latch_putRaw (s : State) (k j : Fin 128) (b : Bool) : (putSrc .QNC_RAW k b s).latch j = s.latch j :=
  latch_congr (fun _ => rd_wr_ne _ _ _ _ (by simp)) j

/-- The groups' answer to a source touches no bit of the source masks. -/
theorem sourceTail_regs (k : Fin 128) (t : Nat) (hold : Bool) (s : State) (r : Reg) (hg : r.inGroup = false) (ha : r.inAxis = false) :
    (holdAxes k (lowerFirst k t (refreshGroups k t hold s))).rd r = s.rd r :=
  ((holdAxes_inAxis k _).regs r ha).trans (((lowerFirst_inGroup k t _).regs r hg).trans ((refreshGroups_inGroup k t hold s).regs r hg))

/-- A source that becomes active is active, and every other as before (R249). -/
theorem raw_sourceActive0 (k : Fin 128) (t : Nat) (s : State) (j : Fin 128) :
    (sourceActive0 k t s).raw j = if j = k ∧ k.val < 118 then true else s.raw j := by
  unfold sourceActive0
  split
  · next h => rw [if_neg (by omega)]
  · next h =>
    extract_lets s1
    have h1 : s1.raw j = if j = k ∧ k.val < 118 then true else s.raw j := by
      rw [raw_putSrc]
      exact if_congr (by constructor <;> [exact fun e => ⟨e, by omega⟩; exact fun e => e.1]) rfl rfl
    split
    · exact h1
    · split
      · exact h1
      · rw [raw_congr (s := putSrc .QNC_LATCH k true s1) (fun i => sourceTail_regs k t _ _ _ rfl rfl) j, raw_putLatch, h1]

/-- Source 117 becomes active: it is latched, and holds the axes where its latch was clear (R30). -/
theorem latch_sourceActive0_safe (t : Nat) (s : State) : (sourceActive0 117 t s).latch 117 = true := by
  unfold sourceActive0
  rw [if_neg (by decide)]
  extract_lets s1
  rw [if_neg (by simp [fixedSrc])]
  split
  · next h => simp only [Bool.and_eq_true] at h; exact h.1.1
  · rw [latch_congr (s := putSrc .QNC_LATCH 117 true s1) (fun i => sourceTail_regs 117 t _ _ _ rfl rfl), latch_putSrc, if_pos rfl]

theorem axis_sourceActive0_safe (t : Nat) (s : State) (h : s.latch 117 = false) (n : Fin 4) : (sourceActive0 117 t s).axis n = axHold := by
  unfold sourceActive0
  rw [if_neg (by decide)]
  extract_lets s1
  have h1 : s1.latch 117 = false := (latch_putRaw s 117 117 true).trans h
  rw [if_neg (by simp [fixedSrc]), if_neg (by simp [h1])]
  exact axis_holdAxes_safe _ n

theorem dev_sourceActive0 (k : Fin 128) (t : Nat) (s : State) : (sourceActive0 k t s).dev = s.dev :=
  dev_congr ((sourceActive0_inSource k t s).regs _ rfl)

/-! ## SAFE and FAULT -/

theorem raw_recorded {s t : State} (h : Recorded s t) (k : Fin 128) : t.raw k = s.raw k := raw_congr (fun _ => h.regs _ rfl) k
theorem latch_recorded {s t : State} (h : Recorded s t) (k : Fin 128) : t.latch k = s.latch k := latch_congr (fun _ => h.regs _ rfl) k

theorem raw_setDev (d : Nat) (s : State) (k : Fin 128) : (setDev d s).raw k = s.raw k := raw_congr (fun _ => rd_setDev d s _ rfl (by simp)) k
theorem latch_setDev (d : Nat) (s : State) (k : Fin 128) : (setDev d s).latch k = s.latch k :=
  latch_congr (fun _ => rd_setDev d s _ rfl (by simp)) k
theorem raw_setSv (v : Nat) (s : State) (k : Fin 128) : (s.setSv v).raw k = s.raw k :=
  raw_congr (fun _ => rd_setSv v s _ rfl (by simp) (by simp)) k
theorem latch_setSv (v : Nat) (s : State) (k : Fin 128) : (s.setSv v).latch k = s.latch k :=
  latch_congr (fun _ => rd_setSv v s _ rfl (by simp) (by simp)) k

/-- SAFE entered from CONFIG to RUN (R23, R30): the device state, STATE_CHG, source 117 active and latched, and every axis held. -/
structure InSafe (s t : State) : Prop where
  dev : t.dev = devSafe
  chg : t.flag Fld.SYS_STATUS_STATE_CHG = true
  raw : t.raw 117 = true
  latch : t.latch 117 = true
  axes : s.latch 117 = false → ∀ n, t.axis n = axHold

theorem enterSafe0_inSafeState (s : State) (h : devConfig ≤ s.dev ∧ s.dev ≤ devRun) : InSafe s (enterSafe0 s) := by
  unfold enterSafe0
  extract_lets s1 s2 s3
  have h1 : devConfig ≤ s1.dev ∧ s1.dev ≤ devRun := h
  rw [if_pos (.inl h1)]
  have hdev3 : s3.dev = devSafe := by
    have : s2.dev = devSafe := dev_setDev devSafe s1 (by decide)
    unfold s3; split
    · exact (dev_setSv _ _).trans this
    · exact this
  have hlatch3 : s3.latch 117 = s.latch 117 := by
    have : s2.latch 117 = s1.latch 117 := latch_setDev _ _ _
    unfold s3; split
    · exact (latch_setSv _ _ _).trans this
    · exact this
  have hchg2 : s2.flag Fld.SYS_STATUS_STATE_CHG = true := flag_stateChg_setDev devSafe s1 (by have := h1.2; intro e; rw [e] at this; exact absurd this (by decide))
  have hfr : Reacted Reg.inSafe s2 (faultFlush (sourceActive0 117 s3.now s3)) :=
    ((Reacted.ite _ (setSv_inSafe svArmed s2)).trans ((sourceActive0_inSource 117 _ s3).mono Reg.inSafe_of_inSource)).trans (faultFlush_inSafe _)
  have hff := faultFlush_recorded (sourceActive0 117 s3.now s3)
  refine ⟨?_, hfr.flag_status 4 hchg2, ?_, ?_, fun hl n => ?_⟩
  · exact hff.dev.trans ((dev_sourceActive0 _ _ _).trans hdev3)
  · rw [raw_recorded hff, raw_sourceActive0]; rfl
  · rw [latch_recorded hff]; exact latch_sourceActive0_safe _ _
  · rw [axis_congr (hff.regs _ rfl)]
    exact axis_sourceActive0_safe _ _ (hlatch3.trans hl) n

/-- A cause of SAFE leaves SAFE and FAULT, and every active source active. -/
theorem dev_enterSafe0_stays (s : State) (h : s.dev = devSafe ∨ s.dev = devFault) : (enterSafe0 s).dev = s.dev := by
  unfold enterSafe0
  extract_lets s1 s2 s3
  have h1 : s1.dev = s.dev := rfl
  have hno : ¬(devConfig ≤ s.dev ∧ s.dev ≤ devRun) ∧ s.dev ≠ devDebug := by rcases h with h | h <;> rw [h] <;> decide
  rw [h1, if_neg (not_or.mpr ⟨hno.1, fun e => hno.2 e.1⟩), if_neg (by rcases h with h | h <;> rw [h] <;> decide)]
  exact h1

theorem raw_enterSafe0 (s : State) (k : Fin 128) (h : s.raw k = true) : (enterSafe0 s).raw k = true := by
  unfold enterSafe0
  extract_lets s1 s2 s3
  have active (u : State) (hu : u.raw k = true) : (sourceActive0 117 u.now u).raw k = true := by rw [raw_sourceActive0, hu, ite_self]
  have h3 : s3.raw k = true := by
    have h2 : s2.raw k = true := (raw_setDev _ _ _).trans h
    unfold s3; split
    · exact (raw_setSv _ _ _).trans h2
    · exact h2
  split
  · exact (raw_recorded (faultFlush_recorded _) k).trans (active s3 h3)
  · split
    · exact active (s1.raise _) ((raw_congr (fun _ => rd_raise_ne _ _ _ (by simp [Fld.SYS_STATE_DBG_SAFE])) k).trans h)
    · exact h

/-- FAULT is entered from every state (R23). -/
theorem dev_enterFault0 (s : State) : (enterFault0 s).dev = devFault := by
  unfold enterFault0
  extract_lets s1 s2
  split
  · assumption
  · have h2 : s2.dev = devFault := (dev_sourceActive0 _ _ _).trans (dev_setDev devFault s1 (by decide))
    have h3 : Reacted Reg.inGroup s2 ((List.finRange 8).foldl (fun s n => auxToFault n s.now s) s2) :=
      .foldl _ _ (fun n _ u => auxToFault_inGroup n u.now u) s2
    exact (faultFlush_recorded _).dev.trans ((dev_congr (h3.regs _ rfl)).trans h2)

theorem raw_enterFault0 (s : State) (k : Fin 128) (h : s.raw k = true) : (enterFault0 s).raw k = true := by
  unfold enterFault0
  extract_lets s1 s2
  split
  · exact h
  · have h2 : s2.raw k = true := by
      have : (setDev devFault s1).raw k = true := (raw_setDev _ _ _).trans h
      unfold s2
      rw [raw_sourceActive0, this, ite_self]
    have h3 : Reacted Reg.inGroup s2 ((List.finRange 8).foldl (fun s n => auxToFault n s.now s) s2) :=
      .foldl _ _ (fun n _ u => auxToFault_inGroup n u.now u) s2
    exact (raw_recorded (faultFlush_recorded _) k).trans ((raw_congr (fun _ => h3.regs _ rfl) k).trans h2)

/-! ## Fault codes by class (R48) -/

theorem recordFault0_eq_recordCore (code : Nat) (s : State) (h : faultClass code ≠ 3) (h' : faultClass code ≠ 4) :
    recordFault0 code s = recordCore code s := by
  simp only [recordFault0, h, h', ↓reduceIte]

theorem recordFault0_eq_enterSafe0 (code : Nat) (s : State) (h : faultClass code = 3) : recordFault0 code s = enterSafe0 (recordCore code s) := by
  simp only [recordFault0, h, ↓reduceIte]

theorem recordFault0_eq_enterFault0 (code : Nat) (s : State) (h : faultClass code = 4) : recordFault0 code s = enterFault0 (recordCore code s) := by
  simp only [recordFault0, h, ↓reduceIte, show ¬ (4 = 3) by decide]

/-! ## No discharge -/

/-- With no discharge under way its watch does nothing (R311, R314). -/
theorem dsgWatch_idle (s : State) (h : s.dsgRun = false) : dsgWatch s = s := by
  have h3 : ¬ s.dsg = 3 := fun e => by simp [State.dsgRun, e] at h
  simp [dsgWatch, h, h3]

theorem dsg_congr {s t : State} (h : t.rd .PWM_DSC_DSG_STAT = s.rd .PWM_DSC_DSG_STAT) : t.dsg = s.dsg := f_congr _ h

theorem dsgRun_congr {s t : State} (h : t.rd .PWM_DSC_DSG_STAT = s.rd .PWM_DSC_DSG_STAT) : t.dsgRun = s.dsgRun := by
  simp only [State.dsgRun, dsg_congr h]

theorem dsgWatch_reacted {L : Reg → Bool} {s t : State} (h : Reacted L s t) (hL : L .PWM_DSC_DSG_STAT = false) (hd : s.dsgRun = false) :
    dsgWatch t = t := dsgWatch_idle t ((dsgRun_congr (h.regs _ hL)).trans hd)

/-- With no discharge under way a fault code of a class without reaction is its record alone. -/
theorem recordFault_eq_recordCore (code : Nat) (s : State) (h : faultClass code ≠ 3) (h' : faultClass code ≠ 4) (hd : s.dsgRun = false) :
    recordFault code s = recordCore code s := by
  rw [recordFault, recordFault0_eq_recordCore code s h h']
  exact dsgWatch_idle _ ((dsgRun_congr ((recordCore_recorded code s).regs _ rfl)).trans hd)

/-! ## Frames of statements -/

theorem Reacted.keepsOutside {s t : State} (h : Reacted Reg.inSafe s t) : s.keepsOutside t [0x4000, 0x4001, 0x4008, 0x400C, 0x400F, 0x4010] :=
  fun r hr => h.regs r (by by_contra hn; exact hr (Reg.block_of_inSafe r (by simpa using hn)))

theorem Reacted.keepsMemButHlm {L : Reg → Bool} {s t : State} (h : Reacted L s t) : s.keepsMemButHlm t := ⟨h.mem, h.chk⟩

/-- What a record of faults leaves, as the statements say it. -/
theorem Recorded.faultFrame {s t : State} (h : Recorded s t) (blocks : List Nat) : s.faultFrame t blocks :=
  ⟨fun r hr => h.regs r (by
    by_contra hn
    have := Reg.block_of_inRec r (by simpa using hn)
    simp only [List.mem_cons, List.not_mem_nil, or_false, not_or] at this hr
    omega), h.mem, h.chk⟩

end Sys2Proof.Machine
end

section
/-! PROOF. O4: device-state requests. -/

namespace Sys2Proof.Machine

open Sys2Proof

/-- What a register write of the agent bus does is what its change does at the core cycle of the write. -/
theorem writes_agentTurn {c : Instr} {f : State → State} {s : State} {P : State → State → Prop} (hc : exec c s = .next (agentTurn f s))
    (h : P s.atWrite (f s.atWrite)) : writes c s P := ⟨f s.atWrite, hc, h⟩

theorem atWrite_dsgRun (s : State) : s.atWrite.dsgRun = s.dsgRun := dsgRun_congr (rd_atWrite s _)
theorem atWrite_dev (s : State) : s.atWrite.dev = s.dev := dev_congr (rd_atWrite s _)
theorem atWrite_axis (s : State) (n : Fin 4) : s.atWrite.axis n = s.axis n := axis_congr (rd_atWrite s _) n
theorem atWrite_latch (s : State) (k : Fin 128) : s.atWrite.latch k = s.latch k := latch_congr (fun _ => rd_atWrite s _) k

theorem exec_of_isRequest {c : Instr} {key : BitVec 16} {target : Nat} (h : isRequest c key target) (s : State) :
    exec c s = .next (agentTurn (stateRequest target key) s) := by
  rcases h with ⟨rfl, rfl⟩ | ⟨rfl, rfl⟩ | ⟨rfl, rfl⟩ | ⟨rfl, rfl⟩ | ⟨rfl, rfl⟩ | ⟨rfl, rfl⟩ <;> rfl

theorem noOtherSource_iff (s : State) : noOtherSource s = true ↔ ∀ k : Fin 128, k ≠ 117 → s.srcCounts k = false := by
  simp only [noOtherSource, List.all_eq_true, List.mem_finRange, true_implies, Bool.or_eq_true, decide_eq_true_eq, Bool.not_eq_true', Fin.ext_iff,
    ne_eq]
  exact forall_congr' fun k => by rw [or_iff_not_imp_left]; exact Iff.rfl

theorem axesOff_iff (s : State) : s.axesOff = true ↔ ∀ n, s.axis n = axOff := by simp [State.axesOff]

theorem dev_lt (s : State) : s.dev < 8 := wGet_lt _ 0 3

/-- The condition of the model is the table's (R23). -/
theorem requestOk_iff (s : State) (target : Nat) : requestOk s target = true ↔ agentChange s target := by
  by_cases h1 : target = devConfig
  · simp [requestOk, agentChange, h1, devConfig, devStandby, devArmed, devRun, devSafe, devDebug]
  by_cases h2 : target = devStandby
  · simp [requestOk, agentChange, h2, noOtherSource_iff, axesOff_iff, devConfig, devStandby, devArmed, devRun, devSafe, devDebug, and_assoc, or_assoc]
  by_cases h3 : target = devArmed
  · simp [requestOk, agentChange, h3, axesOff_iff, State.broken, devConfig, devStandby, devArmed, devRun, devSafe, devDebug, and_assoc]
  by_cases h4 : target = devRun
  · simp [requestOk, agentChange, h4, State.broken, devConfig, devStandby, devArmed, devRun, devSafe, devDebug]
  by_cases h5 : target = devSafe
  · simp [requestOk, agentChange, h5, devConfig, devStandby, devArmed, devRun, devSafe, devDebug]; omega
  by_cases h6 : target = devDebug
  · simp [requestOk, agentChange, h6, devConfig, devStandby, devArmed, devRun, devSafe, devDebug, -and_imp]
    exact fun _ => by omega
  simp [requestOk, agentChange, h1, h2, h3, h4, h5, h6]

theorem atWrite_requestOk (s : State) (target : Nat) : requestOk s.atWrite target = requestOk s target := by
  unfold State.atWrite; split <;> rfl

/-- A change that the table allows leaves the state that it starts from. -/
theorem agentChange_ne {s : State} {target : Nat} (h : agentChange s target) : s.dev ≠ target := by
  unfold agentChange at h
  simp only [devConfig, devStandby, devArmed, devRun, devSafe, devDebug] at h
  omega

/-! ## A request carried out -/

/-- What follows the change of device state itself: SAFE left, an enabled Anvil taken back, the cycle of DEBUG noted. -/
def requestTail (target old : Nat) (s : State) : State :=
  let s := if old = devSafe then leaveSafe s else s
  let s := if target = devConfig && s.sv = svEnabled then s.setSv svArmed else s
  if target = devDebug then { s with sys := { s.sys with dbgCyc := some s.perCycle } } else s

theorem leaveSafe_inSource (s : State) : Reacted Reg.inSource s (leaveSafe s) :=
  (sourceDrop_inSource 117 true s).trans (.foldl _ _ (fun n _ u => .ite _ ((setAxis_inAxis n axOff u).mono Reg.inSource_of_inAxis)) _)

theorem requestTail_inSafe (target old : Nat) (s : State) : Reacted Reg.inSafe s (requestTail target old s) := by
  unfold requestTail
  extract_lets s1 s2
  have h1 : Reacted Reg.inSafe s s1 := .ite _ ((leaveSafe_inSource s).mono Reg.inSafe_of_inSource)
  have h2 : Reacted Reg.inSafe s1 s2 := .ite _ (setSv_inSafe svArmed s1)
  exact (h1.trans h2).trans (.ite _ (.sys s2 _))

theorem dev_requestTail (target old : Nat) (s : State) : (requestTail target old s).dev = s.dev := by
  unfold requestTail
  extract_lets s1 s2
  have h1 : s1.dev = s.dev := by
    unfold s1; split
    · exact dev_congr ((leaveSafe_inSource s).regs _ rfl)
    · rfl
  have h2 : s2.dev = s1.dev := by
    unfold s2; split
    · exact dev_setSv _ _
    · rfl
  split
  · exact h2.trans h1
  · exact h2.trans h1

theorem setDevCause_inSafe (target : Nat) (s : State) : Reacted Reg.inSafe s (withCause 0 (setDev target) s) :=
  withCause_reacted 0 _ s fun u => setDev_inSafe target u

theorem requestDo_eq (target : Nat) (s : State) (h : target ≠ devSafe) (hd : s.dsgRun = false) :
    requestDo target s = requestTail target s.dev (withCause 0 (setDev target) s) := by
  have hr := (setDevCause_inSafe target s).trans (requestTail_inSafe target s.dev _)
  exact (if_neg h).trans (dsgWatch_reacted hr rfl hd)

theorem requestDo_safe (s : State) (hd : s.dsgRun = false) : requestDo devSafe s = withCause 0 enterSafe0 s := by
  have hw (u : State) (hu : u.dsgRun = false) : enterSafe u = enterSafe0 u := dsgWatch_reacted (enterSafe0_inSafe u) rfl hu
  have hu : ({ s with mbx := { s.mbx with why := some 0 } } : State).dsgRun = false := hd
  simp only [requestDo, ↓reduceIte, withCause, hw _ hu]

theorem requestDo_inSafe (target : Nat) (s : State) (hd : s.dsgRun = false) : Reacted Reg.inSafe s (requestDo target s) := by
  by_cases h : target = devSafe
  · subst h
    rw [requestDo_safe s hd]
    exact withCause_reacted 0 _ s enterSafe0_inSafe
  · rw [requestDo_eq target s h hd]
    exact (setDevCause_inSafe target s).trans (requestTail_inSafe target s.dev _)

theorem requestDo_dev (target : Nat) (s : State) (h : agentChange s target) (ht : target < 8) (hd : s.dsgRun = false) :
    (requestDo target s).dev = target ∧ (requestDo target s).flag Fld.SYS_STATUS_STATE_CHG = true := by
  by_cases hs : target = devSafe
  · subst hs
    have hrow : devConfig ≤ s.dev ∧ s.dev ≤ devRun := by
      have := (requestOk_iff s devSafe).mpr h
      simpa [requestOk, devSafe, devConfig, devStandby, devArmed, devRun] using this
    have hin := enterSafe0_inSafeState { s with mbx := { s.mbx with why := some 0 } } hrow
    rw [requestDo_safe s hd]
    exact ⟨hin.dev, hin.chg⟩
  · rw [requestDo_eq target s hs hd]
    refine ⟨(dev_requestTail _ _ _).trans (dev_setDev target _ ht), (requestTail_inSafe _ _ _).flag_status 4 ?_⟩
    exact flag_stateChg_setDev target { s with mbx := { s.mbx with why := some 0 } } (agentChange_ne h)

/-! ## SAFE left -/

theorem raw_sourceInactive (k j : Fin 128) (s : State) : (sourceInactive k s).raw j = if j = k then false else s.raw j := by
  unfold sourceInactive
  split
  · exact raw_putSrc s k j false
  · next h => split <;> simp_all

theorem raw_sourceDrop (k j : Fin 128) (hold : Bool) (s : State) : (sourceDrop k hold s).raw j = if j = k then false else s.raw j :=
  (raw_congr (fun _ => (refreshGroups_inGroup k _ hold _).regs _ rfl) j).trans ((raw_putLatch _ _ _ _).trans (raw_sourceInactive k j s))

theorem latch_sourceDrop (k : Fin 128) (hold : Bool) (s : State) : (sourceDrop k hold s).latch k = false :=
  (latch_congr (fun _ => (refreshGroups_inGroup k _ hold _).regs _ rfl) k).trans ((latch_putSrc _ _ _ _).trans (if_pos rfl))

theorem axis_sourceDrop (k : Fin 128) (hold : Bool) (s : State) (n : Fin 4) : (sourceDrop k hold s).axis n = s.axis n := by
  have h1 : (sourceInactive k s).rd .SYS_AX_STATE = s.rd .SYS_AX_STATE := by
    unfold sourceInactive
    split
    · exact rd_wr_ne _ _ _ _ (by simp)
    · rfl
  exact axis_congr (((refreshGroups_inGroup k _ hold _).regs _ rfl).trans ((rd_wr_ne _ _ _ _ (by simp)).trans h1)) n

/-- Leaving SAFE clears source 117 and turns the held axes OFF (R30). -/
theorem leaveSafe_clears (s : State) : (leaveSafe s).raw 117 = false ∧ (leaveSafe s).latch 117 = false ∧
    ∀ n, (leaveSafe s).axis n = if s.axis n = axHold then axOff else s.axis n := by
  have hax : Reacted Reg.inAxis (sourceDrop 117 true s) (leaveSafe s) := .foldl _ _ (fun n _ u => .ite _ (setAxis_inAxis n axOff u)) _
  refine ⟨?_, ?_, fun n => ?_⟩
  · exact (raw_congr (fun _ => hax.regs _ rfl) _).trans ((raw_sourceDrop 117 117 true s).trans (if_pos rfl))
  · exact (latch_congr (fun _ => hax.regs _ rfl) _).trans (latch_sourceDrop 117 true s)
  · have hstep (u : State) (c d : Fin 4) : (if u.axis c = axHold then u.setAxis c axOff else u).axis d =
        if d = c then (if u.axis d = axHold then axOff else u.axis d) else u.axis d := by
      by_cases hd : d = c
      · subst hd
        by_cases hh : u.axis d = axHold
        · simp only [hh, ↓reduceIte]; rw [axis_setAxis _ _ _ _ (by decide), if_pos rfl]
        · simp only [hh, ↓reduceIte]
      · by_cases hh : u.axis c = axHold
        · simp only [hh, hd, ↓reduceIte]; rw [axis_setAxis _ _ _ _ (by decide), if_neg hd]
        · simp only [hh, hd, ↓reduceIte]
    have := foldl_view (fun (u : State) c => if u.axis c = axHold then u.setAxis c axOff else u) (fun d u => u.axis d)
      (fun _ a => if a = axHold then axOff else a) (fun u c d hd => (hstep u c d).trans (if_neg hd))
      (fun u c => (hstep u c c).trans (if_pos rfl)) (List.finRange 4) (List.nodup_finRange 4) (sourceDrop 117 true s) n (List.mem_finRange n)
    simp only [axis_sourceDrop] at this
    exact this

/-! ## Room in Felyene's queue -/

/-- With room in Felyene's queue a change announced by an event writes no more than its own registers and no memory, and adds at most one
event. -/
structure Announced (rs : List Reg) (s t : State) : Prop where
  regs : s.keeps t rs
  mem : s.keepsMem t
  queue : t.mbx.evq.length ≤ s.mbx.evq.length + 1

theorem setDev_announced (d : Nat) (s : State) (h : s.mbx.evq.length < 64) : Announced [.SYS_STATE, .SYS_STATUS] s (setDev d s) := by
  unfold setDev
  split
  · exact ⟨fun _ _ => rfl, ⟨rfl, rfl⟩, by omega⟩
  · extract_lets old c s1
    obtain ⟨x, hx⟩ : ∃ x, s1 = { s with anv := x } := brakeDrop_anv _ s
    obtain ⟨m, hm, hq⟩ := pushEvent_room 0x01F0 ([old, d, c, 0].map (BitVec.ofNat 8))
      ((s1.setF Fld.SYS_STATE_DEV_STATE d).raise Fld.SYS_STATUS_STATE_CHG) (by rw [hx]; exact h)
    rw [hm]
    refine ⟨fun r hr => ?_, by rw [hx]; exact ⟨rfl, rfl⟩, by rw [hx] at hq; exact hq⟩
    simp only [List.mem_cons, List.not_mem_nil, or_false, not_or] at hr
    have : ((s1.setF Fld.SYS_STATE_DEV_STATE d).raise Fld.SYS_STATUS_STATE_CHG).rd r = s1.rd r :=
      (rd_raise_ne _ _ _ hr.2).trans (rd_setF_ne _ _ _ _ hr.1)
    exact this.trans (rd_brakeDrop _ s r)

theorem setSv_announced (v : Nat) (s : State) (h : s.mbx.evq.length < 64) : Announced [.SYS_STATE, .ANV_STATUS] s (s.setSv v) := by
  unfold State.setSv
  extract_lets old s1 s2
  obtain ⟨x, hx⟩ : ∃ x, s2 = { s1 with anv := x } := brakeDrop_anv _ s1
  have h2 : Announced [.SYS_STATE, .ANV_STATUS] s s2 := by
    refine ⟨fun r hr => ?_, by rw [hx]; exact ⟨rfl, rfl⟩, by rw [hx]; exact Nat.le_succ _⟩
    simp only [List.mem_cons, List.not_mem_nil, or_false, not_or] at hr
    exact (rd_brakeDrop _ s1 r).trans ((rd_setF_ne _ _ _ _ hr.1).trans (rd_setF_ne _ _ _ _ hr.2))
  split
  · exact h2
  · obtain ⟨m, hm, hq⟩ := pushEvent_room 0x09F0 ([old, v, s2.f Fld.ANV_CAUSE_MON, s2.f Fld.ANV_CAUSE_AXIS, s2.f Fld.ANV_CAUSE_REACT, 0, 0, 0].map
      (BitVec.ofNat 8)) s2 (by rw [hx]; exact h)
    rw [hm]
    exact ⟨h2.regs, h2.mem, by rw [hx] at hq; exact hq⟩

/-- A request for any state but SAFE and STANDBY writes three registers with room in Felyene's queue. -/
theorem requestDo_room (target : Nat) (s : State) (hs : target ≠ devSafe) (h : agentChange s target) (ht : target ≠ devStandby)
    (hd : s.dsgRun = false) (hq : s.mbx.evq.length < 60) :
    s.keeps (requestDo target s) [.SYS_STATE, .SYS_STATUS, .ANV_STATUS] ∧ s.keepsMem (requestDo target s) := by
  have hold : s.dev ≠ devSafe := by
    unfold agentChange at h
    simp only [devConfig, devStandby, devArmed, devRun, devSafe, devDebug] at *
    omega
  rw [requestDo_eq target s hs hd]
  unfold requestTail
  extract_lets s1 s2
  have h0 := setDev_announced target { s with mbx := { s.mbx with why := some 0 } } (by exact Nat.lt_of_lt_of_le hq (by decide))
  have h1 : s1 = withCause 0 (setDev target) s := if_neg hold
  have hq1 : s1.mbx.evq.length < 64 := by
    rw [h1]; exact Nat.lt_of_le_of_lt h0.queue (by simp only; omega)
  have h12 : s.keeps s2 [.SYS_STATE, .SYS_STATUS, .ANV_STATUS] ∧ s.keepsMem s2 := by
    have hk1 : s.keeps s1 [.SYS_STATE, .SYS_STATUS] := by rw [h1]; exact h0.regs
    have hm1 : s.keepsMem s1 := by rw [h1]; exact h0.mem
    unfold s2
    split
    · have h2 := setSv_announced svArmed s1 hq1
      exact ⟨fun r hr => (h2.regs r (by simp_all)).trans (hk1 r (by simp_all)), h2.mem.1.trans hm1.1, h2.mem.2.trans hm1.2⟩
    · exact ⟨fun r hr => hk1 r (by simp_all), hm1⟩
  split
  · exact h12
  · exact h12

/-! ## A request refused -/

/-- A refused request shows what was asked for and where (R31). -/
theorem requestRefused_shows (target : Nat) (s : State) (ht : target < 8) :
    (requestRefused target s).flag Fld.SYS_STATUS_REQ_REFUSED = true ∧ (requestRefused target s).f Fld.SYS_REFUSE_TARGET = target ∧
      (requestRefused target s).f Fld.SYS_REFUSE_DEV_AT = s.dev ∧ (requestRefused target s).f Fld.SYS_REFUSE_AXIS_WR = 0 ∧
      s.onlyRegs (requestRefused target s) [.SYS_STATUS, .SYS_REFUSE] := by
  unfold requestRefused
  extract_lets s1
  have hdev : s1.dev = s.dev := dev_congr ((rd_setF_ne _ _ _ _ (by decide)).trans (rd_raise_ne _ _ _ (by decide)))
  have hmod : ∀ n, n < 8 → n % 2 ^ 3 = n := fun n hn => Nat.mod_eq_of_lt hn
  refine ⟨?_, ?_, ?_, ?_, ?_, fun r hr => ?_⟩
  · have : ((s.raise Fld.SYS_STATUS_REQ_REFUSED).setF Fld.SYS_REFUSE_TARGET target).flag Fld.SYS_STATUS_REQ_REFUSED = true :=
      (flag_congr Fld.SYS_STATUS_REQ_REFUSED (rd_setF_ne _ _ _ _ (by decide))).trans (by
        rw [State.flag, f_raise _ _ (by decide)]; rfl)
    exact (flag_congr Fld.SYS_STATUS_REQ_REFUSED ((rd_setF_ne _ _ _ _ (by decide)).trans (rd_setF_ne _ _ _ _ (by decide)))).trans this
  · rw [f_setF_beside _ Fld.SYS_REFUSE_AXIS_WR Fld.SYS_REFUSE_TARGET _ rfl (by decide) (by decide),
      f_setF_beside _ Fld.SYS_REFUSE_DEV_AT Fld.SYS_REFUSE_TARGET _ rfl (by decide) (by decide)]
    exact (f_setF _ _ _ (by decide)).trans (hmod _ ht)
  · rw [f_setF_beside _ Fld.SYS_REFUSE_AXIS_WR Fld.SYS_REFUSE_DEV_AT _ rfl (by decide) (by decide), hdev]
    exact (f_setF _ _ _ (by decide)).trans (hmod _ (dev_lt s))
  · exact f_setF _ _ _ (by decide)
  · rfl
  · simp only [List.mem_cons, List.not_mem_nil, or_false, not_or] at hr
    exact (rd_setF_ne _ _ _ _ hr.2).trans ((rd_setF_ne _ _ _ _ hr.2).trans ((rd_setF_ne _ _ _ _ hr.2).trans (rd_raise_ne _ _ _ hr.1)))

theorem stateRequest_ok (target : Nat) (key : BitVec 16) (s : State) (hk : key = 0xC3A5#16) (hc : s.sys.causeCyc ≠ some s.perCycle)
    (h : agentChange s target) : stateRequest target key s = requestDo target s :=
  if_pos (by simp [hk, hc, (requestOk_iff s target).mpr h])

theorem stateRequest_no (target : Nat) (key : BitVec 16) (s : State)
    (h : key ≠ 0xC3A5#16 ∨ s.sys.causeCyc = some s.perCycle ∨ ¬ agentChange s target) :
    stateRequest target key s = requestRefused target s := by
  refine if_neg fun hyes => ?_
  simp only [Bool.and_eq_true, decide_eq_true_eq, bne_iff_ne, ne_eq, requestOk_iff] at hyes
  obtain ⟨⟨hk, hc⟩, ha⟩ := hyes
  rcases h with h | h | h
  · exact h hk
  · exact hc h
  · exact h ha

/-- Settles O4: what the model checks is what the table of R23 asks, and each step of a request carried out keeps what it does not
announce. -/
theorem stateRequestsFollowTheTable : Obligations.StateRequestsFollowTheTable := by
  unfold Obligations.StateRequestsFollowTheTable
  intro c key target s hreq
  have ht : target < 8 := by
    rcases hreq with ⟨-, rfl⟩ | ⟨-, rfl⟩ | ⟨-, rfl⟩ | ⟨-, rfl⟩ | ⟨-, rfl⟩ | ⟨-, rfl⟩ <;> decide
  have hexec := exec_of_isRequest hreq s
  have hchange : agentChange s.atWrite target ↔ agentChange s target := by
    rw [← requestOk_iff, ← requestOk_iff, atWrite_requestOk]
  have hcause : s.atWrite.sys.causeCyc = some s.atWrite.perCycle ↔ s.sys.causeCyc = some s.perCycle := by
    rw [atWrite_sys, atWrite_perCycle]
  refine ⟨fun hk hc ha hd hl => writes_agentTurn hexec ?_, fun hno => writes_agentTurn hexec ?_⟩
  · rw [← hchange] at ha
    rw [← atWrite_dsgRun] at hd
    rw [← atWrite_latch] at hl
    rw [stateRequest_ok target key _ hk (fun e => hc (hcause.mp e)) ha]
    generalize s.atWrite = u at *
    obtain ⟨hdev, hchg⟩ := requestDo_dev target u ha ht hd
    have hin := requestDo_inSafe target u hd
    refine ⟨hdev, hchg, hin.time, fun hsafe => ?_, fun hleave => ?_, ?_, fun hs hst hq => requestDo_room target u hs ha hst hd hq⟩
    · subst hsafe
      have hrow : devConfig ≤ u.dev ∧ u.dev ≤ devRun := by
        have := (requestOk_iff u devSafe).mpr ha
        simpa [requestOk, devSafe, devConfig, devStandby, devArmed, devRun] using this
      have hsafe := enterSafe0_inSafeState { u with mbx := { u.mbx with why := some 0 } } hrow
      rw [requestDo_safe u hd]
      exact ⟨hsafe.raw, hsafe.latch, hsafe.axes (hl.resolve_right (by simp))⟩
    · obtain ⟨rfl, hold⟩ := hleave
      have heq : requestDo devStandby u = leaveSafe (withCause 0 (setDev devStandby) u) := by
        rw [requestDo_eq devStandby u (by decide) hd, requestTail, hold]
        rfl
      obtain ⟨hraw, hlatch, hax⟩ := leaveSafe_clears (withCause 0 (setDev devStandby) u)
      rw [heq]
      refine ⟨hraw, hlatch, fun n => ?_⟩
      have haxis : (withCause 0 (setDev devStandby) u).axis n = u.axis n :=
        axis_congr (rd_setDev devStandby { u with mbx := { u.mbx with why := some 0 } } _ rfl (by decide)) n
      rw [hax n, haxis]
    · exact ⟨fun r hr => hin.keepsOutside r (by simp only [List.mem_cons, List.not_mem_nil, or_false, not_or] at hr ⊢; omega), hin.keepsMemButHlm⟩
  · have hno' : key ≠ 0xC3A5#16 ∨ s.atWrite.sys.causeCyc = some s.atWrite.perCycle ∨ ¬ agentChange s.atWrite target := by
      rwa [hcause, hchange]
    rw [stateRequest_no target key _ hno']
    exact requestRefused_shows target s.atWrite ht

end Sys2Proof.Machine
end

section
/-! PROOF. O5: writes of SYS_AX_STATE. -/

namespace Sys2Proof.Machine

open Sys2Proof

/-- A loop of which one part alone has an effect. -/
theorem foldl_single {α β : Type} (g : β → α → β) (n : α) (s : β) (l : List α) (hl : l.Nodup) (hn : n ∈ l) (hsrc : ∀ m, m ≠ n → g s m = s)
    (hdst : ∀ m, m ≠ n → g (g s n) m = g s n) : l.foldl g s = g s n := by
  induction l with
  | nil => cases hn
  | cons m l ih =>
    obtain ⟨hm, hl⟩ := List.nodup_cons.mp hl
    by_cases h : m = n
    · subst h
      exact foldl_fix g (g s m) l fun i hi => hdst i fun e => hm (e ▸ hi)
    · rw [List.foldl_cons, hsrc m h]
      exact ih hl ((List.mem_cons.mp hn).resolve_left (Ne.symm h))

/-- The condition of R28 and R29 on the field itself, when no hardware change of the axes falls in the peripheral cycle. -/
theorem axisOk_iff (s : State) (n : Fin 4) (new : Nat) : axisOk s n (s.axis n) new = true ↔
    (new = axOff ∧ ¬ ∃ k : Fin 128, s.srcCounts k = true ∧ srcAction s k (axGroup n) ≠ 0) ∨ new = axHold ∨
      (new ≠ axOff ∧ new ≠ axHold ∧ (s.dev = devRun ∨ s.dev = devDebug) ∧ s.axis n ≠ axHold) := by
  unfold axisOk
  by_cases h0 : new = axOff
  · subst h0
    simp [axOff, axHold, imp_iff_not_or]
  · by_cases h5 : new = axHold
    · simp [h5, axOff, axHold]
    · simp [h0, h5]

/-- The one field of the write that differs from the axes as they stand. -/
def oneAxis (s : State) (value : Word) (n : Fin 4) : Prop :=
  wGet value (4 * n.val) 3 ≠ s.axis n ∧ ∀ m : Fin 4, m ≠ n → wGet value (4 * m.val) 3 = s.axis m

/-- A field that keeps its value is passed over. -/
theorem axisField_same (value before : Word) (n : Fin 4) (s : State) (h : wGet value (4 * n.val) 3 = wGet before (4 * n.val) 3) :
    axisField value before n s = (s, false) := if_pos (by simp [h])

/-- What the one field changed leads to. -/
theorem axStateWrite_eq (value : Word) (n : Fin 4) (s : State) (h : oneAxis s value n) (hc : s.sys.axCyc ≠ some s.perCycle) :
    axStateWrite value s =
      let p := axisField value (s.rd .SYS_AX_STATE) n s
      if p.2 then
        dsgWatch (((((p.1.raise Fld.SYS_STATUS_REQ_REFUSED).setF Fld.SYS_REFUSE_TARGET (wGet value (4 * n.val) 3)).setF Fld.SYS_REFUSE_DEV_AT
          ((p.1.raise Fld.SYS_STATUS_REQ_REFUSED).setF Fld.SYS_REFUSE_TARGET (wGet value (4 * n.val) 3)).dev).setF Fld.SYS_REFUSE_AXIS
            n.val).setF Fld.SYS_REFUSE_AXIS_WR 1)
      else dsgWatch p.1 := by
  have hbefore : axisBefore s = s.rd .SYS_AX_STATE := if_neg hc
  have hpass : ∀ m, m ≠ n → ∀ u, axisField value (s.rd .SYS_AX_STATE) m u = (u, false) :=
    fun m hm u => axisField_same _ _ _ _ (h.2 m hm)
  have hfold := foldl_single (fun (p : State × Option (Fin 4)) m =>
    ((axisField value (s.rd .SYS_AX_STATE) m p.1).1, if (axisField value (s.rd .SYS_AX_STATE) m p.1).2 then some m else p.2)) n (s, none)
    (List.finRange 4) (List.nodup_finRange 4) (List.mem_finRange n) (fun m hm => by simp [hpass m hm]) (fun m hm => by simp [hpass m hm])
  simp only [axStateWrite, hbefore]
  erw [hfold]
  cases (axisField value (s.rd .SYS_AX_STATE) n s).2 <;> rfl

/-- The axis event beside the write of its field (R29). -/
theorem axisEvent_room (n : Fin 4) (old v : Nat) (s : State) (h : s.mbx.evq.length < 64) : ∃ m : MbxSt, axisEvent n old v s = { s with mbx := m } := by
  unfold axisEvent
  extract_lets g src
  split
  · exact ⟨s.mbx, rfl⟩
  · obtain ⟨m, hm, -⟩ := pushEvent_room 0x02F0 [BitVec.ofNat 8 n.val, BitVec.ofNat 8 old, BitVec.ofNat 8 v, BitVec.ofNat 8 src] s h
    exact ⟨m, hm⟩

/-- A write that R28 allows. -/
theorem axStateWrite_allowed (value : Word) (n : Fin 4) (s : State) (h : oneAxis s value n) (hc : s.sys.axCyc ≠ some s.perCycle)
    (hd : s.dsgRun = false) (hnew : wGet value (4 * n.val) 3 ≤ axHold) (hok : axisOk s n (s.axis n) (wGet value (4 * n.val) 3) = true) :
    axStateWrite value s = axisEvent n (s.axis n) (wGet value (4 * n.val) 3)
      (s.wr .SYS_AX_STATE (wPut (s.rd .SYS_AX_STATE) (4 * n.val) 3 (wGet value (4 * n.val) 3))) := by
  have hfield : axisField value (s.rd .SYS_AX_STATE) n s = (axisEvent n (s.axis n) (wGet value (4 * n.val) 3)
      (s.wr .SYS_AX_STATE (wPut (s.rd .SYS_AX_STATE) (4 * n.val) 3 (wGet value (4 * n.val) 3))), false) :=
    (if_neg (by have := h.1; simp only [State.axis] at this; simp [this, hnew])).trans (if_pos hok)
  rw [axStateWrite_eq value n s h hc, hfield]
  have hreg := ((axisEvent_recorded n (s.axis n) (wGet value (4 * n.val) 3) _).regs .PWM_DSC_DSG_STAT rfl).trans
    (rd_wr_ne s .SYS_AX_STATE _ (wPut (s.rd .SYS_AX_STATE) (4 * n.val) 3 (wGet value (4 * n.val) 3)) (by decide))
  exact dsgWatch_idle _ ((dsgRun_congr hreg).trans hd)

/-- A write that R28 refuses. -/
theorem axStateWrite_refused (value : Word) (n : Fin 4) (s : State) (h : oneAxis s value n) (hc : s.sys.axCyc ≠ some s.perCycle)
    (hd : s.dsgRun = false) (hnew : wGet value (4 * n.val) 3 ≤ axHold) (hno : axisOk s n (s.axis n) (wGet value (4 * n.val) 3) = false) :
    ∃ d, d = s.dev ∧ axStateWrite value s =
      ((((s.raise Fld.SYS_STATUS_REQ_REFUSED).setF Fld.SYS_REFUSE_TARGET (wGet value (4 * n.val) 3)).setF Fld.SYS_REFUSE_DEV_AT d).setF
        Fld.SYS_REFUSE_AXIS n.val).setF Fld.SYS_REFUSE_AXIS_WR 1 := by
  have hfield : axisField value (s.rd .SYS_AX_STATE) n s = (s, true) :=
    (if_neg (by have := h.1; simp only [State.axis] at this; simp [this, hnew])).trans (if_neg (by simp only [State.axis] at hno; simp [hno]))
  have hrefuse : ∀ (u : State) (F : RF) (v : Nat), F.reg = .SYS_REFUSE → u.dsgRun = false → (u.setF F v).dsgRun = false :=
    fun u F v hF hu => (dsgRun_congr (rd_setF_ne _ _ _ _ (by rw [hF]; decide))).trans hu
  refine ⟨_, dev_congr (s := s) ((rd_setF_ne _ Fld.SYS_REFUSE_TARGET (wGet value (4 * n.val) 3) _ (by decide)).trans
    (rd_raise_ne s Fld.SYS_STATUS_REQ_REFUSED _ (by decide))), ?_⟩
  rw [axStateWrite_eq value n s h hc, hfield]
  refine dsgWatch_idle _ (hrefuse _ _ _ rfl (hrefuse _ _ _ rfl (hrefuse _ _ _ rfl (hrefuse _ _ _ rfl ?_))))
  exact (dsgRun_congr (rd_raise_ne _ _ _ (by decide))).trans hd

/-- A refused axis write shows the axis, the state asked for and the device state (R31). -/
theorem axisRefused_shows (s : State) (v d : Nat) (n : Fin 4) (hv : v < 8) (hd : d = s.dev) :
    let t := ((((s.raise Fld.SYS_STATUS_REQ_REFUSED).setF Fld.SYS_REFUSE_TARGET v).setF Fld.SYS_REFUSE_DEV_AT d).setF
        Fld.SYS_REFUSE_AXIS n.val).setF Fld.SYS_REFUSE_AXIS_WR 1
    (∀ m, t.axis m = s.axis m) ∧ t.flag Fld.SYS_STATUS_REQ_REFUSED = true ∧ t.f Fld.SYS_REFUSE_TARGET = v ∧
      t.f Fld.SYS_REFUSE_DEV_AT = s.dev ∧ t.f Fld.SYS_REFUSE_AXIS = n.val ∧ t.f Fld.SYS_REFUSE_AXIS_WR = 1 ∧
      s.onlyRegs t [.SYS_STATUS, .SYS_REFUSE] := by
  intro t
  have hkeep : ∀ r, r ≠ .SYS_STATUS → r ≠ .SYS_REFUSE → t.rd r = s.rd r := fun r h1 h2 =>
    (rd_setF_ne _ _ _ _ h2).trans ((rd_setF_ne _ _ _ _ h2).trans ((rd_setF_ne _ _ _ _ h2).trans ((rd_setF_ne _ _ _ _ h2).trans
      (rd_raise_ne _ _ _ h1))))
  have hstatus : t.rd .SYS_STATUS = (s.raise Fld.SYS_STATUS_REQ_REFUSED).rd .SYS_STATUS :=
    (rd_setF_ne _ _ _ _ (by decide)).trans ((rd_setF_ne _ _ _ _ (by decide)).trans ((rd_setF_ne _ _ _ _ (by decide)).trans
      (rd_setF_ne _ _ _ _ (by decide))))
  refine ⟨fun m => axis_congr (hkeep _ (by decide) (by decide)) m, ?_, ?_, ?_, ?_, ?_, rfl, fun r hr => ?_⟩
  · rw [flag_congr (s := s.raise Fld.SYS_STATUS_REQ_REFUSED) Fld.SYS_STATUS_REQ_REFUSED hstatus, State.flag, f_raise _ _ (by decide)]
    rfl
  · rw [f_setF_beside _ Fld.SYS_REFUSE_AXIS_WR Fld.SYS_REFUSE_TARGET _ rfl (by decide) (by decide),
      f_setF_beside _ Fld.SYS_REFUSE_AXIS Fld.SYS_REFUSE_TARGET _ rfl (by decide) (by decide),
      f_setF_beside _ Fld.SYS_REFUSE_DEV_AT Fld.SYS_REFUSE_TARGET _ rfl (by decide) (by decide)]
    exact (f_setF _ _ _ (by decide)).trans (Nat.mod_eq_of_lt hv)
  · rw [f_setF_beside _ Fld.SYS_REFUSE_AXIS_WR Fld.SYS_REFUSE_DEV_AT _ rfl (by decide) (by decide),
      f_setF_beside _ Fld.SYS_REFUSE_AXIS Fld.SYS_REFUSE_DEV_AT _ rfl (by decide) (by decide), hd]
    exact (f_setF _ _ _ (by decide)).trans (Nat.mod_eq_of_lt (dev_lt s))
  · rw [f_setF_beside _ Fld.SYS_REFUSE_AXIS_WR Fld.SYS_REFUSE_AXIS _ rfl (by decide) (by decide)]
    exact (f_setF _ _ _ (by decide)).trans (Nat.mod_eq_of_lt (Nat.lt_of_lt_of_le n.isLt (by decide)))
  · exact f_setF _ _ _ (by decide)
  · simp only [List.mem_cons, List.not_mem_nil, or_false, not_or] at hr
    exact hkeep r hr.1 hr.2

/-- Settles O5: the loop over the axis fields passes over every field but the one changed, and that one is judged by R28. -/
theorem axisWritesAreJudgedFieldByField : Obligations.AxisWritesAreJudgedFieldByField := by
  unfold Obligations.AxisWritesAreJudgedFieldByField
  intro s value n old new driven tripped allowed hne hother hcyc hdsg
  have hexec : exec (.axStateWrite value) s = .next (agentTurn (axStateWrite value) s) := rfl
  have hu : oneAxis s.atWrite value n := ⟨by rw [atWrite_axis]; exact hne, fun m hm => by rw [atWrite_axis]; exact hother m hm⟩
  have hc : s.atWrite.sys.axCyc ≠ some s.atWrite.perCycle := by rw [atWrite_sys, atWrite_perCycle]; exact hcyc
  have hd : s.atWrite.dsgRun = false := (atWrite_dsgRun s).trans hdsg
  have hok : axisOk s.atWrite n (s.atWrite.axis n) (wGet value (4 * n.val) 3) = axisOk s n old new := by
    unfold State.atWrite; split <;> rfl
  have hdev : s.atWrite.dev = s.dev := atWrite_dev s
  have hiff := axisOk_iff s n new
  have hcode : driven ∨ new = axOff → new ≤ axHold ∧ new ≠ axHold := by
    rintro ((h | h | h | h) | h) <;> rw [h] <;> decide
  have hjudged : driven ∨ new = axOff → (axisOk s n old new = true ↔ allowed) := by
    intro hcodes
    have hhold := (hcode hcodes).2
    refine hiff.trans ⟨?_, ?_⟩
    · rintro (⟨h, ht⟩ | h | ⟨h0, -, hrun, hax⟩)
      · exact .inr ⟨h, ht⟩
      · exact absurd h hhold
      · exact .inl ⟨hcodes.resolve_right h0, hrun, hax⟩
    · rintro (⟨h, hrun, hax⟩ | ⟨h, ht⟩)
      · refine .inr (.inr ⟨?_, hhold, hrun, hax⟩)
        rcases h with h | h | h | h <;> rw [h] <;> decide
      · exact .inl ⟨h, ht⟩
  refine ⟨fun hallow => ?_, fun hcodes hno => ?_⟩
  · have hcodes : driven ∨ new = axOff := hallow.imp And.left And.left
    refine writes_agentTurn hexec ?_
    rw [axStateWrite_allowed value n _ hu hc hd (hcode hcodes).1 (hok.trans ((hjudged hcodes).mpr hallow))]
    generalize s.atWrite = u at *
    have hrec := axisEvent_recorded n (u.axis n) (wGet value (4 * n.val) 3)
      (u.wr .SYS_AX_STATE (wPut (u.rd .SYS_AX_STATE) (4 * n.val) 3 (wGet value (4 * n.val) 3)))
    refine ⟨?_, fun m hm => ?_, ?_, ?_, fun hq => ?_⟩
    · exact (axis_congr (hrec.regs _ rfl) n).trans (axis_wr_same u n _ _ (wGet_lt _ _ 3))
    · exact (axis_congr (hrec.regs _ rfl) m).trans (axis_wr_ne u n m _ hm)
    · have hbit := (hrec.status 0).resolve_right (by simp)
      rw [rd_wr_ne u .SYS_AX_STATE .SYS_STATUS _ (by decide)] at hbit
      exact (flag_eq_testBit _ _ _).trans (hbit.trans (flag_eq_testBit u _ _).symm)
    · exact hrec.dev.trans (dev_congr (rd_wr_ne _ _ _ _ (by decide)))
    · obtain ⟨m, hm⟩ := axisEvent_room n (u.axis n) (wGet value (4 * n.val) 3)
        (u.wr .SYS_AX_STATE (wPut (u.rd .SYS_AX_STATE) (4 * n.val) 3 (wGet value (4 * n.val) 3))) hq
      rw [hm]
      exact ⟨fun r hr => rd_wr_ne u .SYS_AX_STATE r _ (by simpa using hr), rfl, rfl⟩
  · refine writes_agentTurn hexec ?_
    have hfalse : axisOk s n old new = false := by rw [← Bool.not_eq_true, hjudged hcodes]; exact hno
    obtain ⟨d, hdu, heq⟩ := axStateWrite_refused value n _ hu hc hd (hcode hcodes).1 (hok.trans hfalse)
    rw [heq]
    exact axisRefused_shows s.atWrite (wGet value (4 * n.val) 3) d n (wGet_lt _ _ 3) hdu

end Sys2Proof.Machine
end

section
/-! PROOF. O6: register writes, unmapped accesses, fault clear, device time, pins and engine memory. -/

namespace Sys2Proof.Machine

open Sys2Proof

/-! ## The map (R33) -/

/-- Every register of the agent's map lies among the blocks; the host port's registers have addresses of their own, above 32 bits. -/
theorem Reg.addr_range (r : Reg) :
    (0x40000000 ≤ r.addr ∧ r.addr < 0x40114000) ∨ (0x40120000 ≤ r.addr ∧ r.addr < 0x40140000) ∨ 2 ^ 32 ≤ r.addr := by
  cases r <;> simp only [Reg.addr] <;> omega

theorem regionOf_block (a : Nat) (h : (0x40000000 ≤ a ∧ a < 0x40114000) ∨ (0x40120000 ≤ a ∧ a < 0x40140000)) : regionOf a = .block := by
  refine (if_neg (by omega)).trans ((if_neg (by omega)).trans ((if_neg (by omega)).trans ((if_neg (by omega)).trans
    ((if_neg (by omega)).trans ((if_neg (by omega)).trans ?_)))))
  rcases h with h | h
  · exact if_pos h
  · exact (if_neg (by omega)).trans (if_pos h)

theorem regionOf_unmapped (a : Nat) (h : ¬ mapped a) : regionOf a = .nothing := by
  unfold mapped at h
  exact (if_neg (by omega)).trans ((if_neg (by omega)).trans ((if_neg (by omega)).trans ((if_neg (by omega)).trans
    ((if_neg (by omega)).trans ((if_neg (by omega)).trans ((if_neg (by omega)).trans ((if_neg (by omega)).trans (if_neg (by omega)))))))))

/-! ## Registers written by their access codes -/

/-- A write of a whole word to SYS_IRQ_EN or SYS_GPIO_IE goes by the access codes of the register. -/
theorem exec_write_irqEn (v : Word) (s : State) : exec (.registerWrite 0x40000024#32 v 4 false) s = .next (agentTurn (writePlain .SYS_IRQ_EN v) s) := rfl
theorem exec_write_gpioIe (v : Word) (s : State) : exec (.registerWrite 0x40000120#32 v 4 false) s = .next (agentTurn (writePlain .SYS_GPIO_IE v) s) := rfl

theorem writeMerged_irqEn (s : State) (v : Word) :
    writeMerged s .SYS_IRQ_EN v = v &&& 0x7F#32 ||| s.rd .SYS_IRQ_EN &&& 0xFFFFFF80#32 := by
  have hrow : writeMerged s .SYS_IRQ_EN v = wPut (s.rd .SYS_IRQ_EN) 0 7 (wGet v 0 7) := rfl
  have hlow : ∀ i : Fin 32, (0x7F#32).getLsbD i = decide (i.val < 7) := by decide
  have hhigh : ∀ i : Fin 32, (0xFFFFFF80#32).getLsbD i = !decide (i.val < 7) := by decide
  refine BitVec.eq_of_getLsbD_eq fun i hi => ?_
  rw [hrow, getLsbD_wPut _ _ _ _ _ hi, BitVec.getLsbD_or, BitVec.getLsbD_and, BitVec.getLsbD_and, hlow ⟨i, hi⟩, hhigh ⟨i, hi⟩]
  by_cases h7 : i < 7 <;> simp [h7, testBit_wGet]

theorem writeMerged_gpioIe (s : State) (v : Word) : writeMerged s .SYS_GPIO_IE v = v := by
  have hrow : writeMerged s .SYS_GPIO_IE v = wPut (s.rd .SYS_GPIO_IE) 0 32 (wGet v 0 32) := rfl
  refine BitVec.eq_of_getLsbD_eq fun i hi => ?_
  rw [hrow, getLsbD_wPut _ _ _ _ _ hi]
  simp [hi, testBit_wGet]

/-- A write that is not a whole word does nothing to a register (R5). -/
theorem exec_write_part (v : Word) (r : Reg) (a : Word) (w : Nat) (s : State) (ha : a.toNat = r.addr) (hw : w ≠ 4) :
    exec (.registerWrite a v w false) s = .next s := by
  have hblock : regionOf a.toNat = .block := regionOf_block _ (by have := r.addr_range; have := a.isLt; omega)
  have hexec : exec (.registerWrite a v w false) s = .next (agentWrite a.toNat w v s) := rfl
  rw [hexec, agentWrite]
  split
  · rw [busWrite, hblock]; exact congrArg _ (if_neg hw)
  · rw [if_neg (by rw [hblock]; simp)]

/-! ## The other registers -/

theorem unmapped_shows (a : Word) (s : State) :
    (unmapped a s).flag Fld.SYS_STATUS_UNMAPPED = true ∧
      (unmapped a s).rd .SYS_UNMAPPED_ADDR = (if s.flag Fld.SYS_STATUS_UNMAPPED then s.rd .SYS_UNMAPPED_ADDR else a) ∧
      (unmapped a s).rdata = s.rdata ∧ s.onlyRegs (unmapped a s) [.SYS_STATUS, .SYS_UNMAPPED_ADDR] := by
  unfold unmapped
  split
  · next h => exact ⟨h, rfl, rfl, rfl, fun _ _ => rfl⟩
  · refine ⟨?_, ?_, rfl, rfl, fun r hr => ?_⟩
    · rw [State.flag, f_raise _ _ (by decide)]; rfl
    · exact (rd_raise_ne _ _ _ (by decide)).trans (rd_wr _ _ _)
    · simp only [List.mem_cons, List.not_mem_nil, or_false, not_or] at hr
      exact (rd_raise_ne _ _ _ hr.1).trans (rd_wr_ne _ _ _ _ hr.2)

theorem exec_unmapped (a : Word) (isWrite : Bool) (s : State) (h : ¬ mapped a.toNat) :
    exec (.unmappedAccess a isWrite) s = .next (if isWrite then unmapped a s else { unmapped a s with rdata := 0#32 }) :=
  congrArg Host.Outcome.next (if_pos (regionOf_unmapped _ h))

/-- SYS_FAULT cleared, or set again from the codes of the peripheral cycle (R32). -/
theorem clearFaults_shows (s : State) :
    (s.sys.faultCyc ≠ some s.perCycle → (clearFaults s).rd .SYS_FAULT = 0#32) ∧
      (s.sys.faultCyc = some s.perCycle → s.sys.faultLo < 2 ^ 16 → s.sys.faultHi < 2 ^ 16 →
        (clearFaults s).f Fld.SYS_FAULT_FIRST = s.sys.faultLo ∧ (clearFaults s).f Fld.SYS_FAULT_LAST = s.sys.faultHi) ∧
      s.onlyRegs (clearFaults s) [.SYS_FAULT] := by
  by_cases h : s.sys.faultCyc = some s.perCycle
  · have heq : clearFaults s = ({ s.wr .SYS_FAULT 0#32 with sys := { s.sys with faultOpen := true } }.setF Fld.SYS_FAULT_FIRST
        s.sys.faultLo).setF Fld.SYS_FAULT_LAST s.sys.faultHi := if_pos h
    rw [heq]
    refine ⟨fun hn => absurd h hn, fun _ hlo hhi => ⟨?_, ?_⟩, rfl, fun r hr => ?_⟩
    · rw [f_setF_beside _ Fld.SYS_FAULT_LAST Fld.SYS_FAULT_FIRST _ rfl (by decide) (by decide)]
      exact (f_setF _ _ _ (by decide)).trans (Nat.mod_eq_of_lt hlo)
    · exact (f_setF _ _ _ (by decide)).trans (Nat.mod_eq_of_lt hhi)
    · have hr' : r ≠ .SYS_FAULT := by simpa using hr
      exact (rd_setF_ne _ _ _ _ hr').trans ((rd_setF_ne _ _ _ _ hr').trans (rd_wr_ne s .SYS_FAULT r 0#32 hr'))
  · have heq : clearFaults s = { s.wr .SYS_FAULT 0#32 with sys := { s.sys with faultCyc := none } } := if_neg h
    rw [heq]
    exact ⟨fun _ => rd_wr s .SYS_FAULT 0#32, fun hy => absurd hy h, rfl, fun r hr => rd_wr_ne s .SYS_FAULT r 0#32 (by simpa using hr)⟩

/-- A pin register put: the owned pins keep their bits (R38). -/
theorem gpioPut_onlyRegs (r : Reg) (v : Word) (s : State) : s.onlyRegs (gpioPut r v s) [r] :=
  ⟨rfl, fun q hq => rd_wr_ne s r q _ (by simpa using hq)⟩

theorem merge_set (old mask own : Word) : (old &&& own) ||| ((old ||| mask) &&& ~~~own) = old ||| (mask &&& ~~~own) := by
  refine BitVec.eq_of_getLsbD_eq fun i hi => ?_
  simp only [BitVec.getLsbD_or, BitVec.getLsbD_and, BitVec.getLsbD_not, hi, decide_true, Bool.true_and]
  cases old.getLsbD i <;> cases own.getLsbD i <;> simp

theorem merge_clear (old mask own : Word) : (old &&& own) ||| ((old &&& ~~~mask) &&& ~~~own) = old &&& ~~~(mask &&& ~~~own) := by
  refine BitVec.eq_of_getLsbD_eq fun i hi => ?_
  simp only [BitVec.getLsbD_or, BitVec.getLsbD_and, BitVec.getLsbD_not, hi, decide_true, Bool.true_and]
  cases old.getLsbD i <;> cases own.getLsbD i <;> simp

/-! ## Engine memory -/

theorem memPut_word (a : Nat) (v : Word) (m : List Host.Cell) : memPut a 4 v m = memSetWord m a v := rfl

theorem exec_engineWrite (p : Fin 24) (offset : BitVec 16) (v : Word) (s : State) (h : offset.toNat % 4 = 0) :
    exec (.engineMemoryWrite p offset v) s = .next (windowWrite p (0x30000000 + p.val * 0x10000 + offset.toNat) 4 v s) :=
  congrArg Host.Outcome.next (if_pos h)

theorem refused_shows (s : State) : (refused s).flag Fld.SYS_STATUS_REQ_REFUSED = true ∧ s.onlyRegs (refused s) [.SYS_STATUS] :=
  ⟨by rw [refused, State.flag, f_raise _ _ (by decide)]; rfl, rfl, fun r hr => rd_raise_ne s Fld.SYS_STATUS_REQ_REFUSED r (by rintro rfl; exact hr (by decide))⟩

/-- Settles O6: each command is one of the operations above at the core cycle of its write. -/
theorem systemRegisterCommands : Obligations.SystemRegisterCommands := by
  unfold Obligations.SystemRegisterCommands
  intro s
  refine ⟨fun v => ?_, fun v => ?_, fun v r a w ha hw => exec_write_part v r a w s ha hw, fun a isWrite ha => ?_, ?_, ?_, fun mask => ?_,
    fun mask => ?_, ?_⟩
  · exact writes_agentTurn (exec_write_irqEn v s) ⟨(rd_writePlain _ _ _).trans (writeMerged_irqEn _ v), writePlain_onlyRegs _ v _⟩
  · exact writes_agentTurn (exec_write_gpioIe v s) ⟨(rd_writePlain _ _ _).trans (writeMerged_gpioIe _ v), writePlain_onlyRegs _ v _⟩
  · obtain ⟨hflag, haddr, hdata, honly, hkeep⟩ := unmapped_shows a s
    refine ⟨_, exec_unmapped a isWrite s ha, ?_⟩
    cases isWrite
    · exact ⟨hflag, haddr, rfl, by rw [← hdata]; exact honly, hkeep⟩
    · exact ⟨hflag, haddr, hdata, by rw [← hdata]; exact honly, hkeep⟩
  · exact writes_agentTurn rfl (clearFaults_shows s.atWrite)
  · exact ⟨_, rfl, rfl, rd_wr s .SYS_TIME_HI _, rfl, fun r hr => rd_wr_ne s .SYS_TIME_HI r (BitVec.ofNat 32 (s.time / 2 ^ 32)) (by simpa using hr)⟩
  · refine writes_agentTurn (f := gpioPut .SYS_GPIO_OUT (s.rd .SYS_GPIO_OUT ||| mask)) rfl ⟨?_, gpioPut_onlyRegs _ _ _⟩
    rw [← rd_atWrite s]
    exact (rd_wr _ _ _).trans (merge_set _ _ _)
  · refine writes_agentTurn (f := gpioPut .SYS_GPIO_OUT (s.rd .SYS_GPIO_OUT &&& ~~~mask)) rfl ⟨?_, gpioPut_onlyRegs _ _ _⟩
    rw [← rd_atWrite s]
    exact (rd_wr _ _ _).trans (merge_clear _ _ _)
  intro p offset v ho a
  refine ⟨fun hrun hgain => ?_, fun hrun => ?_⟩
  · refine ⟨_, exec_engineWrite p offset v s ho, ?_⟩
    have hput : windowWrite p a 4 v s = putBoth a 4 v s := by
      rw [windowWrite, hrun, unitFlush_later p s.time s hgain]; rfl
    rw [hput]
    exact ⟨memWord_memSetWord _ _ _, memWord_memSetWord _ _ _,
      fun b hb => ⟨memGet_memSetWord_ne _ _ _ _ hb, memGet_memSetWord_ne _ _ _ _ hb⟩, rfl⟩
  · refine ⟨_, exec_engineWrite p offset v s ho, ?_⟩
    have hno : windowWrite p a 4 v s = refused s := if_pos (Option.isSome_iff_ne_none.mpr hrun)
    rw [hno]
    exact refused_shows s

end Sys2Proof.Machine
end

section
/-! SUPPORT. What the discharge sequencer changes and leaves (R309 to R314), and what stands once the device has failed. -/

namespace Sys2Proof.Machine

open Sys2Proof

/-! ## What stands -/

/-- What every reaction leaves standing: device time, the bits set of SYS_STATUS, source 114 while it is active, and FAULT. -/
structure Stays (s t : State) : Prop where
  time : t.time = s.time
  status : ∀ i, (s.rd .SYS_STATUS).getLsbD i = true → (t.rd .SYS_STATUS).getLsbD i = true
  raw : s.raw 114 = true → t.raw 114 = true
  fault : s.dev = devFault → t.dev = devFault

namespace Stays

variable {L : Reg → Bool} {s t u : State}

theorem trans (h : Stays s t) (k : Stays t u) : Stays s u :=
  ⟨k.time.trans h.time, fun i hi => k.status i (h.status i hi), fun hs => k.raw (h.raw hs), fun hs => k.fault (h.fault hs)⟩

/-- A change outside the register bank and device time. -/
theorem of_regs (hr : t.regs = s.regs) (ht : t.time = s.time) : Stays s t := by
  have hrd : ∀ r, t.rd r = s.rd r := fun r => by simp only [State.rd, hr]
  exact ⟨ht, fun i hi => by rwa [hrd], fun h => (raw_congr (fun _ => hrd _) _).trans h, fun h => (dev_congr (hrd _)).trans h⟩

theorem refl (s : State) : Stays s s := of_regs rfl rfl

/-- A reaction that writes neither the device state nor the sources. -/
theorem of_reacted (h : Reacted L s t) (hd : L .SYS_STATE = false) (hq : ∀ i, L (.QNC_RAW i) = false) : Stays s t :=
  ⟨h.time, h.status, fun hr => (raw_congr (fun i => h.regs _ (hq i)) _).trans hr, fun hf => (dev_congr (h.regs _ hd)).trans hf⟩

theorem of_recorded (h : Recorded s t) : Stays s t := of_reacted (.of_recorded h Reg.inGroup_of_inRec) rfl fun _ => rfl

/-- A field of another register set. -/
theorem setF (s : State) (F : RF) (v : Nat) (h1 : F.reg ≠ .SYS_STATUS) (h2 : F.reg ≠ .SYS_STATE) (h3 : ∀ i, F.reg ≠ .QNC_RAW i) :
    Stays s (s.setF F v) :=
  ⟨rfl, fun i hi => by rwa [rd_setF_ne s F v _ h1.symm],
    fun h => (raw_congr (fun i => rd_setF_ne s F v _ (h3 i).symm) _).trans h, fun h => (dev_congr (rd_setF_ne s F v _ h2.symm)).trans h⟩

/-- A loop of such changes. -/
theorem foldl {ι : Type} (g : State → ι → State) (l : List ι) (hg : ∀ i s, Stays s (g s i)) (s : State) : Stays s (l.foldl g s) := by
  induction l generalizing s with
  | nil => exact refl s
  | cons i l ih => exact (hg i s).trans (ih (g s i))

theorem ite (c : Prop) [Decidable c] (h : Stays s t) : Stays s (if c then t else s) := by
  split
  · exact h
  · exact refl s

end Stays

theorem setSv_stays (v : Nat) (s : State) : Stays s (s.setSv v) :=
  ⟨(setSv_inSafe v s).time, (setSv_inSafe v s).status, fun h => (raw_setSv v s _).trans h, fun h => (dev_setSv v s).trans h⟩

theorem enterSafe0_stays (s : State) : Stays s (enterSafe0 s) :=
  ⟨(enterSafe0_inSafe s).time, (enterSafe0_inSafe s).status, raw_enterSafe0 s _, fun h => (dev_enterSafe0_stays s (.inr h)).trans h⟩

theorem enterFault0_stays (s : State) : Stays s (enterFault0 s) :=
  ⟨(enterFault0_inSafe s).time, (enterFault0_inSafe s).status, raw_enterFault0 s _, fun _ => dev_enterFault0 s⟩

theorem recordFault0_stays (code : Nat) (s : State) : Stays s (recordFault0 code s) := by
  have hrec : Stays s (recordCore code s) := .of_recorded (recordCore_recorded code s)
  unfold recordFault0
  extract_lets s1
  split
  · exact hrec.trans (enterSafe0_stays s1)
  · split
    · exact hrec.trans (enterFault0_stays s1)
    · exact hrec

theorem sourceActive0_stays (k : Fin 128) (t : Nat) (s : State) : Stays s (sourceActive0 k t s) :=
  ⟨(sourceActive0_inSource k t s).time, (sourceActive0_inSource k t s).status,
    fun h => by rw [raw_sourceActive0, h, ite_self], fun h => (dev_sourceActive0 k t s).trans h⟩

/-! ## The relation of a discharge -/

/-- The registers that a discharge that fails can change. -/
def Reg.inDsg : Reg → Bool
  | .PWM_DSC_DSG_STAT => true
  | r => r.inSafe

theorem Reg.inDsg_of_inSafe (r : Reg) (h : r.inSafe = true) : r.inDsg = true := by unfold Reg.inDsg; split <;> simp [h]

theorem Reg.block_of_inDsg (r : Reg) (h : r.inDsg = true) :
    r.addr / 0x10000 ∈ [0x4000, 0x4001, 0x4004, 0x4008, 0x400C, 0x400F, 0x4010] := by
  unfold Reg.inDsg at h
  split at h
  · decide
  · have := block_of_inSafe _ h; simp only [List.mem_cons, List.not_mem_nil, or_false] at this ⊢; omega

/-- The address of the request word (R310). -/
def State.dsgAddr (s : State) : Nat := 4 * s.f Fld.PWM_DSC_DSG_SHM_ADDR

/-- The address lies in shared SRAM below the Crucible. -/
def State.dsgShared (s : State) : Prop := 0x10000000 ≤ s.dsgAddr ∧ s.dsgAddr < 0x103F0000

theorem dsgWord_eq (w : Word) (s : State) : dsgWord w s = if 0x10000000 ≤ s.dsgAddr ∧ s.dsgAddr < 0x103F0000 then s.setMemW s.dsgAddr w else s := by
  rw [State.dsgAddr, Nat.mul_comm]
  rfl

/-- What the discharge sequencer leaves: the registers outside its set, memory outside the request word and the Hallmark, and the second
copies; and what always stands. -/
structure Discharged (s t : State) : Prop extends Stays s t where
  regs : ∀ r, r.inDsg = false → t.rd r = s.rd r
  mem : ∀ a, besideHlm a → a < s.dsgAddr ∨ s.dsgAddr + 4 ≤ a → memGet t.mem a = memGet s.mem a
  chk : t.chk = s.chk

namespace Discharged

variable {s t u : State}

theorem dsgAddr (h : Discharged s t) : t.dsgAddr = s.dsgAddr := congrArg (4 * ·) (f_congr _ (h.regs .PWM_DSC_DSG_SHM rfl))

theorem trans (h : Discharged s t) (k : Discharged t u) : Discharged s u where
  toStays := h.toStays.trans k.toStays
  regs r hr := (k.regs r hr).trans (h.regs r hr)
  mem a ha hw := (k.mem a ha (by rwa [h.dsgAddr])).trans (h.mem a ha hw)
  chk := k.chk.trans h.chk

theorem of_reacted (h : Reacted Reg.inSafe s t) (hs : Stays s t) : Discharged s t where
  toStays := hs
  regs r hr := h.regs r (by by_contra hn; rw [Reg.inDsg_of_inSafe r (by simpa using hn)] at hr; cases hr)
  mem a ha _ := h.mem a ha
  chk := h.chk

theorem of_recorded (h : Recorded s t) : Discharged s t := of_reacted (.of_recorded h Reg.inSafe_of_inRec) (.of_recorded h)

/-- A change outside the register bank, memory and device time. -/
theorem of_same (hr : t.regs = s.regs) (ht : t.time = s.time) (hm : t.mem = s.mem) (hc : t.chk = s.chk) : Discharged s t :=
  ⟨.of_regs hr ht, fun r _ => by simp only [State.rd, hr], fun _ _ _ => by rw [hm], hc⟩

theorem refl (s : State) : Discharged s s := of_same rfl rfl rfl rfl

theorem modDcl (s : State) (f : DclSt → DclSt) : Discharged s (s.modDcl f) := of_same rfl rfl rfl rfl

/-- A field of PWM_DSC_DSG_STAT set. -/
theorem setStat (s : State) (F : RF) (v : Nat) (h : F.reg = .PWM_DSC_DSG_STAT) : Discharged s (s.setF F v) :=
  ⟨.setF s F v (by simp [h]) (by simp [h]) (by simp [h]),
    fun r hr => rd_setF_ne s F v r (by rw [h]; rintro rfl; exact absurd hr (by decide)), fun _ _ _ => rfl, rfl⟩

theorem raiseStat (s : State) (F : RF) (h : F.reg = .PWM_DSC_DSG_STAT) : Discharged s (s.raise F) :=
  (setStat s F 1 h).trans (of_same rfl rfl rfl rfl)

/-- The request word. -/
theorem word (s : State) (w : Word) : Discharged s (dsgWord w s) := by
  rw [dsgWord_eq]
  split
  · exact ⟨.of_regs rfl rfl, fun _ _ => rfl, fun _ _ hw => memGet_memSetWord_ne _ _ _ _ hw, rfl⟩
  · exact refl s

end Discharged

theorem setDsg_discharged (v : Nat) (s : State) : Discharged s (setDsg v s) := by
  unfold setDsg
  split
  · exact .refl s
  · exact (Discharged.setStat s Fld.PWM_DSC_DSG_STAT_DSG_STATE v rfl).trans (.of_recorded (pushEvent_recorded _ _ _))

theorem dsgEndMethod_discharged (s : State) : Discharged s (dsgEndMethod s) := by
  unfold dsgEndMethod
  split
  · exact .word s _
  · exact .refl s

theorem dsgEnd_discharged (st : Nat) (s : State) : Discharged s (dsgEnd st s) :=
  ((dsgEndMethod_discharged s).trans (.setStat _ Fld.PWM_DSC_DSG_STAT_ELAPSED _ rfl)).trans (setDsg_discharged st _)

theorem recordFault0_discharged (code : Nat) (s : State) : Discharged s (recordFault0 code s) :=
  .of_reacted (recordFault0_inSafe code s) (recordFault0_stays code s)

theorem dsgFail_discharged (s : State) : Discharged s (dsgFail s) :=
  ((Discharged.raiseStat s Fld.PWM_DSC_DSG_STAT_FAIL rfl).trans (dsgEnd_discharged 5 _)).trans (recordFault0_discharged _ _)

theorem dsgStart_discharged (m : Nat) (s : State) : Discharged s (dsgStart m s) := by
  unfold dsgStart
  extract_lets s1 s2 s3
  have h2 : Discharged s s2 := (Discharged.modDcl s _).trans (setDsg_discharged _ s1)
  split
  · exact (h2.trans (.modDcl s2 _)).trans (.word s3 _)
  · exact h2

theorem dsgMethodFail_discharged (m : Nat) (s : State) : Discharged s (dsgMethodFail m s) := by
  unfold dsgMethodFail
  split
  · exact dsgFail_discharged s
  · extract_lets s1 s2
    have h1 : Discharged s s1 := (dsgEndMethod_discharged s).trans (.raiseStat _ Fld.PWM_DSC_DSG_STAT_ESC rfl)
    have h2 : Discharged s s2 := h1.trans ((Discharged.modDcl s1 _).trans (recordFault0_discharged _ _))
    split
    · exact h2.trans (dsgStart_discharged _ s2)
    · exact h2.trans (dsgFail_discharged s2)

theorem dsgWatch_discharged (s : State) : Discharged s (dsgWatch s) := by
  unfold dsgWatch
  extract_lets n
  split
  · exact dsgFail_discharged s
  · split
    · exact dsgMethodFail_discharged 1 s
    · exact .refl s

/-! ## The reactions with the watch on a discharge -/

theorem recordFault_stays (code : Nat) (s : State) : Stays s (recordFault code s) :=
  (recordFault0_stays code s).trans (dsgWatch_discharged _).toStays

theorem enterSafe_stays (s : State) : Stays s (enterSafe s) := (enterSafe0_stays s).trans (dsgWatch_discharged _).toStays

theorem sourceActive_stays (k : Fin 128) (t : Nat) (s : State) : Stays s (sourceActive k t s) :=
  (sourceActive0_stays k t s).trans (dsgWatch_discharged _).toStays

theorem withCause_stays (c : Nat) (f : State → State) (s : State) (hf : ∀ u, Stays u (f u)) : Stays s (withCause c f s) :=
  have h1 : Stays s { s with mbx := { s.mbx with why := some c } } := .of_regs rfl rfl
  (h1.trans (hf _)).trans (.of_regs rfl rfl)

end Sys2Proof.Machine
end

section
/-! PROOF. O7: pin edges and clock-monitor windows. -/

namespace Sys2Proof.Machine

open Sys2Proof

/-! ## Pin edges (R37 to R39) -/

theorem contactEdge_dcl (pin : Fin 32) (level : Bool) (s : State) : ∃ x, contactEdge pin level s = { s with dcl := x } := by
  unfold contactEdge
  split
  · exact ⟨_, rfl⟩
  · exact ⟨s.dcl, rfl⟩

/-- What an edge leaves behind before its bit is set: records of the contactors, the Anvil and the captures. -/
theorem exec_gpioInputEdge (pin : Fin 32) (level : Bool) (s : State) (h : s.sys.sync.getLsbD pin.val ≠ level)
    (hd : ∀ b, gpioDrive s pin = some b → b = level) :
    ∃ x y z, exec (.gpioInputEdge pin level) s = .next
      (({ s with sys := { s.sys with sync := wPut s.sys.sync pin.val 1 (bit level) }, dcl := x, anv := y, post := z,
                 time := max s.time (4 * (s.perCycle + 1)) }.raiseBit (if level then .SYS_GPIO_RISE else .SYS_GPIO_FALL) pin.val)) := by
  have hgo : (s.sys.sync.getLsbD pin.val = level || (gpioDrive s pin).any (· != level)) = false := by
    cases hdrive : gpioDrive s pin with
    | none => simpa using h
    | some b => simpa [hd b hdrive] using h
  obtain ⟨x, hx⟩ := contactEdge_dcl pin level { s with sys := { s.sys with sync := wPut s.sys.sync pin.val 1 (bit level) } }
  have hexec : exec (.gpioInputEdge pin level) s = execGpioInputEdge pin level s := rfl
  rw [hexec, execGpioInputEdge, hgo, hx]
  exact ⟨_, _, _, rfl⟩

theorem bitOf_raiseBit (s : State) (r : Reg) (i : Nat) (h : i < 32) : (s.raiseBit r i).bitOf r i = true := by
  have hrd : (s.raiseBit r i).rd r = wPut (s.rd r) i 1 1 := rd_wr _ _ _
  rw [State.bitOf, hrd, getLsbD_wPut _ _ _ _ _ h, if_pos (by omega), Nat.sub_self]
  rfl

/-- An edge sets the synchroniser's bit of its pin and RISE or FALL. -/
theorem gpioInputEdge_shows (pin : Fin 32) (level : Bool) (s : State) (h : s.sys.sync.getLsbD pin.val ≠ level)
    (hd : ∀ b, gpioDrive s pin = some b → b = level) :
    gives (.gpioInputEdge pin level) s fun t =>
      (shownReg .SYS_GPIO_IN t).getLsbD pin.val = level ∧
      (∀ j : Fin 32, j ≠ pin → (shownReg .SYS_GPIO_IN t).getLsbD j.val = s.sys.sync.getLsbD j.val) ∧
      t.bitOf (if level then .SYS_GPIO_RISE else .SYS_GPIO_FALL) pin.val = true ∧ t.time = 4 * (s.perCycle + 1) ∧
      s.keeps t [if level then .SYS_GPIO_RISE else .SYS_GPIO_FALL] ∧ s.keepsMem t := by
  obtain ⟨x, y, z, hexec⟩ := exec_gpioInputEdge pin level s h hd
  refine ⟨_, hexec, ?_, fun j hj => ?_, bitOf_raiseBit _ _ _ pin.isLt, ?_, fun r hr => ?_, rfl, rfl⟩
  · change (wPut s.sys.sync pin.val 1 (bit level)).getLsbD pin.val = level
    rw [getLsbD_wPut _ _ _ _ _ pin.isLt, if_pos (by omega), Nat.sub_self]
    cases level <;> rfl
  · have hne : j.val ≠ pin.val := fun e => hj (Fin.ext e)
    change (wPut s.sys.sync pin.val 1 (bit level)).getLsbD j.val = s.sys.sync.getLsbD j.val
    rw [getLsbD_wPut _ _ _ _ _ j.isLt, if_neg (by omega)]
  · change max s.time (4 * (s.time / 4 + 1)) = 4 * (s.time / 4 + 1)
    omega
  · exact rd_wr_ne _ _ _ _ (by simpa using hr)

/-! ## The Anvil's part in a clock failure (R317, R321) -/

theorem sourceDrop_stays (k : Fin 128) (hold : Bool) (s : State) (h : (114 : Fin 128) ≠ k) : Stays s (sourceDrop k hold s) :=
  ⟨(sourceDrop_inSource k hold s).time, (sourceDrop_inSource k hold s).status,
    fun hr => (raw_sourceDrop k 114 hold s).trans ((if_neg h).trans hr), fun hf => (dev_congr ((sourceDrop_inSource k hold s).regs _ rfl)).trans hf⟩

theorem brakeDrop_stays (p : Fin 2 → Bool) (s : State) : Stays s (brakeDrop p s) := by
  obtain ⟨x, hx⟩ := brakeDrop_anv p s
  rw [hx]
  exact .of_regs rfl rfl

theorem anvApply_stays (s : State) : Stays s (anvApply s) := by
  unfold anvApply
  extract_lets s1 s2 s3 names s4
  have h1 : Stays s s1 := .foldl _ _ (fun n u =>
    (Stays.setF u (Fld.ANV_AX_STAT_REACT_ACT n) _ (by simp [Fld.ANV_AX_STAT_REACT_ACT]) (by simp [Fld.ANV_AX_STAT_REACT_ACT])
      (by simp [Fld.ANV_AX_STAT_REACT_ACT])).trans
    (.setF _ (Fld.ANV_AX_STAT_REACT n) _ (by simp [Fld.ANV_AX_STAT_REACT]) (by simp [Fld.ANV_AX_STAT_REACT])
      (by simp [Fld.ANV_AX_STAT_REACT]))) s
  have h2 : Stays s1 s2 := .setF s1 Fld.ANV_STATUS_DEV_REACT _ (by decide) (by decide) (by decide)
  have h3 : Stays s2 s3 := brakeDrop_stays _ s2
  have h4 : Stays s3 s4 := .of_regs rfl rfl
  split
  · exact (h1.trans h2).trans h3
  · split
    · exact (((h1.trans h2).trans h3).trans h4).trans (sourceActive_stays 112 _ s4)
    · exact (((h1.trans h2).trans h3).trans h4).trans (sourceDrop_stays 112 true s4 (by decide))

theorem anvCause_stays (mon ax code : Nat) (s : State) : Stays s (anvCause mon ax code s) := by
  unfold anvCause
  extract_lets s1
  have h1 : Stays s s1 := ((Stays.setF s Fld.ANV_CAUSE_MON mon (by decide) (by decide) (by decide)).trans
    (.setF _ Fld.ANV_CAUSE_AXIS ax (by decide) (by decide) (by decide))).trans
    (.setF _ Fld.ANV_CAUSE_REACT code (by decide) (by decide) (by decide))
  exact h1.trans (.setF s1 Fld.ANV_CAUSE_COUNT _ (by decide) (by decide) (by decide))

/-- A latched reaction SAFE of device scope (R321). -/
theorem anvAdd_safe_stays (s : State) : Stays s (anvAdd 8 none 4 true s) := by
  unfold anvAdd
  split
  · exact .refl s
  · extract_lets s1 s2 s3 s4 s5 s6 s7
    have h1 : Stays s s1 := .of_regs rfl rfl
    have h2 : Stays s1 s2 := anvCause_stays 8 4 4 s1
    have h3 : Stays s2 s3 := .ite _ (setSv_stays svReact s2)
    have h4 : s4 = s3 := if_neg (by decide)
    have h5 : s5 = s4 := if_pos (by decide)
    have h6 : Stays s5 s6 := .ite _ (withCause_stays 1 enterSafe s5 enterSafe_stays)
    have h7 : s7 = s6 := if_neg (by decide)
    rw [h5, h4] at h6
    exact (((h1.trans h2).trans h3).trans h6).trans (h7 ▸ anvApply_stays s7)

theorem anvFail_stays (s : State) : Stays s (anvFail s) := by
  unfold anvFail
  split
  · exact .refl s
  · have h1 : Stays s (s.modAnv fun a => { a with failed := true }) := .of_regs rfl rfl
    exact ((h1.trans (setSv_stays svLatched _)).trans (recordFault_stays 0x6408 _)).trans (anvAdd_safe_stays _)

/-! ## Clock failures (R21, R22) -/

/-- Two failed windows in a row set their bit, make source 114 active and take the device to FAULT. -/
theorem clockFail_fails (anvil : Bool) (s : State) :
    (clockFail anvil s).flag (if anvil then Fld.SYS_STATUS_CLK_MAIN_FAIL else Fld.SYS_STATUS_CLK_SV_FAIL) = true ∧
      (clockFail anvil s).raw 114 = true ∧ (clockFail anvil s).dev = devFault ∧ (clockFail anvil s).time = s.time := by
  unfold clockFail
  extract_lets s1 s2
  have hactive : Stays s1 (sourceActive 114 s1.now s1) := sourceActive_stays 114 _ s1
  have hraw : (sourceActive 114 s1.now s1).raw 114 = true :=
    (dsgWatch_discharged _).raw ((raw_sourceActive0 114 _ s1 114).trans (if_pos ⟨rfl, by decide⟩))
  have hrecord : Stays (sourceActive 114 s1.now s1) s2 := recordFault_stays 0xA409 _
  have hdev : s2.dev = devFault :=
    (dsgWatch_discharged _).fault (by rw [recordFault0_eq_enterFault0 _ _ (by decide)]; exact dev_enterFault0 _)
  have hend : Stays s2 (if anvil then s2 else anvFail s2) := by
    split
    · exact .refl s2
    · exact anvFail_stays s2
  have hall := (hactive.trans hrecord).trans hend
  refine ⟨?_, hend.raw (hrecord.raw hraw), hend.fault hdev, hall.time⟩
  cases anvil
  all_goals
    refine (flag_eq_testBit _ _ _).trans (hall.status _ ?_)
    exact (congrArg (BitVec.getLsbD · _) (rd_wr _ _ _)).trans ((getLsbD_wPut _ _ _ _ _ (by decide)).trans (if_pos (by decide)))

/-- The count of failed windows after a window, and what it does. -/
theorem exec_clockWindow (anvil : Bool) (n : Nat) (locked : Bool) (s : State) :
    exec (.clockMonitorWindow anvil n locked) s = execClockMonitorWindow anvil n locked s := rfl

/-- Settles O7: an edge is a chain of records before its bit; a second failed window is a chain of reactions that leave source 114 and FAULT
standing. -/
theorem systemEvents : Obligations.SystemEvents := by
  unfold Obligations.SystemEvents
  intro s
  refine ⟨fun pin level h hd => gpioInputEdge_shows pin level s h hd, ?_, ?_⟩
  all_goals intro n locked good
  · refine ⟨fun hg hr => ?_, fun hg hb hr => ?_, fun hg hb => ?_⟩
    · have hok : (1425 ≤ n && n ≤ 1575 && locked) = true := by simpa [good, and_assoc] using hg
      have hraw : ({ s with sys := { s.sys with mainBad := 0 } } : State).raw 114 = false := hr
      simp [exec_clockWindow, execClockMonitorWindow, hok, hraw]
    · have hok : (1425 ≤ n && n ≤ 1575 && locked) = false := by rw [← Bool.not_eq_true]; simpa [good, and_assoc] using hg
      have hraw : ({ s with sys := { s.sys with mainBad := 1 } } : State).raw 114 = false := hr
      simp [exec_clockWindow, execClockMonitorWindow, hok, hb, hraw]
    · have hok : (1425 ≤ n && n ≤ 1575 && locked) = false := by rw [← Bool.not_eq_true]; simpa [good, and_assoc] using hg
      refine ⟨clockFail true { s with sys := { s.sys with mainBad := 2 } }, ?_, clockFail_fails true _⟩
      simp [exec_clockWindow, execClockMonitorWindow, hok, hb]
  · refine ⟨fun hg hr => ?_, fun hg hb => ?_⟩
    · have hok : (decide (950 ≤ n) && decide (n ≤ 1050)) = true := by simpa [good] using hg
      have hraw : ({ s with sys := { s.sys with svBad := 0 } } : State).raw 114 = false := hr
      simp [exec_clockWindow, execClockMonitorWindow, hok, hraw]
    · have hok : (decide (950 ≤ n) && decide (n ≤ 1050)) = false := by rw [← Bool.not_eq_true]; simpa [good] using hg
      refine ⟨clockFail false { s with sys := { s.sys with svBad := 2 } }, ?_, clockFail_fails false _⟩
      simp [exec_clockWindow, execClockMonitorWindow, hok, hb]

end Sys2Proof.Machine
end

section
/-! PROOF. O42: the discharge sequencer. -/

namespace Sys2Proof.Machine

open Sys2Proof

/-! ## DSG_STATE set -/

theorem setDsg_dsg (v : Nat) (s : State) (h : v < 8) : (setDsg v s).dsg = v := by
  unfold setDsg
  split
  · assumption
  · exact (dsg_congr ((pushEvent_recorded _ _ _).regs _ rfl)).trans ((f_setF s Fld.PWM_DSC_DSG_STAT_DSG_STATE v (by decide)).trans (Nat.mod_eq_of_lt h))

/-- The fields beside DSG_STATE in its register stay. -/
theorem setDsg_stat (v : Nat) (s : State) (F : RF) (hr : F.reg = .PWM_DSC_DSG_STAT) (hw : F.lo + F.width ≤ 32)
    (hb : F.lo + F.width ≤ 8 ∨ 11 ≤ F.lo) : (setDsg v s).f F = s.f F := by
  unfold setDsg
  split
  · rfl
  · exact (f_congr F ((pushEvent_recorded _ _ _).regs _ (by rw [hr]; rfl))).trans (f_setF_beside s Fld.PWM_DSC_DSG_STAT_DSG_STATE F v hr hw hb)

theorem rd_setDsg (v : Nat) (s : State) (r : Reg) (h : r.inRec = false) (h' : r ≠ .PWM_DSC_DSG_STAT) : (setDsg v s).rd r = s.rd r := by
  unfold setDsg
  split
  · rfl
  · exact ((pushEvent_recorded _ _ _).regs r h).trans (rd_setF_ne s Fld.PWM_DSC_DSG_STAT_DSG_STATE v r h')

theorem setDsg_dcl (v : Nat) (s : State) : (setDsg v s).dcl = s.dcl := by
  unfold setDsg
  split
  · rfl
  · exact (pushEvent_recorded _ _ _).dcl

theorem setDsg_mem (v : Nat) (s : State) (a : Nat) (h : besideHlm a) : memGet (setDsg v s).mem a = memGet s.mem a := by
  unfold setDsg
  split
  · rfl
  · exact (pushEvent_recorded _ _ _).mem a h

/-! ## The request word -/

/-- A word whose bytes are the same. -/
theorem memWord_congr {m m' : List Host.Cell} {a : Nat} (h : ∀ b, a ≤ b → b < a + 4 → memGet m' b = memGet m b) : memWord m' a = memWord m a := by
  simp only [memWord, h a (by omega) (by omega), h (a + 1) (by omega) (by omega), h (a + 2) (by omega) (by omega), h (a + 3) (by omega) (by omega)]

/-- Shared SRAM lies beside the Hallmark. -/
theorem dsgShared_besideHlm {s : State} (h : s.dsgShared) : ∀ b, s.dsgAddr ≤ b → b < s.dsgAddr + 4 → besideHlm b := by
  intro b h1 h2
  obtain ⟨h3, h4⟩ := h
  simp only [besideHlm, hlmLive, hlmSnap, hlmLen, State.dsgAddr] at *
  omega

theorem dsgWord_regs (w : Word) (s : State) : (dsgWord w s).regs = s.regs := by rw [dsgWord_eq]; split <;> rfl
theorem dsgWord_dcl (w : Word) (s : State) : (dsgWord w s).dcl = s.dcl := by rw [dsgWord_eq]; split <;> rfl
theorem rd_dsgWord (w : Word) (s : State) (r : Reg) : (dsgWord w s).rd r = s.rd r := by simp only [State.rd, dsgWord_regs]

theorem dsgWord_word (w : Word) (s : State) (h : s.dsgShared) : (dsgWord w s).memW s.dsgAddr = w := by
  have heq : dsgWord w s = s.setMemW s.dsgAddr w := (dsgWord_eq w s).trans (if_pos h)
  rw [heq]
  exact memWord_memSetWord _ _ _

theorem dsgEndMethod_word (s : State) (h : s.dsg = 2 ∨ s.dsg = 3) (hs : s.dsgShared) : (dsgEndMethod s).memW s.dsgAddr = 0#32 := by
  rw [dsgEndMethod, if_pos (by omega)]
  exact dsgWord_word _ s hs

theorem rd_dsgEndMethod (s : State) (r : Reg) : (dsgEndMethod s).rd r = s.rd r := by
  unfold dsgEndMethod
  split
  · exact rd_dsgWord _ _ _
  · rfl

theorem dsgEndMethod_dcl (s : State) : (dsgEndMethod s).dcl = s.dcl := by
  unfold dsgEndMethod
  split
  · exact dsgWord_dcl _ _
  · rfl

/-! ## A run that fails (R312) -/

/-- The run of one state has failed in the other. -/
structure RunFailed (s t : State) : Prop where
  dsg : t.dsg = 5
  fail : t.f Fld.PWM_DSC_DSG_STAT_FAIL = 1
  esc : t.f Fld.PWM_DSC_DSG_STAT_ESC = s.f Fld.PWM_DSC_DSG_STAT_ESC
  new : t.flag Fld.SYS_STATUS_FAULT_NEW = true
  elapsed : t.f Fld.PWM_DSC_DSG_STAT_ELAPSED = dsgElapsed s
  safe : devConfig ≤ s.dev → s.dev ≤ devRun → t.dev = devSafe
  stays : s.dev = devSafe ∨ s.dev = devFault → t.dev = s.dev
  word : s.dsg = 2 ∨ s.dsg = 3 → s.dsgShared → t.memW s.dsgAddr = 0#32
  dcl : t.dcl = s.dcl

theorem dsgElapsed_lt (s : State) : dsgElapsed s < 2 ^ 16 := by unfold dsgElapsed; omega

/-- What the end of a run leaves in the sequencer's own register. -/
theorem dsgEnd_stat (st : Nat) (s : State) (F : RF) (hr : F.reg = .PWM_DSC_DSG_STAT) (hw : F.lo + F.width ≤ 8) : (dsgEnd st s).f F = s.f F :=
  (setDsg_stat st _ F hr (by omega) (.inl hw)).trans
    ((f_setF_beside _ Fld.PWM_DSC_DSG_STAT_ELAPSED F _ hr (by omega) (.inl (by simp only [Fld.PWM_DSC_DSG_STAT_ELAPSED]; omega))).trans
      (f_congr F (rd_dsgEndMethod s _)))

theorem dsgEnd_elapsed (st : Nat) (s : State) : (dsgEnd st s).f Fld.PWM_DSC_DSG_STAT_ELAPSED = dsgElapsed s :=
  (setDsg_stat st _ Fld.PWM_DSC_DSG_STAT_ELAPSED rfl (by decide) (.inr (by decide))).trans
    ((f_setF _ _ _ (by decide)).trans (Nat.mod_eq_of_lt (dsgElapsed_lt s)))

theorem rd_dsgEnd (st : Nat) (s : State) (r : Reg) (h : r.inRec = false) (h' : r ≠ .PWM_DSC_DSG_STAT) : (dsgEnd st s).rd r = s.rd r :=
  (rd_setDsg st _ r h h').trans ((rd_setF_ne _ Fld.PWM_DSC_DSG_STAT_ELAPSED _ r h').trans (rd_dsgEndMethod s r))

theorem dsgEnd_word (st : Nat) (s : State) (h : s.dsg = 2 ∨ s.dsg = 3) (hs : s.dsgShared) : (dsgEnd st s).memW s.dsgAddr = 0#32 := by
  have hkeep : (dsgEnd st s).memW s.dsgAddr = ((dsgEndMethod s).setF Fld.PWM_DSC_DSG_STAT_ELAPSED (dsgElapsed s)).memW s.dsgAddr :=
    memWord_congr fun b h1 h2 => setDsg_mem st _ b (dsgShared_besideHlm hs b h1 h2)
  exact hkeep.trans (dsgEndMethod_word s h hs)

theorem dsgEnd_dcl (st : Nat) (s : State) : (dsgEnd st s).dcl = s.dcl := (setDsg_dcl st _).trans (dsgEndMethod_dcl s)

theorem dsgFail_runFailed (s : State) : RunFailed s (dsgFail s) := by
  set u := s.raise Fld.PWM_DSC_DSG_STAT_FAIL
  set v := dsgEnd 5 u
  have hfail : dsgFail s = enterSafe0 (recordCore 0x63C1 v) := recordFault0_eq_enterSafe0 0x63C1 v (by decide)
  have hreact : Reacted Reg.inSafe v (dsgFail s) := recordFault0_inSafe 0x63C1 v
  have hstat : ∀ F : RF, F.reg = .PWM_DSC_DSG_STAT → (dsgFail s).f F = v.f F := fun F hF => f_congr F (hreact.regs _ (by rw [hF]; rfl))
  have hdev : (recordCore 0x63C1 v).dev = s.dev :=
    (recordCore_recorded _ v).dev.trans (dev_congr ((rd_dsgEnd 5 u _ rfl (by decide)).trans (rd_raise_ne s _ _ (by decide))))
  have hdsg : u.dsg = s.dsg := f_raise_beside s Fld.PWM_DSC_DSG_STAT_FAIL Fld.PWM_DSC_DSG_STAT_DSG_STATE rfl (by decide) (by decide)
  have haddr : u.dsgAddr = s.dsgAddr := (Discharged.raiseStat s Fld.PWM_DSC_DSG_STAT_FAIL rfl).dsgAddr
  refine ⟨?_, ?_, ?_, ?_, ?_, fun h1 h2 => ?_, fun h => ?_, fun h hs => ?_, ?_⟩
  · exact (hstat Fld.PWM_DSC_DSG_STAT_DSG_STATE rfl).trans (setDsg_dsg 5 _ (by decide))
  · exact (hstat _ rfl).trans ((dsgEnd_stat 5 u _ rfl (by decide)).trans (f_raise s Fld.PWM_DSC_DSG_STAT_FAIL (by decide)))
  · exact (hstat _ rfl).trans ((dsgEnd_stat 5 u _ rfl (by decide)).trans
      (f_raise_beside s Fld.PWM_DSC_DSG_STAT_FAIL Fld.PWM_DSC_DSG_STAT_ESC rfl (by decide) (by decide)))
  · rw [hfail]
    exact (enterSafe0_inSafe _).flag_status 5 (flag_faultNew_recordCore 0x63C1 v (by decide))
  · exact (hstat _ rfl).trans (dsgEnd_elapsed 5 u)
  · rw [hfail]
    exact (enterSafe0_inSafeState _ (by rw [hdev]; exact ⟨h1, h2⟩)).dev
  · rw [hfail]
    exact (dev_enterSafe0_stays _ (by rwa [hdev])).trans hdev
  · have hkeep : (dsgFail s).memW s.dsgAddr = v.memW s.dsgAddr :=
      memWord_congr fun b h1 h2 => hreact.mem b (dsgShared_besideHlm hs b h1 h2)
    have hend : v.memW u.dsgAddr = 0#32 := dsgEnd_word 5 u (by rwa [hdsg]) (by rwa [State.dsgShared, haddr])
    rw [haddr] at hend
    exact hkeep.trans hend
  · exact hreact.dcl.trans (dsgEnd_dcl 5 u)

/-- Once a run has failed its watch has nothing to do. -/
theorem dsgWatch_runFailed {s t : State} (h : RunFailed s t) : dsgWatch t = t := dsgWatch_idle t (by rw [State.dsgRun, h.dsg]; decide)

/-! ## A method that starts (R310) -/

/-- A method has started. -/
structure MethodStarted (n : Nat) (s t : State) : Prop where
  dsg : t.dsg = 2 + n
  esc : t.f Fld.PWM_DSC_DSG_STAT_ESC = s.f Fld.PWM_DSC_DSG_STAT_ESC
  t0 : t.dcl.methT0 = s.time
  e0 : t.dcl.ePrev = s.linkV.map fun v => (v : Int) - s.dsgTarget
  second : t.dcl.second = s.dcl.second
  start : t.dcl.dsgT0 = s.dcl.dsgT0
  time : t.time = s.time
  regs : ∀ r, r.inRec = false → r ≠ .PWM_DSC_DSG_STAT → t.rd r = s.rd r
  word : n = 1 → s.dsgShared → t.memW s.dsgAddr = BitVec.ofNat 32 (1 + 16 * s.f Fld.PWM_DSC_DSG_CFG_WAX + 65536 * (s.dcl.shm + 1))
  keep : n ≠ 1 → ∀ a, besideHlm a → memGet t.mem a = memGet s.mem a

theorem dsgStart_started (n : Nat) (s : State) (hn : n ≤ 1) : MethodStarted n s (dsgStart n s) := by
  unfold dsgStart
  extract_lets s1 s2 s3
  have hdsg : s2.dsg = 2 + n := setDsg_dsg _ _ (by omega)
  have hesc : s2.f Fld.PWM_DSC_DSG_STAT_ESC = s.f Fld.PWM_DSC_DSG_STAT_ESC := setDsg_stat _ s1 _ rfl (by decide) (.inl (by decide))
  have hdcl : s2.dcl = s1.dcl := setDsg_dcl _ _
  have htime : s2.time = s.time := (setDsg_discharged (2 + n) s1).time
  have hsecond : s2.dcl.second = s.dcl.second := by rw [hdcl]; rfl
  have hstart : s2.dcl.dsgT0 = s.dcl.dsgT0 := by rw [hdcl]; rfl
  have hcount : s2.dcl.shm = s.dcl.shm := by rw [hdcl]; rfl
  have hregs : ∀ r, r.inRec = false → r ≠ .PWM_DSC_DSG_STAT → s2.rd r = s.rd r := fun r h h' => rd_setDsg _ s1 r h h'
  split
  · next h1 =>
    have hword : ∀ w, (dsgWord w s3).rd = s2.rd := fun w => funext fun r => rd_dsgWord w s3 r
    have haddr : s3.dsgAddr = s.dsgAddr := congrArg (4 * ·) (f_congr _ (hregs .PWM_DSC_DSG_SHM rfl (by decide)))
    have hwax : s3.f Fld.PWM_DSC_DSG_CFG_WAX = s.f Fld.PWM_DSC_DSG_CFG_WAX := f_congr _ (hregs .PWM_DSC_DSG_CFG rfl (by decide))
    have hshm : s3.dcl.shm = s.dcl.shm + 1 := congrArg (· + 1) hcount
    refine ⟨?_, ?_, ?_, ?_, ?_, ?_, ?_, fun r h h' => ?_, fun _ hs => ?_, fun h => absurd h1 h⟩
    · exact (dsg_congr (congrFun (hword _) _)).trans hdsg
    · exact (f_congr _ (congrFun (hword _) _)).trans hesc
    · exact (congrArg DclSt.methT0 (dsgWord_dcl _ _)).trans (congrArg DclSt.methT0 hdcl)
    · exact (congrArg DclSt.ePrev (dsgWord_dcl _ _)).trans (congrArg DclSt.ePrev hdcl)
    · exact (congrArg DclSt.second (dsgWord_dcl _ _)).trans hsecond
    · exact (congrArg DclSt.dsgT0 (dsgWord_dcl _ _)).trans hstart
    · exact (Discharged.word s3 _).time.trans htime
    · exact (congrFun (hword _) r).trans (hregs r h h')
    · rw [← haddr, dsgWord_word _ s3 (by rwa [State.dsgShared, haddr]), hwax, hshm]
  · next h1 =>
    exact ⟨hdsg, hesc, congrArg DclSt.methT0 hdcl, congrArg DclSt.ePrev hdcl, hsecond, hstart, htime, hregs,
      fun h => absurd h h1, fun _ a ha => setDsg_mem _ s1 a ha⟩

/-! ## A method that fails (R311, R312) -/

/-- The first failure of a method has been noted: ESC set, the method ended. -/
structure Escalated (s t : State) : Prop where
  dsg : t.dsg = s.dsg
  esc : t.f Fld.PWM_DSC_DSG_STAT_ESC = 1
  dcl : t.dcl = { s.dcl with second := true }
  time : t.time = s.time
  regs : ∀ r, r.inRec = false → r ≠ .PWM_DSC_DSG_STAT → t.rd r = s.rd r
  word : s.dsg = 2 ∨ s.dsg = 3 → s.dsgShared → t.memW s.dsgAddr = 0#32

theorem dsgMethodFail_first (m : Nat) (s : State) (h : s.dcl.second = false) :
    ∃ w, Escalated s w ∧ dsgMethodFail m s = if dsgAvail (1 - m) w then dsgStart (1 - m) w else dsgFail w := by
  unfold dsgMethodFail
  rw [if_neg (by rw [h]; simp)]
  extract_lets s1 s2
  refine ⟨s2, ?_, rfl⟩
  have hrec : Recorded (s1.modDcl fun d => { d with second := true }) s2 := by
    have hcore : s2 = recordCore 0x61C0 (s1.modDcl fun d => { d with second := true }) :=
      recordFault0_eq_recordCore _ _ (by decide) (by decide)
    rw [hcore]
    exact recordCore_recorded _ _
  have htime : s1.time = s.time := (raise_time _ _).trans (dsgEndMethod_discharged s).time
  have hstat : ∀ F : RF, F.reg = .PWM_DSC_DSG_STAT → s2.f F = s1.f F := fun F hF => f_congr F (hrec.regs _ (by rw [hF]; rfl))
  refine ⟨?_, ?_, ?_, ?_, fun r h h' => ?_, fun hd hs => ?_⟩
  · exact (hstat Fld.PWM_DSC_DSG_STAT_DSG_STATE rfl).trans ((f_raise_beside _ Fld.PWM_DSC_DSG_STAT_ESC Fld.PWM_DSC_DSG_STAT_DSG_STATE rfl (by decide)
      (by decide)).trans (f_congr _ (rd_dsgEndMethod s _)))
  · exact (hstat _ rfl).trans (f_raise _ Fld.PWM_DSC_DSG_STAT_ESC (by decide))
  · refine hrec.dcl.trans ?_
    change { (dsgEndMethod s).dcl with second := true } = _
    rw [dsgEndMethod_dcl]
  · exact hrec.time.trans htime
  · exact (hrec.regs r h).trans ((rd_raise_ne (dsgEndMethod s) Fld.PWM_DSC_DSG_STAT_ESC r h').trans (rd_dsgEndMethod s r))
  · have hkeep : s2.memW s.dsgAddr = s1.memW s.dsgAddr := memWord_congr fun b h1 h2 => hrec.mem b (dsgShared_besideHlm hs b h1 h2)
    exact hkeep.trans (dsgEndMethod_word s hd hs)

namespace Escalated

variable {s w : State}

theorem f (h : Escalated s w) (F : RF) (hr : F.reg.inRec = false) (hs : F.reg ≠ .PWM_DSC_DSG_STAT) : w.f F = s.f F := f_congr F (h.regs _ hr hs)

theorem dev (h : Escalated s w) : w.dev = s.dev := dev_congr (h.regs _ rfl (by decide))
theorem dsgAddr (h : Escalated s w) : w.dsgAddr = s.dsgAddr := congrArg (4 * ·) (h.f _ rfl (by decide))
theorem dsgTarget (h : Escalated s w) : w.dsgTarget = s.dsgTarget := congrArg (· * 2 ^ 22) (h.f Fld.PWM_DSC_DSG_TGT_V_T rfl (by decide))

theorem linkV (h : Escalated s w) : w.linkV = s.linkV := by
  simp only [State.linkV, h.dcl, h.time, h.f Fld.PWM_DSC_VCH_V_FS rfl (by decide)]

theorem dsgElapsed (h : Escalated s w) : dsgElapsed w = dsgElapsed s := by simp only [Machine.dsgElapsed, h.dcl, h.time]

theorem avail (h : Escalated s w) (n : Nat) : dsgAvail n w = dsgAvail n s := by
  have hwax := h.f Fld.PWM_DSC_DSG_CFG_WAX rfl (by decide)
  simp only [dsgAvail, hwax, h.f Fld.PWM_DSC_DSG_CFG_DSC_MASK rfl (by decide), State.flag, h.f Fld.PWM_DSC_DSG_CFG_WIND_EN rfl (by decide), h.dev,
    axis_congr (h.regs .SYS_AX_STATE rfl (by decide))]

end Escalated

/-- The axis of WINDINGS. -/
def State.dsgAxis (s : State) : Fin 4 := ⟨s.f Fld.PWM_DSC_DSG_CFG_WAX % 4, Nat.mod_lt _ (by decide)⟩

/-- A method that starts goes on: it is available, and the watch on the discharge lets it. -/
structure GoesOn (n : Nat) (s : State) : Prop where
  avail : dsgAvail n s = true
  config : s.dev ≠ devConfig
  standby : s.dev ≠ devStandby
  untripped : n = 1 → s.flag (Fld.QNC_G_STATE_TRIPPED (axGroup s.dsgAxis)) = false

theorem dsgAvail_windings (s : State) : dsgAvail 1 s = true ↔ s.flag Fld.PWM_DSC_DSG_CFG_WIND_EN = true ∧ s.dev = devRun ∧ s.axis s.dsgAxis = axRun := by
  simp [dsgAvail, State.dsgAxis, and_assoc]

/-- What the watch does to a method just started. -/
theorem dsgWatch_started {n : Nat} {s t : State} (hn : n ≤ 1) (h : MethodStarted n s t) (ha : dsgAvail n s = true) :
    (GoesOn n s → dsgWatch t = t) ∧ (¬ GoesOn n s → t.dcl.second = true → dsgWatch t = dsgFail t) := by
  have hdev : t.dev = s.dev := dev_congr (h.regs _ rfl (by decide))
  have hrun : t.dsgRun = true := by rw [State.dsgRun, h.dsg]; simp; omega
  have hwax : t.f Fld.PWM_DSC_DSG_CFG_WAX = s.f Fld.PWM_DSC_DSG_CFG_WAX := f_congr _ (h.regs .PWM_DSC_DSG_CFG rfl (by decide))
  have haxis : t.axis s.dsgAxis = s.axis s.dsgAxis := axis_congr (h.regs .SYS_AX_STATE rfl (by decide)) _
  have htrip : t.flag (Fld.QNC_G_STATE_TRIPPED (axGroup s.dsgAxis)) = s.flag (Fld.QNC_G_STATE_TRIPPED (axGroup s.dsgAxis)) :=
    flag_congr _ (h.regs (.QNC_G_STATE _) rfl (by simp))
  have hwatch : dsgWatch t = if s.dev = devConfig ∨ s.dev = devStandby then dsgFail t
      else if n = 1 ∧ s.flag (Fld.QNC_G_STATE_TRIPPED (axGroup s.dsgAxis)) = true then dsgMethodFail 1 t else t := by
    have hcond : (t.dsg = 3 && (t.axis s.dsgAxis != axRun || t.flag (Fld.QNC_G_STATE_TRIPPED (axGroup s.dsgAxis)))) =
        decide (n = 1 ∧ s.flag (Fld.QNC_G_STATE_TRIPPED (axGroup s.dsgAxis)) = true) := by
      rw [h.dsg, haxis, htrip]
      by_cases h1 : n = 1
      · subst h1
        simp [((dsgAvail_windings s).mp ha).2.2]
      · simp [h1, show ¬ 2 + n = 3 by omega]
    unfold dsgWatch
    extract_lets k
    have hk : k = s.dsgAxis := Fin.ext (congrArg (· % 4) hwax)
    rw [hk, hrun, hdev, hcond]
    simp
  refine ⟨fun hg => ?_, fun hg hsecond => ?_⟩
  · rw [hwatch, if_neg (by have := hg.config; have := hg.standby; tauto), if_neg (by rintro ⟨h1, h2⟩; simp [hg.untripped h1] at h2)]
  · rw [hwatch]
    split
    · rfl
    · next hd =>
      have htripped : n = 1 ∧ s.flag (Fld.QNC_G_STATE_TRIPPED (axGroup s.dsgAxis)) = true := by
        by_contra hno
        refine hg ⟨ha, fun e => hd (.inl e), fun e => hd (.inr e), fun e => ?_⟩
        simpa [e] using hno
      rw [if_pos htripped, dsgMethodFail, if_pos hsecond]

/-- What a failed method leads to, with the watch on the discharge. -/
theorem dsgMethodFail_leads (m : Nat) (s : State) :
    (s.dcl.second = true → RunFailed s (dsgWatch (dsgMethodFail m s))) ∧
      (s.dcl.second = false → ∃ w, Escalated s w ∧
        (GoesOn (1 - m) s → MethodStarted (1 - m) w (dsgWatch (dsgMethodFail m s))) ∧
        (¬ GoesOn (1 - m) s → RunFailed w (dsgWatch (dsgMethodFail m s)) ∨
          ∃ x, MethodStarted (1 - m) w x ∧ RunFailed x (dsgWatch (dsgMethodFail m s)))) := by
  refine ⟨fun h => ?_, fun h => ?_⟩
  · have heq : dsgMethodFail m s = dsgFail s := if_pos h
    rw [heq, dsgWatch_runFailed (dsgFail_runFailed s)]
    exact dsgFail_runFailed s
  · obtain ⟨w, hw, heq⟩ := dsgMethodFail_first m s h
    have hn : 1 - m ≤ 1 := by omega
    have hgoes : GoesOn (1 - m) w ↔ GoesOn (1 - m) s := by
      have hax : w.dsgAxis = s.dsgAxis := Fin.ext (congrArg (· % 4) (hw.f Fld.PWM_DSC_DSG_CFG_WAX rfl (by decide)))
      have htrip : ∀ g, w.flag (Fld.QNC_G_STATE_TRIPPED g) = s.flag (Fld.QNC_G_STATE_TRIPPED g) := fun g =>
        flag_congr _ (hw.regs (.QNC_G_STATE g) rfl (by simp))
      constructor
      · rintro ⟨h1, h2, h3, h4⟩
        exact ⟨hw.avail _ ▸ h1, hw.dev ▸ h2, hw.dev ▸ h3, fun e => by rw [← htrip, ← hax]; exact h4 e⟩
      · rintro ⟨h1, h2, h3, h4⟩
        exact ⟨(hw.avail _).trans h1, hw.dev ▸ h2, hw.dev ▸ h3, fun e => by rw [htrip, hax]; exact h4 e⟩
    refine ⟨w, hw, fun hg => ?_, fun hg => ?_⟩
    · have ha := (hgoes.mpr hg).avail
      have hstart := dsgStart_started (1 - m) w hn
      rw [heq, if_pos ha, (dsgWatch_started hn hstart ha).1 (hgoes.mpr hg)]
      exact hstart
    · by_cases ha : dsgAvail (1 - m) w = true
      · have hstart := dsgStart_started (1 - m) w hn
        have hsecond : (dsgStart (1 - m) w).dcl.second = true := by rw [hstart.second, hw.dcl]
        rw [heq, if_pos ha, (dsgWatch_started hn hstart ha).2 (fun hc => hg (hgoes.mp hc)) hsecond]
        exact .inr ⟨_, hstart, dsgFail_runFailed _⟩
      · rw [heq, if_neg ha, dsgWatch_runFailed (dsgFail_runFailed w)]
        exact .inl (dsgFail_runFailed w)

end Sys2Proof.Machine
end

section
/-! PROOF. O42: the discharge request, and the obligation. -/

namespace Sys2Proof.Machine

open Sys2Proof

/-! ## A request (R309) -/

/-- The registers of the contactors and of the discharge, with the records. -/
def Reg.inDcl : Reg → Bool
  | .PWM_DSC_PCH_STAT | .PWM_DSC_DSG_STAT => true
  | r => r.inRec

theorem Reg.inDcl_of_inRec (r : Reg) (h : r.inRec = true) : r.inDcl = true := by unfold Reg.inDcl; split <;> simp [h]

theorem Reg.block_of_inDcl (r : Reg) (h : r.inDcl = true) : r.addr / 0x10000 ∈ [0x4000, 0x4001, 0x4010, 0x4004] := by
  unfold Reg.inDcl at h
  split at h
  · decide
  · decide
  · have := block_of_inRec _ h; simp only [List.mem_cons, List.not_mem_nil, or_false] at this ⊢; omega

/-- What a start of the sequencer leaves: the registers outside those, memory outside the Hallmark, device time and the gate timers. -/
structure Sequenced (s t : State) : Prop where
  regs : ∀ r, r.inDcl = false → t.rd r = s.rd r
  mem : ∀ a, besideHlm a → memGet t.mem a = memGet s.mem a
  chk : t.chk = s.chk
  time : t.time = s.time
  pwm : t.pwm = s.pwm

namespace Sequenced

variable {s t u : State}

theorem refl (s : State) : Sequenced s s := ⟨fun _ _ => rfl, fun _ _ => rfl, rfl, rfl, rfl⟩

theorem trans (h : Sequenced s t) (k : Sequenced t u) : Sequenced s u :=
  ⟨fun r hr => (k.regs r hr).trans (h.regs r hr), fun a ha => (k.mem a ha).trans (h.mem a ha), k.chk.trans h.chk, k.time.trans h.time,
    k.pwm.trans h.pwm⟩

theorem of_recorded (h : Recorded s t) : Sequenced s t :=
  ⟨fun r hr => h.regs r (by by_contra hn; rw [Reg.inDcl_of_inRec r (by simpa using hn)] at hr; cases hr), h.mem, h.chk, h.time,
    (congrArg State.pwm h.rest :)⟩

theorem modDcl (s : State) (f : DclSt → DclSt) : Sequenced s (s.modDcl f) := ⟨fun _ _ => rfl, fun _ _ => rfl, rfl, rfl, rfl⟩

theorem setF (s : State) (F : RF) (v : Nat) (h : F.reg.inDcl = true) : Sequenced s (s.setF F v) :=
  ⟨fun r hr => rd_setF_ne s F v r (by rintro rfl; rw [h] at hr; cases hr), fun _ _ => rfl, rfl, rfl, rfl⟩

theorem faultFrame (h : Sequenced s t) : s.faultFrame t [0x4004] :=
  ⟨fun r hr => h.regs r (by by_contra hn; exact hr (Reg.block_of_inDcl r (by simpa using hn))), h.mem, h.chk⟩

end Sequenced

theorem setDsg_sequenced (v : Nat) (s : State) : Sequenced s (setDsg v s) := by
  unfold setDsg
  split
  · exact .refl s
  · exact (Sequenced.setF s Fld.PWM_DSC_DSG_STAT_DSG_STATE v rfl).trans (.of_recorded (pushEvent_recorded _ _ _))

theorem setPch_sequenced (v : Nat) (s : State) : Sequenced s (setPch v s) := by
  unfold setPch
  split
  · exact .refl s
  · exact (Sequenced.setF s Fld.PWM_DSC_PCH_STAT_PCH_STATE v rfl).trans (.of_recorded (pushEvent_recorded _ _ _))

theorem pch_congr {s t : State} (h : t.rd .PWM_DSC_PCH_STAT = s.rd .PWM_DSC_PCH_STAT) : t.pch = s.pch := f_congr _ h

theorem pch_setPch (v : Nat) (s : State) (h : v < 8) : (setPch v s).pch = v := by
  unfold setPch
  split
  · assumption
  · exact (pch_congr ((pushEvent_recorded _ _ _).regs _ rfl)).trans ((f_setF s Fld.PWM_DSC_PCH_STAT_PCH_STATE v (by decide)).trans (Nat.mod_eq_of_lt h))

/-- The run that a request starts. -/
structure RunStarted (s t : State) : Prop extends Sequenced s t where
  dsg : t.dsg = 1
  src : t.f Fld.PWM_DSC_DSG_STAT_SRC = 0
  elapsed : t.f Fld.PWM_DSC_DSG_STAT_ELAPSED = 0
  t0 : t.dcl.dsgT0 = s.time
  second : t.dcl.second = false
  pre : t.dcl.pre = false
  main : t.dcl.main = false
  neg : t.dcl.neg = false
  pch : t.pch = if s.pch = pchOpen then pchOpen else pchAborted

theorem dsgRequest_started (s : State) (hr : s.dsgRun = false)
    (hd : s.dev = devArmed ∨ s.dev = devRun ∨ s.dev = devSafe ∨ s.dev = devFault) : ∃ t, dsgRequest 0 s = (t, true) ∧ RunStarted s t := by
  unfold dsgRequest
  rw [if_neg (by simp [hr]), if_pos (by simp [hr]; tauto)]
  extract_lets s1 s2 s3
  refine ⟨_, rfl, ?_⟩
  have h1 : Sequenced s s1 := by
    unfold s1
    split
    · exact .refl s
    · exact setPch_sequenced _ s
  have h2 : Sequenced s1 s2 := (Sequenced.modDcl s1 _).trans (.modDcl _ _)
  have h3 : Sequenced s2 s3 := (Sequenced.setF s2 Fld.PWM_DSC_DSG_STAT_SRC 0 rfl).trans (.setF _ Fld.PWM_DSC_DSG_STAT_ELAPSED 0 rfl)
  have hpch : s1.pch = if s.pch = pchOpen then pchOpen else pchAborted := by
    unfold s1
    split
    · assumption
    · exact pch_setPch _ s (by decide)
  refine ⟨((h1.trans h2).trans h3).trans (setDsg_sequenced 1 s3), setDsg_dsg 1 s3 (by decide), ?_, ?_, ?_, ?_, ?_, ?_, ?_, ?_⟩
  · exact (setDsg_stat 1 s3 Fld.PWM_DSC_DSG_STAT_SRC rfl (by decide) (.inr (by decide))).trans
      ((f_setF_beside _ Fld.PWM_DSC_DSG_STAT_ELAPSED Fld.PWM_DSC_DSG_STAT_SRC 0 rfl (by decide) (by decide)).trans (f_setF s2 _ 0 (by decide)))
  · exact (setDsg_stat 1 s3 Fld.PWM_DSC_DSG_STAT_ELAPSED rfl (by decide) (.inr (by decide))).trans (f_setF _ _ 0 (by decide))
  · rw [setDsg_dcl]; exact h1.time
  · rw [setDsg_dcl]; rfl
  · rw [setDsg_dcl]; rfl
  · rw [setDsg_dcl]; rfl
  · rw [setDsg_dcl]; rfl
  · refine (pch_congr (rd_setDsg 1 s3 _ rfl (by decide))).trans (Eq.trans ?_ hpch)
    exact pch_congr (s := s1) ((rd_setF_ne _ Fld.PWM_DSC_DSG_STAT_ELAPSED 0 _ (by decide)).trans
      (rd_setF_ne s2 Fld.PWM_DSC_DSG_STAT_SRC 0 _ (by decide)))

theorem dsgRank_lt (s : State) : ¬ dsgRank 0 < dsgRank (s.f Fld.PWM_DSC_DSG_STAT_SRC) := by
  have : s.f Fld.PWM_DSC_DSG_STAT_SRC < 2 ^ 2 := wGet_lt _ _ _
  simp only [dsgRank, ↓reduceIte]
  split <;> omega

/-- A request in the peripheral cycle of a start joins the run: an agent's comes last in the order of R314. -/
theorem dsgRequest_joins (s : State) (hr : s.dsgRun = true) (hc : s.dcl.dsgT0 / 4 = s.perCycle) : dsgRequest 0 s = (s, true) := by
  unfold dsgRequest
  rw [if_pos (by simp [hr, hc]), if_neg (dsgRank_lt s)]

theorem dsgRequest_refused (s : State)
    (h1 : ¬ (s.dsgRun = false ∧ (s.dev = devArmed ∨ s.dev = devRun ∨ s.dev = devSafe ∨ s.dev = devFault)))
    (h2 : ¬ (s.dsgRun = true ∧ s.dcl.dsgT0 / 4 = s.perCycle)) : dsgRequest 0 s = (s, false) := by
  unfold dsgRequest
  rw [if_neg (by simpa using h2), if_neg (fun h => h1 (by simpa [and_comm, or_assoc] using h))]

/-- A request as the agent makes it. -/
theorem dsgKey_of_accepted {s t : State} (h : dsgRequest 0 s = (t, true)) : dsgKey 0xA55A#16 s = t := by
  simp [dsgKey, dsgAgent, h]

theorem dsgKey_of_refused {s : State} {key : BitVec 16} (h : key ≠ 0xA55A#16 ∨ dsgRequest 0 s = (s, false)) :
    dsgKey key s = s.raise Fld.PWM_DSC_DSG_STAT_WR_IGN := by
  unfold dsgKey
  split
  · next hk => simp [dsgAgent, h.resolve_left (absurd hk)]
  · rfl

theorem wrIgn_shows (s : State) : (s.raise Fld.PWM_DSC_DSG_STAT_WR_IGN).f Fld.PWM_DSC_DSG_STAT_WR_IGN = 1 ∧
    s.onlyRegs (s.raise Fld.PWM_DSC_DSG_STAT_WR_IGN) [.PWM_DSC_DSG_STAT] :=
  ⟨f_raise s _ (by decide), rfl, fun r hr => rd_raise_ne s _ r (by rintro rfl; exact hr (by decide))⟩

/-! ## The happenings of a run -/

theorem Discharged.keepsOutside {s t : State} (h : Discharged s t) :
    s.keepsOutside t [0x4000, 0x4001, 0x4010, 0x4004, 0x4008, 0x400C, 0x400F] :=
  fun r hr => h.regs r (by
    by_contra hn
    have := Reg.block_of_inDsg r (by simpa using hn)
    simp only [List.mem_cons, List.not_mem_nil, or_false, not_or] at this hr
    omega)

theorem exec_openEnd (s : State) (h : s.dsg = 1) :
    exec .dischargeOpenEnd s = .next (
      let u := s.advance (s.dcl.dsgT0 + s.f Fld.PWM_DSC_DSG_CFG_T_OPEN * 600000)
      if dsgAvail (s.f Fld.PWM_DSC_DSG_CFG_FIRST) u then dsgStart (s.f Fld.PWM_DSC_DSG_CFG_FIRST) u
        else dsgWatch (dsgMethodFail (s.f Fld.PWM_DSC_DSG_CFG_FIRST) u)) :=
  congrArg Host.Outcome.next (if_pos h)

/-- The excess of the link voltage over the target, or none (R311). -/
def State.dsgExcess (s : State) : Option Int := s.linkV.map fun v => (v : Int) - s.dsgTarget

/-- The check of the decay passes (R311). -/
def decayOk (s : State) : Prop :=
  ∃ x p, s.dsgExcess = some x ∧ s.dcl.ePrev = some p ∧ x * 256 ≤ s.f Fld.PWM_DSC_DSG_CFG_RATIO * p

theorem exec_decayCheck (s : State) (h : s.dsg = 2 ∨ s.dsg = 3) :
    let u := s.advance (s.dcl.methT0 + s.f Fld.PWM_DSC_DSG_CFG_T_CHK * 6000000)
    (linkDone u u.time = true → exec .decayCheck s = .next u) ∧
    (linkDone u u.time = false →
      (∀ x, decayOk u → u.dsgExcess = some x → exec .decayCheck s = .next (u.modDcl fun d => { d with methT0 := u.time, ePrev := some x })) ∧
      (¬ decayOk u → exec .decayCheck s = .next (dsgWatch (dsgMethodFail (s.dsg - 2) u)))) := by
  intro u
  have hexec : exec .decayCheck s = .next (if linkDone u u.time then u else
      match u.dsgExcess, u.dcl.ePrev with
      | some e, some p =>
        if e * 256 ≤ u.f Fld.PWM_DSC_DSG_CFG_RATIO * p then u.modDcl fun d => { d with methT0 := u.time, ePrev := some e }
        else dsgWatch (dsgMethodFail (u.dsg - 2) u)
      | _, _ => dsgWatch (dsgMethodFail (u.dsg - 2) u)) :=
    congrArg Host.Outcome.next (if_pos (by simpa using h))
  refine ⟨fun hl => ?_, fun hl => ⟨fun x hok hx => ?_, fun hok => ?_⟩⟩
  · rw [hexec, if_pos hl]
  · obtain ⟨y, p, hy, hp, hle⟩ := hok
    obtain rfl : x = y := Option.some.inj (hx.symm.trans hy)
    rw [hexec, if_neg (by simp [hl]), hx, hp]
    exact congrArg _ (if_pos hle)
  · rw [hexec, if_neg (by simp [hl])]
    cases he : u.dsgExcess with
    | none => rfl
    | some e =>
      cases hp : u.dcl.ePrev with
      | none => rfl
      | some p => exact congrArg _ (if_neg fun hle => hok ⟨e, p, he, hp, hle⟩)

theorem exec_timeout (s : State) (h : s.dsgRun = true) :
    let u := s.advance (s.dcl.dsgT0 + s.f Fld.PWM_DSC_DSG_TGT_TMAX * 6000000)
    let done := linkDone u u.time = true ∨ ∃ v, u.linkV = some v ∧ v ≤ u.dsgTarget
    (done → exec .dischargeTimeout s = .next u) ∧ (¬ done → exec .dischargeTimeout s = .next (dsgFail u)) := by
  intro u done
  have hexec : exec .dischargeTimeout s = .next (if linkDone u u.time then u else
      match u.linkV with
      | some v => if v ≤ u.dsgTarget then u else dsgWatch (dsgFail u)
      | none => dsgWatch (dsgFail u)) := congrArg Host.Outcome.next (if_pos h)
  have hwatch := dsgWatch_runFailed (dsgFail_runFailed u)
  by_cases hl : linkDone u u.time = true
  · exact ⟨fun _ => by rw [hexec, if_pos hl], fun hno => absurd (.inl hl) hno⟩
  · rw [hexec, if_neg hl, hwatch]
    cases hv : u.linkV with
    | none => exact ⟨fun hd => by rcases hd with hd | ⟨v, hv', -⟩ <;> simp_all, fun _ => rfl⟩
    | some v =>
      refine ⟨fun hd => congrArg _ (if_pos ?_), fun hno => congrArg _ (if_neg fun hle => hno (.inr ⟨v, hv, hle⟩))⟩
      rcases hd with hd | ⟨v', hv', hle⟩
      · exact absurd hd hl
      · rw [hv] at hv'
        exact Option.some.inj hv' ▸ hle

/-! ## What the statement says of a start and of an end -/

/-- The run of one state has ended in the other, as the statement shows it. -/
structure RunEnded (s t : State) : Prop where
  dsg : t.dsg = 5
  fail : t.f Fld.PWM_DSC_DSG_STAT_FAIL = 1
  new : t.flag Fld.SYS_STATUS_FAULT_NEW = true
  elapsed : t.f Fld.PWM_DSC_DSG_STAT_ELAPSED = dsgElapsed s
  safe : devConfig ≤ s.dev → s.dev ≤ devRun → t.dev = devSafe
  stays : s.dev = devSafe ∨ s.dev = devFault → t.dev = s.dev
  word : s.dsg = 2 ∨ s.dsg = 3 → s.dsgShared → t.memW s.dsgAddr = 0#32

/-- A run that ends after steps that leave its start, the device state and the request word's place. -/
theorem RunFailed.ended {s x t : State} (h : RunFailed x t) (he : dsgElapsed x = dsgElapsed s) (hd : x.dev = s.dev) (ha : x.dsgAddr = s.dsgAddr)
    (hr : s.dsg = 2 ∨ s.dsg = 3 → x.dsg = 2 ∨ x.dsg = 3) : RunEnded s t :=
  ⟨h.dsg, h.fail, h.new, h.elapsed.trans he, fun h1 h2 => h.safe (hd ▸ h1) (hd ▸ h2), fun hs => (h.stays (hd ▸ hs)).trans hd,
    fun hs hw => ha ▸ h.word (hr hs) (by rwa [State.dsgShared, ha])⟩

/-- A method of one state has started in the other. -/
structure MethodRuns (n : Nat) (s t : State) : Prop where
  dsg : t.dsg = 2 + n
  t0 : t.dcl.methT0 = s.time
  e0 : t.dcl.ePrev = s.linkV.map fun v => (v : Int) - s.f Fld.PWM_DSC_DSG_TGT_V_T * 2 ^ 22
  word : n = 1 → s.dsgShared → t.memW s.dsgAddr = BitVec.ofNat 32 (1 + 16 * s.f Fld.PWM_DSC_DSG_CFG_WAX + 65536 * (s.dcl.shm + 1))
  dev : t.dev = s.dev

theorem dsgTarget_cast (s : State) : (s.dsgTarget : Int) = s.f Fld.PWM_DSC_DSG_TGT_V_T * 2 ^ 22 := by rw [State.dsgTarget]; push_cast; rfl

theorem MethodStarted.runs {n : Nat} {s t : State} (h : MethodStarted n s t) : MethodRuns n s t :=
  ⟨h.dsg, h.t0, h.e0.trans (by rw [dsgTarget_cast]), h.word, dev_congr (h.regs _ rfl (by decide))⟩

/-- A method started after an escalation, seen from before it. -/
theorem MethodRuns.of_escalated {n : Nat} {s w t : State} (hw : Escalated s w) (h : MethodRuns n w t) : MethodRuns n s t where
  dsg := h.dsg
  t0 := h.t0.trans hw.time
  e0 := by rw [h.e0, hw.linkV, hw.f Fld.PWM_DSC_DSG_TGT_V_T rfl (by decide)]
  word hn hs := by
    have := h.word hn (by rwa [State.dsgShared, hw.dsgAddr])
    rwa [hw.dsgAddr, hw.f Fld.PWM_DSC_DSG_CFG_WAX rfl (by decide), hw.dcl] at this
  dev := h.dev.trans hw.dev

/-- A method of one state has failed in the other (R311, R312). -/
structure MethodFailed (m : Nat) (s t : State) : Prop extends Discharged s t where
  last : s.dcl.second = true → RunEnded s t
  esc : s.dcl.second = false → t.f Fld.PWM_DSC_DSG_STAT_ESC = 1 ∧ t.dcl.second = true
  goes : s.dcl.second = false → GoesOn (1 - m) s →
    MethodRuns (1 - m) s t ∧ (m = 1 → s.dsg = 3 → s.dsgShared → t.memW s.dsgAddr = 0#32)
  stops : s.dcl.second = false → ¬ GoesOn (1 - m) s → RunEnded s t

theorem dsgMethodFail_failed (m : Nat) (s : State) : MethodFailed m s (dsgWatch (dsgMethodFail m s)) := by
  have hall := (dsgMethodFail_discharged m s).trans (dsgWatch_discharged _)
  obtain ⟨hlast, hfirst⟩ := dsgMethodFail_leads m s
  generalize dsgWatch (dsgMethodFail m s) = t at *
  refine ⟨hall, fun h => (hlast h).ended rfl rfl rfl id, fun h => ?_, fun h hg => ?_, fun h hg => ?_⟩
  all_goals obtain ⟨w, hw, hgoes, hstops⟩ := hfirst h
  · by_cases hg : GoesOn (1 - m) s
    · have hstart := hgoes hg
      exact ⟨hstart.esc.trans hw.esc, by rw [hstart.second, hw.dcl]⟩
    · rcases hstops hg with hf | ⟨x, hx, hf⟩
      · exact ⟨hf.esc.trans hw.esc, by rw [hf.dcl, hw.dcl]⟩
      · exact ⟨hf.esc.trans (hx.esc.trans hw.esc), by rw [hf.dcl, hx.second, hw.dcl]⟩
  · have hstart := hgoes hg
    refine ⟨.of_escalated hw hstart.runs, fun hm hd hs => ?_⟩
    have hkeep : t.memW s.dsgAddr = w.memW s.dsgAddr :=
      memWord_congr fun b h1 h2 => hstart.keep (by omega) b (dsgShared_besideHlm hs b h1 h2)
    exact hkeep.trans (hw.word (.inr hd) hs)
  · rcases hstops hg with hf | ⟨x, hx, hf⟩
    · exact hf.ended hw.dsgElapsed hw.dev hw.dsgAddr (by rw [hw.dsg]; exact id)
    · have haddr : x.dsgAddr = w.dsgAddr := congrArg (4 * ·) (f_congr _ (hx.regs .PWM_DSC_DSG_SHM rfl (by decide)))
      refine hf.ended ?_ ((dev_congr (hx.regs _ rfl (by decide))).trans hw.dev) (haddr.trans hw.dsgAddr) fun _ => ?_
      · rw [← hw.dsgElapsed]
        simp only [dsgElapsed, hx.start, hx.time]
      · have := hx.dsg; omega

end Sys2Proof.Machine
end

section
/-! PROOF. O42, put together. -/

namespace Sys2Proof.Machine

open Sys2Proof

/-- A method's availability and its going on, as the statement says them. -/
theorem dsgAvail_iff (n : Nat) (s : State) : dsgAvail n s = true ↔
    if n = 0 then s.f Fld.PWM_DSC_DSG_CFG_DSC_MASK ≠ 0
    else s.flag Fld.PWM_DSC_DSG_CFG_WIND_EN = true ∧ s.dev = devRun ∧ s.axis s.dsgAxis = axRun := by
  by_cases h : n = 0
  · simp [dsgAvail, h]
  · simp [dsgAvail, h, State.dsgAxis, and_assoc]

theorem goesOn_iff (n : Nat) (s : State) : GoesOn n s ↔ dsgAvail n s = true ∧ s.dev ≠ devConfig ∧ s.dev ≠ devStandby ∧
    (n = 1 → s.flag (Fld.QNC_G_STATE_TRIPPED (axGroup s.dsgAxis)) = false) :=
  ⟨fun h => ⟨h.avail, h.config, h.standby, h.untripped⟩, fun ⟨h1, h2, h3, h4⟩ => ⟨h1, h2, h3, h4⟩⟩

/-- ELAPSED as read counts while a run goes on (R313). -/
theorem shown_elapsed (s : State) (h : s.dsgRun = true) : wGet (shownReg .PWM_DSC_DSG_STAT s) 16 16 = dsgElapsed s := by
  have hshown : shownReg .PWM_DSC_DSG_STAT s = wPut (s.rd .PWM_DSC_DSG_STAT) 16 16 (dsgElapsed s) := if_pos h
  rw [hshown, wGet_wPut_same _ _ _ _ (by decide)]
  exact Nat.mod_eq_of_lt (dsgElapsed_lt s)

theorem dsgFirst_le (s : State) : s.f Fld.PWM_DSC_DSG_CFG_FIRST ≤ 1 := Nat.le_of_lt_succ (wGet_lt _ 0 1)

/-- Settles O42: every clause is one of the sequencer's operations at the core cycle in which it falls due. -/
theorem dischargeSequencer : Obligations.DischargeSequencer := by
  unfold Obligations.DischargeSequencer
  intro s key d wax addr inShared avail goesOn word rest started ended failed reqOk joins
  have havail : ∀ (due n : Nat), dsgAvail n (s.advance due) = true ↔ avail n := fun due n => dsgAvail_iff n (s.advance due)
  have hgoes : ∀ (due n : Nat), GoesOn n (s.advance due) ↔ goesOn n := fun due n => by
    rw [goesOn_iff, havail]; exact Iff.rfl
  have hrest : ∀ (due : Nat) (t : State), Discharged (s.advance due) t → rest t := fun due t h => ⟨h.keepsOutside, h.chk, h.mem⟩
  have hstarted : ∀ (due n : Nat) (t : State), MethodRuns n (s.advance due) t → started due n t := fun due n t h =>
    ⟨h.dsg, h.t0, h.e0, h.word, h.dev⟩
  have hended : ∀ (due : Nat) (t : State), RunEnded (s.advance due) t → ended due t := fun due t h =>
    ⟨h.dsg, h.fail, h.new, h.elapsed, h.safe, h.stays, h.word⟩
  have hfailed : ∀ (due m : Nat), failed due m (dsgWatch (dsgMethodFail m (s.advance due))) := fun due m => by
    have h := dsgMethodFail_failed m (s.advance due)
    exact ⟨h.time, hrest due _ h.toDischarged, fun hl => hended due _ (h.last hl), fun hl => ⟨(h.esc hl).1, (h.esc hl).2,
      fun hg => ⟨hstarted due _ _ (h.goes hl ((hgoes due _).mpr hg)).1, (h.goes hl ((hgoes due _).mpr hg)).2⟩,
      fun hg => hended due _ (h.stops hl fun hc => hg ((hgoes due _).mp hc))⟩⟩
  have hexec : exec (.dischargeRequest key) s = .next (agentTurn (dsgKey key) s) := rfl
  have hreq : s.atWrite.dsgRun = s.dsgRun ∧ s.atWrite.dev = s.dev ∧ (s.atWrite.dcl.dsgT0 / 4 = s.atWrite.perCycle ↔ d.dsgT0 / 4 = s.perCycle) :=
    ⟨atWrite_dsgRun s, atWrite_dev s, by rw [atWrite_dcl, atWrite_perCycle]⟩
  obtain ⟨hrun, hdev, hcyc⟩ := hreq
  refine ⟨?_, ?_, ?_, fun hr => shown_elapsed s hr, ?_, ?_, ?_⟩
  · rintro ⟨rfl, hr, hd⟩
    obtain ⟨t, ht, h⟩ := dsgRequest_started s.atWrite (hrun.trans hr) (by rw [hdev]; exact hd)
    refine writes_agentTurn hexec ?_
    rw [dsgKey_of_accepted ht]
    exact ⟨h.dsg, h.src, h.elapsed, h.t0, h.second, h.pre, h.main, h.neg, h.pch, h.pwm, h.faultFrame⟩
  · rintro ⟨rfl, hr, hc⟩
    refine writes_agentTurn hexec ?_
    rw [dsgKey_of_accepted (dsgRequest_joins s.atWrite (hrun.trans hr) (hcyc.mpr hc))]
    exact ⟨rfl, rfl, fun _ _ => rfl, rfl⟩
  · intro hno hnj
    refine writes_agentTurn hexec ?_
    have hrefused : key ≠ 0xA55A#16 ∨ dsgRequest 0 s.atWrite = (s.atWrite, false) := by
      by_cases hk : key = 0xA55A#16
      · refine .inr (dsgRequest_refused s.atWrite ?_ ?_)
        · rw [hrun, hdev]; exact fun h => hno ⟨hk, h.1, h.2⟩
        · rw [hrun, hcyc]; exact fun h => hnj ⟨hk, h.1, h.2⟩
      · exact .inl hk
    rw [dsgKey_of_refused hrefused]
    exact wrIgn_shows s.atWrite
  · intro hd due m
    refine ⟨fun ha => ?_, fun ha => ⟨_, (exec_openEnd s hd).trans (congrArg _ (if_neg fun hc => ha ((havail due m).mp hc))), hfailed due m⟩⟩
    have h := dsgStart_discharged m (s.advance due)
    refine ⟨_, (exec_openEnd s hd).trans (congrArg _ (if_pos ((havail due m).mpr ha))), h.time, ?_, hrest due _ h⟩
    exact hstarted due m _ (dsgStart_started m (s.advance due) (dsgFirst_le s)).runs
  · intro hd due e ok
    obtain ⟨hdone, hcheck⟩ := exec_decayCheck s hd
    have he : e = (s.advance due).dsgExcess := by 
      simp only [e, State.dsgExcess, dsgTarget_cast]
      cases (s.advance due).linkV <;> rfl
    have hok : decayOk (s.advance due) ↔ ok := by simp only [ok, he]; exact Iff.rfl
    refine ⟨hdone, fun hl => ⟨fun x hx hxe => ?_, fun hn => ⟨_, (hcheck hl).2 fun hc => hn (hok.mp hc), hfailed due _⟩⟩⟩
    exact (hcheck hl).1 x (hok.mpr hx) (he ▸ hxe)
  · intro hr due done
    obtain ⟨hdone, hfail⟩ := exec_timeout s hr
    refine ⟨fun hn => ⟨_, hfail hn, ?_, ?_, ?_⟩, hdone⟩
    · exact (dsgFail_discharged (s.advance due)).time
    · exact hended due _ ((dsgFail_runFailed (s.advance due)).ended rfl rfl rfl id)
    · exact hrest due _ (dsgFail_discharged _)

end Sys2Proof.Machine
end

section
/-! PROOF. O60: images, the start of the agent, the configuration lock and the fuses. -/

namespace Sys2Proof.Machine

open Sys2Proof

/-! ## FAULT without the Anvil -/

/-- What entering FAULT can write. -/
def Reg.inFault : Reg → Bool
  | .SYS_STATE => true
  | r => r.inSource

theorem Reg.inFault_of_inSource (r : Reg) (h : r.inSource = true) : r.inFault = true := by unfold Reg.inFault; split <;> simp [h]
theorem Reg.inFault_of_inRec (r : Reg) (h : r.inRec = true) : r.inFault = true := inFault_of_inSource _ (inSource_of_inGroup _ (inGroup_of_inRec _ h))

theorem Reg.block_of_inFault (r : Reg) (h : r.inFault = true) : r.addr / 0x10000 ∈ [0x4000, 0x4001, 0x4008, 0x400C, 0x4010] := by
  unfold Reg.inFault at h
  split at h
  · decide
  · exact block_of_inSource _ h

theorem setDev_inFault (d : Nat) (s : State) : Reacted Reg.inFault s (setDev d s) := by
  unfold setDev
  split
  · exact .refl s
  · extract_lets old c s1
    have h1 : Reacted Reg.inFault s s1 := brakeDrop_reacted _ s
    exact ((h1.trans (.setF s1 Fld.SYS_STATE_DEV_STATE d rfl (by decide))).trans (.raise_status _ 4 rfl)).trans
      (.of_recorded (pushEvent_recorded _ _ _) Reg.inFault_of_inRec)

theorem enterFault0_inFault (s : State) : Reacted Reg.inFault s (enterFault0 s) := by
  unfold enterFault0
  extract_lets s1 s2
  have h1 : Reacted Reg.inFault s s1 := .sys s _
  split
  · exact h1
  · have h2 : Reacted Reg.inFault s1 s2 := (setDev_inFault devFault s1).trans ((sourceActive0_inSource 117 _ _).mono Reg.inFault_of_inSource)
    have h3 : Reacted Reg.inFault s2 ((List.finRange 8).foldl (fun s n => auxToFault n s.now s) s2) :=
      .foldl _ _ (fun n _ u => (auxToFault_inGroup n u.now u).mono fun r h => Reg.inFault_of_inSource r (Reg.inSource_of_inGroup r h)) s2
    exact ((h1.trans h2).trans h3).trans (.of_recorded (faultFlush_recorded _) Reg.inFault_of_inRec)

/-- A class 0x4 code with no discharge under way: FAULT is entered, and nothing but its reaction written. -/
theorem recordFault_class4 (code : Nat) (s : State) (h : faultClass code = 4) (hn : faultClass (code % 2 ^ 16) ≠ 0) (hd : s.dsgRun = false) :
    Reacted Reg.inFault s (recordFault code s) ∧ (recordFault code s).dev = devFault ∧
      (recordFault code s).flag Fld.SYS_STATUS_FAULT_NEW = true := by
  have hcore : Reacted Reg.inFault s (recordCore code s) := .of_recorded (recordCore_recorded code s) Reg.inFault_of_inRec
  have hall := hcore.trans (enterFault0_inFault (recordCore code s))
  have heq : recordFault code s = enterFault0 (recordCore code s) := by
    rw [recordFault, recordFault0_eq_enterFault0 code s h, dsgWatch_reacted hall rfl hd]
  rw [heq]
  exact ⟨hall, dev_enterFault0 _, (enterFault0_inFault _).flag_status 5 (flag_faultNew_recordCore code s hn)⟩

/-! ## Words of ferroelectric memory -/

theorem Recorded.memW_ferro {s u : State} (h : Recorded s u) (a : Nat) (ha : 0x20000000 ≤ a) : u.memW a = s.memW a :=
  memWord_congr fun b h1 _ => h.mem b (.inr (by simp only [hlmSnap, hlmLen]; omega))

theorem Recorded.imgW {s u : State} (h : Recorded s u) (k : Fin 2) (off : Nat) : imgW u k off = imgW s k off :=
  congrArg BitVec.toNat (h.memW_ferro _ (by simp only [imgBase]; omega))

theorem Recorded.fuse {s t : State} (h : Recorded s t) : t.fuse = s.fuse := (congrArg State.fuse h.rest :)
theorem Recorded.boot {s t : State} (h : Recorded s t) : t.boot = s.boot := (congrArg State.boot h.rest :)

theorem Recorded.imgOk {s u : State} (h : Recorded s u) (k : Fin 2) (sig : Bool) : imgOk u k sig = imgOk s k sig := by
  simp only [Machine.imgOk, sectionOk, imgKeyOk, h.imgW, h.fuse]

/-- A slot's validity, rule by rule (R487, R488). -/
theorem imgOk_iff (s : State) (k : Fin 2) (sig : Bool) : imgOk s k sig = true ↔
    imgW s k 0 = 0x4E4D4449 ∧ imgW s k 4 = 1 ∧ imgW s k 8 % 4 = 0 ∧ imgW s k 8 ≤ 0x2FFFC0 ∧
      imgW s k 0x10 + imgW s k 0x14 ≤ imgW s k 8 ∧ imgW s k 0x14 ≤ 524288 ∧
      imgW s k 0x1C + imgW s k 0x20 ≤ imgW s k 8 ∧ imgW s k 0x20 ≤ 65536 ∧ imgW s k 0x24 + imgW s k 0x28 ≤ imgW s k 8 ∧
      imgW s k 0x30 ≤ Config.siliconRev.toNat ∧
      ((imgW s k 0x2C = 0 ∧ s.fuse.portiel = false) ∨ (imgW s k 0x2C = 1 ∧ s.fuse.cust = true)) ∧ sig = true := by
  have hkey : imgKeyOk s k = true ↔ (imgW s k 0x2C = 0 ∧ s.fuse.portiel = false) ∨ (imgW s k 0x2C = 1 ∧ s.fuse.cust = true) := by
    unfold imgKeyOk
    split
    · next h => simp [h]
    · next h => simp [h]
  have hlast : imgW s k 0x28 ≤ 0xFFFFFFFF := Nat.le_of_lt_succ (BitVec.isLt _)
  simp only [imgOk, sectionOk, Bool.and_eq_true, decide_eq_true_eq, hkey, hlast, and_true, and_assoc]

/-! ## A slot booted (R490) -/

/-- A slot of one state has been booted in the other. -/
structure SlotBooted (k : Fin 2) (src : Nat) (s t : State) : Prop where
  image : t.boot.image = true
  slot : t.f Fld.SYS_BOOT_SLOT = k.val
  src : t.f Fld.SYS_BOOT_SRC = src
  key : t.f Fld.SYS_BOOT_KEY_ID = imgW s k 0x2C
  ver : t.rd .SYS_BOOT_VER = s.memW (imgBase k + 0xC)
  regs : s.keeps t [.SYS_BOOT, .SYS_BOOT_VER]
  section_ : ∀ x, x < imgW s k 0x14 → memGet t.mem (0x08000000 + x) = memGet s.mem (imgBase k + imgW s k 0x10 + x) ∧
    memGet t.chk (0x08000000 + x) = memGet s.mem (imgBase k + imgW s k 0x10 + x)
  outside : ∀ x, x < 0x08000000 ∨ 0x08000000 + imgW s k 0x14 ≤ x → memGet t.mem x = memGet s.mem x ∧ memGet t.chk x = memGet s.chk x

theorem bootSlot_booted (k : Fin 2) (src : Nat) (s : State) (hsrc : src < 4) (hn : imgW s k 0x14 ≤ 524288) (hkey : imgW s k 0x2C ≤ 1) :
    SlotBooted k src s (bootSlot k src s) := by
  unfold bootSlot
  extract_lets a n brd s1 s2
  have hout : ∀ x, x < 0x08000000 ∨ 0x08000000 + imgW s k 0x14 ≤ x → memGet s1.mem x = memGet s.mem x ∧ memGet s1.chk x = memGet s.chk x :=
    fun x hx => ⟨memGet_memInto_out _ _ _ _ _ _ hx, memGet_memInto_out _ _ _ _ _ _ hx⟩
  have hword : ∀ off, s2.memW (imgBase k + off) = s.memW (imgBase k + off) := fun off =>
    memWord_congr (m := s.mem) (m' := s1.mem) fun b h1 h2 => (hout b (.inr (by simp only [imgBase] at h1; omega))).1
  have hid : imgW s2 k 0x2C = imgW s k 0x2C := congrArg BitVec.toNat (hword _)
  have hboot : ∀ F : RF, F.reg = .SYS_BOOT → (((s2.setF Fld.SYS_BOOT_KEY_ID (imgW s2 k 0x2C)).wr .SYS_BOOT_VER (s2.memW (imgBase k + 0xC))).f F =
      (s2.setF Fld.SYS_BOOT_KEY_ID (imgW s2 k 0x2C)).f F) := fun F hF => f_congr F (rd_wr_ne _ _ _ _ (by rw [hF]; decide))
  refine ⟨rfl, ?_, ?_, ?_, ?_, fun r hr => ?_, fun x hx => ?_, hout⟩
  · rw [hboot _ rfl, f_setF_beside _ Fld.SYS_BOOT_KEY_ID Fld.SYS_BOOT_SLOT _ rfl (by decide) (by decide),
      f_setF_beside _ Fld.SYS_BOOT_SRC Fld.SYS_BOOT_SLOT _ rfl (by decide) (by decide)]
    exact (f_setF _ _ _ (by decide)).trans (Nat.mod_eq_of_lt k.isLt)
  · rw [hboot _ rfl, f_setF_beside _ Fld.SYS_BOOT_KEY_ID Fld.SYS_BOOT_SRC _ rfl (by decide) (by decide)]
    exact (f_setF _ _ _ (by decide)).trans (Nat.mod_eq_of_lt hsrc)
  · rw [hboot _ rfl, hid]
    exact (f_setF _ _ _ (by decide)).trans (Nat.mod_eq_of_lt (Nat.lt_succ_of_le hkey))
  · exact (rd_wr _ _ _).trans (hword _)
  · simp only [List.mem_cons, List.not_mem_nil, or_false, not_or] at hr
    exact (rd_wr_ne _ _ _ _ hr.2).trans ((rd_setF_ne _ Fld.SYS_BOOT_KEY_ID _ _ hr.1).trans ((rd_setF_ne _ Fld.SYS_BOOT_SRC _ _ hr.1).trans
      (rd_setF_ne s1 Fld.SYS_BOOT_SLOT _ _ hr.1)))
  · exact ⟨memGet_memInto_in s.mem s.mem a 0x08000000 n x hx, memGet_memInto_in s.mem s.chk a 0x08000000 n x hx⟩

/-- A valid slot keeps the limits that its copy needs. -/
theorem imgOk_limits {s : State} {k : Fin 2} {sig : Bool} (h : imgOk s k sig = true) : imgW s k 0x14 ≤ 524288 ∧ imgW s k 0x2C ≤ 1 := by
  obtain ⟨-, -, -, -, -, hn, -, -, -, -, hkey, -⟩ := (imgOk_iff s k sig).mp h
  exact ⟨hn, by rcases hkey with ⟨h, -⟩ | ⟨h, -⟩ <;> omega⟩

/-! ## The host port, and no image (R490) -/

theorem serveHost_shows (s : State) : (serveHost s).flag Fld.MBX_CTL_UP = true ∧ (serveHost s).f Fld.MBX_SLOTS_GRANTED = 255 ∧
    s.keeps (serveHost s) [.MBX_CTL, .MBX_SLOTS] ∧ s.keepsMem (serveHost s) := by
  unfold serveHost
  refine ⟨?_, f_setF _ _ _ (by decide), fun r hr => ?_, rfl, rfl⟩
  · rw [flag_congr (s := s.setF Fld.MBX_CTL_UP 1) _ (rd_setF_ne _ Fld.MBX_SLOTS_GRANTED _ _ (by decide)), State.flag, f_setF _ _ _ (by decide)]
    rfl
  · simp only [List.mem_cons, List.not_mem_nil, or_false, not_or] at hr
    exact (rd_setF_ne _ Fld.MBX_SLOTS_GRANTED _ _ hr.2).trans (rd_setF_ne s Fld.MBX_CTL_UP _ _ hr.1)

/-! ## IMAGE_VERIFIED -/

/-- The conditions under which the boot ROM judges the slots. -/
structure BootRom (s : State) : Prop where
  dev : s.dev = devBoot
  pll : s.boot.pll = true
  image : s.boot.image = false
  strap : s.f Fld.SYS_STRAP_BOOT ≠ 1
  up : s.flag Fld.MBX_CTL_UP = false

/-- The state that the boot ROM has left by the time it takes a slot: a corrupt boot record has recorded 0xA10A. -/
def recordJudged (s : State) : State := if recordOk s then s else recordFault 0xA10A s

theorem recordJudged_recorded (s : State) (h : s.dsgRun = false) : Recorded s (recordJudged s) := by
  unfold recordJudged
  split
  · exact .refl s
  · rw [recordFault_eq_recordCore _ _ (by decide) (by decide) h]
    exact recordCore_recorded _ _

theorem recordJudged_new (s : State) (h : s.dsgRun = false) (hr : recordOk s = false) : (recordJudged s).flag Fld.SYS_STATUS_FAULT_NEW = true := by
  rw [recordJudged, hr, if_neg (by simp), recordFault_eq_recordCore _ _ (by decide) (by decide) h]
  exact flag_faultNew_recordCore _ _ (by decide)

theorem exec_imageVerified (sig : BitVec 2) (s : State) (h : BootRom s) (hd : s.dsgRun = false) : exec (.imageVerified sig) s = .next (
    let a := activeSlot s
    if imgOk s a (sig.getLsbD a.val) then bootSlot a 0 (recordJudged s)
    else if imgOk s (1 - a) (sig.getLsbD (1 - a).val) then bootSlot (1 - a) 1 (recordFault 0xA101 (recordJudged s))
    else noImage (recordJudged s)) := by
  have hrec := recordJudged_recorded s hd
  have hactive : activeSlot (recordJudged s) = activeSlot s := by
    unfold activeSlot recordOk
    rw [hrec.memW_ferro bootRecord (by decide), hrec.memW_ferro (bootRecord + 4) (by decide)]
  have hgo : (s.dev != devBoot || !s.boot.pll || s.boot.image || s.f Fld.SYS_STRAP_BOOT = 1 || s.flag Fld.MBX_CTL_UP) = false := by
    simp [h.dev, h.pll, h.image, h.strap, h.up]
  have hexec : exec (.imageVerified sig) s = .next (
      let u := recordJudged s
      let a := activeSlot u
      if imgOk u a (sig.getLsbD a.val) then bootSlot a 0 u
      else if imgOk u (1 - a) (sig.getLsbD (1 - a).val) then bootSlot (1 - a) 1 (recordFault 0xA101 u)
      else noImage u) := congrArg Host.Outcome.next (if_neg (by rw [hgo]; simp))
  simp only [hexec, hactive, hrec.imgOk]

/-! ## The agent, and the configuration lock -/

theorem wGet_vbase (w : Word) : wGet (w &&& 0xFFFFFF00#32) 0 8 = 0 := by
  have hmask : ∀ i : Fin 8, (0xFFFFFF00#32).getLsbD i.val = false := by decide
  apply Nat.eq_of_testBit_eq
  intro i
  rw [testBit_wGet, Nat.zero_testBit]
  by_cases hi : i < 8
  · simp [hmask ⟨i, hi⟩]
  · simp [hi]

/-- AGENT_START before the device state changes: Kenow at the entry point. -/
def agentReady (s : State) : State :=
  let pc := s.memW (imgBase (if s.flag Fld.SYS_BOOT_SLOT then 1 else 0) + 0x18)
  { s with free := s.free + 1
           ken := { s.ken with lead := { s.ken.lead with pc := pc }, chk := { s.ken.chk with pc := pc },
                               vbase := Config.freeWord s.free &&& 0xFFFFFF00#32 }
           boot := { s.boot with agent := true } }

theorem exec_agentStart (s : State) : exec .agentStart s = .next (
    if s.dev = devBoot && s.boot.pads = .passed && s.flag Fld.HLM_STATUS_RESTORED && s.boot.image then setDev devConfig (agentReady s) else s) := rfl

theorem setDev_room (d : Nat) (s : State) (rs : List Reg) (h : s.mbx.evq.length < 64) (hrs : ∀ r, r ∉ rs → r ∉ [Reg.SYS_STATE, .SYS_STATUS]) :
    s.keeps (setDev d s) rs ∧ s.keepsMem (setDev d s) :=
  ⟨fun r hr => (setDev_announced d s h).regs r (hrs r hr), (setDev_announced d s h).mem⟩

theorem configLock_ok (s : State) (hd : s.dev = devConfig) (hl : s.locked = false) :
    (configLock 0x4C4B#16 s).locked = true ∧ { configLock 0x4C4B#16 s with regs := s.regs, free := s.free } = s ∧
      s.keeps (configLock 0x4C4B#16 s) [.SYS_STATE, .QNC_CRC] ∧ (configLock 0x4C4B#16 s).dev = s.dev := by
  have heq : configLock 0x4C4B#16 s =
      ({ s.setF Fld.SYS_STATE_CFG_LOCKED 1 with free := s.free + 1 } : State).wr .QNC_CRC (Config.freeWord s.free) := by
    unfold configLock
    rw [if_pos (by simp [hd, hl])]
    rfl
  rw [heq]
  refine ⟨?_, rfl, fun r hr => ?_, ?_⟩
  · have hflag : (s.setF Fld.SYS_STATE_CFG_LOCKED 1).flag Fld.SYS_STATE_CFG_LOCKED = true := by
      rw [State.flag, f_setF _ _ _ (by decide)]; rfl
    exact (flag_congr Fld.SYS_STATE_CFG_LOCKED (rd_wr_ne _ .QNC_CRC .SYS_STATE _ (by decide))).trans hflag
  · simp only [List.mem_cons, List.not_mem_nil, or_false, not_or] at hr
    exact (rd_wr_ne _ .QNC_CRC r _ hr.2).trans (rd_setF_ne s Fld.SYS_STATE_CFG_LOCKED 1 r hr.1)
  · exact (dev_congr (rd_wr_ne _ .QNC_CRC .SYS_STATE _ (by decide))).trans
      (f_setF_beside s Fld.SYS_STATE_CFG_LOCKED Fld.SYS_STATE_DEV_STATE 1 rfl (by decide) (by decide))

theorem configLock_no (key : BitVec 16) (s : State) (h : ¬ (key = 0x4C4B#16 ∧ s.dev = devConfig ∧ s.locked = false)) :
    configLock key s = refused s := if_neg (by simpa [and_assoc] using h)

/-! ## Fuse operations (R494) -/

theorem fuseOk_iff (op : Nat) (s : State) : fuseOk op s = true ↔ s.dev = devConfig ∧ s.locked = false ∧ s.fuse.flock = false ∧ s.fuse.op = none ∧
    (op = 1 → s.fuse.cust = false) ∧ (op = 2 → s.fuse.cust = true) := by
  have hop : (if op = 1 then !s.fuse.cust else if op = 2 then s.fuse.cust else true) = true ↔
      (op = 1 → s.fuse.cust = false) ∧ (op = 2 → s.fuse.cust = true) := by
    by_cases h1 : op = 1
    · simp [h1]
    · by_cases h2 : op = 2 <;> simp [h1, h2]
  simp only [fuseOk, Bool.and_eq_true, decide_eq_true_eq, Bool.not_eq_true', Option.isNone_iff_eq_none, hop, and_assoc]

/-- A fuse operation's command, with its number. -/
theorem exec_fuse {c : Instr} {key : BitVec 16} {op : Nat}
    (h : (c = .blowCustomerHash key ∧ op = 1) ∨ (c = .blowPortielDis key ∧ op = 2) ∨ (c = .blowFlock key ∧ op = 3)) (s : State) :
    exec c s = .next (agentTurn (fuseCmd op key) s) ∧ op ≠ 0 := by
  rcases h with ⟨rfl, rfl⟩ | ⟨rfl, rfl⟩ | ⟨rfl, rfl⟩
  · exact ⟨rfl, by decide⟩
  · exact ⟨rfl, by decide⟩
  · exact ⟨rfl, by decide⟩

/-- The operation that a command starts. -/
def fuseStarted (op : Nat) (s : State) : State :=
  { s.setF Fld.SYS_FUSE_BUSY 1 with
    fuse := { s.fuse with op := some (op, s.time), want := Vector.ofFn fun i => s.rd (.SYS_FUSE_HASH i) } }

theorem fuseCmd_eq (op : Nat) (key : BitVec 16) (s : State) (h0 : op ≠ 0) :
    fuseCmd op key s = if key ≠ 0xF05E#16 then s else if fuseOk op s then fuseStarted op s else refused s := by
  unfold fuseCmd
  by_cases hk : key = 0xF05E#16
  · simp only [hk, h0, bne_self_eq_false, decide_false, Bool.or_false, Bool.false_eq_true, ↓reduceIte, ne_eq, not_true_eq_false]
    rfl
  · simp [hk]

theorem fuseStarted_shows (op : Nat) (s : State) :
    (fuseStarted op s).flag Fld.SYS_FUSE_BUSY = true ∧ (fuseStarted op s).fuse.op = some (op, s.time) ∧
      (∀ i : Fin 8, (fuseStarted op s).fuse.want[i] = s.rd (.SYS_FUSE_HASH i)) ∧ (fuseStarted op s).fuse.hash = s.fuse.hash ∧
      { fuseStarted op s with regs := s.regs, fuse := s.fuse } = s ∧ s.keeps (fuseStarted op s) [.SYS_FUSE] := by
  refine ⟨?_, rfl, fun i => by simp [fuseStarted], rfl, rfl, 
    fun r hr => rd_setF_ne s Fld.SYS_FUSE_BUSY 1 r (by rintro rfl; exact hr (by decide))⟩
  have hflag : (s.setF Fld.SYS_FUSE_BUSY 1).flag Fld.SYS_FUSE_BUSY = true := by rw [State.flag, f_setF _ _ _ (by decide)]; rfl
  exact hflag

/-! ## The end of a fuse operation -/

/-- Bits that are blown stay blown, and only bits asked for are added. -/
def fuseWithin (s t : State) : Prop :=
  ∀ i : Fin 8, s.fuse.hash[i] &&& ~~~ t.fuse.hash[i] = 0#32 ∧ t.fuse.hash[i] &&& ~~~(s.fuse.hash[i] ||| s.fuse.want[i]) = 0#32

theorem blown_within (h w m : Word) : h &&& ~~~(h ||| (w &&& m)) = 0#32 ∧ (h ||| (w &&& m)) &&& ~~~(h ||| w) = 0#32 := by
  constructor
  · refine BitVec.eq_of_getLsbD_eq fun i hi => ?_
    simp only [BitVec.getLsbD_and, BitVec.getLsbD_not, BitVec.getLsbD_or, hi, decide_true, Bool.true_and, BitVec.getLsbD_zero]
    cases h.getLsbD i <;> simp
  · refine BitVec.eq_of_getLsbD_eq fun i hi => ?_
    simp only [BitVec.getLsbD_and, BitVec.getLsbD_not, BitVec.getLsbD_or, hi, decide_true, Bool.true_and, BitVec.getLsbD_zero]
    cases h.getLsbD i <;> cases w.getLsbD i <;> simp

theorem word_within (h w : Word) : h &&& ~~~ h = 0#32 ∧ h &&& ~~~(h ||| w) = 0#32 := by
  simpa using blown_within h w 0#32

/-- A word of the hash blown at the bits of a mask. -/
def blowWord (s : State) (i : Fin 8) : State :=
  { s with free := s.free + 1
           fuse := { s.fuse with hash := vset s.fuse.hash i (s.fuse.hash[i] ||| (s.fuse.want[i] &&& Config.freeWord s.free)) } }

theorem fusePartial_eq (s : State) : fusePartial s = (List.finRange 8).foldl blowWord s := rfl

/-- A loop over distinct words of the hash changes the hash and the count of free values alone, each word within what was asked. -/
theorem foldl_blowWord (l : List (Fin 8)) (hl : l.Nodup) (s : State) :
    ∃ n h, l.foldl blowWord s = { s with free := n, fuse := { s.fuse with hash := h } } ∧
      ∀ i : Fin 8, (i ∈ l → ∃ m, h[i] = s.fuse.hash[i] ||| (s.fuse.want[i] &&& m)) ∧ (i ∉ l → h[i] = s.fuse.hash[i]) := by
  induction l generalizing s with
  | nil => exact ⟨s.free, s.fuse.hash, rfl, fun i => ⟨fun h => absurd h (by simp), fun _ => rfl⟩⟩
  | cons j l ih =>
    obtain ⟨hj, hl⟩ := List.nodup_cons.mp hl
    obtain ⟨n, h, heq, hwords⟩ := ih hl (blowWord s j)
    refine ⟨n, h, heq, fun i => ?_⟩
    have hset : (blowWord s j).fuse.hash[i] = if i = j then s.fuse.hash[j] ||| (s.fuse.want[j] &&& Config.freeWord s.free) else s.fuse.hash[i] := by
      simp only [blowWord, vset, Fin.getElem_fin, Vector.getElem_set, Fin.ext_iff, eq_comm]
    by_cases hij : i = j
    · subst hij
      refine ⟨fun _ => ⟨Config.freeWord s.free, ?_⟩, fun hno => absurd (by simp) hno⟩
      rw [(hwords i).2 hj, hset, if_pos rfl]
    · rw [if_neg hij] at hset
      refine ⟨fun hm => ?_, fun hno => ?_⟩
      · obtain ⟨m, hm⟩ := (hwords i).1 ((List.mem_cons.mp hm).resolve_left hij)
        exact ⟨m, by rw [hm, hset]; rfl⟩
      · rw [(hwords i).2 (fun h => hno (by simp [h])), hset]

/-- What an operation leaves: the fuse record and the count of free values alone differ. -/
structure FuseResult (op : Nat) (ok : Bool) (s t : State) (good : Bool) : Prop where
  rest : { t with free := s.free, fuse := s.fuse } = s
  within : fuseWithin s t
  hash : ok = true → op = 1 → t.fuse.cust = true ∧ ∀ i : Fin 8, t.fuse.hash[i] = s.fuse.hash[i] ||| s.fuse.want[i]
  portiel : ok = true → op = 2 → t.fuse = { s.fuse with portiel := true }
  flock : ok = true → op = 3 → t.fuse = { s.fuse with flock := true }
  good : good = true ↔ ok = true ∧ (op = 1 → ∀ i : Fin 8, s.fuse.hash[i] ||| s.fuse.want[i] = s.fuse.want[i])

theorem fuseResult_shows (op : Nat) (ok : Bool) (s : State) (h1 : 1 ≤ op) (h3 : op ≤ 3) :
    FuseResult op ok s (fuseResult op ok s).1 (fuseResult op ok s).2 := by
  unfold fuseResult
  by_cases hop : op = 1
  · subst hop
    rw [if_pos rfl]
    cases ok
    · obtain ⟨n, h, heq, hwords⟩ := foldl_blowWord (List.finRange 8) (List.nodup_finRange 8) s
      rw [if_neg (by simp), fusePartial_eq, heq]
      refine ⟨rfl, fun i => ?_, by simp, by simp, by simp, by simp⟩
      obtain ⟨m, hm⟩ := (hwords i).1 (List.mem_finRange i)
      have := blown_within s.fuse.hash[i] s.fuse.want[i] m
      rw [← hm] at this
      exact this
    · rw [if_pos rfl]
      have hhash : ∀ i : Fin 8, (blowHash s).fuse.hash[i] = s.fuse.hash[i] ||| s.fuse.want[i] := fun i => by simp [blowHash]
      refine ⟨rfl, fun i => ?_, fun _ _ => ⟨rfl, hhash⟩, by simp, by simp, ?_⟩
      · have := blown_within s.fuse.hash[i] s.fuse.want[i] (BitVec.allOnes 32)
        rw [BitVec.and_allOnes] at this
        change s.fuse.hash[i] &&& ~~~ (blowHash s).fuse.hash[i] = 0#32 ∧ (blowHash s).fuse.hash[i] &&& ~~~(s.fuse.hash[i] ||| s.fuse.want[i]) = 0#32
        rwa [hhash i]
      · have hvec : (blowHash s).fuse.hash = (blowHash s).fuse.want ↔ ∀ i : Fin 8, (blowHash s).fuse.hash[i] = s.fuse.want[i] :=
          ⟨fun e i => by rw [e]; rfl, fun e => Vector.ext fun i hi => e ⟨i, hi⟩⟩
        simp only [Bool.true_and, decide_eq_true_eq, true_and, forall_const, hvec, hhash]
  · rw [if_neg hop]
    cases ok
    · exact ⟨rfl, fun i => word_within _ _, by simp, by simp, by simp, by simp⟩
    · refine ⟨rfl, fun i => word_within _ _, fun _ h => absurd h hop, fun _ h => ?_, fun _ h => ?_, by simp [hop]⟩
      · subst h; simp
      · subst h; simp

/-- SYS_FUSE as a finished operation leaves it. -/
def fuseBits (u : State) : State :=
  (((({ u with fuse := { u.fuse with op := none } } : State).setF Fld.SYS_FUSE_BUSY 0).setF Fld.SYS_FUSE_CUST_EN (bit u.fuse.cust)).setF
    Fld.SYS_FUSE_PORTIEL_DIS (bit u.fuse.portiel)).setF Fld.SYS_FUSE_FLOCK (bit u.fuse.flock)

/-- The registers of the fuses as a finished operation leaves them. -/
def fuseShown (u : State) : State :=
  if u.fuse.cust then (List.finRange 8).foldl (fun s i => s.wr (.SYS_FUSE_HASH i) s.fuse.hash[i]) (fuseBits u) else fuseBits u

theorem exec_fuseDone (ok : Bool) (s : State) (op t0 : Nat) (h : s.fuse.op = some (op, t0)) : exec (.fuseOperationDone ok) s = .next (
    let p := fuseResult op ok s
    if p.2 then fuseShown p.1 else recordFault 0xA108 ((fuseShown p.1).raise Fld.SYS_FUSE_PROG_ERR)) := by
  have hexec : exec (.fuseOperationDone ok) s = execFuseOperationDone ok s := rfl
  rw [hexec, execFuseOperationDone, h]
  rfl

theorem flag_bit {s : State} {F : RF} {b : Bool} (h : s.f F = bit b) : s.flag F = b := by rw [State.flag, h]; cases b <;> rfl

/-- The staged words written from the hash. -/
theorem foldl_hashWords (s : State) :
    ∃ r, (List.finRange 8).foldl (fun s (i : Fin 8) => s.wr (.SYS_FUSE_HASH i) s.fuse.hash[i]) s = { s with regs := r } ∧
      (∀ q, (∀ i, q ≠ .SYS_FUSE_HASH i) → ({ s with regs := r } : State).rd q = s.rd q) ∧
      ∀ i : Fin 8, ({ s with regs := r } : State).rd (.SYS_FUSE_HASH i) = s.fuse.hash[i] := by
  have hloop : ∀ (l : List (Fin 8)) (s : State),
      ∃ r, l.foldl (fun s (i : Fin 8) => s.wr (.SYS_FUSE_HASH i) s.fuse.hash[i]) s = { s with regs := r } ∧
        (∀ q, (∀ i, q ≠ .SYS_FUSE_HASH i) → ({ s with regs := r } : State).rd q = s.rd q) ∧
        ∀ i : Fin 8, (i ∈ l → ({ s with regs := r } : State).rd (.SYS_FUSE_HASH i) = s.fuse.hash[i]) ∧
          (i ∉ l → ({ s with regs := r } : State).rd (.SYS_FUSE_HASH i) = s.rd (.SYS_FUSE_HASH i)) := by
    intro l
    induction l with
    | nil => exact fun s => ⟨s.regs, rfl, fun _ _ => rfl, fun i => ⟨fun h => absurd h (by simp), fun _ => rfl⟩⟩
    | cons j l ih =>
      intro s
      obtain ⟨r, heq, hother, hwords⟩ := ih (s.wr (.SYS_FUSE_HASH j) s.fuse.hash[j])
      refine ⟨r, heq, fun q hq => (hother q hq).trans (rd_wr_ne _ _ _ _ (hq j)), fun i => ?_⟩
      by_cases hi : i ∈ l
      · exact ⟨fun _ => (hwords i).1 hi, fun hno => absurd (List.mem_cons_of_mem _ hi) hno⟩
      · have hnot := (hwords i).2 hi
        refine ⟨fun hm => ?_, fun hno => ?_⟩
        · obtain rfl : i = j := (List.mem_cons.mp hm).resolve_right hi
          exact hnot.trans (rd_wr _ _ _)
        · exact hnot.trans (rd_wr_ne _ _ _ _ fun e => hno (by rw [Reg.SYS_FUSE_HASH.inj e]; simp))
  obtain ⟨r, heq, hother, hwords⟩ := hloop (List.finRange 8) s
  exact ⟨r, heq, hother, fun i => (hwords i).1 (List.mem_finRange i)⟩

/-- What the registers show once an operation has ended. -/
structure FuseShown (u t : State) : Prop where
  rest : { t with regs := u.regs, fuse := u.fuse } = u
  fuse : t.fuse = { u.fuse with op := none }
  busy : t.flag Fld.SYS_FUSE_BUSY = false
  cust : t.flag Fld.SYS_FUSE_CUST_EN = u.fuse.cust
  portiel : t.flag Fld.SYS_FUSE_PORTIEL_DIS = u.fuse.portiel
  flock : t.flag Fld.SYS_FUSE_FLOCK = u.fuse.flock
  words : u.fuse.cust = true → ∀ i : Fin 8, t.rd (.SYS_FUSE_HASH i) = u.fuse.hash[i]
  regs : u.keeps t (.SYS_FUSE :: (List.finRange 8).map .SYS_FUSE_HASH)

theorem fuseShown_shows (u : State) : FuseShown u (fuseShown u) := by
  have hbusy : (fuseBits u).flag Fld.SYS_FUSE_BUSY = false := by
    refine flag_bit (b := false) ?_
    rw [fuseBits, f_setF_beside _ Fld.SYS_FUSE_FLOCK Fld.SYS_FUSE_BUSY _ rfl (by decide) (by decide),
      f_setF_beside _ Fld.SYS_FUSE_PORTIEL_DIS Fld.SYS_FUSE_BUSY _ rfl (by decide) (by decide),
      f_setF_beside _ Fld.SYS_FUSE_CUST_EN Fld.SYS_FUSE_BUSY _ rfl (by decide) (by decide)]
    exact f_setF _ _ _ (by decide)
  have hbit : ∀ b : Bool, bit b % 2 ^ 1 = bit b := by decide
  have hcust : (fuseBits u).flag Fld.SYS_FUSE_CUST_EN = u.fuse.cust := by
    refine flag_bit ?_
    rw [fuseBits, f_setF_beside _ Fld.SYS_FUSE_FLOCK Fld.SYS_FUSE_CUST_EN _ rfl (by decide) (by decide),
      f_setF_beside _ Fld.SYS_FUSE_PORTIEL_DIS Fld.SYS_FUSE_CUST_EN _ rfl (by decide) (by decide)]
    exact (f_setF _ _ _ (by decide)).trans (hbit _)
  have hportiel : (fuseBits u).flag Fld.SYS_FUSE_PORTIEL_DIS = u.fuse.portiel := by
    refine flag_bit ?_
    rw [fuseBits, f_setF_beside _ Fld.SYS_FUSE_FLOCK Fld.SYS_FUSE_PORTIEL_DIS _ rfl (by decide) (by decide)]
    exact (f_setF _ _ _ (by decide)).trans (hbit _)
  have hflock : (fuseBits u).flag Fld.SYS_FUSE_FLOCK = u.fuse.flock := flag_bit ((f_setF _ Fld.SYS_FUSE_FLOCK _ (by decide)).trans (hbit _))
  have hkeep : ∀ q, q ≠ .SYS_FUSE → (fuseBits u).rd q = u.rd q := fun q hq =>
    (rd_setF_ne _ Fld.SYS_FUSE_FLOCK _ _ hq).trans ((rd_setF_ne _ Fld.SYS_FUSE_PORTIEL_DIS _ _ hq).trans
      ((rd_setF_ne _ Fld.SYS_FUSE_CUST_EN _ _ hq).trans (rd_setF_ne _ Fld.SYS_FUSE_BUSY _ _ hq)))
  have hlist : ∀ q, q ∉ Reg.SYS_FUSE :: (List.finRange 8).map .SYS_FUSE_HASH → q ≠ .SYS_FUSE ∧ ∀ i, q ≠ .SYS_FUSE_HASH i := fun q hq =>
    ⟨fun e => hq (by simp [e]), fun i e => hq (by simp [e])⟩
  unfold fuseShown
  split
  · obtain ⟨r, heq, hother, hwords⟩ := foldl_hashWords (fuseBits u)
    rw [heq]
    have hfuse : ({ fuseBits u with regs := r } : State).rd .SYS_FUSE = (fuseBits u).rd .SYS_FUSE := hother _ (by simp)
    exact ⟨rfl, rfl, (flag_congr Fld.SYS_FUSE_BUSY hfuse).trans hbusy, (flag_congr Fld.SYS_FUSE_CUST_EN hfuse).trans hcust,
      (flag_congr Fld.SYS_FUSE_PORTIEL_DIS hfuse).trans hportiel, (flag_congr Fld.SYS_FUSE_FLOCK hfuse).trans hflock, fun _ i => hwords i,
      fun q hq => (hother q (hlist q hq).2).trans (hkeep q (hlist q hq).1)⟩
  · next hno =>
    exact ⟨rfl, rfl, hbusy, hcust, hportiel, hflock, fun hc => absurd hc hno, fun q hq => hkeep q (hlist q hq).1⟩

end Sys2Proof.Machine
end

section
/-! PROOF. O60, put together. -/

namespace Sys2Proof.Machine

open Sys2Proof

/-! ## The four ends of IMAGE_VERIFIED -/

/-- What the statement says of a booted slot. -/
theorem SlotBooted.says {k : Fin 2} {src : Nat} {s u t : State} (hrec : Recorded s u) (h : SlotBooted k src u t) (hd : s.dev = devBoot) :
    let base := 0x20000000 + 0x300000 * k.val
    let from_ := base + (s.memW (base + 0x10)).toNat
    let n := (s.memW (base + 0x14)).toNat
    t.boot.image = true ∧ t.f Fld.SYS_BOOT_SLOT = k.val ∧ t.f Fld.SYS_BOOT_SRC = src ∧ t.f Fld.SYS_BOOT_KEY_ID = (s.memW (base + 0x2C)).toNat ∧
    t.rd .SYS_BOOT_VER = s.memW (base + 0xC) ∧ t.dev = devBoot ∧
    (∀ x, x < n → memGet t.mem (0x08000000 + x) = memGet s.mem (from_ + x) ∧ memGet t.chk (0x08000000 + x) = memGet s.mem (from_ + x)) ∧
    ∀ x, x < 0x08000000 ∨ 0x08000000 + n ≤ x → (x < hlmLive ∨ hlmSnap + hlmLen ≤ x → memGet t.mem x = memGet s.mem x) ∧
      memGet t.chk x = memGet s.chk x := by
  intro base from_ n
  have hword : ∀ off, imgW u k off = (s.memW (base + off)).toNat := hrec.imgW k
  have hfrom : ∀ x, memGet u.mem (imgBase k + imgW u k 0x10 + x) = memGet s.mem (from_ + x) := fun x => by
    rw [hword]
    exact hrec.mem _ (.inr (by simp only [hlmSnap, hlmLen, imgBase]; omega))
  have hdev : t.dev = u.dev := dev_congr (h.regs _ (by decide))
  have hn : imgW u k 0x14 = n := hword _
  refine ⟨h.image, h.slot, h.src, h.key.trans (hword _), h.ver.trans (hrec.memW_ferro _ (by simp only [imgBase]; omega)),
    (hdev.trans hrec.dev).trans hd, fun x hx => ?_, fun x hx => ?_⟩
  · obtain ⟨hm, hc⟩ := h.section_ x (by rw [hn]; exact hx)
    exact ⟨hm.trans (hfrom x), hc.trans (hfrom x)⟩
  · obtain ⟨hm, hc⟩ := h.outside x (by rw [hn]; exact hx)
    exact ⟨fun hb => hm.trans (hrec.mem x hb), by rw [hc, hrec.chk]⟩

/-- The judged record, the fallback's code and the host's code are records alone. -/
theorem recordFault_recorded (code : Nat) (s : State) (h3 : faultClass code ≠ 3) (h4 : faultClass code ≠ 4) (hd : s.dsgRun = false) :
    Recorded s (recordFault code s) := by
  rw [recordFault_eq_recordCore code s h3 h4 hd]
  exact recordCore_recorded code s

theorem flag_faultNew_recordFault (code : Nat) (s : State) (h3 : faultClass code ≠ 3) (h4 : faultClass code ≠ 4)
    (hn : faultClass (code % 2 ^ 16) ≠ 0) (hd : s.dsgRun = false) : (recordFault code s).flag Fld.SYS_STATUS_FAULT_NEW = true := by
  rw [recordFault_eq_recordCore code s h3 h4 hd]
  exact flag_faultNew_recordCore code s hn

/-- No slot is valid, and the boot source lets the host serve. -/
theorem noImage_serves (s : State) (hd : s.dsgRun = false) (hb : s.f Fld.SYS_STRAP_BOOT = 2) :
    (noImage s).flag Fld.MBX_CTL_UP = true ∧ (noImage s).f Fld.MBX_SLOTS_GRANTED = 255 ∧ (noImage s).dev = s.dev ∧
      (noImage s).flag Fld.SYS_STATUS_FAULT_NEW = true ∧ s.faultFrame (noImage s) [] := by
  have heq : noImage s = serveHost (recordFault 0xA103 s) := if_pos hb
  have hrec := recordFault_recorded 0xA103 s (by decide) (by decide) hd
  have hnew := flag_faultNew_recordFault 0xA103 s (by decide) (by decide) (by decide) hd
  obtain ⟨hup, hgranted, hkeep, hmem, hchk⟩ := serveHost_shows (recordFault 0xA103 s)
  obtain ⟨hout, hmem', hchk'⟩ := hrec.faultFrame []
  rw [heq]
  refine ⟨hup, hgranted, (dev_congr (hkeep _ (by decide))).trans hrec.dev,
    (flag_congr Fld.SYS_STATUS_FAULT_NEW (hkeep .SYS_STATUS (by decide))).trans hnew,
    fun r hr => (hkeep r ?_).trans (hout r hr), fun a ha => ?_, hchk.trans hchk'⟩
  · rintro hm
    simp only [List.mem_cons, List.not_mem_nil, or_false] at hm
    rcases hm with rfl | rfl <;> exact hr (by decide)
  · rw [hmem]; exact hmem' a ha

/-- No slot is valid, and there is no host to serve. -/
theorem noImage_fails (s : State) (hd : s.dsgRun = false) (hb : s.f Fld.SYS_STRAP_BOOT ≠ 2) :
    (noImage s).f Fld.SYS_BOOT_SRC = 3 ∧ (noImage s).dev = devFault ∧ (noImage s).flag Fld.SYS_STATUS_FAULT_NEW = true ∧
      s.faultFrame (noImage s) [0x4004, 0x4005, 0x4008, 0x400C] := by
  have heq : noImage s = recordFault 0xA404 (s.setF Fld.SYS_BOOT_SRC 3) := if_neg hb
  obtain ⟨hreact, hdev, hnew⟩ := recordFault_class4 0xA404 (s.setF Fld.SYS_BOOT_SRC 3) (by decide) (by decide)
    ((dsgRun_congr (rd_setF_ne _ _ _ _ (by decide))).trans hd)
  rw [heq]
  refine ⟨?_, hdev, hnew, fun r hr => ?_, hreact.mem, hreact.chk⟩
  · exact (f_congr Fld.SYS_BOOT_SRC (hreact.regs .SYS_BOOT rfl)).trans (f_setF s Fld.SYS_BOOT_SRC 3 (by decide))
  · have hfault : r.inFault = false := by
      by_contra hn
      have := Reg.block_of_inFault r (by simpa using hn)
      simp only [List.mem_cons, List.not_mem_nil, or_false, not_or] at this hr
      omega
    exact (hreact.regs r hfault).trans (rd_setF_ne s Fld.SYS_BOOT_SRC 3 r (by rintro rfl; exact hr (by decide)))

theorem recordOk_iff (s : State) : recordOk s = true ↔ s.memW 0x20600004 = ~~~ s.memW 0x20600000 := decide_eq_true_iff

theorem activeSlot_iff (s : State) : activeSlot s = 1 ↔ s.memW 0x20600004 = ~~~ s.memW 0x20600000 ∧ (s.memW 0x20600000).getLsbD 0 = true := by
  rw [← recordOk_iff, ← Bool.and_eq_true]
  change (if (recordOk s && (s.memW 0x20600000).getLsbD 0) = true then (1 : Fin 2) else 0) = 1 ↔ _
  split
  · next h => exact iff_of_true rfl h
  · next h => exact iff_of_false (by decide) h

/-! ## A fuse operation's end -/

theorem exec_fuseDone_none (ok : Bool) (s : State) (h : s.fuse.op = none) : exec (.fuseOperationDone ok) s = .next s := by
  have hexec : exec (.fuseOperationDone ok) s = execFuseOperationDone ok s := rfl
  rw [hexec, execFuseOperationDone, h]

theorem FuseShown.dev {u t : State} (h : FuseShown u t) : t.dev = u.dev := dev_congr (h.regs _ (by simp))

theorem FuseShown.keepsMem {u t : State} (h : FuseShown u t) : u.keepsMem t :=
  ⟨(congrArg State.mem h.rest :), (congrArg State.chk h.rest :)⟩

theorem FuseShown.frame {u t : State} (h : FuseShown u t) : u.faultFrame t [] := by
  refine ⟨fun r hr => h.regs r fun hm => ?_, fun a _ => by rw [h.keepsMem.1], h.keepsMem.2⟩
  rcases List.mem_cons.mp hm with rfl | hm
  · exact hr (by decide)
  · obtain ⟨i, -, rfl⟩ := List.mem_map.mp hm
    have := i.isLt
    exact hr (by simp only [Reg.addr, List.mem_cons]; omega)

/-- A mismatch: PROG_ERR and 0xA108 beside what the registers show. -/
theorem fuseMismatch (u t : State) (h : FuseShown u t) (hd : t.dsgRun = false) :
    let v := recordFault 0xA108 (t.raise Fld.SYS_FUSE_PROG_ERR)
    v.fuse = t.fuse ∧ (∀ F : RF, F.reg = .SYS_FUSE → F.lo + F.width ≤ 9 → v.flag F = t.flag F) ∧
      (∀ i, v.rd (.SYS_FUSE_HASH i) = t.rd (.SYS_FUSE_HASH i)) ∧ v.dev = t.dev ∧ v.flag Fld.SYS_FUSE_PROG_ERR = true ∧
      v.flag Fld.SYS_STATUS_FAULT_NEW = true ∧ u.faultFrame v [] := by
  intro v
  have hd' : (t.raise Fld.SYS_FUSE_PROG_ERR).dsgRun = false := (dsgRun_congr (rd_raise_ne _ _ _ (by decide))).trans hd
  have hrec : Recorded (t.raise Fld.SYS_FUSE_PROG_ERR) v := recordFault_recorded 0xA108 _ (by decide) (by decide) hd'
  have hreg : v.rd .SYS_FUSE = (t.raise Fld.SYS_FUSE_PROG_ERR).rd .SYS_FUSE := hrec.regs _ rfl
  obtain ⟨hout, hmem, hchk⟩ := h.frame
  obtain ⟨hout', hmem', hchk'⟩ := hrec.faultFrame []
  refine ⟨hrec.fuse, fun F hF hw => ?_, fun i => (hrec.regs _ rfl).trans (rd_raise_ne _ _ _ (by simp [Fld.SYS_FUSE_PROG_ERR])), ?_, ?_, ?_, ?_⟩
  · have hf : v.f F = t.f F := (f_congr F (by rw [hF]; exact hreg)).trans
      (f_raise_beside t Fld.SYS_FUSE_PROG_ERR F hF (by omega) (.inl hw))
    rw [State.flag, hf]; rfl
  · exact hrec.dev.trans (dev_congr (rd_raise_ne _ _ _ (by decide)))
  · exact (flag_congr Fld.SYS_FUSE_PROG_ERR hreg).trans (by rw [State.flag, f_raise _ _ (by decide)]; rfl)
  · exact flag_faultNew_recordFault 0xA108 _ (by decide) (by decide) (by decide) hd'
  · refine ⟨fun r hr => (hout' r hr).trans ((rd_raise_ne t Fld.SYS_FUSE_PROG_ERR r ?_).trans (hout r hr)), fun a ha => (hmem' a ha).trans (hmem a ha),
      hchk'.trans hchk⟩
    rintro rfl
    exact hr (by decide)

/-- What the statement says of every end of a fuse operation. -/
structure FuseEnded (op : Nat) (ok : Bool) (s t : State) : Prop where
  idle : t.fuse.op = none
  busy : t.flag Fld.SYS_FUSE_BUSY = false
  cust : t.flag Fld.SYS_FUSE_CUST_EN = t.fuse.cust
  portiel : t.flag Fld.SYS_FUSE_PORTIEL_DIS = t.fuse.portiel
  flock : t.flag Fld.SYS_FUSE_FLOCK = t.fuse.flock
  within : fuseWithin s t
  asked : ok = true → (op = 1 → t.fuse.cust = true ∧ ∀ i : Fin 8, t.fuse.hash[i] = s.fuse.hash[i] ||| s.fuse.want[i]) ∧
    (op = 2 → t.fuse = { s.fuse with op := none, portiel := true }) ∧ (op = 3 → t.fuse = { s.fuse with op := none, flock := true })
  words : t.fuse.cust = true → ∀ i : Fin 8, t.rd (.SYS_FUSE_HASH i) = t.fuse.hash[i]
  dev : t.dev = s.dev

theorem FuseResult.regs {op : Nat} {ok : Bool} {s u : State} {g : Bool} (h : FuseResult op ok s u g) : u.regs = s.regs ∧ u.mem = s.mem ∧ u.chk = s.chk :=
  ⟨(congrArg State.regs h.rest :), (congrArg State.mem h.rest :), (congrArg State.chk h.rest :)⟩

theorem FuseResult.rd {op : Nat} {ok : Bool} {s u : State} {g : Bool} (h : FuseResult op ok s u g) (r : Reg) : u.rd r = s.rd r := by
  simp only [State.rd, h.regs.1]

theorem FuseEnded.of_shown {op : Nat} {ok : Bool} {s u t : State} {g : Bool} (hres : FuseResult op ok s u g) (h : FuseShown u t) :
    FuseEnded op ok s t where
  idle := by rw [h.fuse]
  busy := h.busy
  cust := by rw [h.fuse]; exact h.cust
  portiel := by rw [h.fuse]; exact h.portiel
  flock := by rw [h.fuse]; exact h.flock
  within := by intro i; rw [h.fuse]; exact hres.within i
  asked ho := by
    rw [h.fuse]
    exact ⟨hres.hash ho, fun h2 => by rw [hres.portiel ho h2], fun h3 => by rw [hres.flock ho h3]⟩
  words := by rw [h.fuse]; exact h.words
  dev := h.dev.trans (dev_congr (hres.rd _))

/-- PROG_ERR and a code recorded leave the rest as it was shown. -/
theorem FuseEnded.of_mismatch {op : Nat} {ok : Bool} {s t v : State} (h : FuseEnded op ok s t) (hf : v.fuse = t.fuse)
    (hflags : ∀ F : RF, F.reg = .SYS_FUSE → F.lo + F.width ≤ 9 → v.flag F = t.flag F)
    (hwords : ∀ i, v.rd (.SYS_FUSE_HASH i) = t.rd (.SYS_FUSE_HASH i)) (hdev : v.dev = t.dev) : FuseEnded op ok s v where
  idle := hf ▸ h.idle
  busy := (hflags _ rfl (by decide)).trans h.busy
  cust := by rw [hf]; exact (hflags _ rfl (by decide)).trans h.cust
  portiel := by rw [hf]; exact (hflags _ rfl (by decide)).trans h.portiel
  flock := by rw [hf]; exact (hflags _ rfl (by decide)).trans h.flock
  within := by intro i; rw [hf]; exact h.within i
  asked := by rw [hf]; exact h.asked
  words := by rw [hf]; exact fun hc i => (hwords i).trans (h.words hc i)
  dev := hdev.trans h.dev

/-- What the statement asks for at the end of a fuse operation. -/
theorem fuseDone_ends (ok : Bool) (s : State) (op t0 : Nat) (h : s.fuse.op = some (op, t0)) (h1 : 1 ≤ op) (h3 : op ≤ 3) (hd : s.dsgRun = false) :
    let good := ok = true ∧ (op = 1 → ∀ i : Fin 8, s.fuse.hash[i] ||| s.fuse.want[i] = s.fuse.want[i])
    gives (.fuseOperationDone ok) s fun t => FuseEnded op ok s t ∧
      (good → s.keeps t (.SYS_FUSE :: (List.finRange 8).map .SYS_FUSE_HASH) ∧ s.keepsMem t) ∧
      (¬ good → t.flag Fld.SYS_FUSE_PROG_ERR = true ∧ t.flag Fld.SYS_STATUS_FAULT_NEW = true ∧ s.faultFrame t []) := by
  intro good
  have hexec := exec_fuseDone ok s op t0 h
  have hres := fuseResult_shows op ok s h1 h3
  generalize fuseResult op ok s = p at hexec hres
  obtain ⟨u, g⟩ := p
  obtain ⟨-, hmem, hchk⟩ := hres.regs
  have hshown := fuseShown_shows u
  have hended := FuseEnded.of_shown hres hshown
  cases g with
  | true =>
    refine ⟨fuseShown u, hexec, hended, fun _ => ⟨fun r hr => (hshown.regs r hr).trans (hres.rd r), ?_, ?_⟩,
      fun hb => absurd (hres.good.mp rfl) hb⟩
    · exact hshown.keepsMem.1.trans hmem
    · exact hshown.keepsMem.2.trans hchk
  | false =>
    have hdsg : (fuseShown u).dsgRun = false := (dsgRun_congr ((hshown.regs _ (by simp)).trans (hres.rd _))).trans hd
    obtain ⟨hf, hflags, hwords, hdev, herr, hnew, hout, hm, hk⟩ := fuseMismatch u _ hshown hdsg
    refine ⟨_, hexec, hended.of_mismatch hf hflags hwords hdev, fun hg => ?_, fun _ => ⟨herr, hnew, ?_⟩⟩
    · exact absurd (hres.good.mpr hg) (by simp)
    · exact ⟨fun r hr => (hout r hr).trans (hres.rd r), fun a ha => (hm a ha).trans (by rw [hmem]), hk.trans hchk⟩

/-- Settles O60: each clause is one of the operations above, on the state that the record of the boot ROM's codes has left. -/
theorem bootConfigurationLockAndFuses : Obligations.BootConfigurationLockAndFuses := by
  unfold Obligations.BootConfigurationLockAndFuses
  refine ⟨fun s k sig => imgOk_iff s k sig, fun s hd => ⟨?_, ?_, ?_, ?_, ?_⟩⟩
  · intro sig hdev hpll himage hstrap hup sound ok blocks a ha booted
    have hrec := recordJudged_recorded s hd
    have hdj : (recordJudged s).dsgRun = false := (dsgRun_congr (hrec.regs _ rfl)).trans hd
    have hexec := exec_imageVerified sig s ⟨hdev, hpll, himage, hstrap, hup⟩ hd
    have hactive : activeSlot s = a := by
      have hiff := (activeSlot_iff s).trans ha.symm
      omega
    rw [hactive] at hexec
    have hsound : sound ↔ recordOk s = true := (recordOk_iff s).symm
    refine ⟨fun h => ?_, fun h ho => ?_, fun h ho hb => ?_, fun h ho hb => ?_⟩
    · have hlim := imgOk_limits ((hrec.imgOk a _).trans h)
      have hboot := bootSlot_booted a 0 (recordJudged s) (by decide) hlim.1 hlim.2
      refine ⟨_, hexec.trans (congrArg _ (if_pos h)), hboot.says hrec hdev, fun hs r hr => ?_, fun hs => ?_⟩
      · have hsame : recordJudged s = s := if_pos (hsound.mp hs)
        exact (hboot.regs r hr).trans (by rw [hsame])
      · exact (flag_congr Fld.SYS_STATUS_FAULT_NEW (hboot.regs .SYS_STATUS (by decide))).trans
          (recordJudged_new s hd (by rw [← Bool.not_eq_true, ← hsound]; exact hs))
    · have hrec' := hrec.trans (recordFault_recorded 0xA101 _ (by decide) (by decide) hdj)
      have hlim := imgOk_limits ((hrec'.imgOk (1 - a) _).trans ho)
      have hboot := bootSlot_booted (1 - a) 1 (recordFault 0xA101 (recordJudged s)) (by decide) hlim.1 hlim.2
      refine ⟨_, hexec.trans (congrArg _ ((if_neg h).trans (if_pos ho))), hboot.says hrec' hdev, ?_⟩
      exact (flag_congr Fld.SYS_STATUS_FAULT_NEW (hboot.regs .SYS_STATUS (by decide))).trans
        (flag_faultNew_recordFault _ _ (by decide) (by decide) (by decide) hdj)
    · obtain ⟨h1, h2, h3, h4, h5, h6, h7⟩ := noImage_serves (recordJudged s) hdj ((f_congr _ (hrec.regs .SYS_STRAP rfl)).trans hb)
      obtain ⟨h5', h6', h7'⟩ := hrec.faultFrame []
      exact ⟨_, hexec.trans (congrArg _ ((if_neg h).trans (if_neg ho))), h1, h2, (h3.trans hrec.dev).trans hdev, h4,
        fun r hr => (h5 r hr).trans (h5' r hr), fun x hx => (h6 x hx).trans (h6' x hx), h7.trans h7'⟩
    · obtain ⟨h1, h2, h3, h4, h5, h6⟩ := noImage_fails (recordJudged s) hdj (by rw [f_congr _ (hrec.regs .SYS_STRAP rfl)]; exact hb)
      obtain ⟨h4', h5', h6'⟩ := hrec.faultFrame [0x4004, 0x4005, 0x4008, 0x400C]
      exact ⟨_, hexec.trans (congrArg _ ((if_neg h).trans (if_neg ho))), h1, h2, h3,
        fun r hr => (h4 r hr).trans (h4' r hr), fun x hx => (h5 x hx).trans (h5' x hx), h6.trans h6'⟩
  · intro ready
    have hgo : (s.dev = devBoot && s.boot.pads = .passed && s.flag Fld.HLM_STATUS_RESTORED && s.boot.image) = true ↔ ready := by
      simp only [Bool.and_eq_true, decide_eq_true_eq, and_assoc]; exact Iff.rfl
    refine ⟨fun hr k hk => ?_, fun hn => (exec_agentStart s).trans (congrArg _ (if_neg fun hc => hn (hgo.mp hc)))⟩
    have hslot : (if s.flag Fld.SYS_BOOT_SLOT then 1 else 0 : Fin 2) = k := by
      have hbit : ∀ k : Fin 2, (if (k.val != 0) = true then 1 else 0 : Fin 2) = k := by decide
      rw [State.flag, ← hk]
      exact hbit k
    have hreact := setDev_inFault devConfig (agentReady s)
    have hken : (setDev devConfig (agentReady s)).ken = (agentReady s).ken := (congrArg State.ken hreact.rest :)
    have hboot : (setDev devConfig (agentReady s)).boot = (agentReady s).boot := (congrArg State.boot hreact.rest :)
    have hdev := dev_setDev devConfig (agentReady s) (by decide)
    have hentry : s.memW (imgBase (if s.flag Fld.SYS_BOOT_SLOT then 1 else 0) + 0x18) = s.memW (0x20000000 + 0x300000 * k.val + 0x18) := by
      rw [hslot]; rfl
    refine ⟨_, (exec_agentStart s).trans (congrArg _ (if_pos (hgo.mpr hr))), hdev, flag_stateChg_setDev _ _ ?_, ?_, ?_, ?_, ?_, fun hq => ?_⟩
    · have : (agentReady s).dev = devBoot := hr.1
      rw [this]; decide
    · rw [hken, ← hentry]; rfl
    · rw [hken, ← hentry]; rfl
    · rw [hken]; exact wGet_vbase _
    · have hup : faultN (setDev devConfig (agentReady s)) = decide ((setDev devConfig (agentReady s)).boot.hold = 0#3) := by
        simp [faultN, hdev, devBoot, devConfig, devFault]
      rw [hup, hboot]
      rfl
    · exact setDev_room devConfig (agentReady s) _ hq fun r hr => hr
  · intro key ok
    have hexec : exec (.configurationLock key) s = .next (agentTurn (configLock key) s) := rfl
    have hlocked : s.atWrite.locked = s.locked := flag_congr _ (rd_atWrite s _)
    refine ⟨fun ⟨hk, hdev, hl⟩ => writes_agentTurn hexec ?_, fun hn => writes_agentTurn hexec ?_⟩
    · rw [hk]
      exact configLock_ok s.atWrite ((atWrite_dev s).trans hdev) (hlocked.trans hl)
    · rw [configLock_no key s.atWrite (by rw [atWrite_dev, hlocked]; exact hn)]
      exact refused_shows s.atWrite
  · intro key c op hc allowed
    obtain ⟨hexec, hop⟩ := exec_fuse hc s
    have hlocked : s.atWrite.locked = s.locked := flag_congr _ (rd_atWrite s _)
    have hok : fuseOk op s.atWrite = true ↔ allowed := by
      rw [fuseOk_iff, atWrite_dev, hlocked, atWrite_fuse]
    refine ⟨fun hk => hexec.trans ?_, fun hk ha => writes_agentTurn hexec ?_, fun hk ha => writes_agentTurn hexec ?_⟩
    · rw [agentTurn, fuseCmd_eq op key _ hop, if_pos hk]
    · rw [fuseCmd_eq op key _ hop, if_neg (not_not.mpr hk), if_pos (hok.mpr ha)]
      exact fuseStarted_shows op s.atWrite
    · rw [fuseCmd_eq op key _ hop, if_neg (not_not.mpr hk), if_neg fun h => ha (hok.mp h)]
      exact refused_shows s.atWrite
  · intro ok
    refine ⟨exec_fuseDone_none ok s, fun op t0 h h1 h3 => ?_⟩
    obtain ⟨t, hexec, he, hgood, hbad⟩ := fuseDone_ends ok s op t0 h h1 h3 hd
    exact ⟨t, hexec, he.idle, he.busy, he.cust, he.portiel, he.flock, he.within, he.asked, he.words, he.dev, hgood, hbad⟩

end Sys2Proof.Machine
end

section
/-! SUPPORT. What an instruction moves: the copies of a pair's core, its issue state and device time, and the words of a PILUT that are due by
its issue. -/

namespace Sys2Proof.Machine

open Sys2Proof

/-! ## Pairs and copies -/

@[simp] theorem lp_modLp_same (s : State) (q : Fin 24) (f : LoopPair → LoopPair) : (s.modLp q f).lp q = f (s.lp q) := vmod_same _ _ _

theorem lp_modLp_ne (s : State) (p q : Fin 24) (f : LoopPair → LoopPair) (h : q ≠ p) : (s.modLp p f).lp q = s.lp q := vmod_ne _ _ _ _ h

theorem modLp_modLp (s : State) (q : Fin 24) (f g : LoopPair → LoopPair) : (s.modLp q f).modLp q g = s.modLp q fun l => g (f l) := by
  simp [State.modLp, vmod, vset]

@[simp] theorem loopPair_castSucc (q : Fin 24) : loopPair q.castSucc = some q := by simp [loopPair]

@[simp] theorem loopPair_kenow : loopPair 24 = none := rfl

theorem copyOf_castSucc (s : State) (q : Fin 24) (chk : Bool) : s.copyOf q.castSucc chk = if chk then (s.lp q).chk else (s.lp q).lead := by
  simp [State.copyOf]

theorem copyOf_kenow (s : State) (chk : Bool) : s.copyOf 24 chk = if chk then s.ken.chk else s.ken.lead := rfl

theorem modCopy_castSucc (s : State) (q : Fin 24) (chk : Bool) (f : Core → Core) :
    s.modCopy q.castSucc chk f = s.modLp q fun l => if chk then { l with chk := f l.chk } else { l with lead := f l.lead } := by
  simp [State.modCopy]

theorem copyOf_congr {s t : State} (hp : t.pair = s.pair) (hk : t.ken = s.ken) (p : Fin 25) (chk : Bool) : t.copyOf p chk = s.copyOf p chk := by
  simp only [State.copyOf, State.lp, hp, hk]

theorem castSucc_ne_kenow (q : Fin 24) : q.castSucc ≠ (24 : Fin 25) := Fin.ne_of_lt q.isLt

/-! ## The move of an instruction -/

/-- A loop pair whose copies and issue state have moved. -/
def LoopPair.moved (F : Bool → Core → Core) (g : Pipe → Pipe) (l : LoopPair) : LoopPair :=
  { l with lead := F false l.lead, chk := F true l.chk, pipe := g l.pipe }

/-- An engine core's instruction issued at cycle `T` that touches nothing but the copies. -/
def engineMove (q : Fin 24) (F : Bool → Core → Core) (g : Pipe → Pipe) (T : Nat) (u : State) : State := (u.advance T).modLp q (LoopPair.moved F g)

/-- A Kenow instruction that touches nothing but the copies. -/
def kenowMove (F : Bool → Core → Core) (u : State) : State :=
  { u with ken := { u.ken with lead := F false u.ken.lead, chk := F true u.ken.chk, wait := false } }

theorem lp_engineMove (q : Fin 24) (F : Bool → Core → Core) (g : Pipe → Pipe) (T : Nat) (u : State) :
    (engineMove q F g T u).lp q = (u.lp q).moved F g := lp_modLp_same _ _ _

@[simp] theorem rd_engineMove (q : Fin 24) (F : Bool → Core → Core) (g : Pipe → Pipe) (T : Nat) (u : State) (r : Reg) :
    (engineMove q F g T u).rd r = u.rd r := rfl

theorem engineMove_coreOnly (q : Fin 24) (F : Bool → Core → Core) (g : Pipe → Pipe) (T : Nat) (u : State) : coreOnly u (engineMove q F g T u) := rfl

theorem kenowMove_coreOnly (F : Bool → Core → Core) (u : State) : coreOnly u (kenowMove F u) := rfl

theorem engineMove_coreStep (q : Fin 24) (F : Bool → Core → Core) (g : Pipe → Pipe) (T : Nat) (u : State) :
    coreStep q.castSucc F u (engineMove q F g T u) := by
  refine ⟨fun chk => ?_, Nat.le_max_left _ _, fun _ => rfl, rfl, fun k => ⟨fun hk => ?_, ?_⟩⟩
  · rw [copyOf_castSucc, copyOf_castSucc, lp_engineMove]
    cases chk <;> rfl
  · exact lp_modLp_ne _ _ _ _ fun h => hk (congrArg Fin.castSucc h)
  · by_cases h : k = q
    · subst h; rw [lp_engineMove]; rfl
    · rw [show (engineMove q F g T u).lp k = u.lp k from lp_modLp_ne _ _ _ _ h]

theorem kenowMove_coreStep (F : Bool → Core → Core) (u : State) : coreStep 24 F u (kenowMove F u) :=
  ⟨fun chk => by cases chk <;> rfl, Nat.le_refl _, fun h => absurd rfl h, rfl, fun _ => ⟨fun _ => rfl, rfl⟩⟩

/-- What the cores have done stays, whatever is done to the rest of the state. -/
theorem coreStep_congr {p : Fin 25} {F : Bool → Core → Core} {u t t' : State} (h : coreStep p F u t) (hp : t'.pair = t.pair)
    (hk : t'.ken = t.ken) (ht : t'.time = t.time) : coreStep p F u t' := by
  obtain ⟨hcopy, htime, hother, hken, hlp⟩ := h
  have hlp' : ∀ q, t'.lp q = t.lp q := fun q => by simp only [State.lp, hp]
  refine ⟨fun chk => (copyOf_congr hp hk p chk).trans (hcopy chk), ht ▸ htime, fun h => hk.trans (hother h), by rw [hk]; exact hken, fun q => ?_⟩
  rw [hlp']
  exact hlp q

/-! ## The words of a PILUT that are due -/

/-- What the stores of a PILUT leave: all but the unit's record and the pair's window of memory. -/
structure Flushed (q : Fin 24) (s u : State) : Prop where
  lp : ∀ k, { u.lp k with gain := (s.lp k).gain } = s.lp k
  mem : ∀ a, a < 0x30000000 → memGet u.mem a = memGet s.mem a
  rest : { u with pair := s.pair, mem := s.mem, chk := s.chk } = s

theorem foldl_localWords_below (b : Nat) (l : List (Nat × Word)) (m : List Host.Cell) (a : Nat) (h : a < b) :
    memGet (l.foldl (fun m e => if localOk e.1 then memSetWord m (b + e.1) e.2 else m) m) a = memGet m a := by
  induction l generalizing m with
  | nil => rfl
  | cons e l ih =>
    rw [List.foldl_cons, ih]
    split
    · exact memGet_memSetWord_ne _ _ _ _ (.inl (by omega))
    · rfl

theorem unitFlush_flushed (q : Fin 24) (cyc : Nat) (s : State) : Flushed q s (unitFlush q cyc s) := by
  have hnone : Flushed q s s := ⟨fun _ => rfl, fun _ _ => rfl, rfl⟩
  unfold unitFlush
  split
  · split
    · refine ⟨fun k => ?_, fun a ha => foldl_localWords_below _ _ _ _ (by simp only [localBase]; omega), rfl⟩
      show { (s.modLp q fun l => { l with gain := none }).lp k with gain := (s.lp k).gain } = s.lp k
      by_cases hk : k = q
      · subst hk; rw [lp_modLp_same]
      · rw [lp_modLp_ne _ _ _ _ hk]
    · exact hnone
  · exact hnone

/-- Device time has no part in the stores of a PILUT. -/
theorem unitFlush_advance (q : Fin 24) (cyc T : Nat) (s : State) : unitFlush q cyc (s.advance T) = (unitFlush q cyc s).advance T := by
  unfold unitFlush
  rw [show (s.advance T).lp q = s.lp q from rfl]
  split
  · split <;> rfl
  · rfl

theorem flushed_castSucc (s : State) (q : Fin 24) (o : CoreOp) : flushed s q.castSucc o = unitFlush q (issueCycle (s.lp q) o) s := by
  simp [flushed]

theorem flushed_kenow (s : State) (o : CoreOp) : flushed s 24 o = s := rfl

theorem flushed_flushed (s : State) (q : Fin 24) (o : CoreOp) : Flushed q s (flushed s q.castSucc o) := by
  rw [flushed_castSucc]
  exact unitFlush_flushed q _ s

namespace Flushed

variable {q : Fin 24} {s u : State}

theorem regs (h : Flushed q s u) : u.regs = s.regs := (congrArg State.regs h.rest :)
theorem time (h : Flushed q s u) : u.time = s.time := (congrArg State.time h.rest :)
theorem rd (h : Flushed q s u) (r : Reg) : u.rd r = s.rd r := by simp only [State.rd, h.regs]
theorem run (h : Flushed q s u) (k : Fin 24) : (u.lp k).run = (s.lp k).run := (congrArg LoopPair.run (h.lp k) :)
theorem pipe (h : Flushed q s u) (k : Fin 24) : (u.lp k).pipe = (s.lp k).pipe := (congrArg LoopPair.pipe (h.lp k) :)

theorem copyOf (h : Flushed q s u) (k : Fin 24) (chk : Bool) : u.copyOf k.castSucc chk = s.copyOf k.castSucc chk := by
  have hlead : (u.lp k).lead = (s.lp k).lead := (congrArg LoopPair.lead (h.lp k) :)
  have hchk : (u.lp k).chk = (s.lp k).chk := (congrArg LoopPair.chk (h.lp k) :)
  rw [copyOf_castSucc, copyOf_castSucc, hlead, hchk]

end Flushed

/-! ## Taking an instruction -/

theorem coreCmd_ready {s : State} {p : Fin 25} {o : CoreOp} (hr : s.ready p = true) (ho : nextOp s p = some o) (lat : Nat) (ecc : Ecc) :
    coreCmd p o lat ecc s = .next (runOp p o lat ecc s) := by
  rw [coreCmd, if_pos ⟨hr, ho⟩]

theorem runOp_castSucc (q : Fin 24) (o : CoreOp) (lat : Nat) (ecc : Ecc) (s : State) : runOp q.castSucc o lat ecc s = engineOp q o lat ecc s := by
  simp [runOp]

/-- An engine core's instruction begins where the words of a PILUT due by its issue stand in memory. -/
theorem issue_flushed (s : State) (q : Fin 24) (o : CoreOp) :
    unitFlush q (issueCycle (s.lp q) o) (s.advance (issueCycle (s.lp q) o)) = (flushed s q.castSucc o).advance (issueCycle (s.lp q) o) := by
  rw [unitFlush_advance, flushed_castSucc]

/-- Both copies set and the issue state moved on. -/
theorem issued_copies (q : Fin 24) (o : CoreOp) (T lat extra : Nat) (taken : Bool) (f0 f1 : Core → Core) (u : State) :
    issued q o T lat taken extra (((u.advance T).modCopy q.castSucc false f0).modCopy q.castSucc true f1) =
      engineMove q (fun chk => if chk then f1 else f0) (fun pipe => pipe.issue o T lat taken extra) T u := by
  simp only [issued, modCopy_castSucc, modLp_modLp]
  rfl

/-! ## Bytes of a word -/

/-- A load or store moves 1, 2 or 4 bytes. -/
def accessWidth (width : Nat) : Prop := width = 1 ∨ width = 2 ∨ width = 4

theorem accessWidth.le {width : Nat} (h : accessWidth width) : width ≤ 4 := by rcases h with rfl | rfl | rfl <;> decide

/-- The first `width` bytes as a number, the lowest first. -/
def bytesSum (n : Nat → Nat) (width : Nat) : Nat := (List.range width).foldl (fun k i => k + n i * 256 ^ i) 0

theorem bytesSum_succ (n : Nat → Nat) (width : Nat) : bytesSum n (width + 1) = bytesSum n width + n width * 256 ^ width := by
  simp only [bytesSum, List.range_succ, List.foldl_append, List.foldl_cons, List.foldl_nil]

theorem bytesSum_lt (n : Nat → Nat) (hn : ∀ i, n i < 256) (width : Nat) : bytesSum n width < 256 ^ width := by
  induction width with
  | zero => exact Nat.one_pos
  | succ w ih =>
    rw [bytesSum_succ, pow_succ]
    have := Nat.mul_le_mul_right (256 ^ w) (Nat.le_pred_of_lt (hn w))
    simp only [Nat.pred_eq_sub_one, Nat.reduceSub] at this
    omega

/-- A byte of the number. -/
theorem bytesSum_byte (n : Nat → Nat) (hn : ∀ i, n i < 256) (width i : Nat) (hi : i < width) : bytesSum n width / 256 ^ i % 256 = n i := by
  induction width with
  | zero => omega
  | succ w ih =>
    rw [bytesSum_succ]
    rcases Nat.lt_succ_iff_lt_or_eq.mp hi with h | rfl
    · obtain ⟨k, rfl⟩ := Nat.exists_eq_add_of_lt h
      have hpow : n (i + k + 1) * 256 ^ (i + k + 1) = 256 ^ i * (256 * (n (i + k + 1) * 256 ^ k)) := by ring
      rw [hpow, Nat.add_mul_div_left _ _ (Nat.pow_pos (by decide)), Nat.add_mul_mod_self_left]
      exact ih h
    · rw [Nat.add_mul_div_right _ _ (Nat.pow_pos (by decide)), Nat.div_eq_of_lt (bytesSum_lt n hn i), Nat.zero_add, Nat.mod_eq_of_lt (hn i)]

theorem bytesAt_byte (get : Nat → Byte) (a : Nat) {width i : Nat} (hw : width ≤ 4) (hi : i < width) :
    (bytesAt get a width).extractLsb' (8 * i) 8 = get (a + i) := by
  have hn : ∀ j, (get (a + j)).toNat < 256 := fun j => (get (a + j)).isLt
  have hlt : bytesSum (fun j => (get (a + j)).toNat) width < 2 ^ 32 :=
    (bytesSum_lt _ hn width).trans_le (Nat.pow_le_pow_right (by decide) hw)
  apply BitVec.eq_of_toNat_eq
  rw [show bytesAt get a width = BitVec.ofNat 32 (bytesSum (fun j => (get (a + j)).toNat) width) from rfl, BitVec.extractLsb'_toNat,
    BitVec.toNat_ofNat, Nat.mod_eq_of_lt hlt, Nat.shiftRight_eq_div_pow, pow_mul]
  exact bytesSum_byte _ hn width i hi

theorem window_byte (w : Word) {ea width i : Nat} (hw : accessWidth width) (ha : ea % width = 0) (hi : i < width) :
    (BitVec.ofNat 32 (wGet w (8 * (ea % 4)) (8 * width))).extractLsb' (8 * i) 8 = w.extractLsb' (8 * ((ea + i) % 4)) 8 := by
  have hpos : (ea + i) % 4 = ea % 4 + i := by rcases hw with rfl | rfl | rfl <;> omega
  have hend : ea % 4 + width ≤ 4 := by rcases hw with rfl | rfl | rfl <;> omega
  rw [hpos]
  ext j hj
  have hlt : 8 * i + j < 8 * width := by omega
  have hbits : wGet w (8 * (ea % 4)) (8 * width) = (w.extractLsb' (8 * (ea % 4)) (8 * width)).toNat := by
    rw [wGet, BitVec.extractLsb'_toNat]
  rw [hbits]
  simp only [BitVec.getElem_extractLsb', BitVec.getLsbD_ofNat, BitVec.testBit_toNat, BitVec.getLsbD_extractLsb', hlt, decide_true,
    Bool.true_and]
  rw [decide_eq_true (by omega : 8 * i + j < 32), Bool.true_and]
  congr 1
  omega

theorem memGet_memPut_in (a width : Nat) (v : Word) (m : List Host.Cell) (x : Nat) (h : a ≤ x) (h' : x < a + width) :
    memGet (memPut a width v m) x = v.extractLsb' (8 * (x - a)) 8 := by
  induction width with
  | zero => omega
  | succ n ih =>
    rw [memPut, List.range_succ, List.foldl_append]
    by_cases hx : x = a + n
    · subst hx
      simp
    · rw [List.foldl_cons, List.foldl_nil, memGet_memSet_ne _ _ _ _ hx]
      exact ih (by omega)

/-- Every byte after a store: the bytes stored, and any other as before. -/
theorem memGet_memPut (a width : Nat) (v : Word) (m : List Host.Cell) (x : Nat) :
    memGet (memPut a width v m) x = if a ≤ x ∧ x < a + width then v.extractLsb' (8 * (x - a)) 8 else memGet m x := by
  split
  · next h => exact memGet_memPut_in a width v m x h.1 h.2
  · next h => exact memGet_memPut_ne a width v m x (by omega)

/-! ## The space of an engine core -/

theorem accessSpace_misaligned {a width : Nat} (h : a % width ≠ 0) : accessSpace a width = .outside := if_neg h

theorem accessSpace_aligned {a width : Nat} (h : a % width = 0) : accessSpace a width = spaceOf a := if_pos h

theorem spaceOf_local {a : Nat} (h : a < 0x10000) : spaceOf a = .local_ := if_pos h

theorem spaceOf_window {a : Nat} (h : 0x10000 ≤ a) (h' : a < 0x10060) : spaceOf a = .window := by
  rw [spaceOf, if_neg (by omega), if_pos h']

theorem spaceOf_slotAt {a : Nat} (h : 0x10100 ≤ a) (h' : a < 0x10140) :
    spaceOf a = .slot ⟨(a - 0x10100) / 4 % 16, Nat.mod_lt _ (by decide)⟩ := by
  rw [spaceOf, if_neg (by omega), if_neg (by omega), if_pos ⟨h, h'⟩]

theorem spaceOf_slot (k : Fin 16) : spaceOf (0x10100 + 4 * k.val) = .slot k := by
  rw [spaceOf_slotAt (by omega) (by omega)]
  congr 1
  ext
  show (0x10100 + 4 * k.val - 0x10100) / 4 % 16 = k.val
  omega

theorem spaceOf_end {a : Nat} (h : 0x10140 ≤ a) (h' : a < 0x10144) : spaceOf a = .endReg := by
  rw [spaceOf, if_neg (by omega), if_neg (by omega), if_neg (by omega), if_pos ⟨h, h'⟩]

theorem spaceOf_shared {a : Nat} (h : 0x10000000 ≤ a) (h' : a < 0x103F0000) : spaceOf a = .shared := by
  rw [spaceOf, if_neg (by omega), if_neg (by omega), if_neg (by omega), if_neg (by omega), if_pos ⟨h, h'⟩]

theorem spaceOf_outside {a : Nat} (h : (0x10060 ≤ a ∧ a < 0x10100) ∨ (0x10144 ≤ a ∧ a < 0x10000000) ∨ 0x103F0000 ≤ a) : spaceOf a = .outside := by
  rw [spaceOf, if_neg (by omega), if_neg (by omega), if_neg (by omega), if_neg (by omega), if_neg (by omega)]

/-! ## ECC, refused accesses, retirement -/

/-- A corrected error is counted in CE, which holds at its greatest value (R134). -/
theorem eccCount_shows (q : Fin 24) (ecc : Ecc) (s : State) :
    (eccCount q ecc s).f (Fld.LOOP_P_ECC_CE q) = min 65535 (s.f (Fld.LOOP_P_ECC_CE q) + eccErrors ecc) := by
  have hlt : s.f (Fld.LOOP_P_ECC_CE q) < 2 ^ 16 := Nat.mod_lt _ (Nat.two_pow_pos 16)
  unfold eccCount
  split
  · next h => rw [h]; omega
  · rw [f_setF s (Fld.LOOP_P_ECC_CE q) _ (show 0 + 16 ≤ 32 by decide), show ∀ n, sat 65535 n = min 65535 n from fun n => by unfold sat; split <;> omega]
    exact Nat.mod_eq_of_lt (show min 65535 (s.f (Fld.LOOP_P_ECC_CE q) + eccErrors ecc) < 2 ^ 16 by omega)

theorem eccCount_keeps (q : Fin 24) (ecc : Ecc) (s : State) : s.keeps (eccCount q ecc s) [.LOOP_P_ECC q] :=
  fun r hr => rd_eccCount_ne q ecc s r (by rintro rfl; exact hr (List.mem_singleton.mpr rfl))

theorem eccCount_rest (q : Fin 24) (ecc : Ecc) (s : State) : { eccCount q ecc s with regs := s.regs } = s := by
  unfold eccCount; split <;> rfl

theorem accErr_recorded (s : State) (hd : s.dsgRun = false) : Recorded (s.raise Fld.LOOP_STATUS_ACC_ERR) (accErr s) :=
  recordFault_recorded 0x4107 _ (by decide) (by decide) ((dsgRun_congr (rd_raise_ne s _ _ (by decide))).trans hd)

/-- An access that cannot be made sets ACC_ERR and records its code (R135, R139). -/
theorem accErr_shows (s : State) (hd : s.dsgRun = false) : (accErr s).flag Fld.LOOP_STATUS_ACC_ERR = true ∧
    (accErr s).flag Fld.SYS_STATUS_FAULT_NEW = true ∧ s.faultFrame (accErr s) [0x400D] := by
  have hrec := accErr_recorded s hd
  have hdsg : (s.raise Fld.LOOP_STATUS_ACC_ERR).dsgRun = false := (dsgRun_congr (rd_raise_ne s _ _ (by decide))).trans hd
  obtain ⟨hout, hmem, hchk⟩ := hrec.faultFrame [0x400D]
  refine ⟨?_, flag_faultNew_recordFault 0x4107 _ (by decide) (by decide) (by decide) hdsg, fun r hr => (hout r hr).trans ?_, hmem, hchk⟩
  · rw [flag_congr Fld.LOOP_STATUS_ACC_ERR (hrec.regs .LOOP_STATUS rfl), State.flag, f_raise _ _ (by decide)]
    rfl
  · exact rd_raise_ne s _ r (by rintro rfl; exact hr (by decide))

theorem accErr_pair (s : State) (hd : s.dsgRun = false) : (accErr s).pair = s.pair := (congrArg State.pair (accErr_recorded s hd).rest :)
theorem accErr_ken (s : State) (hd : s.dsgRun = false) : (accErr s).ken = s.ken := (congrArg State.ken (accErr_recorded s hd).rest :)
theorem accErr_time (s : State) (hd : s.dsgRun = false) : (accErr s).time = s.time := (accErr_recorded s hd).time

/-- What the pool does to its own registers and records: no register of another block, and no memory. -/
structure InPool (s t : State) : Prop where
  regs : s.keepsOutside t [0x400D]
  mem : s.keepsMem t

namespace InPool

variable {s t u : State}

theorem trans (h : InPool s t) (k : InPool t u) : InPool s u :=
  ⟨fun r hr => (k.regs r hr).trans (h.regs r hr), k.mem.1.trans h.mem.1, k.mem.2.trans h.mem.2⟩

/-- Registers and memory as before. -/
theorem of_same (hr : t.regs = s.regs) (hm : t.mem = s.mem) (hc : t.chk = s.chk) : InPool s t :=
  ⟨fun r _ => by simp only [State.rd, hr], hm, hc⟩

theorem setF (s : State) (F : RF) (v : Nat) (h : F.reg.addr / 0x10000 = 0x400D) : InPool s (s.setF F v) :=
  ⟨fun r hr => rd_setF_ne s F v r (by rintro rfl; exact hr (List.mem_singleton.mpr h)), rfl, rfl⟩

theorem raise (s : State) (F : RF) (h : F.reg.addr / 0x10000 = 0x400D) : InPool s (s.raise F) :=
  ⟨fun r hr => rd_raise_ne s F r (by rintro rfl; exact hr (List.mem_singleton.mpr h)), rfl, rfl⟩

end InPool

theorem addr_taskStat (d : Fin 512) : (Reg.LOOP_D_STAT d).addr / 0x10000 = 0x400D := by simp only [Reg.addr]; omega
theorem addr_pairState (q : Fin 24) : (Reg.LOOP_P_STATE q).addr / 0x10000 = 0x400D := by simp only [Reg.addr]; omega

theorem pairSt_congr {s t : State} {q : Fin 24} (h : t.rd (.LOOP_P_STATE q) = s.rd (.LOOP_P_STATE q)) : t.pairSt q = s.pairSt q := f_congr _ h

/-- What a retired pair ran is aborted. -/
theorem abortRun_inPool (q : Fin 24) (run : Option Inst) (s : State) :
    let t := match run with
      | some i => if i.dropped then s else
          (putInst { i with place := .waiting q, dropped := true } s).lower (Fld.LOOP_D_STAT_RUNNING i.d)
      | none => s
    InPool s t ∧ t.pairSt q = s.pairSt q := by
  intro t
  have hsame : InPool s s ∧ s.pairSt q = s.pairSt q := ⟨.of_same rfl rfl rfl, rfl⟩
  unfold t
  split
  · split
    · exact hsame
    · next i _ =>
      have hput : InPool s (putInst { i with place := .waiting q, dropped := true } s) := .of_same rfl rfl rfl
      exact ⟨hput.trans (.setF _ (Fld.LOOP_D_STAT_RUNNING i.d) 0 (addr_taskStat i.d)),
        pairSt_congr (rd_setF_ne _ (Fld.LOOP_D_STAT_RUNNING i.d) 0 (.LOOP_P_STATE q) (by simp [Fld.LOOP_D_STAT_RUNNING]))⟩
  · exact hsame

/-- A pair retired by an uncorrectable error: RETIRED, and no register of another block and no memory touched (R134, R158). -/
theorem retirePair_shows (q : Fin 24) (cause : Nat) (s : State) :
    (retirePair q cause s).pairSt q = pairRetired ∧ InPool s (retirePair q cause s) := by
  unfold retirePair
  extract_lets l s1 s2 s3
  split
  · next hret =>
    split
    · have hnote : InPool s (s.modLp q fun l => { l with ret := some (s.time, cause) }) := .of_same rfl rfl rfl
      exact ⟨(pairSt_congr (rd_raise_ne _ Fld.LOOP_STATUS_WR_IGN (.LOOP_P_STATE q) (by simp [Fld.LOOP_STATUS_WR_IGN]))).trans hret,
        hnote.trans (.raise _ Fld.LOOP_STATUS_WR_IGN (by decide))⟩
    · exact ⟨hret, .of_same rfl rfl rfl⟩
  · obtain ⟨habort, hstate⟩ := abortRun_inPool q l.run s1
    exact ⟨hstate.trans (f_setF s (Fld.LOOP_P_STATE_STATE q) pairRetired (show 0 + 3 ≤ 32 by decide)),
      ((InPool.setF s _ _ (addr_pairState q)).trans habort).trans (.of_same rfl rfl rfl)⟩

end Sys2Proof.Machine
end

section
/-! PROOF. O21: loads. -/

namespace Sys2Proof.Machine

open Sys2Proof

/-! ## The six loads -/

/-- What LW, LH, LHU, LB, LBU and FLW have in common: `put` sets the destination from the bytes read, `putW` from the word that the model
forms of them. -/
structure LoadForm (p : Fin 25) (a : BitVec 5) (v : BitVec 16) (lat : Nat) (i : Ecc → Instr) (o : CoreOp) (width : Nat)
    (put : Core → (Nat → Byte) → Core) (putW : Core → Word → Core) : Prop where
  runs : ∀ e s, exec (i e) s = coreCmd p o lat e s
  engine : ∀ q e s, engineOp q o lat e s = engineLoad q o a v width putW lat e (issueCycle (s.lp q) o)
    (unitFlush q (issueCycle (s.lp q) o) (s.advance (issueCycle (s.lp q) o)))
  kenow : ∀ s, kenowOp o s = kenowLoad a v width putW { s with ken := { s.ken with wait := false } }
  size : accessWidth width
  word : ∀ c w, putW c w = put c fun i => w.extractLsb' (8 * i) 8
  bytes : ∀ c m m', (∀ i, i < width → m i = m' i) → put c m = put c m'
  pc : ∀ c w, (putW c w).pc = c.pc

theorem Core.wx_pc (c : Core) (d : BitVec 5) (w : Word) : (c.wx d w).pc = c.pc := by
  unfold Core.wx Core.setX; split <;> rfl

theorem Core.wf_pc (c : Core) (d : BitVec 5) (w : Word) : (c.wf d w).pc = c.pc := rfl

/-- Neighbouring pieces of a word, put together. -/
theorem half_of_bytes (w : Word) : w.extractLsb' 8 8 ++ w.extractLsb' 0 8 = w.extractLsb' 0 16 :=
  BitVec.extractLsb'_append_extractLsb'_eq_extractLsb' rfl

theorem word_of_bytes (w : Word) : w.extractLsb' 24 8 ++ w.extractLsb' 16 8 ++ w.extractLsb' 8 8 ++ w.extractLsb' 0 8 = w := by
  have h24 : w.extractLsb' 24 8 ++ w.extractLsb' 16 8 = w.extractLsb' 16 16 := BitVec.extractLsb'_append_extractLsb'_eq_extractLsb' rfl
  have h8 : w.extractLsb' 16 16 ++ w.extractLsb' 8 8 = w.extractLsb' 8 24 := BitVec.extractLsb'_append_extractLsb'_eq_extractLsb' rfl
  have h0 : w.extractLsb' 8 24 ++ w.extractLsb' 0 8 = w.extractLsb' 0 32 := BitVec.extractLsb'_append_extractLsb'_eq_extractLsb' rfl
  rw [h24, h8, h0, BitVec.extractLsb'_eq_self]

section
variable (p : Fin 25) (d a : BitVec 5) (v : BitVec 16) (lat : Fin 35)

theorem loadForm_lw : LoadForm p a v lat (fun e => .lw p d a v lat e) (.load .lw d a v) 4 (fun c m => c.wx d (m 3 ++ m 2 ++ m 1 ++ m 0))
    (fun c w => c.wx d (LoadOp.lw.extend w)) where
  runs _ _ := rfl
  engine _ _ _ := rfl
  kenow _ := rfl
  size := .inr (.inr rfl)
  word c w := by simp only [LoadOp.extend, word_of_bytes, Nat.reduceMul]
  bytes c m m' h := by simp only [h 0 (by decide), h 1 (by decide), h 2 (by decide), h 3 (by decide)]
  pc c w := c.wx_pc d _

theorem loadForm_flw : LoadForm p a v lat (fun e => .flw p d a v lat e) (.flw d a v) 4 (fun c m => c.wf d (m 3 ++ m 2 ++ m 1 ++ m 0))
    (fun c w => c.wf d w) where
  runs _ _ := rfl
  engine _ _ _ := rfl
  kenow _ := rfl
  size := .inr (.inr rfl)
  word c w := by simp only [word_of_bytes, Nat.reduceMul]
  bytes c m m' h := by simp only [h 0 (by decide), h 1 (by decide), h 2 (by decide), h 3 (by decide)]
  pc c w := c.wf_pc d w

theorem loadForm_lh : LoadForm p a v lat (fun e => .lh p d a v lat e) (.load .lh d a v) 2 (fun c m => c.wx d ((m 1 ++ m 0).signExtend 32))
    (fun c w => c.wx d (LoadOp.lh.extend w)) where
  runs _ _ := rfl
  engine _ _ _ := rfl
  kenow _ := rfl
  size := .inr (.inl rfl)
  word c w := by simp only [LoadOp.extend, half_of_bytes, Nat.reduceMul]
  bytes c m m' h := by simp only [h 0 (by decide), h 1 (by decide)]
  pc c w := c.wx_pc d _

theorem loadForm_lhu : LoadForm p a v lat (fun e => .lhu p d a v lat e) (.load .lhu d a v) 2 (fun c m => c.wx d (0#16 ++ m 1 ++ m 0))
    (fun c w => c.wx d (LoadOp.lhu.extend w)) where
  runs _ _ := rfl
  engine _ _ _ := rfl
  kenow _ := rfl
  size := .inr (.inl rfl)
  word c w := by
    have hzero : 0#16 ++ w.extractLsb' 8 8 ++ w.extractLsb' 0 8 = (w.extractLsb' 0 16).setWidth 32 := by
      rw [BitVec.setWidth_eq_append (by decide), ← half_of_bytes]
      exact BitVec.append_assoc
    simp only [LoadOp.extend, hzero, Nat.reduceMul]
  bytes c m m' h := by simp only [h 0 (by decide), h 1 (by decide)]
  pc c w := c.wx_pc d _

theorem loadForm_lb : LoadForm p a v lat (fun e => .lb p d a v lat e) (.load .lb d a v) 1 (fun c m => c.wx d ((m 0).signExtend 32))
    (fun c w => c.wx d (LoadOp.lb.extend w)) where
  runs _ _ := rfl
  engine _ _ _ := rfl
  kenow _ := rfl
  size := .inl rfl
  word c w := rfl
  bytes c m m' h := by simp only [h 0 (by decide)]
  pc c w := c.wx_pc d _

theorem loadForm_lbu : LoadForm p a v lat (fun e => .lbu p d a v lat e) (.load .lbu d a v) 1 (fun c m => c.wx d (0#24 ++ m 0))
    (fun c w => c.wx d (LoadOp.lbu.extend w)) where
  runs _ _ := rfl
  engine _ _ _ := rfl
  kenow _ := rfl
  size := .inl rfl
  word c w := by
    have hzero : 0#24 ++ w.extractLsb' 0 8 = (w.extractLsb' 0 8).setWidth 32 := (BitVec.setWidth_eq_append (by decide)).symm
    simp only [LoadOp.extend, hzero, Nat.reduceMul]
  bytes c m m' h := by simp only [h 0 (by decide)]
  pc c w := c.wx_pc d _

end

/-! ## The space that an engine core reads -/

/-- The word of a load that a copy takes, as bytes. -/
theorem LoadForm.takes {p : Fin 25} {a : BitVec 5} {v : BitVec 16} {lat : Nat} {i : Ecc → Instr} {o : CoreOp} {width : Nat}
    {put : Core → (Nat → Byte) → Core} {putW : Core → Word → Core} (h : LoadForm p a v lat i o width put putW) (W : Bool → Word)
    (m : Bool → Nat → Byte) (hm : ∀ chk j, j < width → (W chk).extractLsb' (8 * j) 8 = m chk j) :
    (fun chk c => (putW c (W chk)).nextPc) = fun chk c => { put c (m chk) with pc := c.pc + 4#32 } := by
  funext chk c
  have hput : putW c (W chk) = put c (m chk) := (h.word c _).trans (h.bytes c _ _ (hm chk))
  have hpc : (put c (m chk)).pc = c.pc := by rw [← hput]; exact h.pc c _
  rw [hput, Core.nextPc, Core.goto, hpc]

/-- The state after a load of an engine core, its ECC and its refusal aside. -/
def loadMove (q : Fin 24) (o : CoreOp) (ea width : Nat) (putW : Core → Word → Core) (lat : Nat) (e : Ecc) (T : Nat) (u : State) : State :=
  engineMove q (fun chk c => (putW c (engineRead u q chk ea width)).nextPc)
    (fun pipe => pipe.issue o T (readLatency (accessSpace ea width) lat e) false 0) T u

/-- A load of an engine core whose copies name one address. -/
theorem engineLoad_eq (q : Fin 24) (o : CoreOp) (a : BitVec 5) (v : BitVec 16) (width : Nat) (putW : Core → Word → Core) (lat : Nat) (e : Ecc)
    (T : Nat) (u : State) (ea : Nat) (h0 : (u.copyOf q.castSucc false).ea a v = ea) (h1 : (u.copyOf q.castSucc true).ea a v = ea) :
    engineLoad q o a v width putW lat e T (u.advance T) =
      if accessSpace ea width = .local_ ∧ e = .uncorrectable then retirePair q 2 (u.advance T)
      else
        let x := loadMove q o ea width putW lat e T u
        let x := if accessSpace ea width = .local_ then eccCount q e x else x
        if (accessSpace ea width).readable then x else accErr x := by
  have hF : (fun chk : Bool => if chk then (fun c => (putW c (engineRead u q true ea width)).nextPc) else
      (fun c => (putW c (engineRead u q false ea width)).nextPc)) = fun chk c => (putW c (engineRead u q chk ea width)).nextPc := by
    funext chk; cases chk <;> rfl
  unfold engineLoad
  simp only [show ∀ chk, (u.advance T).copyOf q.castSucc chk = u.copyOf q.castSucc chk from fun _ => rfl, h0, h1, ite_self, issued_copies,
    show ∀ chk, engineRead (u.advance T) q chk ea width = engineRead u q chk ea width from fun _ => rfl, loadMove, ← hF]

section
variable (q : Fin 24) (o : CoreOp) (a : BitVec 5) (v : BitVec 16) (width : Nat) (putW : Core → Word → Core) (lat : Nat) (T : Nat) (u : State) (ea : Nat)
  (h0 : (u.copyOf q.castSucc false).ea a v = ea) (h1 : (u.copyOf q.castSucc true).ea a v = ea)
include h0 h1

theorem engineLoad_read (e : Ecc) (hread : (accessSpace ea width).readable = true) (hloc : accessSpace ea width = .local_ → e = .ok) :
    engineLoad q o a v width putW lat e T (u.advance T) = loadMove q o ea width putW lat e T u := by
  have hne : ¬ (accessSpace ea width = .local_ ∧ e = .uncorrectable) := fun ⟨hl, hu⟩ => by rw [hloc hl] at hu; cases hu
  rw [engineLoad_eq q o a v width putW lat e T u ea h0 h1, if_neg hne]
  by_cases hl : accessSpace ea width = .local_
  · simp only [if_pos hl, if_pos hread]
    exact eccCount_none _ _ _ (by rw [hloc hl]; rfl)
  · simp only [if_neg hl, if_pos hread]

theorem engineLoad_corrected (n k : Nat) (hloc : accessSpace ea width = .local_) : engineLoad q o a v width putW lat (.corrected n k) T (u.advance T) =
    eccCount q (.corrected n k) (loadMove q o ea width putW lat (.corrected n k) T u) := by
  rw [engineLoad_eq q o a v width putW lat _ T u ea h0 h1, if_neg (by simp)]
  simp only [hloc, if_true, Space.readable]

theorem engineLoad_retires (hloc : accessSpace ea width = .local_) :
    engineLoad q o a v width putW lat .uncorrectable T (u.advance T) = retirePair q 2 (u.advance T) := by
  rw [engineLoad_eq q o a v width putW lat _ T u ea h0 h1, if_pos ⟨hloc, rfl⟩]

theorem engineLoad_outside (e : Ecc) (hread : (accessSpace ea width).readable = false) :
    engineLoad q o a v width putW lat e T (u.advance T) = accErr (loadMove q o ea width putW lat e T u) := by
  have hloc : accessSpace ea width ≠ .local_ := fun hl => by rw [hl] at hread; cases hread
  rw [engineLoad_eq q o a v width putW lat e T u ea h0 h1, if_neg fun hl => hloc hl.1]
  simp only [if_neg hloc, hread, Bool.false_eq_true, if_false]

end

/-! ## A load of an engine core -/

section
variable {s : State} {q : Fin 24} {a : BitVec 5} {v : BitVec 16} {lat : Nat} {i : Ecc → Instr} {o : CoreOp} {width : Nat}
  {put : Core → (Nat → Byte) → Core} {putW : Core → Word → Core}

/-- Copies with the same base register name one address. -/
theorem copies_ea {s : State} {p : Fin 25} {a : BitVec 5} {v : BitVec 16} (hea : (s.copyOf p true).rx a = (s.copyOf p false).rx a) (chk : Bool) :
    (s.copyOf p chk).ea a v = ((s.copyOf p false).rx a + v.signExtend 32).toNat := by
  cases chk
  · rfl
  · rw [Core.ea, hea]

/-- Where both copies name one address before the issue, both do at it. -/
theorem flushed_ea (o : CoreOp) (v : BitVec 16) (hea : (s.copyOf q.castSucc true).rx a = (s.copyOf q.castSucc false).rx a) (chk : Bool) :
    ((flushed s q.castSucc o).copyOf q.castSucc chk).ea a v = ((s.copyOf q.castSucc false).rx a + v.signExtend 32).toNat := by
  rw [(flushed_flushed s q o).copyOf q, copies_ea hea chk]

/-- A load that the pair can take, with the words of a PILUT that are due by its issue stored. -/
theorem LoadForm.exec_engine (h : LoadForm q.castSucc a v lat i o width put putW) (hr : s.ready q.castSucc = true)
    (ho : nextOp s q.castSucc = some o) (e : Ecc) : exec (i e) s = .next (engineLoad q o a v width putW lat e (issueCycle (s.lp q) o)
      ((flushed s q.castSucc o).advance (issueCycle (s.lp q) o))) := by
  rw [h.runs, coreCmd_ready hr ho, runOp_castSucc, h.engine, issue_flushed]

/-- The bytes that the copies of an engine core read at an address of its space. -/
theorem LoadForm.loadMove_coreStep (h : LoadForm q.castSucc a v lat i o width put putW) {ea T : Nat} {e : Ecc} {u : State}
    {m : Bool → Nat → Byte} (hm : ∀ chk j, j < width → (engineRead u q chk ea width).extractLsb' (8 * j) 8 = m chk j) :
    coreStep q.castSucc (fun chk c => { put c (m chk) with pc := c.pc + 4#32 }) u (loadMove q o ea width putW lat e T u) := by
  rw [← h.takes (fun chk => engineRead u q chk ea width) m hm]
  exact engineMove_coreStep _ _ _ _ _

variable (h : LoadForm q.castSucc a v lat i o width put putW) (hr : s.ready q.castSucc = true) (ho : nextOp s q.castSucc = some o)
  (hea : (s.copyOf q.castSucc true).rx a = (s.copyOf q.castSucc false).rx a)
include h hr ho hea

/-- A load without a corrected error changes nothing but the copies. -/
theorem LoadForm.gives_read (e : Ecc) (m : Bool → Nat → Byte) :
    let ea := ((s.copyOf q.castSucc false).rx a + v.signExtend 32).toNat
    let u := flushed s q.castSucc o
    (accessSpace ea width).readable = true → (accessSpace ea width = .local_ → e = .ok) →
    (∀ chk j, j < width → (engineRead u q chk ea width).extractLsb' (8 * j) 8 = m chk j) →
    gives (i e) s fun t => coreStep q.castSucc (fun chk c => { put c (m chk) with pc := c.pc + 4#32 }) u t ∧ coreOnly u t := by
  intro ea u hread hloc hm
  refine ⟨_, h.exec_engine hr ho e, ?_⟩
  rw [engineLoad_read q o a v width putW lat _ u ea (flushed_ea o v hea false) (flushed_ea o v hea true) e hread hloc]
  exact ⟨h.loadMove_coreStep hm, engineMove_coreOnly _ _ _ _ _⟩

/-- Corrected errors of local memory count in CE (R134). -/
theorem LoadForm.gives_corrected (n k : Nat) (m : Bool → Nat → Byte) :
    let ea := ((s.copyOf q.castSucc false).rx a + v.signExtend 32).toNat
    let u := flushed s q.castSucc o
    accessSpace ea width = .local_ →
    (∀ chk j, j < width → (engineRead u q chk ea width).extractLsb' (8 * j) 8 = m chk j) →
    gives (i (.corrected n k)) s fun t => coreStep q.castSucc (fun chk c => { put c (m chk) with pc := c.pc + 4#32 }) u t ∧
      t.f (Fld.LOOP_P_ECC_CE q) = min 65535 (s.f (Fld.LOOP_P_ECC_CE q) + (n + k)) ∧ u.keeps t [.LOOP_P_ECC q] ∧ u.keepsMem t := by
  intro ea u hloc hm
  refine ⟨_, h.exec_engine hr ho _, ?_⟩
  rw [engineLoad_corrected q o a v width putW lat _ u ea (flushed_ea o v hea false) (flushed_ea o v hea true) n k hloc]
  have hrest := eccCount_rest q (.corrected n k) (loadMove q o ea width putW lat (.corrected n k) (issueCycle (s.lp q) o) u)
  refine ⟨coreStep_congr (h.loadMove_coreStep hm) (congrArg State.pair hrest :) (congrArg State.ken hrest :) (congrArg State.time hrest :), ?_,
    eccCount_keeps q _ _, (congrArg State.mem hrest :), (congrArg State.chk hrest :)⟩
  rw [eccCount_shows]
  exact congrArg (fun ce => min 65535 (ce + (n + k))) (f_congr (Fld.LOOP_P_ECC_CE q) ((flushed_flushed s q o).rd _))

/-- An error that cannot be corrected retires the pair. -/
theorem LoadForm.gives_retired :
    let ea := ((s.copyOf q.castSucc false).rx a + v.signExtend 32).toNat
    let u := flushed s q.castSucc o
    accessSpace ea width = .local_ →
    gives (i .uncorrectable) s fun t => t.pairSt q = pairRetired ∧ u.keepsOutside t [0x400D] ∧ u.keepsMem t := by
  intro ea u hloc
  refine ⟨_, h.exec_engine hr ho _, ?_⟩
  rw [engineLoad_retires q o a v width putW lat _ u ea (flushed_ea o v hea false) (flushed_ea o v hea true) hloc]
  obtain ⟨hst, hregs, hmem⟩ := retirePair_shows q 2 (u.advance (issueCycle (s.lp q) o))
  exact ⟨hst, hregs, hmem⟩

/-- Any other load gives 0 and is told (R135, R139). -/
theorem LoadForm.gives_outside (e : Ecc) (hd : s.dsgRun = false) :
    let ea := ((s.copyOf q.castSucc false).rx a + v.signExtend 32).toNat
    let u := flushed s q.castSucc o
    (accessSpace ea width).readable = false →
    gives (i e) s fun t => coreStep q.castSucc (fun _ c => { put c (fun _ => 0#8) with pc := c.pc + 4#32 }) u t ∧
      t.flag Fld.LOOP_STATUS_ACC_ERR = true ∧ t.flag Fld.SYS_STATUS_FAULT_NEW = true ∧ u.faultFrame t [0x400D] := by
  intro ea u hread
  have hzero : ∀ chk j, j < width → (engineRead u q chk ea width).extractLsb' (8 * j) 8 = 0#8 := fun chk j _ => by
    have hw : engineRead u q chk ea width = 0#32 := by unfold engineRead; split <;> simp_all [Space.readable]
    rw [hw]; simp
  refine ⟨_, h.exec_engine hr ho e, ?_⟩
  rw [engineLoad_outside q o a v width putW lat _ u ea (flushed_ea o v hea false) (flushed_ea o v hea true) e hread]
  have hdx : (loadMove q o ea width putW lat e (issueCycle (s.lp q) o) u).dsgRun = false := (dsgRun_congr ((flushed_flushed s q o).rd _)).trans hd
  obtain ⟨hacc, hnew, hframe⟩ := accErr_shows _ hdx
  exact ⟨coreStep_congr (h.loadMove_coreStep (m := fun _ _ => 0#8) hzero) (accErr_pair _ hdx) (accErr_ken _ hdx) (accErr_time _ hdx),
    hacc, hnew, hframe⟩

end

/-! ## A load of Kenow -/

section
variable {s : State} {a : BitVec 5} {v : BitVec 16} {lat : Nat} {i : Ecc → Instr} {o : CoreOp} {width : Nat}
  {put : Core → (Nat → Byte) → Core} {putW : Core → Word → Core}
  (h : LoadForm 24 a v lat i o width put putW) (hr : s.ready 24 = true) (ho : nextOp s 24 = some o)
include h hr ho

theorem LoadForm.exec_kenow (e : Ecc) : exec (i e) s = .next (kenowLoad a v width putW { s with ken := { s.ken with wait := false } }) := by
  rw [h.runs, coreCmd_ready hr ho, ← h.kenow]
  rfl

end

/-- An exception of Kenow: both copies go on at VBASE (R143). -/
theorem kenowTrap_shows (cause : Nat) (s : State) :
    let t := kenowTrap cause { s with ken := { s.ken with wait := false } }
    t.ken.epc = s.ken.lead.pc ∧ t.ken.ecause = BitVec.ofNat 32 cause ∧ t.ken.ien = false ∧
      (∀ chk, t.copyOf 24 chk = { s.copyOf 24 chk with pc := s.ken.vbase }) ∧ coreOnly s t :=
  ⟨rfl, rfl, rfl, fun chk => by cases chk <;> rfl, rfl⟩

theorem kenowLoad_misaligned (a : BitVec 5) (v : BitVec 16) (width : Nat) (putW : Core → Word → Core) (s : State)
    (h : (s.copyOf 24 false).ea a v % width ≠ 0) : 
    kenowLoad a v width putW { s with ken := { s.ken with wait := false } } = kenowTrap 3 { s with ken := { s.ken with wait := false } } := if_pos h

/-- Own memory and the RAMs of the map are read as they stand, and no port of another clock is. -/
theorem busRead_ram {a : Nat} (width : Nat) (s : State) (h : (0x08000000 ≤ a ∧ a < 0x08080000) ∨ (0x10000000 ≤ a ∧ a < 0x10400000)) :
    busRead a width s = (bytesAt (memGet s.mem) a width, s) := by
  have hreg : regionOf a = .kenow ∨ regionOf a = .sram ∨ regionOf a = .crucible := by
    unfold regionOf
    rw [if_neg (by omega)]
    split
    · exact .inl rfl
    · split
      · exact .inr (.inl rfl)
      · rw [if_pos (by omega)]
        exact .inr (.inr rfl)
  unfold busRead
  rcases hreg with h | h | h <;> rw [h]

theorem asyncPort_ram {a : Nat} (h : a < 0x10400000) : asyncPort a = none := by
  rw [asyncPort, if_neg (by simp only [Reg.addr]; omega), if_neg (by omega), if_neg (by omega)]

theorem regionOf_kenow {a : Nat} (h : 0x08000000 ≤ a) (h' : a < 0x08080000) : regionOf a = .kenow := by
  rw [regionOf, if_neg (by omega), if_pos ⟨h, h'⟩]

theorem regionOf_ram {a : Nat} (h : 0x10000000 ≤ a) (h' : a < 0x10400000) : regionOf a ≠ .kenow := by
  rw [regionOf, if_neg (by omega), if_neg (by omega)]
  split
  · decide
  · rw [if_pos (by omega)]
    decide

theorem regionOf_sram {a : Nat} (h : 0x10000000 ≤ a) (h' : a < 0x103F0000) : regionOf a = .sram := by
  rw [regionOf, if_neg (by omega), if_neg (by omega), if_pos ⟨h, h'⟩]

/-- An aligned load of Kenow whose copies name one address of a RAM. -/
theorem kenowLoad_ram (a : BitVec 5) (v : BitVec 16) (width : Nat) (putW : Core → Word → Core) (s : State) (ea : Nat)
    (h0 : (s.copyOf 24 false).ea a v = ea) (h1 : (s.copyOf 24 true).ea a v = ea) (hal : ea % width = 0)
    (hram : (0x08000000 ≤ ea ∧ ea < 0x08080000) ∨ (0x10000000 ≤ ea ∧ ea < 0x10400000)) :
    kenowLoad a v width putW { s with ken := { s.ken with wait := false } } = kenowMove (fun chk c =>
      (putW c (bytesAt (memGet (if regionOf ea = .kenow then s.own chk else s.mem)) ea width)).nextPc) s := by
  have hport : ¬ (width = 4 ∧ (asyncPort ea).isSome = true) := by
    rw [asyncPort_ram (by omega)]
    exact fun h => absurd h.2 (by decide)
  unfold kenowLoad
  simp only [show ∀ chk, ({ s with ken := { s.ken with wait := false } } : State).copyOf 24 chk = s.copyOf 24 chk from fun _ => rfl, h0, h1,
    busRead_ram width _ hram, if_neg hport, hal, ne_eq, not_true_eq_false, if_false]
  split <;> rfl

/-- What lies outside the readable space, misaligned loads included. -/
theorem unreadable_outside {ea width : Nat} (h : ea % width ≠ 0 ∨ (0x10060 ≤ ea ∧ ea < 0x10000000) ∨ 0x103F0000 ≤ ea) :
    (accessSpace ea width).readable = false := by
  unfold accessSpace
  split
  · unfold spaceOf
    rw [if_neg (by omega), if_neg (by omega)]
    split
    · rfl
    · split
      · rfl
      · rw [if_neg (by omega)]
        rfl
  · rfl

/-! ## The obligation -/

/-- Settles O21: each load is the move that `loadMove` or `kenowMove` makes of the copies; the bytes of the word it reads are those of memory,
of the window, or 0. -/
theorem loadsReadTheSpaceOfTheCore : Obligations.LoadsReadTheSpaceOfTheCore := by
  intro s p d a v lat hr hea hd ea loads
  have key : ∀ {i : Ecc → Instr} {o : CoreOp} {width : Nat} {put : Core → (Nat → Byte) → Core} {putW : Core → Word → Core},
      LoadForm p a v lat.val i o width put putW → loads i o width put := by
    intro i o width put putW h ho u takes
    refine ⟨?_, ?_, ?_, ?_⟩
    · rintro q rfl hal base
      refine ⟨fun hlt => ?_, fun e hge hlt => ?_, fun e hge hlt => ?_⟩
      · have hsp : accessSpace ea width = .local_ := (accessSpace_aligned hal).trans (spaceOf_local hlt)
        have hbyte : ∀ chk j, j < width → (engineRead u q chk ea width).extractLsb' (8 * j) 8 = memGet (u.own chk) (base + ea + j) := by
          intro chk j hj
          rw [engineRead, hsp]
          exact bytesAt_byte _ _ h.size.le hj
        exact ⟨h.gives_read hr ho hea .ok _ (by rw [hsp]; rfl) (fun _ => rfl) hbyte, fun m n => h.gives_corrected hr ho hea m n _ hsp hbyte,
          h.gives_retired hr ho hea hsp⟩
      · have hsp : accessSpace ea width = .window := (accessSpace_aligned hal).trans (spaceOf_window hge hlt)
        refine h.gives_read hr ho hea e _ (by rw [hsp]; rfl) (fun hl => by rw [hsp] at hl; cases hl) fun chk j hj => ?_
        rw [engineRead, hsp]
        have hrun : windowWord u q ((ea - 0x10000) / 4) = windowWord s q ((ea - 0x10000) / 4) := by
          simp only [windowWord, (flushed_flushed s q o).run q, u]
        rw [hrun]
        exact window_byte _ h.size hal hj
      · have hsp : accessSpace ea width = .shared := (accessSpace_aligned hal).trans (spaceOf_shared hge hlt)
        refine h.gives_read hr ho hea e _ (by rw [hsp]; rfl) (fun hl => by rw [hsp] at hl; cases hl) fun chk j hj => ?_
        rw [engineRead, hsp]
        refine (bytesAt_byte _ _ h.size.le hj).trans ((flushed_flushed s q o).mem _ ?_)
        have := h.size.le
        omega
    · rintro q e rfl hout
      exact h.gives_outside hr ho hea e hd (unreadable_outside hout)
    · rintro e rfl hal
      have hram : ∀ {m : Bool → Nat → Byte}, (0x08000000 ≤ ea ∧ ea < 0x08080000) ∨ (0x10000000 ≤ ea ∧ ea < 0x10400000) →
          (∀ chk j, memGet (if regionOf ea = .kenow then s.own chk else s.mem) (ea + j) = m chk j) → takes e m (coreOnly s) := by
        intro m hin hm
        refine ⟨_, h.exec_kenow hr ho e, ?_⟩
        rw [kenowLoad_ram a v width putW s ea (copies_ea hea false) (copies_ea hea true) hal hin,
          h.takes _ m fun chk j hj => (bytesAt_byte _ _ h.size.le hj).trans (hm chk j)]
        exact ⟨kenowMove_coreStep _ _, kenowMove_coreOnly _ _⟩
      refine ⟨fun hge hlt => hram (.inl ⟨hge, hlt⟩) fun chk j => ?_, fun hge hlt => hram (.inr ⟨hge, hlt⟩) fun chk j => ?_⟩
      · rw [if_pos (regionOf_kenow hge hlt)]
      · rw [if_neg (regionOf_ram hge hlt)]
    · rintro e rfl hal
      refine ⟨_, h.exec_kenow hr ho e, ?_⟩
      rw [kenowLoad_misaligned a v width putW s hal]
      exact kenowTrap_shows 3 s
  exact ⟨key (loadForm_lw p d a v lat), key (loadForm_lh p d a v lat), key (loadForm_lhu p d a v lat), key (loadForm_lb p d a v lat),
    key (loadForm_lbu p d a v lat), key (loadForm_flw p d a v lat)⟩

end Sys2Proof.Machine
end

section
/-! PROOF. O22: stores. -/

namespace Sys2Proof.Machine

open Sys2Proof

/-! ## The four stores -/

/-- What SW, SH, SB and FSW have in common: `src` is the register whose low bytes are stored. -/
structure StoreForm (p : Fin 25) (a : BitVec 5) (v : BitVec 16) (i : Ecc → Instr) (o : CoreOp) (width : Nat) (src : Core → Word) : Prop where
  runs : ∀ e s, exec (i e) s = coreCmd p o 0 e s
  engine : ∀ q lat e s, engineOp q o lat e s = engineStore q o a v width src e (issueCycle (s.lp q) o)
    (unitFlush q (issueCycle (s.lp q) o) (s.advance (issueCycle (s.lp q) o)))
  kenow : ∀ s, kenowOp o s = kenowStore a v width src { s with ken := { s.ken with wait := false } }

section
variable (p : Fin 25) (b a : BitVec 5) (v : BitVec 16)

theorem storeForm_sw : StoreForm p a v (fun e => .sw ⟨p, e⟩ b a v) (.store .sw b a v) 4 fun c => c.rx b := ⟨fun _ _ => rfl, fun _ _ _ _ => rfl, fun _ => rfl⟩
theorem storeForm_sh : StoreForm p a v (fun e => .sh ⟨p, e⟩ b a v) (.store .sh b a v) 2 fun c => c.rx b := ⟨fun _ _ => rfl, fun _ _ _ _ => rfl, fun _ => rfl⟩
theorem storeForm_sb : StoreForm p a v (fun e => .sb ⟨p, e⟩ b a v) (.store .sb b a v) 1 fun c => c.rx b := ⟨fun _ _ => rfl, fun _ _ _ _ => rfl, fun _ => rfl⟩
theorem storeForm_fsw : StoreForm p a v (fun e => .fsw ⟨p, e⟩ b a v) (.fsw b a v) 4 fun c => c.rf b := ⟨fun _ _ => rfl, fun _ _ _ _ => rfl, fun _ => rfl⟩

end

/-- Lead and checker store the same bytes. -/
def sameData (width : Nat) (w0 w1 : Word) : Prop := w1.extractLsb' 0 (8 * width) = w0.extractLsb' 0 (8 * width)

/-- Copies that name one address agree on a store where the bytes stored are the same. -/
theorem storeAgrees_iff {lead chk : Core} {a : BitVec 5} {v : BitVec 16} {width : Nat} {src : Core → Word} (h : lead.ea a v = chk.ea a v) :
    storeAgrees lead chk a v width src = true ↔ sameData width (src lead) (src chk) := by
  have hget : ∀ w : Word, wGet w 0 (8 * width) = (w.extractLsb' 0 (8 * width)).toNat := fun w => by rw [wGet, BitVec.extractLsb'_toNat]
  simp only [storeAgrees, h, hget, decide_true, Bool.true_and, decide_eq_true_iff, BitVec.toNat_inj, sameData]
  exact eq_comm

/-! ## A store of an engine core -/

/-- The state after the issue of a store that reaches no memory. -/
def storeMove (q : Fin 24) (o : CoreOp) (T : Nat) (u : State) : State :=
  engineMove q (fun _ => Core.nextPc) (fun pipe => pipe.issue o T 1 false 0) T u

/-- The issue of a store into local memory, held by corrections. -/
def localMove (q : Fin 24) (o : CoreOp) (e : Ecc) (T : Nat) (u : State) : State :=
  engineMove q (fun _ => Core.nextPc)
    (fun pipe => { pipe.issue o T 1 false 0 with next := (pipe.issue o T 1 false 0).next + eccCycles e }) T u

/-- What a store does at its address: `w0` and `w1` are the words of lead and checker. -/
def storeEnd (q : Fin 24) (o : CoreOp) (ea width : Nat) (w0 w1 : Word) (ok : Bool) (e : Ecc) (T : Nat) (u : State) : Space → State
  | .local_ =>
    if e = .uncorrectable then retirePair q 2 (u.advance T)
    else ((eccCount q e (localMove q o e T u)).modOwn false (memPut (localBase q + ea) width w0)).modOwn true (memPut (localBase q + ea) width w1)
  | .slot k => if width ≠ 4 then accErr (storeMove q o T u) else if ok then commitSlotWrite q k w0 (storeMove q o T u) else storeMove q o T u
  | .endReg => if width ≠ 4 then accErr (storeMove q o T u) else if ok then endRun q T (storeMove q o T u) else storeMove q o T u
  | .shared => if ok then { storeMove q o T u with mem := memPut ea width w0 u.mem } else storeMove q o T u
  | .window => accErr (storeMove q o T u)
  | .outside => accErr (storeMove q o T u)

theorem held_storeMove (q : Fin 24) (o : CoreOp) (e : Ecc) (T : Nat) (u : State) : held q e (storeMove q o T u) = localMove q o e T u := by
  rw [held, storeMove, engineMove, modLp_modLp]
  rfl

/-- A store of an engine core whose copies name one address. -/
theorem engineStore_eq (q : Fin 24) (o : CoreOp) (a : BitVec 5) (v : BitVec 16) (width : Nat) (src : Core → Word) (e : Ecc) (T : Nat) (u : State)
    (ea : Nat) (hea : ∀ chk, (u.copyOf q.castSucc chk).ea a v = ea) :
    engineStore q o a v width src e T (u.advance T) = storeEnd q o ea width (src (u.copyOf q.castSucc false)) (src (u.copyOf q.castSucc true))
      (storeAgrees (u.copyOf q.castSucc false) (u.copyOf q.castSucc true) a v width src) e T u (accessSpace ea width) := by
  have hcopy : ∀ chk, (u.advance T).copyOf q.castSucc chk = u.copyOf q.castSucc chk := fun _ => rfl
  have hmove : issued q o T 1 false 0 ((u.advance T).both q.castSucc Core.nextPc) = storeMove q o T u := by
    rw [State.both, issued_copies]
    simp only [ite_self, storeMove]
  unfold engineStore storeEnd
  simp only [hcopy, hea, hmove, held_storeMove]
  generalize hsp : accessSpace ea width = sp
  cases sp with
  | local_ => simp only [if_true]
  | window | slot | endReg | shared | outside => rfl

section
variable {s : State} {q : Fin 24} {a : BitVec 5} {v : BitVec 16} {i : Ecc → Instr} {o : CoreOp} {width : Nat} {src : Core → Word}

/-- A store that the pair can take, with the words of a PILUT that are due by its issue stored. -/
theorem StoreForm.exec_engine (h : StoreForm q.castSucc a v i o width src) (hr : s.ready q.castSucc = true)
    (ho : nextOp s q.castSucc = some o) (hea : (s.copyOf q.castSucc true).rx a = (s.copyOf q.castSucc false).rx a) (e : Ecc) :
    exec (i e) s = .next (storeEnd q o ((s.copyOf q.castSucc false).rx a + v.signExtend 32).toNat width (src (s.copyOf q.castSucc false))
      (src (s.copyOf q.castSucc true)) (storeAgrees (s.copyOf q.castSucc false) (s.copyOf q.castSucc true) a v width src) e
      (issueCycle (s.lp q) o) (flushed s q.castSucc o)
      (accessSpace ((s.copyOf q.castSucc false).rx a + v.signExtend 32).toNat width)) := by
  rw [h.runs, coreCmd_ready hr ho, runOp_castSucc, h.engine, issue_flushed, engineStore_eq _ _ _ _ _ _ _ _ _ _ (flushed_ea o v hea),
    (flushed_flushed s q o).copyOf, (flushed_flushed s q o).copyOf]

end

/-! ## Where a store goes -/

section
variable (q : Fin 24) (o : CoreOp) (ea width : Nat) (w0 w1 : Word) (ok : Bool) (T : Nat) (u : State)

/-- What every access that is refused shows: the copies have gone on, and ACC_ERR is told. -/
theorem storeMove_accErr (hd : u.dsgRun = false) : let t := accErr (storeMove q o T u)
    coreStep q.castSucc (fun _ c => { c with pc := c.pc + 4#32 }) u t ∧ t.flag Fld.LOOP_STATUS_ACC_ERR = true ∧
      t.flag Fld.SYS_STATUS_FAULT_NEW = true ∧ (t.lp q).run = (u.lp q).run ∧ u.faultFrame t [0x400D] := by
  have hdx : (storeMove q o T u).dsgRun = false := hd
  obtain ⟨hacc, hnew, hframe⟩ := accErr_shows _ hdx
  refine ⟨coreStep_congr (engineMove_coreStep _ _ _ _ _) (accErr_pair _ hdx) (accErr_ken _ hdx) (accErr_time _ hdx), hacc, hnew, ?_, hframe⟩
  have hlp : (accErr (storeMove q o T u)).lp q = (storeMove q o T u).lp q := by simp only [State.lp, accErr_pair _ hdx]
  rw [hlp, storeMove, lp_engineMove]
  rfl

/-- A store into local memory: each copy's bytes, and the issue held by corrections. -/
theorem storeEnd_local (e : Ecc) (he : e ≠ .uncorrectable) : let t := storeEnd q o ea width w0 w1 ok e T u .local_
    t.mem = memPut (localBase q + ea) width w0 u.mem ∧ t.chk = memPut (localBase q + ea) width w1 u.chk ∧
      coreStep q.castSucc (fun _ c => { c with pc := c.pc + 4#32 }) u t ∧ (t.lp q).pipe.next = T + 1 + eccCycles e ∧
      { t with mem := u.mem, chk := u.chk } = eccCount q e (localMove q o e T u) := by
  have hend : storeEnd q o ea width w0 w1 ok e T u .local_ = ((eccCount q e (localMove q o e T u)).modOwn false
      (memPut (localBase q + ea) width w0)).modOwn true (memPut (localBase q + ea) width w1) := if_neg he
  have hrest := eccCount_rest q e (localMove q o e T u)
  have hmem : (eccCount q e (localMove q o e T u)).mem = u.mem := (congrArg State.mem hrest :)
  have hchk : (eccCount q e (localMove q o e T u)).chk = u.chk := (congrArg State.chk hrest :)
  have hpair : (eccCount q e (localMove q o e T u)).pair = (localMove q o e T u).pair := (congrArg State.pair hrest :)
  intro t
  unfold t
  rw [hend]
  refine ⟨congrArg (memPut (localBase q + ea) width w0) hmem, congrArg (memPut (localBase q + ea) width w1) hchk,
    coreStep_congr (engineMove_coreStep _ _ _ _ _) hpair (congrArg State.ken hrest :) (congrArg State.time hrest :), ?_, ?_⟩
  · have hlp : (eccCount q e (localMove q o e T u)).lp q = (localMove q o e T u).lp q := by simp only [State.lp, hpair]
    show ((eccCount q e (localMove q o e T u)).lp q).pipe.next = _
    rw [hlp, localMove, lp_engineMove]
    rfl
  · rw [← hmem, ← hchk]
    rfl

/-- A commit slot that the task has takes the word. -/
theorem commitSlotWrite_stores (k : Fin 16) (n : Inst) (hrun : (u.lp q).run = some n) (hk : k.val < u.f (Fld.LOOP_D_OUT_OUT_N n.d)) :
    let t := commitSlotWrite q k w0 (storeMove q o T u)
    (t.lp q).run = some { n with slots := vset n.slots k w0, written := n.written ||| (1#16 <<< k.val) } ∧
      (∀ chk, t.copyOf q.castSucc chk = { u.copyOf q.castSucc chk with pc := (u.copyOf q.castSucc chk).pc + 4#32 }) ∧ coreOnly u t := by
  have hlp : (storeMove q o T u).lp q = (u.lp q).moved (fun _ => Core.nextPc) (fun pipe => pipe.issue o T 1 false 0) := lp_engineMove _ _ _ _ _
  have hrun' : ((storeMove q o T u).lp q).run = some n := by rw [hlp]; exact hrun
  have heq : commitSlotWrite q k w0 (storeMove q o T u) = (storeMove q o T u).modLp q fun l =>
      { l with run := some { n with slots := vset n.slots k w0, written := n.written ||| (1#16 <<< k.val) } } := by
    unfold commitSlotWrite
    rw [hrun']
    exact if_pos hk
  intro t
  unfold t
  rw [heq]
  refine ⟨by rw [lp_modLp_same], fun chk => ?_, rfl⟩
  rw [copyOf_castSucc, copyOf_castSucc, lp_modLp_same, hlp]
  cases chk <;> rfl

/-- One beyond the task's slots is refused. -/
theorem commitSlotWrite_beyond (k : Fin 16) (n : Inst) (hrun : (u.lp q).run = some n) (hk : u.f (Fld.LOOP_D_OUT_OUT_N n.d) ≤ k.val) :
    commitSlotWrite q k w0 (storeMove q o T u) = accErr (storeMove q o T u) := by
  have hrun' : ((storeMove q o T u).lp q).run = some n := by rw [storeMove, lp_engineMove]; exact hrun
  unfold commitSlotWrite
  rw [hrun']
  exact if_neg (Nat.not_lt.mpr hk)

/-- END keeps the region for the write-back and frees the pair for the next cycle (R148). -/
theorem endRun_ends (n : Inst) (hrun : (u.lp q).run = some n) (hn : n.dropped = false) : let t := endRun q T (storeMove q o T u)
    (t.lp q).run = none ∧ (t.lp q).live = false ∧ (t.lp q).freeAt = T + 1 ∧
      t.instOf n.d = some { n with place := .ended q, ended := T, region := regionWords u q n.d } ∧ t.f (Fld.LOOP_D_STAT_RUNNING n.d) = 0 ∧
      (∀ chk, t.copyOf q.castSucc chk = { u.copyOf q.castSucc chk with pc := (u.copyOf q.castSucc chk).pc + 4#32 }) ∧
      u.keeps t [.LOOP_D_STAT n.d] ∧ u.keepsMem t := by
  have hlp : (storeMove q o T u).lp q = (u.lp q).moved (fun _ => Core.nextPc) (fun pipe => pipe.issue o T 1 false 0) := lp_engineMove _ _ _ _ _
  have hrun' : ((storeMove q o T u).lp q).run = some n := by rw [hlp]; exact hrun
  have heq : endRun q T (storeMove q o T u) = (putInst { n with place := .ended q, ended := T, region := regionWords u q n.d }
      ((storeMove q o T u).modLp q fun l => { l.clear with freeAt := T + 1 })).lower (Fld.LOOP_D_STAT_RUNNING n.d) := by
    unfold endRun
    rw [hrun']
    exact if_neg (by rw [hn]; decide)
  intro t
  have ht : t.lp q = { ((storeMove q o T u).lp q).clear with freeAt := T + 1 } := by
    unfold t
    rw [heq]
    exact lp_modLp_same _ _ _
  refine ⟨by rw [ht]; rfl, by rw [ht]; rfl, by rw [ht], ?_, ?_, fun chk => ?_, fun r hr => ?_, ?_, ?_⟩
  · unfold t
    rw [heq]
    exact List.find?_cons_of_pos (by simp)
  · unfold t
    rw [heq]
    exact f_setF _ (Fld.LOOP_D_STAT_RUNNING n.d) 0 (show 18 + 1 ≤ 32 by decide)
  · rw [copyOf_castSucc, copyOf_castSucc, ht, hlp]
    cases chk <;> rfl
  · unfold t
    rw [heq]
    exact rd_setF_ne _ (Fld.LOOP_D_STAT_RUNNING n.d) 0 r (by rintro rfl; exact hr (List.mem_singleton.mpr rfl))
  · unfold t; rw [heq]; rfl
  · unfold t; rw [heq]; rfl

end

/-! ## The outcomes of a store on an engine core -/

section
variable {s : State} {q : Fin 24} {a : BitVec 5} {v : BitVec 16} {i : Ecc → Instr} {o : CoreOp} {width : Nat} {src : Core → Word}
  (h : StoreForm q.castSucc a v i o width src) (hr : s.ready q.castSucc = true) (ho : nextOp s q.castSucc = some o)
  (hea : (s.copyOf q.castSucc true).rx a = (s.copyOf q.castSucc false).rx a)
include h hr ho hea

/-- The store ends as `storeEnd` says of the part of the space at its address. -/
theorem StoreForm.gives_at (e : Ecc) {sp : Space} {P : State → Prop}
    (hsp : accessSpace ((s.copyOf q.castSucc false).rx a + v.signExtend 32).toNat width = sp)
    (hP : P (storeEnd q o ((s.copyOf q.castSucc false).rx a + v.signExtend 32).toNat width (src (s.copyOf q.castSucc false))
      (src (s.copyOf q.castSucc true)) (storeAgrees (s.copyOf q.castSucc false) (s.copyOf q.castSucc true) a v width src) e
      (issueCycle (s.lp q) o) (flushed s q.castSucc o) sp)) : gives (i e) s P := by
  subst hsp
  exact ⟨_, h.exec_engine hr ho hea e, hP⟩

omit h hr ho in
theorem storeAgrees_castSucc : storeAgrees (s.copyOf q.castSucc false) (s.copyOf q.castSucc true) a v width src = true ↔
    sameData width (src (s.copyOf q.castSucc false)) (src (s.copyOf q.castSucc true)) :=
  storeAgrees_iff (by rw [Core.ea, Core.ea, hea])

theorem StoreForm.gives_refused (e : Ecc) (hd : s.dsgRun = false) {sp : Space}
    (hsp : accessSpace ((s.copyOf q.castSucc false).rx a + v.signExtend 32).toNat width = sp)
    (hend : storeEnd q o ((s.copyOf q.castSucc false).rx a + v.signExtend 32).toNat width (src (s.copyOf q.castSucc false))
      (src (s.copyOf q.castSucc true)) (storeAgrees (s.copyOf q.castSucc false) (s.copyOf q.castSucc true) a v width src) e
      (issueCycle (s.lp q) o) (flushed s q.castSucc o) sp = accErr (storeMove q o (issueCycle (s.lp q) o) (flushed s q.castSucc o))) :
    gives (i e) s fun t => coreStep q.castSucc (fun _ c => { c with pc := c.pc + 4#32 }) (flushed s q.castSucc o) t ∧
      t.flag Fld.LOOP_STATUS_ACC_ERR = true ∧ t.flag Fld.SYS_STATUS_FAULT_NEW = true ∧ (t.lp q).run = (s.lp q).run ∧
      (flushed s q.castSucc o).faultFrame t [0x400D] := by
  have hflush := flushed_flushed s q o
  refine h.gives_at hr ho hea e hsp ?_
  rw [hend]
  obtain ⟨hstep, hacc, hnew, hrun, hframe⟩ := storeMove_accErr q o (issueCycle (s.lp q) o) (flushed s q.castSucc o)
    ((dsgRun_congr (hflush.rd _)).trans hd)
  exact ⟨hstep, hacc, hnew, hrun.trans (hflush.run q), hframe⟩

/-- A store into local memory (R134, R135). -/
theorem StoreForm.gives_local (e : Ecc) (he : e ≠ .uncorrectable) :
    let ea := ((s.copyOf q.castSucc false).rx a + v.signExtend 32).toNat
    let u := flushed s q.castSucc o
    accessSpace ea width = .local_ →
    gives (i e) s fun t => (∀ chk, t.own chk = memPut (localBase q + ea) width (src (s.copyOf q.castSucc chk)) (u.own chk)) ∧
      coreStep q.castSucc (fun _ c => { c with pc := c.pc + 4#32 }) u t ∧ (t.lp q).pipe.next = issueCycle (s.lp q) o + 1 + eccCycles e ∧
      { t with mem := u.mem, chk := u.chk } = eccCount q e (localMove q o e (issueCycle (s.lp q) o) u) := by
  intro ea u hsp
  refine h.gives_at hr ho hea e hsp ?_
  obtain ⟨hmem, hchk, hrest⟩ := storeEnd_local q o ea width (src (s.copyOf q.castSucc false)) (src (s.copyOf q.castSucc true))
    (storeAgrees (s.copyOf q.castSucc false) (s.copyOf q.castSucc true) a v width src) (issueCycle (s.lp q) o) u e he
  exact ⟨fun chk => by cases chk; exacts [hmem, hchk], hrest⟩

theorem StoreForm.gives_retired :
    let ea := ((s.copyOf q.castSucc false).rx a + v.signExtend 32).toNat
    let u := flushed s q.castSucc o
    accessSpace ea width = .local_ →
    gives (i .uncorrectable) s fun t => t.pairSt q = pairRetired ∧ u.keepsOutside t [0x400D] ∧ u.keepsMem t := by
  intro ea u hsp
  obtain ⟨hst, hregs, hmem⟩ := retirePair_shows q 2 (u.advance (issueCycle (s.lp q) o))
  exact h.gives_at hr ho hea _ hsp ⟨hst, hregs, hmem⟩

/-- A store into shared SRAM, or one that lead and checker do not agree on (R358). -/
theorem StoreForm.gives_shared (e : Ecc) :
    let ea := ((s.copyOf q.castSucc false).rx a + v.signExtend 32).toNat
    let u := flushed s q.castSucc o
    let same := sameData width (src (s.copyOf q.castSucc false)) (src (s.copyOf q.castSucc true))
    accessSpace ea width = .shared →
    gives (i e) s fun t => (same → t.mem = memPut ea width (src (s.copyOf q.castSucc false)) u.mem) ∧ (¬ same → t.mem = u.mem) ∧
      coreStep q.castSucc (fun _ c => { c with pc := c.pc + 4#32 }) u t ∧ coreOnly u { t with mem := u.mem } := by
  intro ea u same hsp
  refine h.gives_at hr ho hea e hsp ?_
  have hagree := storeAgrees_castSucc (v := v) (width := width) (src := src) hea
  have hmove : coreStep q.castSucc (fun _ c => { c with pc := c.pc + 4#32 }) u (storeMove q o (issueCycle (s.lp q) o) u) :=
    engineMove_coreStep _ _ _ _ _
  by_cases hsame : same
  · rw [hagree.mpr hsame]
    exact ⟨fun _ => rfl, fun hn => absurd hsame hn, coreStep_congr hmove rfl rfl rfl, rfl⟩
  · rw [Bool.not_eq_true _ |>.mp (mt hagree.mp hsame)]
    exact ⟨fun hs => absurd hs hsame, fun _ => rfl, hmove, rfl⟩

/-- A word for a commit slot, the same of both copies. -/
theorem StoreForm.gives_slot (e : Ecc) (k : Fin 16) (n : Inst) (hw : width = 4) (hrun : (s.lp q).run = some n) :
    let ea := ((s.copyOf q.castSucc false).rx a + v.signExtend 32).toNat
    let u := flushed s q.castSucc o
    accessSpace ea width = .slot k → sameData width (src (s.copyOf q.castSucc false)) (src (s.copyOf q.castSucc true)) →
    k.val < s.f (Fld.LOOP_D_OUT_OUT_N n.d) →
    gives (i e) s fun t =>
      (t.lp q).run = some { n with slots := vset n.slots k (src (s.copyOf q.castSucc false)), written := n.written ||| (1#16 <<< k.val) } ∧
      (∀ chk, t.copyOf q.castSucc chk = { s.copyOf q.castSucc chk with pc := (s.copyOf q.castSucc chk).pc + 4#32 }) ∧ coreOnly u t := by
  intro ea u hsp hsame hk
  have hflush : Flushed q s u := flushed_flushed s q o
  have hout : u.f (Fld.LOOP_D_OUT_OUT_N n.d) = s.f (Fld.LOOP_D_OUT_OUT_N n.d) := f_congr _ (hflush.rd _)
  refine h.gives_at hr ho hea e hsp ?_
  rw [storeEnd, if_neg (by simp [hw]), if_pos ((storeAgrees_castSucc hea).mpr hsame)]
  obtain ⟨hnew, hcopy, honly⟩ := commitSlotWrite_stores q o (src (s.copyOf q.castSucc false)) (issueCycle (s.lp q) o) u k n
    ((hflush.run q).trans hrun) (by rw [hout]; exact hk)
  exact ⟨hnew, fun chk => (hcopy chk).trans (by rw [hflush.copyOf]), honly⟩

/-- A word for END, the same of both copies (R148). -/
theorem StoreForm.gives_end (e : Ecc) (n : Inst) (hw : width = 4) (hrun : (s.lp q).run = some n) (hn : n.dropped = false) :
    let ea := ((s.copyOf q.castSucc false).rx a + v.signExtend 32).toNat
    let u := flushed s q.castSucc o
    accessSpace ea width = .endReg → sameData width (src (s.copyOf q.castSucc false)) (src (s.copyOf q.castSucc true)) →
    gives (i e) s fun t => (t.lp q).run = none ∧ (t.lp q).live = false ∧ (t.lp q).freeAt = issueCycle (s.lp q) o + 1 ∧
      t.instOf n.d = some { n with place := .ended q, ended := issueCycle (s.lp q) o, region := regionWords u q n.d } ∧
      t.f (Fld.LOOP_D_STAT_RUNNING n.d) = 0 ∧
      (∀ chk, t.copyOf q.castSucc chk = { s.copyOf q.castSucc chk with pc := (s.copyOf q.castSucc chk).pc + 4#32 }) ∧
      s.keeps t [.LOOP_D_STAT n.d] ∧ u.keepsMem t := by
  intro ea u hsp hsame
  have hflush : Flushed q s u := flushed_flushed s q o
  refine h.gives_at hr ho hea e hsp ?_
  rw [storeEnd, if_neg (by simp [hw]), if_pos ((storeAgrees_castSucc hea).mpr hsame)]
  obtain ⟨hnone, hlive, hfree, hinst, hstat, hcopy, hkeeps, hmem⟩ := endRun_ends q o (issueCycle (s.lp q) o) u n ((hflush.run q).trans hrun) hn
  exact ⟨hnone, hlive, hfree, hinst, hstat, fun chk => (hcopy chk).trans (by rw [hflush.copyOf]),
    fun r hr => (hkeeps r hr).trans (hflush.rd r), hmem⟩

/-- A slot that the task does not have. -/
theorem StoreForm.gives_beyond (e : Ecc) (hd : s.dsgRun = false) (k : Fin 16) (n : Inst) (hw : width = 4) (hrun : (s.lp q).run = some n)
    (hsp : accessSpace ((s.copyOf q.castSucc false).rx a + v.signExtend 32).toNat width = .slot k)
    (hsame : sameData width (src (s.copyOf q.castSucc false)) (src (s.copyOf q.castSucc true))) (hk : s.f (Fld.LOOP_D_OUT_OUT_N n.d) ≤ k.val) :
    gives (i e) s fun t => coreStep q.castSucc (fun _ c => { c with pc := c.pc + 4#32 }) (flushed s q.castSucc o) t ∧
      t.flag Fld.LOOP_STATUS_ACC_ERR = true ∧ t.flag Fld.SYS_STATUS_FAULT_NEW = true ∧ (t.lp q).run = (s.lp q).run ∧
      (flushed s q.castSucc o).faultFrame t [0x400D] := by
  have hflush := flushed_flushed s q o
  have hout : (flushed s q.castSucc o).f (Fld.LOOP_D_OUT_OUT_N n.d) = s.f (Fld.LOOP_D_OUT_OUT_N n.d) := f_congr _ (hflush.rd _)
  refine h.gives_refused hr ho hea e hd hsp ?_
  rw [storeEnd, if_neg (by simp [hw]), if_pos ((storeAgrees_castSucc hea).mpr hsame)]
  exact commitSlotWrite_beyond q o _ _ _ k n ((hflush.run q).trans hrun) (by rw [hout]; exact hk)

/-- A store outside the space, or one narrower than a word at a slot or END. -/
theorem StoreForm.gives_outside (e : Ecc) (hd : s.dsgRun = false) :
    let ea := ((s.copyOf q.castSucc false).rx a + v.signExtend 32).toNat
    ea % width ≠ 0 ∨ (0x10000 ≤ ea ∧ ea < 0x10100) ∨ (0x10100 ≤ ea ∧ ea < 0x10144 ∧ width ≠ 4) ∨
      (0x10144 ≤ ea ∧ ea < 0x10000000) ∨ 0x103F0000 ≤ ea →
    gives (i e) s fun t => coreStep q.castSucc (fun _ c => { c with pc := c.pc + 4#32 }) (flushed s q.castSucc o) t ∧
      t.flag Fld.LOOP_STATUS_ACC_ERR = true ∧ t.flag Fld.SYS_STATUS_FAULT_NEW = true ∧ (t.lp q).run = (s.lp q).run ∧
      (flushed s q.castSucc o).faultFrame t [0x400D] := by
  intro ea hno
  by_cases hal : ea % width = 0
  · have hsp := accessSpace_aligned hal
    by_cases hslot : 0x10100 ≤ ea ∧ ea < 0x10144
    · have hw : width ≠ 4 := by omega
      by_cases hlt : ea < 0x10140
      · exact h.gives_refused hr ho hea e hd (hsp.trans (spaceOf_slotAt hslot.1 hlt)) (if_pos hw)
      · exact h.gives_refused hr ho hea e hd (hsp.trans (spaceOf_end (by omega) hslot.2)) (if_pos hw)
    · by_cases hwin : 0x10000 ≤ ea ∧ ea < 0x10060
      · exact h.gives_refused hr ho hea e hd (hsp.trans (spaceOf_window hwin.1 hwin.2)) rfl
      · exact h.gives_refused hr ho hea e hd (hsp.trans (spaceOf_outside (by omega))) rfl
  · exact h.gives_refused hr ho hea e hd (accessSpace_misaligned hal) rfl

end

/-! ## A store of Kenow -/

theorem StoreForm.exec_kenow {s : State} {a : BitVec 5} {v : BitVec 16} {i : Ecc → Instr} {o : CoreOp} {width : Nat} {src : Core → Word}
    (h : StoreForm 24 a v i o width src) (hr : s.ready 24 = true) (ho : nextOp s 24 = some o) (e : Ecc) :
    exec (i e) s = .next (kenowStore a v width src { s with ken := { s.ken with wait := false } }) := by
  rw [h.runs, coreCmd_ready hr ho, ← h.kenow]
  rfl

section
variable (a : BitVec 5) (v : BitVec 16) (width : Nat) (src : Core → Word) (s : State) (ea : Nat) (hea : ∀ chk, (s.copyOf 24 chk).ea a v = ea)
include hea

theorem kenowStore_misaligned (h : ea % width ≠ 0) : kenowStore a v width src { s with ken := { s.ken with wait := false } } =
    kenowTrap 3 { s with ken := { s.ken with wait := false } } := if_pos (by rw [← hea false] at h; exact h)

/-- Each copy stores into its own memory. -/
theorem kenowStore_own (hal : ea % width = 0) (hge : 0x08000000 ≤ ea) (hlt : ea < 0x08080000) :
    kenowStore a v width src { s with ken := { s.ken with wait := false } } = { kenowMove (fun _ => Core.nextPc) s with
      mem := memPut ea width (src (s.copyOf 24 false)) s.mem, chk := memPut ea width (src (s.copyOf 24 true)) s.chk } := by
  unfold kenowStore
  simp only [show ∀ chk, ({ s with ken := { s.ken with wait := false } } : State).copyOf 24 chk = s.copyOf 24 chk from fun _ => rfl, hea, hal,
    regionOf_kenow hge hlt, ne_eq, not_true_eq_false, if_false, if_true]
  rfl

/-- The lead's word goes to shared SRAM once the copies agree on it. -/
theorem kenowStore_shared (hal : ea % width = 0) (hge : 0x10000000 ≤ ea) (hlt : ea < 0x103F0000) :
    kenowStore a v width src { s with ken := { s.ken with wait := false } } =
      if storeAgrees (s.copyOf 24 false) (s.copyOf 24 true) a v width src then
        { kenowMove (fun _ => Core.nextPc) s with mem := memPut ea width (src (s.copyOf 24 false)) s.mem }
      else kenowMove (fun _ => Core.nextPc) s := by
  unfold kenowStore
  simp only [show ∀ chk, ({ s with ken := { s.ken with wait := false } } : State).copyOf 24 chk = s.copyOf 24 chk from fun _ => rfl, hea, hal,
    busWrite, regionOf_sram hge hlt, ne_eq, not_true_eq_false, if_false, reduceCtorEq]
  rfl

end

/-! ## The obligation -/

/-- Settles O22: a store is the move that `storeMove`, `localMove` or `kenowMove` makes of the copies, and what `storeEnd` does at its address. -/
theorem storesWriteTheSpaceOfTheCore : Obligations.StoresWriteTheSpaceOfTheCore := by
  intro s p b a v hr hea hd ea next stores
  have key : ∀ {i : Ecc → Instr} {o : CoreOp} {width : Nat} {src : Core → Word}, StoreForm p a v i o width src → stores i o width src := by
    intro i o width src h ho u put same own shared outside
    refine ⟨?_, ?_, ?_, ?_⟩
    · rintro q e rfl
      have hflush : Flushed q s u := flushed_flushed s q o
      have hslot : ∀ k : Fin 16, width = 4 → ea = 0x10100 + 4 * k.val → accessSpace ea width = .slot k := fun k hw hk => by
        rw [hw, hk, accessSpace_aligned (by omega), spaceOf_slot]
      refine ⟨fun hal hlt => ?_, fun hal hge hlt => ?_, fun k n hw hsame hk hn => ⟨fun hlt => ?_, fun hge => ?_⟩,
        fun n hw hsame he hn hkeep => ?_, fun hno => ?_⟩
      · have hsp : accessSpace ea width = .local_ := (accessSpace_aligned hal).trans (spaceOf_local hlt)
        refine ⟨?_, fun m n => ?_, h.gives_retired hr ho hea hsp⟩
        · obtain ⟨t, hexec, hown, hstep, -, hrest⟩ := h.gives_local hr ho hea .ok (by decide) hsp
          refine ⟨t, hexec, fun chk x => ?_, hstep, ?_⟩
          · rw [hown]; exact memGet_memPut _ _ _ _ x
          · show coreOnly u _
            rw [hrest]
            rfl
        · obtain ⟨t, hexec, hown, hstep, hnext, hrest⟩ := h.gives_local hr ho hea (.corrected m n) (by simp) hsp
          have hrd : ∀ r, t.rd r = (eccCount q (.corrected m n) (localMove q o (.corrected m n) (issueCycle (s.lp q) o) u)).rd r := fun r =>
            (congrArg (fun x : State => x.rd r) hrest :)
          refine ⟨t, hexec, fun chk x => ?_, hstep, ?_, fun r hr => (hrd r).trans (eccCount_keeps q _ _ r hr), hnext⟩
          · rw [hown]; exact memGet_memPut _ _ _ _ x
          · rw [f_congr _ (hrd _), eccCount_shows]
            exact congrArg (fun ce => min 65535 (ce + (m + n))) (f_congr (Fld.LOOP_P_ECC_CE q) (hflush.rd _))
      · obtain ⟨t, hexec, hsame, hdiffer, hstep, hrest⟩ := h.gives_shared hr ho hea e ((accessSpace_aligned hal).trans (spaceOf_shared hge hlt))
        exact ⟨t, hexec, fun hs x => by rw [hsame hs]; exact memGet_memPut _ _ _ _ x, hdiffer, hstep, hrest⟩
      · exact h.gives_slot hr ho hea e k n hw hn (hslot k hw hk) hsame hlt
      · exact h.gives_beyond hr ho hea e hd k n hw hn (hslot k hw hk) hsame hge
      · have hsp : accessSpace ea width = .endReg := by
          rw [hw, he, accessSpace_aligned (by decide), spaceOf_end (by decide) (by decide)]
        exact h.gives_end hr ho hea e n hw hn hkeep hsp hsame
      · exact h.gives_outside hr ho hea e hd hno
    · rintro e rfl hal hge hlt
      refine ⟨_, h.exec_kenow hr ho e, ?_⟩
      rw [kenowStore_own a v width src s ea (copies_ea hea) hal hge hlt]
      exact ⟨fun chk x => by cases chk <;> exact memGet_memPut _ _ _ _ x,
        coreStep_congr (kenowMove_coreStep (fun _ => Core.nextPc) s) rfl rfl rfl, rfl⟩
    · rintro e rfl hal hge hlt
      have hagree : storeAgrees (s.copyOf 24 false) (s.copyOf 24 true) a v width src = true ↔ same :=
        storeAgrees_iff ((copies_ea hea false).trans (copies_ea hea true).symm)
      have hmove := kenowMove_coreStep (fun _ => Core.nextPc) s
      refine ⟨_, h.exec_kenow hr ho e, ?_⟩
      rw [kenowStore_shared a v width src s ea (copies_ea hea) hal hge hlt]
      by_cases hs : same
      · rw [if_pos (hagree.mpr hs)]
        exact ⟨fun _ x => memGet_memPut _ _ _ _ x, fun hn => absurd hs hn, coreStep_congr hmove rfl rfl rfl, rfl⟩
      · rw [if_neg (mt hagree.mp hs)]
        exact ⟨fun h => absurd h hs, fun _ => rfl, hmove, rfl⟩
    · rintro e rfl hal
      refine ⟨_, h.exec_kenow hr ho e, ?_⟩
      rw [kenowStore_misaligned a v width src s ea (copies_ea hea) hal]
      exact kenowTrap_shows 3 s
  exact ⟨key (storeForm_sw p b a v), key (storeForm_sh p b a v), key (storeForm_sb p b a v), key (storeForm_fsw p b a v)⟩

end Sys2Proof.Machine
end

section
/-! SUPPORT. What the other blocks leave of the Mandrel (02): faults, gate timers, the Hallmark's samples and the line bus change neither a
register of it nor a generator, nor device time, the latest read and the lock of the configuration. -/

namespace Sys2Proof.Machine

open Sys2Proof

/-! ## The relation -/

/-- The registers of the Mandrel (R76). -/
def Reg.inMan : Reg → Bool
  | .MAN_AM_FIRED _ | .MAN_AM_JUMPED _ | .MAN_AM_IE _ | .MAN_AG_CTL _ | .MAN_AG_CPR _ | .MAN_AG_GEAR_NUM _ | .MAN_AG_GEAR_DEN _ | .MAN_AG_PP _
  | .MAN_AG_EOFS _ | .MAN_AG_JUMP_TH _ | .MAN_AG_TMO _ | .MAN_AG_RAMP_TGT _ | .MAN_AG_RAMP_ACC _ | .MAN_AG_STATUS _ | .MAN_AG_JUMP_LAST _
  | .MAN_AG_ELEC _ | .MAN_AG_MECH _ | .MAN_AG_SPEED _ | .MAN_AG_TURNS _ | .MAN_AG_TSNAP _ | .MAN_AG_LATCH_POS _ | .MAN_AG_LATCH_T _
  | .MAN_AM_CTL _ | .MAN_AM_ANGLE _ | .MAN_AM_HYST _ | .MAN_AM_TS _ => true
  | _ => false

/-- What an operation of another block leaves. -/
structure Aside (s t : State) : Prop where
  time : t.time = s.time
  rdata : t.rdata = s.rdata
  man : t.man = s.man
  regs : ∀ r, r.inMan = true → t.rd r = s.rd r
  locked : t.locked = s.locked

theorem locked_congr {s t : State} (h : t.rd .SYS_STATE = s.rd .SYS_STATE) : t.locked = s.locked := flag_congr _ h

theorem Reg.inSource_of_inMan (r : Reg) (h : r.inMan = true) : r.inSource = false := by
  unfold Reg.inMan at h
  split at h
  case h_27 => cases h
  all_goals rfl

theorem Reg.inRec_of_inMan (r : Reg) (h : r.inMan = true) : r.inRec = false := by
  by_contra hn
  have hsrc := Reg.inSource_of_inGroup r (Reg.inGroup_of_inRec r (by simpa using hn))
  rw [Reg.inSource_of_inMan r h] at hsrc
  cases hsrc

namespace Aside

variable {L : Reg → Bool} {s t u : State}

theorem of_regs (hr : t.regs = s.regs) (ht : t.time = s.time) (hd : t.rdata = s.rdata) (hm : t.man = s.man) : Aside s t :=
  have hrd : ∀ r, t.rd r = s.rd r := fun r => by simp only [State.rd, hr]
  ⟨ht, hd, hm, fun r _ => hrd r, locked_congr (hrd _)⟩

theorem refl (s : State) : Aside s s := of_regs rfl rfl rfl rfl

theorem trans (h : Aside s t) (k : Aside t u) : Aside s u :=
  ⟨k.time.trans h.time, k.rdata.trans h.rdata, k.man.trans h.man, fun r hr => (k.regs r hr).trans (h.regs r hr), k.locked.trans h.locked⟩

theorem foldl {ι : Type} (g : State → ι → State) (l : List ι) (hg : ∀ i s, Aside s (g s i)) (s : State) : Aside s (l.foldl g s) := by
  induction l generalizing s with
  | nil => exact refl s
  | cons i l ih => exact (hg i s).trans (ih (g s i))

theorem ite (c : Prop) [Decidable c] (h : Aside s t) : Aside s (if c then t else s) := by
  split
  · exact h
  · exact refl s

/-- A reaction that does not change the device state. -/
theorem of_reacted (h : Reacted L s t) (hL : ∀ r, r.inMan = true → L r = false) (hs : L .SYS_STATE = false) : Aside s t where
  time := h.time
  rdata := (congrArg State.rdata h.rest :)
  man := (congrArg State.man h.rest :)
  regs r hr := h.regs r (hL r hr)
  locked := locked_congr (h.regs _ hs)

theorem of_recorded (h : Recorded s t) : Aside s t := of_reacted (.of_recorded h fun _ hr => hr) Reg.inRec_of_inMan rfl

theorem of_source (h : Reacted Reg.inSource s t) : Aside s t := of_reacted h Reg.inSource_of_inMan rfl

/-- A register of another block written. -/
theorem wr (s : State) (r : Reg) (w : Word) (hr : r.inMan = false) (hs : r ≠ .SYS_STATE) : Aside s (s.wr r w) :=
  ⟨rfl, rfl, rfl, fun q hq => rd_wr_ne s r q w (by rintro rfl; rw [hr] at hq; cases hq), locked_congr (rd_wr_ne s r _ w hs.symm)⟩

theorem noteHot (s : State) (r : Reg) (m : Word) : Aside s (s.noteHot r m) := of_regs rfl rfl rfl rfl

theorem setF (s : State) (F : RF) (v : Nat) (hr : F.reg.inMan = false) (hs : F.reg ≠ .SYS_STATE) : Aside s (s.setF F v) := wr s F.reg _ hr hs

theorem raise (s : State) (F : RF) (hr : F.reg.inMan = false) (hs : F.reg ≠ .SYS_STATE) : Aside s (s.raise F) :=
  (setF s F 1 hr hs).trans (noteHot _ _ _)

theorem modDcl (s : State) (f : DclSt → DclSt) : Aside s (s.modDcl f) := of_regs rfl rfl rfl rfl

/-- A field of SYS_STATE beside CFG_LOCKED set. -/
theorem setF_sysState (s : State) (lo width v : Nat) (h : Fld.SYS_STATE_CFG_LOCKED.lo + 1 ≤ lo ∨ lo + width ≤ Fld.SYS_STATE_CFG_LOCKED.lo) :
    Aside s (s.setF ⟨.SYS_STATE, lo, width⟩ v) :=
  ⟨rfl, rfl, rfl, fun q hq => rd_setF_ne s ⟨.SYS_STATE, lo, width⟩ v q (by rintro rfl; cases hq),
    congrArg (· != 0) (f_setF_beside s ⟨.SYS_STATE, lo, width⟩ Fld.SYS_STATE_CFG_LOCKED v rfl (by decide) h)⟩

theorem rd (h : Aside s t) {r : Reg} (hr : r.inMan = true) : t.rd r = s.rd r := h.regs r hr
theorem f (h : Aside s t) {F : RF} (hr : F.reg.inMan = true) : t.f F = s.f F := f_congr F (h.regs _ hr)
theorem flag (h : Aside s t) {F : RF} (hr : F.reg.inMan = true) : t.flag F = s.flag F := flag_congr F (h.regs _ hr)
theorem gen (h : Aside s t) (n : Fin 8) : t.gen n = s.gen n := by simp only [State.gen, h.man]

end Aside

/-! ## Faults (R48) and the discharge (R309 to R314) -/

theorem setSv_aside (v : Nat) (s : State) : Aside s (s.setSv v) := by
  unfold State.setSv
  extract_lets old s1 s2
  have h1 : Aside s s1 := (Aside.setF s Fld.ANV_STATUS_SV_STATE v rfl (by decide)).trans (.setF_sysState _ _ _ v (by decide))
  have h2 : Aside s1 s2 := .of_source (brakeDrop_reacted _ s1)
  split
  · exact h1.trans h2
  · exact (h1.trans h2).trans (.of_recorded (pushEvent_recorded _ _ _))

theorem setDev_aside (d : Nat) (s : State) : Aside s (setDev d s) := by
  unfold setDev
  split
  · exact .refl s
  · extract_lets old c s1
    have h1 : Aside s s1 := .of_source (brakeDrop_reacted _ s)
    exact ((h1.trans (.setF_sysState s1 _ _ d (by decide))).trans (.raise _ Fld.SYS_STATUS_STATE_CHG rfl (by decide))).trans
      (.of_recorded (pushEvent_recorded _ _ _))

theorem sourceActive0_aside (k : Fin 128) (t : Nat) (s : State) : Aside s (sourceActive0 k t s) := .of_source (sourceActive0_inSource k t s)

theorem auxToFault_aside (n : Fin 8) (t : Nat) (s : State) : Aside s (auxToFault n t s) :=
  .of_source ((auxToFault_inGroup n t s).mono Reg.inSource_of_inGroup)

theorem enterSafe0_aside (s : State) : Aside s (enterSafe0 s) := by
  unfold enterSafe0
  extract_lets s1 s2 s3
  have h1 : Aside s s1 := .of_regs rfl rfl rfl rfl
  have h3 : Aside s1 s3 := (setDev_aside devSafe s1).trans (.ite _ (setSv_aside svArmed s2))
  split
  · exact ((h1.trans h3).trans (sourceActive0_aside 117 _ s3)).trans (.of_recorded (faultFlush_recorded _))
  · split
    · exact (h1.trans ((Aside.setF_sysState s1 _ _ 1 (by decide)).trans (.noteHot _ _ _))).trans (sourceActive0_aside 117 _ _)
    · exact h1

theorem enterFault0_aside (s : State) : Aside s (enterFault0 s) := by
  unfold enterFault0
  extract_lets s1 s2
  have h1 : Aside s s1 := .of_regs rfl rfl rfl rfl
  split
  · exact h1
  · have h2 : Aside s1 s2 := (setDev_aside devFault s1).trans (sourceActive0_aside 117 _ _)
    exact ((h1.trans h2).trans (.foldl _ _ (fun n u => auxToFault_aside n u.now u) s2)).trans (.of_recorded (faultFlush_recorded _))

theorem recordFault0_aside (code : Nat) (s : State) : Aside s (recordFault0 code s) := by
  unfold recordFault0
  extract_lets s1
  have h1 : Aside s s1 := .of_recorded (recordCore_recorded code s)
  split
  · exact h1.trans (enterSafe0_aside s1)
  · split
    · exact h1.trans (enterFault0_aside s1)
    · exact h1

theorem setDsg_aside (v : Nat) (s : State) : Aside s (setDsg v s) := by
  unfold setDsg
  split
  · exact .refl s
  · exact (Aside.setF s Fld.PWM_DSC_DSG_STAT_DSG_STATE v rfl (by decide)).trans (.of_recorded (pushEvent_recorded _ _ _))

theorem dsgWord_aside (w : Word) (s : State) : Aside s (dsgWord w s) := .ite _ (.of_regs rfl rfl rfl rfl)

theorem dsgEndMethod_aside (s : State) : Aside s (dsgEndMethod s) := .ite _ (dsgWord_aside 0#32 s)

theorem dsgFail_aside (s : State) : Aside s (dsgFail s) :=
  ((((Aside.raise s Fld.PWM_DSC_DSG_STAT_FAIL rfl (by decide)).trans (dsgEndMethod_aside _)).trans
    (.setF _ Fld.PWM_DSC_DSG_STAT_ELAPSED _ rfl (by decide))).trans (setDsg_aside 5 _)).trans (recordFault0_aside _ _)

theorem dsgStart_aside (m : Nat) (s : State) : Aside s (dsgStart m s) := by
  unfold dsgStart
  extract_lets s1 s2 s3
  have h2 : Aside s s2 := (Aside.modDcl s _).trans (setDsg_aside _ s1)
  split
  · exact (h2.trans (.modDcl s2 _)).trans (dsgWord_aside _ s3)
  · exact h2

theorem dsgMethodFail_aside (m : Nat) (s : State) : Aside s (dsgMethodFail m s) := by
  unfold dsgMethodFail
  split
  · exact dsgFail_aside s
  · extract_lets s1 s2
    have h1 : Aside s s1 := (dsgEndMethod_aside s).trans (.raise _ Fld.PWM_DSC_DSG_STAT_ESC rfl (by decide))
    have h2 : Aside s s2 := (h1.trans (.modDcl s1 _)).trans (recordFault0_aside _ _)
    split
    · exact h2.trans (dsgStart_aside _ s2)
    · exact h2.trans (dsgFail_aside s2)

theorem dsgWatch_aside (s : State) : Aside s (dsgWatch s) := by
  unfold dsgWatch
  extract_lets n
  split
  · exact dsgFail_aside s
  · split
    · exact dsgMethodFail_aside 1 s
    · exact .refl s

theorem recordFault_aside (code : Nat) (s : State) : Aside s (recordFault code s) := (recordFault0_aside code s).trans (dsgWatch_aside _)

end Sys2Proof.Machine
end

section
/-! SUPPORT. The gate timers, the Hallmark's samples and the line bus as a mark or a jump reaches them (R60, R64, R72, R203, R231, R404, R430):
they leave the Mandrel aside. -/

namespace Sys2Proof.Machine

open Sys2Proof

/-! ## Output cells and patterns -/

/-- The registers that a jump can change in the gate timers, with the records that it makes (R231). -/
def Reg.inPat : Reg → Bool
  | .PWM_G_PAT_STATUS _ => true
  | r => r.inRec

theorem Reg.inPat_of_inRec (r : Reg) (h : r.inRec = true) : r.inPat = true := by unfold Reg.inPat; split <;> simp [h]

theorem Reg.inPat_of_inMan (r : Reg) (h : r.inMan = true) : r.inPat = false := by
  unfold Reg.inPat
  split
  · cases h
  · exact Reg.inRec_of_inMan r h

theorem Aside.of_pat {s t : State} (h : Reacted Reg.inPat s t) : Aside s t := of_reacted h Reg.inPat_of_inMan rfl

section Cells

variable {L : Reg → Bool}

theorem modCell_reacted (g : Fin 16) (c : Fin 9) (f : GCell → GCell) (s : State) : Reacted L s (s.modCell g c f) := .modGrp s g _

theorem actCell_reacted (g : Fin 16) (c : Fin 9) (t : Nat) (f : GCell → GCell) (s : State) : Reacted L s (s.actCell g c t f) :=
  (modCell_reacted g c f s).trans (.ite _ (.modGrp _ g _))

theorem setCmd_reacted (g : Fin 16) (c : Fin 9) (level : Bool) (t : Nat) (s : State) : Reacted L s (setCmd g c level t s) := by
  unfold setCmd
  split
  · exact .refl s
  · split
    · exact .refl s
    · split
      · exact actCell_reacted g c t _ s
      · exact actCell_reacted g c t _ s

theorem reCommand_reacted (g : Fin 16) (t : Nat) (s : State) : Reacted L s (reCommand g t s) :=
  .foldl _ _ (fun c _ u => .ite _ (setCmd_reacted g c _ t u)) s

theorem handover_reacted (g : Fin 4) (th old : Nat) (s : State) : Reacted L s (handover g th old s) :=
  (Reacted.modGrp s _ _).trans (.modGrp _ _ _)

end Cells

theorem takeLevel_inPat (g : Fin 4) (ph lvl : Nat) (cmds : List (Nat × Bool)) (t : Nat) (s : State) :
    Reacted Reg.inPat s (takeLevel g ph lvl cmds t s) := by
  unfold takeLevel
  extract_lets s1
  refine (Reacted.wr s (.PWM_G_PAT_STATUS g) _ rfl (by simp) : Reacted Reg.inPat s s1).trans (.foldl _ _ (fun c _ u => ?_) s1)
  split
  · exact setCmd_reacted _ _ _ _ u
  · exact .refl u

theorem patHandover_inPat (g : Fin 4) (ph : Nat) (s : State) : Reacted Reg.inPat s (patHandover g ph s) := by
  unfold patHandover
  extract_lets r s1
  have h1 : Reacted Reg.inPat s s1 := .modGrp s _ _
  split
  · exact .refl s
  · split
    · exact (h1.trans (.raise s1 (Fld.PWM_G_PAT_STATUS_PAT_ON g) rfl (by simp [Fld.PWM_G_PAT_STATUS_PAT_ON]))).trans (takeLevel_inPat _ _ _ _ _ _)
    · exact h1

theorem patJumped_raise (g : Fin 4) (s : State) : Reacted Reg.inPat s (s.raise (Fld.PWM_G_PAT_STATUS_JUMPED g)) :=
  .raise s _ rfl (by simp [Fld.PWM_G_PAT_STATUS_JUMPED])

/-! ## A fault or a jump: what it leaves where no discharge runs -/

/-- The registers that an event of a generator can change, with the jump and the records that it makes (R60, R231). -/
def Reg.inJump : Reg → Bool
  | .MAN_AG_STATUS _ | .MAN_AG_LATCH_POS _ | .MAN_AG_JUMP_LAST _ => true
  | r => r.inPat

theorem Reg.inJump_of_inPat (r : Reg) (h : r.inPat = true) : r.inJump = true := by unfold Reg.inJump; split <;> simp [h]

/-- The blocks of those registers (R33). -/
theorem Reg.block_of_inJump (r : Reg) (h : r.inJump = true) : r.addr / 0x10000 ∈ [0x4000, 0x4001, 0x4002, 0x4004, 0x4010] := by
  unfold Reg.inJump at h
  split at h
  case h_4 =>
    unfold Reg.inPat at h
    split at h
    · next n => simp only [Reg.addr, List.mem_cons]; omega
    · have := block_of_inRec _ h; simp only [List.mem_cons, List.not_mem_nil, or_false] at this ⊢; omega
  all_goals simp only [Reg.addr, List.mem_cons]; omega

/-- What an event of a generator leaves outside the Mandrel. -/
structure JumpFrame (s t : State) : Prop where
  regs : ∀ r, r.inJump = false → t.rd r = s.rd r
  mem : ∀ a, besideHlm a → memGet t.mem a = memGet s.mem a
  chk : t.chk = s.chk

namespace JumpFrame

variable {s t u : State}

theorem trans (h : JumpFrame s t) (k : JumpFrame t u) : JumpFrame s u :=
  ⟨fun r hr => (k.regs r hr).trans (h.regs r hr), fun a ha => (k.mem a ha).trans (h.mem a ha), k.chk.trans h.chk⟩

theorem of_pat (h : Reacted Reg.inPat s t) : JumpFrame s t :=
  ⟨fun r hr => h.regs r (by by_contra hn; rw [Reg.inJump_of_inPat r (by simpa using hn)] at hr; cases hr), h.mem, h.chk⟩

theorem dsgRun (h : JumpFrame s t) : t.dsgRun = s.dsgRun := dsgRun_congr (h.regs _ rfl)

theorem faultFrame (h : JumpFrame s t) : s.faultFrame t [0x4002, 0x4004, 0x4005] :=
  ⟨fun r hr => h.regs r (by
    by_contra hn
    have := Reg.block_of_inJump r (by simpa using hn)
    simp only [List.mem_cons, List.not_mem_nil, or_false, not_or] at this hr
    omega), h.mem, h.chk⟩

end JumpFrame

/-- What a jump does in other blocks: it leaves the Mandrel aside, and with no discharge under way it keeps the frame of a jump. -/
structure Struck (s t : State) : Prop extends Aside s t where
  quiet : s.dsgRun = false → JumpFrame s t

namespace Struck

variable {s t u : State}

theorem trans (h : Struck s t) (k : Struck t u) : Struck s u :=
  ⟨h.toAside.trans k.toAside, fun hd => (h.quiet hd).trans (k.quiet ((h.quiet hd).dsgRun.trans hd))⟩

theorem of_pat (h : Reacted Reg.inPat s t) : Struck s t := ⟨.of_pat h, fun _ => .of_pat h⟩

theorem foldl {ι : Type} (g : State → ι → State) (l : List ι) (hg : ∀ i s, Struck s (g s i)) (s : State) : Struck s (l.foldl g s) := by
  induction l generalizing s with
  | nil => exact of_pat (.refl s)
  | cons i l ih => exact (hg i s).trans (ih (g s i))

theorem ite (c : Prop) [Decidable c] (h : Struck s t) : Struck s (if c then t else s) := by
  split
  · exact h
  · exact of_pat (.refl s)

end Struck

/-- A code without reaction (R48). -/
theorem recordFault_struck (code : Nat) (s : State) (h : faultClass code ≠ 3) (h' : faultClass code ≠ 4) : Struck s (recordFault code s) :=
  ⟨recordFault_aside code s, fun hd => by
    rw [recordFault_eq_recordCore code s h h' hd]
    exact .of_pat (.of_recorded (recordCore_recorded code s) Reg.inPat_of_inRec)⟩

theorem patJumped_struck (g : Fin 4) (s : State) : Struck s (patJumped g s) :=
  (Struck.of_pat (patJumped_raise g s)).trans (recordFault_struck 0x1190 _ (by decide) (by decide))

/-- A jump reaches the groups that run a pattern on the generator (R231). -/
theorem patternJump_struck (n : Fin 8) (s : State) : Struck s (patternJump n s) := by
  refine .foldl _ _ (fun g u => .ite _ ?_) s
  split
  · exact (Struck.of_pat (.modGrp u _ _)).trans (patJumped_struck g _)
  · refine Struck.trans (.of_pat (.foldl _ _ (fun ph _ v => ?_) u)) (patJumped_struck g _)
    exact (patHandover_inPat g ph v).trans (takeLevel_inPat _ _ _ _ _ _)

/-! ## Transfers at a mark (R203) -/

/-- A register outside the Mandrel, with the fields and bits that an operation of another block sets. -/
theorem Aside.lower (s : State) (F : RF) (hr : F.reg.inMan = false) (hs : F.reg ≠ .SYS_STATE) : Aside s (s.lower F) := setF s F 0 hr hs
theorem Aside.putBit (s : State) (r : Reg) (i : Nat) (b : Bool) (hr : r.inMan = false) (hs : r ≠ .SYS_STATE) : Aside s (s.putBit r i b) :=
  wr s r _ hr hs

theorem Aside.modGrp (s : State) (g : Fin 16) (f : Group → Group) : Aside s (s.modGrp g f) := of_regs rfl rfl rfl rfl

theorem transferSel_aside (g : Fin 4) (th : Nat) (s : State) : Aside s (transferSel g th s) := by
  have hsel (u : State) (k : Nat) : Aside u (u.setF (Fld.PWM_G_PSEL_ACT_PSEL g) k) := .setF u _ k rfl (by simp [Fld.PWM_G_PSEL_ACT_PSEL])
  unfold transferSel
  extract_lets gg k old s1 s2 n s3 s4
  split
  · exact hsel s k
  · split
    · exact (Aside.raise s (Fld.PWM_G_PAT_STATUS_BADPAT g) rfl (by simp [Fld.PWM_G_PAT_STATUS_BADPAT])).trans (recordFault_aside _ _)
    · split
      · exact .refl s
      · have h2 : Aside s s2 := ((hsel s k).trans (.wr s1 (.PWM_G_PAT_HOV_T g) _ rfl (by simp))).trans
          (.raise _ (Fld.PWM_G_PAT_STATUS_HOVER g) rfl (by simp [Fld.PWM_G_PAT_STATUS_HOVER]))
        split
        · have h3 : Aside s2 s3 := .modGrp s2 gg _
          exact (h2.trans h3).trans (.ite _ (.modGrp s3 gg _))
        · split
          · have h4 : Aside s2 s4 := (Aside.lower s2 (Fld.PWM_G_PAT_STATUS_PAT_ON g) rfl (by simp [Fld.PWM_G_PAT_STATUS_PAT_ON])).trans
              (.of_pat (handover_reacted g th old _))
            exact (h2.trans h4).trans (.ite _ (patJumped_struck g s4).toAside)
          · exact h2.trans (.of_pat (handover_reacted g th old s2))

theorem transfer_aside (g : Fin 16) (th : Nat) (s : State) : Aside s (transfer g th s) := by
  unfold transfer
  extract_lets s1 s2 s3 s4
  have h1 : Aside s s1 := .setF s (Fld.PWM_G_PER_ACT_PER g) _ rfl (by simp [Fld.PWM_G_PER_ACT_PER])
  have h2 : Aside s1 s2 := .foldl _ _ (fun c u => .wr u (.PWM_G_CMP_ACT g c) _ rfl (by simp)) s1
  have h3 : Aside s2 s3 := (Aside.lower s2 (Fld.PWM_G_CTL_LOADALL g) rfl (by simp [Fld.PWM_G_CTL_LOADALL])).trans
    (.putBit _ .PWM_LOADALL _ _ rfl (by decide))
  have h4 : Aside s3 s4 := (Aside.modGrp s3 g _).trans (.raise _ (Fld.PWM_G_STATUS_XFER g) rfl (by simp [Fld.PWM_G_STATUS_XFER]))
  have h := ((h1.trans h2).trans h3).trans h4
  split
  · exact h.trans (transferSel_aside _ th s4)
  · exact h

theorem tryTransfer_aside (g : Fin 16) (mark : Bool) (cyc th : Nat) (s : State) : Aside s (tryTransfer g mark cyc th s) := by
  unfold tryTransfer
  extract_lets s1
  have h1 : Aside s s1 := .modGrp s g _
  split
  · split
    · split
      · exact h1.trans (transfer_aside g th s1)
      · exact (h1.trans (.raise s1 (Fld.PWM_G_STATUS_LATE g) rfl (by simp [Fld.PWM_G_STATUS_LATE]))).trans (recordFault_aside _ _)
    · exact h1
  · exact h1

/-! ## A period start (R194, R244, R264, R282) -/

theorem modCell_aside (g : Fin 16) (c : Fin 9) (f : GCell → GCell) (s : State) : Aside s (s.modCell g c f) := .modGrp s g _

theorem setCmd_aside (g : Fin 16) (c : Fin 9) (level : Bool) (t : Nat) (s : State) : Aside s (setCmd g c level t s) :=
  .of_pat (setCmd_reacted g c level t s)

theorem clearLatches_aside (g : Fin 16) (cyc : Nat) (s : State) : Aside s (clearLatches g cyc s) :=
  .foldl _ _ (fun w u => .ite _ ((Aside.setF u (Fld.CMP_WC_STAT_LAT_HI w) _ rfl (by simp [Fld.CMP_WC_STAT_LAT_HI])).trans
    (.setF _ (Fld.CMP_WC_STAT_LAT_LO w) _ rfl (by simp [Fld.CMP_WC_STAT_LAT_LO])))) s

theorem auxPeriod_aside (g : Fin 16) (cyc : Nat) (s : State) : Aside s (auxPeriod g cyc s) := by
  unfold auxPeriod
  split
  · exact .refl s
  · next n _ =>
    extract_lets a active s1
    split
    · exact ((auxToFault_aside n _ s).trans (.raise _ (Fld.AUX_CH_STATUS_PK_STUCK n) rfl (by simp [Fld.AUX_CH_STATUS_PK_STUCK]))).trans
        (recordFault_aside _ _)
    · have h1 : Aside s s1 := .of_regs rfl rfl rfl rfl
      exact h1.trans (.ite _ (.foldl _ _ (fun c u => .ite _ (modCell_aside g _ _ u)) s1))

theorem resumeGroup_aside (g : Fin 16) (cyc : Nat) (s : State) : Aside s (resumeGroup g cyc s) := by
  refine .ite _ ?_
  extract_lets t s1
  have h1 : Aside s s1 := (Aside.lower s (Fld.QNC_G_STATE_HOLD g) rfl (by simp [Fld.QNC_G_STATE_HOLD])).trans
    (.raise _ Fld.QNC_STATUS_RESUME rfl (by decide))
  refine h1.trans (.foldl _ _ (fun c u => .ite _ ?_) s1)
  split
  · split
    · exact modCell_aside g c _ u
    · exact modCell_aside g c _ u
  · exact modCell_aside g c _ u

theorem Aside.modPost (s : State) (f : PostSt → PostSt) : Aside s (s.modPost f) := of_regs rfl rfl rfl rfl

theorem postRel_aside (kind num tr : Nat) (s : State) : Aside s (postRel kind num tr s) := .modPost s _
theorem postCap_aside (code num t cyc : Nat) (s : State) : Aside s (postCap code num t cyc s) := .modPost s _
theorem postConv_aside (code num cyc at_ : Nat) (s : State) : Aside s (postConv code num cyc at_ s) := .modPost s _

theorem postDma_aside (req : Nat) (ch : Option (Fin 16)) (s : State) : Aside s (postDma req ch s) := .of_regs rfl rfl rfl rfl

theorem periodEvent_aside (g : Fin 16) (cyc : Nat) (s : State) : Aside s (periodEvent g cyc s) := by
  unfold periodEvent
  extract_lets t s1
  have h1 : Aside s s1 := .modPost s _
  exact (((h1.trans (postRel_aside _ _ _ _)).trans (postCap_aside _ _ _ _ _)).trans (postConv_aside _ _ _ _ _)).trans (postDma_aside _ _ _)

theorem periodBegin_aside (g : Fin 16) (cyc : Nat) (event : Bool) (s : State) : Aside s (periodBegin g cyc event s) := by
  unfold periodBegin
  extract_lets s1 s2
  have h1 : Aside s s1 := (clearLatches_aside g cyc s).trans (auxPeriod_aside g cyc _)
  have h2 : Aside s1 s2 := (Aside.of_pat (reCommand_reacted g _ s1)).trans (resumeGroup_aside g cyc _)
  exact (h1.trans h2).trans (.ite _ (periodEvent_aside g cyc s2))

theorem vpBegin_aside (g : Fin 16) (c : Fin 4) (t : Nat) (s : State) : Aside s (vpBegin g c t s) := by
  unfold vpBegin
  extract_lets k
  split
  · exact (modCell_aside g k _ s).trans (setCmd_aside g k _ t _)
  · exact (modCell_aside g k _ s).trans (setCmd_aside g k _ t _)

theorem vpFall_aside (g : Fin 16) (c : Fin 4) (t : Nat) (s : State) : Aside s (vpFall g c t s) :=
  (modCell_aside g _ _ s).trans (setCmd_aside g _ _ t _)

theorem vpRetime_aside (g : Fin 16) (old : State) (t : Nat) (s : State) (c : Fin 4) : Aside s (vpRetime g old t s c) := by
  unfold vpRetime
  extract_lets k x n
  split
  · exact .refl s
  · split
    · exact vpBegin_aside g c t s
    · split
      · split
        · exact ((Aside.modGrp s g _).trans (vpBegin_aside g c t _)).trans (periodBegin_aside g _ true _)
        · exact vpBegin_aside g c t s
      · split
        · exact vpFall_aside g c t s
        · exact .ite _ (modCell_aside g k _ s)

theorem transferEvent_aside (g : Fin 16) (mark : Bool) (cyc th : Nat) (s : State) : Aside s (transferEvent g mark cyc th s) := by
  unfold transferEvent
  extract_lets s1
  have h1 : Aside s s1 := tryTransfer_aside g mark cyc th s
  split
  · exact h1
  · split
    · exact h1.trans (.foldl _ _ (fun c u => vpRetime_aside g s _ u c) s1)
    · exact h1.trans (.of_pat (reCommand_reacted g _ s1))

theorem markTransfer_aside (m cyc tc : Nat) (s : State) : Aside s (markTransfer m cyc tc s) :=
  .ite _ (.foldl _ _ (fun g u => .ite _ (transferEvent_aside g true cyc _ u)) s)

/-! ## The Hallmark's samples (R404 to R407) -/

theorem Aside.setMemW (s : State) (a : Nat) (w : Word) : Aside s (s.setMemW a w) := of_regs rfl rfl rfl rfl

theorem histApply_aside (h : Fin 32) (x : Int) (s : State) : Aside s (histApply h x s) := by
  unfold histApply
  extract_lets b a
  split
  · split
    · exact .refl s
    · exact ((Aside.raise s Fld.HLM_STATUS_SAT rfl (by decide)).trans (.of_recorded (tallyApply_recorded _ _))).trans
        (.of_recorded (codeFlush_recorded _ _))
  · exact .setMemW s a _

theorem extApply_aside (e : Fin 64) (x : Int) (s : State) : Aside s (extApply e x s) := by
  have put3 (u : State) (a : Nat) (w1 w2 w3 : Word) (b c : Nat) : Aside u (((u.setMemW a w1).setMemW b w2).setMemW c w3) :=
    ((Aside.setMemW u a w1).trans (.setMemW _ b w2)).trans (.setMemW _ c w3)
  unfold extApply
  extract_lets a ops pc first lo hi s1 s2
  have h1 : Aside s s1 := .ite _ (put3 s _ _ _ _ _ _)
  have h2 : Aside s1 s2 := .ite _ (put3 s1 _ _ _ _ _ _)
  exact ((h1.trans h2).trans (.setMemW s2 _ _)).trans (.setMemW _ _ _)

theorem hlmApply_aside (u : HlmUpd) (s : State) : Aside s (hlmApply u s) := by
  cases u with
  | hist h x => exact histApply_aside h x s
  | ext e x => exact extApply_aside e x s
  | tally c => exact .of_recorded (tallyApply_recorded c s)
  | count i n => exact .setMemW s _ _

theorem hlmUpdate_aside (u : HlmUpd) (s : State) : Aside s (hlmUpdate u s) := by
  unfold hlmUpdate
  split
  · split
    · exact .of_regs rfl rfl rfl rfl
    · exact ((((Aside.setMemW s _ _).trans (.raise _ Fld.HLM_STATUS_LOST rfl (by decide))).trans (.of_recorded (sysFault_recorded _ _))).trans
        (.of_recorded (codeFlush_recorded _ _))).trans (.of_recorded (hlmEvent_recorded _ _))
  · split
    · split
      · exact .of_recorded (tallyApply_recorded _ s)
      · exact .of_regs rfl rfl rfl rfl
    · exact hlmApply_aside _ s

theorem hlmTrigger_aside (trg num : Nat) (s : State) : Aside s (hlmTrigger trg num s) := by
  unfold hlmTrigger
  extract_lets s1
  have h1 : Aside s s1 := .foldl _ _ (fun h u => .ite _ (by split <;> [exact hlmUpdate_aside _ u; exact .refl u])) s
  exact h1.trans (.foldl _ _ (fun e u => .ite _ (by split <;> [exact hlmUpdate_aside _ u; exact .refl u])) s1)

/-! ## The line bus (R426, R430) -/

theorem Aside.modLb (s : State) (c : Fin 4) (f : LbCh → LbCh) : Aside s (s.modLb c f) := of_regs rfl rfl rfl rfl

theorem lbRequest_aside (c : Fin 4) (b : Fin 64) (s : State) : Aside s (lbRequest c b s) := by
  unfold lbRequest
  extract_lets compat bitB new s1
  split
  · exact .raise s (Fld.LB_STATUS_WR_IGN c) rfl (by simp [Fld.LB_STATUS_WR_IGN])
  · exact (Aside.modLb s c _).trans (.putBit s1 (lbReqReg c b) _ _ rfl (by simp [lbReqReg]))

theorem lbMark_aside (m : Nat) (s : State) : Aside s (lbMark m s) :=
  .foldl _ _ (fun c u => .foldl _ _ (fun b v => .ite _ ((lbRequest_aside c b v).trans (.modLb _ c _))) u) s

end Sys2Proof.Machine
end

section
/-! SUPPORT. What the events of an angle generator change and leave (R50 to R60, R66, R78). -/

namespace Sys2Proof.Machine

open Sys2Proof

/-! ## Fields of one register -/

/-- A numbered field set leaves the fields beside it. -/
theorem f_setF_apart (s : State) (r : Reg) (lo width v lo' width' : Nat) (hfit : lo' + width' ≤ 32)
    (hd : lo' + width' ≤ lo ∨ lo + width ≤ lo') : (s.setF ⟨r, lo, width⟩ v).f ⟨r, lo', width'⟩ = s.f ⟨r, lo', width'⟩ :=
  f_setF_beside s ⟨r, lo, width⟩ ⟨r, lo', width'⟩ v rfl hfit hd

/-- A bit raised leaves the fields beside it. -/
theorem f_raise_apart (s : State) (r : Reg) (i lo' width' : Nat) (hfit : lo' + width' ≤ 32) (hd : lo' + width' ≤ i ∨ i + 1 ≤ lo') :
    (s.raise ⟨r, i, 1⟩).f ⟨r, lo', width'⟩ = s.f ⟨r, lo', width'⟩ := f_setF_apart s r i 1 1 lo' width' hfit hd

theorem f_wr_ne (s : State) (r : Reg) (w : Word) (F : RF) (h : F.reg ≠ r) : (s.wr r w).f F = s.f F := f_congr F (rd_wr_ne s r _ w h)

theorem flag_eq_false_iff (s : State) (F : RF) : s.flag F = false ↔ s.f F = 0 := by simp [State.flag]

theorem flag_eq_one_iff (s : State) (r : Reg) (i : Nat) : s.flag ⟨r, i, 1⟩ = true ↔ s.f ⟨r, i, 1⟩ = 1 := by
  have := wGet_lt (s.rd r) i 1
  simp only [State.flag, State.f, bne_iff_ne, ne_eq]
  omega

/-! ## Generators under the updates of a state -/

@[simp] theorem gen_wr (s : State) (r : Reg) (w : Word) (n : Fin 8) : (s.wr r w).gen n = s.gen n := rfl
@[simp] theorem gen_setF (s : State) (F : RF) (v : Nat) (n : Fin 8) : (s.setF F v).gen n = s.gen n := rfl
@[simp] theorem gen_raise (s : State) (F : RF) (n : Fin 8) : (s.raise F).gen n = s.gen n := rfl
@[simp] theorem gen_lower (s : State) (F : RF) (n : Fin 8) : (s.lower F).gen n = s.gen n := rfl
@[simp] theorem gen_advance (s : State) (cyc : Nat) (n : Fin 8) : (s.advance cyc).gen n = s.gen n := rfl
@[simp] theorem gen_atWrite (s : State) (n : Fin 8) : s.atWrite.gen n = s.gen n := by simp only [State.gen, atWrite_man]

/-! ## The relation of an event -/

/-- The registers of the Mandrel that an event of a generator can change (R51, R60). -/
def genEventRegs (n : Fin 8) : List Reg := [.MAN_AG_STATUS n, .MAN_AG_LATCH_POS n, .MAN_AG_JUMP_LAST n]

/-- What an event of a generator leaves: device time, the latest read, the lock, the other generators and the Mandrel's other registers; and
with no discharge under way the frame of a jump. -/
structure Latched (n : Fin 8) (s t : State) : Prop where
  time : t.time = s.time
  rdata : t.rdata = s.rdata
  locked : t.locked = s.locked
  others : ∀ m, m ≠ n → t.gen m = s.gen m
  regs : ∀ r, r.inMan = true → r ∉ genEventRegs n → t.rd r = s.rd r
  quiet : s.dsgRun = false → JumpFrame s t

namespace Latched

variable {n : Fin 8} {s t u : State}

theorem refl (n : Fin 8) (s : State) : Latched n s s := ⟨rfl, rfl, rfl, fun _ _ => rfl, fun _ _ _ => rfl, fun _ => .of_pat (.refl s)⟩

theorem trans (h : Latched n s t) (k : Latched n t u) : Latched n s u :=
  ⟨k.time.trans h.time, k.rdata.trans h.rdata, k.locked.trans h.locked, fun m hm => (k.others m hm).trans (h.others m hm),
    fun r hr hn => (k.regs r hr hn).trans (h.regs r hr hn), fun hd => (h.quiet hd).trans (k.quiet ((h.quiet hd).dsgRun.trans hd))⟩

theorem of_struck (h : Struck s t) : Latched n s t :=
  ⟨h.time, h.rdata, h.locked, fun m _ => h.gen m, fun r hr _ => h.regs r hr, h.quiet⟩

theorem wr (s : State) (r : Reg) (w : Word) (hr : r ∈ genEventRegs n) : Latched n s (s.wr r w) := by
  have hjump : r.inJump = true := by
    simp only [genEventRegs, List.mem_cons, List.not_mem_nil, or_false] at hr
    rcases hr with rfl | rfl | rfl <;> rfl
  have hstate : Reg.SYS_STATE ≠ r := by rintro rfl; cases hjump
  exact ⟨rfl, rfl, locked_congr (rd_wr_ne s r _ w hstate), fun _ _ => rfl, fun q _ hq => rd_wr_ne s r q w (by rintro rfl; exact hq hr),
    fun _ => ⟨fun q hq => rd_wr_ne s r q w (by rintro rfl; rw [hjump] at hq; cases hq), fun _ _ => rfl, rfl⟩⟩

theorem noteHot (s : State) (r : Reg) (m : Word) : Latched n s (s.noteHot r m) :=
  ⟨rfl, rfl, rfl, fun _ _ => rfl, fun _ _ _ => rfl, fun _ => ⟨fun _ _ => rfl, fun _ _ => rfl, rfl⟩⟩

theorem setF (s : State) (F : RF) (v : Nat) (hr : F.reg ∈ genEventRegs n) : Latched n s (s.setF F v) := wr s F.reg _ hr
theorem lower (s : State) (F : RF) (hr : F.reg ∈ genEventRegs n) : Latched n s (s.lower F) := setF s F 0 hr
theorem raise (s : State) (F : RF) (hr : F.reg ∈ genEventRegs n) : Latched n s (s.raise F) := (setF s F 1 hr).trans (noteHot _ _ _)

theorem modGen (s : State) (f : Gen → Gen) : Latched n s (s.modGen n f) :=
  ⟨rfl, rfl, rfl, fun m hm => modGen_gen_ne s n m f hm, fun _ _ _ => rfl, fun _ => ⟨fun _ _ => rfl, fun _ _ => rfl, rfl⟩⟩

theorem ite (c : Prop) [Decidable c] (h : Latched n s t) : Latched n s (if c then t else s) := by
  split
  · exact h
  · exact refl n s

theorem foldl {ι : Type} (g : State → ι → State) (l : List ι) (hg : ∀ i s, Latched n s (g s i)) (s : State) : Latched n s (l.foldl g s) := by
  induction l generalizing s with
  | nil => exact refl n s
  | cons i l ih => exact (hg i s).trans (ih (g s i))

theorem f (h : Latched n s t) {F : RF} (hr : F.reg.inMan = true) (hn : F.reg ∉ genEventRegs n) : t.f F = s.f F := f_congr F (h.regs _ hr hn)
theorem flag (h : Latched n s t) {F : RF} (hr : F.reg.inMan = true) (hn : F.reg ∉ genEventRegs n) : t.flag F = s.flag F :=
  flag_congr F (h.regs _ hr hn)

end Latched

theorem status_mem_genEventRegs (n : Fin 8) : Reg.MAN_AG_STATUS n ∈ genEventRegs n := by simp [genEventRegs]
theorem latchPos_mem_genEventRegs (n : Fin 8) : Reg.MAN_AG_LATCH_POS n ∈ genEventRegs n := by simp [genEventRegs]
theorem jumpLast_mem_genEventRegs (n : Fin 8) : Reg.MAN_AG_JUMP_LAST n ∈ genEventRegs n := by simp [genEventRegs]

/-! ## The correction and the jump (R60) -/

/-- A generator's record but for its output before the latest change. -/
def Gen.sameLatch (g h : Gen) : Prop :=
  { g with chg := h.chg, mechB := h.mechB, elecB := h.elecB, wB := h.wB, jumpM := h.jumpM, jumpE := h.jumpE } = h

/-- What is kept of the outputs before a change stands in the generator's record (R60, R64). -/
theorem genKeep_modGen (s : State) (n : Fin 8) (cyc : Nat) (mech elec : Bool) (before : State) :
    ∃ f : Gen → Gen, genKeep s n cyc mech elec before = s.modGen n f ∧ ∀ g : Gen, g.sameLatch (f g) := by
  unfold genKeep
  split
  · exact ⟨_, rfl, fun _ => rfl⟩
  · exact ⟨_, rfl, fun _ => rfl⟩

theorem genKeep_latched (s : State) (n : Fin 8) (cyc : Nat) (mech elec : Bool) (before : State) : Latched n s (genKeep s n cyc mech elec before) := by
  obtain ⟨f, hf, -⟩ := genKeep_modGen s n cyc mech elec before
  rw [hf]
  exact .modGen s f

theorem rd_genKeep (s : State) (n : Fin 8) (cyc : Nat) (mech elec : Bool) (before : State) (r : Reg) :
    (genKeep s n cyc mech elec before).rd r = s.rd r := by
  obtain ⟨f, hf, -⟩ := genKeep_modGen s n cyc mech elec before
  rw [hf, rd_modGen]

theorem genKeep_keepsMem (s : State) (n : Fin 8) (cyc : Nat) (mech elec : Bool) (before : State) : s.keepsMem (genKeep s n cyc mech elec before) := by
  obtain ⟨f, hf, -⟩ := genKeep_modGen s n cyc mech elec before
  rw [hf]
  exact ⟨rfl, rfl⟩

theorem genKeep_sameLatch (s : State) (n : Fin 8) (cyc : Nat) (mech elec : Bool) (before : State) :
    (s.gen n).sameLatch ((genKeep s n cyc mech elec before).gen n) := by
  obtain ⟨f, hf, hsame⟩ := genKeep_modGen s n cyc mech elec before
  rw [hf, modGen_gen_same]
  exact hsame _

theorem genJump_latched (n : Fin 8) (size : Int) (s : State) : Latched n s (genJump n size s) :=
  ((Latched.wr s _ _ (jumpLast_mem_genEventRegs n)).trans (.raise _ (Fld.MAN_AG_STATUS_JUMP n) (status_mem_genEventRegs n))).trans
    (.of_struck (recordFault_struck 0x2040 _ (by decide) (by decide)))

/-- A jump sets JUMP and JUMP_LAST, and changes no generator (R60). -/
theorem genJump_shows (n : Fin 8) (size : Int) (s : State) :
    (genJump n size s).rd (.MAN_AG_STATUS n) = wPut (s.rd (.MAN_AG_STATUS n)) 0 1 1 ∧
      (genJump n size s).rd (.MAN_AG_JUMP_LAST n) = wordOfInt size ∧
      (genJump n size s).rd (.MAN_AG_LATCH_POS n) = s.rd (.MAN_AG_LATCH_POS n) ∧ (genJump n size s).gen n = s.gen n := by
  have hrec := recordFault_aside 0x2040 ((s.wr (.MAN_AG_JUMP_LAST n) (wordOfInt size)).raise (Fld.MAN_AG_STATUS_JUMP n))
  refine ⟨(hrec.rd rfl).trans ?_, (hrec.rd rfl).trans ?_, (hrec.rd rfl).trans ?_, hrec.gen n⟩
  · exact (rd_setF _ (Fld.MAN_AG_STATUS_JUMP n) 1).trans (congrArg (wPut · 0 1 1) (rd_wr_ne s _ _ _ (by simp [Fld.MAN_AG_STATUS_JUMP])))
  · exact (rd_raise_ne _ _ _ (by simp [Fld.MAN_AG_STATUS_JUMP])).trans (rd_wr _ _ _)
  · exact (rd_raise_ne _ _ _ (by simp [Fld.MAN_AG_STATUS_JUMP])).trans (rd_wr_ne s _ _ _ (by simp))

theorem genJudge_latched (n : Fin 8) (cyc : Nat) (before s : State) : Latched n s (genJudge n cyc before s) := by
  unfold genJudge
  extract_lets corr
  split
  · exact ((genKeep_latched _ _ _ _ _ _).trans (genJump_latched n corr _)).trans (.of_struck (patternJump_struck n _))
  · exact genKeep_latched _ _ _ _ _ _

/-- The judgement of a correction changes of the generator's STATUS the bit JUMP alone, and of its record the output before (R60). -/
theorem genJudge_shows (n : Fin 8) (cyc : Nat) (before s : State) :
    (∀ lo width, 1 ≤ lo → lo + width ≤ 32 → (genJudge n cyc before s).f ⟨.MAN_AG_STATUS n, lo, width⟩ = s.f ⟨.MAN_AG_STATUS n, lo, width⟩) ∧
      (genJudge n cyc before s).rd (.MAN_AG_LATCH_POS n) = s.rd (.MAN_AG_LATCH_POS n) ∧
      (s.gen n).sameLatch ((genJudge n cyc before s).gen n) := by
  unfold genJudge
  extract_lets corr
  split
  · obtain ⟨hstatus, -, hpos, hgen⟩ := genJump_shows n corr (genKeep s n cyc true true before)
    have hpat := (patternJump_struck n (genJump n corr (genKeep s n cyc true true before))).toAside
    refine ⟨fun lo width hlo hfit => ?_, (hpat.rd rfl).trans (hpos.trans (rd_genKeep _ _ _ _ _ _ _)), ?_⟩
    · refine (hpat.f rfl).trans ?_
      simp only [State.f, hstatus, rd_genKeep]
      exact wGet_wPut_ne _ _ _ _ _ _ hfit (by omega)
    · rw [hpat.gen, hgen]
      exact genKeep_sameLatch _ _ _ _ _ _
  · exact ⟨fun _ _ _ _ => f_congr _ (rd_genKeep _ _ _ _ _ _ _), rd_genKeep _ _ _ _ _ _ _, genKeep_sameLatch _ _ _ _ _ _⟩

/-! ## Events latched -/

theorem genLatch_latched (n : Fin 8) (count pos : Int) (t : Nat) (dir : Int) (s : State) : Latched n s (genLatch n count pos t dir s) := by
  unfold genLatch
  extract_lets g rev hist
  split
  extract_lets s1 s2 s3
  have h1 : Latched n s s1 := .modGen s _
  have h2 : Latched n s1 s2 := .ite _ (.raise s1 (Fld.MAN_AG_STATUS_REV n) (status_mem_genEventRegs n))
  have h3 : Latched n s2 s3 := by
    unfold s3
    split
    · exact .refl n s2
    · exact .setF s2 (Fld.MAN_AG_STATUS_DIR n) _ (status_mem_genEventRegs n)
  exact (((h1.trans h2).trans h3).trans (.wr s3 _ _ (latchPos_mem_genEventRegs n))).trans
    (.lower _ (Fld.MAN_AG_STATUS_CLAMPED n) (status_mem_genEventRegs n))

theorem genIndex_latched (n : Fin 8) (delta : Int) (t : Nat) (s : State) : Latched n s (genIndex n delta t s) := by
  unfold genIndex
  extract_lets g cpr shift s1
  exact ((Latched.modGen s _ : Latched n s s1).trans (.wr s1 _ _ (latchPos_mem_genEventRegs n))).trans
    (.setF _ (Fld.MAN_AG_STATUS_MOVING n) 1 (status_mem_genEventRegs n))

theorem sampledMoving_latched (n : Fin 8) (first : Bool) (s : State) : Latched n s (sampledMoving n first s) := by
  unfold sampledMoving
  extract_lets s1
  have h1 : Latched n s s1 := .lower s (Fld.MAN_AG_STATUS_IN_HOLD n) (status_mem_genEventRegs n)
  split
  · exact h1
  · exact h1.trans (.setF s1 (Fld.MAN_AG_STATUS_MOVING n) 1 (status_mem_genEventRegs n))

theorem mainsLatch_latched (n : Fin 8) (rising : Bool) (t cyc : Nat) (s : State) : Latched n s (mainsLatch n rising t cyc s) :=
  ((genLatch_latched n _ _ _ _ s).trans (sampledMoving_latched n _ _)).trans (genJudge_latched n cyc s _)

theorem genEvent_latched (n : Fin 8) (e : GenEv) (cyc : Nat) (s : State) : Latched n s (genEvent n e cyc s) := by
  unfold genEvent
  extract_lets g inv
  split
  case h_1 delta t =>
    extract_lets d
    split
    · exact .refl n s
    · exact ((genLatch_latched n _ _ _ _ s).trans (.setF _ (Fld.MAN_AG_STATUS_MOVING n) 1 (status_mem_genEventRegs n))).trans
        (genJudge_latched n cyc s _)
  case h_2 delta t => exact (genIndex_latched n _ t s).trans (genJudge_latched n cyc s _)
  case h_3 p t => exact ((genLatch_latched n _ _ _ _ s).trans (sampledMoving_latched n _ _)).trans (genJudge_latched n cyc s _)
  case h_4 rising t =>
    split
    · split
      · exact .refl n s
      · exact mainsLatch_latched n rising t cyc s
    · exact mainsLatch_latched n rising t cyc s

theorem genTake_latched (n : Fin 8) (cyc : Nat) (s : State) : Latched n s (genTake n cyc s) := by
  unfold genTake
  split
  · exact .refl n s
  · extract_lets was s1
    have h1 : Latched n s s1 := .modGen s _
    split
    · exact h1.trans (genEvent_latched n _ cyc s1)
    · exact h1

/-- The events that the outputs of a core cycle show change their generator alone (R59, R78). -/
theorem genSettle_latched (n : Fin 8) (cyc : Nat) (s : State) : Latched n s (genSettle n cyc s) := by
  refine .foldl _ _ (fun _ u => ?_) s
  split
  · exact .ite _ (genTake_latched n _ u)
  · exact .refl n u

/-- With no event on its way there is nothing to show. -/
theorem genDue_of_empty {g : Gen} (h : g.inbox = []) : genDue g = none := by simp [genDue, h]

theorem genDue_cons {g : Gen} {e : GenEv} {a : Nat} {rest : List (GenEv × Nat)} (h : g.inbox = (e, a) :: rest) :
    genDue g = some (max (a + 3) (g.evAt + 1)) := by simp [genDue, h]

theorem genSettle_of_empty (n : Fin 8) (cyc : Nat) (s : State) (h : (s.gen n).inbox = []) : genSettle n cyc s = s :=
  genSettle_later n cyc s fun k hk => by rw [genDue_of_empty h] at hk; cases hk

/-- What the statements ask of an event that meets a timeout (R78). -/
theorem genMeets_eq (s : State) (n : Fin 8) (cyc : Nat) :
    genMeets s n cyc = (s.gen n).inbox.head?.any fun e => max (e.2 + 3) ((s.gen n).evAt + 1) ≤ cyc := by
  simp only [genMeets, genDue, Option.any_map]

end Sys2Proof.Machine
end

section
/-! PROOF. O9: events, timeouts, the ramp and the clamp of the angle generators. -/

namespace Sys2Proof.Machine

open Sys2Proof

/-! ## A generator's record through the judgement of an event -/

namespace Gen.sameLatch

variable {g h : Gen}

theorem count (e : g.sameLatch h) : h.count = g.count := (congrArg (·.count) e.symm :)
theorem pos (e : g.sameLatch h) : h.pos = g.pos := (congrArg (·.pos) e.symm :)
theorem stamp (e : g.sameLatch h) : h.stamp = g.stamp := (congrArg (·.stamp) e.symm :)
theorem wn (e : g.sameLatch h) : h.wn = g.wn := (congrArg (·.wn) e.symm :)
theorem wd (e : g.sameLatch h) : h.wd = g.wd := (congrArg (·.wd) e.symm :)
theorem held (e : g.sameLatch h) : h.held = g.held := (congrArg (·.held) e.symm :)
theorem evAt (e : g.sameLatch h) : h.evAt = g.evAt := (congrArg (·.evAt) e.symm :)
theorem inbox (e : g.sameLatch h) : h.inbox = g.inbox := (congrArg (·.inbox) e.symm :)
theorem rampPos (e : g.sameLatch h) (cyc : Nat) : h.rampPos cyc = g.rampPos cyc := by rw [Gen.rampPos, ← e]; rfl
theorem rampV (e : g.sameLatch h) : h.rampV = g.rampV := (congrArg (·.rampV) e.symm :)

end Gen.sameLatch

/-! ## The latch (R51, R54, R55) -/

/-- An event in a direction reverses the generator's (R55). -/
def Gen.reverses (g : Gen) (dir : Int) : Bool := g.dir != 0 && dir != 0 && dir != g.dir

/-- The record of a generator after a latch. -/
def Gen.latched (g : Gen) (spd : Nat) (count pos : Int) (t : Nat) (dir : Int) : Gen :=
  let hist := if g.reverses dir then [] else g.hist
  { g with count := count, pos := pos, stamp := t, latchT := t, wn := (genMeasure spd pos t hist).1, wd := (genMeasure spd pos t hist).2,
           dir := if dir = 0 then g.dir else dir, hist := ((pos, t) :: hist).take 128, events := if g.reverses dir then 1 else g.events + 1,
           held := none }

theorem genLatch_gen (n : Fin 8) (count pos : Int) (t : Nat) (dir : Int) (s : State) :
    (genLatch n count pos t dir s).gen n = (s.gen n).latched (s.f (Fld.MAN_AG_CTL_SPD_N n)) count pos t dir := by
  unfold genLatch
  extract_lets g rev hist
  split
  next wn wd hm =>
  extract_lets s1 s2 s3
  have h2 : s2.gen n = s1.gen n := by unfold s2; split <;> rfl
  have h3 : s3.gen n = s2.gen n := by unfold s3; split <;> rfl
  rw [gen_lower, gen_wr, h3, h2, modGen_gen_same]
  simp only [Gen.latched]
  have hw : genMeasure (s.f (Fld.MAN_AG_CTL_SPD_N n)) pos t (if (s.gen n).reverses dir then [] else (s.gen n).hist) = (wn, wd) := hm
  rw [hw]
  rfl

/-- What a latch shows in the registers. -/
theorem genLatch_shows (n : Fin 8) (count pos : Int) (t : Nat) (dir : Int) (s : State) :
    let u := genLatch n count pos t dir s
    u.rd (.MAN_AG_LATCH_POS n) = wordOfInt pos ∧ u.f (Fld.MAN_AG_STATUS_CLAMPED n) = 0 ∧
      (dir ≠ 0 → u.f (Fld.MAN_AG_STATUS_DIR n) = bit (dir < 0)) ∧
      ((s.gen n).reverses dir = true → u.f (Fld.MAN_AG_STATUS_REV n) = 1) := by
  intro u
  have hu : u = genLatch n count pos t dir s := rfl
  unfold genLatch at hu
  extract_lets g rev hist at hu
  split at hu
  extract_lets s1 s2 s3 at hu
  have h2 (hr : rev = true) : s2.f (Fld.MAN_AG_STATUS_REV n) = 1 := by
    unfold s2; rw [if_pos hr]; exact f_raise _ _ (by simp [Fld.MAN_AG_STATUS_REV])
  have h3 : s3.f (Fld.MAN_AG_STATUS_REV n) = s2.f (Fld.MAN_AG_STATUS_REV n) := by
    unfold s3; split
    · rfl
    · exact f_setF_apart _ _ _ _ _ _ _ (by omega) (by omega)
  have hdir (hd : dir ≠ 0) : s3.f (Fld.MAN_AG_STATUS_DIR n) = bit (dir < 0) := by
    unfold s3; rw [if_neg hd]
    refine (f_setF _ _ _ (by simp [Fld.MAN_AG_STATUS_DIR])).trans (Nat.mod_eq_of_lt ?_)
    unfold bit
    split
    · exact Nat.one_lt_two
    · exact Nat.two_pos
  have hbeside (lo : Nat) (h : lo + 1 ≤ 11) : u.f ⟨.MAN_AG_STATUS n, lo, 1⟩ = s3.f ⟨.MAN_AG_STATUS n, lo, 1⟩ := by
    rw [hu]
    exact (f_setF_apart _ _ _ _ _ _ _ (by omega) (by omega)).trans (f_wr_ne _ _ _ _ (by simp))
  refine ⟨?_, ?_, fun hd => (hbeside 8 (by omega)).trans (hdir hd), fun hr => (hbeside 1 (by omega)).trans (h3.trans (h2 hr))⟩
  · rw [hu]
    exact (rd_setF_ne _ _ _ _ (by simp [Fld.MAN_AG_STATUS_CLAMPED])).trans (rd_wr _ _ _)
  · rw [hu]
    exact f_setF _ _ _ (by simp [Fld.MAN_AG_STATUS_CLAMPED])

/-! ## A counted event -/

/-- A generator as it is before the event of a core cycle (R78). -/
def genWas (n : Fin 8) (cyc : Nat) (s : State) : GenWas where
  cyc := cyc
  was := (s.gen n).toGenRec
  status := s.rd (.MAN_AG_STATUS n)
  latch := s.rd (.MAN_AG_LATCH_POS n)
  jump := s.rd (.MAN_AG_JUMP_LAST n)

/-- The state in which the oldest event on its way to a generator is latched (R59, R78). -/
def genTaken (n : Fin 8) (cyc : Nat) (rest : List (GenEv × Nat)) (s : State) : State :=
  s.modGen n fun g => { g with inbox := rest, evAt := cyc, undo := some (genWas n cyc s) }

theorem genTake_eq {n : Fin 8} {s : State} {e : GenEv} {a : Nat} {rest : List (GenEv × Nat)} (h : (s.gen n).inbox = (e, a) :: rest)
    (hon : s.flag (Fld.MAN_AG_CTL_EN n) = true) (cyc : Nat) : genTake n cyc s = genEvent n e cyc (genTaken n cyc rest s) := by
  unfold genTake
  rw [h]
  exact if_pos hon

theorem exec_generatorEvent {n : Fin 8} {s : State} {k : Nat} (h : genDue (s.gen n) = some k) :
    exec (.generatorEvent ⟨n, none⟩) s = .next (genTake n k (s.advance k)) := by
  have hexec : exec (.generatorEvent ⟨n, none⟩) s =
    .next (match genDue (s.gen n) with | some k => genTake n k (s.advance k) | none => s) := rfl
  rw [hexec, h]

theorem exec_generatorEvent_none {n : Fin 8} {s : State} (h : (s.gen n).inbox = []) : exec (.generatorEvent ⟨n, none⟩) s = .next s := by
  have hexec : exec (.generatorEvent ⟨n, none⟩) s =
    .next (match genDue (s.gen n) with | some k => genTake n k (s.advance k) | none => s) := rfl
  rw [hexec, genDue_of_empty h]

/-- The count, direction and boundary of a counted event (R52). -/
def countedMove (inv : Bool) (delta : Int) : Int := if inv then -delta else delta
def countedDir (d : Int) : Int := if 0 < d then 1 else -1
def countedPos (cpr : Nat) (count d : Int) : Int := countPos cpr (if 0 < d then count + d else count + d + 1)

theorem genEvent_counts {n : Fin 8} {delta : Int} (hd : delta ≠ 0) (st cyc : Nat) (s : State) :
    genEvent n (.counts delta st) cyc s =
      let d := countedMove (s.flag (Fld.MAN_AG_CTL_DIR_INV n)) delta
      genJudge n cyc s ((genLatch n ((s.gen n).count + d) (countedPos (s.genCpr n) (s.gen n).count d) st (countedDir d) s).setF
        (Fld.MAN_AG_STATUS_MOVING n) 1) := by
  have hmove : countedMove (s.flag (Fld.MAN_AG_CTL_DIR_INV n)) delta ≠ 0 := by unfold countedMove; split <;> omega
  exact if_neg hmove

theorem genMeasure_some {spd : Nat} {pos p0 : Int} {t t0 : Nat} {hist : List (Int × Nat)}
    (h : hist[min (2 ^ spd) hist.length - 1]? = some (p0, t0)) (ht : t0 < t) : genMeasure spd pos t hist = (pos - p0, t - t0) := by
  unfold genMeasure
  rw [h]
  exact congrArg (Prod.mk _) (by omega)

/-- What a counted event shows (R51 to R55). -/
theorem countedEvent_shows {n : Fin 8} {s : State} {delta : Int} {st a : Nat} {rest : List (GenEv × Nat)}
    (hin : (s.gen n).inbox = (.counts delta st, a) :: rest) (hon : s.flag (Fld.MAN_AG_CTL_EN n) = true) (hd : delta ≠ 0) (k : Nat) :
    let g := s.gen n
    let t := genTake n k s
    let d := countedMove (s.flag (Fld.MAN_AG_CTL_DIR_INV n)) delta
    let pos := countedPos (s.genCpr n) g.count d
    ((t.gen n).count = g.count + d ∧ (t.gen n).pos = pos ∧ (t.gen n).stamp = st ∧ (t.gen n).inbox = rest ∧ (t.gen n).evAt = k) ∧
      ((t.gen n).wn, (t.gen n).wd) =
        genMeasure (s.f (Fld.MAN_AG_CTL_SPD_N n)) pos st (if g.reverses (countedDir d) then [] else g.hist) ∧
      t.rd (.MAN_AG_LATCH_POS n) = wordOfInt pos ∧ t.f (Fld.MAN_AG_STATUS_DIR n) = bit (countedDir d < 0) ∧
      t.f (Fld.MAN_AG_STATUS_MOVING n) = 1 ∧ t.f (Fld.MAN_AG_STATUS_CLAMPED n) = 0 ∧
      (g.reverses (countedDir d) = true → t.f (Fld.MAN_AG_STATUS_REV n) = 1) := by
  intro g t d pos
  let u := genTaken n k rest s
  have hu : u.gen n = { g with inbox := rest, evAt := k, undo := some (genWas n k s) } := modGen_gen_same _ _ _
  let v := genLatch n (g.count + d) pos st (countedDir d) u
  have hlatch : v.gen n = (u.gen n).latched (s.f (Fld.MAN_AG_CTL_SPD_N n)) (g.count + d) pos st (countedDir d) := genLatch_gen _ _ _ _ _ _
  obtain ⟨hpos, hclamp, hdir, hrev⟩ := genLatch_shows n (g.count + d) pos st (countedDir d) u
  obtain ⟨hstatus, hword, hsame⟩ := genJudge_shows n k u (v.setF (Fld.MAN_AG_STATUS_MOVING n) 1)
  have ht : t = genJudge n k u (v.setF (Fld.MAN_AG_STATUS_MOVING n) 1) := by
    have hcount : (u.gen n).count = g.count := by rw [hu]
    refine (genTake_eq hin hon k).trans ((genEvent_counts hd st k u).trans ?_)
    rw [hcount]
    rfl
  rw [← ht] at hstatus hword hsame
  rw [gen_setF, hlatch, hu] at hsame
  rw [hu] at hrev
  have hbeside (lo : Nat) (h1 : 1 ≤ lo) (h : lo + 1 ≤ 9 ∨ 10 ≤ lo) (h32 : lo + 1 ≤ 32) :
      t.f ⟨.MAN_AG_STATUS n, lo, 1⟩ = v.f ⟨.MAN_AG_STATUS n, lo, 1⟩ :=
    (hstatus lo 1 h1 h32).trans (f_setF_apart _ _ _ _ _ _ _ h32 h)
  have hne : countedDir d ≠ 0 := by unfold countedDir; split <;> omega
  refine ⟨⟨hsame.count, hsame.pos, hsame.stamp, hsame.inbox, hsame.evAt⟩, ?_, ?_, ?_, ?_, ?_, ?_⟩
  · rw [hsame.wn, hsame.wd]; rfl
  · exact hword.trans ((rd_setF_ne _ _ _ _ (by simp [Fld.MAN_AG_STATUS_MOVING])).trans hpos)
  · exact (hbeside 8 (by omega) (by omega) (by omega)).trans (hdir hne)
  · exact (hstatus 9 1 (by omega) (by omega)).trans (f_setF _ _ _ (by simp [Fld.MAN_AG_STATUS_MOVING]))
  · exact (hbeside 11 (by omega) (by omega) (by omega)).trans hclamp
  · exact fun hr => (hbeside 1 (by omega) (by omega) (by omega)).trans (hrev hr)

/-- A reversal as the statements say it (R55). -/
theorem reverses_countedDir_of {g : Gen} {d : Int} (h : (0 < d ∧ g.dir = -1) ∨ (d < 0 ∧ g.dir = 1)) : g.reverses (countedDir d) = true := by
  rcases h with ⟨hd, hg⟩ | ⟨hd, hg⟩
  · simp [Gen.reverses, countedDir, hd, hg]
  · simp [Gen.reverses, countedDir, hg, show ¬ 0 < d by omega]

theorem reverses_countedDir_not {g : Gen} {d : Int} (hdir : g.dir = 1 ∨ g.dir = -1 ∨ g.dir = 0) (hd : d ≠ 0)
    (h : ¬ ((0 < d ∧ g.dir = -1) ∨ (d < 0 ∧ g.dir = 1))) : g.reverses (countedDir d) = false := by
  by_cases hp : 0 < d
  · have : g.dir = 1 ∨ g.dir = 0 := by omega
    rcases this with hg | hg <;> simp [Gen.reverses, countedDir, hp, hg]
  · have : g.dir = -1 ∨ g.dir = 0 := by omega
    rcases this with hg | hg <;> simp [Gen.reverses, countedDir, hp, hg]

theorem bit_countedDir {d : Int} (hd : d ≠ 0) : bit (countedDir d < 0) = if d < 0 then 1 else 0 := by
  unfold countedDir bit
  by_cases hp : 0 < d
  · rw [if_pos hp, if_neg (by omega : ¬ d < 0)]; rfl
  · rw [if_neg hp, if_pos (by omega : d < 0)]; rfl

/-! ## A mains crossing (R50, R66) -/

/-- The state in which a crossing is told to a mains generator. -/
def mainsTold (n : Fin 8) (rising : Bool) (T : Nat) (s : State) : State :=
  { s.advanceTap T with man := { s.man with rising := rising } }.modGen n fun g => { g with inbox := g.inbox ++ [(GenEv.mains rising T, T / 16)] }

theorem exec_mains {n : Fin 8} {s : State} (hon : s.flag (Fld.MAN_AG_CTL_EN n) = true) (hsrc : s.gSrc n = 7) (hin : (s.gen n).inbox = [])
    (rising : Bool) (T : Nat) :
    let k := max (T / 16 + 3) ((s.gen n).evAt + 1)
    exec (.generatorEvent ⟨n, some (rising, T)⟩) s = .next (genEvent n (.mains rising T) k
      (genTaken n k [] ((mainsTold n rising T s).advance k))) := by
  intro k
  have htakes : (s.genOn n && decide (s.gSrc n = 7)) = true := Bool.and_eq_true_iff.mpr ⟨hon, decide_eq_true hsrc⟩
  have htold : mainsCross n rising T s = mainsTold n rising T s := if_pos htakes
  have hinbox : ((mainsTold n rising T s).gen n).inbox = [(.mains rising T, T / 16)] := by
    simp only [mainsTold, modGen_gen_same]
    exact congrArg (· ++ _) hin
  have hev : ((mainsTold n rising T s).gen n).evAt = (s.gen n).evAt := by
    simp only [mainsTold, modGen_gen_same]; rfl
  have hdue : genDue ((mainsCross n rising T s).gen n) = some k := by rw [htold, genDue_cons hinbox, hev]
  have hexec : exec (.generatorEvent ⟨n, some (rising, T)⟩) s =
    .next (match genDue ((mainsCross n rising T s).gen n) with
      | some k => genTake n k ((mainsCross n rising T s).advance k) | none => mainsCross n rising T s) := rfl
  rw [hexec, hdue, htold]
  exact congrArg Host.Outcome.next (genTake_eq (s := (mainsTold n rising T s).advance k) hinbox hon k)

theorem mainsTold_gen (n : Fin 8) (rising : Bool) (T k : Nat) (s : State) :
    (genTaken n k [] ((mainsTold n rising T s).advance k)).gen n =
      { s.gen n with inbox := [], evAt := k, undo := some (genWas n k ((mainsTold n rising T s).advance k)) } := by
  simp only [genTaken, modGen_gen_same, gen_advance, mainsTold]
  rfl

theorem mainsTold_others (n : Fin 8) (rising : Bool) (T k : Nat) (s : State) (m : Fin 8) (hm : m ≠ n) :
    (genTaken n k [] ((mainsTold n rising T s).advance k)).gen m = s.gen m :=
  (modGen_gen_ne _ _ _ _ hm).trans (modGen_gen_ne _ _ _ _ hm)

theorem wordOfInt_congr {x y : Int} (h : x % 2 ^ 32 = y % 2 ^ 32) : wordOfInt x = wordOfInt y :=
  BitVec.eq_of_toNat_eq (by simp only [wordOfInt, BitVec.toNat_ofInt]; exact congrArg Int.toNat h)

/-- A crossing latches the zero or half-turn position, whatever the direction (R50). -/
theorem wordOfInt_mainsNext (old : Int) (rising first : Bool) :
    wordOfInt (mainsNext old rising first) = (if rising then 0#32 else 0x80000000#32) ∧
      wordOfInt (-(mainsNext (-old) rising first)) = if rising then 0#32 else 0x80000000#32 := by
  have hmod (x : Int) : ∃ k : Int, mainsNext x rising first = (if rising then 0 else 2 ^ 31) + k * 2 ^ 32 := by
    simp only [mainsNext]
    generalize (if rising = true then (0 : Int) else 2 ^ 31) = target
    split
    · next h => exact ⟨1 - (target - x) / 2 ^ 32, by simp only [Bool.and_eq_true, decide_eq_true_eq] at h; omega⟩
    · exact ⟨-((target - x) / 2 ^ 32), by omega⟩
  obtain ⟨k, hk⟩ := hmod old
  obtain ⟨j, hj⟩ := hmod (-old)
  rw [hk, hj]
  have hword : wordOfInt (if rising then 0 else 2 ^ 31) = if rising then 0#32 else 0x80000000#32 := by cases rising <;> rfl
  exact ⟨(wordOfInt_congr (by split <;> omega)).trans hword, (wordOfInt_congr (by split <;> omega)).trans hword⟩

/-- MOVING and the end of holdover change neither the record nor the latched position. -/
theorem sampledMoving_gen (n : Fin 8) (first : Bool) (s : State) : (sampledMoving n first s).gen n = s.gen n := by
  unfold sampledMoving
  cases first <;> rfl

theorem rd_sampledMoving_latchPos (n : Fin 8) (first : Bool) (s : State) :
    (sampledMoving n first s).rd (.MAN_AG_LATCH_POS n) = s.rd (.MAN_AG_LATCH_POS n) := by
  have hne (i : Nat) : Reg.MAN_AG_LATCH_POS n ≠ (⟨.MAN_AG_STATUS n, i, 1⟩ : RF).reg := by simp
  have hhold : (s.lower (Fld.MAN_AG_STATUS_IN_HOLD n)).rd (.MAN_AG_LATCH_POS n) = s.rd (.MAN_AG_LATCH_POS n) := rd_setF_ne _ _ _ _ (hne 10)
  unfold sampledMoving
  cases first
  · exact (rd_setF_ne _ _ _ _ (hne 9)).trans hhold
  · exact hhold

/-- The position that a mains crossing latches (R50). -/
def mainsPos (n : Fin 8) (rising : Bool) (s : State) : Int :=
  let first : Bool := (s.gen n).events = 0
  if s.flag (Fld.MAN_AG_CTL_DIR_INV n) then -(mainsNext (-(s.gen n).pos) rising first) else mainsNext (s.gen n).pos rising first

theorem mainsLatch_eq (n : Fin 8) (rising : Bool) (T k : Nat) (s : State) :
    mainsLatch n rising T k s = genJudge n k s (sampledMoving n ((s.gen n).events = 0)
      (genLatch n 0 (mainsPos n rising s) T (if s.flag (Fld.MAN_AG_CTL_DIR_INV n) then -1 else 1) s)) := rfl

theorem wordOfInt_mainsPos (n : Fin 8) (rising : Bool) (s : State) :
    wordOfInt (mainsPos n rising s) = if rising then 0#32 else 0x80000000#32 := by
  unfold mainsPos
  extract_lets first
  split
  · exact (wordOfInt_mainsNext _ rising first).2
  · exact (wordOfInt_mainsNext _ rising first).1

/-- What a crossing that is latched shows (R50, R58, R66). -/
theorem mainsLatch_shows (n : Fin 8) (rising : Bool) (T k : Nat) (s : State) :
    ((mainsLatch n rising T k s).gen n).stamp = T ∧
      (mainsLatch n rising T k s).rd (.MAN_AG_LATCH_POS n) = (if rising then 0#32 else 0x80000000#32) ∧
      ((mainsLatch n rising T k s).gen n).evAt = (s.gen n).evAt := by
  rw [mainsLatch_eq]
  generalize (if s.flag (Fld.MAN_AG_CTL_DIR_INV n) then (-1 : Int) else 1) = dir
  obtain ⟨-, hjudge, hsame⟩ := genJudge_shows n k s (sampledMoving n ((s.gen n).events = 0) (genLatch n 0 (mainsPos n rising s) T dir s))
  obtain ⟨hpos, -⟩ := genLatch_shows n 0 (mainsPos n rising s) T dir s
  rw [sampledMoving_gen, genLatch_gen] at hsame
  rw [rd_sampledMoving_latchPos, hpos, wordOfInt_mainsPos] at hjudge
  exact ⟨hsame.stamp, hjudge, hsame.evAt⟩

/-- A crossing less than half an expected half period after the last is discarded, and any other is latched (R66). -/
theorem genEvent_mains_discarded {n : Fin 8} {u : State} {h T : Nat} (hh : halfPeriod (u.gen n) = some h) (he : 0 < (u.gen n).events)
    (hn : 2 * (T - (u.gen n).stamp) < h) (rising : Bool) (k : Nat) : genEvent n (.mains rising T) k u = u := by
  simp only [genEvent, hh]
  exact if_pos (by simp [he, hn])

theorem genEvent_mains_first {n : Fin 8} {u : State} (hw : (u.gen n).wn = 0) (rising : Bool) (T k : Nat) :
    genEvent n (.mains rising T) k u = mainsLatch n rising T k u := by
  have hh : halfPeriod (u.gen n) = none := by simp [halfPeriod, hw]
  simp only [genEvent, hh]

end Sys2Proof.Machine
end

section
/-! PROOF. O9: standstill, holdover, the ramp and the clamp, and the obligation. -/

namespace Sys2Proof.Machine

open Sys2Proof

/-! ## Sources and speeds (R50, R56, R57) -/

theorem srcCounted_iff (k : Nat) : srcCounted k = true ↔ k = 1 ∨ k = 3 ∨ k = 4 := by simp [srcCounted, or_assoc]

theorem genCpr_eq {s : State} {n : Fin 8} (h : 0 < s.f (Fld.MAN_AG_CPR_CPR n)) : s.genCpr n = s.f (Fld.MAN_AG_CPR_CPR n) :=
  Nat.max_eq_right h

/-- The position of a counted source between its events (R57). -/
theorem genPos_counted {s : State} {n : Fin 8} (hon : s.flag (Fld.MAN_AG_CTL_EN n) = true) (hsrc : srcCounted (s.gSrc n) = true) (cyc : Nat) :
    genPos s n cyc = (s.gen n).pos + ((s.gen n).d true (countSpan (s.f (Fld.MAN_AG_CPR_CPR n))) cyc).1 := by
  have hk := (srcCounted_iff _).mp hsrc
  unfold genPos
  rw [if_pos hon, if_neg (by omega), if_neg (by omega), hsrc]

theorem Gen.d_held {g : Gen} {d : Int} (h : g.held = some d) (counted : Bool) (span : Int) (cyc : Nat) : g.d counted span cyc = (d, false) := by
  simp only [Gen.d, h]

/-- While a timeout holds the position the speed is 0 (R56). -/
theorem genSpeed_held {s : State} {n : Fin 8} {d : Int} (h : (s.gen n).held = some d) (hsrc : srcCounted (s.gSrc n) = true) (cyc : Nat) :
    (genSpeed s n cyc).1 = 0 := by
  have hk := (srcCounted_iff _).mp hsrc
  unfold genSpeed
  extract_lets g dt cpr
  split
  · rfl
  · rw [if_neg (by omega), if_pos (.inr (.inr (Option.isSome_iff_exists.mpr ⟨d, h⟩)))]

/-! ## Standstill (R56) -/

/-- The state that a standstill leaves: the extrapolation is held at its present value. -/
def stoodStill (n : Fin 8) (due : Nat) (s : State) : State :=
  ((genKeep ((s.advance due).modGen n fun g =>
      { g with held := some ((s.gen n).d true (countSpan (s.genCpr n)) (max s.time due)).1, wn := 0, wd := 1 })
    n (max s.time due) false false (s.advance due)).raise (Fld.MAN_AG_STATUS_STILL n)).lower (Fld.MAN_AG_STATUS_MOVING n)

theorem exec_standstill {n : Fin 8} {s : State} (hon : s.flag (Fld.MAN_AG_CTL_EN n) = true) (hsrc : srcCounted (s.gSrc n) = true)
    (htmo : s.f (Fld.MAN_AG_TMO_STILL_TMO n) ≠ 0) (hev : 0 < (s.gen n).events) (hheld : (s.gen n).held = none) :
    let due := (s.gen n).stamp / 16 + s.f (Fld.MAN_AG_TMO_STILL_TMO n) * 6000 + 1
    exec (.standstillTimeout n) s = .next (if genMeets s n due then s else stoodStill n due s) := by
  intro due
  have hcond : (s.genOn n && srcCounted (s.gSrc n) && s.f (Fld.MAN_AG_TMO_STILL_TMO n) != 0 && decide (0 < (s.gen n).events) &&
      (s.gen n).held.isNone && !genMeets s n due) = !genMeets s n due := by simp [State.genOn, hon, hsrc, htmo, hev, hheld]
  have hexec : exec (.standstillTimeout n) s = .next (if (s.genOn n && srcCounted (s.gSrc n) && s.f (Fld.MAN_AG_TMO_STILL_TMO n) != 0 &&
      decide (0 < (s.gen n).events) && (s.gen n).held.isNone && !genMeets s n due) = true then stoodStill n due s else s) := rfl
  rw [hexec, hcond]
  cases genMeets s n due <;> rfl

theorem stoodStill_latched (n : Fin 8) (due : Nat) (s : State) : Latched n (s.advance due) (stoodStill n due s) :=
  (((Latched.modGen (s.advance due) _).trans (genKeep_latched _ _ _ _ _ _)).trans
    (.raise _ (Fld.MAN_AG_STATUS_STILL n) (status_mem_genEventRegs n))).trans (.lower _ (Fld.MAN_AG_STATUS_MOVING n) (status_mem_genEventRegs n))

theorem ctl_not_mem_genEventRegs (n m : Fin 8) : Reg.MAN_AG_CTL m ∉ genEventRegs n := by simp [genEventRegs]

theorem stoodStill_shows (n : Fin 8) (due : Nat) (s : State) :
    let t := stoodStill n due s
    t.time = max s.time due ∧ t.f (Fld.MAN_AG_STATUS_STILL n) = 1 ∧ t.f (Fld.MAN_AG_STATUS_MOVING n) = 0 ∧
      (t.gen n).pos = (s.gen n).pos ∧ (t.gen n).held = some ((s.gen n).d true (countSpan (s.genCpr n)) (max s.time due)).1 ∧
      s.keeps t [.MAN_AG_STATUS n] ∧ s.keepsMem t := by
  intro t
  have hsame := genKeep_sameLatch ((s.advance due).modGen n fun g =>
      { g with held := some ((s.gen n).d true (countSpan (s.genCpr n)) (max s.time due)).1, wn := 0, wd := 1 })
    n (max s.time due) false false (s.advance due)
  rw [modGen_gen_same] at hsame
  refine ⟨(stoodStill_latched n due s).time, ?_, ?_, hsame.pos, hsame.held, fun r hr => ?_, genKeep_keepsMem _ _ _ _ _ _⟩
  · exact (f_setF_apart _ _ 9 1 0 2 1 (by omega) (by omega)).trans (f_raise _ _ (by simp [Fld.MAN_AG_STATUS_STILL]))
  · exact f_setF _ _ _ (by simp [Fld.MAN_AG_STATUS_MOVING])
  · have hr' : r ≠ .MAN_AG_STATUS n := by simpa using hr
    exact (rd_setF_ne _ _ _ _ hr').trans ((rd_raise_ne _ _ _ hr').trans (rd_genKeep _ _ _ _ _ _ _))

/-- From a standstill on the position stays at what it was in the cycle of the timeout, with speed 0 (R56). -/
theorem stoodStill_holds {n : Fin 8} {s : State} (hon : s.flag (Fld.MAN_AG_CTL_EN n) = true) (hsrc : srcCounted (s.gSrc n) = true)
    (hcpr : 0 < s.f (Fld.MAN_AG_CPR_CPR n)) (due c : Nat) :
    genPos (stoodStill n due s) n c = genPos s n (max s.time due) ∧ (genSpeed (stoodStill n due s) n c).1 = 0 := by
  obtain ⟨-, -, -, hpos, hheld, hkeep, -⟩ := stoodStill_shows n due s
  have hctl (F : RF) (hF : F.reg = .MAN_AG_CTL n) : (stoodStill n due s).f F = s.f F := f_congr F (hF ▸ hkeep (.MAN_AG_CTL n) (by simp))
  have hon' : (stoodStill n due s).flag (Fld.MAN_AG_CTL_EN n) = true := (congrArg (· != 0) (hctl (Fld.MAN_AG_CTL_EN n) rfl)).trans hon
  have hsrc' : srcCounted ((stoodStill n due s).gSrc n) = true := (congrArg srcCounted (hctl (Fld.MAN_AG_CTL_SRC n) rfl)).trans hsrc
  refine ⟨?_, genSpeed_held hheld hsrc' c⟩
  rw [genPos_counted hon' hsrc', genPos_counted hon hsrc, hpos, Gen.d_held hheld, genCpr_eq hcpr]

/-! ## Holdover (R58) -/

/-- The state of a generator that enters holdover, before the fault code is recorded. -/
def holdSet (n : Fin 8) (cyc i : Nat) (s : State) : State :=
  ((((s.advance cyc).raise ⟨.MAN_AG_STATUS n, i, 1⟩).modGen n fun g => { g with holdAt := cyc }).raise
    (Fld.MAN_AG_STATUS_IN_HOLD n)).lower (Fld.MAN_AG_STATUS_MOVING n)

theorem genHold_eq (n : Fin 8) (cyc i code : Nat) (s : State) :
    genHold n cyc ⟨.MAN_AG_STATUS n, i, 1⟩ code s = recordFault code (holdSet n cyc i s) := rfl

theorem rd_holdSet_ne (n : Fin 8) (cyc i : Nat) (s : State) (r : Reg) (hr : r ≠ .MAN_AG_STATUS n) : (holdSet n cyc i s).rd r = s.rd r :=
  (rd_setF_ne _ _ _ _ hr).trans ((rd_raise_ne _ _ _ hr).trans (rd_raise_ne (s.advance cyc) ⟨.MAN_AG_STATUS n, i, 1⟩ _ hr))

/-- It shows its bit, IN_HOLD and MOVING = 0. -/
theorem holdSet_status (n : Fin 8) (cyc i : Nat) (s : State) (hi : i < 8) :
    (holdSet n cyc i s).f ⟨.MAN_AG_STATUS n, i, 1⟩ = 1 ∧ (holdSet n cyc i s).f (Fld.MAN_AG_STATUS_IN_HOLD n) = 1 ∧
      (holdSet n cyc i s).f (Fld.MAN_AG_STATUS_MOVING n) = 0 ∧
      ∀ j, j < 8 → j ≠ i → (holdSet n cyc i s).f ⟨.MAN_AG_STATUS n, j, 1⟩ = s.f ⟨.MAN_AG_STATUS n, j, 1⟩ := by
  have hbelow (j : Nat) (hj : j < 8) :
      (holdSet n cyc i s).f ⟨.MAN_AG_STATUS n, j, 1⟩ = ((s.advance cyc).raise ⟨.MAN_AG_STATUS n, i, 1⟩).f ⟨.MAN_AG_STATUS n, j, 1⟩ :=
    (f_setF_apart _ _ 9 1 0 j 1 (by omega) (by omega)).trans ((f_raise_apart _ _ 10 j 1 (by omega) (by omega)).trans (f_modGen _ _ _ _))
  refine ⟨?_, ?_, ?_, fun j hj hji => ?_⟩
  · exact (hbelow i hi).trans (f_raise _ ⟨.MAN_AG_STATUS n, i, 1⟩ (by show i + 1 ≤ 32; omega))
  · exact (f_setF_apart _ _ 9 1 0 10 1 (by omega) (by omega)).trans (f_raise _ _ (by simp [Fld.MAN_AG_STATUS_IN_HOLD]))
  · exact f_setF _ _ _ (by simp [Fld.MAN_AG_STATUS_MOVING])
  · exact (hbelow j hj).trans (f_raise_apart (s.advance cyc) _ i j 1 (by omega) (by omega))

theorem holdSet_gen (n : Fin 8) (cyc i : Nat) (s : State) : (holdSet n cyc i s).gen n = { s.gen n with holdAt := cyc } := by
  simp only [holdSet, gen_lower, gen_raise, modGen_gen_same, gen_advance]

theorem holdSet_others (n : Fin 8) (cyc i : Nat) (s : State) (m : Fin 8) (hm : m ≠ n) : (holdSet n cyc i s).gen m = s.gen m := by
  simp only [holdSet, gen_lower, gen_raise, modGen_gen_ne _ _ _ _ hm, gen_advance]

/-- The fault code of a holdover has no reaction (R48, R74): it is recorded, and nothing else changes. -/
theorem genHold_recorded (n : Fin 8) (cyc i code : Nat) (s : State) (hclass : faultClass code = 1) (hd : s.dsgRun = false) :
    genHold n cyc ⟨.MAN_AG_STATUS n, i, 1⟩ code s = recordCore code (holdSet n cyc i s) := by
  have hidle : (holdSet n cyc i s).dsgRun = false := (dsgRun_congr (rd_holdSet_ne n cyc i s _ (by simp))).trans hd
  rw [genHold_eq, recordFault_eq_recordCore code _ (by omega) (by omega) hidle]

/-- A timeout that puts a generator into holdover shows its bit, IN_HOLD, MOVING = 0 and a fault code, and keeps the speed (R58). -/
theorem genHold_shows (n : Fin 8) (cyc i code : Nat) (s : State) (hi : i < 8) (hclass : faultClass code = 1) (hcode : code < 2 ^ 16)
    (hd : s.dsgRun = false) {t : State} (ht : genHold n cyc ⟨.MAN_AG_STATUS n, i, 1⟩ code s = t) :
    (t.time = max s.time cyc ∧ t.f ⟨.MAN_AG_STATUS n, i, 1⟩ = 1 ∧ t.f (Fld.MAN_AG_STATUS_IN_HOLD n) = 1 ∧
      t.f (Fld.MAN_AG_STATUS_MOVING n) = 0) ∧
      (∀ j, j < 8 → j ≠ i → t.f ⟨.MAN_AG_STATUS n, j, 1⟩ = s.f ⟨.MAN_AG_STATUS n, j, 1⟩) ∧
      ((t.gen n).wn = (s.gen n).wn ∧ (t.gen n).wd = (s.gen n).wd) ∧ t.flag Fld.SYS_STATUS_FAULT_NEW = true ∧
      (∀ m, m ≠ n → t.gen m = s.gen m) ∧ s.faultFrame t [0x4002] := by
  rw [genHold_recorded n cyc i code s hclass hd] at ht
  have hnew : t.flag Fld.SYS_STATUS_FAULT_NEW = true :=
    ht ▸ flag_faultNew_recordCore code _ (by rw [Nat.mod_eq_of_lt hcode, hclass]; decide)
  have hrec : Recorded (holdSet n cyc i s) t := ht ▸ recordCore_recorded code _
  have hside := Aside.of_recorded hrec
  obtain ⟨hbit, hin, hmoving, hother⟩ := holdSet_status n cyc i s hi
  refine ⟨⟨hside.time, (hside.f rfl).trans hbit, (hside.f rfl).trans hin, (hside.f rfl).trans hmoving⟩,
    fun j hj hji => (hside.f rfl).trans (hother j hj hji), ?_, hnew, fun m hm => (hside.gen m).trans (holdSet_others n cyc i s m hm), ?_, ?_, hrec.chk⟩
  · rw [hside.gen, holdSet_gen]
    exact ⟨rfl, rfl⟩
  · intro r hr
    have hne : r ≠ .MAN_AG_STATUS n := by
      rintro rfl
      simp only [Reg.addr, List.mem_cons] at hr
      omega
    exact ((hrec.faultFrame [0x4002]).1 r hr).trans (rd_holdSet_ne n cyc i s r hne)
  · exact (hrec.faultFrame [0x4002]).2.1

theorem exec_holdover {n : Fin 8} {s : State} (hon : s.flag (Fld.MAN_AG_CTL_EN n) = true) (hsrc : s.gSrc n = 2 ∨ s.gSrc n = 5)
    (htmo : s.f (Fld.MAN_AG_TMO_HOLD_TMO n) ≠ 0) (hev : 0 < (s.gen n).events) (hin : s.f (Fld.MAN_AG_STATUS_IN_HOLD n) = 0) :
    let due := (s.gen n).stamp / 16 + s.f (Fld.MAN_AG_TMO_HOLD_TMO n) * 6000 + 1
    exec (.holdoverEntry n) s = .next (if genMeets s n due then s else genHold n due (Fld.MAN_AG_STATUS_HOLDOVER n) 0x2141 s) := by
  intro due
  have hcond : (s.genOn n && (s.gSrc n = 2 || s.gSrc n = 5) && s.f (Fld.MAN_AG_TMO_HOLD_TMO n) != 0 && decide (0 < (s.gen n).events) &&
      !s.flag (Fld.MAN_AG_STATUS_IN_HOLD n) && !genMeets s n due) = !genMeets s n due := by
    simp [State.genOn, hon, hsrc, htmo, hev, (flag_eq_false_iff _ _).mpr hin]
  have hexec : exec (.holdoverEntry n) s = .next (if (s.genOn n && (s.gSrc n = 2 || s.gSrc n = 5) && s.f (Fld.MAN_AG_TMO_HOLD_TMO n) != 0 &&
      decide (0 < (s.gen n).events) && !s.flag (Fld.MAN_AG_STATUS_IN_HOLD n) && !genMeets s n due) = true
      then genHold n due (Fld.MAN_AG_STATUS_HOLDOVER n) 0x2141 s else s) := rfl
  rw [hexec, hcond]
  cases genMeets s n due <;> rfl

theorem exec_mainsLost {n : Fin 8} {s : State} {h : Nat} (hon : s.flag (Fld.MAN_AG_CTL_EN n) = true) (hsrc : s.gSrc n = 7)
    (hh : halfPeriod (s.gen n) = some h) (hin : s.f (Fld.MAN_AG_STATUS_IN_HOLD n) = 0) :
    let due := ((s.gen n).stamp + 3 * h / 2) / 16 + 1
    exec (.mainsLost n) s = .next (if genMeets s n due then s else genHold n due (Fld.MAN_AG_STATUS_MAINS_LOST n) 0x2142 s) := by
  intro due
  have hcond : (s.genOn n && decide (s.gSrc n = 7) && !s.flag (Fld.MAN_AG_STATUS_IN_HOLD n) && !genMeets s n due) = !genMeets s n due := by
    simp [State.genOn, hon, hsrc, (flag_eq_false_iff _ _).mpr hin]
  have hexec : execMainsLost n s = .next (if (s.genOn n && decide (s.gSrc n = 7) && !s.flag (Fld.MAN_AG_STATUS_IN_HOLD n) &&
      !genMeets s n due) = true then genHold n due (Fld.MAN_AG_STATUS_MAINS_LOST n) 0x2142 s else s) := by
    simp only [execMainsLost, hh]
    rfl
  refine Eq.trans (b := execMainsLost n s) rfl ?_
  rw [hexec, hcond]
  cases genMeets s n due <;> rfl

/-! ## The ramp (R65) -/

/-- The record of a ramp after a step of its speed. -/
def Gen.rampStep (g : Gen) (tgt : Int) (acc : Nat) : Gen :=
  { g with rampAcc := g.rampAcc + g.rampV * 1024, rampCyc := g.rampCyc + 1024, rampV := rampTo g.rampV tgt acc }

/-- A step of the speed leaves the position of its cycle. -/
theorem rampPos_rampStep (g : Gen) (tgt : Int) (acc : Nat) : (g.rampStep tgt acc).rampPos (g.rampCyc + 1024) = g.rampPos (g.rampCyc + 1024) := by
  simp only [Gen.rampPos, Gen.rampStep]
  push_cast
  congr 1
  ring

/-- The state after a step of the ramp's speed, before MOVING and DIR follow. -/
def rampMoved (n : Fin 8) (s : State) : State :=
  let before := s.advance ((s.gen n).rampCyc + 1024)
  genKeep (before.modGen n fun g => g.rampStep (s.rd (.MAN_AG_RAMP_TGT n)).toInt (s.rd (.MAN_AG_RAMP_ACC n)).toNat)
    n ((s.gen n).rampCyc + 1024) false false before

/-- The state after a step of the ramp. -/
def rampStepped (n : Fin 8) (s : State) : State :=
  let v := ((rampMoved n s).gen n).rampV
  ((rampMoved n s).setF (Fld.MAN_AG_STATUS_MOVING n) (bit (v != 0))).setF (Fld.MAN_AG_STATUS_DIR n)
    (bit (if (rampMoved n s).flag (Fld.MAN_AG_CTL_DIR_INV n) then decide (0 < v) else decide (v < 0)))

theorem exec_rampSpeedStep {n : Fin 8} {s : State} (hon : s.flag (Fld.MAN_AG_CTL_EN n) = true) (hsrc : s.gSrc n = 6) :
    exec (.rampSpeedStep n) s = .next (rampStepped n s) := by
  have hcond : (s.genOn n && decide (s.gSrc n = 6)) = true := Bool.and_eq_true_iff.mpr ⟨hon, decide_eq_true hsrc⟩
  refine congrArg Host.Outcome.next ((if_pos hcond).trans ?_)
  simp only [modGen_gen_same, gen_advance]
  rfl

theorem rampStepped_shows (n : Fin 8) (s : State) :
    let g := s.gen n
    let t := rampStepped n s
    t.time = max s.time (g.rampCyc + 1024) ∧
      (t.gen n).rampV = rampTo g.rampV (s.rd (.MAN_AG_RAMP_TGT n)).toInt (s.rd (.MAN_AG_RAMP_ACC n)).toNat ∧
      (t.gen n).rampPos (g.rampCyc + 1024) = g.rampPos (g.rampCyc + 1024) ∧
      t.f (Fld.MAN_AG_STATUS_MOVING n) = bit ((t.gen n).rampV != 0) ∧ (∀ m, m ≠ n → t.gen m = s.gen m) ∧
      s.keeps t [.MAN_AG_STATUS n] ∧ s.keepsMem t := by
  intro g t
  have hsame : (g.rampStep (s.rd (.MAN_AG_RAMP_TGT n)).toInt (s.rd (.MAN_AG_RAMP_ACC n)).toNat).sameLatch (t.gen n) := by
    have h := genKeep_sameLatch ((s.advance (g.rampCyc + 1024)).modGen n fun g =>
      g.rampStep (s.rd (.MAN_AG_RAMP_TGT n)).toInt (s.rd (.MAN_AG_RAMP_ACC n)).toNat) n (g.rampCyc + 1024) false false (s.advance (g.rampCyc + 1024))
    rwa [modGen_gen_same] at h
  have hlatched : Latched n (s.advance (g.rampCyc + 1024)) (rampMoved n s) := (Latched.modGen _ _).trans (genKeep_latched _ _ _ _ _ _)
  refine ⟨hlatched.time, hsame.rampV, (hsame.rampPos _).trans (rampPos_rampStep _ _ _), ?_, hlatched.others, fun r hr => ?_,
    genKeep_keepsMem _ _ _ _ _ _⟩
  · have hlt (b : Bool) : bit b < 2 := by cases b <;> decide
    exact (f_setF_apart _ _ 8 1 _ 9 1 (by omega) (by omega)).trans ((f_setF _ _ _ (by simp [Fld.MAN_AG_STATUS_MOVING])).trans
      (Nat.mod_eq_of_lt (hlt _)))
  · have hr' : r ≠ .MAN_AG_STATUS n := by simpa using hr
    exact (rd_setF_ne _ _ _ _ hr').trans ((rd_setF_ne _ _ _ _ hr').trans (rd_genKeep _ _ _ _ _ _ _))

/-! ## The clamp (R57) -/

/-- Taps from a latch to the clamp, rounded up. -/
theorem le_ceil_mul {a w : Nat} (hw : 0 < w) : a ≤ w * ((a + w - 1) / w) := by
  have hdiv := Nat.div_add_mod (a + w - 1) w
  have hmod := Nat.mod_lt (a + w - 1) hw
  generalize w * ((a + w - 1) / w) = x at *
  omega

/-- From its due cycle on the forward extrapolation stands one au short of the next boundary (R57). -/
theorem Gen.d_clamped {g : Gen} {span cyc : Nat} (hheld : g.held = none) (hwn : 0 < g.wn) (hwd : 0 < g.wd) (hdir : g.dir = 1) (hspan : 0 < span)
    (hcyc : g.stamp + (span * g.wd + g.wn.natAbs - 1) / g.wn.natAbs ≤ cyc * 16) : g.d true span cyc = ((span : Int) - 1, true) := by
  have hreach : (span : Int) ≤ g.wn * ((cyc : Int) * 16 - g.stamp) / (g.wd : Int) := by
    have hceil := le_ceil_mul (a := span * g.wd) (w := g.wn.natAbs) (by omega)
    have hw : (g.wn.natAbs : Int) = g.wn := by omega
    generalize (span * g.wd + g.wn.natAbs - 1) / g.wn.natAbs = taps at *
    rw [Int.le_ediv_iff_mul_le (by omega)]
    calc (span : Int) * g.wd ≤ (g.wn.natAbs : Int) * (taps : Int) := by exact_mod_cast hceil
      _ ≤ g.wn * ((cyc : Int) * 16 - g.stamp) := by
        rw [hw]
        exact Int.mul_le_mul_of_nonneg_left (by omega) (by omega)
  simp only [Gen.d, hheld, hdir]
  generalize g.wn * ((cyc : Int) * 16 - g.stamp) / (g.wd : Int) = d at *
  have hclamp : max 0 (min d ((span : Int) - 1)) = (span : Int) - 1 := by omega
  simp only [↓reduceIte, Int.one_nonneg, hclamp, Prod.mk.injEq, true_and]
  exact bne_iff_ne.mpr (by omega)

theorem exec_clamp {n : Fin 8} {s : State} (hon : s.flag (Fld.MAN_AG_CTL_EN n) = true) (hsrc : srcCounted (s.gSrc n) = true)
    (hcpr : 0 < s.f (Fld.MAN_AG_CPR_CPR n)) (hheld : (s.gen n).held = none) (hwn : 0 < (s.gen n).wn) :
    let g := s.gen n
    let due := (g.stamp + ((2 ^ 32 / s.f (Fld.MAN_AG_CPR_CPR n)) * g.wd + g.wn.natAbs - 1) / g.wn.natAbs + 15) / 16
    exec (.extrapolationClamp n) s = .next (if genMeets s n due then s
      else (s.advance due).setF (Fld.MAN_AG_STATUS_CLAMPED n) (bit (genClamped (s.advance due) n))) := by
  intro g due
  have hcond : (s.genOn n && srcCounted (s.gSrc n) && (s.gen n).held.isNone && (s.gen n).wn != 0) = true := by
    simp [State.genOn, hon, hsrc, hheld]
    omega
  refine congrArg Host.Outcome.next ((if_pos hcond).trans ?_)
  simp only [genCpr_eq hcpr]
  rfl

/-! ## The obligation -/

/-- What an event of a running generator leaves, from the state in which it was told. -/
theorem Latched.told {n : Fin 8} {s u t : State} (h : Latched n u t) (hd : s.dsgRun = false) (hregs : u.regs = s.regs) (hmem : u.mem = s.mem)
    (hchk : u.chk = s.chk) : s.faultFrame t [0x4002, 0x4004, 0x4005] := by
  have hrd : ∀ r, u.rd r = s.rd r := fun r => by simp only [State.rd, hregs]
  obtain ⟨hkeep, hbytes, hcopy⟩ := (h.quiet ((dsgRun_congr (hrd _)).trans hd)).faultFrame
  exact ⟨fun r hr => (hkeep r hr).trans (hrd r), fun a ha => (hbytes a ha).trans (by rw [hmem]), hcopy.trans hchk⟩

section Clauses

variable {s : State} {n : Fin 8} (hon : s.flag (Fld.MAN_AG_CTL_EN n) = true) (hd : s.dsgRun = false)
include hon hd

/-- A mains crossing told to a generator that has measured no speed is latched. -/
theorem gives_mains_first (hsrc : s.gSrc n = 7) (hin : (s.gen n).inbox = []) (hw : (s.gen n).wn = 0) (rising : Bool) (T : Nat) :
    gives (.generatorEvent ⟨n, some (rising, T)⟩) s fun t =>
      (t.gen n).stamp = T ∧ t.rd (.MAN_AG_LATCH_POS n) = (if rising then 0#32 else 0x80000000#32) ∧
      (t.gen n).evAt = max (T / 16 + 3) ((s.gen n).evAt + 1) ∧ t.time = max s.time (max (T / 16) (t.gen n).evAt) ∧
      (∀ m, m ≠ n → t.gen m = s.gen m) ∧ s.faultFrame t [0x4002, 0x4004, 0x4005] := by
  refine ⟨_, exec_mains hon hsrc hin rising T, ?_⟩
  generalize hk : max (T / 16 + 3) ((s.gen n).evAt + 1) = k
  generalize hu : genTaken n k [] ((mainsTold n rising T s).advance k) = u
  have hgen := mainsTold_gen n rising T k s
  rw [hu] at hgen
  rw [genEvent_mains_first (by rw [hgen]; exact hw)]
  obtain ⟨hstamp, hword, hev⟩ := mainsLatch_shows n rising T k u
  have hlatched := mainsLatch_latched n rising T k u
  have hev' : ((mainsLatch n rising T k u).gen n).evAt = k := by rw [hev, hgen]
  refine ⟨hstamp, hword, hev', ?_, fun m hm => (hlatched.others m hm).trans (hu ▸ mainsTold_others n rising T k s m hm),
    hlatched.told hd (hu ▸ rfl) (hu ▸ rfl) (hu ▸ rfl)⟩
  rw [hev', hlatched.time, ← hu]
  exact Nat.max_assoc _ _ _

omit hd in
/-- A crossing too soon after the last changes the generator's queue alone. -/
theorem gives_mains_discarded (hsrc : s.gSrc n = 7) (hin : (s.gen n).inbox = []) {h T : Nat} (hh : halfPeriod (s.gen n) = some h)
    (he : 0 < (s.gen n).events) (hn : 2 * (T - (s.gen n).stamp) < h) (rising : Bool) :
    gives (.generatorEvent ⟨n, some (rising, T)⟩) s fun t =>
      (t.gen n).toGenRec = (s.gen n).toGenRec ∧ (∀ m, m ≠ n → t.gen m = s.gen m) ∧ s.keeps t [] ∧ s.keepsMem t := by
  refine ⟨_, exec_mains hon hsrc hin rising T, ?_⟩
  generalize max (T / 16 + 3) ((s.gen n).evAt + 1) = k
  have hgen := mainsTold_gen n rising T k s
  rw [genEvent_mains_discarded (h := h) (by rw [hgen]; exact hh) (by rw [hgen]; exact he) (by rw [hgen]; exact hn)]
  exact ⟨by rw [hgen], mainsTold_others n rising T k s, fun _ _ => rfl, rfl, rfl⟩

omit hd in
/-- The clamp of a forward extrapolation (R57). -/
theorem gives_clamp (hsrc : srcCounted (s.gSrc n) = true) (hcpr : 0 < s.f (Fld.MAN_AG_CPR_CPR n)) (hcpr' : s.f (Fld.MAN_AG_CPR_CPR n) ≤ 2 ^ 24)
    (hheld : (s.gen n).held = none) (hwn : 0 < (s.gen n).wn) (hwd : 0 < (s.gen n).wd) (hdir : (s.gen n).dir = 1) :
    let g := s.gen n
    let due := (g.stamp + ((2 ^ 32 / s.f (Fld.MAN_AG_CPR_CPR n)) * g.wd + g.wn.natAbs - 1) / g.wn.natAbs + 15) / 16
    genMeets s n due = false → gives (.extrapolationClamp n) s fun t =>
      t.f (Fld.MAN_AG_STATUS_CLAMPED n) = 1 ∧ genPos t n t.time = g.pos + (2 ^ 32 / s.f (Fld.MAN_AG_CPR_CPR n) : Nat) - 1 ∧
      t.man = s.man ∧ s.keeps t [.MAN_AG_STATUS n] ∧ s.keepsMem t := by
  intro g due hm
  have hspan : 0 < 2 ^ 32 / s.f (Fld.MAN_AG_CPR_CPR n) := Nat.div_pos (by omega) hcpr
  have hclamp : g.d true (countSpan (s.f (Fld.MAN_AG_CPR_CPR n))) (max s.time due) = (((2 ^ 32 / s.f (Fld.MAN_AG_CPR_CPR n) : Nat) : Int) - 1, true) :=
    Gen.d_clamped hheld hwn hwd hdir hspan (by simp only [due]; omega)
  have hlimits : genClamped (s.advance due) n = true :=
    Bool.and_eq_true_iff.mpr ⟨Bool.and_eq_true_iff.mpr ⟨hon, hsrc⟩, congrArg Prod.snd hclamp⟩
  refine ⟨_, exec_clamp hon hsrc hcpr hheld hwn, ?_⟩
  rw [if_neg (by rw [hm]; exact Bool.false_ne_true), hlimits]
  generalize ht : (s.advance due).setF (Fld.MAN_AG_STATUS_CLAMPED n) (bit true) = t
  have hkeep : s.keeps t [.MAN_AG_STATUS n] := fun r hr => ht ▸ rd_setF_ne (s.advance due) (Fld.MAN_AG_STATUS_CLAMPED n) _ r (by simpa [Fld.MAN_AG_STATUS_CLAMPED] using hr)
  have hctl (F : RF) (hF : F.reg ≠ .MAN_AG_STATUS n) : t.f F = s.f F := f_congr F (hkeep F.reg (by simpa using hF))
  have htime : t.time = max s.time due := ht ▸ rfl
  have hgen : t.gen n = g := ht ▸ rfl
  refine ⟨ht ▸ f_setF _ _ _ (by simp [Fld.MAN_AG_STATUS_CLAMPED]), ?_, ht ▸ rfl, hkeep, ht ▸ rfl, ht ▸ rfl⟩
  have hon' : t.flag (Fld.MAN_AG_CTL_EN n) = true := (congrArg (· != 0) (hctl (Fld.MAN_AG_CTL_EN n) (by simp [Fld.MAN_AG_CTL_EN]))).trans hon
  have hsrc' : srcCounted (t.gSrc n) = true := (congrArg srcCounted (hctl (Fld.MAN_AG_CTL_SRC n) (by simp [Fld.MAN_AG_CTL_SRC]))).trans hsrc
  rw [genPos_counted hon' hsrc', hgen, htime, hctl (Fld.MAN_AG_CPR_CPR n) (by simp [Fld.MAN_AG_CPR_CPR]), hclamp]
  omega

end Clauses

/-- Settles O9: each command is an event latched, a timeout, a step of the ramp or a clamp, at the core cycle that its rule names. -/
theorem generatorEventsAndTimeouts : Obligations.GeneratorEventsAndTimeouts := by
  unfold Obligations.GeneratorEventsAndTimeouts
  intro s n hon hcpr hcpr' hd g counted cpr others meets
  have hmeets (cyc : Nat) : meets cyc ↔ genMeets s n cyc = true := by rw [genMeets_eq]
  have hyes {cyc : Nat} (h : meets cyc) (t : State) : Host.Outcome.next (if genMeets s n cyc then s else t) =
      (.next s : Host.Outcome State Fault Refusal) := congrArg _ (if_pos ((hmeets cyc).mp h))
  have hno {cyc : Nat} (h : ¬ meets cyc) (t : State) : Host.Outcome.next (if genMeets s n cyc then s else t) =
      (.next t : Host.Outcome State Fault Refusal) := congrArg _ (if_neg ((hmeets cyc).not.mp h))
  refine ⟨fun delta st a rest hin hdelta => ?_, exec_generatorEvent_none, fun rising T hsrc hin => ⟨fun hw => ?_, fun h hh he hn => ?_⟩,
    fun hsrc htmo hev hheld => ?_, fun hsrc htmo hev hin => ?_, fun h hsrc hh hin => ?_, fun hsrc => ?_, fun hsrc hheld hwn hwd hdir => ?_⟩
  · refine ⟨_, exec_generatorEvent (genDue_cons hin), ?_⟩
    generalize max (a + 3) ((s.gen n).evAt + 1) = k
    obtain ⟨⟨hcount, hpos, hstamp, hinbox, hevAt⟩, hspeed, hword, hdir, hmoving, hclamped, hrev⟩ :=
      countedEvent_shows (s := s.advance k) hin hon hdelta k
    have hframe := genTake_latched n k (s.advance k)
    intro d rev pos first
    have hd0 : d ≠ 0 := by unfold d; split <;> omega
    have hcountPos : countedPos (s.genCpr n) g.count d = pos := by rw [genCpr_eq hcpr]; rfl
    have hmeasure : (((genTake n k (s.advance k)).gen n).wn, ((genTake n k (s.advance k)).gen n).wd) =
        genMeasure (s.f (Fld.MAN_AG_CTL_SPD_N n)) pos st (if g.reverses (countedDir d) then [] else g.hist) := hcountPos ▸ hspeed
    refine ⟨hcount, hpos.trans hcountPos, hstamp, hinbox, hevAt, ?_, hword.trans (congrArg wordOfInt hcountPos), hdir.trans (bit_countedDir hd0),
      hmoving, hclamped, fun hr => ⟨hrev (reverses_countedDir_of hr), ?_⟩, fun hh => ?_, fun hg hr p0 t0 hfirst ht => ?_, hframe.others,
      hframe.told hd rfl rfl rfl⟩
    · rw [hevAt, hframe.time]; rfl
    · rw [if_pos (reverses_countedDir_of hr)] at hmeasure
      exact congrArg Prod.fst hmeasure
    · rw [hh, ite_self] at hmeasure
      exact congrArg Prod.fst hmeasure
    · rw [reverses_countedDir_not hg hd0 hr, if_neg Bool.false_ne_true, genMeasure_some hfirst ht] at hmeasure
      exact Prod.mk.inj hmeasure
  · exact gives_mains_first hon hd hsrc hin hw rising T
  · exact gives_mains_discarded hon hsrc hin hh he hn rising
  · have hsrc' := (srcCounted_iff _).mpr hsrc
    have hexec := exec_standstill hon hsrc' htmo hev hheld
    intro due
    refine ⟨fun hm => hexec.trans (hyes hm _), fun hm => ⟨_, hexec.trans (hno hm _), ?_⟩⟩
    obtain ⟨htime, hstill, hmoving, -, -, hkeep, hmem⟩ := stoodStill_shows n due s
    exact ⟨htime, hstill, hmoving, fun c => htime.symm ▸ stoodStill_holds hon hsrc' hcpr due c, (stoodStill_latched n due s).others, hkeep, hmem⟩
  · have hexec := exec_holdover hon hsrc htmo hev hin
    intro due
    refine ⟨fun hm => hexec.trans (hyes hm _), fun hm => ⟨_, hexec.trans (hno hm _), ?_⟩⟩
    obtain ⟨⟨htime, hbit, hhold, hmoving⟩, -, ⟨hwn, hwd⟩, hnew, hothers, hframe⟩ :=
      genHold_shows n due 3 0x2141 s (by decide) (by decide) (by decide) hd rfl
    exact ⟨htime, hbit, hhold, hmoving, hwn, hwd, hnew, hothers, hframe⟩
  · have hexec := exec_mainsLost hon hsrc hh hin
    refine ⟨fun hm => hexec.trans (hyes hm _), fun hm => ⟨_, hexec.trans (hno hm _), ?_⟩⟩
    obtain ⟨⟨-, hbit, hhold, hmoving⟩, hother, ⟨hwn, -⟩, hnew, hothers, hframe⟩ :=
      genHold_shows n (((s.gen n).stamp + 3 * h / 2) / 16 + 1) 4 0x2142 s (by decide) (by decide) (by decide) hd rfl
    exact ⟨hbit, hhold, hmoving, hother 3 (by decide) (by decide), hwn, hnew, hothers, hframe⟩
  · obtain ⟨htime, hspeed, hpos, hmoving, hothers, hkeep, hmem⟩ := rampStepped_shows n s
    refine ⟨_, exec_rampSpeedStep hon hsrc, htime, hspeed, hpos, hmoving.trans ?_, hothers, hkeep, hmem⟩
    simp only [bit, bne_iff_ne, ne_eq, ite_not]
  · have hsrc' := (srcCounted_iff _).mpr hsrc
    intro due
    refine ⟨fun hm => (exec_clamp hon hsrc' hcpr hheld hwn).trans (hyes hm _),
      fun hm => gives_clamp hon hsrc' hcpr hcpr' hheld hwn hwd hdir (Bool.eq_false_iff.mpr ((hmeets _).not.mp hm))⟩

end Sys2Proof.Machine
end

section
/-! SUPPORT. Guarded writes (R529), what a generator's angle depends on (R57, R62, R64), and an event discarded (R78). -/

namespace Sys2Proof.Machine

open Sys2Proof

/-! ## Guarded fields -/

/-- A field in two parts. -/
theorem wGet_add (w : Word) (lo a b : Nat) : wGet w lo (a + b) = wGet w lo a + 2 ^ a * wGet w (lo + a) b := by
  simp only [wGet, Nat.shiftRight_eq_div_pow, Nat.pow_add, Nat.mod_mul, Nat.div_div_eq_div_mul]

/-- A field guarded keeps its value. -/
theorem wGet_guardMask_in (old new : Word) (lo width : Nat) (h : lo + width ≤ 32) :
    wGet (guardMask old new (wMask lo width)).1 lo width = wGet old lo width := by
  refine wGet_congr fun i h1 h2 => ?_
  simp only [guardMask, BitVec.getLsbD_or, BitVec.getLsbD_and, BitVec.getLsbD_not, getLsbD_wMask _ _ _ (show i < 32 by omega), h1, h2,
    show i < 32 by omega, decide_true, Bool.and_self, Bool.not_true, Bool.and_false, Bool.false_or, Bool.and_true]

/-- The fields beside it take the write. -/
theorem wGet_guardMask_out (old new : Word) (lo width lo' width' : Nat) (h : lo' + width' ≤ 32) (hd : lo' + width' ≤ lo ∨ lo + width ≤ lo') :
    wGet (guardMask old new (wMask lo width)).1 lo' width' = wGet new lo' width' := by
  refine wGet_congr fun i h1 h2 => ?_
  have hout : (decide (lo ≤ i) && decide (i < lo + width)) = false := by simp; omega
  simp only [guardMask, BitVec.getLsbD_or, BitVec.getLsbD_and, BitVec.getLsbD_not, getLsbD_wMask _ _ _ (show i < 32 by omega), hout,
    show i < 32 by omega, decide_true, Bool.and_self, Bool.not_false, Bool.and_true, Bool.and_false, Bool.or_false]

/-- A write is ignored where it would have changed the field (R529). -/
theorem guardMask_lost (old new : Word) (lo width : Nat) (h : lo + width ≤ 32) :
    (guardMask old new (wMask lo width)).2 = true ↔ wGet new lo width ≠ wGet old lo width := by
  simp only [guardMask, bne_iff_ne, ne_eq, not_iff_not]
  constructor
  · intro hz
    refine wGet_congr fun i h1 h2 => ?_
    have hbit := congrArg (·.getLsbD i) hz
    simp only [BitVec.getLsbD_and, BitVec.getLsbD_xor, getLsbD_wMask _ _ _ (show i < 32 by omega), h1, h2, decide_true, Bool.and_self,
      Bool.and_true, BitVec.getLsbD_zero, bne_eq_false_iff_eq] at hbit
    exact hbit.symm
  · intro heq
    refine BitVec.eq_of_getLsbD_eq fun i hi => ?_
    rw [BitVec.getLsbD_and, BitVec.getLsbD_xor, getLsbD_wMask _ _ _ hi, BitVec.getLsbD_zero]
    by_cases hin : lo ≤ i ∧ i < lo + width
    · have hbit := congrArg (·.testBit (i - lo)) heq
      simp only [testBit_wGet, show i - lo < width by omega, decide_true, Bool.true_and, show lo + (i - lo) = i by omega] at hbit
      simp [hbit]
    · have hout : (decide (lo ≤ i) && decide (i < lo + width)) = false := by simpa using hin
      rw [hout, Bool.and_false]

/-- With nothing guarded a write goes by the access codes. -/
theorem writeGuarded_zero (r : Reg) (v : Word) (ign : State → State) (s : State) : writeGuarded r v 0#32 ign s = writePlain r v s := by
  have hword : guardMask (s.rd r) (writeMerged s r v) 0#32 = (writeMerged s r v, false) := by
    simp only [guardMask, show ~~~(0#32) = BitVec.allOnes 32 from rfl, BitVec.and_allOnes, BitVec.and_zero, BitVec.or_zero, bne_self_eq_false]
  simp only [writeGuarded, hword]
  rfl

theorem writeGuarded_eq (r : Reg) (v mask : Word) (ign : State → State) (s : State) :
    writeGuarded r v mask ign s =
      let w := guardMask (s.rd r) (writeMerged s r v) mask
      if w.2 then ign (s.wr r w.1) else s.wr r w.1 := rfl

/-! ## A write to MAN_AGn_CTL by its access codes (R76) -/

section Ctl

variable (s : State) (n : Fin 8) (v : Word)

/-- EN and SPD_N take the value of the write. -/
theorem wGet_genCtl_en : wGet (writeMerged s (.MAN_AG_CTL n) v) 0 1 = wGet v 0 1 := by
  rw [wGet_writeMerged s _ v ⟨0, 1, .rw, 0, []⟩ (by simp [Reg.rows]) (by decide)]
  exact if_pos rfl

theorem wGet_genCtl_spd : wGet (writeMerged s (.MAN_AG_CTL n) v) 9 3 = wGet v 9 3 := by
  rw [wGet_writeMerged s _ v ⟨9, 3, .rw, 0, []⟩ (by simp [Reg.rows]) (by decide)]
  exact if_pos rfl

/-- SRC, SRC_CH and DIR_INV do so before the lock, a reserved SRC excepted. -/
theorem wGet_genCtl_src : wGet (writeMerged s (.MAN_AG_CTL n) v) 1 4 =
    if s.locked = false ∧ wGet v 1 4 < 8 then wGet v 1 4 else wGet (s.rd (.MAN_AG_CTL n)) 1 4 := by
  rw [wGet_writeMerged s _ v ⟨1, 4, .rwl, 0, [(8, 15)]⟩ (by simp [Reg.rows]) (by decide)]
  have hlt := wGet_lt v 1 4
  refine if_congr ?_ rfl rfl
  simp only [fieldTakes_iff, accepts_rwl, List.mem_singleton, forall_eq, Bool.not_eq_true']
  refine and_congr_right fun _ => ⟨fun h => by omega, fun h => ⟨by omega, rfl⟩⟩

theorem wGet_genCtl_rest : wGet (writeMerged s (.MAN_AG_CTL n) v) 5 4 = if s.locked = false then wGet v 5 4 else wGet (s.rd (.MAN_AG_CTL n)) 5 4 := by
  have hch := wGet_writeMerged s (.MAN_AG_CTL n) v ⟨5, 3, .rwl, 0, []⟩ (by simp [Reg.rows]) (by decide)
  have hinv := wGet_writeMerged s (.MAN_AG_CTL n) v ⟨8, 1, .rwl, 0, []⟩ (by simp [Reg.rows]) (by decide)
  have htakes (row : FieldRow) (h : row = ⟨5, 3, .rwl, 0, []⟩ ∨ row = ⟨8, 1, .rwl, 0, []⟩) :
      fieldTakes s (.MAN_AG_CTL n) v (writeMerged s (.MAN_AG_CTL n) v) row = !s.locked := by
    rcases h with rfl | rfl <;> simp [fieldTakes, rsvNow]
  rw [htakes _ (.inl rfl)] at hch
  rw [htakes _ (.inr rfl)] at hinv
  simp only [wGet_add _ 5 3 1, hch, hinv]
  cases s.locked <;> rfl

end Ctl

/-! ## What the angle of a generator depends on -/

theorem Gen.sameLatch.exists {g h : Gen} (e : g.sameLatch h) :
    ∃ c m l w x y, h = { g with chg := c, mechB := m, elecB := l, wB := w, jumpM := x, jumpE := y } := ⟨_, _, _, _, _, _, e.symm⟩

/-- The registers that the mechanical output takes part of. -/
structure SameScale (n : Fin 8) (s t : State) : Prop where
  ctl : t.rd (.MAN_AG_CTL n) = s.rd (.MAN_AG_CTL n)
  cpr : t.rd (.MAN_AG_CPR n) = s.rd (.MAN_AG_CPR n)
  den : t.rd (.MAN_AG_GEAR_DEN n) = s.rd (.MAN_AG_GEAR_DEN n)

theorem SameScale.of_rd {n : Fin 8} {s t : State} (h : ∀ r, t.rd r = s.rd r) : SameScale n s t := ⟨h _, h _, h _⟩

section Congr

variable {n : Fin 8} {s t : State} (hs : SameScale n s t) (hg : (s.gen n).sameLatch (t.gen n))
include hs hg

theorem genPos_congr (c : Nat) : genPos t n c = genPos s n c := by
  obtain ⟨_, _, _, _, _, _, heq⟩ := hg.exists
  have hon : t.flag (Fld.MAN_AG_CTL_EN n) = s.flag (Fld.MAN_AG_CTL_EN n) := flag_congr _ hs.ctl
  have hsrc : t.gSrc n = s.gSrc n := f_congr _ hs.ctl
  have hinv : t.flag (Fld.MAN_AG_CTL_DIR_INV n) = s.flag (Fld.MAN_AG_CTL_DIR_INV n) := flag_congr _ hs.ctl
  have hcpr : t.f (Fld.MAN_AG_CPR_CPR n) = s.f (Fld.MAN_AG_CPR_CPR n) := f_congr _ hs.cpr
  unfold genPos
  rw [hon, hsrc, hinv, hcpr, heq]
  rfl

theorem genMech_congr (c : Nat) : genMech t n c = genMech s n c := by
  obtain ⟨_, _, _, _, _, _, heq⟩ := hg.exists
  have hden : t.f (Fld.MAN_AG_GEAR_DEN_DEN n) = s.f (Fld.MAN_AG_GEAR_DEN_DEN n) := f_congr _ hs.den
  unfold genMech
  rw [genPos_congr hs hg, hden, heq]

theorem genTurns_congr (c : Nat) : genTurns t n c = genTurns s n c := by
  obtain ⟨_, _, _, _, _, _, heq⟩ := hg.exists
  unfold genTurns
  rw [genMech_congr hs hg, heq]

theorem genSpeed_congr (c : Nat) : genSpeed t n c = genSpeed s n c := by
  obtain ⟨_, _, _, _, _, _, heq⟩ := hg.exists
  have hon : t.flag (Fld.MAN_AG_CTL_EN n) = s.flag (Fld.MAN_AG_CTL_EN n) := flag_congr _ hs.ctl
  have hsrc : t.gSrc n = s.gSrc n := f_congr _ hs.ctl
  have hinv : t.flag (Fld.MAN_AG_CTL_DIR_INV n) = s.flag (Fld.MAN_AG_CTL_DIR_INV n) := flag_congr _ hs.ctl
  have hcpr : t.f (Fld.MAN_AG_CPR_CPR n) = s.f (Fld.MAN_AG_CPR_CPR n) := f_congr _ hs.cpr
  unfold genSpeed
  rw [hon, hsrc, hinv, hcpr, heq]

end Congr

/-- A disabled generator's output holds, with speed 0 (R65, R76). -/
theorem genPos_disabled {s : State} {n : Fin 8} (h : s.flag (Fld.MAN_AG_CTL_EN n) = false) (c : Nat) : genPos s n c = (s.gen n).pos :=
  if_neg (by rw [h]; exact Bool.false_ne_true)

theorem genSpeed_disabled {s : State} {n : Fin 8} (h : s.flag (Fld.MAN_AG_CTL_EN n) = false) (c : Nat) : genSpeed s n c = (0, 1) :=
  if_pos (by rw [h]; rfl)

/-- The jump marks of a change (R60, R64): a jump of the same cycle stands. -/
theorem genKeep_jumps (s : State) (n : Fin 8) (cyc : Nat) (mech elec : Bool) (before : State) :
    ((genKeep s n cyc mech elec before).gen n).jumpM = ((before.gen n).chg == cyc && (s.gen n).jumpM || mech) ∧
      ((genKeep s n cyc mech elec before).gen n).jumpE = ((before.gen n).chg == cyc && (s.gen n).jumpE || elec) := by
  unfold genKeep
  by_cases h : (before.gen n).chg = cyc
  · rw [if_pos h, modGen_gen_same]; simp [h]
  · rw [if_neg h, modGen_gen_same]; simp [h]

/-! ## Events discarded (R78) -/

theorem genDiscard_nothing {n : Fin 8} {s : State} (hin : (s.gen n).inbox = []) (h : ∀ w, (s.gen n).undo = some w → w.cyc ≠ s.time) :
    genDiscard n s = s := by
  unfold genDiscard
  rw [genSettle_of_empty n _ s hin]
  extract_lets
  split
  · next w hw => exact if_neg (h w hw)
  · rfl

/-- The state with the event of its core cycle taken back. -/
def genRestored (n : Fin 8) (w : GenWas) (s : State) : State :=
  (((s.modGen n fun g => { g with toGenRec := w.was }).wr (.MAN_AG_STATUS n) w.status).wr (.MAN_AG_LATCH_POS n) w.latch).wr
    (.MAN_AG_JUMP_LAST n) w.jump

theorem genRestored_latched (n : Fin 8) (w : GenWas) (s : State) : Latched n s (genRestored n w s) :=
  (((Latched.modGen s _).trans (.wr _ _ _ (status_mem_genEventRegs n))).trans (.wr _ _ _ (latchPos_mem_genEventRegs n))).trans
    (.wr _ _ _ (jumpLast_mem_genEventRegs n))

theorem genRestored_shows (n : Fin 8) (w : GenWas) (s : State) :
    ((genRestored n w s).gen n).toGenRec = w.was ∧ (genRestored n w s).rd (.MAN_AG_STATUS n) = w.status ∧
      (genRestored n w s).rd (.MAN_AG_LATCH_POS n) = w.latch ∧ (genRestored n w s).rd (.MAN_AG_JUMP_LAST n) = w.jump := by
  refine ⟨?_, ?_, ?_, rd_wr _ _ _⟩
  · simp only [genRestored, gen_wr, modGen_gen_same]
  · exact (rd_wr_ne _ _ _ _ (by simp)).trans ((rd_wr_ne _ _ _ _ (by simp)).trans (rd_wr _ _ _))
  · exact (rd_wr_ne _ _ _ _ (by simp)).trans (rd_wr _ _ _)

theorem genDiscard_event {n : Fin 8} {s : State} {w : GenWas} (hin : (s.gen n).inbox = []) (hw : (s.gen n).undo = some w) (hc : w.cyc = s.time) :
    genDiscard n s = genRestored n w s := by
  unfold genDiscard
  rw [genSettle_of_empty n _ s hin]
  simp only [hw, hc, ↓reduceIte]
  rfl

theorem genDiscard_latched (n : Fin 8) (s : State) : Latched n s (genDiscard n s) := by
  unfold genDiscard
  extract_lets u
  have hu : Latched n s u := genSettle_latched n _ s
  split
  · next w _ =>
    split
    · exact hu.trans (genRestored_latched n w u)
    · exact hu
  · exact hu

end Sys2Proof.Machine
end

section
/-! SUPPORT. Writes to a generator's registers (R62 to R65, R76 to R78). -/

namespace Sys2Proof.Machine

open Sys2Proof

theorem f_atWrite (s : State) (F : RF) : s.atWrite.f F = s.f F := f_congr F (rd_atWrite s _)
theorem flag_atWrite (s : State) (F : RF) : s.atWrite.flag F = s.flag F := flag_congr F (rd_atWrite s _)

theorem genMech_eq (s : State) (n : Fin 8) (c : Nat) :
    genMech s n c = (s.gen n).g0 + (genPos s n c - (s.gen n).p0) * ((s.gen n).num : Int) / (s.f (Fld.MAN_AG_GEAR_DEN_DEN n) : Int) := rfl

/-! ## A generator enabled (R62, R65, R76) -/

section Enable

variable {s : State} {n : Fin 8}

/-- A generator as a write of EN = 1 leaves it: at the position of its source, without speed; without a source its output holds (R50, R62). -/
theorem genEnable_cases (hden : 0 < s.f (Fld.MAN_AG_GEAR_DEN_DEN n)) :
    ∃ f : Gen → Gen, genEnable n s = s.modGen n f ∧ ∃ pos acc : Int, ∃ num : Nat,
      let g := f (s.gen n)
      let mech := pos * (num : Int) / (s.f (Fld.MAN_AG_GEAR_DEN_DEN n) : Int)
      g.pos = pos ∧ g.wn = 0 ∧ g.wd = 1 ∧ g.dir = 0 ∧ g.held = none ∧ g.rampAcc = acc ∧ g.rampV = 0 ∧ g.num = num ∧
      (s.gSrc n = 6 → pos = if s.flag (Fld.MAN_AG_CTL_DIR_INV n) then -(acc / 2 ^ 16) else acc / 2 ^ 16) ∧
      (s.gSrc n = 0 → g.p0 = pos ∧ g.turns0 = g.g0 / 2 ^ 32) ∧
      (s.gSrc n ≠ 0 → g.p0 = 0 ∧ g.g0 = 0 ∧ g.turns0 = mech / 2 ^ 32) := by
  have hmax : max 1 (s.f (Fld.MAN_AG_GEAR_DEN_DEN n)) = s.f (Fld.MAN_AG_GEAR_DEN_DEN n) := max_eq_right hden
  refine ⟨_, rfl, _, _, _, rfl, rfl, rfl, rfl, rfl, rfl, rfl, rfl, fun h => if_pos h, fun h => ⟨?_, ?_⟩, fun h => ⟨if_neg h, if_neg h, ?_⟩⟩
  · simp [h]
  · simp [h]
  · simp only [if_neg h, hmax]

/-- Before its first event a generator stands at its latched position. -/
theorem genPos_of_no_speed (hw : (s.gen n).wn = 0) (hd : (s.gen n).wd = 1) (hdir : (s.gen n).dir = 0) (hheld : (s.gen n).held = none)
    (hv : (s.gen n).rampV = 0)
    (hramp : s.gSrc n = 6 → (s.gen n).pos =
      if s.flag (Fld.MAN_AG_CTL_DIR_INV n) then -((s.gen n).rampAcc / 2 ^ 16) else (s.gen n).rampAcc / 2 ^ 16) (c : Nat) :
    genPos s n c = (s.gen n).pos := by
  have hzero : ∀ counted span, ((s.gen n).d counted span c).1 = 0 := fun counted span => by
    simp only [Gen.d, hheld, hw, hd, hdir, zero_mul, Nat.cast_one, Int.zero_ediv]
    cases counted
    · rfl
    · simp only [↓reduceIte, le_refl]; omega
  unfold genPos
  simp only [hzero, Gen.rampPos, hv, zero_mul, add_zero]
  split
  · split
    · next h => rw [hramp h]
    · exact ite_self _
  · rfl

theorem genSpeed_of_no_speed (hw : (s.gen n).wn = 0) (hv : (s.gen n).rampV = 0) (c : Nat) : (genSpeed s n c).1 = 0 := by
  unfold genSpeed
  simp only [hw, hv, Int.natAbs_zero, zero_mul, Nat.not_lt_zero, and_false, ↓reduceIte, neg_zero, ite_self]
  split
  · rfl
  · split
    · rfl
    · split <;> rfl

/-- A generator enabled reads TURNS = 0 and speed 0 (R62, R76). -/
theorem genEnable_shows (hden : 0 < s.f (Fld.MAN_AG_GEAR_DEN_DEN n)) (c : Nat) :
    genTurns (genEnable n s) n c = 0#32 ∧ (genSpeed (genEnable n s) n c).1 = 0 := by
  obtain ⟨f, hf, pos, acc, num, hpos, hwn, hwd, hdir, hheld, hacc, hv, hnum, hramp, hnone, hsome⟩ := genEnable_cases hden
  have hgen : (genEnable n s).gen n = f (s.gen n) := by rw [hf, modGen_gen_same]
  have hregs : ∀ F, (genEnable n s).f F = s.f F := fun F => by rw [hf, f_modGen]
  have hinv : ∀ F, (genEnable n s).flag F = s.flag F := fun F => by rw [hf, flag_modGen]
  have hstand : genPos (genEnable n s) n c = pos := by
    rw [genPos_of_no_speed (by rw [hgen, hwn]) (by rw [hgen, hwd]) (by rw [hgen, hdir]) (by rw [hgen, hheld]) (by rw [hgen, hv]) ?_, hgen, hpos]
    intro h
    rw [hgen, hpos, hacc, hinv]
    exact hramp ((hregs _).symm.trans h)
  refine ⟨?_, genSpeed_of_no_speed (by rw [hgen, hwn]) (by rw [hgen, hv]) c⟩
  simp only [genTurns, genMech_eq, hstand, hgen, hregs, hnum]
  by_cases h : s.gSrc n = 0
  · obtain ⟨hp0, hturns⟩ := hnone h
    rw [hp0, hturns, sub_self, zero_mul, Int.zero_ediv, add_zero, sub_self]
    rfl
  · obtain ⟨hp0, hg0, hturns⟩ := hsome h
    rw [hp0, hg0, hturns, sub_zero, zero_add, sub_self]
    rfl

/-- A write that enables a generator goes by the access codes, and the generator starts (R76, R77). -/
theorem genCtlWrite_enables {v : Word} (hoff : s.flag (Fld.MAN_AG_CTL_EN n) = false) (hv : v.getLsbD 0 = true) :
    genCtlWrite n v s = genKeep (genEnable n (writePlain (.MAN_AG_CTL n) v s)) n s.time false false s := by
  have hon : (writePlain (.MAN_AG_CTL n) v s).genOn n = true := by
    refine (flag_eq_one_iff _ _ _).mpr ?_
    simp only [State.f, rd_writePlain, wGet_genCtl_en]
    simpa [wGet, BitVec.getLsbD, Nat.testBit] using hv
  have hgen : s.genOn n = false := hoff
  unfold genCtlWrite
  simp only [hgen, Bool.false_and, Bool.false_eq_true, ↓reduceIte, writeGuarded_zero, hon, Bool.not_false, Bool.and_self]
  rfl

/-- What such a write shows. -/
theorem genCtlWrite_enables_shows {v : Word} (hoff : s.flag (Fld.MAN_AG_CTL_EN n) = false) (hv : v.getLsbD 0 = true)
    (hden : 0 < s.f (Fld.MAN_AG_GEAR_DEN_DEN n)) :
    let t := genCtlWrite n v s
    t.flag (Fld.MAN_AG_CTL_EN n) = true ∧ t.f (Fld.MAN_AG_CTL_SPD_N n) = wGet v 9 3 ∧
      t.gSrc n = (if s.locked = false ∧ wGet v 1 4 < 8 then wGet v 1 4 else s.gSrc n) ∧ genTurns t n t.time = 0#32 ∧
      (genSpeed t n t.time).1 = 0 ∧ (∀ m, m ≠ n → t.gen m = s.gen m) ∧ s.keeps t [.MAN_AG_CTL n] ∧ s.keepsMem t := by
  intro t
  obtain ⟨hplain, hkeep⟩ := writePlain_onlyRegs (.MAN_AG_CTL n) v s
  have ht : t = genKeep (genEnable n (writePlain (.MAN_AG_CTL n) v s)) n s.time false false s := genCtlWrite_enables hoff hv
  obtain ⟨hturns, hspeed⟩ := genEnable_shows (s := writePlain (.MAN_AG_CTL n) v s) (n := n)
    (by rw [f_congr _ (hkeep _ (by simp [Fld.MAN_AG_GEAR_DEN_DEN]))]; exact hden) t.time
  have hscale : SameScale n (genEnable n (writePlain (.MAN_AG_CTL n) v s)) t := by
    rw [ht]; constructor <;> exact rd_genKeep _ _ _ _ _ _ _
  have hsame : ((genEnable n (writePlain (.MAN_AG_CTL n) v s)).gen n).sameLatch (t.gen n) := by rw [ht]; exact genKeep_sameLatch _ _ _ _ _ _
  have hrd : ∀ r, t.rd r = (writePlain (.MAN_AG_CTL n) v s).rd r := fun r => by rw [ht, rd_genKeep]; rfl
  have hctl : t.rd (.MAN_AG_CTL n) = writeMerged s (.MAN_AG_CTL n) v := (hrd _).trans (rd_writePlain _ _ _)
  have hbit : wGet v 0 1 = 1 := by simpa [wGet, BitVec.getLsbD, Nat.testBit] using hv
  refine ⟨(flag_eq_one_iff _ _ _).mpr ?_, ?_, ?_, (genTurns_congr hscale hsame _).trans hturns,
    (congrArg Prod.fst (genSpeed_congr hscale hsame _)).trans hspeed, fun m hm => ?_, fun r hr => (hrd r).trans (hkeep r hr), ?_⟩
  · simp only [State.f, hctl, wGet_genCtl_en, hbit]
  · simp only [State.f, Fld.MAN_AG_CTL_SPD_N, hctl, wGet_genCtl_spd]
  · simp only [State.gSrc, State.f, Fld.MAN_AG_CTL_SRC, hctl, wGet_genCtl_src]
  · rw [ht, (genKeep_latched _ _ _ _ _ _).others m hm]
    exact modGen_gen_ne _ _ _ _ hm
  · rw [ht]
    exact genKeep_keepsMem _ _ _ _ _ _

end Enable

/-! ## A generator disabled (R65, R76, R78, R529) -/

section Disable

variable {s : State} {n : Fin 8}

/-- The record of a generator disabled at the output of a core cycle. -/
def stoppedGen (n : Fin 8) (cyc : Nat) (u : State) (g : Gen) : Gen :=
  let acc := (u.gen n).rampAcc + (u.gen n).rampV * ((cyc : Int) - (u.gen n).rampCyc)
  { g with pos := genPos u n cyc, p0 := genPos u n cyc, g0 := genOut u n false cyc, wn := 0, wd := 1, hist := [], events := 0, held := none,
           rampV := 0, rampAcc := if u.gSrc n = 6 then (if u.flag (Fld.MAN_AG_CTL_DIR_INV n) then -acc else acc) else genPos u n cyc * 2 ^ 16,
           rampCyc := cyc, inbox := [], undo := none }

/-- The core cycle whose output a generator keeps: the one before, where an event of this cycle is discarded (R78). -/
def stopCyc (n : Fin 8) (s : State) : Nat := if (s.gen n).evAt = s.time ∨ genMeets s n s.time = true then s.time - 1 else s.time

/-- MOVING, IN_HOLD and CLAMPED cleared. -/
def atRest (n : Fin 8) (s : State) : State :=
  ((s.lower (Fld.MAN_AG_STATUS_MOVING n)).lower (Fld.MAN_AG_STATUS_IN_HOLD n)).lower (Fld.MAN_AG_STATUS_CLAMPED n)

theorem atRest_rd (n : Fin 8) (s : State) (r : Reg) (h : r ≠ .MAN_AG_STATUS n) : (atRest n s).rd r = s.rd r :=
  (rd_setF_ne _ (Fld.MAN_AG_STATUS_CLAMPED n) 0 r h).trans
    ((rd_setF_ne _ (Fld.MAN_AG_STATUS_IN_HOLD n) 0 r h).trans (rd_setF_ne s (Fld.MAN_AG_STATUS_MOVING n) 0 r h))

theorem atRest_status (n : Fin 8) (s : State) :
    (atRest n s).rd (.MAN_AG_STATUS n) = wPut (wPut (wPut (s.rd (.MAN_AG_STATUS n)) 9 1 0) 10 1 0) 11 1 0 := by
  refine (rd_setF _ (Fld.MAN_AG_STATUS_CLAMPED n) 0).trans (congrArg (wPut · 11 1 0) ?_)
  refine (rd_setF _ (Fld.MAN_AG_STATUS_IN_HOLD n) 0).trans (congrArg (wPut · 10 1 0) ?_)
  exact rd_setF s (Fld.MAN_AG_STATUS_MOVING n) 0

theorem atRest_shows (n : Fin 8) (s : State) :
    (atRest n s).f (Fld.MAN_AG_STATUS_MOVING n) = 0 ∧ (atRest n s).f (Fld.MAN_AG_STATUS_WR_IGN n) = s.f (Fld.MAN_AG_STATUS_WR_IGN n) := by
  simp only [State.f, Fld.MAN_AG_STATUS_MOVING, Fld.MAN_AG_STATUS_WR_IGN, atRest_status]
  constructor
  · rw [wGet_wPut_ne _ _ _ _ _ _ (by decide) (by decide), wGet_wPut_ne _ _ _ _ _ _ (by decide) (by decide), wGet_wPut_same _ _ _ _ (by decide)]
    rfl
  · rw [wGet_wPut_ne _ _ _ _ _ _ (by decide) (by decide), wGet_wPut_ne _ _ _ _ _ _ (by decide) (by decide),
      wGet_wPut_ne _ _ _ _ _ _ (by decide) (by decide)]

theorem genDisable_eq (n : Fin 8) (s : State) :
    genDisable n s = atRest n ((genDiscard n s).modGen n (stoppedGen n (stopCyc n s) (genDiscard n s))) := by
  have hcyc : (if (decide ((s.gen n).evAt = s.time) || genMeets s n s.time) = true then s.time - 1 else s.time) = stopCyc n s :=
    if_congr (by simp) rfl rfl
  rw [← hcyc]
  rfl

theorem atRest_modGen_shows (f : Gen → Gen) (u : State) :
    ((atRest n (u.modGen n f)).gen n = f (u.gen n) ∧ ∀ m, m ≠ n → (atRest n (u.modGen n f)).gen m = u.gen m) ∧
      u.keeps (atRest n (u.modGen n f)) [.MAN_AG_STATUS n] ∧ u.keepsMem (atRest n (u.modGen n f)) := by
  refine ⟨⟨?_, fun m hm => ?_⟩, fun r hr => ?_, ?_⟩
  · simp only [atRest, gen_lower, modGen_gen_same]
  · simp only [atRest, gen_lower, modGen_gen_ne u n m f hm]
  · rw [atRest_rd _ _ _ (by simpa using hr), rd_modGen]
  · exact ⟨rfl, rfl⟩

theorem genDisable_shows (n : Fin 8) (s : State) :
    ((genDisable n s).gen n = stoppedGen n (stopCyc n s) (genDiscard n s) ((genDiscard n s).gen n) ∧
      ∀ m, m ≠ n → (genDisable n s).gen m = (genDiscard n s).gen m) ∧
      (genDisable n s).f (Fld.MAN_AG_STATUS_MOVING n) = 0 ∧
      (genDisable n s).f (Fld.MAN_AG_STATUS_WR_IGN n) = (genDiscard n s).f (Fld.MAN_AG_STATUS_WR_IGN n) ∧
      (genDiscard n s).keeps (genDisable n s) [.MAN_AG_STATUS n] ∧ (genDiscard n s).keepsMem (genDisable n s) := by
  rw [genDisable_eq]
  generalize genDiscard n s = u
  obtain ⟨hgen, hkeep, hmem⟩ := atRest_modGen_shows (n := n) (stoppedGen n (stopCyc n s) u) u
  obtain ⟨hmoving, hign⟩ := atRest_shows n (u.modGen n (stoppedGen n (stopCyc n s) u))
  exact ⟨hgen, hmoving, hign.trans (f_modGen _ _ _ _), hkeep, hmem⟩

/-- The guarded fields of CTL that a write of EN = 0 loses (R77, R529). -/
theorem genCtl_lost (d : State) (v : Word) :
    (guardMask (d.rd (.MAN_AG_CTL n)) (writeMerged d (.MAN_AG_CTL n) v) 0x1FE#32).2 = true ↔
      d.locked = false ∧ ((if wGet v 1 4 < 8 then wGet v 1 4 else d.gSrc n) ≠ d.gSrc n ∨ wGet v 5 4 ≠ wGet (d.rd (.MAN_AG_CTL n)) 5 4) := by
  have hsrc : d.gSrc n = wGet (d.rd (.MAN_AG_CTL n)) 1 4 := rfl
  have h1 := wGet_lt v 1 4
  have h2 := wGet_lt (d.rd (.MAN_AG_CTL n)) 1 4
  rw [show (0x1FE#32) = wMask 1 8 from rfl, guardMask_lost _ _ _ _ (by decide), wGet_add _ 1 4 4, wGet_add _ 1 4 4, wGet_genCtl_src,
    wGet_genCtl_rest, hsrc]
  cases d.locked
  · simp only [true_and, ↓reduceIte, Nat.reduceAdd]
    split <;> omega
  · simp

/-- A write that disables a generator guards SRC, SRC_CH and DIR_INV (R77, R529). -/
theorem genCtlWrite_disables {v : Word} (hon : s.flag (Fld.MAN_AG_CTL_EN n) = true) (hv : v.getLsbD 0 = false) :
    genCtlWrite n v s = writeGuarded (.MAN_AG_CTL n) v 0x1FE#32 (genIgn n) (genDisable n s) := by
  have hgen : s.genOn n = true := hon
  unfold genCtlWrite
  simp only [hgen, hv, Bool.not_false, Bool.and_self, ↓reduceIte, Bool.not_true, Bool.false_and, Bool.false_eq_true]

/-- A word put in CTL, and the record of an ignored field. -/
theorem genCtl_put_shows (d : State) (w : Word) (lost : Bool) :
    let t := if lost then genIgn n (d.wr (.MAN_AG_CTL n) w) else d.wr (.MAN_AG_CTL n) w
    t.rd (.MAN_AG_CTL n) = w ∧ t.f (Fld.MAN_AG_STATUS_WR_IGN n) = (if lost then 1 else d.f (Fld.MAN_AG_STATUS_WR_IGN n)) ∧
      t.f (Fld.MAN_AG_STATUS_MOVING n) = d.f (Fld.MAN_AG_STATUS_MOVING n) ∧ (∀ m, t.gen m = d.gen m) ∧
      d.keeps t [.MAN_AG_CTL n, .MAN_AG_STATUS n] ∧ d.keepsMem t := by
  have hst (F : RF) (h : F.reg = .MAN_AG_STATUS n) : (d.wr (.MAN_AG_CTL n) w).f F = d.f F := f_wr_ne _ _ _ _ (by rw [h]; simp)
  have hkeep : d.keeps (d.wr (.MAN_AG_CTL n) w) [.MAN_AG_CTL n, .MAN_AG_STATUS n] := fun r hr => rd_wr_ne _ _ _ _ (by simp at hr; exact hr.1)
  cases lost
  · exact ⟨rd_wr _ _ _, hst _ rfl, hst _ rfl, fun m => rfl, hkeep, rfl, rfl⟩
  · refine ⟨(rd_raise_ne _ _ _ (by simp [Fld.MAN_AG_STATUS_WR_IGN])).trans (rd_wr _ _ _), ?_, ?_, fun m => rfl, fun r hr => ?_, rfl, rfl⟩
    · exact f_setF _ (Fld.MAN_AG_STATUS_WR_IGN n) 1 (by simp [Fld.MAN_AG_STATUS_WR_IGN])
    · exact (f_raise_apart _ _ _ _ _ (by decide) (by decide)).trans (hst _ rfl)
    · exact (rd_raise_ne _ _ _ (by simp at hr; exact hr.2)).trans (hkeep r hr)

/-- What a write that disables a generator shows (R76, R77, R529). -/
theorem genCtlWrite_disables_shows {v : Word} (hon : s.flag (Fld.MAN_AG_CTL_EN n) = true) (hv : v.getLsbD 0 = false) :
    let u := genDiscard n s
    let t := genCtlWrite n v s
    t.flag (Fld.MAN_AG_CTL_EN n) = false ∧ wGet (t.rd (.MAN_AG_CTL n)) 1 8 = wGet (s.rd (.MAN_AG_CTL n)) 1 8 ∧
      t.f (Fld.MAN_AG_STATUS_WR_IGN n) = (if s.locked = false ∧
        ((if wGet v 1 4 < 8 then wGet v 1 4 else s.gSrc n) ≠ s.gSrc n ∨ wGet v 5 4 ≠ wGet (s.rd (.MAN_AG_CTL n)) 5 4) then 1
        else u.f (Fld.MAN_AG_STATUS_WR_IGN n)) ∧
      (∀ c, genMech t n c = genOut u n false (stopCyc n s) ∧ (genSpeed t n c).1 = 0) ∧ t.f (Fld.MAN_AG_STATUS_MOVING n) = 0 ∧
      (∀ m, m ≠ n → t.gen m = u.gen m) ∧ u.keeps t [.MAN_AG_CTL n, .MAN_AG_STATUS n] ∧ u.keepsMem t := by
  intro u t
  obtain ⟨⟨hgen, hothers⟩, hmoving, hign, hkeep, hmem⟩ := genDisable_shows n s
  have hu : Latched n s u := genDiscard_latched n s
  have hctl : (genDisable n s).rd (.MAN_AG_CTL n) = s.rd (.MAN_AG_CTL n) :=
    (hkeep _ (by simp)).trans (hu.regs _ rfl (ctl_not_mem_genEventRegs n n))
  have hlocked : (genDisable n s).locked = s.locked := (locked_congr (hkeep _ (by simp))).trans hu.locked
  have hsrc : (genDisable n s).gSrc n = s.gSrc n := f_congr _ hctl
  have hlost := genCtl_lost (n := n) (genDisable n s) v
  rw [hlocked, hsrc, hctl] at hlost
  have ht : t = _ := (genCtlWrite_disables hon hv).trans (writeGuarded_eq _ _ _ _ _)
  rw [hctl] at ht
  obtain ⟨hword, hwr, hmove, hgens, hkeep', hmem'⟩ := genCtl_put_shows (n := n) (genDisable n s)
    (guardMask (s.rd (.MAN_AG_CTL n)) (writeMerged (genDisable n s) (.MAN_AG_CTL n) v) 0x1FE#32).1
    (guardMask (s.rd (.MAN_AG_CTL n)) (writeMerged (genDisable n s) (.MAN_AG_CTL n) v) 0x1FE#32).2
  rw [← ht] at hword hwr hmove hgens hkeep' hmem'
  have hmask : (0x1FE#32) = wMask 1 8 := rfl
  have hoff : t.flag (Fld.MAN_AG_CTL_EN n) = false := by
    refine (flag_eq_false_iff _ _).mpr ?_
    simp only [State.f, Fld.MAN_AG_CTL_EN, hword]
    rw [hmask, wGet_guardMask_out _ _ 1 8 0 1 (by decide) (by decide), wGet_genCtl_en]
    simpa [wGet, BitVec.getLsbD, Nat.testBit] using hv
  refine ⟨hoff, ?_, ?_, fun c => ⟨?_, ?_⟩, hmove.trans hmoving, fun m hm => (hgens m).trans (hothers m hm), fun r hr => ?_, ?_⟩
  · rw [hword, hmask, wGet_guardMask_in _ _ _ _ (by decide)]
  · rw [hwr, hign]
    exact if_congr hlost rfl rfl
  · rw [genMech_eq, genPos_disabled hoff, hgens, hgen]
    simp only [stoppedGen, sub_self, zero_mul, Int.zero_ediv, add_zero]
    rfl
  · rw [genSpeed_disabled hoff]
  · exact (hkeep' r hr).trans (hkeep r fun h => hr (List.mem_cons_of_mem _ h))
  · exact ⟨hmem'.1.trans hmem.1, hmem'.2.trans hmem.2⟩

end Disable

/-! ## The gear (R63) -/

/-- The geared output rebased at a core cycle on a new numerator. -/
def rebased (n : Fin 8) (num c : Nat) (u : State) (g : Gen) : Gen := { g with g0 := genMech u n c, p0 := genPos u n c, num := num }

/-- The source's position does not depend on the gear. -/
theorem genPos_rebased {u t : State} {n : Fin 8} {num c : Nat} (hs : SameScale n u t) (hg : t.gen n = rebased n num c u (u.gen n)) (c' : Nat) :
    genPos t n c' = genPos u n c' := by
  have hon : t.flag (Fld.MAN_AG_CTL_EN n) = u.flag (Fld.MAN_AG_CTL_EN n) := flag_congr _ hs.ctl
  have hsrc : t.gSrc n = u.gSrc n := f_congr _ hs.ctl
  have hinv : t.flag (Fld.MAN_AG_CTL_DIR_INV n) = u.flag (Fld.MAN_AG_CTL_DIR_INV n) := flag_congr _ hs.ctl
  have hcpr : t.f (Fld.MAN_AG_CPR_CPR n) = u.f (Fld.MAN_AG_CPR_CPR n) := f_congr _ hs.cpr
  unfold genPos
  rw [hon, hsrc, hinv, hcpr, hg]
  rfl

/-- At the core cycle of the rebase the geared output does not step. -/
theorem genMech_rebased {u t : State} {n : Fin 8} {num c : Nat} (hs : SameScale n u t) (hg : t.gen n = rebased n num c u (u.gen n)) :
    genMech t n c = genMech u n c := by
  rw [genMech_eq, genPos_rebased hs hg, hg]
  simp only [rebased, sub_self, zero_mul, Int.zero_ediv, add_zero]

theorem gearWrite_zero (n : Fin 8) (s : State) : gearWrite n 0#32 s = s := if_pos rfl

/-- The state of a running generator in which its gear changes: the next core cycle, with the events of this one applied (R78). -/
def nextCycle (n : Fin 8) (s : State) : State := (genSettle n s.time s).advance (s.time + 1)

theorem nextCycle_time (n : Fin 8) (s : State) : (nextCycle n s).time = s.time + 1 := by
  have := (genSettle_latched n s.time s).time
  simp only [nextCycle, State.advance, this]
  omega

theorem gearWrite_running {n : Fin 8} {v : Word} {s : State} (hv : v ≠ 0#32) (hon : s.flag (Fld.MAN_AG_CTL_EN n) = true) :
    gearWrite n v s = genKeep (((nextCycle n s).wr (.MAN_AG_GEAR_NUM n) v).modGen n (rebased n v.toNat (s.time + 1) (nextCycle n s))) n
      (s.time + 1) false false (nextCycle n s) := by
  have hgen : s.genOn n = true := hon
  have hnext : (nextCycle n s).genOn n = true :=
    ((genSettle_latched n s.time s).flag (F := Fld.MAN_AG_CTL_EN n) rfl (ctl_not_mem_genEventRegs n n)).trans hon
  rw [← nextCycle_time n s]
  simp only [gearWrite, if_neg hv, hgen, ↓reduceIte]
  rw [show (genSettle n s.time s).advance (s.time + 1) = nextCycle n s from rfl, if_pos hnext]
  rfl

theorem gearWrite_stopped {n : Fin 8} {v : Word} {s : State} (hv : v ≠ 0#32) (hon : s.flag (Fld.MAN_AG_CTL_EN n) = false) :
    gearWrite n v s = s.wr (.MAN_AG_GEAR_NUM n) v := by
  have hgen : s.genOn n = false := hon
  simp only [gearWrite, if_neg hv, hgen, Bool.false_eq_true, ↓reduceIte]

/-- What a new gear of a running generator shows (R63). -/
theorem gearWrite_running_shows {n : Fin 8} {v : Word} {s : State} (hv : v ≠ 0#32) (hon : s.flag (Fld.MAN_AG_CTL_EN n) = true) :
    let u := genSettle n s.time s
    let t := gearWrite n v s
    t.rd (.MAN_AG_GEAR_NUM n) = v ∧ (t.time = s.time + 1 ∧ genMech t n t.time = genMech u n t.time ∧ (t.gen n).num = v.toNat ∧
      (t.gen n).jumpM = ((u.gen n).chg == t.time && (u.gen n).jumpM)) ∧
      (∀ m, m ≠ n → t.gen m = u.gen m) ∧ u.keeps t [.MAN_AG_GEAR_NUM n] ∧ u.keepsMem t := by
  intro u t
  let w := ((nextCycle n s).wr (.MAN_AG_GEAR_NUM n) v).modGen n (rebased n v.toNat (s.time + 1) (nextCycle n s))
  have ht : t = genKeep w n (s.time + 1) false false (nextCycle n s) := gearWrite_running hv hon
  have hw : Latched n w t := ht ▸ genKeep_latched _ _ _ _ _ _
  have hrd : ∀ r, t.rd r = w.rd r := fun r => by rw [ht, rd_genKeep]
  have hne : ∀ r, r ≠ .MAN_AG_GEAR_NUM n → w.rd r = u.rd r := fun r hr => rd_wr_ne _ _ _ _ hr
  have htime : t.time = s.time + 1 := hw.time.trans (nextCycle_time n s)
  have hgen : w.gen n = rebased n v.toNat (s.time + 1) (nextCycle n s) (u.gen n) := modGen_gen_same _ _ _
  have hsame : (w.gen n).sameLatch (t.gen n) := ht ▸ genKeep_sameLatch _ _ _ _ _ _
  have hnum : (t.gen n).num = v.toNat := (congrArg (·.num) hsame.symm : _).trans (by rw [hgen]; rfl)
  have hscale : SameScale n (nextCycle n s) w := by constructor <;> exact hne _ (by simp)
  have hjump := (genKeep_jumps w n (s.time + 1) false false (nextCycle n s)).1
  rw [← ht, hgen, Bool.or_false] at hjump
  refine ⟨(hrd _).trans (rd_wr _ _ _), ⟨htime, ?_, hnum, ?_⟩, fun m hm => ?_, fun r hr => (hrd r).trans (hne r (by simpa using hr)), ?_⟩
  · rw [htime, genMech_congr (SameScale.of_rd hrd) hsame, genMech_rebased hscale hgen]
    rfl
  · rw [htime, hjump]
    rfl
  · exact (hw.others m hm).trans (modGen_gen_ne _ _ _ _ hm)
  · rw [ht]
    exact genKeep_keepsMem w _ _ _ _ _


/-! ## The electrical offset (R64) -/

theorem eofsWrite_same (n : Fin 8) (s : State) : eofsWrite n (s.rd (.MAN_AG_EOFS n)) s = s := if_pos rfl

/-- The electrical angle under an offset follows the offset (R64). -/
theorem wordOfInt_genElec_offset {u t : State} {n : Fin 8} {c : Nat} (hpp : t.f (Fld.MAN_AG_PP_PP n) = u.f (Fld.MAN_AG_PP_PP n))
    (hmech : genMech t n c = genMech u n c) :
    wordOfInt (genElec t n c) = wordOfInt (genElec u n c) + (t.rd (.MAN_AG_EOFS n) - u.rd (.MAN_AG_EOFS n)) := by
  have hword (s : State) : wordOfInt (genElec s n c) = BitVec.ofInt 32 (s.f (Fld.MAN_AG_PP_PP n) * genMech s n c) + s.rd (.MAN_AG_EOFS n) := by
    have hoffset : BitVec.ofInt 32 (s.f (Fld.MAN_AG_EOFS_EOFS n) : Int) = s.rd (.MAN_AG_EOFS n) := by
      rw [BitVec.ofInt_natCast]
      simp [State.f, Fld.MAN_AG_EOFS_EOFS, wGet, Nat.mod_eq_of_lt (s.rd (.MAN_AG_EOFS n)).isLt]
    rw [← hoffset, ← BitVec.ofInt_add]
    rfl
  rw [hword, hword, hpp, hmech]
  bv_omega

/-- The outputs that an offset step leaves, before its jump. -/
def offset (n : Fin 8) (v : Word) (s : State) : State := genKeep ((nextCycle n s).wr (.MAN_AG_EOFS n) v) n (s.time + 1) false true (nextCycle n s)

/-- An offset step is a jump of the electrical and not of the mechanical angle (R64). -/
theorem offset_jumps (n : Fin 8) (v : Word) (s : State) :
    ((offset n v s).gen n).jumpM = (((genSettle n s.time s).gen n).chg == s.time + 1 && ((genSettle n s.time s).gen n).jumpM) ∧
      ((offset n v s).gen n).jumpE = true := by
  obtain ⟨hm, he⟩ := genKeep_jumps ((nextCycle n s).wr (.MAN_AG_EOFS n) v) n (s.time + 1) false true (nextCycle n s)
  rw [Bool.or_false] at hm
  rw [Bool.or_true] at he
  exact ⟨hm, he⟩

theorem nextCycle_gen (n m : Fin 8) (s : State) : (nextCycle n s).gen m = (genSettle n s.time s).gen m := rfl

theorem offset_sameLatch (n : Fin 8) (v : Word) (s : State) : ((genSettle n s.time s).gen n).sameLatch ((offset n v s).gen n) := by
  have h := genKeep_sameLatch ((nextCycle n s).wr (.MAN_AG_EOFS n) v) n (s.time + 1) false true (nextCycle n s)
  rw [gen_wr, nextCycle_gen] at h
  exact h

/-- An offset step judged as a jump (R60, R64). -/
def offsetJump (n : Fin 8) (jump : Prop) [Decidable jump] (size : Int) (s : State) : State :=
  patternJump n (if jump then genJump n size s else s)

theorem eofsWrite_other {n : Fin 8} {v : Word} {s : State} (hv : v ≠ s.rd (.MAN_AG_EOFS n)) :
    let step := (v - s.rd (.MAN_AG_EOFS n)).toInt
    let pp := s.f (Fld.MAN_AG_PP_PP n)
    eofsWrite n v s = offsetJump n (s.f (Fld.MAN_AG_JUMP_TH_TH n) * pp < step.natAbs) (Int.tdiv step pp) (offset n v s) := by
  intro step pp
  have hu := genSettle_latched n s.time s
  have hpp : (nextCycle n s).f (Fld.MAN_AG_PP_PP n) = pp := hu.f (F := Fld.MAN_AG_PP_PP n) rfl (by simp [Fld.MAN_AG_PP_PP, genEventRegs])
  have hth : (nextCycle n s).f (Fld.MAN_AG_JUMP_TH_TH n) = s.f (Fld.MAN_AG_JUMP_TH_TH n) :=
    hu.f (F := Fld.MAN_AG_JUMP_TH_TH n) rfl (by simp [Fld.MAN_AG_JUMP_TH_TH, genEventRegs])
  have heq : eofsWrite n v s = offsetJump n ((nextCycle n s).f (Fld.MAN_AG_JUMP_TH_TH n) * (nextCycle n s).f (Fld.MAN_AG_PP_PP n) < step.natAbs)
      (Int.tdiv step ((nextCycle n s).f (Fld.MAN_AG_PP_PP n))) (offset n v s) := by
    unfold offset
    rw [← nextCycle_time n s]
    simp only [eofsWrite, if_neg hv]
    rfl
  rw [heq]
  simp only [hth, hpp]

/-- The jump of an offset step changes JUMP and JUMP_LAST exactly if the step is one, and no generator. -/
theorem offsetJump_shows (n : Fin 8) (jump : Prop) [Decidable jump] (size : Int) (s : State) :
    (offsetJump n jump size s).f (Fld.MAN_AG_STATUS_JUMP n) = (if jump then 1 else s.f (Fld.MAN_AG_STATUS_JUMP n)) ∧
      (offsetJump n jump size s).rd (.MAN_AG_JUMP_LAST n) = (if jump then wordOfInt size else s.rd (.MAN_AG_JUMP_LAST n)) ∧
      (offsetJump n jump size s).gen n = s.gen n ∧ Latched n s (offsetJump n jump size s) := by
  have hpat := patternJump_struck n (if jump then genJump n size s else s)
  have hjump := (Latched.ite jump (genJump_latched n size s)).trans (.of_struck hpat)
  unfold offsetJump
  by_cases h : jump
  · obtain ⟨hstatus, hlast, -, hgen⟩ := genJump_shows n size s
    simp only [h, ↓reduceIte] at hpat hjump ⊢
    refine ⟨(hpat.f rfl).trans ?_, (hpat.rd rfl).trans hlast, (hpat.gen n).trans hgen, hjump⟩
    simp only [State.f, Fld.MAN_AG_STATUS_JUMP, hstatus]
    exact wGet_wPut_same _ _ _ _ (by decide)
  · simp only [h, ↓reduceIte] at hpat hjump ⊢
    exact ⟨hpat.f rfl, hpat.rd rfl, hpat.gen n, hjump⟩

/-- What an offset step shows (R64). -/
theorem eofsWrite_shows {n : Fin 8} {v : Word} {s : State} (hv : v ≠ s.rd (.MAN_AG_EOFS n)) (hd : s.dsgRun = false) :
    let u := genSettle n s.time s
    let t := eofsWrite n v s
    let step := (v - s.rd (.MAN_AG_EOFS n)).toInt
    let pp := s.f (Fld.MAN_AG_PP_PP n)
    let jump := s.f (Fld.MAN_AG_JUMP_TH_TH n) * pp < step.natAbs
    t.rd (.MAN_AG_EOFS n) = v ∧ t.time = s.time + 1 ∧
      wordOfInt (genElec t n t.time) = wordOfInt (genElec u n t.time) + (v - s.rd (.MAN_AG_EOFS n)) ∧
      (∀ c, genMech t n c = genMech u n c) ∧
      (t.gen n).jumpE = true ∧ (t.gen n).jumpM = ((u.gen n).chg == t.time && (u.gen n).jumpM) ∧
      t.f (Fld.MAN_AG_STATUS_JUMP n) = (if jump then 1 else u.f (Fld.MAN_AG_STATUS_JUMP n)) ∧
      t.rd (.MAN_AG_JUMP_LAST n) = (if jump then wordOfInt (Int.tdiv step pp) else u.rd (.MAN_AG_JUMP_LAST n)) ∧
      (∀ m, m ≠ n → t.gen m = u.gen m) ∧ s.faultFrame t [0x4002, 0x4004, 0x4005] := by
  intro u t step pp jump
  let w := offset n v s
  have hu : Latched n s u := genSettle_latched n s.time s
  have ht : t = offsetJump n jump (Int.tdiv step pp) w := eofsWrite_other hv
  obtain ⟨hjump, hlast, hgen, hlatched⟩ := offsetJump_shows n jump (Int.tdiv step pp) w
  rw [← ht] at hjump hlast hgen hlatched
  have hw : Latched n ((nextCycle n s).wr (.MAN_AG_EOFS n) v) w := genKeep_latched _ _ _ _ _ _
  have hrd : ∀ r, w.rd r = ((nextCycle n s).wr (.MAN_AG_EOFS n) v).rd r := fun r => rd_genKeep _ _ _ _ _ _ _
  have hne : ∀ r, r ≠ .MAN_AG_EOFS n → w.rd r = u.rd r := fun r hr => (hrd r).trans (rd_wr_ne _ _ _ _ hr)
  have hkept : ∀ r, r.inMan = true → r ∉ genEventRegs n → r ≠ .MAN_AG_EOFS n → t.rd r = u.rd r := fun r h1 h2 h3 =>
    (hlatched.regs r h1 h2).trans (hne r h3)
  have heofs : t.rd (.MAN_AG_EOFS n) = v := (hlatched.regs _ rfl (by simp [genEventRegs])).trans ((hrd _).trans (rd_wr _ _ _))
  have hold : u.rd (.MAN_AG_EOFS n) = s.rd (.MAN_AG_EOFS n) := hu.regs _ rfl (by simp [genEventRegs])
  have htime : t.time = s.time + 1 := hlatched.time.trans (hw.time.trans (nextCycle_time n s))
  have hscale : SameScale n u t := by constructor <;> exact hkept _ rfl (by simp [genEventRegs]) (by simp)
  have hsame : (u.gen n).sameLatch (t.gen n) := by
    rw [hgen]
    exact offset_sameLatch n v s
  have hmech : ∀ c, genMech t n c = genMech u n c := genMech_congr hscale hsame
  obtain ⟨hjumpM, hjumpE⟩ : (w.gen n).jumpM = ((u.gen n).chg == s.time + 1 && (u.gen n).jumpM) ∧ (w.gen n).jumpE = true := offset_jumps n v s
  have hwmem : (nextCycle n s).keepsMem w := genKeep_keepsMem ((nextCycle n s).wr (.MAN_AG_EOFS n) v) n _ _ _ _
  have hwothers : ∀ m, m ≠ n → w.gen m = u.gen m := hw.others
  clear_value t w
  refine ⟨heofs, htime, ?_, hmech, ?_, ?_, ?_, ?_, fun m hm => ?_, ?_⟩
  · have hpp : t.f (Fld.MAN_AG_PP_PP n) = u.f (Fld.MAN_AG_PP_PP n) :=
      f_congr _ (hkept _ rfl (by simp [Fld.MAN_AG_PP_PP, genEventRegs]) (by simp [Fld.MAN_AG_PP_PP]))
    rw [wordOfInt_genElec_offset hpp (hmech _), heofs, hold]
  · rw [hgen]
    exact hjumpE
  · rw [hgen, htime]
    exact hjumpM
  · rw [hjump]
    exact if_congr Iff.rfl rfl (f_congr _ (hne _ (by simp [Fld.MAN_AG_STATUS_JUMP])))
  · rw [hlast]
    exact if_congr Iff.rfl rfl (hne _ (by simp))
  · exact (hlatched.others m hm).trans (hwothers m hm)
  · have hbefore := hu.quiet hd
    have hrun : w.dsgRun = false := (dsgRun_congr (hne _ (by simp))).trans (hbefore.dsgRun.trans hd)
    obtain ⟨hregs, hmem, hchk⟩ := (hlatched.quiet hrun).faultFrame
    obtain ⟨hregs', hmem', hchk'⟩ := hbefore.faultFrame
    refine ⟨fun r hr => (hregs r hr).trans ((hne r ?_).trans (hregs' r hr)), fun a ha => (hmem a ha).trans ?_, hchk.trans (hwmem.2.trans hchk')⟩
    · rintro rfl
      simp only [Reg.addr, List.mem_cons] at hr
      omega
    · exact (congrArg (memGet · a) hwmem.1).trans (hmem' a ha)

/-! ## Snapshot reads (R76) -/

theorem elecRead_shows (n : Fin 8) (s : State) :
    gives (.elecRead n) s fun t =>
      let u := genSettle n s.time s
      t.rdata = wordOfInt (genElec u n s.time) ∧ t.rd (.MAN_AG_MECH n) = wordOfInt (genMech u n s.time) ∧
      t.rd (.MAN_AG_SPEED n) = genSpeedReg u n s.time ∧ t.rd (.MAN_AG_TURNS n) = genTurns u n s.time ∧
      t.rd (.MAN_AG_TSNAP n) = BitVec.ofNat 32 s.time ∧
      u.onlyRegs { t with rdata := s.rdata } [.MAN_AG_MECH n, .MAN_AG_SPEED n, .MAN_AG_TURNS n, .MAN_AG_TSNAP n] := by
  obtain ⟨htime, hrdata⟩ : (genSettle n s.time s).time = s.time ∧ (genSettle n s.time s).rdata = s.rdata :=
    ⟨(genSettle_latched n s.time s).time, (genSettle_latched n s.time s).rdata⟩
  refine ⟨{ (elecRead n s).2 with rdata := (elecRead n s).1 }, rfl, ?_⟩
  simp only [elecRead, htime]
  generalize genSettle n s.time s = u at *
  generalize wordOfInt (genMech u n s.time) = m, genSpeedReg u n s.time = sp, genTurns u n s.time = tu
  refine ⟨trivial, ?_, ?_, ?_, ?_, ?_, fun r hr => ?_⟩
  · exact (rd_wr_ne _ _ _ _ (by simp)).trans ((rd_wr_ne _ _ _ _ (by simp)).trans ((rd_wr_ne _ _ _ _ (by simp)).trans (rd_wr _ _ _)))
  · exact (rd_wr_ne _ _ _ _ (by simp)).trans ((rd_wr_ne _ _ _ _ (by simp)).trans (rd_wr _ _ _))
  · exact (rd_wr_ne _ _ _ _ (by simp)).trans (rd_wr _ _ _)
  · exact rd_wr _ _ _
  · rw [← hrdata]
    rfl
  · simp only [List.mem_cons, List.not_mem_nil, or_false, not_or] at hr
    obtain ⟨h1, h2, h3, h4⟩ := hr
    exact (rd_wr_ne _ _ _ _ h4).trans ((rd_wr_ne _ _ _ _ h3).trans ((rd_wr_ne _ _ _ _ h2).trans (rd_wr_ne _ _ _ _ h1)))

theorem latchPosRead_shows (n : Fin 8) (s : State) :
    gives (.latchPosRead n) s fun t =>
      t.rdata = s.rd (.MAN_AG_LATCH_POS n) ∧ t.rd (.MAN_AG_LATCH_T n) = BitVec.ofNat 32 (s.gen n).latchT ∧
      s.onlyRegs { t with rdata := s.rdata } [.MAN_AG_LATCH_T n] :=
  ⟨{ (latchRead n s).2 with rdata := (latchRead n s).1 }, rfl, rfl, rd_wr _ _ _, rfl, fun r hr => rd_wr_ne _ _ _ _ (by simpa using hr)⟩

end Sys2Proof.Machine
end

section
/-! PROOF. O10: writes to a generator's registers and snapshot reads. -/

namespace Sys2Proof.Machine

open Sys2Proof

section Clauses

variable {s : State} {n : Fin 8}

theorem writes_enable (hden : 0 < s.f (Fld.MAN_AG_GEAR_DEN_DEN n)) {v : Word} (hoff : s.flag (Fld.MAN_AG_CTL_EN n) = false)
    (hv : v.getLsbD 0 = true) :
    writes (.generatorCtlWrite n v) s fun z t =>
      t.flag (Fld.MAN_AG_CTL_EN n) = true ∧ t.f (Fld.MAN_AG_CTL_SPD_N n) = wGet v 9 3 ∧
      (z.locked = false → t.gSrc n = if wGet v 1 4 < 8 then wGet v 1 4 else s.gSrc n) ∧ (z.locked = true → t.gSrc n = z.gSrc n) ∧
      genTurns t n t.time = 0#32 ∧ (genSpeed t n t.time).1 = 0 ∧ (∀ m, m ≠ n → t.gen m = s.gen m) ∧ z.keeps t [.MAN_AG_CTL n] ∧
      z.keepsMem t := by
  refine writes_agentTurn rfl ?_
  obtain ⟨hon, hspd, hsrc, hturns, hspeed, hothers, hkeep, hmem⟩ :=
    genCtlWrite_enables_shows (s := s.atWrite) (n := n) (v := v) (by rw [flag_atWrite, hoff]) hv (by rw [f_atWrite]; exact hden)
  have hkept : s.atWrite.gSrc n = s.gSrc n := f_atWrite s _
  refine ⟨hon, hspd, fun hl => ?_, fun hl => ?_, hturns, hspeed, fun m hm => (hothers m hm).trans (gen_atWrite s m), hkeep, hmem⟩
  · rw [hsrc, hl, hkept]
    simp only [true_and]
  · rw [hsrc, hl]
    exact if_neg (by simp)

theorem writes_disable {v : Word} (hon : s.flag (Fld.MAN_AG_CTL_EN n) = true) (hv : v.getLsbD 0 = false) :
    writes (.generatorCtlWrite n v) s fun z t =>
      let u := genDiscard n z
      t.flag (Fld.MAN_AG_CTL_EN n) = false ∧ wGet (t.rd (.MAN_AG_CTL n)) 1 8 = wGet (z.rd (.MAN_AG_CTL n)) 1 8 ∧
      t.f (Fld.MAN_AG_STATUS_WR_IGN n) = (if z.locked = false ∧ ((if wGet v 1 4 < 8 then wGet v 1 4 else s.gSrc n) ≠ z.gSrc n ∨
        wGet v 5 4 ≠ wGet (z.rd (.MAN_AG_CTL n)) 5 4) then 1 else u.f (Fld.MAN_AG_STATUS_WR_IGN n)) ∧
      (∀ c, genMech t n c = genOut u n false (stopCyc n z) ∧ (genSpeed t n c).1 = 0) ∧ t.f (Fld.MAN_AG_STATUS_MOVING n) = 0 ∧
      (∀ m, m ≠ n → t.gen m = u.gen m) ∧ u.keeps t [.MAN_AG_CTL n, .MAN_AG_STATUS n] ∧ u.keepsMem t := by
  refine writes_agentTurn rfl ?_
  rw [show s.gSrc n = s.atWrite.gSrc n from (f_atWrite s _).symm]
  exact genCtlWrite_disables_shows (by rw [flag_atWrite, hon]) hv

theorem writes_gear {v : Word} (hv : v ≠ 0#32) :
    writes (.gearNumWrite n v) s fun s t =>
      let u := if s.flag (Fld.MAN_AG_CTL_EN n) then genSettle n s.time s else s
      t.rd (.MAN_AG_GEAR_NUM n) = v ∧
      (s.flag (Fld.MAN_AG_CTL_EN n) = true →
        t.time = s.time + 1 ∧ genMech t n t.time = genMech u n t.time ∧ (t.gen n).num = v.toNat ∧
        (t.gen n).jumpM = ((u.gen n).chg == t.time && (u.gen n).jumpM)) ∧
      (∀ m, m ≠ n → t.gen m = u.gen m) ∧ u.keeps t [.MAN_AG_GEAR_NUM n] ∧ u.keepsMem t := by
  refine writes_agentTurn rfl ?_
  generalize s.atWrite = z
  cases hon : z.flag (Fld.MAN_AG_CTL_EN n)
  · simp only [Bool.false_eq_true, ↓reduceIte, IsEmpty.forall_iff, true_and, gearWrite_stopped hv hon]
    exact ⟨rd_wr _ _ _, fun m _ => rfl, fun r hr => rd_wr_ne _ _ _ _ (by simpa using hr), rfl, rfl⟩
  · simp only [↓reduceIte, true_imp_iff]
    exact gearWrite_running_shows hv hon

end Clauses

/-- Settles O10: each write acts on the state with the events of its core cycle applied or, at a disable, taken back. -/
theorem generatorWritesAndSnapshots : Obligations.GeneratorWritesAndSnapshots := by
  unfold Obligations.GeneratorWritesAndSnapshots
  intro s n hden _
  refine ⟨fun c hin => genSettle_of_empty n c s hin, genDiscard_nothing, fun w hin hw hc => ?_, fun v hoff hv => writes_enable hden hoff hv,
    fun v hon hv => writes_disable hon hv, fun v hv => writes_gear hv, ?_, ?_, fun v hv hd => ?_, elecRead_shows n s, latchPosRead_shows n s⟩
  · rw [genDiscard_event hin hw hc]
    exact genRestored_shows n w s
  · exact congrArg (fun t => Host.Outcome.next (s.turned t)) (gearWrite_zero n s.atWrite)
  · refine congrArg (fun t => Host.Outcome.next (s.turned t)) ?_
    rw [← rd_atWrite]
    exact eofsWrite_same n s.atWrite
  · refine writes_agentTurn rfl (eofsWrite_shows ?_ ?_)
    · rwa [rd_atWrite]
    · rwa [atWrite_dsgRun]

end Sys2Proof.Machine
end

section
/-! SUPPORT. Angle marks (R67 to R72): what a crossing depends on, what it leaves, and what a firing does. -/

namespace Sys2Proof.Machine

open Sys2Proof

/-! ## What the followed angle depends on -/

/-- What a state keeps of mark `m`'s angle: the generators, every register but the mark's control word, and that word's configuration. -/
structure MarkKept (m : Fin 64) (s t : State) : Prop where
  gens : ∀ n, t.gen n = s.gen n
  regs : ∀ r, r ≠ .MAN_AM_CTL m → t.rd r = s.rd r
  cfg : ∀ lo width, lo + width ≤ 8 → t.f ⟨.MAN_AM_CTL m, lo, width⟩ = s.f ⟨.MAN_AM_CTL m, lo, width⟩

namespace MarkKept

variable {m : Fin 64} {s t : State} (k : MarkKept m s t)
include k

theorem genOut (n : Fin 8) (elec : Bool) (c : Nat) : genOut t n elec c = genOut s n elec c := by
  have hscale : SameScale n s t := by constructor <;> exact k.regs _ (by simp)
  have hsame : (s.gen n).sameLatch (t.gen n) := by rw [k.gens]; rfl
  have hpp : t.f (Fld.MAN_AG_PP_PP n) = s.f (Fld.MAN_AG_PP_PP n) := f_congr _ (k.regs _ (by simp [Fld.MAN_AG_PP_PP]))
  have hofs : t.f (Fld.MAN_AG_EOFS_EOFS n) = s.f (Fld.MAN_AG_EOFS_EOFS n) := f_congr _ (k.regs _ (by simp [Fld.MAN_AG_EOFS_EOFS]))
  unfold Machine.genOut genElec
  rw [genMech_congr hscale hsame, k.gens, hpp, hofs]

theorem markAg : markAg t m = markAg s m := Fin.ext (congrArg (· % 8) (k.cfg 1 3 (by decide)))

theorem markElec : markElec t m = markElec s m := congrArg (· != 0) (k.cfg 4 1 (by decide))

theorem markOut (c : Nat) : markOut t m c = markOut s m c := by unfold Machine.markOut; rw [k.markAg, k.markElec, k.genOut]

theorem markJump (c : Nat) : markJump t m c = markJump s m c := by unfold Machine.markJump; rw [k.markAg, k.markElec, k.gens]

theorem markTime (c : Nat) : markTime t m c = markTime s m c := by
  have hangle : t.f (Fld.MAN_AM_ANGLE_ANGLE m) = s.f (Fld.MAN_AM_ANGLE_ANGLE m) := f_congr _ (k.regs _ (by simp [Fld.MAN_AM_ANGLE_ANGLE]))
  unfold Machine.markTime
  simp only [k.markJump, k.markOut, hangle]

end MarkKept

/-- The mark disarmed for one direction, at a core cycle. -/
def markDisarmed (m : Fin 64) (cyc b : Nat) (s : State) : State :=
  (s.advance cyc).setF (Fld.MAN_AM_CTL_ARM m) (s.f (Fld.MAN_AM_CTL_ARM m) - b)

theorem setArm_kept (m : Fin 64) (a : Nat) (s : State) : MarkKept m s (s.setF (Fld.MAN_AM_CTL_ARM m) a) :=
  ⟨fun _ => rfl, fun r hr => rd_setF_ne _ _ _ _ hr, fun lo width h => f_setF_apart s _ 8 2 a lo width (by omega) (by omega)⟩

theorem markDisarmed_kept (m : Fin 64) (cyc b : Nat) (s : State) : MarkKept m s (markDisarmed m cyc b s) :=
  ⟨fun _ => rfl, fun _ hr => rd_setF_ne _ _ _ _ hr, (setArm_kept m _ (s.advance cyc)).cfg⟩

theorem arm_lt (s : State) (m : Fin 64) : s.f (Fld.MAN_AM_CTL_ARM m) < 4 := wGet_lt _ 8 2

theorem markDisarmed_arm (m : Fin 64) (cyc b : Nat) (s : State) :
    (markDisarmed m cyc b s).f (Fld.MAN_AM_CTL_ARM m) = s.f (Fld.MAN_AM_CTL_ARM m) - b :=
  (f_setF _ (Fld.MAN_AM_CTL_ARM m) _ (by simp [Fld.MAN_AM_CTL_ARM])).trans (Nat.mod_eq_of_lt ((Nat.sub_le _ _).trans_lt (arm_lt s m)))

/-! ## A mark fires (R70 to R72) -/

/-- The half of a register of all marks that holds mark `m`'s bit. -/
def markHalf (m : Fin 64) : Fin 2 := ⟨m.val / 32, by omega⟩

/-- A firing as the Mandrel's registers show it. -/
def markNoted (m : Fin 64) (cyc : Nat) (s : State) : State :=
  (if markJump s m cyc then (s.raiseBit (.MAN_AM_FIRED (markHalf m)) (m.val % 32)).raiseBit (.MAN_AM_JUMPED (markHalf m)) (m.val % 32)
    else s.raiseBit (.MAN_AM_FIRED (markHalf m)) (m.val % 32)).wr (.MAN_AM_TS m) (stampWord (markTime s m cyc))

theorem markFire_eq (m : Fin 64) (cyc : Nat) (s : State) : markFire m cyc s = markDeliver m cyc (markTime s m cyc) (markNoted m cyc s) := rfl

theorem rd_raiseBit_ne (s : State) (r q : Reg) (i : Nat) (h : q ≠ r) : (s.raiseBit r i).rd q = s.rd q := rd_wr_ne s r q _ h

theorem markNoted_shows (m : Fin 64) (cyc : Nat) (s : State) :
    (markNoted m cyc s).bitOf (.MAN_AM_FIRED (markHalf m)) (m.val % 32) = true ∧
      (markNoted m cyc s).rd (.MAN_AM_TS m) = stampWord (markTime s m cyc) ∧
      (markNoted m cyc s).bitOf (.MAN_AM_JUMPED (markHalf m)) (m.val % 32) =
        (markJump s m cyc || s.bitOf (.MAN_AM_JUMPED (markHalf m)) (m.val % 32)) ∧
      (markNoted m cyc s).time = s.time ∧ (markNoted m cyc s).man = s.man ∧
      s.keeps (markNoted m cyc s) [.MAN_AM_FIRED (markHalf m), .MAN_AM_JUMPED (markHalf m), .MAN_AM_TS m] := by
  have hbit : m.val % 32 < 32 := Nat.mod_lt _ (by decide)
  unfold markNoted
  refine ⟨?_, rd_wr _ _ _, ?_, ?_, ?_, fun r hr => ?_⟩
  · rw [bitOf_congr _ _ (rd_wr_ne _ _ _ _ (by simp))]
    split
    · rw [bitOf_congr _ _ (rd_raiseBit_ne _ _ _ _ (by simp))]
      exact bitOf_raiseBit _ _ _ hbit
    · exact bitOf_raiseBit _ _ _ hbit
  · rw [bitOf_congr _ _ (rd_wr_ne _ _ _ _ (by simp))]
    split
    · next h => rw [bitOf_raiseBit _ _ _ hbit, h, Bool.true_or]
    · next h =>
      rw [bitOf_congr _ _ (rd_raiseBit_ne _ _ _ _ (by simp)), Bool.eq_false_iff.mpr h, Bool.false_or]
  · split <;> rfl
  · split <;> rfl
  · simp only [List.mem_cons, List.not_mem_nil, or_false, not_or] at hr
    obtain ⟨hfired, hjumped, hts⟩ := hr
    rw [rd_wr_ne _ _ _ _ hts]
    split
    · rw [rd_raiseBit_ne _ _ _ _ hjumped, rd_raiseBit_ne _ _ _ _ hfired]
    · rw [rd_raiseBit_ne _ _ _ _ hfired]

/-- The consumers of a firing leave the Mandrel aside, one core cycle later (R72). -/
theorem markDeliver_aside (m : Fin 64) (cyc tc : Nat) (s : State) : Aside (s.advance (cyc + 1)) (markDeliver m cyc tc s) := by
  unfold markDeliver
  extract_lets u w x
  have hu : Aside (s.advance (cyc + 1)) u := markTransfer_aside _ _ _ _
  have hx : Aside w x := ((postRel_aside _ _ _ _).trans (postCap_aside _ _ _ _ _)).trans (postConv_aside _ _ _ _ _)
  exact ((hu.trans (.modPost u _)).trans hx).trans ((hlmTrigger_aside _ _ _).trans (lbMark_aside _ _))

theorem markFire_shows (m : Fin 64) (cyc : Nat) (s : State) :
    (markFire m cyc s).time = max s.time (cyc + 1) ∧ (markFire m cyc s).man = s.man ∧
      (markFire m cyc s).bitOf (.MAN_AM_FIRED (markHalf m)) (m.val % 32) = true ∧
      (markFire m cyc s).rd (.MAN_AM_TS m) = stampWord (markTime s m cyc) ∧
      (markFire m cyc s).bitOf (.MAN_AM_JUMPED (markHalf m)) (m.val % 32) =
        (markJump s m cyc || s.bitOf (.MAN_AM_JUMPED (markHalf m)) (m.val % 32)) ∧
      (∀ r, r.inMan = true → r ∉ [Reg.MAN_AM_FIRED (markHalf m), .MAN_AM_JUMPED (markHalf m), .MAN_AM_TS m] →
        (markFire m cyc s).rd r = s.rd r) := by
  obtain ⟨hfired, hts, hjumped, htime, hman, hkeep⟩ := markNoted_shows m cyc s
  have haside := markDeliver_aside m cyc (markTime s m cyc) (markNoted m cyc s)
  rw [← markFire_eq] at haside
  refine ⟨haside.time.trans (congrArg (max · (cyc + 1)) htime), haside.man.trans hman, ?_, (haside.rd rfl).trans hts, ?_,
    fun r hr hn => (haside.rd hr).trans (hkeep r hn)⟩
  · exact (bitOf_congr _ _ (haside.rd rfl)).trans hfired
  · exact (bitOf_congr _ _ (haside.rd rfl)).trans hjumped

/-! ## A crossing judged (R67, R68, R70, R78) -/

section Judge

variable {m : Fin 64} {cyc b : Nat} {s : State}

theorem markJudge_eq (m : Fin 64) (cyc : Nat) (s : State) :
    markJudge m cyc s =
      let b := if markCross s m cyc = 1 then 1 else 2
      if s.flag (Fld.MAN_AM_CTL_EN m) && s.time ≤ cyc + 1 && (s.gen (markAg s m)).chg ≤ cyc && markCross s m cyc != 0 &&
          s.f (Fld.MAN_AM_CTL_ARM m) / b % 2 = 1 then
        if markJump s m cyc && s.flag (Fld.MAN_AM_CTL_JUMP_SUPP m) then markDisarmed m cyc b s else markFire m cyc (markDisarmed m cyc b s)
      else s := rfl

theorem markJudge_of_no_crossing (h : markCross s m cyc = 0) : markJudge m cyc s = s := by
  rw [markJudge_eq]
  exact if_neg (by simp [h])

theorem cross_bit (hx : (markCross s m cyc = 1 ∧ b = 1) ∨ (markCross s m cyc = -1 ∧ b = 2)) :
    markCross s m cyc ≠ 0 ∧ (if markCross s m cyc = 1 then 1 else 2) = b := by
  rcases hx with ⟨hx, rfl⟩ | ⟨hx, rfl⟩ <;> simp [hx]

/-- A direction that is not armed does not change. -/
theorem markJudge_of_disarmed (hx : (markCross s m cyc = 1 ∧ b = 1) ∨ (markCross s m cyc = -1 ∧ b = 2))
    (harm : s.f (Fld.MAN_AM_CTL_ARM m) / b % 2 = 0) : markJudge m cyc s = s := by
  obtain ⟨-, hb⟩ := cross_bit hx
  rw [markJudge_eq, hb]
  exact if_neg (by simp [harm])

theorem markJudge_of_armed (hon : s.flag (Fld.MAN_AM_CTL_EN m) = true) (htime : s.time ≤ cyc + 1) (hchg : (s.gen (markAg s m)).chg ≤ cyc)
    (hx : (markCross s m cyc = 1 ∧ b = 1) ∨ (markCross s m cyc = -1 ∧ b = 2)) (harm : s.f (Fld.MAN_AM_CTL_ARM m) / b % 2 = 1) :
    markJudge m cyc s = if markJump s m cyc = true ∧ s.flag (Fld.MAN_AM_CTL_JUMP_SUPP m) = true then markDisarmed m cyc b s
      else markFire m cyc (markDisarmed m cyc b s) := by
  obtain ⟨hne, hb⟩ := cross_bit hx
  rw [markJudge_eq, hb]
  refine (if_pos (by simp [hon, htime, hchg, hne, harm])).trans (if_congr ?_ rfl rfl)
  rw [Bool.and_eq_true]

/-- Of its own configuration a mark judged changes the arming alone. -/
theorem markJudge_cfg (m : Fin 64) (cyc : Nat) (s : State) :
    (∀ lo width, lo + width ≤ 8 → (markJudge m cyc s).f ⟨.MAN_AM_CTL m, lo, width⟩ = s.f ⟨.MAN_AM_CTL m, lo, width⟩) ∧
      (markJudge m cyc s).rd (.MAN_AM_ANGLE m) = s.rd (.MAN_AM_ANGLE m) := by
  have hkept (b : Nat) := markDisarmed_kept m cyc b s
  have hfire (b : Nat) := (markFire_shows m cyc (markDisarmed m cyc b s)).2.2.2.2.2
  rw [markJudge_eq]
  extract_lets b
  split
  · split
    · exact ⟨(hkept b).cfg, (hkept b).regs _ (by simp)⟩
    · exact ⟨fun lo width h => (f_congr _ (hfire b _ rfl (by simp))).trans ((hkept b).cfg lo width h),
        (hfire b _ rfl (by simp)).trans ((hkept b).regs _ (by simp))⟩
  · exact ⟨fun _ _ _ => rfl, rfl⟩

/-- So does a crossing that comes before a write. -/
theorem markFirst_cfg (m : Fin 64) (s : State) :
    (∀ lo width, lo + width ≤ 8 → (markFirst m s).f ⟨.MAN_AM_CTL m, lo, width⟩ = s.f ⟨.MAN_AM_CTL m, lo, width⟩) ∧
      (markFirst m s).rd (.MAN_AM_ANGLE m) = s.rd (.MAN_AM_ANGLE m) := by
  obtain ⟨hcfg, hangle⟩ := markJudge_cfg m s.time (genSettle (markAg s m) s.time s)
  have hu := genSettle_latched (markAg s m) s.time s
  exact ⟨fun lo width h => (hcfg lo width h).trans (hu.f rfl (by simp [genEventRegs])), hangle.trans (hu.regs _ rfl (by simp [genEventRegs]))⟩

/-- What a crossing of an armed direction shows (R67, R70, R71). -/
theorem markJudge_shows {u : State} (hon : u.flag (Fld.MAN_AM_CTL_EN m) = true) (htime : u.time ≤ cyc + 1) (hchg : (u.gen (markAg u m)).chg ≤ cyc)
    (hx : (markCross u m cyc = 1 ∧ b = 1) ∨ (markCross u m cyc = -1 ∧ b = 2)) (harm : u.f (Fld.MAN_AM_CTL_ARM m) / b % 2 = 1) :
    let t := markJudge m cyc u
    let drop := markJump u m cyc = true ∧ u.flag (Fld.MAN_AM_CTL_JUMP_SUPP m) = true
    t.time = (if drop then max u.time cyc else cyc + 1) ∧ t.f (Fld.MAN_AM_CTL_ARM m) = u.f (Fld.MAN_AM_CTL_ARM m) - b ∧
      (¬ drop → t.bitOf (.MAN_AM_FIRED (markHalf m)) (m.val % 32) = true ∧ t.rd (.MAN_AM_TS m) = stampWord (markTime u m cyc) ∧
        t.bitOf (.MAN_AM_JUMPED (markHalf m)) (m.val % 32) = (markJump u m cyc || u.bitOf (.MAN_AM_JUMPED (markHalf m)) (m.val % 32))) ∧
      (drop → u.keeps t [.MAN_AM_CTL m] ∧ u.keepsMem t) ∧
      (∀ m', m' ≠ m → t.rd (.MAN_AM_CTL m') = u.rd (.MAN_AM_CTL m') ∧ t.rd (.MAN_AM_TS m') = u.rd (.MAN_AM_TS m')) ∧ t.man = u.man := by
  intro t drop
  have hkept := markDisarmed_kept m cyc b u
  have harmed := markDisarmed_arm m cyc b u
  have ht : t = if drop then markDisarmed m cyc b u else markFire m cyc (markDisarmed m cyc b u) := markJudge_of_armed hon htime hchg hx harm
  rw [ht]
  by_cases hdrop : drop
  · simp only [hdrop, ↓reduceIte, not_true_eq_false, IsEmpty.forall_iff, true_and, forall_const]
    refine ⟨rfl, harmed, ⟨fun r hr => hkept.regs r (by simpa using hr), rfl, rfl⟩, fun m' hm => ⟨hkept.regs _ ?_, hkept.regs _ (by simp)⟩, rfl⟩
    simpa using hm
  · simp only [hdrop, ↓reduceIte, not_false_eq_true, IsEmpty.forall_iff, true_and, forall_const]
    obtain ⟨hend, hman, hfired, hts, hjumped, hregs⟩ := markFire_shows m cyc (markDisarmed m cyc b u)
    rw [hkept.markTime] at hts
    rw [hkept.markJump, bitOf_congr _ _ (hkept.regs _ (by simp))] at hjumped
    refine ⟨hend.trans ?_, ?_, ⟨hfired, hts, hjumped⟩, fun m' hm => ⟨?_, ?_⟩, hman⟩
    · exact max_eq_right (max_le htime (Nat.le_succ cyc))
    · exact (f_congr _ (hregs _ rfl (by simp [Fld.MAN_AM_CTL_ARM]))).trans harmed
    · exact (hregs _ rfl (by simp)).trans (hkept.regs _ (by simpa using hm))
    · exact (hregs _ rfl (by simpa using hm)).trans (hkept.regs _ (by simp))

end Judge

/-! ## Writes to a mark (R69) -/

/-- The fields of a part of a word follow the part. -/
theorem wGet_within {w w' : Word} {lo width : Nat} (h : wGet w 0 8 = wGet w' 0 8) (hfit : lo + width ≤ 8) : wGet w lo width = wGet w' lo width := by
  refine wGet_congr fun i _ hi => ?_
  have hbit := congrArg (·.testBit i) h
  simpa only [testBit_wGet, show i < 8 by omega, decide_true, Bool.true_and, Nat.zero_add] using hbit

/-- The configuration of a mark takes a write as a whole, but for a reserved DIR. -/
theorem wGet_markCtl (s : State) (m : Fin 64) (v : Word) (hv : wGet v 5 2 ≠ 3) : wGet (writeMerged s (.MAN_AM_CTL m) v) 0 8 = wGet v 0 8 := by
  have hfield (row : FieldRow) (hrow : row ∈ (Reg.MAN_AM_CTL m).rows) (hacc : row.acc = .rw) (hrsv : row.rsv = []) :
      wGet (writeMerged s (.MAN_AM_CTL m) v) row.lo row.width = wGet v row.lo row.width := by
    rw [wGet_writeMerged s _ v row hrow (by rw [hacc]; decide)]
    exact if_pos ((fieldTakes_iff _ _ _ _ _).mpr ⟨by rw [hacc]; rfl, by simp [hrsv], rfl⟩)
  have hdir : wGet (writeMerged s (.MAN_AM_CTL m) v) 5 2 = wGet v 5 2 := by
    rw [wGet_writeMerged s _ v ⟨5, 2, .rw, 0, [(3, 3)]⟩ (by simp [Reg.rows]) (by decide)]
    refine if_pos ((fieldTakes_iff _ _ _ _ _).mpr ⟨rfl, ?_, rfl⟩)
    simp only [List.mem_singleton, forall_eq]
    omega
  simp only [wGet_add _ 0 1 7, wGet_add _ 1 3 4, wGet_add _ 4 1 3, wGet_add _ 5 2 1, hdir, hfield ⟨0, 1, .rw, 0, []⟩ (by simp [Reg.rows]) rfl rfl,
    hfield ⟨1, 3, .rw, 0, []⟩ (by simp [Reg.rows]) rfl rfl, hfield ⟨4, 1, .rw, 0, []⟩ (by simp [Reg.rows]) rfl rfl,
    hfield ⟨7, 1, .rw, 0, []⟩ (by simp [Reg.rows]) rfl rfl]

theorem wGet_markCtl_arm (s : State) (m : Fin 64) (v : Word) :
    wGet (writeMerged s (.MAN_AM_CTL m) v) 8 2 = wGet (s.rd (.MAN_AM_CTL m)) 8 2 := by
  rw [wGet_writeMerged s _ v ⟨8, 2, .ro, 0, []⟩ (by simp [Reg.rows]) (by decide)]
  exact if_neg (by simp [fieldTakes])

end Sys2Proof.Machine
end

section
/-! PROOF. O11: angle marks. -/

namespace Sys2Proof.Machine

open Sys2Proof

section Clauses

variable {s : State} {m : Fin 64}

/-- A mark and its generator as the events of its generator leave them. -/
theorem markAg_settled (m : Fin 64) (cyc : Nat) (s : State) : markAg (genSettle (markAg s m) cyc s) m = markAg s m := by
  have h := (genSettle_latched (markAg s m) cyc s).f (F := Fld.MAN_AM_CTL_AG m) rfl (by simp [Fld.MAN_AM_CTL_AG, genEventRegs])
  exact Fin.ext (congrArg (· % 8) h)

theorem gives_crossing (cyc b : Nat) (hon : s.flag (Fld.MAN_AM_CTL_EN m) = true) (htime : s.time ≤ cyc + 1) :
    let half : Fin 2 := ⟨m.val / 32, by omega⟩
    let arm := s.f (Fld.MAN_AM_CTL_ARM m)
    let u := genSettle (markAg s m) cyc s
    (u.gen (markAg s m)).chg ≤ cyc → (markCross u m cyc = 1 ∧ b = 1) ∨ (markCross u m cyc = -1 ∧ b = 2) →
      (arm / b % 2 = 1 → gives (.markCrossing m cyc) s fun t =>
        let jump := markJump u m cyc = true
        let drop := jump ∧ s.flag (Fld.MAN_AM_CTL_JUMP_SUPP m) = true
        t.time = (if drop then max s.time cyc else cyc + 1) ∧ t.f (Fld.MAN_AM_CTL_ARM m) = arm - b ∧
        (¬ drop → t.bitOf (.MAN_AM_FIRED half) (m.val % 32) = true ∧ t.rd (.MAN_AM_TS m) = stampWord (markTime u m cyc) ∧
          t.bitOf (.MAN_AM_JUMPED half) (m.val % 32) = (decide jump || s.bitOf (.MAN_AM_JUMPED half) (m.val % 32))) ∧
        (drop → u.keeps t [.MAN_AM_CTL m] ∧ u.keepsMem t) ∧
        (∀ m', m' ≠ m → t.rd (.MAN_AM_CTL m') = s.rd (.MAN_AM_CTL m') ∧ t.rd (.MAN_AM_TS m') = s.rd (.MAN_AM_TS m')) ∧ t.man = u.man) ∧
      (arm / b % 2 = 0 → exec (.markCrossing m cyc) s = .next u) := by
  intro half arm u hchg hx
  have hu : Latched (markAg s m) s u := genSettle_latched _ cyc s
  have harm : u.f (Fld.MAN_AM_CTL_ARM m) = arm := hu.f rfl (by simp [Fld.MAN_AM_CTL_ARM, genEventRegs])
  have hsupp : u.flag (Fld.MAN_AM_CTL_JUMP_SUPP m) = s.flag (Fld.MAN_AM_CTL_JUMP_SUPP m) :=
    hu.flag rfl (by simp [Fld.MAN_AM_CTL_JUMP_SUPP, genEventRegs])
  have hen : u.flag (Fld.MAN_AM_CTL_EN m) = true := (hu.flag rfl (by simp [Fld.MAN_AM_CTL_EN, genEventRegs])).trans hon
  have hjumped : u.bitOf (.MAN_AM_JUMPED half) (m.val % 32) = s.bitOf (.MAN_AM_JUMPED half) (m.val % 32) :=
    bitOf_congr _ _ (hu.regs _ rfl (by simp [genEventRegs]))
  refine ⟨fun h => ⟨markJudge m cyc u, rfl, ?_⟩, fun h => congrArg Host.Outcome.next (markJudge_of_disarmed hx (by rw [harm]; exact h))⟩
  obtain ⟨hend, harmed, hfired, hdrop, hothers, hman⟩ :=
    markJudge_shows hen (hu.time.trans_le htime) (by rw [markAg_settled]; exact hchg) hx (by rw [harm]; exact h)
  rw [hsupp] at hend hfired hdrop
  rw [hu.time] at hend
  rw [harm] at harmed
  refine ⟨hend, harmed, fun hn => ?_, hdrop, fun m' hm => ?_, hman⟩
  · obtain ⟨h1, h2, h3⟩ := hfired hn
    exact ⟨h1, h2, h3.trans (by rw [Bool.decide_eq_true]; exact congrArg _ hjumped)⟩
  · obtain ⟨h1, h2⟩ := hothers m' hm
    exact ⟨h1.trans (hu.regs _ rfl (by simp [genEventRegs])), h2.trans (hu.regs _ rfl (by simp [genEventRegs]))⟩

/-- A direction arms where its condition holds, or stays armed (R68). -/
theorem arm_bits (x y : Bool) :
    ((bit x + 2 * bit y) % 2 ^ 2 % 2 = 1 ↔ x = true) ∧ ((bit x + 2 * bit y) % 2 ^ 2 / 2 = 1 ↔ y = true) := by
  cases x <;> cases y <;> decide

theorem gives_arming (cyc : Nat) (hon : s.flag (Fld.MAN_AM_CTL_EN m) = true) (hgen : s.genOn (markAg s m) = true) (htime : s.time ≤ cyc + 1) :
    let arm := s.f (Fld.MAN_AM_CTL_ARM m)
    let u := genSettle (markAg s m) cyc s
    (u.gen (markAg s m)).chg ≤ cyc → gives (.markArming m cyc) s fun t =>
      let d := sAng (markOut u m cyc - s.f (Fld.MAN_AM_ANGLE_ANGLE m))
      let h : Int := s.f (Fld.MAN_AM_HYST_HYST m)
      let dir := s.f (Fld.MAN_AM_CTL_DIR m)
      (t.f (Fld.MAN_AM_CTL_ARM m) % 2 = 1 ↔ arm % 2 = 1 ∨ (dir ≠ 1 ∧ d < -h)) ∧
      (t.f (Fld.MAN_AM_CTL_ARM m) / 2 = 1 ↔ arm / 2 = 1 ∨ (dir ≠ 0 ∧ h ≤ d)) ∧
      t.time = max s.time cyc ∧ u.keeps t [.MAN_AM_CTL m] ∧ u.keepsMem t := by
  intro arm u hchg
  have hu : Latched (markAg s m) s u := genSettle_latched _ cyc s
  have harm : u.f (Fld.MAN_AM_CTL_ARM m) = arm := hu.f rfl (by simp [Fld.MAN_AM_CTL_ARM, genEventRegs])
  have hdir : u.f (Fld.MAN_AM_CTL_DIR m) = s.f (Fld.MAN_AM_CTL_DIR m) := hu.f rfl (by simp [Fld.MAN_AM_CTL_DIR, genEventRegs])
  have hangle : u.f (Fld.MAN_AM_ANGLE_ANGLE m) = s.f (Fld.MAN_AM_ANGLE_ANGLE m) := hu.f rfl (by simp [Fld.MAN_AM_ANGLE_ANGLE, genEventRegs])
  have hhyst : u.f (Fld.MAN_AM_HYST_HYST m) = s.f (Fld.MAN_AM_HYST_HYST m) := hu.f rfl (by simp [Fld.MAN_AM_HYST_HYST, genEventRegs])
  have hen : u.flag (Fld.MAN_AM_CTL_EN m) = true := (hu.flag rfl (by simp [Fld.MAN_AM_CTL_EN, genEventRegs])).trans hon
  have hrun : u.genOn (markAg s m) = true := (hu.flag (F := Fld.MAN_AG_CTL_EN (markAg s m)) rfl (by simp [Fld.MAN_AG_CTL_EN, genEventRegs])).trans hgen
  have hdue : u.time ≤ cyc + 1 := hu.time.trans_le htime
  let d := sAng (markOut u m cyc - u.f (Fld.MAN_AM_ANGLE_ANGLE m))
  let h : Int := u.f (Fld.MAN_AM_HYST_HYST m)
  let dir := u.f (Fld.MAN_AM_CTL_DIR m)
  let fwd : Bool := (dir != 1 && decide (d < -h)) || u.f (Fld.MAN_AM_CTL_ARM m) % 2 = 1
  let rev : Bool := (dir != 0 && decide (h ≤ d)) || u.f (Fld.MAN_AM_CTL_ARM m) / 2 % 2 = 1
  have hcond : (u.flag (Fld.MAN_AM_CTL_EN m) && u.genOn (markAg s m) && u.time ≤ cyc + 1 && (u.gen (markAg s m)).chg ≤ cyc) = true := by
    simp [hen, hrun, hdue, hchg]
  have hexec : exec (.markArming m cyc) s = .next ((u.advance cyc).setF (Fld.MAN_AM_CTL_ARM m) (bit fwd + 2 * bit rev)) :=
    congrArg Host.Outcome.next (if_pos hcond)
  have hkept := setArm_kept m (bit fwd + 2 * bit rev) (u.advance cyc)
  obtain ⟨hfwd, hrev⟩ := arm_bits fwd rev
  have hlt : arm < 4 := arm_lt s m
  refine ⟨_, hexec, ?_, ?_, congrArg (max · cyc) hu.time, fun r hr => hkept.regs r (by simpa using hr), rfl, rfl⟩
  · rw [f_setF _ (Fld.MAN_AM_CTL_ARM m) _ (by simp [Fld.MAN_AM_CTL_ARM])]
    refine hfwd.trans ?_
    simp only [fwd, d, h, dir, harm, hdir, hangle, hhyst, Bool.or_eq_true, Bool.and_eq_true, bne_iff_ne, decide_eq_true_eq]
    exact or_comm
  · rw [f_setF _ (Fld.MAN_AM_CTL_ARM m) _ (by simp [Fld.MAN_AM_CTL_ARM])]
    refine hrev.trans ?_
    simp only [rev, d, h, dir, harm, hdir, hangle, hhyst, Bool.or_eq_true, Bool.and_eq_true, bne_iff_ne, decide_eq_true_eq,
      show arm / 2 % 2 = arm / 2 by omega]
    exact or_comm

end Clauses

section Writes

variable (m : Fin 64) (v : Word) (u : State)

/-- MAN_AMm_CTL written, once a crossing of the cycle has been judged. -/
def markCtlPut : State :=
  let new := writeMerged u (.MAN_AM_CTL m) v
  if wGet new 0 1 = 0 || wGet (u.rd (.MAN_AM_CTL m)) 0 1 = 0 || wGet new 1 6 != wGet (u.rd (.MAN_AM_CTL m)) 1 6 then
    (u.wr (.MAN_AM_CTL m) new).setF (Fld.MAN_AM_CTL_ARM m) 0
  else u.wr (.MAN_AM_CTL m) new

theorem markCtlWrite_eq (s : State) : markCtlWrite m v s = markCtlPut m v (markFirst m s) := rfl

/-- A mark that the write enables or redirects is disarmed (R69). -/
theorem markCtlPut_shows (hv : wGet v 5 2 ≠ 3) :
    wGet ((markCtlPut m v u).rd (.MAN_AM_CTL m)) 0 8 = wGet v 0 8 ∧
      (markCtlPut m v u).f (Fld.MAN_AM_CTL_ARM m) =
        (if wGet v 0 1 = 1 ∧ u.flag (Fld.MAN_AM_CTL_EN m) = true ∧ wGet v 1 6 = wGet (u.rd (.MAN_AM_CTL m)) 1 6 then u.f (Fld.MAN_AM_CTL_ARM m) else 0) ∧
      u.onlyRegs (markCtlPut m v u) [.MAN_AM_CTL m] := by
  have hnew := wGet_markCtl u m v hv
  have harm := wGet_markCtl_arm u m v
  have hold : u.flag (Fld.MAN_AM_CTL_EN m) = true ↔ wGet (u.rd (.MAN_AM_CTL m)) 0 1 = 1 := flag_eq_one_iff u _ 0
  have hv1 := wGet_lt v 0 1
  have hu1 := wGet_lt (u.rd (.MAN_AM_CTL m)) 0 1
  unfold markCtlPut
  simp only [wGet_within hnew (lo := 0) (width := 1) (by decide), wGet_within hnew (lo := 1) (width := 6) (by decide)]
  generalize writeMerged u (.MAN_AM_CTL m) v = new at hnew harm ⊢
  have hword : (u.wr (.MAN_AM_CTL m) new).rd (.MAN_AM_CTL m) = new := rd_wr _ _ _
  have hkept := setArm_kept m 0 (u.wr (.MAN_AM_CTL m) new)
  by_cases hstay : wGet v 0 1 = 1 ∧ u.flag (Fld.MAN_AM_CTL_EN m) = true ∧ wGet v 1 6 = wGet (u.rd (.MAN_AM_CTL m)) 1 6
  · obtain ⟨hon, hwas, hsame⟩ := hstay
    rw [if_neg (by simp [hon, hold.mp hwas, hsame]), if_pos ⟨hon, hwas, hsame⟩]
    exact ⟨by rw [hword, hnew], (congrArg (wGet · 8 2) hword).trans harm, rfl, fun r hr => rd_wr_ne _ _ _ _ (by simpa using hr)⟩
  · rw [if_pos ?_, if_neg hstay]
    · refine ⟨?_, ?_, rfl, fun r hr => (hkept.regs r (by simpa using hr)).trans (rd_wr_ne _ _ _ _ (by simpa using hr))⟩
      · exact (hkept.cfg 0 8 (by decide)).trans ((congrArg (wGet · 0 8) hword).trans hnew)
      · exact f_setF _ (Fld.MAN_AM_CTL_ARM m) 0 (by simp [Fld.MAN_AM_CTL_ARM])
    · simp only [Bool.or_eq_true, decide_eq_true_eq, bne_iff_ne, ne_eq]
      rw [hold] at hstay
      omega

/-- MAN_AMm_ANGLE written, once a crossing of the cycle has been judged. -/
def markAnglePut : State :=
  if u.flag (Fld.MAN_AM_CTL_EN m) && u.rd (.MAN_AM_ANGLE m) != v then (u.wr (.MAN_AM_ANGLE m) v).setF (Fld.MAN_AM_CTL_ARM m) 0
  else u.wr (.MAN_AM_ANGLE m) v

theorem markAngleWrite_eq (s : State) : markAngleWrite m v s = markAnglePut m v (markFirst m s) := rfl

/-- A changed angle disarms an enabled mark (R69). -/
theorem markAnglePut_shows :
    (markAnglePut m v u).rd (.MAN_AM_ANGLE m) = v ∧
      (markAnglePut m v u).f (Fld.MAN_AM_CTL_ARM m) =
        (if u.flag (Fld.MAN_AM_CTL_EN m) = true ∧ v ≠ u.rd (.MAN_AM_ANGLE m) then 0 else u.f (Fld.MAN_AM_CTL_ARM m)) ∧
      u.onlyRegs (markAnglePut m v u) [.MAN_AM_ANGLE m, .MAN_AM_CTL m] := by
  have hkept := setArm_kept m 0 (u.wr (.MAN_AM_ANGLE m) v)
  unfold markAnglePut
  by_cases hchange : u.flag (Fld.MAN_AM_CTL_EN m) = true ∧ v ≠ u.rd (.MAN_AM_ANGLE m)
  · rw [if_pos (by simp [hchange.1, hchange.2.symm]), if_pos hchange]
    refine ⟨(hkept.regs _ (by simp)).trans (rd_wr _ _ _), f_setF _ (Fld.MAN_AM_CTL_ARM m) 0 (by simp [Fld.MAN_AM_CTL_ARM]), rfl, fun r hr => ?_⟩
    simp only [List.mem_cons, List.not_mem_nil, or_false, not_or] at hr
    exact (hkept.regs r hr.2).trans (rd_wr_ne _ _ _ _ hr.1)
  · rw [if_neg (by rw [Bool.and_eq_true, bne_iff_ne, ne_comm]; exact hchange), if_neg hchange]
    refine ⟨rd_wr _ _ _, f_wr_ne _ _ _ _ (by simp [Fld.MAN_AM_CTL_ARM]), rfl, fun r hr => rd_wr_ne _ _ _ _ ?_⟩
    simp only [List.mem_cons, List.not_mem_nil, or_false, not_or] at hr
    exact hr.1

/-- A crossing that comes before the write leaves what the write is judged by. -/
theorem markFirst_flag (s : State) : (markFirst m s).flag (Fld.MAN_AM_CTL_EN m) = s.flag (Fld.MAN_AM_CTL_EN m) :=
  congrArg (· != 0) ((markFirst_cfg m s).1 0 1 (by decide))

theorem markFirst_ctl (s : State) : wGet ((markFirst m s).rd (.MAN_AM_CTL m)) 1 6 = wGet (s.rd (.MAN_AM_CTL m)) 1 6 :=
  (markFirst_cfg m s).1 1 6 (by decide)

end Writes

/-- Settles O11: a mark is judged on the state with its generator's events applied, and its arming does not enter the angle it follows. -/
theorem angleMarks : Obligations.AngleMarks := by
  unfold Obligations.AngleMarks
  intro s m half arm
  refine ⟨fun hin hx => ?_, fun cyc b hon htime => gives_crossing cyc b hon htime, fun cyc hon hgen htime => gives_arming cyc hon hgen htime,
    fun v hv => writes_agentTurn rfl ?_, fun v => writes_agentTurn rfl ?_⟩
  · rw [markFirst, genSettle_of_empty _ _ s hin]
    exact markJudge_of_no_crossing hx
  · have h := markCtlPut_shows m v (markFirst m s.atWrite) hv
    rwa [← markCtlWrite_eq, markFirst_flag, markFirst_ctl] at h
  · have h := markAnglePut_shows m v (markFirst m s.atWrite)
    rwa [← markAngleWrite_eq, markFirst_flag, (markFirst_cfg m s.atWrite).2] at h

end Sys2Proof.Machine
end

section
/-! PROOF. O12: a channel whose MOD holds a reserved encoding (R84, R105). -/

namespace Sys2Proof.Machine

open Sys2Proof

/-- Channel 0 counts in quadrature mode with its inputs at rest. MOD holds 2^24 + 1, an encoding that R105 reserves and that a write does not
store, and the count stands at the greatest that CNT has bits for. -/
def qeReservedMod : State :=
  { regs := [(.FBK_QE_CTL 0, 1#32), (.FBK_QE_MOD 0, 0x1000001#32), (.FBK_QE_CNT 0, 0xFFFFFF#32)] }

/-- One step forward leads to 2^24, which modulo MOD is no wrap, and of which the 24 bits of CNT keep 0. -/
theorem qeReservedMod_forward :
    (qeRun 0 [⟨0, true, 0⟩] 11 qeReservedMod).f (Fld.FBK_QE_CNT_CNT 0) = 0 ∧
      (qeRun 0 [⟨0, true, 0⟩] 11 qeReservedMod).rd (.FBK_QE_TURNS 0) = 0#32 := by decide +kernel

/-- Refutes O12: the statement asks only that CNT be below MOD, and MOD, which is 25 bits wide, can read beyond 2^24 in a state that no write
leads to. There a step forward from 2^24 − 1 would have to show 2^24 in the 24 bits of CNT. -/
theorem not_incrementalChannels : ¬ Obligations.IncrementalChannels := by
  unfold Obligations.IncrementalChannels
  intro h
  obtain ⟨-, hcount, -⟩ := h qeReservedMod 0 (by decide +kernel) (by decide +kernel) (by decide +kernel)
  obtain ⟨-, -, hstep⟩ := hcount false true 0 11 (by decide +kernel) (by decide +kernel) (by decide +kernel)
  obtain ⟨t, ht, hcnt, -⟩ := hstep (by decide +kernel) (by decide +kernel)
  have hrun : qeRun 0 [⟨0, true, 0⟩] 11 qeReservedMod = t := Host.Outcome.next.inj ht
  rw [← hrun, qeReservedMod_forward.1] at hcnt
  exact absurd hcnt (by decide +kernel)

end Sys2Proof.Machine
end

section
/-! SUPPORT. What updates of registers keep, guarded writes without guards, and an event on its way to the generators that follow a channel
(R50, R59). -/

namespace Sys2Proof.Machine

open Sys2Proof

/-! ## Registers kept -/

theorem State.keeps.trans {s t u : State} {rs : List Reg} (h : s.keeps t rs) (k : t.keeps u rs) : s.keeps u rs :=
  fun r hr => (k r hr).trans (h r hr)

theorem State.keeps.f {s t : State} {rs : List Reg} (h : s.keeps t rs) {F : RF} (hF : F.reg ∉ rs) : t.f F = s.f F := f_congr F (h _ hF)

theorem State.keeps.flag {s t : State} {rs : List Reg} (h : s.keeps t rs) {F : RF} (hF : F.reg ∉ rs) : t.flag F = s.flag F :=
  flag_congr F (h _ hF)

theorem keeps_of_regs {s t : State} (rs : List Reg) (h : t.regs = s.regs) : s.keeps t rs := fun r _ => by simp only [State.rd, h]

theorem keeps_wr (s : State) (r : Reg) (w : Word) {rs : List Reg} (h : r ∈ rs) : s.keeps (s.wr r w) rs :=
  fun q hq => rd_wr_ne s r q w (by rintro rfl; exact hq h)

theorem keeps_setF (s : State) (F : RF) (v : Nat) {rs : List Reg} (h : F.reg ∈ rs) : s.keeps (s.setF F v) rs := keeps_wr s F.reg _ h

theorem keeps_raise (s : State) (F : RF) {rs : List Reg} (h : F.reg ∈ rs) : s.keeps (s.raise F) rs := keeps_setF s F 1 h

/-- The register of a bit that is raised. -/
theorem rd_raise (s : State) (F : RF) : (s.raise F).rd F.reg = wPut (s.rd F.reg) F.lo F.width 1 := rd_setF s F 1

theorem guardMask_zero (old new : Word) : guardMask old new 0#32 = (new, false) := by
  simp only [guardMask, show ~~~(0#32) = BitVec.allOnes 32 from rfl, BitVec.and_allOnes, BitVec.and_zero, BitVec.or_zero, bne_self_eq_false]

/-- Fields of one bit agree where the bits do. -/
theorem getLsbD_of_wGet {w v : Word} {i : Nat} (h : wGet w i 1 = wGet v i 1) : w.getLsbD i = v.getLsbD i := by
  have hbit := congrArg (·.testBit 0) h
  simpa only [testBit_wGet, Nat.zero_lt_one, decide_true, Bool.true_and, Nat.add_zero] using hbit

/-! ## An event posted (R50, R59) -/

/-- A generator follows a channel of a source block. -/
def follows (src ch : Nat) (s : State) (m : Fin 8) : Bool := s.flag (Fld.MAN_AG_CTL_EN m) && s.gSrc m = src && s.f (Fld.MAN_AG_CTL_SRC_CH m) = ch

theorem follows_iff (src ch : Nat) (s : State) (m : Fin 8) :
    follows src ch s m = true ↔ s.flag (Fld.MAN_AG_CTL_EN m) = true ∧ s.gSrc m = src ∧ s.f (Fld.MAN_AG_CTL_SRC_CH m) = ch := by
  simp only [follows, Bool.and_eq_true, decide_eq_true_eq, and_assoc]

/-- One generator told of an event. -/
def tellGen (src ch : Nat) (e : GenEv) (s : State) (m : Fin 8) : State :=
  if follows src ch s m then s.modGen m fun g => { g with inbox := g.inbox ++ [(e, s.time)] } else s

theorem postGen_eq (src ch : Nat) (e : GenEv) (s : State) : postGen src ch e s = (List.finRange 8).foldl (tellGen src ch e) s := rfl

/-- A state but for the Mandrel's own record. -/
def State.sansMan (s : State) : State := { s with man := {} }

theorem tellGen_sansMan (src ch : Nat) (e : GenEv) (s : State) (m : Fin 8) : (tellGen src ch e s m).sansMan = s.sansMan := by
  unfold tellGen
  split <;> rfl

theorem tellGen_inbox (src ch : Nat) (e : GenEv) (s : State) (m : Fin 8) :
    ((tellGen src ch e s m).gen m).inbox = (s.gen m).inbox ++ if follows src ch s.sansMan m then [(e, s.time)] else [] := by
  change _ = (s.gen m).inbox ++ if follows src ch s m then [(e, s.time)] else []
  unfold tellGen
  split
  · exact congrArg Gen.inbox (modGen_gen_same s m _)
  · exact (List.append_nil _).symm

theorem tellGen_other (src ch : Nat) (e : GenEv) (s : State) (m k : Fin 8) (h : k ≠ m) : (tellGen src ch e s m).gen k = s.gen k := by
  unfold tellGen
  split
  · exact modGen_gen_ne s m k _ h
  · rfl

/-- A posted event joins what is on its way to each generator that follows the channel, and changes nothing else. -/
theorem postGen_shows (src ch : Nat) (e : GenEv) (s : State) :
    (postGen src ch e s).sansMan = s.sansMan ∧
      ∀ m, ((postGen src ch e s).gen m).inbox = (s.gen m).inbox ++ if follows src ch s m then [(e, s.time)] else [] := by
  have hview (m : Fin 8) : ((postGen src ch e s).sansMan, ((postGen src ch e s).gen m).inbox) =
      (s.sansMan, (s.gen m).inbox ++ if follows src ch s.sansMan m then [(e, s.sansMan.time)] else []) := by
    rw [postGen_eq]
    exact foldl_view (tellGen src ch e) (fun m u => (u.sansMan, (u.gen m).inbox))
      (fun m p => (p.1, p.2 ++ if follows src ch p.1 m then [(e, p.1.time)] else []))
      (fun u c d hd => Prod.ext (tellGen_sansMan src ch e u c) (congrArg Gen.inbox (tellGen_other src ch e u c d hd)))
      (fun u c => Prod.ext (tellGen_sansMan src ch e u c) (tellGen_inbox src ch e u c)) _ (List.nodup_finRange 8) s m (List.mem_finRange m)
  exact ⟨(Prod.mk.inj (hview 0)).1, fun m => (Prod.mk.inj (hview m)).2⟩

/-- What a posted event leaves, by the part of a state. -/
theorem postGen_same {α : Type} (part : State → α) (h : ∀ u : State, part u.sansMan = part u) (src ch : Nat) (e : GenEv) (s : State) :
    part (postGen src ch e s) = part s := by
  rw [← h, (postGen_shows src ch e s).1, h]

end Sys2Proof.Machine
end

section
/-! PROOF. O14: SSI channels: control writes, triggers and bursts. -/

namespace Sys2Proof.Machine

open Sys2Proof

/-- A part of a word that a mask clears. -/
theorem wGet_and_zero (w c : Word) (lo width : Nat) (h : wGet c lo width = 0) : wGet (w &&& c) lo width = 0 := by
  refine Nat.eq_of_testBit_eq fun i => ?_
  have hbit := congrArg (·.testBit i) h
  simp only [testBit_wGet, Nat.zero_testBit] at hbit ⊢
  rw [BitVec.getLsbD_and, Bool.and_left_comm, hbit, Bool.and_false]

section Ctl

variable (s : State) (n : Fin 4) (v : Word)

/-! ## A write to FBK_SSIn_CTL by its access codes (R95, R96, R105) -/

theorem wGet_ssiCtl_en : wGet (writeMerged s (.FBK_SSI_CTL n) v) 0 1 = wGet v 0 1 := by
  rw [wGet_writeMerged s _ v ⟨0, 1, .rw, 0, []⟩ (by simp [Reg.rows]) (by decide)]
  exact if_pos rfl

theorem getLsbD_ssiCtl_en : (writeMerged s (.FBK_SSI_CTL n) v).getLsbD 0 = v.getLsbD 0 := getLsbD_of_wGet (wGet_ssiCtl_en s n v)

theorem wGet_ssiCtl_par_locked (h : s.locked = true) : wGet (writeMerged s (.FBK_SSI_CTL n) v) 13 2 = wGet (s.rd (.FBK_SSI_CTL n)) 13 2 := by
  rw [wGet_writeMerged s _ v ⟨13, 2, .rwl, 0, [(3, 3)]⟩ (by simp [Reg.rows]) (by decide)]
  exact if_neg (by simp [fieldTakes, h])

/-- With the parity that the lock keeps, a layout is reserved where its parts do not fit into FLEN (R96). -/
theorem ssiLayoutBad_locked (h : s.locked = true) :
    ssiLayoutBad s n (writeMerged s (.FBK_SSI_CTL n) v) = true ↔
      s.f (Fld.FBK_SSI_FRAME_FLEN n) < s.f (Fld.FBK_SSI_FRAME_POS_SH n) + s.f (Fld.FBK_SSI_FRAME_MT_BITS n) +
        s.f (Fld.FBK_SSI_FRAME_ST_BITS n) + (if s.f (Fld.FBK_SSI_CTL_PAR n) = 0 then 0 else 1) := by
  have hpar : wGet (writeMerged s (.FBK_SSI_CTL n) v) 13 2 = s.f (Fld.FBK_SSI_CTL_PAR n) := wGet_ssiCtl_par_locked s n v h
  simp only [ssiLayoutBad, hpar, bit, bne_iff_ne, ne_eq, ite_not, decide_eq_true_eq]

end Ctl

section Write

variable {s : State} {n : Fin 4} {v : Word}

/-- EN = 1 written to a disabled channel (R95). -/
theorem ssiCtlWrite_enables (hoff : s.flag (Fld.FBK_SSI_CTL_EN n) = false) (hv : v.getLsbD 0 = true) :
    ssiCtlWrite n v s =
      if ssiLayoutBad s n (writeMerged s (.FBK_SSI_CTL n) v) then ssiIgn n s else ssiEnable n (writePlain (.FBK_SSI_CTL n) v s) := by
  have hon : (writePlain (.FBK_SSI_CTL n) v s).ssiOn n = true :=
    (flag_eq_testBit _ _ _).trans ((congrArg (·.getLsbD 0) (rd_writePlain _ v s)).trans ((getLsbD_ssiCtl_en s n v).trans hv))
  have hwas : s.ssiOn n = false := hoff
  unfold ssiCtlWrite
  simp only [hwas, hv, Bool.true_and, Bool.false_eq_true, ↓reduceIte, guardMask_zero, writeGuarded_zero, Bool.not_false, hon]

theorem ssiIgn_shows (n : Fin 4) (s : State) : (ssiIgn n s).flag (Fld.FBK_SSI_STATUS_WR_IGN n) = true ∧ s.onlyRegs (ssiIgn n s) [.FBK_SSI_STATUS n] :=
  ⟨(flag_eq_one_iff _ _ _).mpr (f_raise s (Fld.FBK_SSI_STATUS_WR_IGN n) (by simp [Fld.FBK_SSI_STATUS_WR_IGN])), rfl,
    keeps_raise s _ (by simp [Fld.FBK_SSI_STATUS_WR_IGN])⟩

theorem rd_ssiEnable (n : Fin 4) (s : State) (r : Reg) :
    (ssiEnable n s).rd r = (((s.wr (.FBK_SSI_STATUS n) (s.rd (.FBK_SSI_STATUS n) &&& 0xFFFF0D80#32)).lower (Fld.FBK_SSI_STATUS_FAILED n)).wr
      (.FBK_SSI_FRAMES n) 0#32).rd r := rfl

/-- A channel as its enabling leaves it (R95, R102). -/
theorem ssiEnable_shows (n : Fin 4) (s : State) :
    let t := ssiEnable n s
    wGet (t.rd (.FBK_SSI_STATUS n)) 0 7 = 0 ∧ t.f (Fld.FBK_SSI_STATUS_FAILED n) = 0 ∧ t.f (Fld.FBK_SSI_STATUS_ERUN n) = 0 ∧
      t.rd (.FBK_SSI_FRAMES n) = 0#32 ∧ t.post.ssi = s.post.ssi.filter (·.1 != n.val) ∧ t.fbk.ssi[n].org = s.time ∧
      s.keeps t [.FBK_SSI_STATUS n, .FBK_SSI_FRAMES n] ∧ s.keepsMem t := by
  intro t
  have hstatus : t.rd (.FBK_SSI_STATUS n) = wPut (s.rd (.FBK_SSI_STATUS n) &&& 0xFFFF0D80#32) 9 1 0 := by
    rw [rd_ssiEnable, rd_wr_ne _ _ _ _ (by simp)]
    exact (rd_setF _ (Fld.FBK_SSI_STATUS_FAILED n) 0).trans (congrArg (wPut · 9 1 0) (rd_wr s _ _))
  refine ⟨?_, ?_, ?_, (rd_ssiEnable n s _).trans (rd_wr _ _ _), rfl, congrArg SsiCh.org (modSsi_ssi_same _ n _), fun r hr => ?_, rfl, rfl⟩
  · rw [hstatus, wGet_wPut_ne _ _ _ _ _ _ (by decide) (by decide)]
    exact wGet_and_zero _ _ _ _ (by decide)
  · exact (congrArg (wGet · 9 1) hstatus).trans (wGet_wPut_same _ _ _ _ (by decide))
  · refine (congrArg (wGet · 12 4) hstatus).trans ((wGet_wPut_ne _ _ _ _ _ _ (by decide) (by decide)).trans ?_)
    exact wGet_and_zero _ _ _ _ (by decide)
  · simp only [List.mem_cons, List.not_mem_nil, or_false, not_or] at hr
    rw [rd_ssiEnable, rd_wr_ne _ _ _ _ hr.2, State.lower, rd_setF_ne _ _ _ _ hr.1, rd_wr_ne _ _ _ _ hr.1]

/-- A control register written on an enabled channel, with CODE and PAR guarded (R106). -/
def ssiCtlPut (n : Fin 4) (v : Word) (s : State) : State := writeGuarded (.FBK_SSI_CTL n) v 0x7000#32 (ssiIgn n) s

theorem ssiCtlPut_shows (n : Fin 4) (v : Word) (s : State) :
    let t := ssiCtlPut n v s
    t.flag (Fld.FBK_SSI_CTL_EN n) = v.getLsbD 0 ∧ t.f (Fld.FBK_SSI_STATUS_ERUN n) = s.f (Fld.FBK_SSI_STATUS_ERUN n) ∧ t.time = s.time ∧
      t.fbk = s.fbk ∧ s.keeps t [.FBK_SSI_CTL n, .FBK_SSI_STATUS n] ∧ s.keepsMem t := by
  intro t
  let w := (guardMask (s.rd (.FBK_SSI_CTL n)) (writeMerged s (.FBK_SSI_CTL n) v) 0x7000#32).1
  have hen : w.getLsbD 0 = v.getLsbD 0 :=
    getLsbD_of_wGet ((wGet_guardMask_out _ _ 12 3 0 1 (by decide) (by decide)).trans (wGet_ssiCtl_en s n v))
  have hput : (s.wr (.FBK_SSI_CTL n) w).flag (Fld.FBK_SSI_CTL_EN n) = v.getLsbD 0 :=
    (flag_eq_testBit _ _ _).trans ((congrArg (·.getLsbD 0) (rd_wr s _ w)).trans hen)
  have hkeep : s.keeps (s.wr (.FBK_SSI_CTL n) w) [.FBK_SSI_CTL n, .FBK_SSI_STATUS n] := keeps_wr s _ w (by simp)
  have ht : t = if (guardMask (s.rd (.FBK_SSI_CTL n)) (writeMerged s (.FBK_SSI_CTL n) v) 0x7000#32).2 then ssiIgn n (s.wr (.FBK_SSI_CTL n) w)
      else s.wr (.FBK_SSI_CTL n) w := writeGuarded_eq _ _ _ _ _
  rw [ht]
  split
  · refine ⟨?_, ?_, rfl, rfl, hkeep.trans (keeps_raise _ _ (by simp [Fld.FBK_SSI_STATUS_WR_IGN])), rfl, rfl⟩
    · exact (flag_congr _ (rd_raise_ne _ _ _ (by simp [Fld.FBK_SSI_CTL_EN, Fld.FBK_SSI_STATUS_WR_IGN]))).trans hput
    · exact (f_raise_apart _ _ 6 12 4 (by decide) (by decide)).trans (f_wr_ne s _ _ _ (by simp))
  · exact ⟨hput, f_wr_ne s _ _ _ (by simp [Fld.FBK_SSI_STATUS_ERUN]), rfl, rfl, hkeep, rfl, rfl⟩

/-- A channel as a write of EN = 0 leaves it: no frame is awaited, and the clock is high from the core cycle of the write on (R95). -/
def SsiCh.stopped (cyc : Nat) (c : SsiCh) : SsiCh := { c with frames := [], rise := min c.rise cyc, last := min c.last cyc }

/-- EN = 0 written during a burst (R95). -/
theorem ssiCtlWrite_stops (hon : s.flag (Fld.FBK_SSI_CTL_EN n) = true) (hv : v.getLsbD 0 = false) (hf : s.fbk.ssi[n].frames ≠ []) :
    ssiCtlWrite n v s = ssiBusy n ((ssiCtlPut n v s).modSsi n (·.stopped s.time)) := by
  obtain ⟨hoff, -, htime, hfbk, -, -⟩ := ssiCtlPut_shows n v s
  have hwas : s.ssiOn n = true := hon
  have hnow : (ssiCtlPut n v s).ssiOn n = false := hoff.trans hv
  have hbusy : (ssiCtlPut n v s).fbk.ssi[n].frames.isEmpty = false := by rw [hfbk]; simpa using hf
  have hput : ssiCtlWrite n v s = ssiStop n (ssiCtlPut n v s) := by
    unfold ssiCtlWrite
    simp only [hwas, hv, Bool.false_and, Bool.false_eq_true, ↓reduceIte, Bool.not_true]
    exact if_pos (by rw [← ssiCtlPut, hnow]; rfl)
  rw [hput, ssiStop, if_neg (by rw [hbusy]; exact Bool.false_ne_true), htime]
  rfl

theorem ssiCtlWrite_stops_shows (hon : s.flag (Fld.FBK_SSI_CTL_EN n) = true) (hv : v.getLsbD 0 = false) (hf : s.fbk.ssi[n].frames ≠ []) :
    let t := ssiCtlWrite n v s
    t.flag (Fld.FBK_SSI_CTL_EN n) = false ∧ t.fbk.ssi[n].frames = [] ∧ t.f (Fld.FBK_SSI_STATUS_ERUN n) = s.f (Fld.FBK_SSI_STATUS_ERUN n) ∧
      ssiClock t n s.time = true ∧ s.keeps t [.FBK_SSI_CTL n, .FBK_SSI_STATUS n] ∧ s.keepsMem t := by
  intro t
  have ht : t = _ := ssiCtlWrite_stops hon hv hf
  obtain ⟨hoff, herun, -, -, hkeep, hmem⟩ := ssiCtlPut_shows n v s
  rw [ht]
  refine ⟨?_, ?_, ?_, ?_, ?_, hmem⟩
  · exact (flag_congr _ (rd_setF_ne _ _ _ _ (by simp [Fld.FBK_SSI_CTL_EN, Fld.FBK_SSI_STATUS_BUSY]))).trans (hoff.trans hv)
  · exact congrArg SsiCh.frames (modSsi_ssi_same _ n _)
  · exact (f_setF_apart _ _ 8 1 _ 12 4 (by decide) (by decide)).trans herun
  · have hrise : (ssiBusy n ((ssiCtlPut n v s).modSsi n (·.stopped s.time))).fbk.ssi[n].rise ≤ s.time :=
      (congrArg SsiCh.rise (modSsi_ssi_same _ n _)).trans_le (min_le_right _ _)
    simp only [ssiClock, hrise, decide_true, Bool.true_or]
  · exact hkeep.trans (keeps_setF _ _ _ (by simp [Fld.FBK_SSI_STATUS_BUSY]))

end Write

/-! ## Triggers and bursts (R93, R99, R101) -/

/-- A channel's burst or its pause still runs in a core cycle (R99). -/
def ssiWaits (s : State) (n : Fin 4) (cyc : Nat) : Prop :=
  (s.fbk.ssi[n].frames ≠ [] ∨ s.fbk.ssi[n].pause = true) ∧
    (cyc < s.fbk.ssi[n].last ∨ cyc < s.fbk.ssi[n].rise + s.f (Fld.FBK_SSI_CLK_TM n) * 600)

/-- The burst that a trigger starts in a core cycle (R93, R94). -/
def ssiBurstOf (s : State) (n : Fin 4) (cyc : Nat) (ready : Bool) : SsiBurst :=
  let half := s.f (Fld.FBK_SSI_CLK_HDIV n) + 1
  let len := s.f (Fld.FBK_SSI_FRAME_FLEN n)
  ⟨cyc, cyc + len * (2 * half) - half, cyc + len * (2 * half) + s.f (Fld.FBK_SSI_LDC_LDC n), ready⟩

/-- A trigger starts a burst, or is lost (R99). -/
structure Triggered (n : Fin 4) (cyc : Nat) (ready : Bool) (s t : State) : Prop where
  time : t.time = s.time
  post : t.post = s.post
  keeps : s.keeps t [.FBK_SSI_STATUS n]
  mem : s.keepsMem t
  starts : ¬ ssiWaits s n cyc → t.flag (Fld.FBK_SSI_STATUS_BUSY n) = true ∧
    t.fbk.ssi[n].frames = s.fbk.ssi[n].frames ++ [ssiBurstOf s n cyc ready] ∧ t.fbk.ssi[n].pause = true ∧
    (t.fbk.ssi[n].t0, t.fbk.ssi[n].rise, t.fbk.ssi[n].last) =
      ((ssiBurstOf s n cyc ready).t0, (ssiBurstOf s n cyc ready).rise, (ssiBurstOf s n cyc ready).last)
  lost : ssiWaits s n cyc → t.flag (Fld.FBK_SSI_STATUS_TRG_LOST n) = true ∧ t.fbk.ssi[n].frames = s.fbk.ssi[n].frames

theorem ssiTrigger_eq (n : Fin 4) (cyc : Nat) (ready : Bool) (s : State) [Decidable (ssiWaits s n cyc)] :
    ssiTrigger n cyc ready s = if ssiWaits s n cyc then s.raise (Fld.FBK_SSI_STATUS_TRG_LOST n)
      else
        let b := ssiBurstOf s n cyc ready
        ssiBusy n (s.modSsi n fun c => { c with frames := c.frames ++ [b], pause := true, t0 := b.t0, rise := b.rise, last := b.last }) := by
  have hhalf : ssiPeriod s n / 2 = s.f (Fld.FBK_SSI_CLK_HDIV n) + 1 := Nat.mul_div_cancel_left _ (by decide)
  unfold ssiTrigger
  refine if_congr ?_ rfl ?_
  · simp only [ssiWaits, Bool.and_eq_true, Bool.or_eq_true, Bool.not_eq_true', List.isEmpty_eq_false_iff, decide_eq_true_eq]
    rfl
  · simp only [hhalf]
    rfl

theorem ssiTrigger_triggered (n : Fin 4) (cyc : Nat) (ready : Bool) (s : State) : Triggered n cyc ready s (ssiTrigger n cyc ready s) := by
  classical
  rw [ssiTrigger_eq]
  split
  · next hw =>
    refine ⟨rfl, rfl, keeps_raise _ _ (by simp [Fld.FBK_SSI_STATUS_TRG_LOST]), ⟨rfl, rfl⟩, fun h => absurd hw h, fun _ => ⟨?_, rfl⟩⟩
    exact (flag_eq_one_iff _ _ _).mpr (f_raise s (Fld.FBK_SSI_STATUS_TRG_LOST n) (by simp [Fld.FBK_SSI_STATUS_TRG_LOST]))
  · next hw =>
    refine ⟨rfl, rfl, keeps_setF _ _ _ (by simp [Fld.FBK_SSI_STATUS_BUSY]), ⟨rfl, rfl⟩, fun _ => ?_, fun h => absurd h hw⟩
    have hch := modSsi_ssi_same s n fun c => { c with
      frames := c.frames ++ [ssiBurstOf s n cyc ready], pause := true, t0 := (ssiBurstOf s n cyc ready).t0,
      rise := (ssiBurstOf s n cyc ready).rise, last := (ssiBurstOf s n cyc ready).last }
    refine ⟨?_, congrArg SsiCh.frames hch, congrArg SsiCh.pause hch, congrArg (fun c : SsiCh => (c.t0, c.rise, c.last)) hch⟩
    refine (flag_eq_one_iff _ _ _).mpr ((f_setF _ (Fld.FBK_SSI_STATUS_BUSY n) _ (by simp [Fld.FBK_SSI_STATUS_BUSY])).trans ?_)
    rw [hch]
    simp [bit, Fld.FBK_SSI_STATUS_BUSY]

end Sys2Proof.Machine
end

section
/-! PROOF. O14: SSI frames and the obligation. -/

namespace Sys2Proof.Machine

open Sys2Proof

/-! ## Frames of commands that may record a fault -/

theorem State.faultFrame.trans {s t u : State} {blocks : List Nat} (h : s.faultFrame t blocks) (k : t.faultFrame u blocks) :
    s.faultFrame u blocks := by
  obtain ⟨hout, hmem, hchk⟩ := h
  obtain ⟨kout, kmem, kchk⟩ := k
  exact ⟨fun r hr => (kout r hr).trans (hout r hr), fun a ha => (kmem a ha).trans (hmem a ha), kchk.trans hchk⟩

/-- Registers of the blocks named, and no memory. -/
theorem State.keeps.faultFrame {s t : State} {rs : List Reg} {blocks : List Nat} (h : s.keeps t rs) (hm : s.keepsMem t)
    (hrs : ∀ r ∈ rs, r.addr / 0x10000 ∈ blocks) : s.faultFrame t blocks :=
  ⟨fun r hr => h r fun hmem => hr (by simp [hrs r hmem]), fun a _ => by rw [hm.1], hm.2⟩

theorem addr_ssiStatus (n : Fin 4) : (Reg.FBK_SSI_STATUS n).addr / 0x10000 = 0x4003 := by simp only [Reg.addr]; omega

theorem Recorded.fbk {s t : State} (h : Recorded s t) : t.fbk = s.fbk := (congrArg State.fbk h.rest :)
theorem Recorded.man {s t : State} (h : Recorded s t) : t.man = s.man := (congrArg State.man h.rest :)
theorem Recorded.f {s t : State} (h : Recorded s t) {F : RF} (hF : F.reg.inRec = false) : t.f F = s.f F := f_congr F (h.regs _ hF)

/-! ## Triggers on their way -/

/-- The oldest entry of a number is taken, and the others stay (R99, R100). -/
theorem takeEv_append {α : Type} (k : Nat) (x : α) (before rest : List (Nat × α)) (h : ∀ e ∈ before, e.1 ≠ k) :
    takeEv k (before ++ (k, x) :: rest) = (some x, before ++ rest) := by
  induction before with
  | nil => exact if_pos rfl
  | cons e l ih =>
    obtain ⟨i, y⟩ := e
    have hi : i ≠ k := h (i, y) (by simp)
    simp only [List.cons_append, takeEv, hi, ↓reduceIte, ih fun e he => h e (by simp [he])]

/-- The periodic trigger that is next (R99): the only multiple of PERIOD after EN that is not past and less than a period away. -/
theorem ssiTick_eq {s : State} {n : Fin 4} {p cyc : Nat} (hp : 0 < p) (horg : s.fbk.ssi[n].org ≤ s.time) (hle : s.time ≤ cyc)
    (hlt : cyc < s.time + p) (hafter : s.fbk.ssi[n].org < cyc) (hmul : (cyc - s.fbk.ssi[n].org) % p = 0) : ssiTick s n p = cyc := by
  simp only [ssiTick]
  generalize s.fbk.ssi[n].org = org at *
  obtain ⟨k, hk⟩ := Nat.dvd_of_mod_eq_zero hmul
  have hk1 : 1 ≤ k := Nat.one_le_iff_ne_zero.mpr fun h => by rw [h] at hk; omega
  have hceil : (s.time - org + p - 1) / p = k := by
    refine Nat.div_eq_of_lt_le ?_ ?_
    · rw [Nat.mul_comm]; omega
    · rw [Nat.succ_mul, Nat.mul_comm]; omega
  rw [hceil, max_eq_right hk1, Nat.mul_comm, ← hk]
  omega

/-! ## The frame of a burst (R94, R96, R97, R98) -/

section Frame

variable {s t : State} {n : Fin 4}

theorem ssiParityBad_congr (h : s.keeps t [.FBK_SSI_STATUS n]) (raw : Nat) : ssiParityBad t n raw = ssiParityBad s n raw := by
  unfold ssiParityBad
  rw [h.f (F := Fld.FBK_SSI_FRAME_FLEN n) (by simp [Fld.FBK_SSI_FRAME_FLEN]), h.f (F := Fld.FBK_SSI_CTL_PAR n) (by simp [Fld.FBK_SSI_CTL_PAR])]

theorem ssiEncoderErr_congr (h : s.keeps t [.FBK_SSI_STATUS n]) (raw : Nat) : ssiEncoderErr t n raw = ssiEncoderErr s n raw := by
  unfold ssiEncoderErr
  rw [h.f (F := Fld.FBK_SSI_FRAME_FLEN n) (by simp [Fld.FBK_SSI_FRAME_FLEN]), h.f (F := Fld.FBK_SSI_ERR_ERR_BIT n) (by simp [Fld.FBK_SSI_ERR_ERR_BIT]),
    h.flag (F := Fld.FBK_SSI_ERR_ERR_POL n) (by simp [Fld.FBK_SSI_ERR_ERR_POL])]

theorem ssiSplit_congr (h : s.keeps t [.FBK_SSI_STATUS n]) (raw : Nat) : ssiSplit t n raw = ssiSplit s n raw := by
  unfold ssiSplit
  rw [h.f (F := Fld.FBK_SSI_FRAME_FLEN n) (by simp [Fld.FBK_SSI_FRAME_FLEN]), h.f (F := Fld.FBK_SSI_FRAME_POS_SH n) (by simp [Fld.FBK_SSI_FRAME_POS_SH]),
    h.f (F := Fld.FBK_SSI_FRAME_MT_BITS n) (by simp [Fld.FBK_SSI_FRAME_MT_BITS]),
    h.f (F := Fld.FBK_SSI_FRAME_ST_BITS n) (by simp [Fld.FBK_SSI_FRAME_ST_BITS]), h.flag (F := Fld.FBK_SSI_CTL_CODE n) (by simp [Fld.FBK_SSI_CTL_CODE])]

/-- The frame of the oldest burst taken from those that are awaited. -/
def ssiTaken (n : Fin 4) (b : SsiBurst) (rest : List SsiBurst) (s : State) : State :=
  ssiBusy n ((s.advance (b.last + 2)).modSsi n fun c => { c with frames := rest })

theorem ssiTaken_frames (n : Fin 4) (b : SsiBurst) (rest : List SsiBurst) (s : State) : (ssiTaken n b rest s).fbk.ssi[n].frames = rest :=
  congrArg SsiCh.frames (modSsi_ssi_same _ n _)

theorem ssiTaken_keeps (n : Fin 4) (b : SsiBurst) (rest : List SsiBurst) (s : State) : s.keeps (ssiTaken n b rest s) [.FBK_SSI_STATUS n] :=
  keeps_setF ((s.advance (b.last + 2)).modSsi n _) _ _ (by simp [Fld.FBK_SSI_STATUS_BUSY])

/-- Taking a frame changes of STATUS the bit BUSY alone. -/
theorem ssiTaken_status (n : Fin 4) (b : SsiBurst) (rest : List SsiBurst) (s : State) (lo width : Nat) (hfit : lo + width ≤ 32)
    (hd : lo + width ≤ 8 ∨ 9 ≤ lo) : (ssiTaken n b rest s).f ⟨.FBK_SSI_STATUS n, lo, width⟩ = s.f ⟨.FBK_SSI_STATUS n, lo, width⟩ :=
  f_setF_apart ((s.advance (b.last + 2)).modSsi n _) _ 8 1 _ lo width hfit hd

/-- A bit raised for a cause that may be there. -/
def State.raiseIf (s : State) (c : Bool) (F : RF) : State := if c then s.raise F else s

theorem raiseIf_cases (s : State) (c : Bool) (F : RF) : (c = false ∧ s.raiseIf c F = s) ∨ (c = true ∧ s.raiseIf c F = s.raise F) := by
  cases c
  · exact .inl ⟨rfl, rfl⟩
  · exact .inr ⟨rfl, rfl⟩

/-- The causes of a discarded frame (R98). -/
def ssiMarked (n : Fin 4) (notReady par enc : Bool) (s : State) : State :=
  ((s.raiseIf notReady (Fld.FBK_SSI_STATUS_NOT_READY n)).raiseIf par (Fld.FBK_SSI_STATUS_PAR_ERR n)).raiseIf enc (Fld.FBK_SSI_STATUS_ENC_ERR n)

theorem exec_ssiFrameComplete {b : SsiBurst} {rest : List SsiBurst} (h : s.fbk.ssi[n].frames = b :: rest) (raw : BitVec 48) :
    let w := raw.toNat % 2 ^ s.f (Fld.FBK_SSI_FRAME_FLEN n)
    let par := ssiParityBad s n w
    let enc := ssiEncoderErr s n w
    let u := ssiMarked n (!b.ready) par enc (ssiTaken n b rest s)
    exec (.ssiFrameComplete n raw) s = .next (if !b.ready || par || enc then ssiDiscard n u else ssiValid n b.t0 w u) := by
  intro w par enc u
  have hkeep := ssiTaken_keeps n b rest s
  have hlen : (ssiTaken n b rest s).f (Fld.FBK_SSI_FRAME_FLEN n) = s.f (Fld.FBK_SSI_FRAME_FLEN n) := hkeep.f (by simp [Fld.FBK_SSI_FRAME_FLEN])
  have hw : raw.toNat % 2 ^ (ssiTaken n b rest s).f (Fld.FBK_SSI_FRAME_FLEN n) = w := by rw [hlen]
  change execSsiFrameComplete n raw s = _
  unfold execSsiFrameComplete
  simp only [h, ← ssiTaken.eq_1, hw, ssiParityBad_congr hkeep, ssiEncoderErr_congr hkeep]
  rfl

end Frame

/-! ## The causes of a discarded frame -/

theorem raiseIf_keeps (s : State) (c : Bool) (F : RF) {rs : List Reg} (h : F.reg ∈ rs) : s.keeps (s.raiseIf c F) rs := by
  unfold State.raiseIf
  split
  · exact keeps_raise s F h
  · exact fun _ _ => rfl

theorem raiseIf_apart (s : State) (c : Bool) (r : Reg) (i lo width : Nat) (hfit : lo + width ≤ 32) (hd : lo + width ≤ i ∨ i + 1 ≤ lo) :
    (s.raiseIf c ⟨r, i, 1⟩).f ⟨r, lo, width⟩ = s.f ⟨r, lo, width⟩ := by
  unfold State.raiseIf
  split
  · exact f_raise_apart s r i lo width hfit hd
  · rfl

theorem f_raiseIf (s : State) (F : RF) (h : F.lo + F.width ≤ 32) : (s.raiseIf true F).f F = 1 % 2 ^ F.width := f_raise s F h

section Causes

variable (n : Fin 4) (notReady par enc : Bool) (s : State)

theorem ssiMarked_none : ssiMarked n false false false s = s := rfl

theorem ssiMarked_keeps : s.keeps (ssiMarked n notReady par enc s) [.FBK_SSI_STATUS n] :=
  ((raiseIf_keeps s notReady _ (by simp [Fld.FBK_SSI_STATUS_NOT_READY])).trans (raiseIf_keeps _ par _ (by simp [Fld.FBK_SSI_STATUS_PAR_ERR]))).trans
    (raiseIf_keeps _ enc _ (by simp [Fld.FBK_SSI_STATUS_ENC_ERR]))

/-- The fields of STATUS above the sticky bits stay. -/
theorem ssiMarked_above (lo width : Nat) (hfit : lo + width ≤ 32) (hlo : 4 ≤ lo) :
    (ssiMarked n notReady par enc s).f ⟨.FBK_SSI_STATUS n, lo, width⟩ = s.f ⟨.FBK_SSI_STATUS n, lo, width⟩ := by
  unfold ssiMarked
  exact (raiseIf_apart _ _ _ 2 _ _ hfit (by omega)).trans ((raiseIf_apart _ _ _ 1 _ _ hfit (by omega)).trans (raiseIf_apart _ _ _ 3 _ _ hfit (by omega)))

theorem ssiMarked_notReady : (ssiMarked n true par enc s).f (Fld.FBK_SSI_STATUS_NOT_READY n) = 1 :=
  (raiseIf_apart _ _ _ 2 3 1 (by decide) (by decide)).trans ((raiseIf_apart _ _ _ 1 3 1 (by decide) (by decide)).trans (f_raiseIf s _ (show 3 + 1 ≤ 32 by decide)))

theorem ssiMarked_parErr : (ssiMarked n notReady true enc s).f (Fld.FBK_SSI_STATUS_PAR_ERR n) = 1 :=
  (raiseIf_apart _ _ _ 2 1 1 (by decide) (by decide)).trans (f_raiseIf _ _ (by simp [Fld.FBK_SSI_STATUS_PAR_ERR]))

theorem ssiMarked_encErr : (ssiMarked n notReady par true s).f (Fld.FBK_SSI_STATUS_ENC_ERR n) = 1 := f_raiseIf _ _ (by simp [Fld.FBK_SSI_STATUS_ENC_ERR])

theorem ssiMarked_same {α : Type} (part : State → α) (h : ∀ (u : State) (F : RF), part (u.raise F) = part u) :
    part (ssiMarked n notReady par enc s) = part s := by
  have hif (u : State) (c : Bool) (F : RF) : part (u.raiseIf c F) = part u := by
    rcases raiseIf_cases u c F with ⟨-, e⟩ | ⟨-, e⟩ <;> rw [e]
    exact h u F
  exact (hif _ _ _).trans ((hif _ _ _).trans (hif _ _ _))

end Causes

/-! ## A valid frame (R97) -/

/-- The stamp of a frame of a burst that began in core cycle `t0`. -/
def ssiStamp (n : Fin 4) (t0 : Nat) (s : State) : Nat := (t0 + s.f (Fld.FBK_SSI_LDC_LAT_OFS n)) * 16 + s.f (Fld.FBK_SSI_LDC_LDC n) * 8

/-- The event of a valid frame. -/
def ssiSampled (n : Fin 4) (t0 raw : Nat) (s : State) : GenEv :=
  .sampled (BitVec.ofNat 32 ((ssiSplit s n raw).2 * 2 ^ (32 - s.f (Fld.FBK_SSI_FRAME_ST_BITS n)))) (ssiStamp n t0 s)

/-- The record of a valid frame. -/
def ssiFrameOf (n : Fin 4) (t0 raw : Nat) (s : State) (c : SsiCh) : SsiCh :=
  { c with mt := BitVec.ofNat 32 (ssiSplit s n raw).1, raw := BitVec.ofNat 48 raw, stamp := ssiStamp n t0 s }

/-- A valid frame stored, before its event is posted. -/
def ssiStored (n : Fin 4) (t0 raw : Nat) (s : State) : State :=
  let u := ((s.modSsi n (ssiFrameOf n t0 raw s)).setF (Fld.FBK_SSI_ST_ST n) (ssiSplit s n raw).2).raise (Fld.FBK_SSI_STATUS_FRAME n)
  (u.wr (.FBK_SSI_FRAMES n) (u.rd (.FBK_SSI_FRAMES n) + 1#32)).setF (Fld.FBK_SSI_STATUS_ERUN n) 0

section Valid

variable (n : Fin 4) (t0 raw : Nat) (s : State)

theorem ssiStored_keeps : s.keeps (ssiStored n t0 raw s) [.FBK_SSI_ST n, .FBK_SSI_STATUS n, .FBK_SSI_FRAMES n] := by
  let u := s.modSsi n (ssiFrameOf n t0 raw s)
  have hu : s.keeps u [.FBK_SSI_ST n, .FBK_SSI_STATUS n, .FBK_SSI_FRAMES n] := keeps_of_regs _ rfl
  exact (((hu.trans (keeps_setF u _ _ (by simp [Fld.FBK_SSI_ST_ST]))).trans (keeps_raise _ _ (by simp [Fld.FBK_SSI_STATUS_FRAME]))).trans
    (keeps_wr _ _ _ (by simp))).trans (keeps_setF _ _ _ (by simp [Fld.FBK_SSI_STATUS_ERUN]))

theorem ssiStored_st : (ssiStored n t0 raw s).f (Fld.FBK_SSI_ST_ST n) = (ssiSplit s n raw).2 % 2 ^ 24 := by
  refine (f_setF_reg _ _ _ _ ?_).trans ((f_wr_ne _ _ _ _ ?_).trans ((f_raise_reg _ _ _ ?_).trans (f_setF _ (Fld.FBK_SSI_ST_ST n) _ ?_))) <;>
    simp [Fld.FBK_SSI_ST_ST, Fld.FBK_SSI_STATUS_ERUN, Fld.FBK_SSI_STATUS_FRAME]

theorem ssiStored_frame : (ssiStored n t0 raw s).f (Fld.FBK_SSI_STATUS_FRAME n) = 1 :=
  (f_setF_apart _ _ 12 4 _ 0 1 (by decide) (by decide)).trans
    ((f_wr_ne _ _ _ _ (by simp)).trans (f_raise _ (Fld.FBK_SSI_STATUS_FRAME n) (show 0 + 1 ≤ 32 by decide)))

theorem ssiStored_frameCount : (ssiStored n t0 raw s).rd (.FBK_SSI_FRAMES n) = s.rd (.FBK_SSI_FRAMES n) + 1#32 := by
  let u := s.modSsi n (ssiFrameOf n t0 raw s)
  have hu : ((u.setF (Fld.FBK_SSI_ST_ST n) (ssiSplit s n raw).2).raise (Fld.FBK_SSI_STATUS_FRAME n)).rd (.FBK_SSI_FRAMES n) = u.rd (.FBK_SSI_FRAMES n) :=
    (rd_raise_ne _ _ _ (by simp [Fld.FBK_SSI_STATUS_FRAME])).trans (rd_setF_ne u _ _ _ (by simp [Fld.FBK_SSI_ST_ST]))
  exact (rd_setF_ne _ _ _ _ (by simp [Fld.FBK_SSI_STATUS_ERUN])).trans ((rd_wr _ _ _).trans (congrArg (· + 1#32) hu))

theorem ssiStored_erun : (ssiStored n t0 raw s).f (Fld.FBK_SSI_STATUS_ERUN n) = 0 := f_setF _ _ 0 (by simp [Fld.FBK_SSI_STATUS_ERUN])

theorem ssiStored_failed : (ssiStored n t0 raw s).flag (Fld.FBK_SSI_STATUS_FAILED n) = s.flag (Fld.FBK_SSI_STATUS_FAILED n) := by
  let u := s.modSsi n (ssiFrameOf n t0 raw s)
  have hf : (ssiStored n t0 raw s).f (Fld.FBK_SSI_STATUS_FAILED n) = u.f (Fld.FBK_SSI_STATUS_FAILED n) :=
    (f_setF_apart _ _ 12 4 _ 9 1 (by decide) (by decide)).trans ((f_wr_ne _ _ _ _ (by simp)).trans
      ((f_raise_apart _ _ 0 9 1 (by decide) (by decide)).trans (f_setF_reg u _ _ _ (by simp [Fld.FBK_SSI_ST_ST]))))
  exact congrArg (· != 0) hf

theorem ssiStored_record : (ssiStored n t0 raw s).fbk.ssi[n] = ssiFrameOf n t0 raw s s.fbk.ssi[n] := modSsi_ssi_same s n _

theorem ssiValid_eq : ssiValid n t0 raw s = if s.flag (Fld.FBK_SSI_STATUS_FAILED n) then ssiStored n t0 raw s
    else postGen 2 n.val (ssiSampled n t0 raw s) (ssiStored n t0 raw s) := by
  have hlen : (ssiStored n t0 raw s).f (Fld.FBK_SSI_FRAME_ST_BITS n) = s.f (Fld.FBK_SSI_FRAME_ST_BITS n) :=
    (ssiStored_keeps n t0 raw s).f (by simp [Fld.FBK_SSI_FRAME_ST_BITS])
  have hdef : ssiValid n t0 raw s = if (ssiStored n t0 raw s).flag (Fld.FBK_SSI_STATUS_FAILED n) then ssiStored n t0 raw s
      else postGen 2 n.val (.sampled (BitVec.ofNat 32 ((ssiSplit s n raw).2 * 2 ^ (32 - (ssiStored n t0 raw s).f (Fld.FBK_SSI_FRAME_ST_BITS n))))
        (ssiStamp n t0 s)) (ssiStored n t0 raw s) := by
    unfold ssiValid ssiStored ssiFrameOf
    generalize ssiSplit s n raw = parts
    rfl
  rw [hdef, ssiStored_failed, hlen, ssiSampled]

/-- But for the generators, a valid frame leaves what its storing leaves. -/
theorem ssiValid_same {α : Type} (part : State → α) (h : ∀ u : State, part u.sansMan = part u) :
    part (ssiValid n t0 raw s) = part (ssiStored n t0 raw s) := by
  rw [ssiValid_eq]
  split
  · rfl
  · exact postGen_same part h _ _ _ _

theorem ssiValid_keeps : s.keeps (ssiValid n t0 raw s) [.FBK_SSI_ST n, .FBK_SSI_STATUS n, .FBK_SSI_FRAMES n] :=
  (ssiStored_keeps n t0 raw s).trans (keeps_of_regs _ (ssiValid_same n t0 raw s State.regs fun _ => rfl))

/-- A valid frame passes its value to the generators that follow the channel, unless the channel has failed. -/
theorem ssiValid_inbox (m : Fin 8) (hok : s.flag (Fld.FBK_SSI_STATUS_FAILED n) = false) (hm : follows 2 n.val s m = true) :
    ((ssiValid n t0 raw s).gen m).inbox = (s.gen m).inbox ++ [(ssiSampled n t0 raw s, s.time)] := by
  have hkeep := ssiStored_keeps n t0 raw s
  have hen : (ssiStored n t0 raw s).flag (Fld.MAN_AG_CTL_EN m) = s.flag (Fld.MAN_AG_CTL_EN m) := hkeep.flag (by simp [Fld.MAN_AG_CTL_EN])
  have hsrc : (ssiStored n t0 raw s).gSrc m = s.gSrc m := hkeep.f (by simp [Fld.MAN_AG_CTL_SRC])
  have hch : (ssiStored n t0 raw s).f (Fld.MAN_AG_CTL_SRC_CH m) = s.f (Fld.MAN_AG_CTL_SRC_CH m) := hkeep.f (by simp [Fld.MAN_AG_CTL_SRC_CH])
  have hfollows : follows 2 n.val (ssiStored n t0 raw s) m = true := by rw [← hm, follows, hen, hsrc, hch]; rfl
  rw [ssiValid_eq, if_neg (by rw [hok]; exact Bool.false_ne_true), (postGen_shows _ _ _ _).2 m, hfollows]
  rfl

end Valid

/-! ## A discarded frame (R98) -/

theorem sat_eq_min (m k : Nat) : sat m k = min m k := by
  unfold sat
  split <;> omega

theorem sat_lt {m k b : Nat} (h : m < b) : sat m k < b := by
  rw [sat_eq_min]
  omega

/-- The channel fails at ELIM. -/
def ssiFail (n : Fin 4) (s : State) : State := (s.raise (Fld.FBK_SSI_STATUS_ELIMIT n)).raise (Fld.FBK_SSI_STATUS_FAILED n)

theorem ssiFail_keeps (n : Fin 4) (s : State) : s.keeps (ssiFail n s) [.FBK_SSI_STATUS n] :=
  (keeps_raise s _ (by simp [Fld.FBK_SSI_STATUS_ELIMIT])).trans (keeps_raise _ _ (by simp [Fld.FBK_SSI_STATUS_FAILED]))

theorem ssiFail_apart (n : Fin 4) (s : State) (lo width : Nat) (hfit : lo + width ≤ 32) (hd : lo + width ≤ 5 ∨ 10 ≤ lo) :
    (ssiFail n s).f ⟨.FBK_SSI_STATUS n, lo, width⟩ = s.f ⟨.FBK_SSI_STATUS n, lo, width⟩ :=
  (f_raise_apart _ _ 9 _ _ hfit (by omega)).trans (f_raise_apart _ _ 5 _ _ hfit (by omega))

theorem ssiDiscard_eq (n : Fin 4) (s : State) : ssiDiscard n s =
    let u := recordFault 0x2108 (s.setF (Fld.FBK_SSI_STATUS_ERUN n) (sat 15 (s.f (Fld.FBK_SSI_STATUS_ERUN n) + 1)))
    if s.f (Fld.FBK_SSI_STATUS_ERUN n) + 1 = u.f (Fld.FBK_SSI_ERR_ELIM n) then recordFault 0x2209 (ssiFail n u) else u := rfl

section Discard

variable {n : Fin 4} {s : State}

/-- What a discarded frame leaves and what it changes, while no discharge runs. -/
theorem ssiDiscard_shows (hd : s.dsgRun = false) :
    let t := ssiDiscard n s
    t.fbk = s.fbk ∧ t.man = s.man ∧ t.f (Fld.FBK_SSI_STATUS_ERUN n) = min 15 (s.f (Fld.FBK_SSI_STATUS_ERUN n) + 1) ∧
      (s.f (Fld.FBK_SSI_STATUS_ERUN n) + 1 = s.f (Fld.FBK_SSI_ERR_ELIM n) → t.f (Fld.FBK_SSI_STATUS_FAILED n) = 1) ∧
      (∀ lo width, lo + width ≤ 5 → t.f ⟨.FBK_SSI_STATUS n, lo, width⟩ = s.f ⟨.FBK_SSI_STATUS n, lo, width⟩) ∧
      (∀ r, r ≠ .FBK_SSI_STATUS n → r.inRec = false → t.rd r = s.rd r) ∧ s.faultFrame t [0x4003] := by
  intro t
  let u := s.setF (Fld.FBK_SSI_STATUS_ERUN n) (sat 15 (s.f (Fld.FBK_SSI_STATUS_ERUN n) + 1))
  have hkeep : s.keeps u [.FBK_SSI_STATUS n] := keeps_setF s _ _ (by simp [Fld.FBK_SSI_STATUS_ERUN])
  have hdu : u.dsgRun = false := (dsgRun_congr (hkeep _ (by simp))).trans hd
  have hrec : Recorded u (recordFault 0x2108 u) := recordFault_recorded _ u (by decide) (by decide) hdu
  have herun : (recordFault 0x2108 u).f (Fld.FBK_SSI_STATUS_ERUN n) = min 15 (s.f (Fld.FBK_SSI_STATUS_ERUN n) + 1) :=
    (hrec.f rfl).trans ((f_setF s _ _ (by simp [Fld.FBK_SSI_STATUS_ERUN])).trans
      ((Nat.mod_eq_of_lt (sat_lt (show 15 < 2 ^ 4 by decide))).trans (sat_eq_min _ _)))
  have helim : (recordFault 0x2108 u).f (Fld.FBK_SSI_ERR_ELIM n) = s.f (Fld.FBK_SSI_ERR_ELIM n) :=
    (hrec.f rfl).trans (hkeep.f (by simp [Fld.FBK_SSI_ERR_ELIM]))
  have hlow (lo width : Nat) (hfit : lo + width ≤ 5) :
      (recordFault 0x2108 u).f ⟨.FBK_SSI_STATUS n, lo, width⟩ = s.f ⟨.FBK_SSI_STATUS n, lo, width⟩ :=
    (hrec.f rfl).trans (f_setF_apart s _ 12 4 _ lo width (by omega) (by omega))
  have hregs (r : Reg) (hr : r ≠ .FBK_SSI_STATUS n) (hi : r.inRec = false) : (recordFault 0x2108 u).rd r = s.rd r :=
    (hrec.regs r hi).trans (hkeep r (by simpa using hr))
  have hblock : ∀ r ∈ [Reg.FBK_SSI_STATUS n], r.addr / 0x10000 ∈ [0x4003] := by simp [addr_ssiStatus]
  have hframe : s.faultFrame (recordFault 0x2108 u) [0x4003] := (hkeep.faultFrame ⟨rfl, rfl⟩ hblock).trans (hrec.faultFrame _)
  have ht : t = if s.f (Fld.FBK_SSI_STATUS_ERUN n) + 1 = (recordFault 0x2108 u).f (Fld.FBK_SSI_ERR_ELIM n) then
      recordFault 0x2209 (ssiFail n (recordFault 0x2108 u)) else recordFault 0x2108 u := ssiDiscard_eq n s
  rw [helim] at ht
  by_cases hlim : s.f (Fld.FBK_SSI_STATUS_ERUN n) + 1 = s.f (Fld.FBK_SSI_ERR_ELIM n)
  · rw [if_pos hlim] at ht
    let v := ssiFail n (recordFault 0x2108 u)
    have hfail := ssiFail_keeps n (recordFault 0x2108 u)
    have hdv : v.dsgRun = false := (dsgRun_congr (hfail _ (by simp))).trans ((dsgRun_congr (hrec.regs _ rfl)).trans hdu)
    have hrec' : Recorded v (recordFault 0x2209 v) := recordFault_recorded _ v (by decide) (by decide) hdv
    rw [ht]
    refine ⟨hrec'.fbk.trans hrec.fbk, hrec'.man.trans hrec.man, ?_, fun _ => ?_, fun lo width hfit => ?_, fun r hr hi => ?_, ?_⟩
    · exact (hrec'.f rfl).trans ((ssiFail_apart n _ 12 4 (by decide) (by decide)).trans herun)
    · exact (hrec'.f rfl).trans (f_raise _ (Fld.FBK_SSI_STATUS_FAILED n) (by simp [Fld.FBK_SSI_STATUS_FAILED]))
    · exact (hrec'.f rfl).trans ((ssiFail_apart n _ lo width (by omega) (.inl hfit)).trans (hlow lo width hfit))
    · exact (hrec'.regs r hi).trans ((hfail r (by simpa using hr)).trans (hregs r hr hi))
    · exact hframe.trans ((hfail.faultFrame ⟨rfl, rfl⟩ hblock).trans (hrec'.faultFrame _))
  · rw [if_neg hlim] at ht
    rw [ht]
    exact ⟨hrec.fbk, hrec.man, herun, fun h => absurd h hlim, hlow, hregs, hframe⟩

end Discard

/-! ## The commands of a channel -/

section Commands

variable {s : State} {n : Fin 4}

/-- A burst starts from a state that shows the channel as another does, in the core cycle of its trigger (R99). -/
theorem Triggered.starts_from {u t : State} {cyc : Nat} {ready : Bool} (h : Triggered n cyc ready u t) (hr : u.regs = s.regs)
    (hc : (u.fbk.ssi[n].frames, u.fbk.ssi[n].pause, u.fbk.ssi[n].rise, u.fbk.ssi[n].last) =
      (s.fbk.ssi[n].frames, s.fbk.ssi[n].pause, s.fbk.ssi[n].rise, s.fbk.ssi[n].last)) :
    (¬ ssiWaits s n cyc → t.flag (Fld.FBK_SSI_STATUS_BUSY n) = true ∧
      t.fbk.ssi[n].frames = s.fbk.ssi[n].frames ++ [ssiBurstOf s n cyc ready] ∧ t.fbk.ssi[n].pause = true ∧
      (t.fbk.ssi[n].t0, t.fbk.ssi[n].rise, t.fbk.ssi[n].last) =
        ((ssiBurstOf s n cyc ready).t0, (ssiBurstOf s n cyc ready).rise, (ssiBurstOf s n cyc ready).last)) ∧
    (ssiWaits s n cyc → t.flag (Fld.FBK_SSI_STATUS_TRG_LOST n) = true ∧ t.fbk.ssi[n].frames = s.fbk.ssi[n].frames) := by
  simp only [Prod.mk.injEq] at hc
  obtain ⟨hframes, hpause, hrise, hlast⟩ := hc
  have hf (F : RF) : u.f F = s.f F := by simp only [State.f, State.rd, hr]
  have hwaits : ssiWaits u n cyc ↔ ssiWaits s n cyc := by simp only [ssiWaits, hframes, hpause, hrise, hlast, hf]
  have hburst : ssiBurstOf u n cyc ready = ssiBurstOf s n cyc ready := by simp only [ssiBurstOf, hf]
  refine ⟨fun hw => ?_, fun hw => ?_⟩
  · have hs := h.starts fun k => hw (hwaits.mp k)
    rwa [hburst, hframes] at hs
  · have hl := h.lost (hwaits.mpr hw)
    rwa [hframes] at hl

/-- SSI_BURST_START of a trigger that waits. -/
theorem exec_ssiBurstStart_waiting {before rest : List (Nat × Nat × Nat)} {at_ cyc : Nat} (ready : Bool)
    (hon : s.flag (Fld.FBK_SSI_CTL_EN n) = true) (htrg : s.f (Fld.FBK_SSI_CTL_TRG n) ≠ 5) (hp : s.post.ssi = before ++ (n.val, at_, cyc) :: rest)
    (hb : ∀ e ∈ before, e.1 ≠ n.val) :
    exec (.ssiBurstStart n ready) s = .next (ssiTrigger n cyc ready ((s.advance cyc).modPost fun p => { p with ssi := before ++ rest })) := by
  have hs : s.ssiOn n = true := hon
  change execSsiBurstStart n ready s = _
  unfold execSsiBurstStart
  simp only [hs, htrg, hp, takeEv_append _ _ _ _ hb, Bool.not_true, Bool.false_eq_true, ↓reduceIte]

/-- The state of a channel with PERIOD counted from a core cycle. -/
def SsiCh.countedFrom (cyc : Nat) (c : SsiCh) : SsiCh := { c with org := cyc }

/-- SSI_BURST_START of the trigger of a multiple of PERIOD. -/
theorem exec_ssiBurstStart_periodic {cyc : Nat} (ready : Bool) (hon : s.flag (Fld.FBK_SSI_CTL_EN n) = true)
    (htrg : s.f (Fld.FBK_SSI_CTL_TRG n) = 5) (hper : 0 < s.f (Fld.FBK_SSI_PERIOD_PERIOD n))
    (htick : ssiTick s n (s.f (Fld.FBK_SSI_PERIOD_PERIOD n)) = cyc) :
    exec (.ssiBurstStart n ready) s = .next (ssiTrigger n cyc ready ((s.advance cyc).modSsi n (·.countedFrom cyc))) := by
  have hs : s.ssiOn n = true := hon
  change execSsiBurstStart n ready s = _
  unfold execSsiBurstStart
  simp only [hs, htrg, htick, hper.ne', Bool.not_true, Bool.false_eq_true, ↓reduceIte]
  rfl

theorem flag_ssiBusy (n : Fin 4) (s : State) :
    (ssiBusy n s).flag (Fld.FBK_SSI_STATUS_BUSY n) = (!s.fbk.ssi[n].frames.isEmpty || s.fbk.ssi[n].pause) := by
  have hf : (ssiBusy n s).f (Fld.FBK_SSI_STATUS_BUSY n) = bit (!s.fbk.ssi[n].frames.isEmpty || s.fbk.ssi[n].pause) % 2 ^ 1 :=
    f_setF s (Fld.FBK_SSI_STATUS_BUSY n) _ (show 8 + 1 ≤ 32 by decide)
  rw [State.flag, hf]
  cases !s.fbk.ssi[n].frames.isEmpty || s.fbk.ssi[n].pause <;> rfl

theorem exec_ssiPauseEnd (hp : s.fbk.ssi[n].pause = true) :
    exec (.ssiPauseEnd n) s =
      .next (ssiBusy n ((s.advance (s.fbk.ssi[n].rise + s.f (Fld.FBK_SSI_CLK_TM n) * 600)).modSsi n fun c => { c with pause := false })) := by
  change execSsiPauseEnd n s = _
  unfold execSsiPauseEnd
  simp only [hp, ↓reduceIte]
  rfl

/-- The bits of a frame that a burst's raw word holds. -/
def ssiWord (s : State) (n : Fin 4) (raw : BitVec 48) : Nat := raw.toNat % 2 ^ s.f (Fld.FBK_SSI_FRAME_FLEN n)

/-- A frame without error completes (R97). -/
theorem ssiFrameComplete_valid {b : SsiBurst} {rest : List SsiBurst} (h : s.fbk.ssi[n].frames = b :: rest) (raw : BitVec 48)
    (hready : b.ready = true) (hpar : ssiParityBad s n (ssiWord s n raw) = false) (henc : ssiEncoderErr s n (ssiWord s n raw) = false) :
    gives (.ssiFrameComplete n raw) s fun t =>
      t.f (Fld.FBK_SSI_ST_ST n) = (ssiSplit s n (ssiWord s n raw)).2 % 2 ^ 24 ∧ t.f (Fld.FBK_SSI_STATUS_FRAME n) = 1 ∧
      t.rd (.FBK_SSI_FRAMES n) = s.rd (.FBK_SSI_FRAMES n) + 1#32 ∧ t.f (Fld.FBK_SSI_STATUS_ERUN n) = 0 ∧
      t.fbk.ssi[n].stamp = ssiStamp n b.t0 s ∧ t.fbk.ssi[n].frames = rest ∧ t.time = max s.time (b.last + 2) ∧
      (∀ m, s.flag (Fld.FBK_SSI_STATUS_FAILED n) = false → follows 2 n.val s m = true →
        (t.gen m).inbox = (s.gen m).inbox ++ [(ssiSampled n b.t0 (ssiWord s n raw) s, t.time)]) ∧
      s.keeps t [.FBK_SSI_ST n, .FBK_SSI_STATUS n, .FBK_SSI_FRAMES n] ∧ s.keepsMem t := by
  let z := ssiTaken n b rest s
  have hkeep : s.keeps z [.FBK_SSI_STATUS n] := ssiTaken_keeps n b rest s
  let u := ssiStored n b.t0 (ssiWord s n raw) z
  have hexec : exec (.ssiFrameComplete n raw) s = .next (ssiValid n b.t0 (ssiWord s n raw) z) := by
    have hcase := exec_ssiFrameComplete h raw
    simp only [← ssiWord.eq_1, hready, hpar, henc, Bool.not_true, Bool.or_false, Bool.false_eq_true, ↓reduceIte, ssiMarked_none] at hcase
    exact hcase
  have hsame {α : Type} (part : State → α) (hpart : ∀ v : State, part v.sansMan = part v) :
      part (ssiValid n b.t0 (ssiWord s n raw) z) = part u := ssiValid_same n b.t0 _ z part hpart
  have hsplit : ssiSplit z n (ssiWord s n raw) = ssiSplit s n (ssiWord s n raw) := ssiSplit_congr hkeep _
  have hstamp : ssiStamp n b.t0 z = ssiStamp n b.t0 s := by
    rw [ssiStamp, hkeep.f (F := Fld.FBK_SSI_LDC_LAT_OFS n) (by simp [Fld.FBK_SSI_LDC_LAT_OFS]),
      hkeep.f (F := Fld.FBK_SSI_LDC_LDC n) (by simp [Fld.FBK_SSI_LDC_LDC])]
    rfl
  have hevent : ssiSampled n b.t0 (ssiWord s n raw) z = ssiSampled n b.t0 (ssiWord s n raw) s := by
    rw [ssiSampled, hsplit, hstamp, hkeep.f (F := Fld.FBK_SSI_FRAME_ST_BITS n) (by simp [Fld.FBK_SSI_FRAME_ST_BITS])]
    rfl
  have hrecord : u.fbk.ssi[n] = ssiFrameOf n b.t0 (ssiWord s n raw) z z.fbk.ssi[n] := ssiStored_record n b.t0 _ z
  refine ⟨_, hexec, ?_, ?_, ?_, ?_, ?_, ?_, ?_, fun m hok hm => ?_, ?_, ?_, ?_⟩
  · rw [hsame (·.f (Fld.FBK_SSI_ST_ST n)) fun _ => rfl, ssiStored_st, hsplit]
  · rw [hsame (·.f (Fld.FBK_SSI_STATUS_FRAME n)) fun _ => rfl, ssiStored_frame]
  · rw [hsame (·.rd (.FBK_SSI_FRAMES n)) fun _ => rfl, ssiStored_frameCount, hkeep _ (by simp)]
  · rw [hsame (·.f (Fld.FBK_SSI_STATUS_ERUN n)) fun _ => rfl, ssiStored_erun]
  · rw [hsame State.fbk fun _ => rfl, hrecord]
    exact hstamp
  · rw [hsame State.fbk fun _ => rfl, hrecord]
    exact ssiTaken_frames n b rest s
  · exact hsame State.time fun _ => rfl
  · have hokz : z.flag (Fld.FBK_SSI_STATUS_FAILED n) = false :=
      (congrArg (· != 0) (ssiTaken_status n b rest s 9 1 (by decide) (by decide))).trans hok
    have hmz : follows 2 n.val z m = true := by
      obtain ⟨hen, hsrc, hch⟩ := (follows_iff 2 n.val s m).mp hm
      exact (follows_iff 2 n.val z m).mpr ⟨(hkeep.flag (by simp [Fld.MAN_AG_CTL_EN])).trans hen,
        (hkeep.f (F := Fld.MAN_AG_CTL_SRC m) (by simp [Fld.MAN_AG_CTL_SRC])).trans hsrc, (hkeep.f (by simp [Fld.MAN_AG_CTL_SRC_CH])).trans hch⟩
    rw [ssiValid_inbox n b.t0 _ z m hokz hmz, hevent, hsame State.time fun _ => rfl]
    rfl
  · exact State.keeps.trans (fun r hr => hkeep r (by simp at hr ⊢; exact hr.2.1)) (ssiValid_keeps n b.t0 _ z)
  · exact hsame State.mem fun _ => rfl
  · exact hsame State.chk fun _ => rfl

/-- A frame with an error completes while no discharge runs (R98). -/
theorem ssiFrameComplete_discarded {b : SsiBurst} {rest : List SsiBurst} (h : s.fbk.ssi[n].frames = b :: rest) (raw : BitVec 48)
    (hd : s.dsgRun = false)
    (hbad : (!b.ready || ssiParityBad s n (ssiWord s n raw) || ssiEncoderErr s n (ssiWord s n raw)) = true) :
    gives (.ssiFrameComplete n raw) s fun t =>
      t.fbk.ssi[n].frames = rest ∧ (b.ready = false → t.f (Fld.FBK_SSI_STATUS_NOT_READY n) = 1) ∧
      (ssiParityBad s n (ssiWord s n raw) = true → t.f (Fld.FBK_SSI_STATUS_PAR_ERR n) = 1) ∧
      (ssiEncoderErr s n (ssiWord s n raw) = true → t.f (Fld.FBK_SSI_STATUS_ENC_ERR n) = 1) ∧
      t.f (Fld.FBK_SSI_STATUS_ERUN n) = min 15 (s.f (Fld.FBK_SSI_STATUS_ERUN n) + 1) ∧
      (s.f (Fld.FBK_SSI_STATUS_ERUN n) + 1 = s.f (Fld.FBK_SSI_ERR_ELIM n) → t.f (Fld.FBK_SSI_STATUS_FAILED n) = 1) ∧
      t.rd (.FBK_SSI_ST n) = s.rd (.FBK_SSI_ST n) ∧ t.rd (.FBK_SSI_FRAMES n) = s.rd (.FBK_SSI_FRAMES n) ∧ t.man = s.man ∧
      s.faultFrame t [0x4003] := by
  let z := ssiTaken n b rest s
  let u := ssiMarked n (!b.ready) (ssiParityBad s n (ssiWord s n raw)) (ssiEncoderErr s n (ssiWord s n raw)) z
  have hexec : exec (.ssiFrameComplete n raw) s = .next (ssiDiscard n u) := by
    have hcase := exec_ssiFrameComplete h raw
    simp only [← ssiWord.eq_1, hbad, ↓reduceIte] at hcase
    exact hcase
  have hkeep : s.keeps u [.FBK_SSI_STATUS n] := (ssiTaken_keeps n b rest s).trans (ssiMarked_keeps n _ _ _ z)
  have hsame {α : Type} (part : State → α) (hpart : ∀ (v : State) (F : RF), part (v.raise F) = part v) : part u = part z :=
    ssiMarked_same n _ _ _ z part hpart
  obtain ⟨hfbk, hman, herun, helim, hlow, hregs, hframe⟩ := ssiDiscard_shows (n := n) (s := u) ((dsgRun_congr (hkeep _ (by simp))).trans hd)
  have hrun : u.f (Fld.FBK_SSI_STATUS_ERUN n) = s.f (Fld.FBK_SSI_STATUS_ERUN n) :=
    (ssiMarked_above n _ _ _ z 12 4 (by decide) (by decide)).trans (ssiTaken_status n b rest s 12 4 (by decide) (by decide))
  rw [hrun, hkeep.f (F := Fld.FBK_SSI_ERR_ELIM n) (by simp [Fld.FBK_SSI_ERR_ELIM])] at helim
  rw [hrun] at herun
  refine ⟨_, hexec, ?_, fun hready => ?_, fun hpar => ?_, fun henc => ?_, herun, helim, ?_, ?_, ?_, ?_⟩
  · rw [hfbk, hsame State.fbk fun _ _ => rfl]
    exact ssiTaken_frames n b rest s
  · refine (hlow 3 1 (by decide)).trans ?_
    simp only [u, hready, Bool.not_false]
    exact ssiMarked_notReady n _ _ z
  · refine (hlow 1 1 (by decide)).trans ?_
    simp only [u, hpar]
    exact ssiMarked_parErr n _ _ z
  · refine (hlow 2 1 (by decide)).trans ?_
    simp only [u, henc]
    exact ssiMarked_encErr n _ _ z
  · exact (hregs _ (by simp) rfl).trans (hkeep _ (by simp))
  · exact (hregs _ (by simp) rfl).trans (hkeep _ (by simp))
  · exact hman.trans (hsame State.man fun _ _ => rfl)
  · have hmem : s.keepsMem u := ⟨hsame State.mem fun _ _ => rfl, hsame State.chk fun _ _ => rfl⟩
    exact (hkeep.faultFrame hmem (by simp [addr_ssiStatus])).trans hframe

end Commands

/-- Settles O14: each command by the equation of its branch and what that branch shows of the channel, a discarded frame by the record of its
fault. -/
theorem ssiChannels : Obligations.SsiChannels := by
  unfold Obligations.SsiChannels
  intro s n hd c
  refine ⟨fun v hoff hv hlock => ?_, fun v hon hv hf => writes_agentTurn rfl ?_, writes_agentTurn rfl ?_, fun ready cyc => ?_, fun raw b rest hc => ?_,
    fun hp => ?_⟩
  · have hlock' : s.atWrite.locked = true := (locked_congr (rd_atWrite s _)).trans hlock
    have hbad := ssiLayoutBad_locked s.atWrite n v hlock'
    simp only [f_atWrite] at hbad
    have hput := ssiCtlWrite_enables (v := v) ((flag_atWrite s _).trans hoff) hv
    refine ⟨fun h => writes_agentTurn rfl ?_, fun h => writes_agentTurn rfl ?_⟩
    · rw [hput, if_pos (hbad.mpr h)]
      exact ssiIgn_shows n _
    · rw [hput, if_neg (fun k => h (hbad.mp k))]
      let u := writePlain (.FBK_SSI_CTL n) v s.atWrite
      obtain ⟨hsticky, hfailed, herun, hcount, hpost, horg, hkeep, hmem⟩ := ssiEnable_shows n u
      have hen : u.flag (Fld.FBK_SSI_CTL_EN n) = true :=
        (flag_eq_testBit _ _ _).trans ((congrArg (·.getLsbD 0) (rd_writePlain _ v _)).trans ((getLsbD_ssiCtl_en _ n v).trans hv))
      have hctl : s.atWrite.keeps u [.FBK_SSI_CTL n, .FBK_SSI_STATUS n, .FBK_SSI_FRAMES n] := keeps_wr _ _ _ (by simp)
      have hrest : u.keeps (ssiEnable n u) [.FBK_SSI_CTL n, .FBK_SSI_STATUS n, .FBK_SSI_FRAMES n] :=
        fun r hr => hkeep r fun k => hr (List.mem_cons_of_mem _ k)
      exact ⟨(hkeep.flag (by simp [Fld.FBK_SSI_CTL_EN])).trans hen, hsticky, hfailed, herun, hcount, hpost, horg.trans rfl, hctl.trans hrest, hmem⟩
  · exact ssiCtlWrite_stops_shows ((flag_atWrite s _).trans hon) hv (by rw [atWrite_fbk]; exact hf)
  · unfold ssiSwTrigger
    simp only [Bool.and_eq_true, decide_eq_true_eq]
    rfl
  · refine fun hon => ⟨fun before at_ rest htrg hpost hbefore => ?_, fun htrg hper horg hle hlt hafter hmul => ?_⟩
    · rw [gives, exec_ssiBurstStart_waiting ready hon htrg hpost hbefore]
      let u := (s.advance cyc).modPost fun p => { p with ssi := before ++ rest }
      have h : Triggered n cyc ready u _ := ssiTrigger_triggered n cyc ready u
      obtain ⟨hstart, hlost⟩ := h.starts_from (s := s) rfl rfl
      exact ⟨_, rfl, ⟨h.time, h.keeps, h.mem, hstart, hlost⟩, congrArg PostSt.ssi h.post⟩
    · rw [gives, exec_ssiBurstStart_periodic ready hon htrg hper (ssiTick_eq hper horg hle hlt hafter hmul)]
      let u := (s.advance cyc).modSsi n (·.countedFrom cyc)
      have h : Triggered n cyc ready u _ := ssiTrigger_triggered n cyc ready u
      have hch : u.fbk.ssi[n] = s.fbk.ssi[n].countedFrom cyc := modSsi_ssi_same (s.advance cyc) n _
      obtain ⟨hstart, hlost⟩ := h.starts_from (s := s) rfl (by rw [hch]; rfl)
      exact ⟨_, rfl, ⟨h.time, h.keeps, h.mem, hstart, hlost⟩, h.post⟩
  · refine ⟨fun ⟨hready, hpar, henc⟩ => ?_, fun hbad => ssiFrameComplete_discarded hc raw hd ?_⟩
    · obtain ⟨t, ht, hst, hframe, hcount, herun, hstamp, hframes, htime, hinbox, hkeep, hmem⟩ := ssiFrameComplete_valid hc raw hready hpar henc
      exact ⟨t, ht, hst, hframe, hcount, herun, hstamp, hframes, htime,
        fun m hok hen hsrc hch => hinbox m hok ((follows_iff 2 n.val s m).mpr ⟨hen, hsrc, hch⟩), hkeep, hmem⟩
    · cases hready : b.ready
      · rfl
      · cases hpar : ssiParityBad s n (ssiWord s n raw)
        · cases henc : ssiEncoderErr s n (ssiWord s n raw)
          · exact absurd ⟨hready, hpar, henc⟩ hbad
          · rfl
        · rfl
  · let u := (s.advance (s.fbk.ssi[n].rise + s.f (Fld.FBK_SSI_CLK_TM n) * 600)).modSsi n fun c => { c with pause := false }
    have hch : u.fbk.ssi[n] = { s.fbk.ssi[n] with pause := false } := modSsi_ssi_same _ n _
    rw [gives, exec_ssiPauseEnd hp]
    refine ⟨_, rfl, ?_, congrArg SsiCh.pause hch, rfl, keeps_setF u _ _ (by simp [Fld.FBK_SSI_STATUS_BUSY]), rfl, rfl⟩
    rw [flag_ssiBusy, hch]
    exact Bool.or_false _

end Sys2Proof.Machine
end

section
/-! SUPPORT. The records of events that are on their way between blocks (`State.post`) are neither read nor changed by the recording of faults,
by its reactions or by the counts of a position channel. Each lemma says so of one operation: it does the same whatever is on its way. -/

namespace Sys2Proof.Machine

open Sys2Proof

/-- A state with other events on their way between blocks. -/
def State.withPost (s : State) (p : PostSt) : State := { s with post := p }

section Way

variable {s : State} {p : PostSt}

/-! ## Branches, folds and updates of a part -/

theorem withPost_ite {c c' : Prop} {i : Decidable c} {j : Decidable c'} {x y x' y' : State} (hc : c' = c) (hx : x' = x.withPost p)
    (hy : y' = y.withPost p) : (if c' then x' else y') = (if c then x else y).withPost p := by
  subst hc hx hy
  rw [Subsingleton.elim j i]
  split <;> rfl

theorem ite_withPost {c : Prop} [Decidable c] {x y : State} : (if c then x.withPost p else y.withPost p) = (if c then x else y).withPost p :=
  withPost_ite rfl rfl rfl

theorem withPost_dite {c : Prop} {i : Decidable c} {x x' : c → State} {y y' : ¬ c → State} (hx : ∀ h, x' h = (x h).withPost p)
    (hy : ∀ h, y' h = (y h).withPost p) : (if h : c then x' h else y' h) = (if h : c then x h else y h).withPost p := by
  split
  · exact hx _
  · exact hy _

theorem withPost_foldl {ι : Type} {g : State → ι → State} (h : ∀ s i, g (s.withPost p) i = (g s i).withPost p) (l : List ι) (s : State) :
    l.foldl g (s.withPost p) = (l.foldl g s).withPost p := by
  induction l generalizing s with
  | nil => rfl
  | cons i l ih => simp only [List.foldl_cons, h, ih]

theorem raise_withPost (F : RF) : (s.withPost p).raise F = (s.raise F).withPost p := (rfl)
theorem setF_withPost (F : RF) (v : Nat) : (s.withPost p).setF F v = (s.setF F v).withPost p := (rfl)
theorem lower_withPost (F : RF) : (s.withPost p).lower F = (s.lower F).withPost p := (rfl)
theorem wr_withPost (r : Reg) (w : Word) : (s.withPost p).wr r w = (s.wr r w).withPost p := (rfl)
theorem f_withPost (F : RF) : (s.withPost p).f F = s.f F := (rfl)
theorem flag_withPost (F : RF) : (s.withPost p).flag F = s.flag F := (rfl)
theorem rd_withPost (r : Reg) : (s.withPost p).rd r = s.rd r := (rfl)
theorem memW_withPost (a : Nat) : (s.withPost p).memW a = s.memW a := (rfl)
theorem setMemW_withPost (a : Nat) (w : Word) : (s.withPost p).setMemW a w = (s.setMemW a w).withPost p := (rfl)
theorem time_withPost : (s.withPost p).time = s.time := (rfl)
theorem withSys_withPost (x : SysSt) : { s.withPost p with sys := x } = { s with sys := x }.withPost p := (rfl)
theorem withHlm_withPost (h : HlmSt) : { s.withPost p with hlm := h } = { s with hlm := h }.withPost p := (rfl)

/-! ## The Hallmark and the recording of faults -/

theorem hlmCount_withPost (i k : Nat) : hlmCount i k (s.withPost p) = (hlmCount i k s).withPost p := by
  simp only [hlmCount, memW_withPost, setMemW_withPost]

theorem tallyIn_withPost (code : BitVec 16) : tallyIn code (s.withPost p) = (tallyIn code s).withPost p := by
  have hfind : tallyFind (s.withPost p).mem code 128 0 = tallyFind s.mem code 128 0 := rfl
  unfold tallyIn
  rw [hfind]
  cases tallyFind s.mem code 128 0 with
  | none => exact hlmCount_withPost 7 1
  | some i => simp only [memW_withPost, setMemW_withPost, rd_withPost, ite_withPost]

theorem sysFault_withPost (code : BitVec 16) : sysFault code (s.withPost p) = (sysFault code s).withPost p := by
  simp only [sysFault, withSys_withPost, setF_withPost, ite_withPost, raise_withPost]
  rfl

theorem flushCounters_withPost (c : BitVec 5) : flushCounters c (s.withPost p) = (flushCounters c s).withPost p := by
  unfold flushCounters
  exact withPost_foldl (fun _ _ => by exact withPost_ite rfl (hlmCount_withPost _ 1) rfl) _ s

theorem hlmHeader_withPost : hlmHeader (s.withPost p) = (hlmHeader s).withPost p := by
  simp only [hlmHeader, setMemW_withPost, rd_withPost, time_withPost]

theorem startFlush_withPost (c : BitVec 5) : startFlush c (s.withPost p) = (startFlush c s).withPost p := by
  simp only [startFlush, raise_withPost, flushCounters_withPost, memW_withPost, setMemW_withPost, hlmHeader_withPost]
  generalize hlmHeader _ = u
  rfl

theorem takeCause_withPost (c : BitVec 5) : takeCause c (s.withPost p) = (takeCause c s).withPost p := by
  simp only [takeCause, withHlm_withPost, ite_withPost, startFlush_withPost]
  rfl

theorem faultFlush_withPost : faultFlush (s.withPost p) = (faultFlush s).withPost p := by
  have hheld : (s.withPost p).hlm.holdTill = s.hlm.holdTill := rfl
  unfold faultFlush
  refine withPost_ite rfl rfl ?_
  rw [hheld]
  cases s.hlm.holdTill with
  | none => exact takeCause_withPost _
  | some t => exact withPost_ite rfl (withPost_ite rfl rfl rfl) (takeCause_withPost _)

theorem codeFlush_withPost (code : Nat) : codeFlush code (s.withPost p) = (codeFlush code s).withPost p := by
  unfold codeFlush
  exact withPost_ite rfl faultFlush_withPost rfl

theorem hlmEvent_withPost (code : Nat) : hlmEvent code (s.withPost p) = (hlmEvent code s).withPost p := by
  let lost : State := { s.wr .MBX_EVT_LOST (s.rd .MBX_EVT_LOST + 1#32) with mbx := { s.mbx with lost := true } }
  have hlost : tallyIn 0x9002#16 (lost.withPost p) = (tallyIn 0x9002#16 lost).withPost p := tallyIn_withPost _
  unfold hlmEvent
  exact withPost_ite rfl rfl (withPost_ite rfl rfl ((congrArg (codeFlush 0x9002) hlost).trans (codeFlush_withPost _)))

theorem tallyApply_withPost (code : BitVec 16) : tallyApply code (s.withPost p) = (tallyApply code s).withPost p := by
  unfold tallyApply
  simp only [tallyIn_withPost, raise_withPost, sysFault_withPost, codeFlush_withPost, hlmEvent_withPost]
  exact withPost_ite rfl rfl rfl

theorem tallyUpdate_withPost (code : BitVec 16) : hlmUpdate (.tally code) (s.withPost p) = (hlmUpdate (.tally code) s).withPost p := by
  have hlost : sysFault 0xB104#16 (((hlmCount 6 1 s).raise Fld.HLM_STATUS_LOST).withPost p) =
    (sysFault 0xB104#16 ((hlmCount 6 1 s).raise Fld.HLM_STATUS_LOST)).withPost p := sysFault_withPost _
  unfold hlmUpdate
  refine withPost_ite rfl (withPost_ite rfl rfl ?_) (withPost_ite rfl (tallyApply_withPost code) rfl)
  rw [← hlmEvent_withPost, ← codeFlush_withPost, ← hlost]
  rfl

theorem recordQuiet_withPost (code : Nat) : recordQuiet code (s.withPost p) = (recordQuiet code s).withPost p := by
  simp only [recordQuiet, sysFault_withPost, tallyUpdate_withPost, codeFlush_withPost]

theorem pushEvent_withPost (code : Nat) (data : List Byte) : pushEvent code data (s.withPost p) = (pushEvent code data s).withPost p := by
  unfold pushEvent
  exact withPost_ite rfl rfl (withPost_ite rfl rfl (recordQuiet_withPost
    (s := { s.wr .MBX_EVT_LOST (s.rd .MBX_EVT_LOST + 1#32) with mbx := { s.mbx with lost := true } }) _))

theorem recordCore_withPost (code : Nat) : recordCore code (s.withPost p) = (recordCore code s).withPost p := by
  unfold recordCore
  rw [recordQuiet_withPost]
  exact withPost_ite rfl rfl (pushEvent_withPost _ _)

/-! ## Gate groups, states of the device and its axes, the Quench -/

theorem modQnc_withPost (f : QncSt → QncSt) : (s.withPost p).modQnc f = (s.modQnc f).withPost p := (rfl)
theorem putSrc_withPost (r : Fin 4 → Reg) (k : Fin 128) (b : Bool) : putSrc r k b (s.withPost p) = (putSrc r k b s).withPost p := (rfl)
theorem now_withPost : (s.withPost p).now = s.now := (rfl)
theorem withAux_withPost (x : Vector AuxCh 8) : { s.withPost p with aux := x } = { s with aux := x }.withPost p := (rfl)

theorem floatGroup_withPost (g : Fin 16) (t : Nat) : floatGroup g t (s.withPost p) = (floatGroup g t s).withPost p := by
  unfold floatGroup State.edgeAt
  exact withPost_ite rfl rfl rfl

theorem axisEvent_withPost (n : Fin 4) (old v : Nat) : axisEvent n old v (s.withPost p) = (axisEvent n old v s).withPost p := by
  unfold axisEvent
  exact withPost_ite rfl rfl (pushEvent_withPost _ _)

theorem brakeDrop_withPost (b : Fin 2 → Bool) : brakeDrop b (s.withPost p) = (brakeDrop b s).withPost p := by
  unfold brakeDrop
  exact withPost_foldl (fun _ _ => by exact withPost_ite rfl rfl rfl) _ s

theorem setAxis_withPost (n : Fin 4) (v : Nat) : (s.withPost p).setAxis n v = (s.setAxis n v).withPost p := by
  simp only [State.setAxis, withSys_withPost, ite_withPost, rd_withPost, wr_withPost, brakeDrop_withPost, axisEvent_withPost]
  rfl

theorem setSv_withPost (v : Nat) : (s.withPost p).setSv v = (s.setSv v).withPost p := by
  simp only [State.setSv, setF_withPost, brakeDrop_withPost, pushEvent_withPost]
  exact withPost_ite rfl rfl rfl

theorem setAux_withPost (n : Fin 8) (v : Nat) : setAux n v (s.withPost p) = (setAux n v s).withPost p := by
  unfold setAux
  refine withPost_ite rfl rfl ?_
  simp only [setF_withPost, raise_withPost, wr_withPost]
  simp only [rd_withPost, f_withPost, pushEvent_withPost]
  rfl

theorem auxToFault_withPost (n : Fin 8) (t : Nat) : auxToFault n t (s.withPost p) = (auxToFault n t s).withPost p := by
  simp only [auxToFault, setAux_withPost, withAux_withPost, floatGroup_withPost]
  rfl

theorem setDev_withPost (d : Nat) : setDev d (s.withPost p) = (setDev d s).withPost p := by
  simp only [setDev, brakeDrop_withPost, setF_withPost, raise_withPost, pushEvent_withPost]
  exact withPost_ite rfl rfl rfl

theorem auxTripped_withPost (g : Fin 16) (t : Nat) : auxTripped g t (s.withPost p) = (auxTripped g t s).withPost p := by
  simp only [auxTripped, auxToFault_withPost, raise_withPost]
  exact withPost_dite (fun _ => withPost_ite rfl rfl rfl) fun _ => rfl

theorem modCells_withPost (g : Fin 16) (f : GCell → GCell) : (s.withPost p).modCells g f = (s.modCells g f).withPost p := (rfl)

theorem tripRecord_withPost (g : Fin 16) (k : Fin 128) (t : Nat) : tripRecord g k t (s.withPost p) = (tripRecord g k t s).withPost p := by
  simp only [tripRecord, raise_withPost, lower_withPost, setF_withPost, wr_withPost, modQnc_withPost, modCells_withPost, recordCore_withPost,
    auxTripped_withPost, f_withPost]

theorem maskDue_withPost (g : Fin 16) (a t : Nat) : maskDue (s.withPost p) g a t = maskDue s g a t := (rfl)

theorem takeAction_withPost (g : Fin 16) (a t : Nat) : takeAction g a t (s.withPost p) = (takeAction g a t s).withPost p := by
  simp only [takeAction, setF_withPost, lower_withPost, maskDue_withPost, modQnc_withPost]

theorem gRun_withPost (g : Fin 16) : (s.withPost p).gRun g = s.gRun g := (rfl)
theorem gMode_withPost (g : Fin 16) : (s.withPost p).gMode g = s.gMode g := (rfl)

theorem untrip_withPost (g : Fin 16) (hold : Bool) : untrip g hold (s.withPost p) = (untrip g hold s).withPost p := by
  simp only [untrip, lower_withPost, now_withPost, takeAction_withPost, raise_withPost, modQnc_withPost, gRun_withPost, gMode_withPost,
    time_withPost, ite_withPost]

theorem refreshGroup_withPost (k : Fin 128) (t : Nat) (hold : Bool) (g : Fin 16) :
    refreshGroup k t hold (s.withPost p) g = (refreshGroup k t hold s g).withPost p := by
  simp only [refreshGroup, raise_withPost, recordCore_withPost, ite_withPost, modQnc_withPost, untrip_withPost, takeAction_withPost,
    tripRecord_withPost]
  rfl

theorem refreshGroups_withPost (k : Fin 128) (t : Nat) (hold : Bool) :
    refreshGroups k t hold (s.withPost p) = (refreshGroups k t hold s).withPost p := by
  unfold refreshGroups
  exact withPost_foldl (fun _ g => refreshGroup_withPost k t hold g) _ s

theorem holdAxes_withPost (k : Fin 128) : holdAxes k (s.withPost p) = (holdAxes k s).withPost p := by
  unfold holdAxes
  exact withPost_foldl (fun _ n => by exact withPost_ite rfl (setAxis_withPost n axHold) rfl) _ s

theorem lowerFirst_withPost (k : Fin 128) (t : Nat) : lowerFirst k t (s.withPost p) = (lowerFirst k t s).withPost p := by
  unfold lowerFirst
  exact withPost_foldl (fun _ _ => by exact withPost_ite rfl rfl rfl) _ s

theorem sourceActive0_withPost (k : Fin 128) (t : Nat) : sourceActive0 k t (s.withPost p) = (sourceActive0 k t s).withPost p := by
  simp only [sourceActive0, putSrc_withPost, refreshGroups_withPost, lowerFirst_withPost, holdAxes_withPost]
  exact withPost_ite rfl rfl (withPost_ite rfl rfl (withPost_ite rfl rfl rfl))

theorem noteCause_withPost : (s.withPost p).noteCause = s.noteCause.withPost p := (rfl)

theorem enterSafe0_withPost : enterSafe0 (s.withPost p) = (enterSafe0 s).withPost p := by
  simp only [enterSafe0, noteCause_withPost, setDev_withPost, setSv_withPost, ite_withPost, now_withPost, sourceActive0_withPost,
    faultFlush_withPost, raise_withPost]
  rfl

theorem enterFault0_withPost : enterFault0 (s.withPost p) = (enterFault0 s).withPost p := by
  unfold enterFault0
  refine withPost_ite rfl rfl ?_
  simp only [noteCause_withPost, setDev_withPost, now_withPost, sourceActive0_withPost]
  rw [withPost_foldl fun u n => auxToFault_withPost n u.now]
  exact faultFlush_withPost

theorem recordFault0_withPost (code : Nat) : recordFault0 code (s.withPost p) = (recordFault0 code s).withPost p := by
  simp only [recordFault0, recordCore_withPost, enterSafe0_withPost, enterFault0_withPost, ite_withPost]

/-! ## The discharge sequencer -/

theorem modDcl_withPost (f : DclSt → DclSt) : (s.withPost p).modDcl f = (s.modDcl f).withPost p := (rfl)

theorem dcl_withPost : (s.withPost p).dcl = s.dcl := (rfl)
theorem linkV_withPost : (s.withPost p).linkV = s.linkV := (rfl)
theorem dsgTarget_withPost : (s.withPost p).dsgTarget = s.dsgTarget := (rfl)
theorem dsgAvail_withPost (m : Nat) : dsgAvail m (s.withPost p) = dsgAvail m s := (rfl)

theorem setDsg_withPost (v : Nat) : setDsg v (s.withPost p) = (setDsg v s).withPost p := by
  simp only [setDsg, dclEvent, setF_withPost, pushEvent_withPost]
  exact withPost_ite rfl rfl rfl

theorem dsgWord_withPost (w : Word) : dsgWord w (s.withPost p) = (dsgWord w s).withPost p := by
  unfold dsgWord
  exact withPost_ite rfl rfl rfl

theorem dsgEndMethod_withPost : dsgEndMethod (s.withPost p) = (dsgEndMethod s).withPost p := by
  unfold dsgEndMethod
  exact withPost_ite rfl (dsgWord_withPost _) rfl

theorem dsgEnd_withPost (st : Nat) : dsgEnd st (s.withPost p) = (dsgEnd st s).withPost p := by
  simp only [dsgEnd, dsgEndMethod_withPost, setF_withPost, setDsg_withPost]
  rfl

theorem dsgFail_withPost : dsgFail (s.withPost p) = (dsgFail s).withPost p := by
  simp only [dsgFail, raise_withPost, dsgEnd_withPost, recordFault0_withPost]

theorem dsgStart_withPost (m : Nat) : dsgStart m (s.withPost p) = (dsgStart m s).withPost p := by
  simp only [dsgStart, time_withPost, linkV_withPost, dsgTarget_withPost, modDcl_withPost, setDsg_withPost, f_withPost, dcl_withPost,
    dsgWord_withPost, ite_withPost]

theorem dsgMethodFail_withPost (m : Nat) : dsgMethodFail m (s.withPost p) = (dsgMethodFail m s).withPost p := by
  simp only [dsgMethodFail, dcl_withPost, dsgEndMethod_withPost, raise_withPost, modDcl_withPost, recordFault0_withPost, dsgAvail_withPost,
    dsgStart_withPost, dsgFail_withPost, ite_withPost]

theorem dsgWatch_withPost : dsgWatch (s.withPost p) = (dsgWatch s).withPost p := by
  unfold dsgWatch
  exact withPost_ite rfl dsgFail_withPost (withPost_ite rfl (dsgMethodFail_withPost 1) rfl)

theorem recordFault_withPost (code : Nat) : recordFault code (s.withPost p) = (recordFault code s).withPost p := by
  unfold recordFault
  rw [recordFault0_withPost, dsgWatch_withPost]

/-! ## The counts of a position channel -/

theorem modQe_withPost (n : Fin 8) (f : QeCh → QeCh) : (s.withPost p).modQe n f = (s.modQe n f).withPost p := (rfl)
theorem advance_withPost (c : Nat) : (s.withPost p).advance c = (s.advance c).withPost p := (rfl)
theorem fbk_withPost : (s.withPost p).fbk = s.fbk := (rfl)
theorem qeOn_withPost (n : Fin 8) : (s.withPost p).qeOn n = s.qeOn n := (rfl)
theorem qeMod_withPost (n : Fin 8) : (s.withPost p).qeMod n = s.qeMod n := (rfl)
theorem qeDiff_withPost (n : Fin 8) : qeDiff (s.withPost p) n = qeDiff s n := (rfl)
theorem qeIndexCond_withPost (n : Fin 8) (st : Nat) : qeIndexCond (s.withPost p) n st = qeIndexCond s n st := (rfl)

theorem tellGen_withPost (src ch : Nat) (e : GenEv) (m : Fin 8) : tellGen src ch e (s.withPost p) m = (tellGen src ch e s m).withPost p := by
  unfold tellGen
  exact withPost_ite rfl rfl rfl

theorem postGen_withPost (src ch : Nat) (e : GenEv) : postGen src ch e (s.withPost p) = (postGen src ch e s).withPost p := by
  rw [postGen_eq, postGen_eq]
  exact withPost_foldl (fun _ m => tellGen_withPost src ch e m) _ s

theorem qeFail_withPost (n : Fin 8) (F : RF) (code : Nat) : qeFail n F code (s.withPost p) = (qeFail n F code s).withPost p := by
  simp only [qeFail, raise_withPost, recordFault_withPost]

theorem qeEvent_withPost (n : Fin 8) (e : GenEv) : qeEvent n e (s.withPost p) = (qeEvent n e s).withPost p := by
  unfold qeEvent
  exact withPost_ite rfl rfl (postGen_withPost _ _ _)

theorem qeMove_withPost (n : Fin 8) (d : Int) : qeMove n d (s.withPost p) = (qeMove n d s).withPost p := by
  unfold qeMove
  simp only [qeMod_withPost, f_withPost, setF_withPost, rd_withPost]
  rw [wr_withPost, setF_withPost]

/-- The count of a double step: two on in the direction of the last step, or none before a first step (R85). -/
def qeTwoOn (n : Fin 8) (t : Nat) (s : State) : State :=
  match s.fbk.qe[n].lastUp with
  | some up => qeEvent n (.counts (if up then 2 else -2) t) (qeMove n (if up then 2 else -2) s)
  | none => s

theorem qeTwoOn_withPost (n : Fin 8) (t : Nat) : qeTwoOn n t (s.withPost p) = (qeTwoOn n t s).withPost p := by
  unfold qeTwoOn
  rw [fbk_withPost]
  cases s.fbk.qe[n].lastUp with
  | none => rfl
  | some up => simp only [qeMove_withPost, qeEvent_withPost]

theorem qeDouble_eq (n : Fin 8) (t : Nat) (s : State) : qeDouble n t s =
    let k := sat 65535 (s.f (Fld.FBK_QE_ERRCNT_DS_CNT n) + 1)
    let u := recordFault 0x2101 ((s.setF (Fld.FBK_QE_ERRCNT_DS_CNT n) k).raise (Fld.FBK_QE_STATUS_DS n))
    let v := if u.flag (Fld.FBK_QE_CTL_DS_POL n) then qeTwoOn n t u else u
    if k = v.f (Fld.FBK_QE_ERRLIM_DS_LIM n) then qeFail n (Fld.FBK_QE_STATUS_DS_LIMIT n) 0x2202 v else v := rfl

theorem qeDouble_withPost (n : Fin 8) (t : Nat) : qeDouble n t (s.withPost p) = (qeDouble n t s).withPost p := by
  simp only [qeDouble_eq, f_withPost, setF_withPost, raise_withPost, recordFault_withPost, flag_withPost, qeTwoOn_withPost, ite_withPost,
    qeFail_withPost]

theorem qeCorrect_withPost (n : Fin 8) (t : Nat) : qeCorrect n t (s.withPost p) = (qeCorrect n t s).withPost p := by
  simp only [qeCorrect, qeDiff_withPost, f_withPost, qeMod_withPost, setF_withPost, qeEvent_withPost, ite_withPost]

theorem qeMismatch_withPost (n : Fin 8) (t : Nat) (correct : Bool) :
    qeMismatch n t correct (s.withPost p) = (qeMismatch n t correct s).withPost p := by
  simp only [qeMismatch, qeDiff_withPost, wr_withPost, f_withPost, setF_withPost, raise_withPost, recordFault_withPost, qeCorrect_withPost,
    ite_withPost, qeFail_withPost]

theorem qeIndex_withPost (n : Fin 8) (t : Nat) : qeIndex n t (s.withPost p) = (qeIndex n t s).withPost p := by
  simp only [qeIndex, wr_withPost, raise_withPost, qeDiff_withPost, f_withPost, flag_withPost, setF_withPost, qeCorrect_withPost,
    qeMismatch_withPost, ite_withPost]

theorem qeQuad_withPost (n : Fin 8) (was now t : Nat) : qeQuad n was now t (s.withPost p) = (qeQuad n was now t s).withPost p := by
  simp only [qeQuad, qeDouble_withPost, modQe_withPost, qeMove_withPost, qeEvent_withPost, ite_withPost]

theorem qeHall_withPost (n : Fin 8) (st t : Nat) : qeHall n st t (s.withPost p) = (qeHall n st t s).withPost p := by
  unfold qeHall
  cases hallSector st with
  | none => exact qeFail_withPost _ _ _
  | some k =>
    simp only [f_withPost, modQe_withPost, qeMove_withPost, setF_withPost, qeEvent_withPost, raise_withPost, recordFault_withPost, ite_withPost]

theorem qeSampleLine_withPost (n : Fin 8) (c : Nat) (l : Fin 3) : qeSampleLine n c l (s.withPost p) = (qeSampleLine n c l s).withPost p := (rfl)

theorem qeSample_withPost (n : Fin 8) (c : Nat) : qeSample n c (s.withPost p) = (qeSample n c s).withPost p := by
  unfold qeSample
  exact withPost_foldl (fun _ l => qeSampleLine_withPost n c l) _ s

theorem qeApply_withPost (n : Fin 8) (cyc : Nat) (acc : List QeAcc) : qeApply n cyc acc (s.withPost p) = (qeApply n cyc acc s).withPost p := by
  simp only [qeApply, advance_withPost, f_withPost, setF_withPost, qeOn_withPost, qeHall_withPost, qeIndexCond_withPost, flag_withPost,
    qeQuad_withPost, qeIndex_withPost, ite_withPost]

theorem qeTake_withPost (n : Fin 8) (cyc : Nat) : qeTake n cyc (s.withPost p) = (qeTake n cyc s).withPost p := by
  unfold qeTake
  rw [fbk_withPost]
  cases s.fbk.qe[n].acc with
  | nil => rfl
  | cons e l => simp only [modQe_withPost, qeApply_withPost, ite_withPost]

theorem qeSettle_withPost (n : Fin 8) (cyc : Nat) : qeSettle n cyc (s.withPost p) = (qeSettle n cyc s).withPost p := by
  simp only [qeSettle, qeSample_withPost, fbk_withPost]
  exact withPost_foldl (fun _ _ => qeTake_withPost n cyc) _ _

end Way

end Sys2Proof.Machine
end

section
/-! PROOF. O13: the counts and index events of a channel up to a core cycle: what they leave, and a channel at rest. -/

namespace Sys2Proof.Machine

open Sys2Proof

/-! ## A channel at rest (R81, R83) -/

theorem vset_self {α : Type} {n : Nat} (v : Vector α n) (i : Fin n) : vset v i v[i] = v := Vector.set_getElem_self _

theorem modQe_self (n : Fin 8) (s : State) (f : QeCh → QeCh) (h : f s.fbk.qe[n] = s.fbk.qe[n]) : s.modQe n f = s := by
  have hqe : vmod s.fbk.qe n f = s.fbk.qe := by rw [vmod, h, vset_self]
  simp only [State.modQe, hqe]

/-- A filter whose line holds the level that it has sampled and accepted takes nothing. -/
theorem lineRun_rest (len pre phase c : Nat) (l : Fin 3) (q : QeLine) (hseen : q.seen = q.raw) (hout : q.out = q.raw) :
    lineRun len pre phase c l q = (q, []) := by
  simp only [lineRun, hseen, hout, bne_self_eq_false, Bool.and_false, Bool.false_and, Bool.false_eq_true, ↓reduceIte]

theorem qeSampleLine_rest (n : Fin 8) (c : Nat) (l : Fin 3) (s : State) (hseen : (s.fbk.qe[n].line[l]).seen = (s.fbk.qe[n].line[l]).raw)
    (hout : (s.fbk.qe[n].line[l]).out = (s.fbk.qe[n].line[l]).raw) : qeSampleLine n c l s = s := by
  unfold qeSampleLine
  simp only [lineRun_rest _ _ _ _ _ _ hseen hout]
  refine modQe_self n s _ ?_
  simp only [vset_self, List.append_nil]

/-- With its inputs settled and no level waiting, a channel has nothing to take. -/
theorem qeSettle_rest (n : Fin 8) (c : Nat) (s : State) (hacc : s.fbk.qe[n].acc = [])
    (hline : ∀ l : Fin 3, (s.fbk.qe[n].line[l]).seen = (s.fbk.qe[n].line[l]).raw ∧ (s.fbk.qe[n].line[l]).out = (s.fbk.qe[n].line[l]).raw) :
    qeSettle n c s = s := by
  have hsample : qeSample n (c - 2) s = s := by
    unfold qeSample
    induction List.finRange 3 with
    | nil => rfl
    | cons l ls ih => rw [List.foldl_cons, qeSampleLine_rest n _ l s (hline l).1 (hline l).2, ih]
  simp only [qeSettle, hsample, hacc]
  rfl

/-! ## What the counts leave -/

/-- The registers that counts and index events set. -/
def Reg.inCount : Reg → Bool
  | .FBK_QE_STATUS _ | .FBK_QE_CNT _ | .FBK_QE_TURNS _ | .FBK_QE_ERRCNT _ | .FBK_QE_IDX_T _ | .FBK_QE_IDX_DIFF _ | .FBK_QE_IDX_STAT _ => true
  | _ => false

/-- What counts and index events leave, with the faults that they record. -/
structure Counted (s t : State) : Prop where
  regs : ∀ r, r.inCount = false → r.inDsg = false → t.rd r = s.rd r
  locked : t.locked = s.locked
  quiet : s.dsgRun = false → t.dsgRun = false

namespace Counted

variable {s t u : State}

theorem of_regs (h : t.regs = s.regs) : Counted s t := by
  have hrd (r : Reg) : t.rd r = s.rd r := by simp only [State.rd, h]
  exact ⟨fun r _ _ => hrd r, locked_congr (hrd _), fun hd => (dsgRun_congr (hrd _)).trans hd⟩

theorem refl (s : State) : Counted s s := of_regs rfl

theorem trans (h : Counted s t) (k : Counted t u) : Counted s u :=
  ⟨fun r hc hd => (k.regs r hc hd).trans (h.regs r hc hd), k.locked.trans h.locked, fun hd => k.quiet (h.quiet hd)⟩

theorem ite {c : Prop} [Decidable c] (h : Counted s t) (k : Counted s u) : Counted s (if c then t else u) := by
  split
  · exact h
  · exact k

theorem foldl {ι : Type} {g : State → ι → State} (h : ∀ s i, Counted s (g s i)) (l : List ι) (s : State) : Counted s (l.foldl g s) := by
  induction l generalizing s with
  | nil => exact refl s
  | cons i l ih => exact (h s i).trans (ih (g s i))

theorem wr (s : State) (r : Reg) (w : Word) (hr : r.inCount = true) : Counted s (s.wr r w) := by
  have hrd (q : Reg) (hq : q.inCount = false) : (s.wr r w).rd q = s.rd q := rd_wr_ne s r q w (by rintro rfl; simp [hr] at hq)
  exact ⟨fun q hq _ => hrd q hq, locked_congr (hrd _ rfl), fun hd => (dsgRun_congr (hrd _ rfl)).trans hd⟩

theorem setF (s : State) (F : RF) (v : Nat) (hr : F.reg.inCount = true) : Counted s (s.setF F v) := wr s F.reg _ hr

theorem raise (s : State) (F : RF) (hr : F.reg.inCount = true) : Counted s (s.raise F) := (setF s F 1 hr).trans (of_regs rfl)

/-- A fault of a channel: its code has neither the class of SAFE nor that of FAULT. -/
theorem recordFault (code : Nat) (s : State) (h3 : faultClass code ≠ 3) (h4 : faultClass code ≠ 4) : Counted s (recordFault code s) where
  regs r _ hd := ((recordFault0_discharged code s).trans (dsgWatch_discharged _)).regs r hd
  locked := (recordFault_aside code s).locked
  quiet hd := (dsgRun_congr ((recordFault_recorded code s h3 h4 hd).regs _ rfl)).trans hd

theorem modQe (s : State) (n : Fin 8) (f : QeCh → QeCh) : Counted s (s.modQe n f) := of_regs rfl

end Counted

section Ops

variable (n : Fin 8) (s : State)

theorem qeFail_counted (F : RF) (code : Nat) (hF : F.reg.inCount = true) (h3 : faultClass code ≠ 3) (h4 : faultClass code ≠ 4) :
    Counted s (qeFail n F code s) := ((Counted.raise s F hF).trans (.raise _ _ rfl)).trans (.recordFault code _ h3 h4)

theorem qeEvent_counted (e : GenEv) : Counted s (qeEvent n e s) :=
  Counted.ite (.refl s) (.of_regs (postGen_same State.regs (fun _ => rfl) _ _ _ s))

theorem qeMove_counted (d : Int) : Counted s (qeMove n d s) := ((Counted.setF s _ _ rfl).trans (.wr _ _ _ rfl)).trans (.setF _ _ _ rfl)

theorem qeTwoOn_counted (t : Nat) : Counted s (qeTwoOn n t s) := by
  unfold qeTwoOn
  split
  · exact (qeMove_counted n s _).trans (qeEvent_counted n _ _)
  · exact .refl s

theorem qeDouble_counted (t : Nat) : Counted s (qeDouble n t s) := by
  rw [qeDouble_eq]
  have h1 := ((Counted.setF s (Fld.FBK_QE_ERRCNT_DS_CNT n) (sat 65535 (s.f (Fld.FBK_QE_ERRCNT_DS_CNT n) + 1)) rfl).trans
    (.raise _ (Fld.FBK_QE_STATUS_DS n) rfl)).trans (.recordFault 0x2101 _ (by decide) (by decide))
  exact (h1.trans (.ite (qeTwoOn_counted n _ t) (.refl _))).trans (.ite (qeFail_counted n _ _ _ rfl (by decide) (by decide)) (.refl _))

theorem qeCorrect_counted (t : Nat) : Counted s (qeCorrect n t s) :=
  Counted.ite (.refl s) ((Counted.setF s _ _ rfl).trans (qeEvent_counted n _ _))

theorem qeMismatch_counted (t : Nat) (correct : Bool) : Counted s (qeMismatch n t correct s) := by
  have h1 (w : Word) (raw run miss : Nat) : Counted s (recordFault 0x2103 (((((s.wr (.FBK_QE_IDX_DIFF n) w).setF (Fld.FBK_QE_IDX_STAT_RAW n) raw).raise
      (Fld.FBK_QE_STATUS_IDX_MISM n)).setF (Fld.FBK_QE_IDX_STAT_RUN n) run).setF (Fld.FBK_QE_ERRCNT_IDX_MISS n) miss)) :=
    (((((Counted.wr s _ w rfl).trans (.setF _ _ raw rfl)).trans (.raise _ _ rfl)).trans (.setF _ _ run rfl)).trans (.setF _ _ miss rfl)).trans
      (.recordFault 0x2103 _ (by decide) (by decide))
  exact ((h1 _ _ _ _).trans (.ite (qeCorrect_counted n _ t) (.refl _))).trans
    (.ite (qeFail_counted n _ (Fld.FBK_QE_STATUS_IDX_LIMIT n) 0x2204 rfl (by decide) (by decide)) (.refl _))

theorem qeIndex_counted (t : Nat) : Counted s (qeIndex n t s) := by
  have h1 := (Counted.wr s (.FBK_QE_IDX_T n) (stampWord t) rfl).trans (.raise _ (Fld.FBK_QE_STATUS_IDX_EV n) rfl)
  refine h1.trans (.ite (.ite ?_ (qeMismatch_counted n _ t true)) (.ite (.ite ?_ (.ite ?_ (qeMismatch_counted n _ t _))) (.refl _)))
  · exact (Counted.setF _ (Fld.FBK_QE_IDX_STAT_RUN n) 0 rfl).trans (qeCorrect_counted n _ t)
  · exact (Counted.raise _ (Fld.FBK_QE_STATUS_HOMED n) rfl).trans (qeCorrect_counted n _ t)
  · exact .setF _ (Fld.FBK_QE_IDX_STAT_RUN n) 0 rfl

theorem qeQuad_counted (was now t : Nat) : Counted s (qeQuad n was now t s) :=
  Counted.ite (.refl s) (.ite (qeDouble_counted n s t) (((Counted.modQe s n _).trans (qeMove_counted n _ _)).trans (qeEvent_counted n _ _)))

theorem qeHall_counted (st t : Nat) : Counted s (qeHall n st t s) := by
  unfold qeHall
  split
  · exact qeFail_counted n s _ _ rfl (by decide) (by decide)
  · refine Counted.ite (.refl s) (.ite ?_ ?_)
    · exact ((Counted.modQe s n _).trans (qeMove_counted n _ _)).trans (qeEvent_counted n _ _)
    · exact (((Counted.setF s _ _ rfl).trans (qeEvent_counted n _ _)).trans (.raise _ (Fld.FBK_QE_STATUS_HALL_SKIP n) rfl)).trans
        (.recordFault 0x2106 _ (by decide) (by decide))

theorem qeSample_counted (c : Nat) : Counted s (qeSample n c s) := Counted.foldl (fun u _ => .modQe u n _) _ s

theorem qeApply_counted (cyc : Nat) (acc : List QeAcc) : Counted s (qeApply n cyc acc s) := by
  have h1 (w : Nat) : Counted s ((s.advance cyc).setF (Fld.FBK_QE_STATUS_IN n) w) :=
    (Counted.of_regs (s := s) (t := s.advance cyc) rfl).trans (.setF _ (Fld.FBK_QE_STATUS_IN n) w rfl)
  exact (h1 _).trans (.ite (.refl _) (.ite (qeHall_counted n _ _ _) ((qeQuad_counted n _ _ _ _).trans (.ite (qeIndex_counted n _ _) (.refl _)))))

theorem qeTake_counted (cyc : Nat) : Counted s (qeTake n cyc s) := by
  unfold qeTake
  split
  · exact .refl s
  · exact .ite ((Counted.modQe s n _).trans (qeApply_counted n _ _ _)) (.refl s)

theorem qeSettle_counted (cyc : Nat) : Counted s (qeSettle n cyc s) := by
  unfold qeSettle
  exact (qeSample_counted n s (cyc - 2)).trans (.foldl (fun u _ => qeTake_counted n u cyc) _ _)

end Ops

end Sys2Proof.Machine
end

section
/-! PROOF. O13: clears, captures and control writes of a channel, and the obligation. -/

namespace Sys2Proof.Machine

open Sys2Proof

/-! ## Parts of a word -/

theorem wPut_zero (w : Word) (lo width : Nat) : wPut w lo width 0 = w &&& ~~~ wMask lo width := by
  simp only [wPut, Nat.zero_shiftLeft, BitVec.and_zero, BitVec.or_zero]

/-- A part of a word that a mask keeps. -/
theorem wGet_and_ones (w c : Word) (lo width : Nat) (h : wGet c lo width = 2 ^ width - 1) : wGet (w &&& c) lo width = wGet w lo width := by
  refine wGet_congr fun i h1 h2 => ?_
  have hbit := congrArg (·.testBit (i - lo)) h
  simp only [testBit_wGet, Nat.testBit_two_pow_sub_one, show i - lo < width by omega, decide_true, Bool.true_and,
    show lo + (i - lo) = i by omega] at hbit
  rw [BitVec.getLsbD_and, hbit, Bool.and_true]

/-- A word by its low 24 bits and its high 8. -/
theorem word_of_parts (w : Word) {a b : Nat} (ha : wGet w 0 24 = a) (hb : wGet w 24 8 = b) : w = BitVec.ofNat 32 (a + 2 ^ 24 * b) := by
  have hw : wGet w 0 (24 + 8) = w.toNat := Nat.mod_eq_of_lt (by simpa using w.isLt)
  rw [wGet_add, ha, Nat.zero_add, hb] at hw
  rw [hw, BitVec.ofNat_toNat, BitVec.setWidth_eq]

theorem onlyRegs_setF (s : State) (F : RF) (v : Nat) {rs : List Reg} (h : F.reg ∈ rs) : s.onlyRegs (s.setF F v) rs := ⟨rfl, keeps_setF s F v h⟩

theorem onlyRegs_wr (s : State) (r : Reg) (w : Word) {rs : List Reg} (h : r ∈ rs) : s.onlyRegs (s.wr r w) rs := ⟨rfl, keeps_wr s r w h⟩

theorem onlyRegs_raise (s : State) (F : RF) {rs : List Reg} (h : F.reg ∈ rs) : s.onlyRegs (s.raise F) rs := ⟨rfl, keeps_raise s F h⟩

theorem State.onlyRegs.trans {s t u : State} {rs : List Reg} (h : s.onlyRegs t rs) (k : t.onlyRegs u rs) : s.onlyRegs u rs := by
  refine ⟨?_, h.2.trans k.2⟩
  rw [← h.1, ← k.1]

/-! ## Captures (R100) -/

/-- The count of a channel and the tap of a trigger stored. -/
def qeCapStored (n : Fin 8) (at_ : Nat) (s : State) : State :=
  let u := s.setF (Fld.FBK_QE_CAP_CNT_CNT n) (s.f (Fld.FBK_QE_CNT_CNT n))
  (u.setF (Fld.FBK_QE_CAP_CNT_TURNS n) (wGet (u.rd (.FBK_QE_TURNS n)) 0 8)).wr (.FBK_QE_CAP_T n) (stampWord at_)

/-- A trigger at a tap captures the count of a channel. -/
def qeCaptured (n : Fin 8) (at_ : Nat) (s : State) : State :=
  let u := qeCapStored n at_ s
  (u.raiseIf (u.flag (Fld.FBK_QE_STATUS_CAP n)) (Fld.FBK_QE_STATUS_CAP_OVR n)).raise (Fld.FBK_QE_STATUS_CAP n)

theorem exec_capture {s : State} {n : Fin 8} {before rest : List (Nat × Nat × Nat)} {at_ cyc : Nat}
    (h : s.post.cap = before ++ (n.val, at_, cyc) :: rest) (hb : ∀ e ∈ before, e.1 ≠ n.val) :
    exec (.capture n) s =
      .next (qeCaptured n at_ (((qeSettle n cyc s).withPost { s.post with cap := before ++ rest }).advance cyc)) := by
  change execCapture n s = _
  unfold execCapture
  simp only [h, takeEv_append _ _ _ _ hb]
  rw [← qeSettle_withPost]
  rfl

section Captured

variable (n : Fin 8) (at_ : Nat) (s : State)

theorem qeCapStored_keeps : s.keeps (qeCapStored n at_ s) [.FBK_QE_CAP_CNT n, .FBK_QE_CAP_T n] := by
  unfold qeCapStored
  exact ((keeps_setF s _ _ (by simp [Fld.FBK_QE_CAP_CNT_CNT])).trans (keeps_setF _ _ _ (by simp [Fld.FBK_QE_CAP_CNT_TURNS]))).trans
    (keeps_wr _ _ _ (by simp))

/-- Its two status bits are all that a capture changes besides. -/
theorem qeCaptured_status : (qeCapStored n at_ s).keeps (qeCaptured n at_ s) [.FBK_QE_STATUS n] := by
  unfold qeCaptured
  exact (raiseIf_keeps _ _ _ (by simp [Fld.FBK_QE_STATUS_CAP_OVR])).trans (keeps_raise _ _ (by simp [Fld.FBK_QE_STATUS_CAP]))

theorem qeCaptured_keeps : s.keeps (qeCaptured n at_ s) [.FBK_QE_CAP_CNT n, .FBK_QE_CAP_T n, .FBK_QE_STATUS n] := by
  intro r hr
  simp only [List.mem_cons, List.not_mem_nil, or_false, not_or] at hr
  obtain ⟨hcnt, htime, hstatus⟩ := hr
  exact (qeCaptured_status n at_ s r (by simp [hstatus])).trans (qeCapStored_keeps n at_ s r (by simp [hcnt, htime]))

/-- But for registers and SYS, a capture leaves the state as it is. -/
theorem qeCaptured_same {α : Type} (part : State → α) (hwr : ∀ (u : State) r w, part (u.wr r w) = part u)
    (hnote : ∀ (u : State) r m, part (u.noteHot r m) = part u) : part (qeCaptured n at_ s) = part s := by
  have hraise (u : State) (F : RF) : part (u.raise F) = part u := (hnote _ _ _).trans (hwr _ _ _)
  have hif (u : State) (c : Bool) (F : RF) : part (u.raiseIf c F) = part u := by
    rcases raiseIf_cases u c F with ⟨-, e⟩ | ⟨-, e⟩ <;> rw [e]
    exact hraise u F
  exact (hraise _ _).trans ((hif _ _ _).trans ((hwr _ _ _).trans ((hwr _ _ _).trans (hwr _ _ _))))

theorem qeCaptured_count : (qeCaptured n at_ s).rd (.FBK_QE_CAP_CNT n) =
    BitVec.ofNat 32 (s.f (Fld.FBK_QE_CNT_CNT n) + 2 ^ 24 * wGet (s.rd (.FBK_QE_TURNS n)) 0 8) := by
  let u := s.setF (Fld.FBK_QE_CAP_CNT_CNT n) (s.f (Fld.FBK_QE_CNT_CNT n))
  let v := u.setF (Fld.FBK_QE_CAP_CNT_TURNS n) (wGet (u.rd (.FBK_QE_TURNS n)) 0 8)
  have hturns : u.rd (.FBK_QE_TURNS n) = s.rd (.FBK_QE_TURNS n) := rd_setF_ne s _ _ _ (by simp [Fld.FBK_QE_CAP_CNT_CNT])
  have hv : (qeCaptured n at_ s).rd (.FBK_QE_CAP_CNT n) = v.rd (.FBK_QE_CAP_CNT n) :=
    (qeCaptured_status n at_ s _ (by simp)).trans (rd_wr_ne v _ _ _ (by simp))
  have hcnt : v.f (Fld.FBK_QE_CAP_CNT_CNT n) = s.f (Fld.FBK_QE_CNT_CNT n) :=
    (f_setF_apart u _ 24 8 _ 0 24 (by decide) (by decide)).trans
      ((f_setF s (Fld.FBK_QE_CAP_CNT_CNT n) _ (show 0 + 24 ≤ 32 by decide)).trans (Nat.mod_eq_of_lt (wGet_lt _ _ _)))
  have hhigh : v.f (Fld.FBK_QE_CAP_CNT_TURNS n) = wGet (s.rd (.FBK_QE_TURNS n)) 0 8 := by
    rw [← hturns]
    exact (f_setF u (Fld.FBK_QE_CAP_CNT_TURNS n) _ (show 24 + 8 ≤ 32 by decide)).trans (Nat.mod_eq_of_lt (wGet_lt _ _ _))
  rw [hv]
  exact word_of_parts _ hcnt hhigh

theorem qeCaptured_time : (qeCaptured n at_ s).rd (.FBK_QE_CAP_T n) = BitVec.ofNat 32 at_ :=
  (qeCaptured_status n at_ s _ (by simp)).trans (rd_wr (State.setF _ (Fld.FBK_QE_CAP_CNT_TURNS n) _) (.FBK_QE_CAP_T n) (stampWord at_))

theorem qeCaptured_cap : (qeCaptured n at_ s).flag (Fld.FBK_QE_STATUS_CAP n) = true :=
  (flag_eq_one_iff _ _ _).mpr (f_raise _ (Fld.FBK_QE_STATUS_CAP n) (show 8 + 1 ≤ 32 by decide))

theorem qeCaptured_ovr : (qeCaptured n at_ s).flag (Fld.FBK_QE_STATUS_CAP_OVR n) =
    (s.flag (Fld.FBK_QE_STATUS_CAP n) || s.flag (Fld.FBK_QE_STATUS_CAP_OVR n)) := by
  let u := qeCapStored n at_ s
  have hcap : u.flag (Fld.FBK_QE_STATUS_CAP n) = s.flag (Fld.FBK_QE_STATUS_CAP n) :=
    (qeCapStored_keeps n at_ s).flag (by simp [Fld.FBK_QE_STATUS_CAP])
  have hovr : u.flag (Fld.FBK_QE_STATUS_CAP_OVR n) = s.flag (Fld.FBK_QE_STATUS_CAP_OVR n) :=
    (qeCapStored_keeps n at_ s).flag (by simp [Fld.FBK_QE_STATUS_CAP_OVR])
  have hlast : (qeCaptured n at_ s).flag (Fld.FBK_QE_STATUS_CAP_OVR n) =
      (u.raiseIf (u.flag (Fld.FBK_QE_STATUS_CAP n)) (Fld.FBK_QE_STATUS_CAP_OVR n)).flag (Fld.FBK_QE_STATUS_CAP_OVR n) :=
    congrArg (· != 0) (f_raise_apart _ _ 8 9 1 (by decide) (by decide))
  rw [hlast, hcap]
  cases s.flag (Fld.FBK_QE_STATUS_CAP n)
  · exact hovr
  · exact (flag_eq_one_iff _ _ _).mpr (f_raise u (Fld.FBK_QE_STATUS_CAP_OVR n) (show 9 + 1 ≤ 32 by decide))

end Captured

/-! ## A channel enabled (R91, R102) -/

/-- A channel cleared by its enabling. -/
def qeCleared (n : Fin 8) (s : State) : State :=
  let u := s.wr (.FBK_QE_STATUS n) (s.rd (.FBK_QE_STATUS n) &&& 0xFFFCF800#32)
  ((u.setF (Fld.FBK_QE_IDX_STAT_RUN n) 0).wr (.FBK_QE_TURNS n) 0#32).modQe n fun q => { q with lastUp := none }

theorem qeEnable_eq (n : Fin 8) (s : State) : qeEnable n s =
    let u := qeCleared n s
    if u.f (Fld.FBK_QE_CTL_MODE n) = 1 then
      match hallSector (u.f (Fld.FBK_QE_STATUS_IN n)) with
      | some k => u.setF (Fld.FBK_QE_CNT_CNT n) k
      | none => qeFail n (Fld.FBK_QE_STATUS_HALL_INV n) 0x2207 u
    else u := rfl

section Enable

variable (n : Fin 8) (s : State)

theorem qeCleared_keeps : s.keeps (qeCleared n s) [.FBK_QE_STATUS n, .FBK_QE_IDX_STAT n, .FBK_QE_TURNS n] := by
  have h : s.keeps _ [.FBK_QE_STATUS n, .FBK_QE_IDX_STAT n, .FBK_QE_TURNS n] :=
    ((keeps_wr s (.FBK_QE_STATUS n) (s.rd (.FBK_QE_STATUS n) &&& 0xFFFCF800#32) (by simp)).trans
      (keeps_setF _ (Fld.FBK_QE_IDX_STAT_RUN n) 0 (by simp [Fld.FBK_QE_IDX_STAT_RUN]))).trans (keeps_wr _ (.FBK_QE_TURNS n) 0#32 (by simp))
  exact h.trans (keeps_of_regs _ rfl)

theorem qeCleared_status : (qeCleared n s).rd (.FBK_QE_STATUS n) = s.rd (.FBK_QE_STATUS n) &&& 0xFFFCF800#32 := by
  let u := s.wr (.FBK_QE_STATUS n) (s.rd (.FBK_QE_STATUS n) &&& 0xFFFCF800#32)
  have hlast : (qeCleared n s).rd (.FBK_QE_STATUS n) = ((u.setF (Fld.FBK_QE_IDX_STAT_RUN n) 0).wr (.FBK_QE_TURNS n) 0#32).rd (.FBK_QE_STATUS n) := rfl
  exact hlast.trans ((rd_wr_ne _ _ _ _ (by simp)).trans ((rd_setF_ne u _ _ _ (by simp [Fld.FBK_QE_IDX_STAT_RUN])).trans (rd_wr s _ _)))

theorem qeCleared_turns : (qeCleared n s).rd (.FBK_QE_TURNS n) = 0#32 :=
  rd_wr (State.setF _ (Fld.FBK_QE_IDX_STAT_RUN n) 0) (.FBK_QE_TURNS n) 0#32

theorem qeCleared_run : (qeCleared n s).f (Fld.FBK_QE_IDX_STAT_RUN n) = 0 :=
  (f_wr_ne (State.setF _ (Fld.FBK_QE_IDX_STAT_RUN n) 0) (.FBK_QE_TURNS n) 0#32 _ (by simp [Fld.FBK_QE_IDX_STAT_RUN])).trans
    (f_setF _ (Fld.FBK_QE_IDX_STAT_RUN n) 0 (show 24 + 5 ≤ 32 by decide))

/-- The Hall state of a channel that a write enables is no sector. -/
def hallLost (n : Fin 8) (s : State) : Prop := s.f (Fld.FBK_QE_CTL_MODE n) = 1 ∧ hallSector (s.f (Fld.FBK_QE_STATUS_IN n)) = none

theorem qeCleared_in : (qeCleared n s).f (Fld.FBK_QE_STATUS_IN n) = s.f (Fld.FBK_QE_STATUS_IN n) :=
  (congrArg (wGet · 19 3) (qeCleared_status n s)).trans (wGet_and_ones _ _ 19 3 (by decide))

theorem hallLost_cleared : hallLost n (qeCleared n s) ↔ hallLost n s := by
  have hmode : (qeCleared n s).f (Fld.FBK_QE_CTL_MODE n) = s.f (Fld.FBK_QE_CTL_MODE n) := (qeCleared_keeps n s).f (by simp [Fld.FBK_QE_CTL_MODE])
  rw [hallLost, hallLost, hmode, qeCleared_in]

/-- Unless the Hall state is lost, the enabling sets the count at most. -/
theorem qeEnable_sector (h : ¬ hallLost n s) :
    qeEnable n s = qeCleared n s ∨ ∃ k, qeEnable n s = (qeCleared n s).setF (Fld.FBK_QE_CNT_CNT n) k := by
  rw [← hallLost_cleared, hallLost, not_and] at h
  rw [qeEnable_eq]
  by_cases hmode : (qeCleared n s).f (Fld.FBK_QE_CTL_MODE n) = 1
  · simp only [hmode, ↓reduceIte]
    cases hk : hallSector ((qeCleared n s).f (Fld.FBK_QE_STATUS_IN n)) with
    | none => exact absurd hk (h hmode)
    | some k => exact .inr ⟨k, rfl⟩
  · exact .inl (if_neg hmode)

theorem qeEnable_lost (h : hallLost n s) : qeEnable n s = qeFail n (Fld.FBK_QE_STATUS_HALL_INV n) 0x2207 (qeCleared n s) := by
  obtain ⟨hmode, hsector⟩ := (hallLost_cleared n s).mpr h
  rw [qeEnable_eq]
  simp only [hmode, hsector, ↓reduceIte]

/-- The cause's bit and FAILED, as a failing channel shows them before the fault is recorded. -/
def qeFailing (n : Fin 8) (F : RF) (s : State) : State := (s.raise F).raise (Fld.FBK_QE_STATUS_FAILED n)

theorem qeFail_eq (F : RF) (code : Nat) : qeFail n F code s = recordFault code (qeFailing n F s) := rfl

/-- A failing channel changes no register of its block but STATUS. -/
theorem qeFail_rd (i code : Nat) (r : Reg) (hr : r.inDsg = false) :
    (qeFail n ⟨.FBK_QE_STATUS n, i, 1⟩ code s).rd r = (qeFailing n ⟨.FBK_QE_STATUS n, i, 1⟩ s).rd r :=
  ((recordFault0_discharged code _).trans (dsgWatch_discharged _)).regs r hr

theorem qeFailing_keeps (i : Nat) : s.keeps (qeFailing n ⟨.FBK_QE_STATUS n, i, 1⟩ s) [.FBK_QE_STATUS n] :=
  (keeps_raise s _ (by simp)).trans (keeps_raise _ _ (by simp [Fld.FBK_QE_STATUS_FAILED]))

theorem addr_qeStatus : (Reg.FBK_QE_STATUS n).addr / 0x10000 = 0x4003 := by simp only [Reg.addr]; omega
theorem addr_qeIdxStat : (Reg.FBK_QE_IDX_STAT n).addr / 0x10000 = 0x4003 := by simp only [Reg.addr]; omega
theorem addr_qeTurns : (Reg.FBK_QE_TURNS n).addr / 0x10000 = 0x4003 := by simp only [Reg.addr]; omega
theorem addr_qeCtl : (Reg.FBK_QE_CTL n).addr / 0x10000 = 0x4003 := by simp only [Reg.addr]; omega

end Enable

section Enabled

variable (n : Fin 8) (s : State)

/-- A channel that its enabling does not fail. -/
theorem qeEnable_shows (h : ¬ hallLost n s) :
    let t := qeEnable n s
    wGet (t.rd (.FBK_QE_STATUS n)) 0 11 = 0 ∧ t.f (Fld.FBK_QE_STATUS_FAILED n) = 0 ∧ t.f (Fld.FBK_QE_STATUS_HOMED n) = 0 ∧
      t.f (Fld.FBK_QE_IDX_STAT_RUN n) = 0 ∧ t.rd (.FBK_QE_TURNS n) = 0#32 ∧
      s.keeps t [.FBK_QE_STATUS n, .FBK_QE_IDX_STAT n, .FBK_QE_TURNS n, .FBK_QE_CNT n] ∧ s.keepsMem t := by
  intro t
  have hcnt : (qeCleared n s).keeps t [.FBK_QE_CNT n] ∧ (qeCleared n s).keepsMem t := by
    rcases qeEnable_sector n s h with e | ⟨k, e⟩
    · exact e ▸ ⟨fun _ _ => rfl, rfl, rfl⟩
    · have ht : t = _ := e
      exact ht ▸ ⟨keeps_setF _ _ _ (by simp [Fld.FBK_QE_CNT_CNT]), rfl, rfl⟩
  obtain ⟨hkeep, hmem⟩ := hcnt
  have hstatus : t.rd (.FBK_QE_STATUS n) = s.rd (.FBK_QE_STATUS n) &&& 0xFFFCF800#32 := (hkeep _ (by simp)).trans (qeCleared_status n s)
  refine ⟨?_, ?_, ?_, ?_, ?_, fun r hr => ?_, hmem⟩
  · rw [hstatus]
    exact wGet_and_zero _ _ _ _ (by decide)
  · exact (congrArg (wGet · 16 1) hstatus).trans (wGet_and_zero _ _ _ _ (by decide))
  · exact (congrArg (wGet · 17 1) hstatus).trans (wGet_and_zero _ _ _ _ (by decide))
  · exact (hkeep.f (by simp [Fld.FBK_QE_IDX_STAT_RUN])).trans (qeCleared_run n s)
  · exact (hkeep _ (by simp)).trans (qeCleared_turns n s)
  · simp only [List.mem_cons, List.not_mem_nil, or_false, not_or] at hr
    obtain ⟨hst, hidx, hturns, hc⟩ := hr
    exact (hkeep r (by simp [hc])).trans (qeCleared_keeps n s r (by simp [hst, hidx, hturns]))

/-- A Hall channel that its enabling fails (R91). -/
theorem qeEnable_fails (h : hallLost n s) :
    let t := qeEnable n s
    t.f (Fld.FBK_QE_STATUS_HALL_INV n) = 1 ∧ t.f (Fld.FBK_QE_STATUS_FAILED n) = 1 ∧ t.f (Fld.FBK_QE_STATUS_HOMED n) = 0 ∧
      t.f (Fld.FBK_QE_IDX_STAT_RUN n) = 0 ∧ t.rd (.FBK_QE_TURNS n) = 0#32 ∧ t.rd (.FBK_QE_CTL n) = s.rd (.FBK_QE_CTL n) ∧
      (s.dsgRun = false → s.faultFrame t [0x4003]) := by
  intro t
  let u := qeFailing n (Fld.FBK_QE_STATUS_HALL_INV n) (qeCleared n s)
  have ht : t = qeFail n (Fld.FBK_QE_STATUS_HALL_INV n) 0x2207 (qeCleared n s) := qeEnable_lost n s h
  have hrd (r : Reg) (hr : r.inDsg = false) : t.rd r = u.rd r := by rw [ht]; exact qeFail_rd n (qeCleared n s) 7 0x2207 r hr
  have hkeep : (qeCleared n s).keeps u [.FBK_QE_STATUS n] := qeFailing_keeps n (qeCleared n s) 7
  have hclear := qeCleared_keeps n s
  have hhomed : u.f (Fld.FBK_QE_STATUS_HOMED n) = (qeCleared n s).f (Fld.FBK_QE_STATUS_HOMED n) :=
    (f_raise_apart _ _ 16 17 1 (by decide) (by decide)).trans (f_raise_apart _ _ 7 17 1 (by decide) (by decide))
  refine ⟨?_, ?_, ?_, ?_, ?_, ?_, fun hd => ?_⟩
  · exact (f_congr (Fld.FBK_QE_STATUS_HALL_INV n) (hrd _ rfl)).trans ((f_raise_apart _ _ 16 7 1 (by decide) (by decide)).trans
      (f_raise (qeCleared n s) (Fld.FBK_QE_STATUS_HALL_INV n) (show 7 + 1 ≤ 32 by decide)))
  · exact (f_congr (Fld.FBK_QE_STATUS_FAILED n) (hrd _ rfl)).trans
      (f_raise (State.raise _ _) (Fld.FBK_QE_STATUS_FAILED n) (show 16 + 1 ≤ 32 by decide))
  · exact (f_congr (Fld.FBK_QE_STATUS_HOMED n) (hrd _ rfl)).trans
      (hhomed.trans ((congrArg (wGet · 17 1) (qeCleared_status n s)).trans (wGet_and_zero _ _ _ _ (by decide))))
  · exact (f_congr (Fld.FBK_QE_IDX_STAT_RUN n) (hrd _ rfl)).trans ((hkeep.f (by simp [Fld.FBK_QE_IDX_STAT_RUN])).trans (qeCleared_run n s))
  · exact (hrd _ rfl).trans ((hkeep _ (by simp)).trans (qeCleared_turns n s))
  · exact (hrd _ rfl).trans ((hkeep _ (by simp)).trans (hclear _ (by simp)))
  · have hdu : u.dsgRun = false := (dsgRun_congr ((hkeep _ (by simp)).trans (hclear _ (by simp)))).trans hd
    have hrec : Recorded u t := by
      rw [ht, qeFail_eq]
      exact recordFault_recorded _ u (by decide) (by decide) hdu
    exact ((hclear.faultFrame ⟨rfl, rfl⟩ (by simp [addr_qeStatus, addr_qeIdxStat, addr_qeTurns])).trans
      (hkeep.faultFrame ⟨rfl, rfl⟩ (by simp [addr_qeStatus]))).trans (hrec.faultFrame _)

end Enabled

/-! ## A write to FBK_QEn_CTL by its access codes (R102, R106) -/

section Ctl

variable (s : State) (n : Fin 8) (v : Word)

theorem wGet_qeCtl_en : wGet (writeMerged s (.FBK_QE_CTL n) v) 0 1 = wGet v 0 1 := by
  rw [wGet_writeMerged s _ v ⟨0, 1, .rw, 0, []⟩ (by simp [Reg.rows]) (by decide)]
  exact if_pos rfl

theorem wGet_qeCtl_dsPol : wGet (writeMerged s (.FBK_QE_CTL n) v) 5 1 = wGet v 5 1 := by
  rw [wGet_writeMerged s _ v ⟨5, 1, .rw, 0, []⟩ (by simp [Reg.rows]) (by decide)]
  exact if_pos rfl

/-- MODE takes a defined value before the lock. -/
theorem wGet_qeCtl_mode : wGet (writeMerged s (.FBK_QE_CTL n) v) 1 2 =
    if s.locked = false ∧ wGet v 1 2 < 2 then wGet v 1 2 else wGet (s.rd (.FBK_QE_CTL n)) 1 2 := by
  rw [wGet_writeMerged s _ v ⟨1, 2, .rwl, 0, [(2, 3)]⟩ (by simp [Reg.rows]) (by decide)]
  have hlt := wGet_lt v 1 2
  refine if_congr ?_ rfl rfl
  simp only [fieldTakes_iff, accepts_rwl, List.mem_singleton, forall_eq, Bool.not_eq_true']
  refine and_congr_right fun _ => ⟨fun h => by omega, fun h => ⟨by omega, rfl⟩⟩

/-- A control register written on an enabled channel, with MODE guarded (R106). -/
def qeCtlPut (n : Fin 8) (v : Word) (s : State) : State := writeGuarded (.FBK_QE_CTL n) v (wMask 1 2) (qeIgn n) s

/-- The word that the register takes then. -/
def qeCtlWord (n : Fin 8) (v : Word) (s : State) : Word := (guardMask (s.rd (.FBK_QE_CTL n)) (writeMerged s (.FBK_QE_CTL n) v) (wMask 1 2)).1

/-- The write would change MODE. -/
def qeModeLost (n : Fin 8) (v : Word) (s : State) : Prop := wGet (writeMerged s (.FBK_QE_CTL n) v) 1 2 ≠ s.f (Fld.FBK_QE_CTL_MODE n)

theorem qeCtlPut_cases (n : Fin 8) (v : Word) (s : State) :
    (qeModeLost n v s ∧ qeCtlPut n v s = qeIgn n (s.wr (.FBK_QE_CTL n) (qeCtlWord n v s))) ∨
      (¬ qeModeLost n v s ∧ qeCtlPut n v s = s.wr (.FBK_QE_CTL n) (qeCtlWord n v s)) := by
  have hlost := guardMask_lost (s.rd (.FBK_QE_CTL n)) (writeMerged s (.FBK_QE_CTL n) v) 1 2 (by decide)
  rw [qeCtlPut, writeGuarded_eq]
  by_cases h : qeModeLost n v s
  · exact .inl ⟨h, if_pos (hlost.mpr h)⟩
  · exact .inr ⟨h, if_neg fun k => h (hlost.mp k)⟩

theorem qeCtlPut_rd : (qeCtlPut n v s).rd (.FBK_QE_CTL n) = qeCtlWord n v s := by
  rcases qeCtlPut_cases n v s with ⟨-, e⟩ | ⟨-, e⟩ <;> rw [e]
  · exact (rd_raise_ne _ _ _ (by simp [Fld.FBK_QE_STATUS_WR_IGN])).trans (rd_wr _ _ _)
  · exact rd_wr _ _ _

theorem qeCtlPut_onlyRegs : s.onlyRegs (qeCtlPut n v s) [.FBK_QE_CTL n, .FBK_QE_STATUS n] := by
  have hwr : s.onlyRegs (s.wr (.FBK_QE_CTL n) (qeCtlWord n v s)) [.FBK_QE_CTL n, .FBK_QE_STATUS n]  :=
    onlyRegs_wr s _ _ (by simp)
  rcases qeCtlPut_cases n v s with ⟨-, e⟩ | ⟨-, e⟩ <;> rw [e]
  · exact hwr.trans (onlyRegs_raise _ (Fld.FBK_QE_STATUS_WR_IGN n) (by simp [Fld.FBK_QE_STATUS_WR_IGN]))
  · exact hwr

end Ctl

section Write

variable {s : State} {n : Fin 8} {v : Word}

/-- A control write finds the counts and index events of the core cycles before its own applied. -/
def qeBefore (n : Fin 8) (s : State) : State := qeSettle n (s.time - 1) s

theorem qeBefore_ctl (n : Fin 8) (s : State) : (qeBefore n s).rd (.FBK_QE_CTL n) = s.rd (.FBK_QE_CTL n) :=
  (qeSettle_counted n s _).regs _ rfl rfl

theorem qeBefore_on (n : Fin 8) (s : State) : (qeBefore n s).qeOn n = s.flag (Fld.FBK_QE_CTL_EN n) :=
  flag_congr (Fld.FBK_QE_CTL_EN n) (qeBefore_ctl n s)

theorem qeCtlWrite_enabled (hon : s.flag (Fld.FBK_QE_CTL_EN n) = true) : qeCtlWrite n v s = qeCtlPut n v (qeBefore n s) := by
  have h : (qeBefore n s).qeOn n = true := by rw [qeBefore_on, hon]
  unfold qeCtlWrite
  simp only [← qeBefore.eq_1, h, Bool.not_true, Bool.false_and, Bool.false_eq_true, ↓reduceIte]
  rfl

theorem qeCtlWrite_enables (hoff : s.flag (Fld.FBK_QE_CTL_EN n) = false) (hv : v.getLsbD 0 = true) :
    qeCtlWrite n v s = qeEnable n (writePlain (.FBK_QE_CTL n) v (qeBefore n s)) := by
  have h : (qeBefore n s).qeOn n = false := by rw [qeBefore_on, hoff]
  have hnow : (writePlain (.FBK_QE_CTL n) v (qeBefore n s)).qeOn n = true :=
    (flag_eq_testBit _ _ _).trans ((congrArg (·.getLsbD 0) (rd_writePlain _ v _)).trans ((getLsbD_of_wGet (wGet_qeCtl_en _ n v)).trans hv))
  unfold qeCtlWrite
  simp only [← qeBefore.eq_1, h, Bool.false_eq_true, ↓reduceIte, writeGuarded_zero, hnow, Bool.not_false, Bool.and_self]

/-- A channel enabled by a write to its control register (R102). -/
theorem qeEnable_writePlain_shows (u : State) (hv : v.getLsbD 0 = true) :
    let t := qeEnable n (writePlain (.FBK_QE_CTL n) v u)
    let lost := t.f (Fld.FBK_QE_CTL_MODE n) = 1 ∧ hallSector (u.f (Fld.FBK_QE_STATUS_IN n)) = none
    t.flag (Fld.FBK_QE_CTL_EN n) = true ∧ t.f (Fld.FBK_QE_STATUS_HOMED n) = 0 ∧ t.f (Fld.FBK_QE_IDX_STAT_RUN n) = 0 ∧
    t.rd (.FBK_QE_TURNS n) = 0#32 ∧
    (¬ lost → wGet (t.rd (.FBK_QE_STATUS n)) 0 11 = 0 ∧ t.f (Fld.FBK_QE_STATUS_FAILED n) = 0 ∧
      u.keeps t [.FBK_QE_CTL n, .FBK_QE_STATUS n, .FBK_QE_IDX_STAT n, .FBK_QE_TURNS n, .FBK_QE_CNT n] ∧ u.keepsMem t) ∧
    (lost → t.f (Fld.FBK_QE_STATUS_HALL_INV n) = 1 ∧ t.f (Fld.FBK_QE_STATUS_FAILED n) = 1 ∧ (u.dsgRun = false → u.faultFrame t [0x4003])) := by
  intro t lost
  let w := writePlain (.FBK_QE_CTL n) v u
  have hput : u.keeps w [.FBK_QE_CTL n] := keeps_wr _ _ _ (by simp)
  have hen : w.flag (Fld.FBK_QE_CTL_EN n) = true :=
    (flag_eq_testBit _ _ _).trans ((congrArg (·.getLsbD 0) (rd_writePlain _ v _)).trans ((getLsbD_of_wGet (wGet_qeCtl_en _ n v)).trans hv))
  have hctl : t.rd (.FBK_QE_CTL n) = w.rd (.FBK_QE_CTL n) := by
    by_cases h : hallLost n w
    · obtain ⟨-, -, -, -, -, hkept, -⟩ := qeEnable_fails n w h
      exact hkept
    · obtain ⟨-, -, -, -, -, hkeep, -⟩ := qeEnable_shows n w h
      exact hkeep _ (by simp)
  have hlost : lost ↔ hallLost n w := by
    have hmode : t.f (Fld.FBK_QE_CTL_MODE n) = w.f (Fld.FBK_QE_CTL_MODE n) := f_congr _ hctl
    have hin : w.f (Fld.FBK_QE_STATUS_IN n) = u.f (Fld.FBK_QE_STATUS_IN n) := hput.f (by simp [Fld.FBK_QE_STATUS_IN])
    simp only [lost, hallLost, hmode, hin]
  have hent : t.flag (Fld.FBK_QE_CTL_EN n) = true := (flag_congr _ hctl).trans hen
  rw [hlost]
  by_cases h : hallLost n w
  · obtain ⟨hinv, hfailed, hhomed, hrun, hturns, -, hframe⟩ := qeEnable_fails n w h
    refine ⟨hent, hhomed, hrun, hturns, fun k => absurd h k, fun _ => ⟨hinv, hfailed, fun hd => ?_⟩⟩
    exact (hput.faultFrame ⟨rfl, rfl⟩ (by simp [addr_qeCtl])).trans (hframe ((dsgRun_congr (hput _ (by simp))).trans hd))
  · obtain ⟨hsticky, hfailed, hhomed, hrun, hturns, hkeep, hmem⟩ := qeEnable_shows n w h
    refine ⟨hent, hhomed, hrun, hturns, fun _ => ⟨hsticky, hfailed, fun r hr => ?_, hmem⟩, fun k => absurd k h⟩
    simp only [List.mem_cons, List.not_mem_nil, or_false, not_or] at hr
    obtain ⟨hc, hst, hidx, htu, hcnt⟩ := hr
    exact (hkeep r (by simp [hst, hidx, htu, hcnt])).trans (hput r (by simp [hc]))

/-- A control write to an enabled channel (R106). -/
theorem qeCtlWrite_enabled_shows (hon : s.flag (Fld.FBK_QE_CTL_EN n) = true) :
    let t := qeCtlWrite n v s
    let u := qeBefore n s
    t.f (Fld.FBK_QE_CTL_MODE n) = s.f (Fld.FBK_QE_CTL_MODE n) ∧ t.flag (Fld.FBK_QE_CTL_EN n) = v.getLsbD 0 ∧
    t.flag (Fld.FBK_QE_CTL_DS_POL n) = v.getLsbD 5 ∧
    (s.locked = false → wGet v 1 2 < 2 → wGet v 1 2 ≠ s.f (Fld.FBK_QE_CTL_MODE n) → t.flag (Fld.FBK_QE_STATUS_WR_IGN n) = true) ∧
    (wGet v 1 2 = s.f (Fld.FBK_QE_CTL_MODE n) → t.rd (.FBK_QE_STATUS n) = u.rd (.FBK_QE_STATUS n)) ∧
    u.onlyRegs t [.FBK_QE_CTL n, .FBK_QE_STATUS n] := by
  intro t u
  have ht : t = qeCtlPut n v u := qeCtlWrite_enabled hon
  have hctl : t.rd (.FBK_QE_CTL n) = qeCtlWord n v u := by rw [ht]; exact qeCtlPut_rd u n v
  have hmode : u.f (Fld.FBK_QE_CTL_MODE n) = s.f (Fld.FBK_QE_CTL_MODE n) := f_congr _ (qeBefore_ctl n s)
  have hlocked : u.locked = s.locked := (qeSettle_counted n s _).locked
  have hmerged := wGet_qeCtl_mode u n v
  have hbit (i : Nat) (hi : i + 1 ≤ 1 ∨ 3 ≤ i) (hfit : i + 1 ≤ 32) (hw : wGet (writeMerged u (.FBK_QE_CTL n) v) i 1 = wGet v i 1) :
      t.flag ⟨.FBK_QE_CTL n, i, 1⟩ = v.getLsbD i :=
    (flag_eq_testBit _ _ _).trans ((congrArg (·.getLsbD i) hctl).trans
      (getLsbD_of_wGet ((wGet_guardMask_out _ _ 1 2 i 1 hfit (by omega)).trans hw)))
  refine ⟨?_, hbit 0 (by decide) (by decide) (wGet_qeCtl_en u n v), hbit 5 (by decide) (by decide) (wGet_qeCtl_dsPol u n v),
    fun hopen hdef hne => ?_, fun heq => ?_, ?_⟩
  · exact (congrArg (wGet · 1 2) hctl).trans ((wGet_guardMask_in _ _ 1 2 (by decide)).trans hmode)
  · rw [if_pos ⟨hlocked.trans hopen, hdef⟩] at hmerged
    have hlost : qeModeLost n v u := by rw [qeModeLost, hmerged, hmode]; exact hne
    rcases qeCtlPut_cases n v u with ⟨-, e⟩ | ⟨h, -⟩
    · rw [ht, e]
      exact (flag_eq_one_iff _ _ _).mpr (f_raise _ (Fld.FBK_QE_STATUS_WR_IGN n) (show 10 + 1 ≤ 32 by decide))
    · exact absurd hlost h
  · have hkept : ¬ qeModeLost n v u := by
      rw [qeModeLost, hmerged, not_not]
      split
      · exact heq.trans hmode.symm
      · rfl
    rcases qeCtlPut_cases n v u with ⟨h, -⟩ | ⟨-, e⟩
    · exact absurd h hkept
    · rw [ht, e]
      exact rd_wr_ne _ _ _ _ (by simp)
  · rw [ht]
    exact qeCtlPut_onlyRegs u n v

end Write

/-- A capture from a state of which a trigger has been taken, in the core cycle in which it arrives (R100, R107). -/
theorem qeCaptured_shows (n : Fin 8) (at_ cyc : Nat) (u : State) (p : PostSt) :
    let t := qeCaptured n at_ ((u.withPost p).advance cyc)
    t.post = p ∧ t.time = max u.time cyc ∧
      t.rd (.FBK_QE_CAP_CNT n) = BitVec.ofNat 32 (u.f (Fld.FBK_QE_CNT_CNT n) + 2 ^ 24 * wGet (u.rd (.FBK_QE_TURNS n)) 0 8) ∧
      t.rd (.FBK_QE_CAP_T n) = BitVec.ofNat 32 at_ ∧ t.flag (Fld.FBK_QE_STATUS_CAP n) = true ∧
      t.flag (Fld.FBK_QE_STATUS_CAP_OVR n) = (u.flag (Fld.FBK_QE_STATUS_CAP n) || u.flag (Fld.FBK_QE_STATUS_CAP_OVR n)) ∧
      u.keeps t [.FBK_QE_CAP_CNT n, .FBK_QE_CAP_T n, .FBK_QE_STATUS n] ∧ u.keepsMem t ∧ t.man = u.man := by
  intro t
  let w := (u.withPost p).advance cyc
  have hsame {α : Type} (part : State → α) (hwr : ∀ (u : State) r w, part (u.wr r w) = part u)
      (hnote : ∀ (u : State) r m, part (u.noteHot r m) = part u) : part t = part w := qeCaptured_same n at_ w part hwr hnote
  exact ⟨hsame State.post (fun _ _ _ => rfl) fun _ _ _ => rfl, hsame State.time (fun _ _ _ => rfl) fun _ _ _ => rfl, qeCaptured_count n at_ w,
    qeCaptured_time n at_ w, qeCaptured_cap n at_ w, qeCaptured_ovr n at_ w, qeCaptured_keeps n at_ w,
    ⟨hsame State.mem (fun _ _ _ => rfl) fun _ _ _ => rfl, hsame State.chk (fun _ _ _ => rfl) fun _ _ _ => rfl⟩,
    hsame State.man (fun _ _ _ => rfl) fun _ _ _ => rfl⟩

/-- Settles O13: the counts and index events that come before each command leave CTL, the lock and what is on its way, and each command is
then a change of a few registers of the channel. -/
theorem feedbackWritesAndCaptures : Obligations.FeedbackWritesAndCaptures := by
  unfold Obligations.FeedbackWritesAndCaptures
  intro s n
  refine ⟨fun c hacc hline => qeSettle_rest n c s hacc hline, writes_agentTurn rfl ?_, writes_agentTurn rfl ?_, writes_agentTurn rfl ?_,
    writes_agentTurn rfl ?_, fun before at_ cyc rest hcap hb => ?_, fun v hoff hv => writes_agentTurn rfl ?_, fun v hon => writes_agentTurn rfl ?_⟩
  · let u := qeSettle n s.atWrite.time s.atWrite
    exact ⟨f_setF u (Fld.FBK_QE_STATUS_HOMED n) 0 (show 17 + 1 ≤ 32 by decide), (rd_setF u (Fld.FBK_QE_STATUS_HOMED n) 0).trans (wPut_zero _ _ _),
      onlyRegs_setF u _ _ (by simp [Fld.FBK_QE_STATUS_HOMED])⟩
  · let u := qeSettle n s.atWrite.time s.atWrite
    exact ⟨f_setF u (Fld.FBK_QE_ERRCNT_DS_CNT n) 0 (show 0 + 16 ≤ 32 by decide), f_setF_apart u _ 0 16 0 16 16 (by decide) (by decide),
      onlyRegs_setF u _ _ (by simp [Fld.FBK_QE_ERRCNT_DS_CNT])⟩
  · let u := qeSettle n s.atWrite.time s.atWrite
    let w := u.setF (Fld.FBK_QE_ERRCNT_IDX_MISS n) 0
    refine ⟨?_, f_setF w (Fld.FBK_QE_IDX_STAT_RUN n) 0 (show 24 + 5 ≤ 32 by decide), ?_, ?_, ?_⟩
    · exact (f_setF_reg w _ _ 0 (by simp [Fld.FBK_QE_ERRCNT_IDX_MISS, Fld.FBK_QE_IDX_STAT_RUN])).trans
        (f_setF u (Fld.FBK_QE_ERRCNT_IDX_MISS n) 0 (show 16 + 16 ≤ 32 by decide))
    · exact (f_setF_reg w _ _ 0 (by simp [Fld.FBK_QE_ERRCNT_DS_CNT, Fld.FBK_QE_IDX_STAT_RUN])).trans
        (f_setF_apart u _ 16 16 0 0 16 (by decide) (by decide))
    · exact (f_setF_apart w _ 24 5 0 0 24 (by decide) (by decide)).trans
        (f_setF_reg u _ _ 0 (by simp [Fld.FBK_QE_ERRCNT_IDX_MISS]))
    · exact (onlyRegs_setF u _ _ (by simp [Fld.FBK_QE_ERRCNT_IDX_MISS])).trans (onlyRegs_setF w _ _ (by simp [Fld.FBK_QE_IDX_STAT_RUN]))
  · rfl
  · rw [gives, exec_capture hcap hb]
    obtain ⟨hpost, hrest⟩ := qeCaptured_shows n at_ cyc (qeSettle n cyc s) { s.post with cap := before ++ rest }
    exact ⟨_, rfl, congrArg PostSt.cap hpost, hrest⟩
  · rw [qeCtlWrite_enables ((flag_atWrite s _).trans hoff) hv]
    obtain ⟨hen, hhomed, hrun, hturns, hkept, hlost⟩ := qeEnable_writePlain_shows (n := n) (qeBefore n s.atWrite) hv
    exact ⟨hen, hhomed, hrun, hturns, hkept, fun h => (hlost h).imp_right fun k => k.imp_right fun hframe hd =>
      hframe ((qeSettle_counted n s.atWrite _).quiet hd)⟩
  · exact qeCtlWrite_enabled_shows ((flag_atWrite s _).trans hon)

end Sys2Proof.Machine
end

section
/-! SUPPORT. The sinc filters as sums of bits (R114, R123), and a word's normalisation and trim (R114). -/

namespace Sys2Proof.Machine

open Sys2Proof

/-! ## Running sums -/

/-- The sums of a list's beginnings, for a list given by its numbers. -/
theorem sums_map_range (g : Nat → Nat) (n acc : Nat) :
    sums acc ((List.range n).map g) = (List.range (n + 1)).map fun i => acc + ((List.range i).map g).sum := by
  induction n generalizing g acc with
  | zero => simp [sums]
  | succ n ih =>
    rw [List.range_succ_eq_map, List.map_cons, List.map_map, sums, ih, List.range_succ_eq_map (n := n + 1), List.map_cons, List.map_map]
    refine congrArg₂ _ (by simp) (List.map_congr_left fun i _ => ?_)
    simp [List.range_succ_eq_map, Function.comp_def, Nat.add_assoc]

/-- The sum of a beginning and of what follows it. -/
theorem sum_map_range_add (g : Nat → Nat) (i w : Nat) :
    ((List.range (i + w)).map g).sum = ((List.range i).map g).sum + ((List.range w).map fun j => g (i + j)).sum := by
  simp [List.range_add, Function.comp_def]

theorem boxcar_map_range (g : Nat → Nat) (w n : Nat) :
    boxcar w ((List.range n).map g) = (List.range (n + 1 - w)).map fun i => ((List.range w).map fun j => g (i + j)).sum := by
  apply List.ext_getElem
  · simp [boxcar, sums_map_range]
  · intro i _ _
    simp [boxcar, sums_map_range, Nat.add_comm w i, sum_map_range_add]

theorem sinc2_eq (osr bits : Nat) (h : 0 < osr) :
    sinc2 osr bits = ((List.range osr).map fun i => ((List.range osr).map fun j => bit (bits.testBit (i + j))).sum).sum := by
  rw [sinc2, bitList, boxcar_map_range, boxcar_map_range, show 2 * osr - 1 + 1 - osr + 1 - osr = 1 by omega]
  simp

theorem sinc3_eq (osr bits : Nat) (h : 0 < osr) :
    sinc3 osr bits = ((List.range osr).map fun i => ((List.range osr).map fun j =>
      ((List.range osr).map fun l => bit (bits.testBit (1 + i + j + l))).sum).sum).sum := by
  rw [sinc3, bitList, boxcar_map_range, boxcar_map_range, boxcar_map_range, show 3 * osr - 2 + 1 - osr + 1 - osr + 1 - osr = 1 by omega]
  simp [Nat.add_assoc]

/-! ## Numbers in two's complement -/

theorem sext_eq_toInt {w : Nat} (hw : 0 < w) (n : Nat) : sext w n = (BitVec.ofNat w n).toInt := by
  have hpow : 2 ^ w = 2 * 2 ^ (w - 1) := by rw [← pow_succ', Nat.sub_add_cancel hw]
  rw [sext, BitVec.toInt_eq_toNat_cond, BitVec.toNat_ofNat]
  exact if_congr (by omega) rfl (by push_cast; rfl)

end Sys2Proof.Machine
end

section
/-! SUPPORT. What the happenings of the sensing block change and leave (R113, R116 to R122): a relation between the states before and after, and
one lemma per operation. -/

namespace Sys2Proof.Machine

open Sys2Proof

/-! ## Registers kept, among more -/

theorem State.keeps.weaken {s t : State} {rs qs : List Reg} (h : s.keeps t rs) (hsub : ∀ r ∈ rs, r ∈ qs) : s.keeps t qs :=
  fun r hr => h r fun hmem => hr (hsub r hmem)

theorem State.onlyRegs.weaken {s t : State} {rs qs : List Reg} (h : s.onlyRegs t rs) (hsub : ∀ r ∈ rs, r ∈ qs) : s.onlyRegs t qs :=
  ⟨h.1, h.2.weaken hsub⟩

/-! ## The relation -/

/-- The registers that windows, checks, words and stuck data write, with the axis states and the records that they make. -/
def Reg.inSense : Reg → Bool
  | .SDM_CH_DATA _ | .SDM_CH_STATUS _ | .SDM_CH_WS_T _ | .SDM_CHK_STAT _ | .SYS_AX_STATE => true
  | r => r.inRec

theorem Reg.inSense_of_inRec (r : Reg) (h : r.inRec = true) : r.inSense = true := by unfold Reg.inSense; split <;> simp [h]

theorem Reg.block_of_inSense (r : Reg) (h : r.inSense = true) : r.addr / 0x10000 ∈ [0x4000, 0x4001, 0x4010, 0x400A] := by
  unfold Reg.inSense at h
  split at h
  · next n => simp only [Reg.addr, List.mem_cons]; omega
  · next n => simp only [Reg.addr, List.mem_cons]; omega
  · next n => simp only [Reg.addr, List.mem_cons]; omega
  · next n => simp only [Reg.addr, List.mem_cons]; omega
  · decide
  · have := block_of_inRec _ h; simp only [List.mem_cons, List.not_mem_nil, or_false] at this ⊢; omega

/-- What a happening of the sensing block leaves: the registers but those, every bit set of SYS_STATUS, memory outside the Hallmark, whether
the Anvil's domain has failed, and every block but SYS, the Hallmark, the mailbox, the Anvil, the channels and DMA. -/
structure Sensed (s t : State) : Prop where
  regs : ∀ r, r.inSense = false → t.rd r = s.rd r
  status : ∀ i, (s.rd .SYS_STATUS).getLsbD i = true → (t.rd .SYS_STATUS).getLsbD i = true
  mem : ∀ a, besideHlm a → memGet t.mem a = memGet s.mem a
  failed : t.anv.failed = s.anv.failed
  rest : { t with regs := s.regs, mem := s.mem, sys := s.sys, hlm := s.hlm, mbx := s.mbx, anv := s.anv, sdm := s.sdm, dma := s.dma } = s

namespace Sensed

variable {s t u : State}

theorem refl (s : State) : Sensed s s := ⟨fun _ _ => rfl, fun _ h => h, fun _ _ => rfl, rfl, rfl⟩

theorem trans (h : Sensed s t) (k : Sensed t u) : Sensed s u where
  regs r hr := (k.regs r hr).trans (h.regs r hr)
  status i hi := k.status i (h.status i hi)
  mem a ha := (k.mem a ha).trans (h.mem a ha)
  failed := k.failed.trans h.failed
  rest := by rw [← h.rest, ← k.rest]

theorem time (h : Sensed s t) : t.time = s.time := (congrArg State.time h.rest :)
theorem chk (h : Sensed s t) : t.chk = s.chk := (congrArg State.chk h.rest :)
theorem post (h : Sensed s t) : t.post = s.post := (congrArg State.post h.rest :)

theorem f (h : Sensed s t) {F : RF} (hF : F.reg.inSense = false) : t.f F = s.f F := f_congr F (h.regs _ hF)
theorem flag (h : Sensed s t) {F : RF} (hF : F.reg.inSense = false) : t.flag F = s.flag F := flag_congr F (h.regs _ hF)

/-- A discharge is as it was. -/
theorem quiet (h : Sensed s t) (hd : s.dsgRun = false) : t.dsgRun = false := (dsgRun_congr (h.regs _ rfl)).trans hd

theorem anvLive (h : Sensed s t) : t.anvLive = s.anvLive := by
  simp only [State.anvLive, h.failed, h.flag (F := Fld.ANV_PSTAT_DONE) rfl, h.flag (F := Fld.ANV_PSTAT_RANGE_ERR) rfl]

theorem flag_status (h : Sensed s t) (i : Nat) (hi : s.flag ⟨.SYS_STATUS, i, 1⟩ = true) : t.flag ⟨.SYS_STATUS, i, 1⟩ = true :=
  (flag_eq_testBit _ _ _).trans (h.status i ((flag_eq_testBit _ _ _).symm.trans hi))

theorem faultFrame (h : Sensed s t) : s.faultFrame t [0x400A] :=
  ⟨fun r hr => h.regs r (by by_contra hn; exact hr (Reg.block_of_inSense r (by simpa using hn))), h.mem, h.chk⟩

theorem ite {c : Prop} [Decidable c] (h : Sensed s t) (k : Sensed s u) : Sensed s (if c then t else u) := by
  split
  · exact h
  · exact k

/-- A fold of operations that each sense so while no discharge runs. -/
theorem foldl {ι : Type} {g : State → ι → State} (hg : ∀ s i, s.dsgRun = false → Sensed s (g s i)) (l : List ι) (s : State)
    (hd : s.dsgRun = false) : Sensed s (l.foldl g s) := by
  induction l generalizing s with
  | nil => exact refl s
  | cons i l ih => exact (hg s i hd).trans (ih _ ((hg s i hd).quiet hd))

theorem of_recorded (h : Recorded s t) : Sensed s t where
  regs r hr := h.regs r (by by_contra hn; rw [Reg.inSense_of_inRec r (by simpa using hn)] at hr; cases hr)
  status := h.status_stays
  mem := h.mem
  failed := by rw [show t.anv = s.anv from (congrArg State.anv h.rest :)]
  rest := by
    have := h.rest
    rw [← this]

theorem wr (s : State) (r : Reg) (w : Word) (hr : r.inSense = true) (hs : r ≠ .SYS_STATUS) : Sensed s (s.wr r w) where
  regs q hq := rd_wr_ne s r q w (by rintro rfl; simp [hr] at hq)
  status i h := by rwa [rd_wr_ne s r _ w hs.symm]
  mem _ _ := rfl
  failed := rfl
  rest := rfl

theorem setF (s : State) (F : RF) (v : Nat) (hr : F.reg.inSense = true) (hs : F.reg ≠ .SYS_STATUS) : Sensed s (s.setF F v) :=
  wr s F.reg _ hr hs

theorem raise (s : State) (F : RF) (hr : F.reg.inSense = true) (hs : F.reg ≠ .SYS_STATUS) : Sensed s (s.raise F) :=
  (setF s F 1 hr hs).trans ⟨fun _ _ => rfl, fun _ h => h, fun _ _ => rfl, rfl, rfl⟩

theorem modSdm (s : State) (k : Fin 32) (f : SdmCh → SdmCh) : Sensed s (s.modSdm k f) :=
  ⟨fun _ _ => rfl, fun _ h => h, fun _ _ => rfl, rfl, rfl⟩

/-- A fault code of a class whose reaction is its recorder's. -/
theorem recordFault (code : Nat) (s : State) (h3 : faultClass code ≠ 3) (h4 : faultClass code ≠ 4) (hd : s.dsgRun = false) :
    Sensed s (recordFault code s) := of_recorded (recordFault_recorded code s h3 h4 hd)

end Sensed

/-- The records of a fault touch no channel. -/
theorem Recorded.sdm {s t : State} (h : Recorded s t) : t.sdm = s.sdm := (congrArg State.sdm h.rest :)

/-! ## The set-up of a channel (R111, R115, R118) -/

section Setup

variable {s t : State} (h : ∀ r : Reg, r.inSense = false → t.rd r = s.rd r)
include h

theorem sdmOn_congr (k : Fin 32) : t.sdmOn k = s.sdmOn k := flag_congr _ (h _ rfl)
theorem pairOn_congr (k : Fin 32) : t.pairOn k = s.pairOn k := flag_congr _ (h _ rfl)
theorem sdmClock_congr (k : Fin 32) : sdmClock t k = sdmClock s k := by
  simp only [sdmClock, f_congr (Fld.SDM_CH_CTL_CK k) (h _ rfl)]
theorem sdmDiv_congr (k : Fin 32) : sdmDiv t k = sdmDiv s k := by
  rw [sdmDiv, sdmClock_congr h]; exact f_congr _ (h _ rfl)
theorem winOwner_congr (k : Fin 32) : winOwner t k = winOwner s k := by
  simp only [winOwner, flag_congr (Fld.SDM_CHK_CTL_EN _) (h (.SDM_CHK_CTL _) rfl)]
theorem sdmWin_congr (k : Fin 32) : sdmWin t k = sdmWin s k := by
  rw [sdmWin, winOwner_congr h]; exact f_congr _ (h _ rfl)
theorem sdmOsr_congr (k : Fin 32) : sdmOsr t k = sdmOsr s k := by
  rw [sdmOsr, winOwner_congr h, f_congr _ (h _ rfl)]; rfl

end Setup

/-- The clock of an enabled channel runs (R111). -/
def State.sdmRuns (s : State) (k : Fin 32) : Prop := s.sdmOn k = true ∧ s.flag (Fld.SDM_CK_CTL_EN (sdmClock s k)) = true

theorem sdmRuns_congr {s t : State} (h : ∀ r : Reg, r.inSense = false → t.rd r = s.rd r) (k : Fin 32) : t.sdmRuns k ↔ s.sdmRuns k := by
  rw [State.sdmRuns, sdmOn_congr h, sdmClock_congr h, flag_congr _ (h _ rfl)]; rfl

/-- A running clock rises at every multiple of its divider. -/
theorem sdckRise_multiple {s : State} {k : Fin 32} (hr : s.sdmRuns k) (hdiv : 0 < sdmDiv s k) (n : Nat) :
    sdckRise s (sdmClock s k) (n * sdmDiv s k) = true := by
  have hmax : max 1 (s.f (Fld.SDM_CK_CTL_DIV (sdmClock s k))) = sdmDiv s k := Nat.max_eq_right hdiv
  simp only [sdckRise, hr.2, hmax, Nat.mul_mod_left, Bool.true_and, decide_true]

/-! ## Axes held, and channels stopped (R121) -/

theorem brakeDrop_failed (p : Fin 2 → Bool) (s : State) : (brakeDrop p s).anv.failed = s.anv.failed := by
  unfold brakeDrop
  generalize List.finRange 2 = l
  induction l generalizing s with
  | nil => rfl
  | cons k l ih =>
    rw [List.foldl_cons, ih]
    split <;> rfl

theorem setAxis_sensed (n : Fin 4) (v : Nat) (s : State) : Sensed s (s.setAxis n v) := by
  unfold State.setAxis
  extract_lets old src s1 s2
  have h1 : Sensed s s1 := .ite (.refl s) ⟨fun _ _ => rfl, fun _ h => h, fun _ _ => rfl, rfl, rfl⟩
  have h2 : Sensed s1 s2 := .wr s1 .SYS_AX_STATE _ rfl (by decide)
  have hdrop (p : Fin 2 → Bool) : Sensed s2 (brakeDrop p s2) := by
    obtain ⟨x, hx⟩ := brakeDrop_anv p s2
    refine ⟨fun r _ => rd_brakeDrop p s2 r, fun i hi => by rwa [rd_brakeDrop], ?_, brakeDrop_failed p s2, ?_⟩ <;> rw [hx]
    exact fun _ _ => rfl
  exact ((h1.trans h2).trans (hdrop _)).trans (.of_recorded (axisEvent_recorded _ _ _ _))

theorem setAxis_sdm (n : Fin 4) (v : Nat) (s : State) : (s.setAxis n v).sdm = s.sdm := (congrArg State.sdm (setAxis_inAxis n v s).rest :)

theorem sdmReaction_axis {k : Fin 32} {n : Fin 4} (h : k.val % 16 / 3 = n.val) (s : State) (hd : s.dsgRun = false) :
    sdmReaction k s = s.setAxis n axHold := by
  have hn := n.isLt
  rw [sdmReaction, dif_pos (by omega), show (⟨k.val % 16 / 3, by omega⟩ : Fin 4) = n from Fin.ext h]
  exact dsgWatch_idle _ ((setAxis_sensed n axHold s).quiet hd)

theorem sdmReaction_free {k : Fin 32} (h : 12 ≤ k.val % 16) (s : State) : sdmReaction k s = s.modSdm k fun c => { c with halted := true } :=
  dif_neg (by omega)

/-- A channel belongs to an axis, or is free (R110). -/
theorem axis_or_free (k : Fin 32) : (∃ n : Fin 4, k.val % 16 / 3 = n.val) ∨ 12 ≤ k.val % 16 := by
  by_cases h : 12 ≤ k.val % 16
  · exact .inr h
  · exact .inl ⟨⟨k.val % 16 / 3, by omega⟩, rfl⟩

theorem sdmReaction_sensed (k : Fin 32) (s : State) (hd : s.dsgRun = false) : Sensed s (sdmReaction k s) := by
  rcases axis_or_free k with ⟨n, hn⟩ | h
  · rw [sdmReaction_axis hn s hd]; exact setAxis_sensed n axHold s
  · rw [sdmReaction_free h]; exact .modSdm s k _

/-- The reaction leaves the words that wait. -/
theorem sdmReaction_pend (k : Fin 32) (s : State) (hd : s.dsgRun = false) (j : Fin 32) : (sdmReaction k s).sdm[j].pend = s.sdm[j].pend := by
  rcases axis_or_free k with ⟨n, hn⟩ | h
  · rw [sdmReaction_axis hn s hd, setAxis_sdm]
  · rw [sdmReaction_free h]
    by_cases hj : j = k
    · subst hj; rw [modSdm_same]
    · rw [modSdm_ne _ _ _ _ hj]

end Sys2Proof.Machine
end

section
/-! SUPPORT. Sampling windows (R116 to R118, R130). -/

namespace Sys2Proof.Machine

open Sys2Proof

/-! ## The start of a window (R116) -/

/-- The core cycle in which the first modulator period at or after a tap begins. -/
def windowStart (div tc : Nat) : Nat := (tc + 16 * div - 1) / (16 * div) * div

theorem windowStart_first {div : Nat} (hdiv : 0 < div) (tc : Nat) :
    div ∣ windowStart div tc ∧ tc ≤ windowStart div tc * 16 ∧ windowStart div tc * 16 < tc + div * 16 := by
  have hmod := Nat.div_add_mod (tc + 16 * div - 1) (16 * div)
  have hlt := Nat.mod_lt (tc + 16 * div - 1) (show 0 < 16 * div by omega)
  have heq : windowStart div tc * 16 = 16 * div * ((tc + 16 * div - 1) / (16 * div)) := by rw [windowStart]; ring
  exact ⟨Nat.dvd_mul_left _ _, by omega, by omega⟩

/-! ## A window event by its outcome (R116, R117) -/

/-- A window opened by an event. -/
def windowOpen (k : Fin 32) (tc : Nat) (s : State) : State :=
  ((s.modSdm k fun c => { c with win := some ⟨tc, windowStart (max 1 (sdmDiv s k)) tc, sdmOsr s k⟩ }).wr (.SDM_CH_WS_T k)
    (stampWord (windowStart (max 1 (sdmDiv s k)) tc * 16))).raise (Fld.SDM_CH_STATUS_OPEN k)

section Window

variable {s : State} {k : Fin 32} {tc : Nat}

theorem sdmWindow_stopped (h : ¬ s.sdmRuns k) : sdmWindow k tc s = s := by
  rw [sdmWindow, if_pos]
  simp only [State.sdmRuns, not_and_or, Bool.not_eq_true] at h
  rcases h with h | h <;> simp [h]

theorem sdmWindow_free (hr : s.sdmRuns k) (hw : s.sdm[k].win = none) : sdmWindow k tc s = windowOpen k tc s := by
  obtain ⟨hon, hck⟩ := hr
  rw [sdmWindow, if_neg (by simp [hon, hck]), if_neg (by rw [hw]; decide)]
  rfl

theorem sdmWindow_busy (hr : s.sdmRuns k) (hw : s.sdm[k].win ≠ none) :
    sdmWindow k tc s = recordFault 0x3106 (s.raise (Fld.SDM_CH_STATUS_WIN_LOST k)) := by
  obtain ⟨hon, hck⟩ := hr
  rw [sdmWindow, if_neg (by simp [hon, hck]), if_pos (Option.isSome_iff_ne_none.mpr hw)]

/-- A window event leaves the state, opens the window or is lost. -/
theorem sdmWindow_cases (k : Fin 32) (tc : Nat) (s : State) :
    (¬ s.sdmRuns k ∧ sdmWindow k tc s = s) ∨ (s.sdmRuns k ∧ s.sdm[k].win = none ∧ sdmWindow k tc s = windowOpen k tc s) ∨
    (s.sdmRuns k ∧ s.sdm[k].win ≠ none ∧ sdmWindow k tc s = recordFault 0x3106 (s.raise (Fld.SDM_CH_STATUS_WIN_LOST k))) := by
  by_cases hr : s.sdmRuns k
  · by_cases hw : s.sdm[k].win = none
    · exact .inr (.inl ⟨hr, hw, sdmWindow_free hr hw⟩)
    · exact .inr (.inr ⟨hr, hw, sdmWindow_busy hr hw⟩)
  · exact .inl ⟨hr, sdmWindow_stopped hr⟩

end Window

/-- What a window event tells of an opened window. -/
def windowOpened (s t : State) (k : Fin 32) (tc : Nat) : Prop :=
  ∃ ts, sdmDiv s k ∣ ts ∧ tc ≤ ts * 16 ∧ ts * 16 < tc + sdmDiv s k * 16 ∧ t.sdm[k].win = some ⟨tc, ts, sdmOsr s k⟩ ∧
    t.rd (.SDM_CH_WS_T k) = BitVec.ofNat 32 (ts * 16) ∧ t.f (Fld.SDM_CH_STATUS_OPEN k) = 1

/-- What a lost window event leaves and tells. -/
def windowLost (s t : State) (k : Fin 32) : Prop :=
  t.sdm[k] = s.sdm[k] ∧ t.f (Fld.SDM_CH_STATUS_WIN_LOST k) = 1 ∧ t.rd (.SDM_CH_WS_T k) = s.rd (.SDM_CH_WS_T k) ∧
    t.flag Fld.SYS_STATUS_FAULT_NEW = true

/-- A channel's record and the registers that window events of the channel write are as before. -/
def sameWindow (k : Fin 32) (s t : State) : Prop :=
  t.sdm[k] = s.sdm[k] ∧ t.rd (.SDM_CH_STATUS k) = s.rd (.SDM_CH_STATUS k) ∧ t.rd (.SDM_CH_WS_T k) = s.rd (.SDM_CH_WS_T k)

theorem sameWindow.trans {k : Fin 32} {s t u : State} (h : sameWindow k s t) (h' : sameWindow k t u) : sameWindow k s u := by
  obtain ⟨hch, hst, hws⟩ := h
  obtain ⟨hch', hst', hws'⟩ := h'
  exact ⟨hch'.trans hch, hst'.trans hst, hws'.trans hws⟩

section Shows

variable (k : Fin 32) (tc : Nat) (s : State)

theorem windowOpen_keeps : s.keeps (windowOpen k tc s) [.SDM_CH_WS_T k, .SDM_CH_STATUS k] :=
  (keeps_wr _ _ _ (by simp)).trans (keeps_raise _ _ (by simp [Fld.SDM_CH_STATUS_OPEN]))

theorem windowOpen_channel : (windowOpen k tc s).sdm[k] =
    { s.sdm[k] with win := some ⟨tc, windowStart (max 1 (sdmDiv s k)) tc, sdmOsr s k⟩ } := modSdm_same s k _

theorem windowOpen_opened (hdiv : 0 < sdmDiv s k) : windowOpened s (windowOpen k tc s) k tc := by
  have hmax : max 1 (sdmDiv s k) = sdmDiv s k := by omega
  obtain ⟨hdvd, hle, hlt⟩ := windowStart_first hdiv tc
  refine ⟨windowStart (sdmDiv s k) tc, hdvd, hle, hlt, ?_, ?_, f_raise _ _ (by simp [Fld.SDM_CH_STATUS_OPEN])⟩
  · rw [windowOpen_channel, hmax]
  · rw [windowOpen, hmax, rd_raise_ne _ _ _ (by simp [Fld.SDM_CH_STATUS_OPEN]), rd_wr]
    rfl

/-- A window event lost, as its record. -/
theorem lost_recorded (hd : s.dsgRun = false) :
    Recorded (s.raise (Fld.SDM_CH_STATUS_WIN_LOST k)) (recordFault 0x3106 (s.raise (Fld.SDM_CH_STATUS_WIN_LOST k))) :=
  recordFault_recorded _ _ (by decide) (by decide) ((dsgRun_congr (rd_raise_ne _ _ _ (by simp [Fld.SDM_CH_STATUS_WIN_LOST]))).trans hd)

theorem lost_shows (hd : s.dsgRun = false) : windowLost s (recordFault 0x3106 (s.raise (Fld.SDM_CH_STATUS_WIN_LOST k))) k := by
  have hrec := lost_recorded k s hd
  refine ⟨by rw [hrec.sdm]; rfl, ?_, ?_, ?_⟩
  · exact (hrec.f rfl).trans (f_raise _ (Fld.SDM_CH_STATUS_WIN_LOST k) (show 1 + 1 ≤ 32 by decide))
  · exact (hrec.regs _ rfl).trans (rd_raise_ne _ _ _ (by simp [Fld.SDM_CH_STATUS_WIN_LOST]))
  · exact flag_faultNew_recordFault _ _ (by decide) (by decide) (by decide)
      ((dsgRun_congr (rd_raise_ne _ _ _ (by simp [Fld.SDM_CH_STATUS_WIN_LOST]))).trans hd)

theorem sdmWindow_sensed (hd : s.dsgRun = false) : Sensed s (sdmWindow k tc s) := by
  rcases sdmWindow_cases k tc s with ⟨-, e⟩ | ⟨-, -, e⟩ | ⟨-, -, e⟩ <;> rw [e]
  · exact .refl s
  · exact ((Sensed.modSdm s k _).trans (.wr _ _ _ rfl (by simp))).trans (.raise _ _ rfl (by simp [Fld.SDM_CH_STATUS_OPEN]))
  · exact (Sensed.raise s _ rfl (by simp [Fld.SDM_CH_STATUS_WIN_LOST])).trans (.of_recorded (lost_recorded k s hd))

/-- A window event of one channel leaves the others. -/
theorem sdmWindow_other (hd : s.dsgRun = false) (j : Fin 32) (hj : j ≠ k) : sameWindow j s (sdmWindow k tc s) := by
  rcases sdmWindow_cases k tc s with ⟨-, e⟩ | ⟨-, -, e⟩ | ⟨-, -, e⟩ <;> rw [e]
  · exact ⟨rfl, rfl, rfl⟩
  · have hkeep := windowOpen_keeps k tc s
    exact ⟨modSdm_ne s k j _ hj, hkeep _ (by simp [hj]), hkeep _ (by simp [hj])⟩
  · have hrec := lost_recorded k s hd
    have hraise (r : Reg) (h : r ≠ .SDM_CH_STATUS k) : (s.raise (Fld.SDM_CH_STATUS_WIN_LOST k)).rd r = s.rd r := rd_raise_ne _ _ _ h
    exact ⟨by rw [hrec.sdm]; rfl, (hrec.regs _ rfl).trans (hraise _ (by simp [hj])), (hrec.regs _ rfl).trans (hraise _ (by simp))⟩

theorem sdmWindow_pend (hd : s.dsgRun = false) (j : Fin 32) : (sdmWindow k tc s).sdm[j].pend = s.sdm[j].pend := by
  by_cases hj : j = k
  · subst hj
    rcases sdmWindow_cases j tc s with ⟨-, e⟩ | ⟨-, -, e⟩ | ⟨-, -, e⟩ <;> rw [e]
    · rw [windowOpen_channel]
    · rw [(lost_recorded j s hd).sdm]; rfl
  · rw [(sdmWindow_other k tc s hd j hj).1]

end Shows

/-! ## Windows that are opened together (R118) -/

/-- What one channel sees of a pass over channels of which each happening touches its own channel alone. -/
theorem foldl_channel {g : State → Fin 32 → State} (hg : ∀ s j, s.dsgRun = false → Sensed s (g s j))
    (ho : ∀ s j k, s.dsgRun = false → k ≠ j → sameWindow k s (g s j)) (l : List (Fin 32)) (hl : l.Nodup) (s : State) (hd : s.dsgRun = false)
    (k : Fin 32) :
    (k ∉ l → sameWindow k s (l.foldl g s)) ∧
    (k ∈ l → ∃ u, Sensed s u ∧ sameWindow k s u ∧ Sensed (g u k) (l.foldl g s) ∧ sameWindow k (g u k) (l.foldl g s)) := by
  induction l generalizing s with
  | nil => exact ⟨fun _ => ⟨rfl, rfl, rfl⟩, fun h => absurd h (by simp)⟩
  | cons j l ih =>
    obtain ⟨hj, hl⟩ := List.nodup_cons.mp hl
    have hstep := hg s j hd
    obtain ⟨ihout, ihin⟩ := ih hl (g s j) (hstep.quiet hd)
    refine ⟨fun h => ?_, fun h => ?_⟩
    · simp only [List.mem_cons, not_or] at h
      exact (ho s j k hd h.1).trans (ihout h.2)
    · by_cases hk : k = j
      · subst hk
        exact ⟨s, .refl s, ⟨rfl, rfl, rfl⟩, .foldl hg l _ (hstep.quiet hd), ihout hj⟩
      · obtain ⟨u, hsu, hku, hut, hkt⟩ := ihin ((List.mem_cons.mp h).resolve_left hk)
        exact ⟨u, hstep.trans hsu, (ho s j k hd hk).trans hku, hut, hkt⟩

/-- The window event of one channel in a write to SDM_SWTRG. -/
def swWindow (mask : Word) (s : State) (k : Fin 32) : State :=
  if mask.getLsbD (winOwner s k).val && s.sdmOn k && sdmWin s k = 3 then sdmWindow k s.now s else s

theorem sdmSwTrigger_eq (mask : Word) (s : State) : sdmSwTrigger mask s = (List.finRange 32).foldl (swWindow mask) s := rfl

theorem swWindow_sensed (mask : Word) (s : State) (k : Fin 32) (hd : s.dsgRun = false) : Sensed s (swWindow mask s k) :=
  .ite (sdmWindow_sensed k _ s hd) (.refl s)

theorem swWindow_other (mask : Word) (s : State) (j k : Fin 32) (hd : s.dsgRun = false) (hk : k ≠ j) : sameWindow k s (swWindow mask s j) := by
  unfold swWindow
  split
  · exact sdmWindow_other j _ s hd k hk
  · exact ⟨rfl, rfl, rfl⟩

/-- A channel is named by a write to SDM_SWTRG (R118). -/
def swNamed (mask : Word) (s : State) (k : Fin 32) : Prop := mask.getLsbD (winOwner s k).val = true ∧ s.sdmRuns k ∧ sdmWin s k = 3

theorem swWindow_named {mask : Word} {s : State} {k : Fin 32} (h : swNamed mask s k) : swWindow mask s k = sdmWindow k s.now s := by
  obtain ⟨hm, ⟨hon, -⟩, hw⟩ := h
  exact if_pos (by simp [hm, hon, hw])

theorem swWindow_unnamed {mask : Word} {s : State} {k : Fin 32} (h : ¬ swNamed mask s k) : swWindow mask s k = s := by
  unfold swWindow
  split
  · next hc =>
    simp only [Bool.and_eq_true, decide_eq_true_eq] at hc
    exact sdmWindow_stopped fun hr => h ⟨hc.1.1, hr, hc.2⟩
  · rfl

theorem swNamed_congr {s t : State} (h : ∀ r : Reg, r.inSense = false → t.rd r = s.rd r) (mask : Word) (k : Fin 32) :
    swNamed mask t k ↔ swNamed mask s k := by
  rw [swNamed, winOwner_congr h, sdmRuns_congr h, sdmWin_congr h]; rfl

/-- What the pass leaves of an opened or lost window stays to its end, and was so from its start. -/
theorem windowOpened.within {s u v t : State} {k : Fin 32} {tc : Nat} (h : windowOpened u v k tc)
    (hsu : ∀ r : Reg, r.inSense = false → u.rd r = s.rd r) (hvt : sameWindow k v t) : windowOpened s t k tc := by
  obtain ⟨ts, hdvd, hle, hlt, hwin, hws, hopen⟩ := h
  obtain ⟨hch, hst, hws'⟩ := hvt
  rw [sdmDiv_congr hsu] at hdvd hlt
  rw [sdmOsr_congr hsu] at hwin
  exact ⟨ts, hdvd, hle, hlt, by rw [hch, hwin], hws'.trans hws, (f_congr _ hst).trans hopen⟩

theorem windowLost.within {s u v t : State} {k : Fin 32} (h : windowLost u v k) (hsu : sameWindow k s u) (hvt : sameWindow k v t)
    (hnew : Sensed v t) : windowLost s t k := by
  obtain ⟨hch, hlost, hws, hf⟩ := h
  obtain ⟨hch1, -, hws1⟩ := hsu
  obtain ⟨hch2, hst2, hws2⟩ := hvt
  exact ⟨hch2.trans (hch.trans hch1), (f_congr _ hst2).trans hlost, hws2.trans (hws.trans hws1), hnew.flag_status 5 hf⟩

theorem sdmSwTrigger_channel (mask : Word) (s : State) (hd : s.dsgRun = false) (k : Fin 32) (hdiv : 0 < sdmDiv s k) :
    (swNamed mask s k → s.sdm[k].win = none → windowOpened s (sdmSwTrigger mask s) k s.now) ∧
    (swNamed mask s k → s.sdm[k].win ≠ none → windowLost s (sdmSwTrigger mask s) k) ∧
    (¬ swNamed mask s k → sameWindow k s (sdmSwTrigger mask s)) := by
  rw [sdmSwTrigger_eq]
  obtain ⟨u, hsu, hku, hut, hkt⟩ := (foldl_channel (swWindow_sensed mask) (fun v j i hv hi => swWindow_other mask v j i hv hi) _
    (List.nodup_finRange 32) s hd k).2 (List.mem_finRange k)
  have hnow : u.now = s.now := congrArg (· * 16) hsu.time
  have hnamed := swNamed_congr hsu.regs mask k
  refine ⟨fun h hw => ?_, fun h hw => ?_, fun h => ?_⟩
  · rw [swWindow_named (hnamed.mpr h), hnow, sdmWindow_free (hnamed.mpr h).2.1 (by rw [hku.1, hw])] at hkt
    exact (windowOpen_opened k s.now u (by rw [sdmDiv_congr hsu.regs]; exact hdiv)).within hsu.regs hkt
  · rw [swWindow_named (hnamed.mpr h), sdmWindow_busy (hnamed.mpr h).2.1 (by rw [hku.1]; exact hw)] at hut hkt
    exact (lost_shows k u (hsu.quiet hd)).within hku hkt hut
  · rw [swWindow_unnamed (mt hnamed.mp h)] at hkt
    exact hku.trans hkt

/-! ## Window events taken before a write (R130) -/

theorem sdmDrain_nothing {s : State} (h : ∀ e ∈ s.post.win, s.time < e.2 / 16 + 1) : sdmDrain s = s := by
  have hdue : (s.post.win.filter fun e => decide (e.2 / 16 + 1 ≤ s.time)) = [] :=
    List.filter_eq_nil_iff.mpr fun e he => by simpa using Nat.lt_iff_add_one_le.mp (h e he)
  have hlate : (s.post.win.filter fun e => decide (s.time < e.2 / 16 + 1)) = s.post.win :=
    List.filter_eq_self.mpr fun e he => by simpa using Nat.lt_succ_iff.mp (h e he)
  simp only [sdmDrain, hdue, List.foldl_nil, State.modPost, hlate]

/-- The window events taken change no set-up register, no discharge and no word that waits. -/
theorem sdmDrain_shows (s : State) (hd : s.dsgRun = false) :
    (∀ r : Reg, r.inSense = false → (sdmDrain s).rd r = s.rd r) ∧ ∀ j : Fin 32, (sdmDrain s).sdm[j].pend = s.sdm[j].pend := by
  let window (u : State) (e : Nat × Nat) : State := sdmWindow ⟨e.1 % 32, Nat.mod_lt _ (by decide)⟩ e.2 u
  have hfold (l : List (Nat × Nat)) (u : State) (hu : u.dsgRun = false) :
      Sensed u (l.foldl window u) ∧ ∀ j : Fin 32, (l.foldl window u).sdm[j].pend = u.sdm[j].pend := by
    induction l generalizing u with
    | nil => exact ⟨.refl u, fun _ => rfl⟩
    | cons e l ih =>
      have hstep : Sensed u (window u e) := sdmWindow_sensed _ _ u hu
      obtain ⟨hs, hp⟩ := ih (window u e) (hstep.quiet hu)
      exact ⟨hstep.trans hs, fun j => (hp j).trans (sdmWindow_pend _ _ u hu j)⟩
  obtain ⟨hs, hp⟩ := hfold (s.post.win.filter fun e => decide (e.2 / 16 + 1 ≤ s.time))
    (s.modPost fun p => { p with win := p.win.filter fun e => decide (s.time < e.2 / 16 + 1) }) hd
  exact ⟨hs.regs, hp⟩

end Sys2Proof.Machine
end

section
/-! SUPPORT. Words: their checks one channel at a time, their settlement and their delivery (R114, R118 to R122, R532). -/

namespace Sys2Proof.Machine

open Sys2Proof

/-! ## Channels without a word -/

theorem pairSettle_none {s : State} {k : Fin 32} (h : s.sdm[k].pend = none) : pairSettle k s = s := by rw [pairSettle, h]
theorem sumSettle_none {s : State} {k : Fin 32} (h : s.sdm[k].pend = none) : sumSettle k s = s := by rw [sumSettle, h]
theorem sdmDeliver_none {s : State} {k : Fin 32} (h : s.sdm[k].pend = none) : sdmDeliver k s = s := by rw [sdmDeliver, h]
theorem sdmFlush_none {s : State} {k : Fin 32} (h : s.sdm[k].pend = none) : sdmFlush k s = s := by rw [sdmFlush, h]

/-- With no word waiting there is nothing to judge or deliver. -/
theorem sdmSettle_idle {s : State} (h : ∀ j : Fin 32, s.sdm[j].pend = none) : sdmSettle s = s := by
  have hpair := foldl_fix (fun u j => pairSettle j u) s (List.finRange 32) fun j _ => pairSettle_none (h j)
  have hsum := foldl_fix (fun u j => sumSettle j u) s (List.finRange 32) fun j _ => sumSettle_none (h j)
  have hdeliver := foldl_fix (fun u j => sdmDeliver j u) s (List.finRange 32) fun j _ => sdmDeliver_none (h j)
  rw [sdmSettle, hpair, hsum, hdeliver]

/-! ## Passes in which one channel, or two, have a word -/

/-- A pass that changes the state at one member alone. -/
theorem foldl_at {α β : Type} {g : β → α → β} {l : List α} (hl : l.Nodup) {a : α} (ha : a ∈ l) {s : β} (hs : ∀ j ∈ l, j ≠ a → g s j = s)
    (ht : ∀ j ∈ l, j ≠ a → g (g s a) j = g s a) : l.foldl g s = g s a := by
  obtain ⟨l1, l2, rfl⟩ := List.append_of_mem ha
  have h1 : a ∉ l1 := fun h => (List.disjoint_of_nodup_append hl) h (by simp)
  have h2 : a ∉ l2 := fun h => (List.nodup_cons.mp hl.of_append_right).1 h
  rw [List.foldl_append, foldl_fix g s l1 fun j hj => hs j (by simp [hj]) fun e => h1 (e ▸ hj), List.foldl_cons,
    foldl_fix g _ l2 fun j hj => ht j (by simp [hj]) fun e => h2 (e ▸ hj)]

/-- The channels of check pair m (R118). -/
def bankA (m : Fin 16) : Fin 32 := ⟨m.val, by omega⟩
def bankB (m : Fin 16) : Fin 32 := ⟨m.val + 16, by omega⟩

theorem bankA_ne_bankB (m : Fin 16) : bankA m ≠ bankB m := by simp [bankA, bankB, Fin.ext_iff]
theorem sdmPartner_bankA (m : Fin 16) : sdmPartner (bankA m) = bankB m := Fin.ext (by simp only [sdmPartner, bankA, bankB]; omega)
theorem sdmPair_bankA (m : Fin 16) : sdmPair (bankA m) = m := Fin.ext (by simp only [sdmPair, bankA]; omega)

theorem bankA_mem : ∀ m, bankA m ∈ (List.finRange 32).take 16 := by decide
theorem bankB_mem : ∀ m, bankB m ∈ (List.finRange 32).drop 16 := by decide

/-- A pass over the channels that changes the state at the two of a pair alone. -/
theorem foldl_pair {σ : Type} {g : σ → Fin 32 → σ} (m : Fin 16) {s : σ} (hs : ∀ j, j ≠ bankA m → j ≠ bankB m → g s j = s)
    (ht : ∀ j, j ≠ bankA m → j ≠ bankB m → g (g s (bankA m)) j = g s (bankA m))
    (hu : ∀ j, j ≠ bankA m → j ≠ bankB m → g (g (g s (bankA m)) (bankB m)) j = g (g s (bankA m)) (bankB m)) :
    (List.finRange 32).foldl g s = g (g s (bankA m)) (bankB m) := by
  have hnodup := List.nodup_finRange 32
  rw [← List.take_append_drop 16 (List.finRange 32)] at hnodup ⊢
  have hdis := List.disjoint_of_nodup_append hnodup
  have hA (j : Fin 32) (hj : j ∈ (List.finRange 32).take 16) : j ≠ bankB m := fun e => hdis hj (e ▸ bankB_mem m)
  have hB (j : Fin 32) (hj : j ∈ (List.finRange 32).drop 16) : j ≠ bankA m := fun e => hdis (e ▸ bankA_mem m) hj
  rw [List.foldl_append, foldl_at hnodup.of_append_left (bankA_mem m) (fun j hj ha => hs j ha (hA j hj)) fun j hj ha => ht j ha (hA j hj),
    foldl_at hnodup.of_append_right (bankB_mem m) (fun j hj hb => ht j (hB j hj) hb) fun j hj hb => hu j (hB j hj) hb]

/-! ## The waiting word of a channel -/

/-- The word that waits in a channel replaced. -/
def putWord (k : Fin 32) (x : Option SdmWord) (s : State) : State := s.modSdm k fun c => { c with pend := x }

@[simp] theorem rd_putWord (k : Fin 32) (x : Option SdmWord) (s : State) (r : Reg) : (putWord k x s).rd r = s.rd r := rfl

theorem putWord_channel (k : Fin 32) (x : Option SdmWord) (s : State) : (putWord k x s).sdm[k] = { s.sdm[k] with pend := x } := modSdm_same s k _

theorem putWord_other (k : Fin 32) (x : Option SdmWord) (s : State) (j : Fin 32) (h : j ≠ k) : (putWord k x s).sdm[j] = s.sdm[j] :=
  modSdm_ne s k j _ h

theorem putWord_sensed (k : Fin 32) (x : Option SdmWord) (s : State) : Sensed s (putWord k x s) := .modSdm s k _

theorem modSdm_congr (s : State) (k : Fin 32) {f g : SdmCh → SdmCh} (h : f s.sdm[k] = g s.sdm[k]) : s.modSdm k f = s.modSdm k g := by
  simp only [State.modSdm, vmod, h]

theorem modSdm_self (s : State) (k : Fin 32) {f : SdmCh → SdmCh} (h : f s.sdm[k] = s.sdm[k]) : s.modSdm k f = s := by
  simp only [State.modSdm, vmod, h, vset_self]

theorem tagWord_some {s : State} {k : Fin 32} {x : SdmWord} (h : s.sdm[k].pend = some x) (f : SdmWord → SdmWord) :
    tagWord k f s = putWord k (some (f x)) s := modSdm_congr s k (by rw [h]; rfl)

theorem putWord_self {s : State} {k : Fin 32} {x : SdmWord} (h : s.sdm[k].pend = some x) : putWord k (some x) s = s :=
  modSdm_self s k (by rw [← h])

/-! ## Checks that are switched off (R118, R120) -/

/-- No sum group checks a bank. -/
def State.sumsOff (s : State) : Prop := ∀ g : Fin 4, s.f (Fld.SDM_SG_CTL_EN_A g) = 0 ∧ s.f (Fld.SDM_SG_CTL_EN_B g) = 0

theorem sumsOff_congr {s t : State} (h : ∀ r : Reg, r.inSense = false → t.rd r = s.rd r) (hs : s.sumsOff) : t.sumsOff := fun g =>
  ⟨(f_congr _ (h _ rfl)).trans (hs g).1, (f_congr _ (h _ rfl)).trans (hs g).2⟩

theorem pairSettle_off {s : State} {k : Fin 32} {x : SdmWord} (h : s.sdm[k].pend = some x) (hdone : x.pairDone = false)
    (hoff : s.pairOn k = false) : pairSettle k s = putWord k (some { x with pairDone := true }) s := by
  rw [← tagWord_some h fun y => { y with pairDone := true }, pairSettle, h]
  simp only [hdone, hoff, Bool.not_false, Bool.false_eq_true, ↓reduceIte]

theorem sumSettle_off {s : State} {k : Fin 32} {x : SdmWord} (h : s.sdm[k].pend = some x) (hoff : s.sumsOff) :
    sumSettle k s = putWord k (some { x with sumDone := true }) s := by
  have htag := tagWord_some h fun y => { y with sumDone := true }
  unfold sumSettle
  rw [h]
  split
  · next w g b mates hw _ =>
    obtain rfl : x = w := Option.some.inj hw
    have hen : (if b then s.flag (Fld.SDM_SG_CTL_EN_B g) else s.flag (Fld.SDM_SG_CTL_EN_A g)) = false := by
      simp [(flag_eq_false_iff s _).mpr (hoff g).1, (flag_eq_false_iff s _).mpr (hoff g).2]
    split
    · next hdone => rw [show ({ x with sumDone := true } : SdmWord) = x by rw [← hdone], putWord_self h]
    · rw [if_pos (by simp [hen]), htag]
  · next w hw _ => exact htag
  · next hw => cases hw

/-! ## The format of a word (R122) -/

/-- A word as it is delivered. -/
def deliveredWord (x : SdmWord) (seq : Nat) : Word := BitVec.ofNat 32 (wrapN 24 x.w + 2 ^ 24 * x.tags.toNat + 2 ^ 28 * (seq % 16))

theorem wrapN_lt (w : Nat) (i : Int) : wrapN w i < 2 ^ w := by
  have hpos : (0 : Int) < 2 ^ w := by positivity
  have := Int.emod_lt_of_pos i hpos
  have := Int.emod_nonneg i hpos.ne'
  have hcast : ((2 ^ w : Nat) : Int) = 2 ^ w := by push_cast; rfl
  simp only [wrapN]
  omega

theorem deliveredWord_toNat (x : SdmWord) (seq : Nat) :
    (deliveredWord x seq).toNat = 2 ^ 24 * (2 ^ 4 * (seq % 16) + x.tags.toNat) + wrapN 24 x.w := by
  have hw := wrapN_lt 24 x.w
  have ht := x.tags.isLt
  rw [deliveredWord, BitVec.toNat_ofNat, Nat.mod_eq_of_lt (by omega)]
  omega

theorem deliveredWord_current (x : SdmWord) (seq : Nat) (hlo : -(2 ^ 23) ≤ x.w) (hhi : x.w ≤ 2 ^ 23 - 1) :
    (BitVec.ofNat 24 (deliveredWord x seq).toNat).toInt = x.w := by
  have hw := wrapN_lt 24 x.w
  have hmod : (deliveredWord x seq).toNat % 2 ^ 24 = wrapN 24 x.w := by rw [deliveredWord_toNat]; omega
  have hint : ((deliveredWord x seq).toNat : Int) % 2 ^ 24 = wrapN 24 x.w := by exact_mod_cast congrArg Nat.cast hmod
  rw [← sext_eq_toInt (by decide), sext, hmod, hint, wrapN]
  omega

theorem deliveredWord_tag (x : SdmWord) (seq i : Nat) (hi : i < 4) : (deliveredWord x seq).getLsbD (24 + i) = x.tags.getLsbD i := by
  rw [BitVec.getLsbD, deliveredWord_toNat, Nat.testBit_two_pow_mul_add _ (wrapN_lt 24 x.w), if_neg (by omega),
    Nat.testBit_two_pow_mul_add _ x.tags.isLt, if_pos (by omega), Nat.add_sub_cancel_left, BitVec.getLsbD]

theorem deliveredWord_seq (x : SdmWord) (seq : Nat) : wGet (deliveredWord x seq) 28 4 = seq % 16 := by
  have hw := wrapN_lt 24 x.w
  have ht := x.tags.isLt
  rw [wGet, deliveredWord_toNat, Nat.shiftRight_eq_div_pow]
  omega

/-! ## Delivery (R122, R532) -/

/-- The sequence number that a channel gives a word. -/
def seqOf (x : SdmWord) (c : SdmCh) : Nat := x.seq.getD c.seq

/-- A channel whose word has been delivered. -/
def SdmCh.delivered (c : SdmCh) (x : SdmWord) : SdmCh := { c with pend := none, seq := if x.seq.isSome then c.seq else (c.seq + 1) % 16 }

theorem anvWord_skips {k : Fin 32} {s : State} (h : k.val < 16 ∨ s.anvLive = false) (w : Word) : anvWord k.val w s = s := by
  unfold anvWord
  split
  · next hk => exact if_pos (by simp [h.resolve_left (by omega)])
  · rfl

/-- What the delivery of a word that the Anvil does not take changes and leaves. -/
structure Delivered (k : Fin 32) (x : SdmWord) (s t : State) : Prop where
  data : t.rd (.SDM_CH_DATA k) = deliveredWord x (seqOf x s.sdm[k])
  word : t.f (Fld.SDM_CH_STATUS_WORD k) = 1
  sat : x.tags.getLsbD 2 = true → t.f (Fld.SDM_CH_STATUS_SAT k) = 1
  open_ : t.f (Fld.SDM_CH_STATUS_OPEN k) = s.f (Fld.SDM_CH_STATUS_OPEN k)
  channel : t.sdm[k] = s.sdm[k].delivered x
  others : ∀ j, j ≠ k → t.sdm[j] = s.sdm[j]
  regs : s.keeps t [.SDM_CH_DATA k, .SDM_CH_STATUS k]
  mem : s.keepsMem t
  sensed : Sensed s t

/-- The word in its register, WORD and SAT. -/
def wordShown (k : Fin 32) (x : SdmWord) (s : State) : State :=
  let u := s.modSdm k fun c => c.delivered x
  let v := (u.wr (.SDM_CH_DATA k) (deliveredWord x (seqOf x s.sdm[k]))).raise (Fld.SDM_CH_STATUS_WORD k)
  v.raiseIf (x.tags.getLsbD 2) (Fld.SDM_CH_STATUS_SAT k)

theorem raiseIf_same {α : Type} (part : State → α) (h : ∀ (u : State) (F : RF), part (u.raise F) = part u) (s : State) (c : Bool) (F : RF) :
    part (s.raiseIf c F) = part s := by
  rcases raiseIf_cases s c F with ⟨-, e⟩ | ⟨-, e⟩ <;> rw [e]
  exact h s F

theorem wordShown_delivered (k : Fin 32) (x : SdmWord) (s : State) : Delivered k x s (wordShown k x s) := by
  let u := s.modSdm k fun c => c.delivered x
  let w := u.wr (.SDM_CH_DATA k) (deliveredWord x (seqOf x s.sdm[k]))
  let v := w.raise (Fld.SDM_CH_STATUS_WORD k)
  let t := v.raiseIf (x.tags.getLsbD 2) (Fld.SDM_CH_STATUS_SAT k)
  have hv : w.keeps v [.SDM_CH_STATUS k] := keeps_raise w _ (by simp [Fld.SDM_CH_STATUS_WORD])
  have ht : v.keeps t [.SDM_CH_STATUS k] := raiseIf_keeps v _ _ (by simp [Fld.SDM_CH_STATUS_SAT])
  have hsdm : t.sdm = u.sdm := raiseIf_same State.sdm (fun _ _ => rfl) v _ _
  have hsensed : Sensed s v := ((Sensed.modSdm s k _).trans (.wr u _ _ rfl (by simp))).trans
    (.raise w _ rfl (by simp [Fld.SDM_CH_STATUS_WORD]))
  refine ⟨?_, ?_, fun hsat => ?_, ?_, ?_, fun j hj => ?_, ?_, ?_, ?_⟩
  · exact (ht _ (by simp)).trans ((hv _ (by simp)).trans (rd_wr u _ _))
  · exact (raiseIf_apart v _ _ 3 0 1 (by decide) (by decide)).trans (f_raise w (Fld.SDM_CH_STATUS_WORD k) (show 0 + 1 ≤ 32 by decide))
  · rw [wordShown, hsat]
    exact f_raiseIf v (Fld.SDM_CH_STATUS_SAT k) (show 3 + 1 ≤ 32 by decide)
  · exact (raiseIf_apart v _ _ 3 9 1 (by decide) (by decide)).trans ((f_raise_apart w _ 0 9 1 (by decide) (by decide)).trans
      (f_wr_ne u _ _ _ (by simp)))
  · exact (congrArg (·[k]) hsdm).trans (modSdm_same s k _)
  · exact (congrArg (·[j]) hsdm).trans (modSdm_ne s k j _ hj)
  · exact ((keeps_wr u _ _ (by simp)).trans (hv.weaken (by simp))).trans (ht.weaken (by simp))
  · exact ⟨raiseIf_same State.mem (fun _ _ => rfl) v _ _, raiseIf_same State.chk (fun _ _ => rfl) v _ _⟩
  · exact hsensed.trans (.ite (.raise v _ rfl (by simp [Fld.SDM_CH_STATUS_SAT])) (.refl v))

theorem Delivered.postDma {k : Fin 32} {x : SdmWord} {s t : State} (h : Delivered k x s t) (req : Nat) (ch : Option (Fin 16)) :
    Delivered k x s (postDma req ch t) :=
  ⟨h.data, h.word, h.sat, h.open_, h.channel, h.others, h.regs, h.mem, h.sensed.trans ⟨fun _ _ => rfl, fun _ h => h, fun _ _ => rfl, rfl, rfl⟩⟩

theorem sdmDeliver_delivered {k : Fin 32} {x : SdmWord} {s : State} (h : s.sdm[k].pend = some x) (hpair : x.pairDone = true)
    (hsum : x.sumDone = true) (hanv : k.val < 16 ∨ s.anvLive = false) : Delivered k x s (sdmDeliver k s) := by
  let u := wordShown k x s
  let v := if u.flag (Fld.SDM_CH_CTL_DMA k) then postDma k.val none u else u
  have hu : Delivered k x s u := wordShown_delivered k x s
  have hv : Delivered k x s v := by
    unfold v
    split
    · exact hu.postDma _ _
    · exact hu
  have heq : sdmDeliver k s = anvWord k.val (deliveredWord x (seqOf x s.sdm[k])) v := by
    unfold sdmDeliver
    rw [h]
    exact if_pos (by rw [hpair, hsum]; rfl)
  rw [heq, anvWord_skips (hanv.imp_right hv.sensed.anvLive.trans)]
  exact hv

/-! ## A new word (R112, R114, R116) -/

/-- A word just completed, before any check. -/
def newWord (s : State) (k : Fin 32) (key : Nat) (seq : Option Nat) (osr bits : Nat) : SdmWord :=
  let x := sdmTrim s k osr (sinc3 osr bits)
  let inv := s.flag (Fld.SDM_CH_STATUS_STUCK_NOW k) || s.sdm[k].halted
  { key := key, w := sat24 x, tags := BitVec.ofNat 4 (4 * bit (x != sat24 x) + 8 * bit inv), seq := seq, pairDone := false, sumDone := false }

theorem newWord_tags (s : State) (k : Fin 32) (key : Nat) (seq : Option Nat) (osr bits : Nat) :
    let x := sdmTrim s k osr (sinc3 osr bits)
    let t := (newWord s k key seq osr bits).tags
    t.getLsbD 0 = false ∧ t.getLsbD 1 = false ∧ t.getLsbD 2 = (x != sat24 x) ∧
      t.getLsbD 3 = (s.flag (Fld.SDM_CH_STATUS_STUCK_NOW k) || s.sdm[k].halted) := by
  intro x t
  have hbits : ∀ a b : Bool, (BitVec.ofNat 4 (4 * bit a + 8 * bit b)).getLsbD 0 = false ∧ (BitVec.ofNat 4 (4 * bit a + 8 * bit b)).getLsbD 1 = false ∧
      (BitVec.ofNat 4 (4 * bit a + 8 * bit b)).getLsbD 2 = a ∧ (BitVec.ofNat 4 (4 * bit a + 8 * bit b)).getLsbD 3 = b := by decide
  exact hbits _ _

/-- The bits of a word kept, and the word put to wait. -/
def wordPut (k : Fin 32) (n bits : Nat) (x : SdmWord) (s : State) : State := putWord k (some x) (keepBits k n bits s)

theorem sdmComplete_eq {k : Fin 32} {s : State} (h : s.sdm[k].pend = none) (key : Nat) (seq : Option Nat) (osr n bits : Nat) :
    sdmComplete k key seq osr n bits s = sdmSettle (wordPut k n bits (newWord s k key seq osr bits) s) := by
  have hkept : (keepBits k n bits s).sdm[k] = _ := modSdm_same s k _
  have hflush : sdmFlush k (keepBits k n bits s) = keepBits k n bits s := sdmFlush_none (by rw [hkept, h])
  have hhalted : (keepBits k n bits s).sdm[k].halted = s.sdm[k].halted := by rw [hkept]
  rw [sdmComplete, hflush]
  simp only [hhalted]
  rfl

theorem wordPut_channel (k : Fin 32) (n bits : Nat) (x : SdmWord) (s : State) : (wordPut k n bits x s).sdm[k] =
    { s.sdm[k] with pend := some x, kept := (List.range 8).map fun i => (bits.testBit i, (n - i) * sdmDiv s k) } := by
  rw [wordPut, putWord_channel, keepBits, modSdm_same]

theorem wordPut_other (k : Fin 32) (n bits : Nat) (x : SdmWord) (s : State) (j : Fin 32) (h : j ≠ k) : (wordPut k n bits x s).sdm[j] = s.sdm[j] := by
  rw [wordPut, putWord_other _ _ _ _ h, keepBits, modSdm_ne _ _ _ _ h]

@[simp] theorem rd_wordPut (k : Fin 32) (n bits : Nat) (x : SdmWord) (s : State) (r : Reg) : (wordPut k n bits x s).rd r = s.rd r := rfl

/-! ## A word with no check to wait for -/

theorem putWord_putWord (k : Fin 32) (x y : Option SdmWord) (s : State) : putWord k y (putWord k x s) = putWord k y s := by
  simp only [putWord, State.modSdm, vmod, vset, Fin.getElem_fin, Vector.getElem_set_self, Vector.set_set]

/-- With its pair and every sum group off, a word that waits alone is delivered. -/
theorem sdmSettle_alone {s : State} {k : Fin 32} {x : SdmWord} (h : s.sdm[k].pend = some x) (hdone : x.pairDone = false)
    (hothers : ∀ j, j ≠ k → s.sdm[j].pend = none) (hpair : s.pairOn k = false) (hsums : s.sumsOff) (hanv : k.val < 16 ∨ s.anvLive = false) :
    sdmSettle s = sdmDeliver k (putWord k (some { x with pairDone := true, sumDone := true }) s) := by
  have hput (y : SdmWord) (u : State) : (putWord k (some y) u).sdm[k].pend = some y := by rw [putWord_channel]
  have hidle (y : Option SdmWord) (j : Fin 32) (hj : j ≠ k) : (putWord k y s).sdm[j].pend = none := by
    rw [putWord_other _ _ _ _ hj]; exact hothers j hj
  let judged := putWord k (some { x with pairDone := true }) s
  let summed := putWord k (some { x with pairDone := true, sumDone := true }) s
  have hmem := List.mem_finRange k
  have hnodup := List.nodup_finRange 32
  have hpass1 : (List.finRange 32).foldl (fun u j => pairSettle j u) s = judged := by
    have hstep : pairSettle k s = judged := pairSettle_off h hdone hpair
    rw [foldl_at hnodup hmem (fun j _ hj => pairSettle_none (hothers j hj)) fun j _ hj => by rw [hstep]; exact pairSettle_none (hidle _ j hj)]
    exact hstep
  have hpass2 : (List.finRange 32).foldl (fun u j => sumSettle j u) judged = summed := by
    have hstep : sumSettle k judged = summed := (sumSettle_off (hput _ s) hsums).trans (putWord_putWord _ _ _ _)
    rw [foldl_at hnodup hmem (fun j _ hj => sumSettle_none (hidle _ j hj)) fun j _ hj => by rw [hstep]; exact sumSettle_none (hidle _ j hj)]
    exact hstep
  have hout := sdmDeliver_delivered (hput { x with pairDone := true, sumDone := true } s) rfl rfl hanv
  rw [sdmSettle, hpass1, hpass2]
  exact foldl_at hnodup hmem (fun j _ hj => sdmDeliver_none (hidle _ j hj)) fun j _ hj => sdmDeliver_none (by
    rw [hout.others j hj]; exact hidle _ j hj)

/-! ## Normalisation and trim (R114) -/

theorem sdmTrim_eq (s : State) (k : Fin 32) {e : Nat} (he : e ≤ 4) (r : Nat) :
    let osr := 16 * 2 ^ e
    sdmTrim s k osr r = Int.tdiv ((min (((r : Int) - (osr ^ 3 / 2 : Nat)) * (2 ^ 24 / osr ^ 3 : Nat)) (2 ^ 23 - 1) -
      (BitVec.ofNat 24 (s.f (Fld.SDM_CH_OFS_OFS k))).toInt) * s.f (Fld.SDM_CH_GAIN_GAIN k)) (2 ^ 15) := by
  intro osr
  have hnorm : sat24 ((2 * (r : Int) - (osr ^ 3 : Nat)) * 2 ^ 23 / (osr ^ 3 : Nat)) =
      min (((r : Int) - (osr ^ 3 / 2 : Nat)) * (2 ^ 24 / osr ^ 3 : Nat)) (2 ^ 23 - 1) := by
    simp only [osr, sat24]
    interval_cases e <;> norm_num <;> omega
  rw [← hnorm, ← sext_eq_toInt (by decide)]
  rfl

end Sys2Proof.Machine
end

section
/-! PROOF. O15: stuck data, the sinc2 sources, counter clears and check-pair writes, and the obligation. -/

namespace Sys2Proof.Machine

open Sys2Proof

/-! ## Window events (R116, R117) -/

section Window

variable {s : State} {k : Fin 32}

/-- The state in which the oldest window event of a channel reaches it. -/
def windowTaken (tc : Nat) (win : List (Nat × Nat)) (s : State) : State := (s.advance (tc / 16 + 1)).modPost fun p => { p with win := win }

theorem exec_samplingWindowEvent {tc : Nat} {before rest : List (Nat × Nat)} (h : s.post.win = before ++ (k.val, tc) :: rest)
    (hb : ∀ e ∈ before, e.1 ≠ k.val) :
    exec (.samplingWindowEvent k) s = .next (sdmWindow k tc (windowTaken tc (before ++ rest) s)) := by
  change execSamplingWindowEvent k s = _
  rw [execSamplingWindowEvent, h, takeEv_append _ _ _ _ hb]
  rfl

theorem gives_windowEvent (hd : s.dsgRun = false) (hr : s.sdmRuns k) (hdiv : 0 < sdmDiv s k) {tc : Nat} {before rest : List (Nat × Nat)}
    (h : s.post.win = before ++ (k.val, tc) :: rest) (hb : ∀ e ∈ before, e.1 ≠ k.val) :
    gives (.samplingWindowEvent k) s fun t =>
      t.post.win = before ++ rest ∧ t.time = max s.time (tc / 16 + 1) ∧ (∀ j, j ≠ k → t.sdm[j] = s.sdm[j]) ∧
      (s.sdm[k].win = none → windowOpened s t k tc ∧ s.keeps t [.SDM_CH_WS_T k, .SDM_CH_STATUS k] ∧ s.keepsMem t) ∧
      (s.sdm[k].win ≠ none → windowLost s t k ∧ s.faultFrame t [0x400A]) := by
  let u := windowTaken tc (before ++ rest) s
  have hsensed : Sensed u (sdmWindow k tc u) := sdmWindow_sensed k tc u hd
  refine ⟨_, exec_samplingWindowEvent h hb, by rw [hsensed.post]; rfl, hsensed.time, fun j hj => (sdmWindow_other k tc u hd j hj).1,
    fun hw => ?_, fun hw => ?_⟩
  · rw [sdmWindow_free (s := u) hr hw]
    exact ⟨windowOpen_opened k tc u hdiv, windowOpen_keeps k tc u, rfl, rfl⟩
  · have hframe := hsensed.faultFrame
    rw [sdmWindow_busy (s := u) hr hw] at hframe ⊢
    exact ⟨lost_shows k u hd, hframe⟩

theorem writes_softwareWindow (hd : s.dsgRun = false) (hdiv : ∀ j, 0 < sdmDiv s j) (mask : Word) :
    writes (.softwareWindow mask) s fun w t =>
      t.time = w.time ∧ w.faultFrame t [0x400A] ∧
      ∀ k, let named := mask.getLsbD (winOwner w k).val = true ∧ s.sdmRuns k ∧ sdmWin w k = 3
        (named → w.sdm[k].win = none → windowOpened s t k w.now) ∧ (named → w.sdm[k].win ≠ none → windowLost s t k) ∧
        (¬ named → t.sdm[k] = w.sdm[k] ∧ t.rd (.SDM_CH_STATUS k) = w.rd (.SDM_CH_STATUS k)) := by
  refine writes_agentTurn rfl ?_
  let w := s.atWrite
  have hdw : w.dsgRun = false := (atWrite_dsgRun s).trans hd
  have hregs : ∀ r : Reg, r.inSense = false → w.rd r = s.rd r := fun r _ => rd_atWrite s r
  have hsensed : Sensed w (sdmSwTrigger mask w) := .foldl (swWindow_sensed mask) _ w hdw
  refine ⟨hsensed.time, hsensed.faultFrame, fun k => ?_⟩
  have hsame : sameWindow k s w := ⟨by rw [atWrite_sdm], rd_atWrite s _, rd_atWrite s _⟩
  obtain ⟨hopen, hlost, hnot⟩ := sdmSwTrigger_channel mask w hdw k (by rw [sdmDiv_congr hregs]; exact hdiv k)
  rw [swNamed, sdmRuns_congr hregs] at hopen hlost hnot
  refine ⟨fun h hw => (hopen h hw).within hregs ⟨rfl, rfl, rfl⟩, fun h hw => (hlost h hw).within hsame ⟨rfl, rfl, rfl⟩ (.refl _), fun h => ?_⟩
  obtain ⟨hch, hst, -⟩ := hnot h
  exact ⟨hch, hst⟩

end Window

/-! ## Stuck data (R113, R121) -/

section Stuck

variable {s : State} {k : Fin 32}

/-- Stuck data marked and recorded, before the reaction. -/
def stuckRecorded (k : Fin 32) (s : State) : State :=
  recordFault 0x3205 ((s.raise (Fld.SDM_CH_STATUS_STUCK k)).raise (Fld.SDM_CH_STATUS_STUCK_NOW k))

theorem exec_stuck (hr : s.sdmRuns k) (hnow : s.f (Fld.SDM_CH_STATUS_STUCK_NOW k) = 0) :
    exec (.stuck k) s = .next (sdmReaction k (stuckRecorded k s)) := by
  obtain ⟨hon, hck⟩ := hr
  change execStuck k s = _
  rw [execStuck, if_pos (by simp [hon, hck, (flag_eq_false_iff _ _).mpr hnow])]
  rfl

theorem stuckRecorded_shows (hd : s.dsgRun = false) :
    let t := stuckRecorded k s
    Sensed s t ∧ t.sdm = s.sdm ∧ t.rd .SYS_AX_STATE = s.rd .SYS_AX_STATE ∧ t.f (Fld.SDM_CH_STATUS_STUCK k) = 1 ∧
      t.f (Fld.SDM_CH_STATUS_STUCK_NOW k) = 1 ∧ t.flag Fld.SYS_STATUS_FAULT_NEW = true := by
  intro t
  let u := (s.raise (Fld.SDM_CH_STATUS_STUCK k)).raise (Fld.SDM_CH_STATUS_STUCK_NOW k)
  have hkeep : s.keeps u [.SDM_CH_STATUS k] := (keeps_raise s _ (by simp [Fld.SDM_CH_STATUS_STUCK])).trans
    (keeps_raise _ _ (by simp [Fld.SDM_CH_STATUS_STUCK_NOW]))
  have hdu : u.dsgRun = false := (dsgRun_congr (hkeep _ (by simp))).trans hd
  have hrec : Recorded u t := recordFault_recorded 0x3205 u (by decide) (by decide) hdu
  have hmarked : Sensed s u := (Sensed.raise s _ rfl (by simp [Fld.SDM_CH_STATUS_STUCK])).trans
    (.raise _ _ rfl (by simp [Fld.SDM_CH_STATUS_STUCK_NOW]))
  refine ⟨hmarked.trans (.of_recorded hrec), hrec.sdm, (hrec.regs _ rfl).trans (hkeep _ (by simp)), ?_, ?_,
    flag_faultNew_recordFault _ _ (by decide) (by decide) (by decide) hdu⟩
  · exact (hrec.f rfl).trans ((f_raise_apart _ _ 10 2 1 (by decide) (by decide)).trans
      (f_raise s (Fld.SDM_CH_STATUS_STUCK k) (show 2 + 1 ≤ 32 by decide)))
  · exact (hrec.f rfl).trans (f_raise _ (Fld.SDM_CH_STATUS_STUCK_NOW k) (show 10 + 1 ≤ 32 by decide))

/-- The class 0x2 reaction: the axis of a main phase is held, and a free channel stops (R121). -/
theorem sdmReaction_shows (k : Fin 32) (s : State) (hd : s.dsgRun = false) :
    let t := sdmReaction k s
    (∀ r, r ≠ .SYS_AX_STATE → r.inRec = false → t.rd r = s.rd r) ∧
      (∀ n : Fin 4, k.val % 16 / 3 = n.val → t.axis n = axHold ∧ t.sdm = s.sdm) ∧
      (12 ≤ k.val % 16 → t.sdm[k].halted = true ∧ t.rd .SYS_AX_STATE = s.rd .SYS_AX_STATE) := by
  intro t
  refine ⟨fun r hax hr => ?_, fun n hn => ?_, fun h => ?_⟩
  · rcases axis_or_free k with ⟨n, hn⟩ | h
    · rw [show t = s.setAxis n axHold from sdmReaction_axis hn s hd]
      refine (setAxis_inAxis n axHold s).regs r ?_
      unfold Reg.inAxis
      split
      · exact absurd rfl hax
      · exact hr
    · rw [show t = _ from sdmReaction_free h s, rd_modSdm]
  · rw [show t = s.setAxis n axHold from sdmReaction_axis hn s hd]
    exact ⟨(axis_setAxis s n n axHold (by decide)).trans (if_pos rfl), setAxis_sdm n axHold s⟩
  · rw [show t = _ from sdmReaction_free h s, modSdm_same]
    exact ⟨rfl, rfl⟩

theorem gives_stuck (hd : s.dsgRun = false) (hr : s.sdmRuns k) (hnow : s.f (Fld.SDM_CH_STATUS_STUCK_NOW k) = 0) :
    gives (.stuck k) s fun t =>
      t.f (Fld.SDM_CH_STATUS_STUCK k) = 1 ∧ t.f (Fld.SDM_CH_STATUS_STUCK_NOW k) = 1 ∧ t.flag Fld.SYS_STATUS_FAULT_NEW = true ∧
      (∀ n : Fin 4, k.val % 16 < 12 → k.val % 16 / 3 = n.val → t.axis n = axHold ∧ t.sdm = s.sdm) ∧
      (12 ≤ k.val % 16 → t.sdm[k].halted = true ∧ t.rd .SYS_AX_STATE = s.rd .SYS_AX_STATE) ∧ s.faultFrame t [0x400A] := by
  obtain ⟨hrec, hsdm, hax, hstuck, hstuckNow, hnew⟩ := stuckRecorded_shows (k := k) hd
  have hdu := hrec.quiet hd
  have hreact := sdmReaction_sensed k (stuckRecorded k s) hdu
  obtain ⟨hregs, haxis, hfree⟩ := sdmReaction_shows k (stuckRecorded k s) hdu
  refine ⟨_, exec_stuck hr hnow, ?_, ?_, hreact.flag_status 5 hnew, fun n _ hn => ?_, fun h => ?_, (hrec.trans hreact).faultFrame⟩
  · exact (f_congr _ (hregs _ (by simp [Fld.SDM_CH_STATUS_STUCK]) rfl)).trans hstuck
  · exact (f_congr _ (hregs _ (by simp [Fld.SDM_CH_STATUS_STUCK_NOW]) rfl)).trans hstuckNow
  · exact ⟨(haxis n hn).1, (haxis n hn).2.trans hsdm⟩
  · exact ⟨(hfree h).1, (hfree h).2.trans hax⟩

theorem gives_stuckEnd (s : State) (k : Fin 32) : gives (.stuckEnd k) s fun t =>
    t.f (Fld.SDM_CH_STATUS_STUCK_NOW k) = 0 ∧ t.f (Fld.SDM_CH_STATUS_STUCK k) = s.f (Fld.SDM_CH_STATUS_STUCK k) ∧
      s.onlyRegs t [.SDM_CH_STATUS k] :=
  ⟨_, rfl, f_setF s (Fld.SDM_CH_STATUS_STUCK_NOW k) 0 (show 10 + 1 ≤ 32 by decide), f_setF_apart s _ 10 1 0 2 1 (by decide) (by decide),
    onlyRegs_setF s _ 0 (by simp [Fld.SDM_CH_STATUS_STUCK_NOW])⟩

end Stuck

/-! ## The sinc2 sources (R123, R124, R247) -/

/-- A routed source that becomes active is latched (R249). -/
theorem latch_sourceActive0_routed (k : Fin 128) (t : Nat) (s : State) (hk : k.val < 118) (h : s.flag (Fld.QNC_ROUTE_EN k) = true) :
    (sourceActive0 k t s).latch k = true := by
  unfold sourceActive0
  rw [if_neg (by omega)]
  extract_lets s1
  have h1 : s1.flag (Fld.QNC_ROUTE_EN k) = true := (flag_congr _ (rd_wr_ne _ _ _ _ (by simp [Fld.QNC_ROUTE_EN]))).trans h
  rw [if_neg (by simp [h1])]
  split
  · next hl => simp only [Bool.and_eq_true] at hl; exact hl.1.1
  · rw [latch_congr (s := putSrc .QNC_LATCH k true s1) (fun i => sourceTail_regs k t _ _ _ rfl rfl), latch_putSrc, if_pos rfl]

theorem sourceActive_idle (k : Fin 128) (t : Nat) (s : State) (hd : s.dsgRun = false) : sourceActive k t s = sourceActive0 k t s :=
  dsgWatch_reacted (sourceActive0_inSource k t s) rfl hd

theorem Reacted.sourceFrame {s t : State} (h : Reacted Reg.inSource s t) : s.faultFrame t [0x4008, 0x400A, 0x400C] :=
  ⟨fun r hr => h.regs r (by
    by_contra hn
    have := Reg.block_of_inSource r (by simpa using hn)
    simp only [List.mem_cons, List.not_mem_nil, or_false, not_or] at this hr
    omega), h.mem, h.chk⟩

/-- A source that becomes inactive is so, and of the Quench's registers its raw mask alone is written. -/
theorem sourceInactive_shows (k : Fin 128) (s : State) :
    (sourceInactive k s).raw k = false ∧ s.keeps (sourceInactive k s) [.QNC_RAW ⟨k.val / 32, by omega⟩] ∧ s.keepsMem (sourceInactive k s) ∧
      (sourceInactive k s).sdm = s.sdm ∧ (sourceInactive k s).time = s.time := by
  unfold sourceInactive
  split
  · exact ⟨(raw_putSrc s k k false).trans (if_pos rfl), keeps_wr s _ _ (by simp), ⟨rfl, rfl⟩, rfl, rfl⟩
  · next h => exact ⟨by simpa using h, fun _ _ => rfl, ⟨rfl, rfl⟩, rfl, rfl⟩

section Sinc2

theorem addr_sdmFword (k : Fin 32) : (Reg.SDM_CH_FWORD k).addr / 0x10000 = 0x400A := by simp only [Reg.addr]; omega
theorem addr_sdmStatus (k : Fin 32) : (Reg.SDM_CH_STATUS k).addr / 0x10000 = 0x400A := by simp only [Reg.addr]; omega

/-- The sinc2 value stored with the bits kept, before the thresholds are judged. -/
def sinc2Stored (k : Fin 32) (n bits at_ : Nat) (x : Int) (s : State) : State :=
  keepBits k n bits ((s.advance at_).setF (Fld.SDM_CH_FWORD_F k) (wrapN 16 x))

/-- A sinc2 value judged against the thresholds. -/
def sinc2Judged (k : Fin 32) (at_ : Nat) (x lo hi hys : Int) (s : State) : State :=
  if s.flag (Fld.SDM_CH_STATUS_FACT k) then
    if lo + hys ≤ x ∧ x ≤ hi - hys then sinc2Off k s else s
  else if hi < x ∨ x < lo then
    sourceActive (sinc2Src k) (at_ * 16) ((s.raise (Fld.SDM_CH_STATUS_FACT k)).raise (Fld.SDM_CH_STATUS_FTRIP k))
  else s

/-- The thresholds of a channel, and the hysteresis. -/
def State.fthLo (s : State) (k : Fin 32) : Int := (BitVec.ofNat 16 (s.f (Fld.SDM_CH_FTH_LO k))).toInt
def State.fthHi (s : State) (k : Fin 32) : Int := (BitVec.ofNat 16 (s.f (Fld.SDM_CH_FTH_HI k))).toInt
def State.fthHys (s : State) (k : Fin 32) : Int := s.f (Fld.SDM_CH_FHYS_FHYS k)

variable {s : State} {k : Fin 32}

theorem sinc2Stored_keeps (n bits at_ : Nat) (x : Int) (s : State) : s.keeps (sinc2Stored k n bits at_ x s) [.SDM_CH_FWORD k] :=
  keeps_setF (s.advance at_) (Fld.SDM_CH_FWORD_F k) _ (by simp [Fld.SDM_CH_FWORD_F])

theorem sinc2Stored_word (n bits at_ : Nat) (x : Int) (s : State) :
    ((sinc2Stored k n bits at_ x s).f (Fld.SDM_CH_FWORD_F k) : Int) = x % 2 ^ 16 := by
  have h : (sinc2Stored k n bits at_ x s).f (Fld.SDM_CH_FWORD_F k) = wrapN 16 x % 2 ^ 16 :=
    f_setF (s.advance at_) (Fld.SDM_CH_FWORD_F k) _ (show 0 + 16 ≤ 32 by decide)
  rw [h, wrapN]
  omega

theorem sinc2Stored_channel (n bits at_ : Nat) (x : Int) (s : State) : (sinc2Stored k n bits at_ x s).sdm[k] =
    { s.sdm[k] with kept := (List.range 8).map fun i => (bits.testBit i, (n - i) * sdmDiv (sinc2Stored k n bits at_ x s) k) } :=
  modSdm_same _ k _

theorem sinc2Stored_div (n bits at_ : Nat) (x : Int) (s : State) : sdmDiv (sinc2Stored k n bits at_ x s) k = sdmDiv s k := by
  have hkeep := sinc2Stored_keeps (k := k) n bits at_ x s
  have hck : sdmClock (sinc2Stored k n bits at_ x s) k = sdmClock s k := by
    simp only [sdmClock, hkeep.f (F := Fld.SDM_CH_CTL_CK k) (by simp [Fld.SDM_CH_CTL_CK])]
  rw [sdmDiv, hck]
  exact hkeep.f (by simp [Fld.SDM_CK_CTL_DIV])

theorem sinc2Stored_other (n bits at_ : Nat) (x : Int) (s : State) (j : Fin 32) (hj : j ≠ k) :
    (sinc2Stored k n bits at_ x s).sdm[j] = s.sdm[j] := modSdm_ne _ k j _ hj

theorem exec_sinc2Change (hr : s.sdmRuns k) (hfen : s.flag (Fld.SDM_CH_CTL_FEN k) = true) (hdiv : 0 < sdmDiv s k) (n bits : Nat) :
    let at_ := (n + 1) * sdmDiv s k + s.f (Fld.SDM_CH_CTL_DLY k) + 18
    let osr := 8 * 2 ^ s.f (Fld.SDM_CH_CTL_OSR2 k)
    let x := sinc2Value osr (sinc2 osr bits)
    exec (.sinc2Change k n bits) s =
      .next (sinc2Judged k at_ x (s.fthLo k) (s.fthHi k) (s.fthHys k) (sinc2Stored k n bits at_ x s)) := by
  intro at_ osr x
  have hrise := sdckRise_multiple hr hdiv (n + 1)
  have hkeep := sinc2Stored_keeps (k := k) n bits at_ x s
  have hlo : sext 16 ((sinc2Stored k n bits at_ x s).f (Fld.SDM_CH_FTH_LO k)) = s.fthLo k := by
    rw [hkeep.f (by simp [Fld.SDM_CH_FTH_LO]), sext_eq_toInt (by decide)]; rfl
  have hhi : sext 16 ((sinc2Stored k n bits at_ x s).f (Fld.SDM_CH_FTH_HI k)) = s.fthHi k := by
    rw [hkeep.f (by simp [Fld.SDM_CH_FTH_HI]), sext_eq_toInt (by decide)]; rfl
  have hhys : ((sinc2Stored k n bits at_ x s).f (Fld.SDM_CH_FHYS_FHYS k) : Int) = s.fthHys k := by
    rw [hkeep.f (by simp [Fld.SDM_CH_FHYS_FHYS])]; rfl
  change execSinc2Change k n bits s = _
  simp only [execSinc2Change, hr.1, hfen, hrise, Bool.and_self, ↓reduceIte]
  simp only [sinc2Stored, at_, x, osr] at hlo hhi hhys ⊢
  simp only [sinc2Judged, hlo, hhi, hhys, Bool.and_eq_true, Bool.or_eq_true, decide_eq_true_eq]

/-! ### The source by the value (R123) -/

variable {at_ : Nat} {x lo hi hys : Int}

theorem sinc2Judged_same (h : (s.flag (Fld.SDM_CH_STATUS_FACT k) = false ∧ lo ≤ x ∧ x ≤ hi) ∨
    (s.flag (Fld.SDM_CH_STATUS_FACT k) = true ∧ (x < lo + hys ∨ hi - hys < x))) : sinc2Judged k at_ x lo hi hys s = s := by
  rcases h with ⟨hoff, hin⟩ | ⟨hon, hout⟩
  · rw [sinc2Judged, if_neg (by simp [hoff]), if_neg (by omega)]
  · rw [sinc2Judged, if_pos hon, if_neg (by omega)]

theorem sinc2Judged_trips (hd : s.dsgRun = false) (hoff : s.flag (Fld.SDM_CH_STATUS_FACT k) = false) (hout : x < lo ∨ hi < x) :
    let t := sinc2Judged k at_ x lo hi hys s
    t.flag (Fld.SDM_CH_STATUS_FACT k) = true ∧ t.f (Fld.SDM_CH_STATUS_FTRIP k) = 1 ∧ t.raw (sinc2Src k) = true ∧
      (s.flag (Fld.QNC_ROUTE_EN (sinc2Src k)) = true → t.latch (sinc2Src k) = true) ∧ s.faultFrame t [0x4008, 0x400A, 0x400C] ∧
      t.rd (.SDM_CH_FWORD k) = s.rd (.SDM_CH_FWORD k) ∧ t.time = s.time ∧ t.sdm = s.sdm := by
  intro t
  let u := (s.raise (Fld.SDM_CH_STATUS_FACT k)).raise (Fld.SDM_CH_STATUS_FTRIP k)
  have hkeep : s.keeps u [.SDM_CH_STATUS k] := (keeps_raise s _ (by simp [Fld.SDM_CH_STATUS_FACT])).trans
    (keeps_raise _ _ (by simp [Fld.SDM_CH_STATUS_FTRIP]))
  have hdu : u.dsgRun = false := (dsgRun_congr (hkeep _ (by simp))).trans hd
  have ht : t = sourceActive0 (sinc2Src k) (at_ * 16) u := by
    rw [← sourceActive_idle _ _ u hdu]
    exact (if_neg (by simp [hoff])).trans (if_pos hout.symm)
  have hsrc : Reacted Reg.inSource u t := by rw [ht]; exact sourceActive0_inSource _ _ u
  have hlow : (sinc2Src k).val < 118 := by have := k.isLt; simp only [sinc2Src]; omega
  refine ⟨?_, ?_, ?_, fun hroute => ?_, ?_, ?_, hsrc.time, (congrArg State.sdm hsrc.rest :)⟩
  · exact (flag_eq_one_iff _ _ _).mpr ((f_congr _ (hsrc.regs _ rfl)).trans ((f_raise_apart _ _ 4 8 1 (by decide) (by decide)).trans
      (f_raise s (Fld.SDM_CH_STATUS_FACT k) (show 8 + 1 ≤ 32 by decide))))
  · exact (f_congr _ (hsrc.regs _ rfl)).trans (f_raise _ (Fld.SDM_CH_STATUS_FTRIP k) (show 4 + 1 ≤ 32 by decide))
  · rw [ht, raw_sourceActive0, if_pos ⟨rfl, hlow⟩]
  · rw [ht]
    exact latch_sourceActive0_routed _ _ u hlow ((hkeep.flag (by simp [Fld.QNC_ROUTE_EN])).trans hroute)
  · exact (hkeep.faultFrame ⟨rfl, rfl⟩ (by simp [addr_sdmStatus])).trans hsrc.sourceFrame
  · exact (hsrc.regs _ rfl).trans (hkeep _ (by simp))

theorem sinc2Judged_releases (hon : s.flag (Fld.SDM_CH_STATUS_FACT k) = true) (hlo : lo + hys ≤ x) (hhi : x ≤ hi - hys) :
    let t := sinc2Judged k at_ x lo hi hys s
    t.flag (Fld.SDM_CH_STATUS_FACT k) = false ∧ t.raw (sinc2Src k) = false ∧ t.latch (sinc2Src k) = s.latch (sinc2Src k) ∧
      s.keeps t [.SDM_CH_STATUS k, .QNC_RAW 2, .QNC_RAW 3] ∧ s.keepsMem t ∧ t.time = s.time ∧ t.sdm = s.sdm := by
  intro t
  let u := s.lower (Fld.SDM_CH_STATUS_FACT k)
  have ht : t = sourceInactive (sinc2Src k) u := (if_pos hon).trans ((if_pos ⟨hlo, hhi⟩).trans (if_pos hon))
  obtain ⟨hraw, hkeep, hmem, hsdm, htime⟩ := sourceInactive_shows (sinc2Src k) u
  rw [← ht] at hraw hkeep hmem hsdm htime
  have hlower : s.keeps u [.SDM_CH_STATUS k] := keeps_setF s _ 0 (by simp [Fld.SDM_CH_STATUS_FACT])
  have hmask : (⟨(sinc2Src k).val / 32, by omega⟩ : Fin 4) = 2 ∨ (⟨(sinc2Src k).val / 32, by omega⟩ : Fin 4) = 3 := by
    have := k.isLt
    simp only [sinc2Src, Fin.ext_iff, Fin.isValue]
    omega
  refine ⟨?_, hraw, latch_congr (fun i => ?_) _, fun r hr => ?_, hmem, htime, hsdm⟩
  · exact (hkeep.flag (by simp [Fld.SDM_CH_STATUS_FACT])).trans ((flag_eq_false_iff _ _).mpr
      (f_setF s (Fld.SDM_CH_STATUS_FACT k) 0 (show 8 + 1 ≤ 32 by decide)))
  · exact (hkeep _ (by simp)).trans (hlower _ (by simp))
  · simp only [List.mem_cons, List.not_mem_nil, or_false, not_or] at hr
    refine (hkeep r ?_).trans (hlower r (by simp [hr.1]))
    rcases hmask with h | h <;> simp [h, hr.2]

/-- Whatever the thresholds say, the value, the channels and device time stay. -/
theorem sinc2Judged_leaves (hd : s.dsgRun = false) :
    let t := sinc2Judged k at_ x lo hi hys s
    t.rd (.SDM_CH_FWORD k) = s.rd (.SDM_CH_FWORD k) ∧ t.time = s.time ∧ t.sdm = s.sdm := by
  intro t
  by_cases hon : s.flag (Fld.SDM_CH_STATUS_FACT k) = true
  · by_cases hin : lo + hys ≤ x ∧ x ≤ hi - hys
    · obtain ⟨-, -, -, hkeep, -, htime, hsdm⟩ := sinc2Judged_releases (at_ := at_) hon hin.1 hin.2
      exact ⟨hkeep _ (by simp), htime, hsdm⟩
    · rw [show t = s from sinc2Judged_same (.inr ⟨hon, by omega⟩)]
      exact ⟨rfl, rfl, rfl⟩
  · rw [Bool.not_eq_true] at hon
    by_cases hout : x < lo ∨ hi < x
    · obtain ⟨-, -, -, -, -, hword, htime, hsdm⟩ := sinc2Judged_trips (at_ := at_) (hys := hys) hd hon hout
      exact ⟨hword, htime, hsdm⟩
    · rw [show t = s from sinc2Judged_same (.inl ⟨hon, by omega⟩)]
      exact ⟨rfl, rfl, rfl⟩

/-! ### The command -/

theorem gives_sinc2Change (hd : s.dsgRun = false) (hr : s.sdmRuns k) (hfen : s.flag (Fld.SDM_CH_CTL_FEN k) = true) (hdiv : 0 < sdmDiv s k)
    (n bits : Nat) {x : Int} (hx : sinc2Value (8 * 2 ^ s.f (Fld.SDM_CH_CTL_OSR2 k)) (sinc2 (8 * 2 ^ s.f (Fld.SDM_CH_CTL_OSR2 k)) bits) = x) :
    gives (.sinc2Change k n bits) s fun t =>
      let was := s.flag (Fld.SDM_CH_STATUS_FACT k)
      (t.f (Fld.SDM_CH_FWORD_F k) : Int) = x % 2 ^ 16 ∧ t.time = max s.time ((n + 1) * sdmDiv s k + s.f (Fld.SDM_CH_CTL_DLY k) + 18) ∧
      (∀ j, j ≠ k → t.sdm[j] = s.sdm[j]) ∧
      t.sdm[k] = { s.sdm[k] with kept := (List.range 8).map fun i => (bits.testBit i, (n - i) * sdmDiv s k) } ∧
      (was = false → x < s.fthLo k ∨ s.fthHi k < x →
        t.flag (Fld.SDM_CH_STATUS_FACT k) = true ∧ t.f (Fld.SDM_CH_STATUS_FTRIP k) = 1 ∧ t.raw (sinc2Src k) = true ∧
        (s.flag (Fld.QNC_ROUTE_EN (sinc2Src k)) = true → t.latch (sinc2Src k) = true) ∧ s.faultFrame t [0x4008, 0x400A, 0x400C]) ∧
      (was = true → s.fthLo k + s.fthHys k ≤ x → x ≤ s.fthHi k - s.fthHys k →
        t.flag (Fld.SDM_CH_STATUS_FACT k) = false ∧ t.raw (sinc2Src k) = false ∧ t.latch (sinc2Src k) = s.latch (sinc2Src k) ∧
        s.keeps t [.SDM_CH_FWORD k, .SDM_CH_STATUS k, .QNC_RAW 2, .QNC_RAW 3] ∧ s.keepsMem t) ∧
      ((was = false ∧ s.fthLo k ≤ x ∧ x ≤ s.fthHi k) ∨ (was = true ∧ (x < s.fthLo k + s.fthHys k ∨ s.fthHi k - s.fthHys k < x)) →
        s.keeps t [.SDM_CH_FWORD k] ∧ s.keepsMem t) := by
  refine ⟨_, exec_sinc2Change hr hfen hdiv n bits, ?_⟩
  rw [hx]
  generalize (n + 1) * sdmDiv s k + s.f (Fld.SDM_CH_CTL_DLY k) + 18 = at_
  let u := sinc2Stored k n bits at_ x s
  have hkeep : s.keeps u [.SDM_CH_FWORD k] := sinc2Stored_keeps n bits at_ x s
  have hdu : u.dsgRun = false := (dsgRun_congr (hkeep _ (by simp))).trans hd
  have hact : s.flag (Fld.SDM_CH_STATUS_FACT k) = u.flag (Fld.SDM_CH_STATUS_FACT k) := (hkeep.flag (by simp [Fld.SDM_CH_STATUS_FACT])).symm
  have hchan : u.sdm[k] = _ := sinc2Stored_channel n bits at_ x s
  rw [sinc2Stored_div] at hchan
  obtain ⟨hword, htime, hsdm⟩ := sinc2Judged_leaves (k := k) (at_ := at_) (x := x) (lo := s.fthLo k) (hi := s.fthHi k) (hys := s.fthHys k) hdu
  dsimp only
  rw [hact]
  refine ⟨by rw [f_congr _ hword]; exact sinc2Stored_word n bits at_ x s, htime, fun j hj => by rw [hsdm]; exact sinc2Stored_other n bits at_ x s j hj,
    by rw [hsdm]; exact hchan, fun hoff hout => ?_, fun hon hlo hhi => ?_, fun hsame => ?_⟩
  · obtain ⟨hfact, htrip, hraw, hlatch, hframe, -⟩ := sinc2Judged_trips (at_ := at_) (hys := s.fthHys k) hdu hoff hout
    exact ⟨hfact, htrip, hraw, fun h => hlatch ((hkeep.flag (by simp [Fld.QNC_ROUTE_EN])).trans h),
      (hkeep.faultFrame ⟨rfl, rfl⟩ (by simp [addr_sdmFword])).trans hframe⟩
  · obtain ⟨hfact, hraw, hlatch, hregs, hmem, -⟩ := sinc2Judged_releases (at_ := at_) hon hlo hhi
    exact ⟨hfact, hraw, hlatch.trans (latch_congr (fun i => hkeep _ (by simp)) _),
      (hkeep.weaken (by simp)).trans (hregs.weaken (by simp)), hmem⟩
  · rw [sinc2Judged_same (s := u) hsame]
    exact ⟨hkeep, rfl, rfl⟩

end Sinc2

/-! ## Counter clears (R128) -/

/-- A pass over operations that each write registers of a list. -/
theorem onlyRegs_foldl {ι : Type} {g : State → ι → State} {rs : List Reg} (hg : ∀ (s : State) i, s.onlyRegs (g s i) rs) (l : List ι) (s : State) :
    s.onlyRegs (l.foldl g s) rs := by
  induction l generalizing s with
  | nil => exact ⟨rfl, fun _ _ => rfl⟩
  | cons i l ih => exact (hg s i).trans (ih _)

/-- The counters of one pair cleared, if it is named. -/
def pairCleared (mask : BitVec 16) (s : State) (m : Fin 16) : State :=
  if mask.getLsbD m.val then (s.setF (Fld.SDM_CHK_STAT_XCNT m) 0).setF (Fld.SDM_CHK_STAT_XRUN m) 0 else s

theorem rd_pairCleared (mask : BitVec 16) (s : State) (m : Fin 16) : (pairCleared mask s m).rd (.SDM_CHK_STAT m) =
    if mask.getLsbD m.val then s.rd (.SDM_CHK_STAT m) &&& 0xFFF00000#32 else s.rd (.SDM_CHK_STAT m) := by
  unfold pairCleared
  split
  · refine (rd_setF _ (Fld.SDM_CHK_STAT_XRUN m) 0).trans ((wPut_zero _ _ _).trans ?_)
    rw [show (s.setF (Fld.SDM_CHK_STAT_XCNT m) 0).rd (Fld.SDM_CHK_STAT_XRUN m).reg = s.rd (.SDM_CHK_STAT m) &&& ~~~ wMask 0 16 from
      (rd_setF s (Fld.SDM_CHK_STAT_XCNT m) 0).trans (wPut_zero _ _ _), BitVec.and_assoc]
    exact congrArg _ (show ~~~ wMask 0 16 &&& ~~~ wMask 16 4 = 0xFFF00000#32 by decide)
  · rfl

theorem pairCleared_onlyRegs (mask : BitVec 16) (s : State) (m : Fin 16) : s.onlyRegs (pairCleared mask s m) [.SDM_CHK_STAT m] := by
  unfold pairCleared
  split
  · exact (onlyRegs_setF s _ 0 (by simp [Fld.SDM_CHK_STAT_XCNT])).trans (onlyRegs_setF _ _ 0 (by simp [Fld.SDM_CHK_STAT_XRUN]))
  · exact ⟨rfl, fun _ _ => rfl⟩

/-- The counters of one sum group cleared, if it is named. -/
def groupCleared (mask : BitVec 4) (s : State) (g : Fin 4) : State :=
  if mask.getLsbD g.val then
    ((s.setF (Fld.SDM_SG_STAT_SCNT g) 0).setF (Fld.SDM_SG_STAT_SRUN_A g) 0).setF (Fld.SDM_SG_STAT_SRUN_B g) 0
  else s

theorem rd_groupCleared (mask : BitVec 4) (s : State) (g : Fin 4) : (groupCleared mask s g).rd (.SDM_SG_STAT g) =
    if mask.getLsbD g.val then s.rd (.SDM_SG_STAT g) &&& 0xFF000000#32 else s.rd (.SDM_SG_STAT g) := by
  unfold groupCleared
  split
  · let u := s.setF (Fld.SDM_SG_STAT_SCNT g) 0
    have hu : u.rd (.SDM_SG_STAT g) = s.rd (.SDM_SG_STAT g) &&& ~~~ wMask 0 16 := (rd_setF s (Fld.SDM_SG_STAT_SCNT g) 0).trans (wPut_zero _ _ _)
    have hv : (u.setF (Fld.SDM_SG_STAT_SRUN_A g) 0).rd (.SDM_SG_STAT g) = u.rd (.SDM_SG_STAT g) &&& ~~~ wMask 16 4 :=
      (rd_setF u (Fld.SDM_SG_STAT_SRUN_A g) 0).trans (wPut_zero _ _ _)
    refine (rd_setF _ (Fld.SDM_SG_STAT_SRUN_B g) 0).trans ((wPut_zero _ _ _).trans ?_)
    rw [show (u.setF (Fld.SDM_SG_STAT_SRUN_A g) 0).rd (Fld.SDM_SG_STAT_SRUN_B g).reg = _ from hv, hu, BitVec.and_assoc, BitVec.and_assoc]
    exact congrArg _ (show ~~~ wMask 0 16 &&& (~~~ wMask 16 4 &&& ~~~ wMask 20 4) = 0xFF000000#32 by decide)
  · rfl

theorem groupCleared_onlyRegs (mask : BitVec 4) (s : State) (g : Fin 4) : s.onlyRegs (groupCleared mask s g) [.SDM_SG_STAT g] := by
  unfold groupCleared
  split
  · exact ((onlyRegs_setF s _ 0 (by simp [Fld.SDM_SG_STAT_SCNT])).trans (onlyRegs_setF _ _ 0 (by simp [Fld.SDM_SG_STAT_SRUN_A]))).trans
      (onlyRegs_setF _ _ 0 (by simp [Fld.SDM_SG_STAT_SRUN_B]))
  · exact ⟨rfl, fun _ _ => rfl⟩

/-- A pass that clears counters clears each register by its own step. -/
theorem foldl_cleared {n : Nat} {reg : Fin n → Reg} (hreg : ∀ i j, reg i = reg j → i = j) {clear : State → Fin n → State} {own : Fin n → Word → Word}
    (hown : ∀ s i, (clear s i).rd (reg i) = own i (s.rd (reg i))) (honly : ∀ (s : State) i, s.onlyRegs (clear s i) [reg i]) (s : State) :
    (∀ i, ((List.finRange n).foldl clear s).rd (reg i) = own i (s.rd (reg i))) ∧
      s.onlyRegs ((List.finRange n).foldl clear s) ((List.finRange n).map reg) :=
  ⟨fun i => foldl_view clear (fun i u => u.rd (reg i)) own (fun u i j hj => (honly u i).2 _ (by simpa using fun e => hj (hreg _ _ e))) hown _
    (List.nodup_finRange n) s i (List.mem_finRange i), onlyRegs_foldl (fun u i => (honly u i).weaken (by simp)) _ s⟩

/-! ## Writes to SDM_CHKm_CTL (R118, R130) -/

section CheckPair

variable {s : State} {m : Fin 16} {v : Word}

theorem chkCtlWrite_refused (hv : v.getLsbD 0 = true) (hdiv : sdmDiv (sdmDrain s) (bankA m) ≠ sdmDiv (sdmDrain s) (bankB m)) :
    chkCtlWrite m v s = sdmIgn (bankA m) (sdmDrain s) := by
  rw [← sdmPartner_bankA] at hdiv
  exact if_pos (by rw [hv, Bool.true_and]; exact bne_iff_ne.mpr hdiv)

theorem chkCtlWrite_taken (h : v.getLsbD 0 = false ∨ sdmDiv (sdmDrain s) (bankA m) = sdmDiv (sdmDrain s) (bankB m)) :
    chkCtlWrite m v s = sdmSettle (writePlain (.SDM_CHK_CTL m) v (sdmDrain s)) := by
  rw [← sdmPartner_bankA] at h
  refine if_neg ?_
  rw [Bool.and_eq_true, bne_iff_ne]
  rcases h with h | h
  · exact fun hc => absurd (h.symm.trans hc.1) (by decide)
  · exact fun hc => hc.2 h

/-- Every field of SDM_CHKm_CTL takes what is written (R128). -/
theorem wGet_chkCtl (s : State) (m : Fin 16) (v : Word) {lo width dflt : Nat} (h : ⟨lo, width, .rw, dflt, []⟩ ∈ (Reg.SDM_CHK_CTL m).rows) :
    wGet (writeMerged s (.SDM_CHK_CTL m) v) lo width = wGet v lo width :=
  (wGet_writeMerged s _ v ⟨lo, width, .rw, dflt, []⟩ h (by simp)).trans (if_pos rfl)

theorem writes_checkPair_refused (hd : s.dsgRun = false) (hv : v.getLsbD 0 = true) (hdiv : sdmDiv s (bankA m) ≠ sdmDiv s (bankB m)) :
    writes (.checkPairCtlWrite m v) s fun w t =>
      t.f (Fld.SDM_CH_STATUS_WR_IGN (bankA m)) = 1 ∧ (sdmDrain w).onlyRegs t [.SDM_CH_STATUS (bankA m)] := by
  obtain ⟨hregs, -⟩ := sdmDrain_shows s.atWrite ((atWrite_dsgRun s).trans hd)
  have hset : ∀ r : Reg, r.inSense = false → (sdmDrain s.atWrite).rd r = s.rd r := fun r hr => (hregs r hr).trans (rd_atWrite s r)
  refine writes_agentTurn rfl ?_
  rw [chkCtlWrite_refused hv (by rw [sdmDiv_congr hset, sdmDiv_congr hset]; exact hdiv)]
  exact ⟨f_raise _ _ (by simp [Fld.SDM_CH_STATUS_WR_IGN]), onlyRegs_raise _ _ (by simp [Fld.SDM_CH_STATUS_WR_IGN])⟩

theorem writes_checkPair_taken (hd : s.dsgRun = false) (h : v.getLsbD 0 = false ∨ sdmDiv s (bankA m) = sdmDiv s (bankB m))
    (hpend : ∀ j : Fin 32, s.sdm[j].pend = none) :
    writes (.checkPairCtlWrite m v) s fun w t =>
      t.f (Fld.SDM_CHK_CTL_EN m) = wGet v 0 1 ∧ t.f (Fld.SDM_CHK_CTL_XLIM m) = wGet v 8 4 ∧ t.f (Fld.SDM_CHK_CTL_XTOL m) = wGet v 16 16 ∧
        (sdmDrain w).onlyRegs t [.SDM_CHK_CTL m] := by
  obtain ⟨hregs, hkept⟩ := sdmDrain_shows s.atWrite ((atWrite_dsgRun s).trans hd)
  have hset : ∀ r : Reg, r.inSense = false → (sdmDrain s.atWrite).rd r = s.rd r := fun r hr => (hregs r hr).trans (rd_atWrite s r)
  refine writes_agentTurn rfl ?_
  rw [chkCtlWrite_taken (by rw [sdmDiv_congr hset, sdmDiv_congr hset]; exact h),
    sdmSettle_idle (s := writePlain _ v _) fun j => (hkept j).trans (by rw [atWrite_sdm]; exact hpend j)]
  have hfield {lo width dflt : Nat} (hrow : ⟨lo, width, .rw, dflt, []⟩ ∈ (Reg.SDM_CHK_CTL m).rows) :
      (writePlain (.SDM_CHK_CTL m) v (sdmDrain s.atWrite)).f ⟨.SDM_CHK_CTL m, lo, width⟩ = wGet v lo width :=
    (congrArg (wGet · lo width) (rd_writePlain _ v _)).trans (wGet_chkCtl _ m v hrow)
  exact ⟨hfield (dflt := 0) (by simp [Reg.rows]), hfield (dflt := 0) (by simp [Reg.rows]), hfield (dflt := 0xFFFF) (by simp [Reg.rows]),
    writePlain_onlyRegs _ v _⟩

end CheckPair

/-! ## The obligation -/

/-- Settles O15: a window event leaves the channels that it does not name, a sinc2 value is judged after it is stored, and the events taken
before a write to a check pair leave the clocks. -/
theorem sensingWindowsAndSources : Obligations.SensingWindowsAndSources := by
  unfold Obligations.SensingWindowsAndSources
  intro s hd hdiv runs opened lost
  refine ⟨fun k before tc rest hr hwin hb => gives_windowEvent hd hr (hdiv k) hwin hb, writes_softwareWindow hd hdiv,
    fun k hr hnow => gives_stuck hd hr hnow, gives_stuckEnd s, fun k n bits hr hfen => ?_, fun mask => writes_agentTurn rfl ?_,
    fun mask => writes_agentTurn rfl ?_, fun m a b v ha hb => ⟨sdmDrain_nothing, ?_⟩⟩
  · exact gives_sinc2Change hd hr hfen (hdiv k) n bits (by rw [sinc2_eq _ _ (by positivity)]; rfl)
  · exact foldl_cleared (own := fun m w => if mask.getLsbD m.val then w &&& 0xFFF00000#32 else w) (fun _ _ => Reg.SDM_CHK_STAT.inj)
      (rd_pairCleared mask) (pairCleared_onlyRegs mask) s.atWrite
  · exact foldl_cleared (own := fun g w => if mask.getLsbD g.val then w &&& 0xFF000000#32 else w) (fun _ _ => Reg.SDM_SG_STAT.inj)
      (rd_groupCleared mask) (groupCleared_onlyRegs mask) s.atWrite
  · obtain rfl : a = bankA m := Fin.ext ha
    obtain rfl : b = bankB m := Fin.ext hb
    exact ⟨writes_checkPair_refused hd, writes_checkPair_taken hd⟩

end Sys2Proof.Machine
end

section
/-! PROOF. O16: words told, words compared with their partners, and the obligation. -/

namespace Sys2Proof.Machine

open Sys2Proof

/-! ## A word delivered as it completes (R115, R116, R122, R532) -/

/-- What the delivery of a word of value `w`, saturated from `w0`, tells. -/
def wordTold (s t : State) (k : Fin 32) (w w0 : Int) (seq : Nat) : Prop :=
  let invalid := s.flag (Fld.SDM_CH_STATUS_STUCK_NOW k) = true ∨ s.sdm[k].halted = true
  let d := t.rd (.SDM_CH_DATA k)
  (BitVec.ofNat 24 d.toNat).toInt = w ∧ d.getLsbD 24 = false ∧ d.getLsbD 25 = false ∧ (d.getLsbD 26 = true ↔ w ≠ w0) ∧
    (d.getLsbD 27 = true ↔ invalid) ∧ wGet d 28 4 = seq % 16 ∧ t.f (Fld.SDM_CH_STATUS_WORD k) = 1 ∧
    (w ≠ w0 → t.f (Fld.SDM_CH_STATUS_SAT k) = 1) ∧ (∀ j, j ≠ k → t.sdm[j] = s.sdm[j]) ∧
    s.keeps t [.SDM_CH_DATA k, .SDM_CH_STATUS k] ∧ s.keepsMem t

theorem sat24_bounds (x : Int) : -(2 ^ 23) ≤ sat24 x ∧ sat24 x ≤ 2 ^ 23 - 1 := by
  simp only [sat24]
  omega

/-- A word that no check holds up is delivered as it completes. -/
theorem sdmComplete_told {s : State} {k : Fin 32} (hpend : ∀ j : Fin 32, s.sdm[j].pend = none) (hpair : s.pairOn k = false) (hsums : s.sumsOff)
    (hanv : k.val < 16 ∨ s.anvLive = false) (key : Nat) (seq : Option Nat) (osr n bits : Nat) :
    let t := sdmComplete k key seq osr n bits s
    let w0 := sdmTrim s k osr (sinc3 osr bits)
    wordTold s t k (sat24 w0) w0 (seq.getD s.sdm[k].seq) ∧ t.f (Fld.SDM_CH_STATUS_OPEN k) = s.f (Fld.SDM_CH_STATUS_OPEN k) ∧
      t.sdm[k] = { s.sdm[k] with seq := if seq.isSome then s.sdm[k].seq else (s.sdm[k].seq + 1) % 16,
                                 kept := (List.range 8).map fun i => (bits.testBit i, (n - i) * sdmDiv s k) } ∧ t.time = s.time := by
  intro t w0
  let x := newWord s k key seq osr bits
  let y : SdmWord := { x with pairDone := true, sumDone := true }
  let u := wordPut k n bits x s
  let v := putWord k (some y) u
  have hu : u.sdm[k] = _ := wordPut_channel k n bits x s
  have hv : v.sdm[k] = { u.sdm[k] with pend := some y } := putWord_channel k (some y) u
  have hother (j : Fin 32) (hj : j ≠ k) : v.sdm[j] = s.sdm[j] := (putWord_other _ _ u j hj).trans (wordPut_other _ _ _ _ s j hj)
  have ht : t = sdmDeliver k v := by
    rw [← sdmSettle_alone (s := u) (by rw [hu]) rfl (fun j hj => by rw [wordPut_other _ _ _ _ _ _ hj, hpend]) hpair hsums hanv]
    exact sdmComplete_eq (hpend k) key seq osr n bits
  have hout : Delivered k y v t := ht ▸ sdmDeliver_delivered (by rw [hv]) rfl rfl hanv
  have hseq : seqOf y v.sdm[k] = seq.getD s.sdm[k].seq := by rw [hv, hu]; rfl
  have hdata := hout.data
  rw [hseq] at hdata
  obtain ⟨h0, h1, h2, h3⟩ := newWord_tags s k key seq osr bits
  obtain ⟨hlo, hhi⟩ := sat24_bounds w0
  have hsat : y.tags.getLsbD 2 = true ↔ sat24 w0 ≠ w0 := by rw [show y.tags.getLsbD 2 = _ from h2, bne_iff_ne, ne_comm]
  refine ⟨⟨?_, ?_, ?_, ?_, ?_, ?_, hout.word, fun h => hout.sat (hsat.mpr h), fun j hj => (hout.others j hj).trans (hother j hj), hout.regs,
    hout.mem⟩, hout.open_, ?_, hout.sensed.time⟩
  · rw [hdata]; exact deliveredWord_current y _ hlo hhi
  · rw [hdata]; exact (deliveredWord_tag y _ 0 (by decide)).trans h0
  · rw [hdata]; exact (deliveredWord_tag y _ 1 (by decide)).trans h1
  · rw [hdata, deliveredWord_tag y _ 2 (by decide)]; exact hsat
  · rw [hdata, deliveredWord_tag y _ 3 (by decide), show y.tags.getLsbD 3 = _ from h3, Bool.or_eq_true]
  · rw [hdata]; exact deliveredWord_seq y _
  · rw [hout.channel, hv, hu, SdmCh.delivered, ← hpend k]
    rfl

section Commands

variable {s : State} {k : Fin 32}

/-- A window that ends, before its word completes (R116). -/
def windowEnded (k : Fin 32) (at_ : Nat) (s : State) : State :=
  ((s.advance at_).modSdm k fun c => { c with win := none }).lower (Fld.SDM_CH_STATUS_OPEN k)

theorem exec_windowWordComplete {key ts osr : Nat} (hw : s.sdm[k].win = some ⟨key, ts, osr⟩) (hdiv : 0 < sdmDiv s k) (bits : Nat) :
    exec (.windowWordComplete k bits) s = .next (sdmComplete k key none osr (ts / sdmDiv s k + 3 * osr - 1) bits
      (windowEnded k (ts + 3 * osr * sdmDiv s k + s.f (Fld.SDM_CH_CTL_DLY k) + 8) s)) := by
  have hmax : max 1 (sdmDiv s k) = sdmDiv s k := Nat.max_eq_right hdiv
  change execWindowWordComplete k bits s = _
  rw [execWindowWordComplete, hw]
  simp only [hmax]
  rfl

theorem exec_continuousWord (hr : s.sdmRuns k) (hdiv : 0 < sdmDiv s k) (hwin : sdmWin s k = 0) {n : Nat} (hn : sdmOsr s k ∣ n + 1)
    (hfirst : s.sdm[k].enCyc + sdmSpan s k ≤ (n + 1) * sdmDiv s k) (bits : Nat) :
    exec (.continuousWord k n bits) s = .next (sdmComplete k ((n + 1) * sdmDiv s k * 16) (some ((n + 1) / sdmOsr s k % 16)) (sdmOsr s k) n bits
      (s.advance ((n + 1) * sdmDiv s k + s.f (Fld.SDM_CH_CTL_DLY k) + 8))) := by
  refine congrArg Host.Outcome.next (if_pos ?_)
  simp only [hr.1, sdckRise_multiple hr hdiv, hwin, Nat.mod_eq_zero_of_dvd hn, hfirst, Bool.and_self, decide_true]

/-- What is told of the state that ends a window is told of the state before. -/
theorem windowEnded_keeps (k : Fin 32) (at_ : Nat) (s : State) : s.keeps (windowEnded k at_ s) [.SDM_CH_STATUS k] :=
  keeps_setF ((s.advance at_).modSdm k fun c => { c with win := none }) _ 0 (by simp [Fld.SDM_CH_STATUS_OPEN])

theorem windowEnded_channel (k : Fin 32) (at_ : Nat) (s : State) : (windowEnded k at_ s).sdm[k] = { s.sdm[k] with win := none } :=
  modSdm_same (s.advance at_) k _

theorem windowEnded_other (k : Fin 32) (at_ : Nat) (s : State) (j : Fin 32) (hj : j ≠ k) : (windowEnded k at_ s).sdm[j] = s.sdm[j] :=
  modSdm_ne (s.advance at_) k j _ hj

theorem windowEnded_sensed (k : Fin 32) (at_ : Nat) (s : State) : Sensed (s.advance at_) (windowEnded k at_ s) :=
  (Sensed.modSdm _ k _).trans (.setF _ _ 0 rfl (by simp [Fld.SDM_CH_STATUS_OPEN]))

end Commands

/-! ## The counters of a pair after a comparison (R119, R121) -/

section Pair

variable {s t : State} {m : Fin 16}

/-- A comparison of a pair: a mismatch, or a run at its end. -/
def pairJudged (m : Fin 16) (bad : Bool) (s : State) : State := if bad then pairMismatch m s else s.setF (Fld.SDM_CHK_STAT_XRUN m) 0

/-- What a mismatch writes to the pair's counters and to an axis that it holds, with what it leaves. -/
structure Mismatched (m : Fin 16) (s t : State) : Prop where
  sensed : Sensed s t
  pend : ∀ j : Fin 32, t.sdm[j].pend = s.sdm[j].pend
  mis : t.f (Fld.SDM_CHK_STAT_XMIS m) = 1
  cnt : t.f (Fld.SDM_CHK_STAT_XCNT m) = min 65535 (s.f (Fld.SDM_CHK_STAT_XCNT m) + 1)
  run : t.f (Fld.SDM_CHK_STAT_XRUN m) = min 15 (s.f (Fld.SDM_CHK_STAT_XRUN m) + 1)
  limit : s.f (Fld.SDM_CHK_CTL_XLIM m) = s.f (Fld.SDM_CHK_STAT_XRUN m) + 1 →
    t.f (Fld.SDM_CHK_STAT_XLIMIT m) = 1 ∧ ∀ ax : Fin 4, m.val / 3 = ax.val → t.axis ax = axHold

/-- A mismatch counted and recorded. -/
def mismatchCounted (m : Fin 16) (s : State) : State :=
  let u := (s.setF (Fld.SDM_CHK_STAT_XCNT m) (sat 65535 (s.f (Fld.SDM_CHK_STAT_XCNT m) + 1))).raise (Fld.SDM_CHK_STAT_XMIS m)
  recordFault 0x3001 (u.setF (Fld.SDM_CHK_STAT_XRUN m) (sat 15 (s.f (Fld.SDM_CHK_STAT_XRUN m) + 1)))

/-- The limit of a pair reached: XLIMIT, its record and the reaction for both channels. -/
def limitReached (m : Fin 16) (s : State) : State :=
  sdmReaction (bankB m) (sdmReaction (bankA m) (recordFault 0x3202 (s.raise (Fld.SDM_CHK_STAT_XLIMIT m))))

theorem mismatchCounted_shows (m : Fin 16) (s : State) (hd : s.dsgRun = false) :
    let t := mismatchCounted m s
    Sensed s t ∧ t.sdm = s.sdm ∧ t.f (Fld.SDM_CHK_STAT_XMIS m) = 1 ∧
      t.f (Fld.SDM_CHK_STAT_XCNT m) = min 65535 (s.f (Fld.SDM_CHK_STAT_XCNT m) + 1) ∧
      t.f (Fld.SDM_CHK_STAT_XRUN m) = min 15 (s.f (Fld.SDM_CHK_STAT_XRUN m) + 1) := by
  intro t
  let u := s.setF (Fld.SDM_CHK_STAT_XCNT m) (sat 65535 (s.f (Fld.SDM_CHK_STAT_XCNT m) + 1))
  let v := u.raise (Fld.SDM_CHK_STAT_XMIS m)
  let w := v.setF (Fld.SDM_CHK_STAT_XRUN m) (sat 15 (s.f (Fld.SDM_CHK_STAT_XRUN m) + 1))
  have hset : Sensed s w := ((Sensed.setF s _ _ rfl (by simp [Fld.SDM_CHK_STAT_XCNT])).trans
    (.raise u _ rfl (by simp [Fld.SDM_CHK_STAT_XMIS]))).trans (.setF v _ _ rfl (by simp [Fld.SDM_CHK_STAT_XRUN]))
  have hrec : Recorded w t := recordFault_recorded 0x3001 w (by decide) (by decide) (hset.quiet hd)
  refine ⟨hset.trans (.of_recorded hrec), hrec.sdm, (hrec.f rfl).trans ?_, (hrec.f rfl).trans ?_, (hrec.f rfl).trans ?_⟩
  · exact (f_setF_apart v _ 16 4 _ 20 1 (by decide) (by decide)).trans (f_raise u (Fld.SDM_CHK_STAT_XMIS m) (show 20 + 1 ≤ 32 by decide))
  · refine (f_setF_apart v _ 16 4 _ 0 16 (by decide) (by decide)).trans ((f_raise_apart u _ 20 0 16 (by decide) (by decide)).trans
      ((f_setF s (Fld.SDM_CHK_STAT_XCNT m) _ (show 0 + 16 ≤ 32 by decide)).trans ?_))
    rw [sat_eq_min]
    exact Nat.mod_eq_of_lt (show _ < 2 ^ 16 by omega)
  · refine (f_setF v (Fld.SDM_CHK_STAT_XRUN m) _ (show 16 + 4 ≤ 32 by decide)).trans ?_
    rw [sat_eq_min]
    exact Nat.mod_eq_of_lt (show _ < 2 ^ 4 by omega)

theorem limitReached_shows (m : Fin 16) (s : State) (hd : s.dsgRun = false) :
    let t := limitReached m s
    Sensed s t ∧ (∀ j : Fin 32, t.sdm[j].pend = s.sdm[j].pend) ∧ t.f (Fld.SDM_CHK_STAT_XLIMIT m) = 1 ∧
      (∀ lo width, lo + width ≤ 21 → t.f ⟨.SDM_CHK_STAT m, lo, width⟩ = s.f ⟨.SDM_CHK_STAT m, lo, width⟩) ∧
      ∀ ax : Fin 4, m.val / 3 = ax.val → t.axis ax = axHold := by
  intro t
  let u := s.raise (Fld.SDM_CHK_STAT_XLIMIT m)
  let v := recordFault 0x3202 u
  let w := sdmReaction (bankA m) v
  have hu : Sensed s u := .raise s _ rfl (by simp [Fld.SDM_CHK_STAT_XLIMIT])
  have hv : Recorded u v := recordFault_recorded 0x3202 u (by decide) (by decide) (hu.quiet hd)
  have hsv : Sensed s v := hu.trans (.of_recorded hv)
  have hw : Sensed v w := sdmReaction_sensed _ v (hsv.quiet hd)
  have hdw := hw.quiet (hsv.quiet hd)
  have hrd : t.rd (.SDM_CHK_STAT m) = u.rd (.SDM_CHK_STAT m) :=
    ((sdmReaction_shows (bankB m) w hdw).1 _ (by simp) rfl).trans (((sdmReaction_shows (bankA m) v (hsv.quiet hd)).1 _ (by simp) rfl).trans
      (hv.regs _ rfl))
  refine ⟨(hsv.trans hw).trans (sdmReaction_sensed _ w hdw), fun j => ?_, ?_, fun lo width h => ?_, fun ax hax => ?_⟩
  · exact (sdmReaction_pend _ w hdw j).trans ((sdmReaction_pend _ v (hsv.quiet hd) j).trans (by rw [hv.sdm]; rfl))
  · exact (f_congr _ hrd).trans (f_raise s _ (by simp [Fld.SDM_CHK_STAT_XLIMIT]))
  · exact (f_congr ⟨.SDM_CHK_STAT m, lo, width⟩ hrd).trans (f_raise_apart s _ 21 lo width (by omega) (by omega))
  · exact ((sdmReaction_shows (bankB m) w hdw).2.1 ax (by simp only [bankB]; omega)).1

theorem pairMismatch_eq (m : Fin 16) (s : State) (hd : s.dsgRun = false) : pairMismatch m s =
    if s.f (Fld.SDM_CHK_CTL_XLIM m) = s.f (Fld.SDM_CHK_STAT_XRUN m) + 1 then limitReached m (mismatchCounted m s) else mismatchCounted m s := by
  have hlim : (mismatchCounted m s).f (Fld.SDM_CHK_CTL_XLIM m) = s.f (Fld.SDM_CHK_CTL_XLIM m) := (mismatchCounted_shows m s hd).1.f rfl
  refine if_congr ?_ (by rw [limitReached, ← sdmPartner_bankA]; rfl) rfl
  change (((mismatchCounted m s).f (Fld.SDM_CHK_CTL_XLIM m) != 0) &&
    decide (s.f (Fld.SDM_CHK_STAT_XRUN m) + 1 = (mismatchCounted m s).f (Fld.SDM_CHK_CTL_XLIM m))) = true ↔ _
  simp only [hlim, Bool.and_eq_true, bne_iff_ne, decide_eq_true_eq]
  omega

theorem pairMismatch_mismatched (m : Fin 16) (s : State) (hd : s.dsgRun = false) : Mismatched m s (pairMismatch m s) := by
  obtain ⟨hsensed, hsdm, hmis, hcnt, hrun⟩ := mismatchCounted_shows m s hd
  rw [pairMismatch_eq m s hd]
  split
  · obtain ⟨hsensed', hpend', hlimit, hfields, hax⟩ := limitReached_shows m (mismatchCounted m s) (hsensed.quiet hd)
    exact ⟨hsensed.trans hsensed', fun j => (hpend' j).trans (by rw [hsdm]), (hfields 20 1 (by decide)).trans hmis,
      (hfields 0 16 (by decide)).trans hcnt, (hfields 16 4 (by decide)).trans hrun, fun _ => ⟨hlimit, hax⟩⟩
  · next h => exact ⟨hsensed, fun j => by rw [hsdm], hmis, hcnt, hrun, fun e => absurd e h⟩

/-! ## Two words of one window compared (R119) -/

/-- A word whose pair check has been made. -/
def SdmWord.judged (bad : Bool) (x : SdmWord) : SdmWord := { x with pairDone := true, tags := if bad then x.tags ||| 1#4 else x.tags }

/-- The words of both channels put to wait. -/
def putPair (m : Fin 16) (x y : SdmWord) (s : State) : State := putWord (bankB m) (some y) (putWord (bankA m) (some x) s)

theorem putPair_bankA (m : Fin 16) (x y : SdmWord) (s : State) : (putPair m x y s).sdm[bankA m] = { s.sdm[bankA m] with pend := some x } := by
  rw [putPair, putWord_other _ _ _ _ (bankA_ne_bankB m), putWord_channel]

theorem putPair_bankB (m : Fin 16) (x y : SdmWord) (s : State) : (putPair m x y s).sdm[bankB m] = { s.sdm[bankB m] with pend := some y } := by
  rw [putPair, putWord_channel, putWord_other _ _ _ _ (bankA_ne_bankB m).symm]

theorem putPair_other (m : Fin 16) (x y : SdmWord) (s : State) (j : Fin 32) (ha : j ≠ bankA m) (hb : j ≠ bankB m) :
    (putPair m x y s).sdm[j] = s.sdm[j] := by
  rw [putPair, putWord_other _ _ _ _ hb, putWord_other _ _ _ _ ha]

theorem putPair_sensed (m : Fin 16) (x y : SdmWord) (s : State) : Sensed s (putPair m x y s) := (putWord_sensed _ _ s).trans (putWord_sensed _ _ _)

/-- The words of a pair wait, and no others. -/
structure PairWaits (m : Fin 16) (x y : SdmWord) (s : State) : Prop where
  bankA : s.sdm[bankA m].pend = some x
  bankB : s.sdm[bankB m].pend = some y
  others : ∀ j, j ≠ Machine.bankA m → j ≠ Machine.bankB m → s.sdm[j].pend = none

theorem PairWaits.of_pend {x y : SdmWord} (h : PairWaits m x y s) (hp : ∀ j : Fin 32, t.sdm[j].pend = s.sdm[j].pend) : PairWaits m x y t :=
  ⟨(hp _).trans h.bankA, (hp _).trans h.bankB, fun j ha hb => (hp j).trans (h.others j ha hb)⟩

theorem PairWaits.put {x y : SdmWord} (h : PairWaits m x y s) (x' y' : SdmWord) : PairWaits m x' y' (putPair m x' y' s) :=
  ⟨by rw [putPair_bankA], by rw [putPair_bankB], fun j ha hb => by rw [putPair_other _ _ _ _ _ ha hb, h.others j ha hb]⟩

/-- Whether two words differ beyond XTOL. -/
def beyondTol (s : State) (m : Fin 16) (x y : SdmWord) : Bool := decide (s.f (Fld.SDM_CHK_CTL_XTOL m) * 256 < (x.w - y.w).natAbs)

/-- The comparison of two words of one window, neither of them INVALID. -/
theorem pairSettle_compared {x y : SdmWord} (h : PairWaits m x y s) (hon : s.flag (Fld.SDM_CHK_CTL_EN m) = true) (hkey : y.key = x.key)
    (hdone : x.pairDone = false) (hx : x.tags.getLsbD 3 = false) (hy : y.tags.getLsbD 3 = false) :
    pairSettle (bankA m) s = pairJudged m (beyondTol s m x y) (putPair m (x.judged (beyondTol s m x y)) (y.judged (beyondTol s m x y)) s) := by
  have hpair : s.pairOn (bankA m) = true := by rw [State.pairOn, sdmPair_bankA]; exact hon
  have hhas : hasWord s (bankB m) x.key = true := by simp only [hasWord, h.bankB, hkey, decide_true]
  have htag (bad : Bool) : tagWord (bankB m) (SdmWord.judged bad) (tagWord (bankA m) (SdmWord.judged bad) s) =
      putPair m (x.judged bad) (y.judged bad) s := by
    rw [tagWord_some h.bankA, tagWord_some (by rw [putWord_other _ _ _ _ (bankA_ne_bankB m).symm, h.bankB])]
    rfl
  unfold pairSettle
  rw [h.bankA]
  simp only [hdone, hpair, sdmPartner_bankA, sdmPair_bankA, hhas, h.bankB, hx, hy, Bool.not_true, Bool.false_eq_true, Bool.false_or, ↓reduceIte]
  rw [← htag]
  rfl

/-- A word whose pair check has been made is left by the check. -/
theorem pairSettle_judged {k : Fin 32} {x : SdmWord} (h : s.sdm[k].pend = some x) (hdone : x.pairDone = true) : pairSettle k s = s := by
  rw [pairSettle, h]
  exact if_pos hdone

/-- What a comparison leaves of the words, whatever its outcome. -/
theorem pairJudged_leaves (m : Fin 16) (bad : Bool) (s : State) (hd : s.dsgRun = false) :
    Sensed s (pairJudged m bad s) ∧ ∀ j : Fin 32, (pairJudged m bad s).sdm[j].pend = s.sdm[j].pend := by
  unfold pairJudged
  split
  · have h := pairMismatch_mismatched m s hd
    exact ⟨h.sensed, h.pend⟩
  · exact ⟨.setF s _ 0 rfl (by simp [Fld.SDM_CHK_STAT_XRUN]), fun _ => rfl⟩

/-- A word with both its checks made, after a comparison. -/
def SdmWord.checked (bad : Bool) (x : SdmWord) : SdmWord := { x.judged bad with sumDone := true }

/-- Both words compared, with no sum check to be made. -/
def pairReady (m : Fin 16) (bad : Bool) (x y : SdmWord) (s : State) : State :=
  putPair m (x.checked bad) (y.checked bad) (pairJudged m bad (putPair m (x.judged bad) (y.judged bad) s))

theorem pairReady_waits {x y : SdmWord} (h : PairWaits m x y s) (hd : s.dsgRun = false) (bad : Bool) :
    Sensed s (pairReady m bad x y s) ∧ PairWaits m (x.checked bad) (y.checked bad) (pairReady m bad x y s) := by
  have hput := putPair_sensed m (x.judged bad) (y.judged bad) s
  obtain ⟨hsensed, hpend⟩ := pairJudged_leaves m bad _ (hput.quiet hd)
  exact ⟨(hput.trans hsensed).trans (putPair_sensed _ _ _ _), ((h.put _ _).of_pend hpend).put _ _⟩

/-- The words of a pair whose checks have been made are delivered one after the other. -/
theorem deliver_pair {x y : SdmWord} (h : PairWaits m x y s) (hx : x.pairDone = true ∧ x.sumDone = true) (hy : y.pairDone = true ∧ y.sumDone = true)
    (hanv : s.anvLive = false) :
    Delivered (bankA m) x s (sdmDeliver (bankA m) s) ∧
      Delivered (bankB m) y (sdmDeliver (bankA m) s) (sdmDeliver (bankB m) (sdmDeliver (bankA m) s)) := by
  have hA := sdmDeliver_delivered h.bankA hx.1 hx.2 (.inl m.isLt)
  have hB : (sdmDeliver (bankA m) s).sdm[bankB m].pend = some y := by rw [hA.others _ (bankA_ne_bankB m).symm, h.bankB]
  exact ⟨hA, sdmDeliver_delivered hB hy.1 hy.2 (.inr (hA.sensed.anvLive.trans hanv))⟩

/-- The two words of a window are compared and delivered. -/
theorem sdmSettle_pair {x y : SdmWord} (h : PairWaits m x y s) (hd : s.dsgRun = false) (hon : s.flag (Fld.SDM_CHK_CTL_EN m) = true)
    (hkey : y.key = x.key) (hdone : x.pairDone = false) (hx : x.tags.getLsbD 3 = false) (hy : y.tags.getLsbD 3 = false) (hsums : s.sumsOff)
    (hanv : s.anvLive = false) :
    sdmSettle s = sdmDeliver (bankB m) (sdmDeliver (bankA m) (pairReady m (beyondTol s m x y) x y s)) := by
  let bad := beyondTol s m x y
  let put := putPair m (x.judged bad) (y.judged bad) s
  let judged := pairJudged m bad put
  let half := putWord (bankA m) (some (x.checked bad)) judged
  let ready := pairReady m bad x y s
  have hput : Sensed s put := putPair_sensed m _ _ s
  obtain ⟨hsensed, hpend⟩ := pairJudged_leaves m bad put (hput.quiet hd)
  have hjudged : PairWaits m (x.judged bad) (y.judged bad) judged := (h.put _ _).of_pend hpend
  have hoff : judged.sumsOff := sumsOff_congr (hput.trans hsensed).regs hsums
  obtain ⟨hsr, hready⟩ := pairReady_waits h hd bad
  obtain ⟨hA, hB⟩ := deliver_pair hready ⟨rfl, rfl⟩ ⟨rfl, rfl⟩ (hsr.anvLive.trans hanv)
  have hpass1 : (List.finRange 32).foldl (fun u j => pairSettle j u) s = judged := by
    have hstepA : pairSettle (bankA m) s = judged := pairSettle_compared h hon hkey hdone hx hy
    have hstepB : pairSettle (bankB m) judged = judged := pairSettle_judged hjudged.bankB rfl
    have hidle (j : Fin 32) (ha : j ≠ bankA m) (hb : j ≠ bankB m) : pairSettle j judged = judged := pairSettle_none (hjudged.others j ha hb)
    rw [foldl_pair m (fun j ha hb => pairSettle_none (h.others j ha hb)) (by rw [hstepA]; exact hidle) (by rw [hstepA, hstepB]; exact hidle),
      hstepA, hstepB]
  have hpass2 : (List.finRange 32).foldl (fun u j => sumSettle j u) judged = ready := by
    have hotherHalf (j : Fin 32) (ha : j ≠ bankA m) : half.sdm[j].pend = judged.sdm[j].pend := by rw [putWord_other _ _ _ _ ha]
    have hstepA : sumSettle (bankA m) judged = half := sumSettle_off hjudged.bankA hoff
    have hstepB : sumSettle (bankB m) half = ready :=
      sumSettle_off ((hotherHalf _ (bankA_ne_bankB m).symm).trans hjudged.bankB) (sumsOff_congr (putWord_sensed _ _ judged).regs hoff)
    rw [foldl_pair m (fun j ha hb => sumSettle_none (hjudged.others j ha hb))
      (by rw [hstepA]; exact fun j ha hb => sumSettle_none ((hotherHalf j ha).trans (hjudged.others j ha hb)))
      (by rw [hstepA, hstepB]; exact fun j ha hb => sumSettle_none (hready.others j ha hb)), hstepA, hstepB]
  have hidle1 (j : Fin 32) (ha : j ≠ bankA m) (hb : j ≠ bankB m) : (sdmDeliver (bankA m) ready).sdm[j].pend = none := by
    rw [hA.others j ha]; exact hready.others j ha hb
  rw [sdmSettle, hpass1, hpass2]
  exact foldl_pair m (fun j ha hb => sdmDeliver_none (hready.others j ha hb)) (fun j ha hb => sdmDeliver_none (hidle1 j ha hb))
    fun j ha hb => sdmDeliver_none (by rw [hB.others j hb]; exact hidle1 j ha hb)

/-! ## The command that completes the second word -/

/-- What the delivery of two compared words tells. -/
structure PairTold (m : Fin 16) (bad : Bool) (s t : State) : Prop where
  sensed : Sensed s t
  pendA : t.sdm[bankA m].pend = none
  pendB : t.sdm[bankB m].pend = none
  wordA : t.f (Fld.SDM_CH_STATUS_WORD (bankA m)) = 1
  wordB : t.f (Fld.SDM_CH_STATUS_WORD (bankB m)) = 1
  failA : (t.rd (.SDM_CH_DATA (bankA m))).getLsbD 24 = bad
  failB : (t.rd (.SDM_CH_DATA (bankB m))).getLsbD 24 = bad
  within : bad = false → t.f (Fld.SDM_CHK_STAT_XRUN m) = 0 ∧ t.f (Fld.SDM_CHK_STAT_XCNT m) = s.f (Fld.SDM_CHK_STAT_XCNT m)
  beyond : bad = true → t.f (Fld.SDM_CHK_STAT_XMIS m) = 1 ∧ t.f (Fld.SDM_CHK_STAT_XCNT m) = min 65535 (s.f (Fld.SDM_CHK_STAT_XCNT m) + 1) ∧
    t.f (Fld.SDM_CHK_STAT_XRUN m) = min 15 (s.f (Fld.SDM_CHK_STAT_XRUN m) + 1) ∧
    (s.f (Fld.SDM_CHK_CTL_XLIM m) = s.f (Fld.SDM_CHK_STAT_XRUN m) + 1 → t.f (Fld.SDM_CHK_STAT_XLIMIT m) = 1 ∧
      ∀ ax : Fin 4, m.val / 3 = ax.val → t.axis ax = axHold)

theorem checked_xfail {x : SdmWord} (h : x.tags.getLsbD 0 = false) (bad : Bool) : (x.checked bad).tags.getLsbD 0 = bad := by
  cases bad
  · exact h
  · exact (BitVec.getLsbD_or (x := x.tags) (y := 1#4)).trans (by rw [h]; rfl)

theorem sdmSettle_pair_told {x y : SdmWord} (h : PairWaits m x y s) (hd : s.dsgRun = false) (hon : s.flag (Fld.SDM_CHK_CTL_EN m) = true)
    (hkey : y.key = x.key) (hdone : x.pairDone = false) (hx : x.tags = 0#4) (hy0 : y.tags.getLsbD 0 = false) (hy3 : y.tags.getLsbD 3 = false)
    (hsums : s.sumsOff) (hanv : s.anvLive = false) : PairTold m (beyondTol s m x y) s (sdmSettle s) := by
  rw [sdmSettle_pair h hd hon hkey hdone (by rw [hx]; decide) hy3 hsums hanv]
  let bad := beyondTol s m x y
  let put := putPair m (x.judged bad) (y.judged bad) s
  let judged := pairJudged m bad put
  let ready := pairReady m bad x y s
  have hput : Sensed s put := putPair_sensed m _ _ s
  have hdp : put.dsgRun = false := hput.quiet hd
  obtain ⟨hsr, hready⟩ := pairReady_waits h hd bad
  obtain ⟨hA, hB⟩ := deliver_pair hready ⟨rfl, rfl⟩ ⟨rfl, rfl⟩ (hsr.anvLive.trans hanv)
  let mid := sdmDeliver (bankA m) ready
  let t := sdmDeliver (bankB m) mid
  have hkeep (r : Reg) (hdata : ∀ k, r ≠ .SDM_CH_DATA k) (hst : ∀ k, r ≠ .SDM_CH_STATUS k) : t.rd r = judged.rd r :=
    (hB.regs r (by simp [hdata, hst])).trans (hA.regs r (by simp [hdata, hst]))
  have hstat : t.rd (.SDM_CHK_STAT m) = judged.rd (.SDM_CHK_STAT m) := hkeep _ (by simp) (by simp)
  have hne := bankA_ne_bankB m
  refine ⟨(hsr.trans hA.sensed).trans hB.sensed, ?_, ?_, ?_, hB.word, ?_, ?_, fun hgood => ?_, fun hbad => ?_⟩
  · rw [hB.others _ hne, hA.channel]; rfl
  · rw [hB.channel]; rfl
  · exact (f_congr _ (hB.regs _ (by simp [Fld.SDM_CH_STATUS_WORD, hne]))).trans hA.word
  · rw [hB.regs _ (by simp [hne]), hA.data]
    exact (deliveredWord_tag _ _ 0 (by decide)).trans (checked_xfail (by rw [hx]; decide) bad)
  · rw [hB.data]
    exact (deliveredWord_tag _ _ 0 (by decide)).trans (checked_xfail hy0 bad)
  · have hj : judged = put.setF (Fld.SDM_CHK_STAT_XRUN m) 0 := if_neg (by simpa using hgood)
    refine ⟨(f_congr _ hstat).trans ?_, (f_congr _ hstat).trans ?_⟩ <;> rw [hj]
    · exact f_setF put _ 0 (by simp [Fld.SDM_CHK_STAT_XRUN])
    · exact f_setF_apart put _ 16 4 0 0 16 (by decide) (by decide)
  · have hj : judged = pairMismatch m put := if_pos hbad
    have hmis : Mismatched m put judged := hj ▸ pairMismatch_mismatched m put hdp
    refine ⟨(f_congr _ hstat).trans hmis.mis, (f_congr _ hstat).trans hmis.cnt, (f_congr _ hstat).trans hmis.run, fun hl => ?_⟩
    obtain ⟨hlimit, hax⟩ := hmis.limit hl
    exact ⟨(f_congr _ hstat).trans hlimit, fun ax h => (axis_congr (hkeep _ (by simp) (by simp)) ax).trans (hax ax h)⟩

end Pair

end Sys2Proof.Machine
end

section
/-! PROOF. O16: the clauses of the obligation. -/

namespace Sys2Proof.Machine

open Sys2Proof

section Clauses

variable {s : State} {k : Fin 32}

/-- A window that ends leaves STUCK_NOW. -/
theorem windowEnded_stuck (k : Fin 32) (at_ : Nat) (s : State) :
    (windowEnded k at_ s).flag (Fld.SDM_CH_STATUS_STUCK_NOW k) = s.flag (Fld.SDM_CH_STATUS_STUCK_NOW k) :=
  congrArg (· != 0) (f_setF_apart ((s.advance at_).modSdm k fun c => { c with win := none }) (.SDM_CH_STATUS k) 9 1 0 10 1 (by decide) (by decide))

/-- What a delivery tells after the window has ended, it tells of the state before. -/
theorem wordTold.of_windowEnded {t : State} {at_ : Nat} {w w0 : Int} {seq : Nat} (h : wordTold (windowEnded k at_ s) t k w w0 seq) :
    wordTold s t k w w0 seq := by
  obtain ⟨hcurrent, hxfail, hsfail, hsat, hinvalid, hseq, hword, hsaturated, hothers, hkeeps, hmem⟩ := h
  rw [windowEnded_stuck, windowEnded_channel] at hinvalid
  exact ⟨hcurrent, hxfail, hsfail, hsat, hinvalid, hseq, hword, hsaturated,
    fun j hj => (hothers j hj).trans (windowEnded_other k at_ s j hj), ((windowEnded_keeps k at_ s).weaken (by simp)).trans hkeeps, hmem⟩

theorem sdmTrim_congr {t : State} (hofs : t.f (Fld.SDM_CH_OFS_OFS k) = s.f (Fld.SDM_CH_OFS_OFS k))
    (hgain : t.f (Fld.SDM_CH_GAIN_GAIN k) = s.f (Fld.SDM_CH_GAIN_GAIN k)) (osr r : Nat) : sdmTrim t k osr r = sdmTrim s k osr r := by
  simp only [sdmTrim, hofs, hgain]

theorem windowEnded_trim (at_ osr r : Nat) : sdmTrim (windowEnded k at_ s) k osr r = sdmTrim s k osr r :=
  sdmTrim_congr ((windowEnded_sensed k at_ s).f rfl) ((windowEnded_sensed k at_ s).f rfl) osr r

/-- A word at a multiple of the OSR (R115). -/
theorem continuousWord_told (hr : s.sdmRuns k) (hdiv : 0 < sdmDiv s k) (hsums : s.sumsOff) (hanv : k.val < 16 ∨ s.anvLive = false)
    (hpend : ∀ j : Fin 32, s.sdm[j].pend = none) (hpair : s.pairOn k = false) (hwin : sdmWin s k = 0) {n : Nat} (hn : sdmOsr s k ∣ n + 1)
    (hfirst : s.sdm[k].enCyc + sdmSpan s k ≤ (n + 1) * sdmDiv s k) (bits : Nat) :
    let w0 := sdmTrim s k (sdmOsr s k) (sinc3 (sdmOsr s k) bits)
    gives (.continuousWord k n bits) s fun t =>
      wordTold s t k (sat24 w0) w0 ((n + 1) / sdmOsr s k) ∧
      t.sdm[k] = { s.sdm[k] with kept := (List.range 8).map fun i => (bits.testBit i, (n - i) * sdmDiv s k) } ∧
      t.time = max s.time ((n + 1) * sdmDiv s k + s.f (Fld.SDM_CH_CTL_DLY k) + 8) := by
  intro w0
  let u := s.advance ((n + 1) * sdmDiv s k + s.f (Fld.SDM_CH_CTL_DLY k) + 8)
  have hu : u.sumsOff := hsums
  obtain ⟨htold, -, hchannel, htime⟩ := sdmComplete_told (s := u) hpend hpair hu hanv ((n + 1) * sdmDiv s k * 16)
    (some ((n + 1) / sdmOsr s k % 16)) (sdmOsr s k) n bits
  obtain ⟨hcurrent, hxfail, hsfail, hsat, hinvalid, hseq, hrest⟩ := htold
  exact ⟨_, exec_continuousWord hr hdiv hwin hn hfirst bits,
    ⟨hcurrent, hxfail, hsfail, hsat, hinvalid, hseq.trans (Nat.mod_mod _ _), hrest⟩, hchannel, htime⟩

/-- The word of an open window (R116). -/
theorem windowWord_told (hdiv : 0 < sdmDiv s k) (hsums : s.sumsOff) (hanv : k.val < 16 ∨ s.anvLive = false)
    (hpend : ∀ j : Fin 32, s.sdm[j].pend = none) (hpair : s.pairOn k = false) {key ts osr : Nat} (hw : s.sdm[k].win = some ⟨key, ts, osr⟩)
    (bits : Nat) :
    let w0 := sdmTrim s k osr (sinc3 osr bits)
    gives (.windowWordComplete k bits) s fun t =>
      wordTold s t k (sat24 w0) w0 s.sdm[k].seq ∧ t.f (Fld.SDM_CH_STATUS_OPEN k) = 0 ∧
      t.sdm[k] = { s.sdm[k] with win := none, seq := (s.sdm[k].seq + 1) % 16,
                                 kept := (List.range 8).map fun i => (bits.testBit i, (ts / sdmDiv s k + 3 * osr - 1 - i) * sdmDiv s k) } ∧
      t.time = max s.time (ts + 3 * osr * sdmDiv s k + s.f (Fld.SDM_CH_CTL_DLY k) + 8) := by
  intro w0
  let at_ := ts + 3 * osr * sdmDiv s k + s.f (Fld.SDM_CH_CTL_DLY k) + 8
  let u := windowEnded k at_ s
  have hu : Sensed (s.advance at_) u := windowEnded_sensed k at_ s
  have hchannel : u.sdm[k] = { s.sdm[k] with win := none } := windowEnded_channel k at_ s
  have hidle (j : Fin 32) : u.sdm[j].pend = none := by
    by_cases hj : j = k
    · rw [hj, hchannel, hpend]
    · rw [windowEnded_other k at_ s j hj, hpend]
  have hdiv' : sdmDiv u k = sdmDiv s k := sdmDiv_congr hu.regs k
  obtain ⟨htold, hopen, hout, htime⟩ := sdmComplete_told hidle ((pairOn_congr hu.regs k).trans hpair) (sumsOff_congr hu.regs hsums)
    (hanv.imp_right hu.anvLive.trans) key none osr (ts / sdmDiv s k + 3 * osr - 1) bits
  rw [windowEnded_trim, hchannel] at htold
  rw [hchannel, hdiv'] at hout
  exact ⟨_, exec_windowWordComplete hw hdiv bits, htold.of_windowEnded,
    hopen.trans (f_setF _ (Fld.SDM_CH_STATUS_OPEN k) 0 (show 9 + 1 ≤ 32 by decide)), hout, htime.trans hu.time⟩

/-- What a comparison tells after operations that leave the pair's counters, it tells of the state before them. -/
theorem PairTold.of_sensed {m : Fin 16} {bad : Bool} {s u t : State} (h : PairTold m bad u t) (hu : Sensed s u)
    (hstat : u.rd (.SDM_CHK_STAT m) = s.rd (.SDM_CHK_STAT m)) : PairTold m bad s t := by
  have hcnt : u.f (Fld.SDM_CHK_STAT_XCNT m) = s.f (Fld.SDM_CHK_STAT_XCNT m) := f_congr _ hstat
  have hrun : u.f (Fld.SDM_CHK_STAT_XRUN m) = s.f (Fld.SDM_CHK_STAT_XRUN m) := f_congr _ hstat
  have hlim : u.f (Fld.SDM_CHK_CTL_XLIM m) = s.f (Fld.SDM_CHK_CTL_XLIM m) := hu.f rfl
  have hwithin := h.within
  have hbeyond := h.beyond
  rw [hcnt] at hwithin
  rw [hcnt, hrun, hlim] at hbeyond
  exact { h with sensed := hu.trans h.sensed, within := hwithin, beyond := hbeyond }

/-- The second word of a pair's window (R118, R119, R121). -/
theorem pairWord_told {m : Fin 16} (hd : s.dsgRun = false) (hdiv : 0 < sdmDiv s (bankB m)) (hsums : s.sumsOff) (hanv : s.anvLive = false)
    (hon : s.flag (Fld.SDM_CHK_CTL_EN m) = true) {key ts osr : Nat} {x : SdmWord} (hw : s.sdm[bankB m].win = some ⟨key, ts, osr⟩)
    (hx : s.sdm[bankA m].pend = some x) (hkey : x.key = key) (hdone : x.pairDone = false) (htags : x.tags = 0#4)
    (hothers : ∀ j : Fin 32, j ≠ bankA m → s.sdm[j].pend = none)
    (hvalid : ¬ (s.flag (Fld.SDM_CH_STATUS_STUCK_NOW (bankB m)) = true ∨ s.sdm[bankB m].halted = true)) (bits : Nat) :
    let w := sat24 (sdmTrim s (bankB m) osr (sinc3 osr bits))
    let at_ := ts + 3 * osr * sdmDiv s (bankB m) + s.f (Fld.SDM_CH_CTL_DLY (bankB m)) + 8
    gives (.windowWordComplete (bankB m) bits) s fun t =>
      PairTold m (decide (s.f (Fld.SDM_CHK_CTL_XTOL m) * 256 < (x.w - w).natAbs)) (s.advance at_) t := by
  intro w at_
  let k := bankB m
  have hne := bankA_ne_bankB m
  let u := windowEnded k at_ s
  let y := newWord u k key none osr bits
  let v := wordPut k (ts / sdmDiv s k + 3 * osr - 1) bits y u
  have hu : Sensed (s.advance at_) u := windowEnded_sensed k at_ s
  have huv : Sensed u v := (Sensed.modSdm u k _).trans (putWord_sensed k _ _)
  have hv := hu.trans huv
  have hpend : u.sdm[k].pend = none := by rw [windowEnded_channel, hothers k hne.symm]
  have hbeside (j : Fin 32) (hj : j ≠ k) : v.sdm[j] = s.sdm[j] := (wordPut_other _ _ _ _ u j hj).trans (windowEnded_other k at_ s j hj)
  have hwaits : PairWaits m x y v := {
    bankA := by rw [hbeside _ hne, hx]
    bankB := by rw [wordPut_channel]
    others := fun j ha hb => by rw [hbeside j hb, hothers j ha] }
  have hexec : exec (.windowWordComplete k bits) s = .next (sdmSettle v) :=
    (exec_windowWordComplete hw hdiv bits).trans (congrArg Host.Outcome.next (sdmComplete_eq hpend key none osr _ bits))
  obtain ⟨hxfail, -, -, hinvalid⟩ := newWord_tags u k key none osr bits
  have hinv : y.tags.getLsbD 3 = false := by
    rw [hinvalid, windowEnded_stuck, windowEnded_channel]
    simpa using hvalid
  have hword : y.w = w := congrArg sat24 (windowEnded_trim at_ osr _)
  have hbad : beyondTol v m x y = decide (s.f (Fld.SDM_CHK_CTL_XTOL m) * 256 < (x.w - w).natAbs) := by
    rw [beyondTol, hword, hv.f rfl]; rfl
  have htold := sdmSettle_pair_told hwaits (hv.quiet hd) ((hv.flag rfl).trans hon) hkey.symm hdone htags hxfail hinv (sumsOff_congr hv.regs hsums)
    (hv.anvLive.trans hanv)
  have hstat : v.rd (.SDM_CHK_STAT m) = s.rd (.SDM_CHK_STAT m) := windowEnded_keeps k at_ s _ (by simp)
  exact ⟨_, hexec, hbad ▸ htold.of_sensed hv hstat⟩

end Clauses

/-- Settles O16: a word alone passes every check and is delivered as it completes, whether it ends a period of the continuous mode or a
window; the second word of a pair is compared with the first, and both are delivered one after the other. -/
theorem sensingWordsAreTrimmedCheckedAndDelivered : Obligations.SensingWordsAreTrimmedCheckedAndDelivered := by
  unfold Obligations.SensingWordsAreTrimmedCheckedAndDelivered
  intro s k bits e hd hon hck he hdiv hsums hanv osr r kept n0 w0 w invalid delivered
  have hr : s.sdmRuns k := ⟨hon, hck⟩
  have htrim : sdmTrim s k osr (sinc3 osr bits) = w0 := by
    rw [sinc3_eq osr bits (by positivity)]
    exact sdmTrim_eq s k he r
  have hw : sat24 w0 = w := rfl
  refine ⟨fun hpend hpair => ⟨fun n hwin hosr hn hfirst => ?_, fun key ts hopen => ?_⟩, ?_⟩
  · have hosr' : sdmOsr s k = osr := by rw [sdmOsr, hosr]
    have htold := continuousWord_told hr hdiv hsums hanv hpend hpair hwin (hosr'.symm ▸ hn) (by rwa [sdmSpan, hosr']) bits
    rw [hosr', htrim] at htold
    exact htold
  · have htold := windowWord_told hdiv hsums hanv hpend hpair hopen bits
    rw [htrim] at htold
    exact htold
  · intro m a key ts x ha hk hen hopen hx hkey hdone htags hothers hvalid bad run
    obtain rfl : a = bankA m := Fin.ext ha
    obtain rfl : k = bankB m := Fin.ext hk
    obtain ⟨t, hexec, htold⟩ := pairWord_told hd hdiv hsums (hanv.resolve_left (by omega)) hen hopen hx hkey hdone htags hothers hvalid bits
    rw [htrim] at htold
    exact ⟨t, hexec, htold.pendA, htold.pendB, htold.wordA, htold.wordB, htold.failA, htold.failB, fun hgood => htold.within (decide_eq_false hgood),
      fun hbad => htold.beyond (decide_eq_true hbad), htold.sensed.faultFrame⟩

end Sys2Proof.Machine
end
